-- ==== Sys2Proof/Word.lean ====
section
/-! DEFINITION. The word types of the block and their plainest arithmetic. -/
namespace Sys2Proof

abbrev Byte := BitVec 8
abbrev U16 := BitVec 16
abbrev U32 := BitVec 32
abbrev U64 := BitVec 64

/-- The two channels of the module (01 R17). -/
inductive Chan where
  | a | b
  deriving DecidableEq, Repr

/-- The other channel. -/
def Chan.twin : Chan → Chan
  | .a => .b
  | .b => .a

/-- A range limit on an integer, from both sides. -/
def clampInt (lo hi x : Int) : Int := if x < lo then lo else if hi < x then hi else x

end Sys2Proof
end

