-- ==== Sys2Proof/Syntax.lean ====
section
/-! DEFINITION. The commands the block takes: one constructor per row of the table, with what each carries. A
command of one channel names it. -/
namespace Sys2Proof

/-- An access path to a dictionary or a function of the host bridge (21 R617, 15 R451). -/
inductive Path where
  | pf0 | pf1 | pf2
  | vf (n : Nat)
  | svc (ch : Chan) (port : Nat)
  deriving DecidableEq, Repr

/-- A sample of the shared supply stage: inputs PA and PB in mV (negative: reversed) and the Lining bus in mV. -/
structure SupSample where
  pa : Int
  pb : Int
  lining : Nat
  deriving DecidableEq, Repr

/-- A VLAN tag. -/
structure VTag where
  pcp : Nat
  dei : Bool
  vid : Nat
  deriving DecidableEq, Repr

/-- The redundancy tag or trailer of a frame (14 R437, R438). -/
inductive Redun where
  | none
  | prp (seq : Nat) (lan : Nat)
  | hsr (seq : Nat)
  deriving DecidableEq, Repr

/-- The security extension of a frame (03 R91, R92): key identifier, algorithm, tag, and the octets it covers. -/
structure Sec where
  keyId : U32
  alg : Nat
  tag : List Byte
  auth : List Byte
  deriving DecidableEq, Repr

/-- One ASDU of an SV frame (03 R82 to R86). -/
structure Asdu where
  svID : List Byte
  smpCnt : Nat
  confRev : U32
  smpSynch : Nat
  pairs : List (U32 × U32)
  deriving DecidableEq, Repr

/-- A GOOSE member on the wire: type code of R313 or R324, and its value. -/
structure GVal where
  ty : Nat
  v : U64
  deriving DecidableEq, Repr

/-- A GOOSE message (10 R314, R325). -/
structure GooseMsg where
  appid : Nat
  gocbRef : List Byte
  datSet : List Byte
  goID : List Byte
  t : U64
  timeQ : Byte
  stNum : U32
  sqNum : U32
  talMs : Nat
  confRev : U32
  ndsCom : Bool
  test : Bool
  sim : Bool
  members : List GVal
  deriving DecidableEq, Repr

/-- A PTP message (13 R399 to R405). Times in ns, corrections in 2⁻¹⁶ ns. -/
structure PtpMsg where
  msgType : Nat
  domain : Nat
  seqId : Nat
  srcClock : U64
  srcPort : Nat
  correction : Int
  twoStep : Bool
  origin : Nat
  reqClock : U64
  reqPort : Nat
  priority1 : Nat
  clockClass : Nat
  clockAccuracy : Nat
  variance : Nat
  priority2 : Nat
  gmId : U64
  steps : Nat
  utcOffset : Int
  utcValid : Bool
  leapKnown : Bool
  deriving DecidableEq, Repr

/-- What a frame carries. -/
inductive FrameBody where
  | sv (appid : Nat) (simulate : Bool) (lenOk : Bool) (asdus : List Asdu)
  | goose (g : GooseMsg)
  | ptp (m : PtpMsg)
  | supervision (mac : BitVec 48) (pubs : List (BitVec 48)) (seq : Nat)
  | pause (quanta : Nat)
  | other (ethertype : Nat) (payload : List Byte)
  deriving DecidableEq, Repr

/-- An Ethernet frame. `good` is false where the FCS, a symbol or the length is bad. `head` is its first bytes. -/
structure Frame where
  dst : BitVec 48
  src : BitVec 48
  vlan : Option VTag
  len : Nat
  good : Bool
  red : Redun
  sec : Option Sec
  body : FrameBody
  head : List Byte
  deriving DecidableEq, Repr

/-- A CAN frame (17). -/
structure CanFrame where
  id : Nat
  ext : Bool
  fd : Bool
  brs : Bool
  rtr : Bool
  esi : Bool
  data : List Byte
  deriving DecidableEq, Repr

/-- A transmit descriptor chain of one frame as the host MAC reads it (15 R466 to R475). -/
structure TxFetch where
  descs : List (List Byte)
  frame : Frame
  readOk : Bool
  deriving DecidableEq, Repr

/-- The receive descriptors that the host has posted for a frame, as the host MAC reads them: their buffer addresses, and
whether the read succeeded (15 R469, R478). -/
structure RxFetch where
  bufs : List U64
  readOk : Bool
  deriving DecidableEq, Repr

/-- An ECC error that a command's accesses find: the memory, and the place of a word that could not be corrected (01 R40, R41). -/
structure MemErr where
  memory : Nat
  bad : Option Nat
  deriving DecidableEq, Repr

/-- The operand of a host atomic, and whether a read by the module of its word falls into the same cycle (07 R220, R223). -/
structure AtomicArg where
  v : U64
  hit : Bool
  deriving DecidableEq, Repr

/-- How a frame arrives: how long ago its SFD was stamped, in ns, the fragments it came in (14 R432), and the errors its accesses find. -/
structure Arrival where
  agoNs : Nat
  fragments : Nat
  errs : List MemErr
  deriving DecidableEq, Repr

/-- A channel's turn of a unit, and the errors that its accesses find. -/
structure Turn where
  ch : Chan
  errs : List MemErr
  deriving DecidableEq, Repr

/-- An instance whose firing does not complete, and whether a misaligned atomic of it is why (07 R224; 08 R270). -/
structure StuckFiring where
  inst : Nat
  misaligned : Bool
  deriving DecidableEq, Repr

/-- A restore request: sleeve and argument (16 R489, R499). -/
structure RestoreReq where
  sleeve : Nat
  arg : Nat
  deriving DecidableEq, Repr

/-- An agent's read of a CAN buffer, or of the next one of a port, and whether its burst stalls (17 R516, R518). -/
structure CanRead where
  num : Nat
  stall : Bool
  deriving DecidableEq, Repr

/-- The commands of the block: those through an access path, then the others, each in the order of the table. -/
inductive Instr where
  | modeRequestHold (p : Path)
  | modeRequestCommission (p : Path)
  | modeRequestOperate (p : Path)
  | modeRequestRestart (p : Path)
  | forceRestart (p : Path)
  | activateConfigurationSlot (p : Path) (slot : Nat)
  | commitFirmwareSlot (p : Path) (slot : Nat)
  | restoreAll (p : Path) (v : U32)
  | restoreCommunication (p : Path) (v : U32)
  | echo (p : Path) (tag : U32) (body : List Byte)
  | dictRead (p : Path) (tag : U32) (index sub off maxLen : Nat)
  | dictWrite (p : Path) (tag : U32) (index sub : Nat) (first last : Bool) (off total : Nat) (data : List Byte)
  | dictDescribe (p : Path) (tag : U32) (index sub : Nat)
  | dictAbort (p : Path) (tag : U32) (index sub : Nat)
  | writeSessionTimeout (ch : Chan) (p : Path) (key : Nat)
  | readCopyLapse (ch : Chan) (p : Path)
  | mailboxResponse (p : Path)
  | hostAtomicSwap (p : Path) (off size : Nat) (x : AtomicArg)
  | hostAtomicFetchadd (p : Path) (off size : Nat) (x : AtomicArg)
  | hostAtomicCas (p : Path) (off size : Nat) (cmp v : U64)
  | hostWindowRead (p : Path) (off len : Nat) (hit : Option Nat)
  | hostWindowWrite (p : Path) (off : Nat) (data : List Byte) (hit : Option Nat)
  | hwstatW1c (p : Path) (mask : U32) (again : Bool)
  | fstatW1c (p : Path) (mask : U32)
  | evpendW1c (p : Path) (grp : Nat) (mask : U32) (raised : U32)
  | ringstatW1c (p : Path) (mask : U32)
  | registerWrite (p : Path) (off size : Nat) (v : U64)
  | functionLevelReset (p : Path)
  | txEnable (p : Path)
  | txDisable (p : Path)
  | rxEnable (p : Path)
  | rxDisable (p : Path)
  | txtailWrite (p : Path) (v : Nat)
  | rxtailWrite (p : Path) (v : Nat)
  | hostTxFrame (p : Path) (d : TxFetch)
  | ringInterrupt (p : Path) (rx : Bool)
  | applyOnlineChange (p : Path) (sleeve : Nat)
  | lseRestart (p : Path) (sleeve : Nat)
  | forceSet (p : Path) (sleeve : Nat) (ident v v1 v2 : U32)
  | forceRelease (p : Path) (sleeve : Nat) (ident : U32)
  | sleeveCreate (p : Path) (sleeve : Nat)
  | sleeveDelete (p : Path) (sleeve : Nat)
  | sleeveFreeze (p : Path) (sleeve : Nat)
  | sleeveThaw (p : Path) (sleeve : Nat)
  | sleeveSave (p : Path) (sleeve : Nat)
  | sleeveRestore (p : Path) (r : RestoreReq)
  | sleeveBehaviour (p : Path) (sleeve beh : Nat)
  | pgArm (p : Path) (g : Nat)
  | pgDisarm (p : Path) (g : Nat)
  | recoveryRequest (p : Path) (port : Nat)
  | internalLoopback (p : Path) (port : Nat) (on : Bool)
  | manualTrigger (p : Path) (d : Nat)
  | definitionArm (p : Path) (d : Nat)
  | definitionDisarm (p : Path) (d : Nat)
  | deleteStoreRecord (p : Path) (rec : Nat)
  | comtradeExport (p : Path)
  | importAnchor (p : Path) (body : List Byte)
  | importWrapped (p : Path) (body : List Byte)
  | keyInvalidate (p : Path) (body : List Byte)
  | keyDerive (p : Path) (body : List Byte)
  | keyReDerive (p : Path) (body : List Byte)
  | attestationRequest (p : Path) (body : List Byte)
  | reProvisioning (p : Path) (body : List Byte)
  | certificateInstall (p : Path) (body : List Byte)
  | snapshotSchedule (p : Path) (t : U64)
  | armingCodeRead (p : Path)
  | injectorArm (p : Path) (i : Nat) (code : U32)
  | injectorDisarm (p : Path) (i : Nat)
  | vinApplied (s : SupSample)
  | pwarnAsserted (s : SupSample)
  | pwarnCleared (s : SupSample) (dipUs : Nat)
  | liningBusBelowReset (s : SupSample)
  | resetReleased (s : SupSample)
  | supplyOff (s : SupSample)
  | holdupConnect (s : SupSample)
  | holdupDisconnect (s : SupSample)
  | liningCharged (s : SupSample) (capUF : Nat)
  | liningLeavesCharged (s : SupSample)
  | fuseOpen (ch : Chan) (mA us : Nat)
  | temperatureCrossing (ch : Chan) (centi : Int)
  | histogramSample (ch : Chan) (q : Nat) (milli : Int)
  | mantleMeshBreach (ch : Chan)
  | tamperNAsserted (ch : Chan) (ns : Nat)
  | clockMonitorFault (ch : Chan) (kind : Nat)
  | runtimeRestart (ch : Chan)
  | bootB1Complete (ch : Chan) (dukOk : Bool) (rolePrefN : Bool) (slotId : Nat) (rom : List Byte)
  | bootB2Complete (ch : Chan)
  | bootB3Complete (ch : Chan) (measures : List (List Byte))
  | bootB4Complete (ch : Chan) (failedTiles : List Nat) (failedBank : Option Nat) (clockFault lanesUp : Bool) (canFail : List Nat)
  | bootB5Complete (ch : Chan)
  | bootB6Complete (ch : Chan)
  | bootB7Complete (ch : Chan) (durationMs : Nat)
  | loneChannelWaitExpiry (ch : Chan)
  | graphStart (ch : Chan)
  | warmUpWindowExpiry (ch : Chan)
  | roleArbitrationGrant (ch : Chan)
  | holdCtlContention (ch : Chan)
  | twinAbsent (ch : Chan)
  | twinHoldCtlDeasserted (ch : Chan)
  | cuffOpen (ch : Chan)
  | takeoverSupervision (ch : Chan)
  | finalTimeout (ch : Chan)
  | nonPostedTakeoverAbort (ch : Chan) (f tag : Nat)
  | hostCommandRecord (ch : Chan) (ok : Bool)
  | sleeveLifecycleRecord (ch : Chan) (ok : Bool)
  | keySlotChangeRecord (ch : Chan) (ok : Bool)
  | confirmationRecord (ch : Chan) (ok : Bool)
  | canOutcomeRecord (ch : Chan) (ok : Bool)
  | finalRecord (ch : Chan) (ok : Bool)
  | digestRecord (ch : Chan) (ok : Bool)
  | digestUnmatched (ch : Chan)
  | alignmentRecord (ch : Chan) (ok : Bool) (offsetPs : Int)
  | retainDigestRecord (ch : Chan) (ok : Bool)
  | mirrorSetRecord (ch : Chan) (ok : Bool)
  | idleRecordSend (ch : Chan)
  | lanesDown (ch : Chan)
  | lanesTrained (ch : Chan)
  | selfDiagnosisComplete (ch : Chan) (own twin : List Nat)
  | realignmentBoundary (ch : Chan) (sleeve : Nat)
  | resyncStageComplete (ch : Chan)
  | resyncStageTimeout (ch : Chan)
  | transferBoundary (ch : Chan)
  | convergenceReached (ch : Chan)
  | modeSwitchBoundary (ch : Chan)
  | hbusyPulseEnd (ch : Chan)
  | perstAsserted
  | linkTrained (speed width : Nat)
  | hostRxFrame (ch : Chan) (r : Nat) (d : RxFetch)
  | frameReceived (ch : Chan) (port : Nat) (f : Frame) (x : Arrival)
  | egressFrameStart (ch : Chan) (port : Nat)
  | publisherHandover (ch : Chan)
  | pauseReceived (ch : Chan) (port quanta : Nat)
  | pauseExpiry (ch : Chan) (port : Nat)
  | portDown (ch : Chan) (port : Nat)
  | portUp (ch : Chan) (port : Nat)
  | preemptionVerifyComplete (ch : Chan) (port : Nat) (ok : Bool)
  | lifeCheckInterval (ch : Chan) (grp : Nat)
  | nodeForget (ch : Chan) (grp : Nat) (mac : BitVec 48)
  | entryForget (ch : Chan) (grp : Nat) (mac : BitVec 48) (seq : Nat)
  | learnedEntryAgeOut (ch : Chan) (mac : BitVec 48) (vid : Nat)
  | ingestFrameService (x : Turn)
  | slotCloseMissing (ch : Chan) (stream : Nat)
  | heldSlotWrite (ch : Chan) (stream : Nat)
  | subscriptionChangeApply (ch : Chan) (stream : Nat)
  | pathCompute (ch : Chan) (path : Nat)
  | conditioningChangeApply (ch : Chan) (path : Nat)
  | hostWriteEffect (ch : Chan) (index sub : Nat)
  | sampleBoundary (ch : Chan) (cls : Nat)
  | firingRelease (ch : Chan) (sleeve inst : Nat)
  | heldEntryGranted (ch : Chan) (level : Nat)
  | firingDispatch (ch : Chan) (tile : Nat)
  | firingResume (ch : Chan) (tile : Nat)
  | firingNoCompletion (ch : Chan) (sleeve : Nat) (x : StuckFiring)
  | opPhasor (ch : Chan) (sleeve inst : Nat)
  | opSeq (ch : Chan) (sleeve inst : Nat)
  | opOci (ch : Chan) (sleeve inst : Nat)
  | opOct (ch : Chan) (sleeve inst : Nat)
  | opDir (ch : Chan) (sleeve inst : Nat)
  | opDiff (ch : Chan) (sleeve inst : Nat)
  | opUvov (ch : Chan) (sleeve inst : Nat)
  | opFreq (ch : Chan) (sleeve inst : Nat)
  | opRpw (ch : Chan) (sleeve inst : Nat)
  | opSync (ch : Chan) (sleeve inst : Nat)
  | opBf (ch : Chan) (sleeve inst : Nat)
  | opTherm (ch : Chan) (sleeve inst : Nat)
  | opIef (ch : Chan) (sleeve inst : Nat)
  | opDcoc (ch : Chan) (sleeve inst : Nat)
  | opDcdi (ch : Chan) (sleeve inst : Nat)
  | opDcsi (ch : Chan) (sleeve inst : Nat)
  | opSum (ch : Chan) (sleeve inst : Nat)
  | opScale (ch : Chan) (sleeve inst : Nat)
  | opDelay (ch : Chan) (sleeve inst : Nat)
  | opCmp (ch : Chan) (sleeve inst : Nat)
  | opHold (ch : Chan) (sleeve inst : Nat)
  | opTrip (ch : Chan) (sleeve inst : Nat)
  | opPub (ch : Chan) (sleeve inst : Nat)
  | opCap (ch : Chan) (sleeve inst : Nat)
  | publisherFrameBuild (ch : Chan)
  | firstGooseFrame (ch : Chan) (pub : Nat)
  | svSendDeadline (ch : Chan) (pub : Nat)
  | tick (ch : Chan)
  | retxDue (ch : Chan) (pub : Nat)
  | horizonDue (ch : Chan) (sleeve inst : Nat)
  | delayFullRecheck (ch : Chan)
  | gooseMessageReceived (ch : Chan) (sub : Nat)
  | talExpiry (ch : Chan) (sub : Nat)
  | gooseStateDeliver (ch : Chan) (sub : Nat)
  | lseCycleBoundary (ch : Chan)
  | lseOverrunCeiling (ch : Chan) (sleeve : Nat)
  | lseNop (ch : Chan) (sleeve opnd : Nat)
  | lseLd (ch : Chan) (sleeve opnd : Nat)
  | lseLdn (ch : Chan) (sleeve opnd : Nat)
  | lseAnd (ch : Chan) (sleeve opnd : Nat)
  | lseAndn (ch : Chan) (sleeve opnd : Nat)
  | lseOr (ch : Chan) (sleeve opnd : Nat)
  | lseOrn (ch : Chan) (sleeve opnd : Nat)
  | lseXor (ch : Chan) (sleeve opnd : Nat)
  | lseNot (ch : Chan) (sleeve opnd : Nat)
  | lseSt (ch : Chan) (sleeve opnd : Nat)
  | lseStn (ch : Chan) (sleeve opnd : Nat)
  | lseSet (ch : Chan) (sleeve opnd : Nat)
  | lseRst (ch : Chan) (sleeve opnd : Nat)
  | lseRe (ch : Chan) (sleeve opnd : Nat)
  | lseFe (ch : Chan) (sleeve opnd : Nat)
  | lseApush (ch : Chan) (sleeve opnd : Nat)
  | lseOpush (ch : Chan) (sleeve opnd : Nat)
  | lsePop (ch : Chan) (sleeve opnd : Nat)
  | lseLdw (ch : Chan) (sleeve opnd : Nat)
  | lseLdi (ch : Chan) (sleeve opnd : Nat)
  | lseStw (ch : Chan) (sleeve opnd : Nat)
  | lseAddw (ch : Chan) (sleeve opnd : Nat)
  | lseSubw (ch : Chan) (sleeve opnd : Nat)
  | lseMulw (ch : Chan) (sleeve opnd : Nat)
  | lseCeq (ch : Chan) (sleeve opnd : Nat)
  | lseCgt (ch : Chan) (sleeve opnd : Nat)
  | lseClt (ch : Chan) (sleeve opnd : Nat)
  | lseMovc (ch : Chan) (sleeve opnd : Nat)
  | lseTon (ch : Chan) (sleeve opnd : Nat)
  | lseTof (ch : Chan) (sleeve opnd : Nat)
  | lseTp (ch : Chan) (sleeve opnd : Nat)
  | lseCtu (ch : Chan) (sleeve opnd : Nat)
  | lseCtd (ch : Chan) (sleeve opnd : Nat)
  | lseCrst (ch : Chan) (sleeve opnd : Nat)
  | lseCldp (ch : Chan) (sleeve opnd : Nat)
  | lseJmp (ch : Chan) (sleeve opnd : Nat)
  | lseJc (ch : Chan) (sleeve opnd : Nat)
  | lseJcn (ch : Chan) (sleeve opnd : Nat)
  | lseEnd (ch : Chan) (sleeve opnd : Nat)
  | lseQv (ch : Chan) (sleeve opnd : Nat)
  | lseQg (ch : Chan) (sleeve opnd : Nat)
  | onlineChangeSwap (ch : Chan) (sleeve : Nat)
  | forceEffect (ch : Chan) (sleeve : Nat)
  | retainInterval (ch : Chan) (sleeve : Nat)
  | retainFlushRetry (ch : Chan) (sleeve : Nat)
  | sleeveStartBoundary (ch : Chan) (sleeve : Nat)
  | freezeBoundary (ch : Chan) (sleeve : Nat)
  | thawBoundary (ch : Chan) (sleeve : Nat)
  | deletionBoundary (ch : Chan) (sleeve : Nat)
  | behaviourBoundary (ch : Chan) (sleeve : Nat)
  | saveBlobReady (ch : Chan) (sleeve : Nat)
  | moveBegin (ch : Chan) (sleeve inst tile : Nat)
  | moveFinalTransfer (ch : Chan) (sleeve inst : Nat)
  | moveBindingSwitch (ch : Chan) (sleeve inst : Nat)
  | tileSelftestPass (ch : Chan) (tile : Nat) (ok : Bool)
  | scrubPass (ch : Chan) (memory : Nat) (corrected : Nat) (bad : List Nat)
  | bankWakeComplete (ch : Chan) (bank : Nat)
  | bankRetentionEntry (ch : Chan) (bank : Nat)
  | syncReceived (ch : Chan) (port : Nat) (m : PtpMsg) (rxNs : Nat)
  | followUpReceived (ch : Chan) (port : Nat) (m : PtpMsg)
  | followUpMatchTimeout (ch : Chan) (port : Nat)
  | announceReceived (ch : Chan) (port : Nat) (m : PtpMsg)
  | announceReceiptTimeout (ch : Chan)
  | pdelayReqReceived (ch : Chan) (port : Nat) (m : PtpMsg) (rxNs : Nat)
  | pdelayRespReceived (ch : Chan) (port : Nat) (m : PtpMsg) (rxNs : Nat)
  | pdelayInterval (ch : Chan) (port : Nat)
  | holdoverLimit (ch : Chan)
  | pulseActiveEdge (ch : Chan) (g : Nat)
  | pulseInactiveEdge (ch : Chan) (g : Nat)
  | canFrameReceived (ch : Chan) (port : Nat) (f : CanFrame)
  | canSourceCopy (ch : Chan) (buf : CanRead)
  | canLockTimeout (ch : Chan) (buf : Nat)
  | canAttemptStart (ch : Chan) (port : CanRead)
  | canAttemptEnd (ch : Chan) (port : Nat) (outcome : Nat)
  | busOffRecovery (ch : Chan) (port : Nat)
  | canPortReinit (ch : Chan) (port : Nat)
  | usdoDownload (ch : Chan) (port index sub : Nat) (first last : Bool) (total : Nat) (data : List Byte)
  | usdoUpload (ch : Chan) (port index sub off maxLen : Nat)
  | usdoTimeout (ch : Chan) (port : Nat)
  | nmtCommand (ch : Chan) (port code : Nat)
  | heartbeat (ch : Chan) (port : Nat)
  | pleatRowCapture (x : Turn) (d : Nat)
  | rearmComplete (ch : Chan) (d : Nat)
  | manualTriggerInstant (ch : Chan)
  | storeWriteStart (ch : Chan)
  | storeWriteComplete (ch : Chan)
  | keyCommandEffect (ch : Chan)
  | keyCommitRetry (ch : Chan)
  | attestationStatementReady (ch : Chan)
  | ledgerBatch (ch : Chan)
  | ledgerBatchRetry (ch : Chan)
  | snapshotLatch (ch : Chan)
  | snapshotCopyComplete (ch : Chan)
  | injectorDurationExpiry (ch : Chan) (i : Nat)
  | seamAliveResumed (ch : Chan)
  | twinHoldCtlAsserted (ch : Chan)
  | hostBridgeFailure
  | resyncImageReceived (ch : Chan)
  | syncInterval (ch : Chan)
  | announceInterval (ch : Chan)
  | canReceiveError (ch : Chan) (port : Nat) (dominant : Bool)
  | vfEnableWrite (enable : Bool) (n : Nat)
  | vinDipInClearingWindow (s : SupSample)
  deriving DecidableEq, Repr

end Sys2Proof
end

