-- ==== Sys2Proof/Decode.lean ====
section
/-! DEFINITION. The commands that words spell: the table gives no row any bits, so no word spells a command. -/
namespace Sys2Proof

/-- The command that `nbits` bits of the word `w` spell by the table: none, for every word. -/
def decodeTableWord (_nbits _w : Nat) : Option Instr := none

end Sys2Proof
end

