-- ==== Sys2Proof/Config.lean ====
section
/-! DEFINITION. What one module fixes and the spec leaves open: factory values, and the free values, which have
no body, so that no proof can depend on what they are. -/
namespace Sys2Proof.Config

/-- A value the spec leaves open, by number of the draw (log entry 2). -/
opaque freeWord : Nat → BitVec 64

/-- A table of open values, by kind and index (log entry 2). -/
opaque freeTable : Nat → Nat → BitVec 64

/-- How far, in units of the last place, the compiled order of a sequence of binary32 operations takes a result
from the model's own order (09 R281; log entry 3). -/
opaque orderUlps : Nat → List (BitVec 32) → Int

/-- The transcendental functions the operators use, in binary32 (09; log entry 4). -/
opaque powF : BitVec 32 → BitVec 32 → BitVec 32
opaque atan2F : BitVec 32 → BitVec 32 → BitVec 32
opaque sinF : BitVec 32 → BitVec 32
opaque cosF : BitVec 32 → BitVec 32
opaque expF : BitVec 32 → BitVec 32

/-- Cryptography of the outside standards the spec names (19; log entry 5). -/
opaque sha384 : List Byte → BitVec 384
opaque hmacTag : List Byte → List Byte → BitVec 256
opaque gmacTag : List Byte → List Byte → BitVec 128
opaque ecdsaVerify : List Byte → List Byte → List Byte → Bool
opaque ecdsaSign : List Byte → List Byte → List Byte
opaque keyUnwrap : List Byte → List Byte → Option (List Byte)
opaque hmac384 : List Byte → List Byte → BitVec 384
opaque sealBytes : List Byte → List Byte → List Byte
opaque unsealBytes : List Byte → List Byte → Option (List Byte)
opaque certNames : List Byte → List Byte → Bool
opaque certSigned : List Byte → List Byte → Bool
opaque ecdhShared : List Byte → List Byte → List Byte

/-- Keys and sealing of save blobs (16 R497; 19 R588; log entry 29): the private key drawn for an ephemeral point of even y,
the point of an x-coordinate with even y, AES-256-GCM by key, nonce and additional data. -/
opaque ephemeralKey : BitVec 64 → List Byte
opaque pointEven : List Byte → List Byte
opaque gcmSeal : List Byte → List Byte → List Byte → List Byte → List Byte
opaque gcmOpen : List Byte → List Byte → List Byte → List Byte → Option (List Byte)

/-- The create package of a sleeve of a configuration image, which the module itself makes (16 R497; log entry 29). -/
opaque packageOf : List Byte → Nat → List Byte

/-- The body of a Journal record, by its sequence number, in the categories whose body the spec does not give (20 R608; log entry 56). -/
opaque journalBody : Chan → BitVec 64 → List Byte

/-- Factory values of a module (00 R9, 13 R397, 21 R635; log entry 6). -/
opaque serialNumber : U32
opaque vendorId : U32
opaque provisioningKey : List Byte
opaque issuingKey : List Byte
opaque deviceKey : Chan → List Byte
opaque factoryNonce : Chan → BitVec 256
opaque factoryIdentity : Chan → BitVec 384
opaque factoryCertificate : Chan → List Byte
opaque factoryGeneration : Chan → U32
opaque factoryFirmware : Nat → List Byte
opaque ingressConst : Chan → Nat → BitVec 32
opaque egressConst : Chan → Nat → BitVec 32
opaque moduleMac : BitVec 48
opaque issueOrder : Nat
opaque pciVendor : BitVec 16

/-- The edition a firmware image names, whose format the spec leaves to Quinium (02 R69, 21 R632; log entry 6). -/
opaque editionOf : List Byte → Nat × Nat
opaque firmwareSigned : List Byte → Bool

/-- The order code: wide baseplate range (MCM-2410-X) or standard (MCM-2410-S) (00 R5, R6). -/
opaque wideRange : Bool

end Sys2Proof.Config
end

