-- ==== Sys2Proof/Machine/Maps.lean ====
section
/-! DEFINITION. Sparse tables: lists of key and value, keys strictly rising. Every numbered collection of the
block (streams, paths, slots, counters, flash bytes) is one of these. -/
namespace Sys2Proof.Machine

/-- A sparse table by number. -/
abbrev KMap (α : Type) := List (Nat × α)

/-- The value held under a number. -/
def kGet {α : Type} : KMap α → Nat → Option α
  | [], _ => none
  | (i, v) :: r, k => if i = k then some v else kGet r k

/-- Holds `v` under `k`, in key order. -/
def kPut {α : Type} : KMap α → Nat → α → KMap α
  | [], k, v => [(k, v)]
  | (i, w) :: r, k, v =>
    if k < i then (k, v) :: (i, w) :: r
    else if k = i then (k, v) :: r
    else (i, w) :: kPut r k v

/-- Removes what is held under `k`. -/
def kDel {α : Type} (m : KMap α) (k : Nat) : KMap α := m.filter (fun p => p.1 != k)

/-- Changes what is held under `k`, if anything is. -/
def kMod {α : Type} (m : KMap α) (k : Nat) (f : α → α) : KMap α :=
  m.map (fun p => if p.1 = k then (p.1, f p.2) else p)

/-- Changes every value, keys kept. -/
def kMapVals {α : Type} (m : KMap α) (f : Nat → α → α) : KMap α := m.map (fun p => (p.1, f p.1 p.2))

/-- Is something held under `k`? -/
def kHas {α : Type} (m : KMap α) (k : Nat) : Bool := (kGet m k).isSome

/-- Keys strictly rising from above `lo`. -/
def kRisingFrom {α : Type} : Nat → KMap α → Bool
  | _, [] => true
  | lo, (i, _) :: r => decide (lo ≤ i) && kRisingFrom (i + 1) r

/-- The canonical form of a table: keys strictly rising. -/
def kWf {α : Type} (m : KMap α) : Bool := kRisingFrom 0 m

/-- A table of bit vectors in which an unlisted number reads 0 and no listed value is 0. -/
def zGet {w : Nat} (m : KMap (BitVec w)) (k : Nat) : BitVec w := (kGet m k).getD 0

/-- Writes a word: a 0 is unlisted. -/
def zPut {w : Nat} (m : KMap (BitVec w)) (k : Nat) (v : BitVec w) : KMap (BitVec w) :=
  if v = 0 then kDel m k else kPut m k v

/-- Adds to a word, modulo its width (22 R642 for counters). -/
def zAdd {w : Nat} (m : KMap (BitVec w)) (k : Nat) (n : Nat) : KMap (BitVec w) :=
  zPut m k (zGet m k + BitVec.ofNat w n)

/-- Canonical: keys strictly rising and no value equal to what an unlisted key reads as. -/
def zWf {w : Nat} (m : KMap (BitVec w)) : Bool := kWf m && m.all (fun p => p.2 != 0)

/-- The value at a place of a list, or a default past its end. -/
def nth {α : Type} : List α → Nat → α → α
  | [], _, d => d
  | x :: _, 0, _ => x
  | _ :: r, n + 1, d => nth r n d

/-- A list with one place changed (no change past the end). -/
def setNth {α : Type} : List α → Nat → α → List α
  | [], _, _ => []
  | _ :: r, 0, v => v :: r
  | x :: r, n + 1, v => x :: setNth r n v

/-- Little-endian bytes of a number. -/
def leBytes : Nat → Nat → List Byte
  | 0, _ => []
  | n + 1, v => BitVec.ofNat 8 v :: leBytes n (v / 256)

/-- The number that little-endian bytes spell. -/
def leNat : List Byte → Nat
  | [] => 0
  | b :: r => b.toNat + 256 * leNat r

/-- Big-endian bytes of a number. -/
def beBytes (n v : Nat) : List Byte := (leBytes n v).reverse

/-- The bytes [off, off + n) of a list, short where the list ends. -/
def slice (l : List Byte) (off n : Nat) : List Byte := (l.drop off).take n

/-- A little-endian field of a byte list; a place past the end reads 0. -/
def leAt (l : List Byte) (off n : Nat) : Nat := leNat (slice l off n)

/-- A two's complement reading of a number of `w` bits. -/
def signed (w v : Nat) : Int := (BitVec.ofNat w v).toInt

end Sys2Proof.Machine
end

