-- ==== Sys2Proof/Machine/Crc.lean ====
section
/-! DEFINITION. The checksums the spec gives: CRC-32 (05 R172) and the CRC-64 of digests (12 R373). -/
namespace Sys2Proof.Machine

/-- One bit of the reflected CRC-32 (0x04C1_1DB7 mirrored is 0xEDB8_8320). -/
def crc32Bit (c : BitVec 32) : BitVec 32 :=
  if c.getLsbD 0 then (c >>> 1) ^^^ 0xEDB88320#32 else c >>> 1

/-- One byte of the reflected CRC-32. -/
def crc32Byte (c : BitVec 32) (b : Byte) : BitVec 32 :=
  crc32Bit (crc32Bit (crc32Bit (crc32Bit (crc32Bit (crc32Bit (crc32Bit (crc32Bit (c ^^^ b.setWidth 32))))))))

/-- CRC-32 of R172: reflected, initial value and final XOR 0xFFFF_FFFF. -/
def crc32 (l : List Byte) : BitVec 32 := (l.foldl crc32Byte 0xFFFFFFFF#32) ^^^ 0xFFFFFFFF#32

/-- One bit of the CRC-64 of R373. -/
def crc64Bit (c : BitVec 64) : BitVec 64 :=
  if c.getLsbD 63 then (c <<< 1) ^^^ 0x42F0E1EBA9EA3693#64 else c <<< 1

/-- One byte of the CRC-64 of R373, most significant bit first. -/
def crc64Byte (c : BitVec 64) (b : Byte) : BitVec 64 :=
  crc64Bit (crc64Bit (crc64Bit (crc64Bit (crc64Bit (crc64Bit (crc64Bit (crc64Bit (c ^^^ (b.setWidth 64 <<< 56)))))))))

/-- CRC-64 of R373: initial value 0, no reflection. -/
def crc64 (l : List Byte) : BitVec 64 := l.foldl crc64Byte 0

end Sys2Proof.Machine
end

