-- ==== Sys2Proof/Machine/F32.lean ====
section
/-! DEFINITION. IEEE 754 binary32 with round to nearest, ties to even (09 R281), on exact integers. -/
namespace Sys2Proof.Machine

/-- A binary32 pattern. -/
abbrev F32 := BitVec 32

def f32Sign (x : F32) : Bool := x.getLsbD 31
def f32Exp (x : F32) : Nat := (x.extractLsb' 23 8).toNat
def f32Frac (x : F32) : Nat := (x.extractLsb' 0 23).toNat
def f32IsNaN (x : F32) : Bool := f32Exp x == 255 && f32Frac x != 0
def f32IsInf (x : F32) : Bool := f32Exp x == 255 && f32Frac x == 0
def f32Finite (x : F32) : Bool := f32Exp x != 255
def f32IsZero (x : F32) : Bool := f32Exp x == 0 && f32Frac x == 0
def f32Nan : F32 := 0x7FC00000#32
def f32Inf (s : Bool) : F32 := if s then 0xFF800000#32 else 0x7F800000#32
def f32Zero (s : Bool) : F32 := if s then 0x80000000#32 else 0#32

/-- The magnitude of a finite pattern is `f32Mant · 2 ^ f32Pow`. -/
def f32Mant (x : F32) : Nat := if f32Exp x = 0 then f32Frac x else f32Frac x + 8388608
def f32Pow (x : F32) : Int := if f32Exp x = 0 then -149 else (f32Exp x : Int) - 150

/-- The signed integer mantissa. -/
def f32Int (x : F32) : Int := if f32Sign x then -(f32Mant x : Int) else (f32Mant x : Int)

/-- Rounds m · 2 ^ e, with something below the last bit when `sticky`, to binary32. -/
def f32Round (s : Bool) (m : Nat) (e : Int) (sticky : Bool) : F32 :=
  if m = 0 then f32Zero s
  else
    let l : Int := (Nat.log2 m : Nat)
    let t : Int := max (e + (l - 23)) (-149)
    let q : Nat :=
      if t ≤ e then m * 2 ^ (e - t).toNat
      else
        let sh := (t - e).toNat
        let q0 := m / 2 ^ sh
        let r := m % 2 ^ sh
        let half := 2 ^ (sh - 1)
        if half < r || (r == half && (sticky || q0 % 2 == 1)) then q0 + 1 else q0
    let bits : Int := (t + 149) * 8388608 + (q : Int)
    if 0x7F800000 ≤ bits then f32Inf s
    else (if s then 0x80000000#32 else 0#32) ||| BitVec.ofNat 32 bits.toNat

/-- Rounds an integer times a power of 2. -/
def f32OfScaled (v : Int) (e : Int) : F32 := f32Round (decide (v < 0)) v.natAbs e false

/-- Binary32 of an integer. -/
def f32OfInt (v : Int) : F32 := f32OfScaled v 0

/-- Binary32 of a quotient of integers, correctly rounded. -/
def f32OfRat (n : Int) (d : Nat) : F32 :=
  if d = 0 then f32Nan
  else
    let k := 64 + Nat.log2 d
    let num := n.natAbs * 2 ^ k
    f32Round (decide (n < 0)) (num / d) (-(k : Int)) (num % d != 0)

def f32Neg (x : F32) : F32 := x ^^^ 0x80000000#32
def f32Abs (x : F32) : F32 := x &&& 0x7FFFFFFF#32

/-- Sum. -/
def f32Add (x y : F32) : F32 :=
  if f32IsNaN x || f32IsNaN y then f32Nan
  else if f32IsInf x then (if f32IsInf y && f32Sign x != f32Sign y then f32Nan else x)
  else if f32IsInf y then y
  else
    let e := min (f32Pow x) (f32Pow y)
    let v := f32Int x * 2 ^ (f32Pow x - e).toNat + f32Int y * 2 ^ (f32Pow y - e).toNat
    if v = 0 then f32Zero (f32Sign x && f32Sign y) else f32OfScaled v e

def f32Sub (x y : F32) : F32 := f32Add x (f32Neg y)

/-- Product. -/
def f32Mul (x y : F32) : F32 :=
  let s := f32Sign x != f32Sign y
  if f32IsNaN x || f32IsNaN y then f32Nan
  else if f32IsInf x || f32IsInf y then (if f32IsZero x || f32IsZero y then f32Nan else f32Inf s)
  else f32Round s (f32Mant x * f32Mant y) (f32Pow x + f32Pow y) false

/-- Quotient. -/
def f32Div (x y : F32) : F32 :=
  let s := f32Sign x != f32Sign y
  if f32IsNaN x || f32IsNaN y then f32Nan
  else if f32IsInf x then (if f32IsInf y then f32Nan else f32Inf s)
  else if f32IsInf y then f32Zero s
  else if f32IsZero y then (if f32IsZero x then f32Nan else f32Inf s)
  else
    let n := f32Mant x * 2 ^ 60
    f32Round s (n / f32Mant y) (f32Pow x - f32Pow y - 60) (n % f32Mant y != 0)

/-- Integer square root, by bits from `k` down. -/
def isqrtFrom : Nat → Nat → Nat → Nat
  | 0, _, r => r
  | k + 1, n, r => let c := r + 2 ^ k; if c * c ≤ n then isqrtFrom k n c else isqrtFrom k n r

/-- Integer square root, rounded down. -/
def isqrt (n : Nat) : Nat := isqrtFrom (Nat.log2 n / 2 + 1) n 0

/-- Square root. -/
def f32Sqrt (x : F32) : F32 :=
  if f32IsNaN x then f32Nan
  else if f32IsZero x then x
  else if f32Sign x then f32Nan
  else if f32IsInf x then x
  else
    let p := f32Pow x
    let m := if p % 2 = 0 then f32Mant x * 2 ^ 60 else f32Mant x * 2 ^ 61
    let e := if p % 2 = 0 then (p - 60) / 2 else (p - 61) / 2
    let r := isqrt m
    f32Round false r e (r * r != m)

/-- Order of finite numbers, on a common scale. -/
def f32Lt (x y : F32) : Bool :=
  if f32IsNaN x || f32IsNaN y then false
  else if f32IsInf x then f32Sign x && !(f32IsInf y && f32Sign y)
  else if f32IsInf y then !f32Sign y
  else
    let e := min (f32Pow x) (f32Pow y)
    decide (f32Int x * 2 ^ (f32Pow x - e).toNat < f32Int y * 2 ^ (f32Pow y - e).toNat)

def f32Le (x y : F32) : Bool :=
  !(f32IsNaN x || f32IsNaN y) && !f32Lt y x

def f32Eq (x y : F32) : Bool := f32Le x y && f32Le y x
def f32Max (x y : F32) : F32 := if f32Lt x y then y else x
def f32Min (x y : F32) : F32 := if f32Lt y x then y else x

/-- The largest integer at or below a finite number. -/
def f32Floor (x : F32) : Int :=
  if f32Pow x ≥ 0 then f32Int x * 2 ^ (f32Pow x).toNat else f32Int x / 2 ^ (-(f32Pow x)).toNat

/-- The nearest integer, ties to even. -/
def f32RoundInt (x : F32) : Int :=
  if f32Pow x ≥ 0 then f32Int x * 2 ^ (f32Pow x).toNat
  else
    let k := (-(f32Pow x)).toNat
    let q := f32Int x / 2 ^ k
    let r := f32Int x % 2 ^ k
    let h : Int := 2 ^ (k - 1)
    if h < r || (r == h && q % 2 == 1) then q + 1 else q

/-- A number moved by a number of places in the order of the numbers, through zero and up to the infinities
(order-dependent results, log entry 3). -/
def f32Ulps (x : F32) (n : Int) : F32 :=
  if f32IsNaN x then x
  else
    let m : Int := (x &&& 0x7FFFFFFF#32).toNat
    let j := clampInt (-0x7F800000) 0x7F800000 ((if f32Sign x then -m else m) + n)
    (if j < 0 then 0x80000000#32 else 0#32) ||| BitVec.ofNat 32 j.natAbs

/-- x · y + z with one rounding, of finite numbers. -/
def f32Fma (x y z : F32) : F32 :=
  if f32Finite x && f32Finite y && f32Finite z then
    let p := f32Pow x + f32Pow y
    let e := min p (f32Pow z)
    let v := f32Int x * f32Int y * 2 ^ (p - e).toNat + f32Int z * 2 ^ (f32Pow z - e).toNat
    if v = 0 then f32Add (f32Mul x y) z else f32OfScaled v e
  else f32Add (f32Mul x y) z

/-- Is the product a binary32 number, so that no order rounds it? -/
def f32MulExact (x y : F32) : Bool := f32IsZero (f32Fma x y (f32Neg (f32Mul x y)))

/-- ⌈x · a / b⌉ of a finite number that is not negative. -/
def f32CeilMul (x : F32) (a b : Nat) : Nat :=
  if f32Pow x ≥ 0 then (f32Mant x * 2 ^ (f32Pow x).toNat * a + b - 1) / b
  else let d := b * 2 ^ (-(f32Pow x)).toNat; (f32Mant x * a + d - 1) / d

end Sys2Proof.Machine
end

