-- ==== Sys2Proof/Machine/TypesBase.lean ====
section
/-! DEFINITION. State of the supply (23), the Ledger and the Journal (20), the dictionary (21) and the diagnostics (22). -/
namespace Sys2Proof.Machine

/-- Lining states, OD 2100:05 (23 R656, R657, R677). -/
inductive LiningState where
  | discharged | charging | charged | holdup
  deriving DecidableEq, Repr

/-- Supply states (23 R659). -/
inductive SupplyState where
  | off | normal | warning | reset
  deriving DecidableEq, Repr

/-- The shared supply stage (23). Voltages in mV; a reversed input is negative (R652). -/
structure Supply where
  pa : Int
  pb : Int
  lining : Nat
  capUF : Nat
  degraded : Bool
  linState : LiningState
  st : SupplyState
  pwarn : Bool
  discharge : Bool
  lowVin : Nat
  lowLining : Nat
  deriving DecidableEq, Repr

/-- A Journal record (20 R608). -/
structure JRec where
  seq : U64
  code : U16
  sleeve : Byte
  body : List Byte
  deriving DecidableEq, Repr

/-- The Journal (20 R608, R609): held records oldest first, and the records that wait for a raised ceiling. -/
structure Journal where
  recs : List JRec
  waiting : List JRec
  next : U64
  deriving DecidableEq, Repr

/-- A header copy of the Ledger (20 R595). -/
structure LedgerHeader where
  valid : Bool
  writes : U32
  used : Nat
  time : U64
  ceiling : U64
  resv : BitVec 4
  deriving DecidableEq, Repr

/-- A histogram record (20 R597). `crcOk` is false where the stored CRC does not match, as in the records below. -/
structure HistRec where
  writes : U32
  samples : U64
  bins : KMap U64
  time : U64
  crcOk : Bool
  deriving DecidableEq, Repr

/-- An extremes record (20 R598). -/
structure ExtRec where
  writes : U32
  lo : F32
  hi : F32
  loTime : U64
  hiTime : U64
  crcOk : Bool
  deriving DecidableEq, Repr

/-- An episode record (20 R599). `crcOk` is false where the stored CRC does not match. -/
structure Episode where
  src : Nat
  priv : Bool
  saturated : Bool
  writes : U32
  first : U64
  latest : U64
  repeats : U32
  number : Nat
  jseq : U64
  detail : List Byte
  crcOk : Bool
  deriving DecidableEq, Repr

/-- The Ledger partition of MRAM (20 R594): survives power loss. -/
structure LedgerNv where
  hdrA : LedgerHeader
  hdrB : LedgerHeader
  hists : KMap HistRec
  exts : KMap ExtRec
  log : KMap Episode
  deriving DecidableEq, Repr

/-- An episode that waits for its batch (20 R606). -/
structure QEpisode where
  src : Nat
  first : U64
  latest : U64
  repeats : U32
  jseq : U64
  detail : List Byte
  deriving DecidableEq, Repr

/-- Volatile Ledger state (20 R592, R604 to R606). -/
structure LedgerSt where
  cycles : Nat
  opSeconds : Nat
  queue : List QEpisode
  accBins : KMap U64
  accExt : KMap (F32 × F32 × U64 × U64)
  refused : Bool
  neverUpdate : List Nat
  opSince : Nat
  deriving DecidableEq, Repr

/-- A write session on a DOMAIN (21 R625). -/
structure WSession where
  key : Nat
  path : Path
  total : Nat
  data : List Byte
  timedOut : Bool
  deriving DecidableEq, Repr

/-- A path's copy of a DOMAIN (21 R626). -/
structure RCopy where
  path : Path
  key : Nat
  data : List Byte
  deriving DecidableEq, Repr

/-- A write that waits for its boundary (21 R618). -/
structure PendingWrite where
  key : Nat
  data : List Byte
  at_ : Nat
  deriving DecidableEq, Repr

/-- A declared application entry (21 R633): type and access codes, writable-in mask, maximum length. -/
structure Decl where
  ty : Nat
  access : Nat
  mask : Nat
  maxLen : Nat
  deriving DecidableEq, Repr

/-- The running part of the dictionary (21): overlay, sessions, copies, last-value words, and the DOMAINs that the channel
itself writes (Placer report, save blob, sleeve definitions). -/
structure DictSt where
  overlay : KMap (List Byte)
  initial : KMap (List Byte)
  decls : KMap Decl
  sessions : List WSession
  copies : List RCopy
  pendingW : List PendingWrite
  ro : KMap U64
  domains : KMap (List Byte)
  deriving DecidableEq, Repr

/-- A snapshot bank (22 R645). -/
structure SnapBank where
  gen : U64
  t : U64
  latch : U64
  servo : Byte
  stepped : Bool
  unlocked : Bool
  vals : KMap U64
  deriving DecidableEq, Repr

/-- A fault injector (22 R647 to R649): running state; its settings are dictionary entries. `drawn` holds what a stream injector drew by
source MAC and smpCnt: whether it acts, and the bits it flips. -/
structure Injector where
  armed : Bool
  status : Byte
  rng : U32
  since : Nat
  held : List (Nat × Nat × Frame)
  heldCan : List (Nat × CanFrame)
  drawn : List (Nat × Nat × Bool × List Nat)
  deriving DecidableEq, Repr

/-- Diagnostics (22). -/
structure DiagSt where
  lastRaise : KMap Nat
  snapT : Option U64
  snapBase : U64
  snapStepped : Bool
  bank0 : Option SnapBank
  bank1 : Option SnapBank
  latestBank : Option Nat
  copying : Option (Nat × SnapBank)
  armCode : Option U32
  armFrom : Path
  armReadAt : Nat
  inj : KMap Injector
  deriving DecidableEq, Repr

end Sys2Proof.Machine
end

