-- ==== Sys2Proof/Machine/TypesNet.lean ====
section
/-! DEFINITION. State of the modes (02), ingest (03), publication (10), time (13) and the switch (14). -/
namespace Sys2Proof.Machine

/-- The modes (02 R46). -/
inductive Mode where
  | boot | hold | commission | standby | active | sealedMode
  deriving DecidableEq, Repr

/-- Mode codes (02 R46). -/
def modeCode : Mode → Nat
  | .boot => 1 | .hold => 2 | .commission => 3 | .standby => 4 | .active => 5 | .sealedMode => 6

/-- Modes and start-up (02 R52 to R81). `phase` is coded as OD 2000:0A; `clockFault` is set while a clock fault keeps the channel out
of STANDBY and ACTIVE until it restarts (01 R34). -/
structure BootSt where
  powered : Bool
  mode : Mode
  twinMode : Byte
  holdReason : Nat
  phase : Nat
  halt : Option Nat
  duration : U32
  cause : Nat
  readyMask : U64
  granted : Bool
  admitted : Bool
  graphsRun : Bool
  windowOpen : Bool
  graphStartAt : Nat
  pendingMode : Option (Nat × Nat)
  lastSlotWritten : Nat
  slotId : Nat
  rolePrefN : Bool
  clockFault : Bool
  deriving DecidableEq, Repr

/-- A flash slot (02 R62 to R70): its bytes and status code. -/
structure Slot where
  bytes : List Byte
  status : Nat
  deriving DecidableEq, Repr

/-- Slots, pointers and start intent: non-volatile (02 R62, R68, R69). -/
structure SlotsNv where
  cfg0 : Slot
  cfg1 : Slot
  committed : Nat
  fw0 : Slot
  fw1 : Slot
  committedFw : Nat
  running : Nat
  intentOperate : Bool
  deriving DecidableEq, Repr

/-- A subscription record (03 R110). -/
structure StreamRec where
  num : Nat
  appid : Nat
  dst : BitVec 48
  vid : Nat
  rate : Nat
  confRev : U32
  noAsdu : Nat
  profile : Nat
  syncReq : Nat
  auth : Bool
  alg : Nat
  keyCur : Nat
  keyNext : Nat
  log2D : Nat
  pairs : Nat
  allowUs : Nat
  loss : Nat
  ret : Nat
  srcMac : BitVec 48
  checkSrc : Bool
  svID : List Byte
  chans : List (Nat × Nat × F32)
  deriving DecidableEq, Repr

/-- Stream states (03 R107), coded as OD 8000+s:01. -/
inductive StreamState where
  | inactive | waiting | returning | valid | lost
  deriving DecidableEq, Repr

/-- A sample slot (03 R102), under its number `n` counted from the epoch at the stream's rate; `tok` is the place of its token in the
order in which the channel's stream tokens were raised (04 R130). -/
structure SampleSlot where
  n : Nat
  written : Bool
  missing : Bool
  histBreak : Bool
  returning : Bool
  delay : Int
  instant : U64
  vals : List (U32 × U32)
  tok : Nat
  deriving DecidableEq, Repr

/-- A stream (03). `next` numbers the next slot to be written; `closed` holds slots fixed MISSING that wait to be
written, each with whether it carries HISTORY_BREAK (R99). -/
structure Stream where
  cfg : StreamRec
  st : StreamState
  fromLost : Bool
  missRun : Nat
  retRun : Nat
  breakPending : Bool
  simSeen : Bool
  simMode : Bool
  ring : List SampleSlot
  next : Nat
  closed : List (Nat × Bool)
  allowUs : Nat
  loss : Nat
  ret : Nat
  pend : Option (Nat × Nat × Nat)
  pendAt : Nat
  mask : U64
  deriving DecidableEq, Repr

/-- A frame in the ingest ring (03 R95). `part` is how many of its ASDUs are already served. -/
structure RingFrame where
  stream : Nat
  frame : Frame
  arrival : Nat
  part : Nat
  anyWritten : Bool
  shared : Bool
  held : Bool
  deriving DecidableEq, Repr

/-- The ingest ring and the stream table (03). `tokens` counts the tokens raised, the model's own order of them. -/
structure IngestSt where
  streams : KMap Stream
  f96 : List RingFrame
  h14 : List RingFrame
  s48 : List RingFrame
  goose : List (Nat × GooseMsg)
  tokens : Nat
  deriving DecidableEq, Repr

/-- A dataset member's record (10 R313). -/
structure MemberRec where
  ty : Nat
  writer : Nat
  hasQ : Bool
  hasT : Bool
  invert : Bool
  ref : U32
  deriving DecidableEq, Repr

/-- A GOOSE publication record (10 R313). -/
structure GPubRec where
  num : Nat
  owner : Nat
  dst : BitVec 48
  vlan : Nat
  appid : Nat
  protection : Bool
  confRev : U32
  t1 : Nat
  t0 : Nat
  g : Nat
  alg : Nat
  key : Nat
  gocbRef : List Byte
  datSet : List Byte
  goID : List Byte
  members : List MemberRec
  deriving DecidableEq, Repr

/-- A member's value, quality word and timestamp. -/
structure MemberVal where
  v : U32
  q : U32
  t : U64
  deriving DecidableEq, Repr

/-- A state of a publication that waits for its frame to be built, with the interval to its next frame in µs (10 R315,
R316, R318). -/
structure GBuild where
  stNum : U32
  sqNum : U32
  t : U64
  interval : Nat
  vals : List MemberVal
  deriving DecidableEq, Repr

/-- A GOOSE publication (10). `firstAt` is the instant of its first frame (R317); `cycle` is the dispatcher cycle of its
latest state change and `wrote` the members written in it, whose writes form one state change (R315). -/
structure GPub where
  cfg : GPubRec
  pubd : List MemberVal
  stNum : U32
  sqNum : U32
  t : U64
  interval : Nat
  first : Bool
  t1 : Nat
  t0 : Nat
  seqNo : Nat
  srcMac : BitVec 48
  firstAt : Nat
  cycle : Option Nat
  wrote : List Nat
  deriving DecidableEq, Repr

/-- An SV publication record (10 R319). -/
structure SPubRec where
  num : Nat
  owner : Nat
  dst : BitVec 48
  vlan : Nat
  appid : Nat
  protection : Bool
  confRev : U32
  rate : Nat
  alg : Nat
  key : Nat
  svID : List Byte
  writers : List U32
  deriving DecidableEq, Repr

/-- An SV publication (10 R320): what its writers have written, by instant. -/
structure SPub where
  cfg : SPubRec
  written : KMap (List (Option (U32 × U32)))
  lastSmp : Nat
  sentUpTo : Nat
  seqNo : Nat
  srcMac : BitVec 48
  deriving DecidableEq, Repr

/-- A GOOSE subscription record (10 R324). -/
structure GSubRec where
  num : Nat
  owner : Nat
  dst : BitVec 48
  appid : Nat
  confRev : U32
  auth : Bool
  alg : Nat
  keyCur : Nat
  keyNext : Nat
  gocbRef : List Byte
  goID : List Byte
  members : List (Nat × U32)
  deriving DecidableEq, Repr

/-- Subscription states, OD 8E00+s:01 (10 R332). -/
inductive SubState where
  | waiting | valid | expired
  deriving DecidableEq, Repr

/-- An accepted state of a subscription (10 R326). -/
structure GState where
  vals : List GVal
  q : U32
  t : U64
  stNum : U32
  tick : Nat
  valid : Bool
  deriving DecidableEq, Repr

/-- A GOOSE subscription (10 R325, R326). -/
structure GSub where
  cfg : GSubRec
  st : SubState
  stNum : Option U32
  prev : List U32
  sqNum : U32
  latest : Option GState
  hist : List GState
  waiting : Option GState
  talAt : Option Nat
  simSeen : Bool
  deriving DecidableEq, Repr

/-- A trip signal (10 R310, R312). -/
structure TripSig where
  value : Bool
  q : U32
  t : U64
  warm : Bool
  deriving DecidableEq, Repr

/-- A job of the publisher (10 R318): egress class, publication, what to build; `tick` is the tick that handed a
retransmission over (06 R210), 0 for any other; `ahead` is how many jobs of its class or a faster one stood before a state
change, none for any other (R328). -/
structure PubJob where
  protection : Bool
  sv : Bool
  num : Nat
  tick : Nat
  build : GBuild
  smp : Nat
  svVals : List (U32 × U32)
  behaviour : Nat
  ahead : Option Nat
  deriving DecidableEq, Repr

/-- A built frame with the mark the Cuff store keeps it by (10 R321; 12 R383, R386). -/
structure BuiltFrame where
  sv : Bool
  num : Nat
  stNum : U32
  sqNum : U32
  smp : Nat
  seqNo : Nat
  protection : Bool
  frame : Frame
  deriving DecidableEq, Repr

/-- Trip matrix, publisher and subscriptions (10). -/
structure PubSt where
  trips : KMap TripSig
  gpubs : KMap GPub
  spubs : KMap SPub
  subs : KMap GSub
  jobs : List PubJob
  waiting : List BuiltFrame
  cuff : Bool
  deriving DecidableEq, Repr

/-- Servo states, OD 2200:01 (13 R405). -/
inductive Servo where
  | freerun | locking | locked | holdover
  deriving DecidableEq, Repr

/-- A two-step Sync that waits for its Follow_Up (13 R401): its corrections in 2⁻¹⁶ ns, the residence by egress port. -/
structure HeldSync where
  msg : PtpMsg
  rx : Nat
  base : Int
  residence : KMap Nat
  deriving DecidableEq, Repr

/-- Per front port (13 R401, R403, R404). -/
structure PtpPort where
  delay : Nat
  delayKnown : Bool
  missedRun : Nat
  unusable : Bool
  offset : Int
  syncs : List HeldSync
  reqSeq : Nat
  reqAt : Nat
  awaiting : Bool
  respPend : Option (Nat × Nat)
  deriving DecidableEq, Repr

/-- A foreign master heard on a port (13 R400), with the uptimes of its last two Announces. -/
structure Master where
  port : Nat
  msg : PtpMsg
  heard : Nat
  before : Option Nat
  deriving DecidableEq, Repr

/-- The time counter and the servo (13). `ctr` is ns and a 32-bit fraction, `adj` the adjustment in 2⁻³² ns per cycle
(R395), `freq` the last frequency a slew goes out from, `slope` the frequency estimate of LOCKING: an offset change and
the master time it took. -/
structure TimeSt where
  ctr : BitVec 96
  adj : Int
  freq : Int
  up : Nat
  servo : Servo
  offset : Int
  selPort : Nat
  gm : Option Master
  masters : List Master
  utcOffset : Int
  utcValid : Bool
  leapKnown : Bool
  firstLocked : Bool
  firstLock : U64
  lastOffset : Option (Int × Nat)
  slope : Option (Int × Nat)
  lastGm : Option U64
  outRun : Nat
  inRun : Nat
  holdAt : Nat
  limitPassed : Bool
  highWater : Nat
  ports : KMap PtpPort
  lastBoundary : KMap Nat
  lastTick : Nat
  syncSeq : Nat
  annSeq : Nat
  deriving DecidableEq, Repr

/-- A pulse generator's settings (13 R412, R415). -/
structure PgSet where
  output : Nat
  source : Nat
  start : Nat
  period : Nat
  width : Nat
  count : Nat
  gate : Nat
  low : Bool
  event : Bool
  deriving DecidableEq, Repr

/-- A pulse generator (13 R411 to R413). -/
structure PulseGen where
  set : PgSet
  armed : Bool
  status : Nat
  nextK : Nat
  inPulse : Bool
  pulseEnd : Nat
  reload : Option PgSet
  disarmAfter : Bool
  level : Bool
  armStart : Bool
  deriving DecidableEq, Repr

/-- A port record (14 R446). -/
structure PortRec where
  enable : Bool
  preempt : Bool
  filterMc : Bool
  learn : Bool
  pcp : Nat
  addFrag : Nat
  vid : Nat
  maxFrame : Nat
  resv7 : Nat
  resv6 : Nat
  k : Int
  weights : List Nat
  reds : List Nat
  deriving DecidableEq, Repr

/-- A classification rule (14 R446). -/
structure RuleRec where
  num : Nat
  mask : Nat
  dst : BitVec 48
  dstMask : BitVec 48
  vid : Nat
  pcp : Nat
  queue : Nat
  ethertype : Nat
  appLo : Nat
  appHi : Nat
  meter : Nat
  aware : Bool
  cut : Bool
  deriving DecidableEq, Repr

/-- A meter record (14 R424, R446): rates in Mb/s, bursts in bytes. -/
structure MeterRec where
  cir : Nat
  pir : Nat
  cbs : Nat
  pbs : Nat
  deriving DecidableEq, Repr

/-- A redundancy group record (14 R446). -/
structure GroupRec where
  hsr : Bool
  portA : Nat
  portB : Nat
  entryMs : Nat
  nodeS : Nat
  lifeMs : Nat
  deriving DecidableEq, Repr

/-- A RED profile (14 R425): weight, then minimum, maximum, Pmax by colour. -/
structure RedRec where
  w : Nat
  lim : List (Nat × Nat × Nat)
  deriving DecidableEq, Repr

/-- A capture filter (14 R442). -/
structure CapFilter where
  dir : Nat
  ports : Nat
  ethertype : Nat
  vid : Nat
  queues : Nat
  deriving DecidableEq, Repr

/-- The switch section (14 R445). -/
structure SwitchCfg where
  voq : Bool
  age : Nat
  ports : KMap PortRec
  groups : KMap GroupRec
  rules : List RuleRec
  meters : KMap MeterRec
  reds : KMap RedRec
  statics : List (BitVec 48 × Nat × Nat)
  vlans : KMap (Nat × Nat)
  filters : KMap CapFilter
  deriving DecidableEq, Repr

/-- A frame in an egress queue: ingress port, colour, and timestamp in 2⁻¹⁶ ns (13 R396). -/
structure QFrame where
  frame : Frame
  inPort : Nat
  colour : Nat
  ts : Nat
  deriving DecidableEq, Repr

/-- A Yoke port (14). `queues` are kept under their number; a queue not listed is empty. `rrIn` is the ingress port served
last in VOQ mode (R434); `pausedTo` is when a PAUSE ends (15 R482); `redDrops` counts random early drops under 3 × queue + colour
(R425); `resumed` says that the preemptable frame in transmission has been preempted before. -/
structure PortSt where
  up : Bool
  queues : KMap (List QFrame)
  tx : Option (Nat × QFrame)
  preempted : Option (Nat × QFrame)
  deficits : KMap Nat
  drrPos : Nat
  redAvg : KMap Nat
  pausedTo : Nat
  pausedAt : Nat
  preempt : Nat
  rrIn : Nat
  redDrops : KMap Nat
  resumed : Bool
  deriving DecidableEq, Repr

/-- A meter's buckets, in bits, and the time of their last filling (14 R424). -/
structure MeterSt where
  c : Nat
  p : Nat
  at_ : Nat
  deriving DecidableEq, Repr

/-- An entry of a delivery or ring table (14 R438). -/
structure DupEntry where
  mac : BitVec 48
  seq : Nat
  at_ : Nat
  port : Nat
  deriving DecidableEq, Repr

/-- A redundancy group's tables (14 R438, R440); `lifeAt` is the uptime of its last supervision frames. -/
structure GroupSt where
  delivered : List DupEntry
  ringSent : List DupEntry
  nodes : List (BitVec 48 × List (BitVec 48) × Nat)
  supSeq : Nat
  lifeAt : Nat
  deriving DecidableEq, Repr

/-- A learned unicast entry (14 R427). -/
structure Learned where
  mac : BitVec 48
  vid : Nat
  port : Nat
  at_ : Nat
  deriving DecidableEq, Repr

/-- A capture record (14 R442); `damaged` where a word of it is uncorrectable (01 R41). -/
structure CapRec where
  ts : Nat
  inPort : Nat
  outPort : Nat
  queue : Nat
  colour : Nat
  disp : Nat
  len : Nat
  seq : U64
  head : List Byte
  damaged : Bool
  deriving DecidableEq, Repr

/-- A frame in an ingress port's staging buffer until the fabric has written its copies, at bank cycle `till` (14 R428). -/
structure StageFrame where
  port : Nat
  len : Nat
  till : Nat
  express : Bool
  deriving DecidableEq, Repr

/-- The Yoke switch (14). `hostIn` holds the frames that port 15 has delivered, each with its ring (15 R476);
`fabricAt` is the cycle at which the fabric has written what it has taken. -/
structure SwitchSt where
  section_ : Bool
  cfg : SwitchCfg
  ports : KMap PortSt
  meters : KMap MeterSt
  groups : KMap GroupSt
  learned : List Learned
  capture : List CapRec
  capStopped : Bool
  seqNos : List (BitVec 48 × Nat)
  capSec : Nat
  capCount : Nat
  hostIn : List (Nat × QFrame)
  staging : List StageFrame
  fabricAt : Nat
  deriving DecidableEq, Repr

end Sys2Proof.Machine
end

