-- ==== Sys2Proof/Machine/TypesHost.lean ====
section
/-! DEFINITION. State of the Host Window and the commons banks (07) and of the host port (15). -/
namespace Sys2Proof.Machine

/-- Registers of one function of the host bridge (15 R456; 07 R232). Groups and sources not listed hold 0; `latch` holds the
low halves of 64-bit registers whose high halves are still to come, by offset (15 R455). -/
structure FnRegs where
  even : KMap U32
  pend : KMap U32
  vec : KMap Byte
  hwstat : U32
  hwcoll : U32
  latch : KMap U32
  deriving DecidableEq, Repr

/-- A host ring (15 R456, R459, R464 to R480). `txIntAt` and `rxIntAt` are the uptimes from which a vector may fire again,
`txSeq` and `rxSeq` the sequence numbers of the latest write-backs. -/
structure Ring where
  txBase : U64
  txSize : Nat
  txTail : Nat
  txHead : Nat
  txWb : U64
  rxBase : U64
  rxSize : Nat
  rxTail : Nat
  rxHead : Nat
  rxBuf : Nat
  rxWb : U64
  itr : Nat
  bcast : Bool
  rxEn : Bool
  txEn : Bool
  tailErr : Bool
  txDmaErr : Bool
  rxIdle : Bool
  txIdle : Bool
  resumed : Bool
  maxFrame : Nat
  txIntPend : Bool
  rxIntPend : Bool
  txIntAt : Nat
  rxIntAt : Nat
  txSeq : Nat
  rxSeq : Nat
  deriving DecidableEq, Repr

/-- A mailbox request in work and its response (07 R236 to R239; 15 R461), `ready` once the response stands. -/
structure MailReq where
  fn : Nat
  tag : U32
  op : Nat
  status : Nat
  body : List Byte
  seq : Nat
  ready : Bool
  deriving DecidableEq, Repr

/-- One channel's host port (15) and Host Window (07). Functions: 0 PF0, n VF n, 65 the channel's own PF1 or PF2.
`window` is the 4 MiB Host Window; an unlisted byte reads 0. `sends` holds, by ring, how many frames of the send in
progress are done and its worst status so far. -/
structure HostSt where
  fns : KMap FnRegs
  rings : KMap Ring
  window : List Host.Cell
  hbusy : Bool
  hbusyEnd : Nat
  mail : List MailReq
  sends : KMap (Nat × Nat)
  rr : Nat
  deriving DecidableEq, Repr

/-- The shared host bridge (15 R449, R450, R457, R462; 01 R20). `held` holds the requests that wait for a takeover, each with
its time of arrival; bit f of `takeover` is FSTAT.TAKEOVER of PF0 (0) or VF f; `wbTx` and `wbRx`
are the write-back words as they stand in host memory, by ring (R465). -/
structure Bridge where
  failed : Bool
  perst : Bool
  speed : Nat
  width : Nat
  vfEnable : Bool
  numVfs : Nat
  serving : Option Chan
  takeover : BitVec 65
  held : List (Instr × Nat)
  wbTx : KMap Nat
  wbRx : KMap Nat
  deriving DecidableEq, Repr

/-- An access to a word of a bank (07 R219, R222): a plain write takes the bytes of its mask; a 32-bit operand is the word's upper half
where `hi` is set. -/
inductive BankOp where
  | read
  | write (mask v : U64)
  | add (wide hi : Bool) (v : U64)
  | swap (wide hi : Bool) (v : U64)
  deriving DecidableEq, Repr

/-- A request at a bank (07 R217, R218): the requester's rank, its tile where it is one, the word, the access, and the bank cycle in which
it was presented. -/
structure BankReq where
  rank : Nat
  tile : Nat
  word : Nat
  op : BankOp
  since : Nat
  deriving DecidableEq, Repr

/-- A commons bank (07 R216 to R228): `lastGrant` is the uptime of its latest grant, `free` the bank cycle from which it can grant,
`rr` the tile it granted last, `reqs` the requests that wait, in the order in which they were presented, `words` its contents, a word not
listed being 0 (log entry 48). -/
structure Bank where
  failed : Bool
  retained : Bool
  waking : Bool
  lastGrant : Nat
  free : Nat
  rr : Nat
  reqs : List BankReq
  words : KMap U64
  deriving DecidableEq, Repr

end Sys2Proof.Machine
end

