-- ==== Sys2Proof/Machine/TypesGraph.lean ====
section
/-! DEFINITION. State of the conditioning chain (04), the graphs (05), the dispatcher (06) and the tiles (08). -/
namespace Sys2Proof.Machine

/-- A path record (04 R139). -/
structure PathRec where
  num : Nat
  stream : Nat
  k : Nat
  preset : Nat
  phase : Nat
  shifts : List Nat
  owner : Nat
  satEvent : Bool
  deriving DecidableEq, Repr

/-- An output sample of a filtering path (04 R131), numbered `n` from the epoch at the output rate. -/
structure OutSample where
  n : Nat
  settling : Bool
  histBreak : Bool
  value : U32
  q : U32
  instant : U64
  deriving DecidableEq, Repr

/-- An input sample as it enters a path's filter (04 R134, R135). -/
structure InSample where
  v : Int
  q : U32
  present : Bool
  subst : Bool
  deriving DecidableEq, Repr

/-- A conditioning path (04). `hist` holds its input since the last history break, newest first; `breakPending` is a change
that the next input breaks for, `outBreak` a break that the next output carries. -/
structure CPath where
  cfg : PathRec
  depth : Nat
  ring : List OutSample
  hist : List InSample
  lastIn : Option Nat
  lastVal : Option Int
  produced : Nat
  breakPending : Bool
  outBreak : Bool
  pend : Option PathRec
  pendAt : Nat
  frozen : Bool
  switchAt : Nat
  oldBypass : Bool
  deriving DecidableEq, Repr

/-- A token (05 R149). -/
structure Token where
  smpCnt : Nat
  settling : Bool
  histBreak : Bool
  notWarm : Bool
  pay : List U32
  q : U32
  instant : U64
  deriving DecidableEq, Repr

/-- A port: payload type code and words (05 R150); `flag` is trigger (input) or LSE-visible (output). -/
structure PortDef where
  flag : Bool
  ty : Nat
  words : Nat
  deriving DecidableEq, Repr

/-- An instance record (05 R177). -/
structure InstRec where
  op : Nat
  cls : Nat
  ins : List PortDef
  outs : List PortDef
  missEvent : Bool
  version : Nat
  params : List U32
  ident : U32
  init : List (List U32)
  deriving DecidableEq, Repr

/-- An edge record (05 R178). `src` is true for a source binding. -/
structure EdgeRec where
  src : Bool
  prod : Nat
  prodPort : Nat
  cons : Nat
  consPort : Nat
  minDepth : Nat
  lagUs : Nat
  recordable : Bool
  deriving DecidableEq, Repr

/-- A source-binding record (05 R179). -/
structure SourceRec where
  kind : Nat
  ty : Nat
  a : Nat
  b : Nat
  deriving DecidableEq, Repr

/-- A graph image (05 R175). -/
structure Graph where
  insts : List InstRec
  edges : List EdgeRec
  sources : List SourceRec
  revision : U32
  deriving DecidableEq, Repr

/-- An output ring (05 R148): tokens oldest first, the first one numbered `base`. `horizon` is the instant up to
which every token is written (R159). -/
structure TokRing where
  base : Nat
  toks : List Token
  depth : Nat
  horizon : Nat
  newest : Option Token
  deriving DecidableEq, Repr

/-- The states of a firing (06 R187). -/
inductive FiringState where
  | waiting | ready | held | fenced | running | preempted
  deriving DecidableEq, Repr

/-- An operator's state: words, and a window of earlier input payloads, newest first. -/
structure OpState where
  w : List U32
  win : List (List U32)
  deriving DecidableEq, Repr

/-- An operator instance at run time (05, 06). `lastGood` holds each port's last valid value and `subst` for how many
firings a replaced value still stands in a window (09 R283); `done` is the instant of the last completed firing;
`release` is in ns of uptime; `instant` is the firing's. -/
structure InstRt where
  st : OpState
  lastGood : KMap (List U32)
  subst : Nat
  warm : Nat
  done : Nat
  breakPend : Bool
  fs : FiringState
  release : Nat
  instant : Nat
  startAt : Nat
  fencedBy : Nat
  nextP1 : Nat
  tile : Nat
  waited : Bool
  deriving DecidableEq, Repr

/-- A graph at run time. Rings by producer port (`ringKey`), reader positions by edge number; `lsePos` holds, by LSE
input entry, the ring it reads and its position (11 R340); `first` the payload that each source binding presents before its first token
(05 R159), as the graph start took it. -/
structure GraphRt where
  cfg : Graph
  first : KMap (List U32)
  rings : KMap TokRing
  pos : KMap Nat
  lsePos : KMap (Nat × Nat)
  insts : KMap InstRt
  deriving DecidableEq, Repr

/-- A delay-list entry (06 R205). -/
inductive DelayKind where
  | retx (pub : Nat)
  | horizon (sleeve inst : Nat)
  deriving DecidableEq, Repr

structure DelayEntry where
  kind : DelayKind
  due : Nat
  late : Bool
  deriving DecidableEq, Repr

/-- A fence (06 R197): a freeze names a sleeve, a re-placement one instance. -/
structure Fence where
  freeze : Bool
  sleeve : Nat
  inst : Nat
  instant : Nat
  armedAt : Nat
  deriving DecidableEq, Repr

/-- Tile roles (08). -/
inductive TileRole where
  | placeable | spare | failed
  deriving DecidableEq, Repr

/-- A tile: what runs on it and what it has preempted, innermost first. -/
structure Tile where
  role : TileRole
  stack : List (Nat × Nat)
  deriving DecidableEq, Repr

/-- A move of an instance in progress (08). `plan` tells the moves that make room for a new sleeve (R264), or that were planned again
(R269), from those that follow a deletion. -/
structure Move where
  sleeve : Nat
  inst : Nat
  target : Nat
  boundary : Nat
  transferred : Bool
  plan : Bool
  deriving DecidableEq, Repr

/-- A happening that the Placer plans after its moves (08 R269): action code of 16 R489, sleeve, argument, package or blob. -/
structure PlWait where
  action : Nat
  sleeve : Nat
  arg : Nat
  pkg : List Byte
  deriving DecidableEq, Repr

/-- A piece of commons data as the Placer placed it (08 R250, R257, R262): kind 0 stream-table entry, 1 conditioning output
edge, 2 ring of an instance, 3 ring of a source binding, 4 commons state; `key` is the stream, path, ring or instance;
`addr` is the commons address; the release lag is in ns. -/
structure PlItem where
  kind : Nat
  sleeve : Nat
  key : Nat
  depth : Nat
  need : Nat
  lagNs : Nat
  addr : Nat
  size : Nat
  deriving DecidableEq, Repr

/-- Dispatcher, tiles, banks and moves of a channel. `movesLeft` is how many moves a deletion still lets begin
(R264); `planned` the moves, in order, that a new sleeve waits for, `queued` what the Placer plans after its moves (R269); `tileFaultAt`
the instant of the latest tile fault that a spare took over (R272); `tickUsed` counts the delay-list entries processed in tick `tickNo` (06
R207); `resv`, `retention` and `budget` are OD 2501, 3000:0D and 2500:2F as the last graph start took them. -/
structure DispSt where
  resv : List Nat
  delay : List DelayEntry
  parked : List (Nat × Nat)
  fences : List Fence
  tiles : KMap Tile
  banks : KMap Bank
  moves : List Move
  items : List PlItem
  movesLeft : Nat
  planned : List (Nat × Nat × Nat)
  queued : List PlWait
  tileFaultAt : Option Nat
  tickNo : Nat
  tickUsed : Nat
  retention : Bool
  budget : Nat
  deriving DecidableEq, Repr

end Sys2Proof.Machine
end

