-- ==== Sys2Proof/Machine/TypesLse.lean ====
section
/-! DEFINITION. State of the Logic Scan Engine (11). -/
namespace Sys2Proof.Machine

/-- A variable record (11 R363). -/
structure LseVar where
  ident : U32
  kind : Nat
  retentive : Bool
  addr : Nat
  init : U32
  deriving DecidableEq, Repr

/-- An input record (11 R364). -/
structure LseIn where
  kind : Nat
  word : Bool
  ident : U32
  refA : Nat
  refB : Nat
  lagUs : Nat
  deriving DecidableEq, Repr

/-- An output record (11 R364). -/
structure LseOut where
  can : Bool
  safeMode : Bool
  ident : U32
  safe : U32
  qsrc : Nat
  port : Nat
  buf : Nat
  deriving DecidableEq, Repr

/-- An LSE image (11 R362). -/
structure LseProg where
  tcUs : Nat
  code : List U32
  vars : List LseVar
  ins : List LseIn
  outs : List LseOut
  allow : Nat
  ceiling : Nat
  retainMs : Nat
  revision : U32
  deriving DecidableEq, Repr

/-- LSE states, OD 2701 (11 R354). -/
inductive LseState where
  | stopped | running | overrun | faulted
  deriving DecidableEq, Repr

/-- The engine's registers of one scan (11 R346): accumulators, branch stack (saved B, and whether it combines by
AND), instruction index, the two memories, and what timers, counters and edges remember. -/
structure LseRegs where
  b : Bool
  w : U32
  stack : List (Bool × Bool)
  ip : Nat
  scanning : Bool
  ended : Bool
  bits : KMap (BitVec 1)
  words : KMap U32
  lastExec : KMap Nat
  edgeSeen : List Nat
  s : Nat
  deriving DecidableEq, Repr

/-- A force (11 R356): identity and three values. -/
structure Force where
  ident : U32
  v0 : U32
  v1 : U32
  v2 : U32
  deriving DecidableEq, Repr

/-- A force command that waits for its boundary; `set` or release. -/
structure PendForce where
  set : Bool
  f : Force
  at_ : Nat
  deriving DecidableEq, Repr

/-- One sleeve's LSE program at run time (11). `snap` holds the retentive values as they stood between the write and the
latch of the last boundary (R352); `passed` counts boundaries passed without END, `overSince` is the first of them, and
`late` says that the scan ended after one (R354); `seed` is what a restore gives the
first scan (16 R499); `retainAt` is the uptime at which the retain interval began (R352). -/
structure Lse where
  prog : LseProg
  differs : Bool
  st : LseState
  r : LseRegs
  latched : KMap (U32 × U32)
  outPrev : KMap (BitVec 1)
  outLast : KMap (U32 × U32)
  overruns : Nat
  passed : Nat
  overSince : Nat
  nextB : Nat
  allow : Nat
  ceiling : Nat
  retainMs : Nat
  late : Bool
  snap : List (U32 × Nat × U32)
  flushDue : Bool
  forces : List Force
  pendForces : List PendForce
  staged : List Byte
  swap : Option (LseProg × Nat)
  restartPend : Bool
  safePend : Bool
  firstScan : Bool
  seed : Option LseRegs
  retainAt : Nat
  deriving DecidableEq, Repr

/-- A retain copy (11 R351): its header of magic, sequence, record count and CRC-32, and its records (identity, word index, value). -/
structure RetainCopy where
  magic : U32
  seq : U32
  count : U32
  crc : U32
  recs : List (U32 × Nat × U32)
  deriving DecidableEq, Repr

/-- A sleeve's two retain copies in MRAM: A at offset 0 of its area, B at 64 KiB (11 R351). -/
structure RetainNv where
  a : RetainCopy
  b : RetainCopy
  deriving DecidableEq, Repr

end Sys2Proof.Machine
end

