-- ==== Sys2Proof/Machine/TypesSeam.lean ====
section
/-! DEFINITION. State of the Seam, the Cuff store, takeover and resynchronisation (12). -/
namespace Sys2Proof.Machine

/-- A mirrored host command (12 R371): what the lead channel accepted, with the boundary its owning rule names. -/
inductive HostCmd where
  | write (key : Nat) (data : List Byte)
  | effectAt (key : Nat) (data : List Byte) (at_ : Nat)
  | segment (key : Nat) (first last : Bool) (off total : Nat) (data : List Byte)
  | mode (req at_ : Nat)
  | activate (slot : Nat)
  | restore (all : Bool)
  | reg (f off size : Nat) (v : U64)
  | request (f seq : Nat)
  | swapLse (sleeve : Nat) (image : List Byte) (at_ : Nat)
  | restartLse (sleeve : Nat)
  | force (sleeve : Nat) (set : Bool) (ident v v1 v2 : U32) (at_ : Nat)
  | manual (d at_ : Nat)
  | defArm (d : Nat) (on : Bool)
  | snapshot (t : U64)
  | armCode (code : U32)
  | injArm (i : Nat) (code : U32)
  | injDisarm (i : Nat)
  | pg (g : Nat) (arm : Bool)
  | canRecovery (port : Nat)
  | canLoopback (port : Nat) (on : Bool)
  | deleteRec (rec_ : Nat)
  | attest (body : List Byte)
  | reprovision (body : List Byte)
  | certificate (body : List Byte)
  deriving DecidableEq, Repr

/-- A key slot as the mirror set carries it: no secret key material (12 R393). -/
structure KeyMirror where
  st : Nat
  kind : Nat
  rights : U32
  owner : Nat
  parent : Nat
  ident : U32
  gen : U32
  label : List Byte
  wrapped : List Byte
  deriving DecidableEq, Repr

/-- The mirror set of resynchronisation stage 3 (12 R393). -/
structure MirrorSet where
  sleeve : Option Nat
  lse : KMap Lse
  therm : List (Nat × Nat × OpState)
  gpubs : KMap GPub
  ladders : List DelayEntry
  spubs : KMap Nat
  subs : KMap GSub
  canStatus : KMap (Nat × Nat × U32)
  slots : KMap KeyMirror
  deriving DecidableEq, Repr

/-- A digest (12 R373): class code (6 for an LSE, 7 for a retain flush), output or input, sleeve of an LSE digest, instant; `subs` holds the
part of each sleeve, by which a disagreement names one (log entry 17); `fit` is false where its sender compares none. -/
structure Digest where
  cls : Nat
  out : Bool
  sleeve : Nat
  instant : Nat
  v : U64
  subs : List (Nat × U64)
  fit : Bool
  closedAt : Nat
  deriving DecidableEq, Repr

/-- A mirror record (12 R371). -/
inductive MRec where
  | hostCmd (c : HostCmd)
  | lifecycle (sleeve action arg at_ : Nat)
  | keyChange (cmd : Nat) (body : List Byte) (at_ : Nat)
  | confirm (sv : Bool) (num : Nat) (stNum sqNum : U32) (smp : Nat)
  | canOutcome (port buf status tick : Nat)
  | final (last : List (Bool × Nat × U32 × U32 × Nat))
  | digest (d : Digest)
  | alignment (t : Nat)
  | retainDigest (sleeve instant : Nat) (v : U64)
  | mirrorSet (m : MirrorSet)
  deriving DecidableEq, Repr

/-- An item written for an instant, as a digest counts it (12 R373): kind 0 GOOSE member, 1 SV channel, 2 trip
signal, 3 CAN request. -/
structure DigItem where
  cls : Nat
  instant : Nat
  sleeve : Nat
  kind : Nat
  item : Nat
  words : List U32
  q : U32
  deriving DecidableEq, Repr

/-- A takeover in progress (12 R384 to R387). -/
structure Takeover where
  d : Nat
  h : Nat
  opened : Bool
  final : Option (List (Bool × Nat × U32 × U32 × Nat))
  deriving DecidableEq, Repr

/-- The Seam as one channel holds it (12). `presence` is coded as OD 2800:02, `stage` as OD 2800:04; `superviseDue` is set
from H until the supervision frames of R389. -/
structure SeamSt where
  holdCtl : Bool
  alive : Bool
  twinHold : Bool
  presence : Nat
  isolated : Bool
  absentAt : Nat
  out : List MRec
  align : Int
  alignRun : Nat
  stage : Nat
  stageAt : Nat
  convAt : Nat
  restarts : Nat
  resyncSleeve : Option Nat
  transferAt : Nat
  fault : Option Nat
  digests : List Digest
  twinDigests : List Digest
  items : List DigItem
  inputDiv : List (Nat × Nat × Nat)
  divRun : Option (Nat × Nat)
  realign : KMap Nat
  diagnosing : List (Nat × Nat)
  unresolved : List Nat
  store : List BuiltFrame
  confirmed : List (Bool × Nat × U32 × U32 × Nat)
  takeover : Option Takeover
  superviseDue : Bool
  lastReq : KMap Nat
  deriving DecidableEq, Repr

end Sys2Proof.Machine
end

