-- ==== Sys2Proof/Machine/TypesKeys.lean ====
section
/-! DEFINITION. State of the sleeves (16) and of the key store (19). -/
namespace Sys2Proof.Machine

/-- A sleeve definition record (16 R492). -/
structure SleeveRec where
  num : Nat
  beh : Nat
  spoofEvent : Bool
  tileQuota : Nat
  vectors : Nat
  svPubs : Nat
  commonsKiB : Nat
  instances : Nat
  sources : Nat
  edges : Nat
  svSubs : Nat
  goosePubs : Nat
  gooseSubs : Nat
  keySlots : Nat
  canBufs : Nat
  pleatSources : Nat
  pleatMiB : Nat
  macBase : BitVec 48
  macLog2 : Nat
  maxPcp : Nat
  vlans : List Nat
  ethertypes : List Nat
  gooseLo : Nat
  gooseHi : Nat
  svLo : Nat
  svHi : Nat
  idPrefix : List Byte
  canFilters : List (U32 × U32)
  mcast : List (BitVec 48)
  deriving DecidableEq, Repr

/-- Sleeve states (16 R487). -/
inductive SleeveState where
  | undefined | starting | running | frozen
  deriving DecidableEq, Repr

/-- A lifecycle request that waits for its boundary (16 R488): action code of R489, its argument, the boundary. -/
structure LifeReq where
  action : Nat
  arg : Nat
  at_ : Nat
  deriving DecidableEq, Repr

/-- A key slot (19 R569). `st` is 0 EMPTY, 1 ACTIVE, 2 ORPHANED. -/
structure KeySlot where
  st : Nat
  uncommitted : Bool
  kind : Nat
  rights : U32
  ident : U32
  owner : Nat
  parent : Nat
  gen : U32
  key : List Byte
  label : List Byte
  wrapped : List Byte
  deriving DecidableEq, Repr

/-- What a save blob carries of a sleeve (16 R497): the create package, instance states by identity, the LSE's registers and
forces, publications with stNum and sqNum or smpCnt, subscription buffers, CAN status words, and imported key slots. -/
structure SavePayload where
  package : List Byte
  insts : List (U32 × OpState)
  lse : Option (LseRegs × List Force)
  gpubs : List (Nat × U32 × U32)
  spubs : List (Nat × Nat)
  subs : List (Nat × GSub)
  can : List (Nat × Nat × List (Nat × Nat))
  keys : List (Nat × KeySlot)
  deriving DecidableEq, Repr

/-- A sleeve of a channel (16). `pkg` is the create package it came from, if any; `restore` is what a restore loads at its
start boundary, with its argument. -/
structure Sleeve where
  st : SleeveState
  cfg : SleeveRec
  beh : Nat
  req : Option LifeReq
  lastBoundary : Nat
  differs : Bool
  saving : Bool
  pkg : List Byte
  restore : Option (SavePayload × Nat)
  deriving DecidableEq, Repr

/-- A journal cell (19 R578): magic, generation and slot of the header, whether its CRC-32 holds over the body, and the body: the
slot record and the key it is sealed under. -/
structure KeyCell where
  magic : U32
  gen : U32
  slot : Nat
  crcOk : Bool
  rec_ : KeySlot
  sealKey : List Byte
  deriving DecidableEq, Repr

/-- The Mantle register and the key-journal partition: non-volatile (19 R563, R578). -/
structure KeysNv where
  nonce : List Byte
  sealedMarker : Bool
  provGen : U32
  cellsA : KMap KeyCell
  cellsB : KMap KeyCell
  identity : List Byte
  cert : List Byte
  reprovisioned : Bool
  deriving DecidableEq, Repr

/-- A key command that waits for its P1 boundary (19 R576). -/
structure PendKey where
  cmd : Nat
  body : List Byte
  at_ : Nat
  deriving DecidableEq, Repr

/-- The key store (19). `st` is coded as OD 2E00:01; `bm` holds BM0 to BM7; keys in the order of R566. -/
structure KeysSt where
  st : Nat
  bm : List (List Byte)
  bmLocked : Bool
  dbk : List Byte
  bbr : List Byte
  cfg : List Byte
  jrn : List Byte
  wrp : List Byte
  mig : List Byte
  slots : KMap KeySlot
  pend : List PendKey
  result : Nat
  request : Option (List Byte)
  statement : List Byte
  deriving DecidableEq, Repr

end Sys2Proof.Machine
end

