-- ==== Sys2Proof/Machine/TypesCan.lean ====
section
/-! DEFINITION. State of the CAN FD ports (17) and of the Pleat recorder (18). -/
namespace Sys2Proof.Machine

/-- A CAN port record (17 R529). Node 0 selects the default. -/
structure CanPortRec where
  nominal : Nat
  data : Nat
  term : Bool
  service : Bool
  hostRec : Bool
  node : Nat
  deriving DecidableEq, Repr

/-- A message buffer record (17 R529). -/
structure CanBufRec where
  port : Nat
  buf : Nat
  owner : Nat
  tx : Bool
  ident : U32
  mask : U32
  flags : Nat
  dlc : Nat
  data : List Byte
  deriving DecidableEq, Repr

/-- A message buffer (17 R515 to R523): 20 words; `fresh` is true while a source has still to copy it; `shadow` is its
one-frame shadow; `hist` holds the ticks with their status codes, newest first (R521; 11 R339). `locked` names the agent whose read has
not ended, 0 the controller and 1 the source engine; `waiting` holds the requests whose write waits for it, each with its sleeve (R516). -/
structure CanBuf where
  cfg : CanBufRec
  words : List U32
  pend : Bool
  locked : Option Nat
  waiting : List (Nat × Option (List U32))
  fresh : Bool
  shadow : Option (List U32)
  hist : List (Nat × Nat)
  deriving DecidableEq, Repr

/-- A controller (17 R511, R524). `cur` is the buffer whose attempt is in progress, with the frame that the controller read from it. -/
structure CanPort where
  cfg : CanPortRec
  loop : Bool
  tec : Nat
  rec_ : Nat
  busOff : Bool
  recovering : Bool
  cur : Option (Nat × CanFrame)
  bufs : KMap CanBuf
  deriving DecidableEq, Repr

/-- A signal record (18 R558). -/
structure SigRec where
  kind : Nat
  ty : Nat
  a : Nat
  b : Nat
  scale : F32
  hyst : F32
  deriving DecidableEq, Repr

/-- A recording definition's record (18 R558). -/
structure DefRec where
  num : Nat
  owner : Nat
  keep : Bool
  protect : Bool
  extend : Bool
  armStart : Bool
  event : Bool
  rate : Nat
  n : Nat
  p : Nat
  ringMiB : Nat
  mask : List Byte
  sigs : List SigRec
  deriving DecidableEq, Repr

/-- A row of a definition's ring (18 R535), numbered from the epoch at the row rate. -/
structure PRow where
  n : Nat
  vals : List (U32 × U32)
  hbreak : Bool
  damaged : Bool
  deriving DecidableEq, Repr

/-- A segment that is open (18 R540, R541). Rows are by number; `late` says that the servo was past its holdover limit at the trigger. -/
structure OpenSeg where
  trigInstant : Nat
  trigSrc : Nat
  first : Nat
  trigRow : Nat
  last : Nat
  extended : Bool
  limited : Bool
  short : Bool
  jseq : U64
  servo : Nat
  late : Bool
  utc : Int
  deriving DecidableEq, Repr

/-- A closed segment with its header (18 R548). -/
structure Segment where
  num : U64
  dfn : Nat
  keep : Bool
  protect : Bool
  header : List Byte
  first : Nat
  rows : List (List (U32 × U32))
  damaged : Bool
  late : Bool
  deriving DecidableEq, Repr

/-- Definition states, OD 9800+d:01 (18 R541). -/
inductive DefState where
  | stopped | armed | recording | rearming
  deriving DecidableEq, Repr

/-- A recording definition at run time (18). `heldTrig` holds the triggers of a re-arm, source and instant; `row` holds what is captured of the row in progress, numbered `next`. -/
structure PDef where
  cfg : DefRec
  st : DefState
  ring : List PRow
  next : Nat
  row : List (Option (U32 × U32 × Bool))
  opened : Option OpenSeg
  heldTrig : List (Nat × Nat)
  rearmAt : Nat
  wasArmed : Bool
  deriving DecidableEq, Repr

/-- The recorder. `store` is the flash store, oldest record first; it survives power loss (18 R552). `segs` holds the
closed segments whose rows are still in their rings. -/
structure PleatSt where
  defs : KMap PDef
  segs : List Segment
  queue : List Segment
  writing : Option Segment
  store : List Segment
  manual : List (Nat × Nat)
  deriving DecidableEq, Repr

end Sys2Proof.Machine
end

