-- ==== Sys2Proof/Machine/TypesChannel.lean ====
section
/-! DEFINITION. One channel: everything above, and what it has put out. -/
namespace Sys2Proof.Machine

/-- What the block has put out: the model's own record, newest last. -/
inductive Emission where
  | frame (port : Nat) (f : Frame)
  | cutFrame (port : Nat) (f : Frame)
  | stomped (port : Nat) (f : Frame)
  | msix (fn vec : Nat)
  | completion (fn : Nat) (status : Nat) (data : List Byte)
  | hostWrite (addr : U64) (data : List Byte)
  | rxFrame (ring : Nat) (f : Frame) (bufs : List U64)
  | pulse (output : Nat) (level : Bool)
  | hbusy (low : Bool)
  | can (port : Nat) (f : CanFrame)
  | completerAbort (fn : Nat)
  | unsupported (fn : Nat)
  | idleRecord
  deriving DecidableEq, Repr

/-- One channel of the module (01 R23). -/
structure Channel where
  id : Chan
  boot : BootSt
  slots : SlotsNv
  time : TimeSt
  gens : KMap PulseGen
  sw : SwitchSt
  ingest : IngestSt
  paths : KMap CPath
  graphs : KMap GraphRt
  disp : DispSt
  pub : PubSt
  lse : KMap Lse
  retain : KMap RetainNv
  host : HostSt
  seam : SeamSt
  sleeves : KMap Sleeve
  can : KMap CanPort
  pleat : PleatSt
  keysNv : KeysNv
  keys : KeysSt
  journal : Journal
  ledgerNv : LedgerNv
  ledger : LedgerSt
  dict : DictSt
  ctr : KMap U64
  diag : DiagSt
  psu : Supply
  epUJ : Nat
  temp : Int
  tempOut : Bool
  emitted : List Emission
  free : Nat
  deriving DecidableEq, Repr

end Sys2Proof.Machine
end

