-- ==== Sys2Proof/Machine/Ops.lean ====
section
/-! DEFINITION. The named operations every meaning is built from: counters, the Journal, episodes, event sources,
the hold-up check, and what a channel puts out. -/
namespace Sys2Proof.Machine

/-- The dictionary address index · 0x100 + sub (21 R613). -/
def od (index sub : Nat) : Nat := index * 256 + sub

/-- Adds to a counter of the counter store (22 R642). -/
def bumpN (index sub n : Nat) (c : Channel) : Channel := { c with ctr := zAdd c.ctr (od index sub) n }

/-- Adds one to a counter. -/
def bump (index sub : Nat) (c : Channel) : Channel := bumpN index sub 1 c

/-- Sets a last-value word. -/
def setRo (index sub v : Nat) (c : Channel) : Channel :=
  { c with dict := { c.dict with ro := zPut c.dict.ro (od index sub) (BitVec.ofNat 64 v) } }

/-- Sets a last-value word that reads 0xFF while nothing is held: kept one higher. -/
def setRoFF (index sub v : Nat) (c : Channel) : Channel := setRo index sub (v + 1) c

/-- Raises a high-water word. -/
def highWater (index sub v : Nat) (c : Channel) : Channel :=
  if (zGet c.dict.ro (od index sub)).toNat < v then setRo index sub v c else c

/-- Appends to what the channel has put out. -/
def emit (e : Emission) (c : Channel) : Channel := { c with emitted := c.emitted ++ [e] }

/-- The time counter in ns (13 R395). -/
def nowNs (c : Channel) : Nat := (c.time.ctr >>> 32).toNat

/-- A timestamp taken now, in units of 2⁻¹⁶ ns (13 R396). -/
def stampNow (c : Channel) : Nat := (c.time.ctr >>> 16).toNat

/-- The free value that a channel's next draw gives; the two channels draw different ones (log entry 2). -/
def nextFree (c : Channel) : U64 := Config.freeWord (2 * c.free + (match c.id with | .a => 0 | .b => 1))

/-- Draws the next free value of the channel. -/
def draw (c : Channel) : U64 × Channel := (nextFree c, { c with free := c.free + 1 })

/-- Draws `n` free words, as bytes. -/
def drawBytes : Nat → Channel → List Byte × Channel
  | 0, c => ([], c)
  | n + 1, c => let d := draw c; let r := drawBytes n d.2; (leBytes 8 d.1.toNat ++ r.1, r.2)

/-- The fabric cycle of an uptime in ns: 1.6 ns each, the cycle of the dispatcher and of the banks (01 R30; 07 R216). -/
def cycleOf (ns : Nat) : Nat := ns * 5 / 8

/-- A figure of timing that a high-water entry keeps: no more than `most`, and free below it (log entries 2 and 43). -/
def figure (index sub most : Nat) (c : Channel) : Channel :=
  let d := draw c
  highWater index sub (d.1.toNat % (most + 1)) d.2

/-- An event of uptime a second or more after the last one under the same key, or the first (22 R639). -/
def outsideSecond (m : KMap Nat) (k up : Nat) : Bool :=
  match kGet m k with
  | none => true
  | some t => decide (t + 1000000000 ≤ up)

/-- The header copy in force (20 R595): the valid copy with the higher write count. -/
def headerInForce (l : LedgerNv) : Option LedgerHeader :=
  match l.hdrA.valid, l.hdrB.valid with
  | true, true => some (if l.hdrA.writes.toNat < l.hdrB.writes.toNat then l.hdrB else l.hdrA)
  | true, false => some l.hdrA
  | false, true => some l.hdrB
  | false, false => none

/-- The Journal sequence ceiling in the header (20 R609); 0 before the first batch. -/
def journalCeiling (l : LedgerNv) : Nat := match headerInForce l with | some h => h.ceiling.toNat | none => 0

/-- Holds a numbered record in the ring of 2,097,152, over the oldest one where it is full (20 R608). -/
def journalStore (r : JRec) (c : Channel) : Channel :=
  if c.journal.recs.length < 2097152 then { c with journal := { c.journal with recs := c.journal.recs ++ [r] } }
  else bump 0x2F00 0x14 { c with journal := { c.journal with recs := c.journal.recs.drop 1 ++ [r] } }

/-- The body of a Journal record: category 0x5 carries its own (22 R639), of the others the spec gives none (log entry 56). -/
def journalBody (c : Channel) (r : JRec) : List Byte :=
  if r.code.toNat / 4096 = 5 then r.body else (Config.journalBody c.id c.journal.next).take 116

/-- Issues the records that wait and find a number below the ceiling (20 R609), first come first. -/
def journalDrain : List JRec → Channel → Channel
  | [], c => { c with journal := { c.journal with waiting := [] } }
  | r :: rest, c =>
    if c.journal.next.toNat < journalCeiling c.ledgerNv then
      journalDrain rest (journalStore { r with seq := c.journal.next, body := journalBody c r }
        { c with journal := { c.journal with next := c.journal.next + 1 } })
    else { c with journal := { c.journal with waiting := r :: rest } }

/-- Issues a Journal record (20 R608); `body` is what category 0x5 carries. -/
def journalAdd (cat item sleeve : Nat) (body : List Byte) (c : Channel) : Channel :=
  journalDrain (c.journal.waiting ++
    [⟨0, BitVec.ofNat 16 (cat * 4096 + item % 4096), BitVec.ofNat 8 sleeve, body.take 116⟩]) c

/-- The Journal sequence number current now: that of the latest record issued (20 R608); right after a start, the one below the stored
ceiling (log entry 56). -/
def journalCurrent (c : Channel) : U64 := c.journal.next - 1

/-- Operating seconds: the stored value, and the whole seconds since the end of B1 (20 R592). -/
def opSecondsNow (c : Channel) : Nat :=
  if c.boot.phase = 1 ∨ c.boot.phase = 16 then c.ledger.opSeconds else c.ledger.opSeconds + (c.time.up - c.ledger.opSince) / 1000000000

/-- Ledger time: power-cycle count and operating seconds (20 R591). -/
def ledgerTime (c : Channel) : U64 :=
  BitVec.ofNat 64 (min c.ledger.cycles 16777215 * 1099511627776 + opSecondsNow c % 1099511627776)

/-- The Nortar Runtime runs: powered, not halted, past phase B3 (02 R56). -/
def runtimeUp (c : Channel) : Bool := c.boot.powered && c.boot.halt.isNone && decide (4 ≤ c.boot.phase ∧ c.boot.phase ≠ 16)

/-- The hardware issue: an upper-case letter, D or later (00 R1, R7). Which one is a factory value (log entry 6). -/
def issueLetter : Byte := BitVec.ofNat 8 (68 + Config.issueOrder % 23)

/-- The five digits nnnnn of the cassette's serial number, the same on both channels (00 R9). -/
def serialNumber : U32 := BitVec.ofNat 32 (Config.serialNumber.toNat % 100000)

/-- The running firmware edition: 3.2 as delivered, else what the running image names (log entry 6). -/
def edition (c : Channel) : Nat × Nat :=
  let s := if c.slots.running = 0 then c.slots.fw0 else c.slots.fw1
  if s.bytes.isEmpty then (3, 2) else Config.editionOf s.bytes

/-! ### Event sources (22 R637 to R640) -/

/-- Registers of a function, as reset where never written. -/
def fnReset : FnRegs := ⟨[], [], [], 0, 0, []⟩
def fnGet (c : Channel) (f : Nat) : FnRegs := (kGet c.host.fns f).getD fnReset
def fnPut (f : Nat) (r : FnRegs) (c : Channel) : Channel := { c with host := { c.host with fns := kPut c.host.fns f r } }

/-- Is a vector one that an event source may use on a function (15 R483, R484)? Function 65 is PF1 or PF2; a VF has as many
vectors as its sleeve's definition gives it (16 R492). -/
def vectorOk (c : Channel) (f vec : Nat) : Bool :=
  if f = 65 then decide (2 ≤ vec ∧ vec < 16)
  else if f = 0 then decide (3 ≤ vec ∧ vec < 32)
  else decide (3 ≤ vec ∧ vec < match kGet c.sleeves (f - 1) with | some s => s.cfg.vectors | none => 0)

/-- Sets a pending bit on one function; the message goes out when the bit changes from 0 to 1 (22 R640; 15 R484). -/
def pendOn (src : Nat) (f : Nat) (c : Channel) : Channel :=
  let r := fnGet c f
  let g := src / 32
  let bit := 1#32 <<< (src % 32)
  let old := zGet r.pend g
  let c1 := fnPut f { r with pend := zPut r.pend g (old ||| bit) } c
  let vec := (zGet r.vec src).toNat
  if old &&& bit = 0 ∧ zGet r.even g &&& bit ≠ 0 ∧ vectorOk c f vec = true then emit (.msix f vec) c1 else c1

/-- The sleeve-visible sources (22 R637). -/
def sleeveVisible (src : Nat) : Bool :=
  [32, 33, 35, 36, 37, 41, 42, 43, 44, 45, 46, 47, 48, 49, 50, 52, 68, 69, 73].contains src

/-- Raises an event source that is not suppressed (22 R639). -/
def raiseNow (src sleeve obj value : Nat) (c : Channel) : Channel :=
  let c1 := bump 0x3101 (src + 1) c
  let c2 := journalAdd 5 src sleeve
    (BitVec.ofNat 8 sleeve :: 0 :: (leBytes 2 obj ++ leBytes 4 value)) c1
  let c3 := pendOn src 65 (pendOn src 0 c2)
  if sleeveVisible src && decide (sleeve < 64) then pendOn src (sleeve + 1) c3 else c3

/-- Raises an event source with its object (22 R638). -/
def raise (src sleeve obj value : Nat) (c : Channel) : Channel := raiseNow src sleeve obj value c

/-- Raises a source its chapter limits to once per second, counted apart for each `key` (22 R639). -/
def raiseLimited (src sleeve obj value key : Nat) (c : Channel) : Channel :=
  let k := src * 16777216 + key
  if outsideSecond c.diag.lastRaise k c.time.up then
    raiseNow src sleeve obj value { c with diag := { c.diag with lastRaise := kPut c.diag.lastRaise k c.time.up } }
  else bump 0x3102 (src + 1) c

/-- A self-test that passes, and one that fails: E1 with the test as its object (22 R641, R650). -/
def testPass (c : Channel) : Channel := bump 0x3100 0x0A c
def testFail (test value : Nat) (c : Channel) : Channel := raise 1 0xFF test value (bump 0x3100 0x0B c)

/-! ### Episodes (20 R601, R606) -/

/-- Is an episode source privileged (20 R601)? -/
def privileged (src : Nat) : Bool := decide (1 ≤ src ∧ src ≤ 4)

/-- An occurrence merged into a waiting entry of its source (20 R602, R606). -/
def mergeEpisode (t j : U64) (detail : List Byte) (e : QEpisode) : QEpisode :=
  { e with latest := t, jseq := j, detail := detail,
           repeats := if e.repeats = 0xFFFFFFFF#32 then e.repeats else e.repeats + 1 }

/-- Queues an episode (20 R606; a privileged one always finds room, log entry 56), with its Journal record (R608, category 0x7). -/
def episode (src : Nat) (detail : List Byte) (c0 : Channel) : Channel :=
  let c := journalAdd 7 src 0xFF [] c0
  let t := ledgerTime c
  let j := journalCurrent c
  if privileged src && c.ledger.queue.any (fun e => e.src == src) then
    { c with ledger := { c.ledger with queue := c.ledger.queue.map (fun e => if e.src = src then mergeEpisode t j detail e else e) } }
  else if !privileged src && decide (64 ≤ c.ledger.queue.length) then
    raiseLimited 20 0xFF src 0 0 (bump 0x2F00 0x08 c)
  else { c with ledger := { c.ledger with queue := c.ledger.queue ++ [⟨src, t, t, 0, j, detail⟩] } }

/-! ### The hold-up check (23 R663 to R665) -/

/-- Available energy E_A in µJ, rounded down (23 R663). -/
def availableUJ (p : Supply) : Nat := p.capUF * (p.lining * p.lining - 144000000) / 2000000

/-- Commit energies in µJ (23 R664). -/
def energyKey : Nat := 40000
def energyRetain (words : Nat) : Nat := 10000 + 58 * words
def energyBatch : Nat := 20000

/-- Does a commit of `ec` µJ pass the check now? The reserve is 1.0 J (23 R663). Exact, in 10⁻¹² J. -/
def holdupOk (p : Supply) (ep ec : Nat) : Bool :=
  decide ((1000000 + ep + ec) * 2000000 ≤ p.capUF * (p.lining * p.lining - 144000000))

/-- The hold-up check of one commit: `kind` is 0 key journal (slot activation and firmware commit with it),
1 retain flush, 2 Ledger batch (23 R665). Answers whether it starts. -/
def commitCheck (kind sleeve ec : Nat) (c0 : Channel) : Bool × Channel :=
  let c := bump 0x2100 0x0F c0
  if holdupOk c.psu c.epUJ ec then (true, { c with epUJ := c.epUJ + ec })
  else
    let c1 := bump 0x2100 (0x10 + kind) c
    let c2 := episode 4 (BitVec.ofNat 8 kind :: BitVec.ofNat 8 sleeve :: (leBytes 2 (availableUJ c.psu / 1000) ++ leBytes 2 (ec / 1000))) c1
    (false, raise 14 0xFF kind 0 c2)

/-- A slot write refused under PWARN, whatever the energy: a refusal of R665 with commit code 3 and no energy of its own (20 R601; 23
R664; log entry 58). -/
def slotWriteRefused (c : Channel) : Channel :=
  raise 14 0xFF 3 0 (episode 4 (3 :: 0xFF :: (leBytes 2 (availableUJ c.psu / 1000) ++ [0, 0])) c)

/-- The commits of earlier commands have ended: none is in progress (log entry 8). -/
def commitsEnded (c : Channel) : Channel := { c with epUJ := 0 }

/-! ### Time -/

/-- Instant in ns of number `n` from the epoch at rate `f`, to the nearest ns, ties up (13 R410). -/
def instantOf (f n : Nat) : Nat := n / f * 1000000000 + ((n % f) * 2000000000 + f) / (2 * f)

/-- The latest number at rate `f` whose instant is at or before `t` ns. -/
def numberAt (f t : Nat) : Nat :=
  let s := t / 1000000000
  let k := (t % 1000000000) * f / 1000000000
  if instantOf f (s * f + k + 1) ≤ t then s * f + k + 1
  else if instantOf f (s * f + k) ≤ t then s * f + k else s * f + k - 1

/-- smpCnt of number `n` at rate `f` (03 R85): at 96,000 it restarts each half second. -/
def smpCntOf (f n : Nat) : Nat := if f = 96000 then n % 48000 else n % f

/-- Moves the counter on to an instant it has not passed, uptime with it; a later counter stays (log entry 9). -/
def advanceTo (t : Nat) (c : Channel) : Channel :=
  if nowNs c < t then
    { c with time := { c.time with up := c.time.up + (t - nowNs c), ctr := BitVec.ofNat 96 (t * 4294967296) } }
  else c

/-- Moves the time on to an uptime it has not reached (log entry 9). -/
def upTo (t : Nat) (c : Channel) : Channel := advanceTo (nowNs c + (t - c.time.up)) c

/-- Do graphs run in the mode (02 R46)? -/
def graphMode (m : Mode) : Bool := match m with | .commission | .standby | .active => true | _ => false

/-- The value in effect of a writable entry (21 R619): overlay, initial-values section, then the given default. -/
def entryBytes (c : Channel) (index sub : Nat) (d : List Byte) : List Byte :=
  match kGet c.dict.overlay (od index sub) with
  | some v => v
  | none => match kGet c.dict.initial (od index sub) with
    | some v => v
    | none => d

/-- The value in effect as an unsigned number. -/
def entryNat (c : Channel) (index sub d : Nat) : Nat := leNat (entryBytes c index sub (leBytes 8 d))

/-! ### Fault injectors (22 R647 to R649) -/

def injIndex (i : Nat) : Nat := 0x3120 + i

/-- Is a sleeve in test or test/blocked behaviour (16 R501)? -/
def inTest (c : Channel) (n : Nat) : Bool := match kGet c.sleeves n with | some s => s.beh == 3 || s.beh == 4 | none => false

/-- The sleeves subscribed to a stream (03 R110). -/
def subscribers (c : Channel) (st : Nat) : List Nat :=
  match kGet c.ingest.streams st with
  | some x => (List.range 64).filter (fun n => x.mask.getLsbD n)
  | none => []

/-- May an injector be armed, or stay armed, now (22 R648)? -/
def injAllowed (c : Channel) (i : Nat) : Bool :=
  match c.boot.mode with
  | .commission => true
  | .standby | .active => decide (17 ≤ i) && (subscribers c (entryNat c (injIndex i) 1 0)).all (inTest c)
  | _ => false

/-- Ends an injector's arming with a status; E28 (22 R649). -/
def injEnd (i status : Nat) (c : Channel) : Channel :=
  match kGet c.diag.inj i with
  | none => c
  | some x =>
    if x.armed then
      let x1 := { x with armed := false, status := BitVec.ofNat 8 status, held := [], heldCan := [], drawn := [] }
      raise 28 0xFF i status { c with diag := { c.diag with inj := kPut c.diag.inj i x1 } }
    else c

/-- Injectors whose mode or behaviour has ended disarm (22 R649). -/
def injCheck (c : Channel) : Channel :=
  c.diag.inj.foldl (fun c x => if injAllowed c x.1 then c else injEnd x.1 3 c) c

/-- At a restart every injector disarms (22 R649). -/
def injEndAll (c : Channel) : Channel := c.diag.inj.foldl (fun c x => injEnd x.1 3 c) c

/-- A mode change as a CAN port sees it: loopback ends; a port that is off has its controller in reset (17 R511,
R512, R524). -/
def canOnMode (m : Mode) (p : CanPort) : CanPort :=
  let off := match m with | .boot => true | .hold | .sealedMode => !p.cfg.service | _ => false
  if off then { p with loop := false, tec := 0, rec_ := 0, busOff := false, recovering := false, cur := none }
  else { p with loop := false }

/-- Enters a mode: event E0 and a Journal record (02 R52; 20 R608). -/
def enterMode (m : Mode) (c : Channel) : Channel :=
  if c.boot.mode = m then c
  else injCheck (raise 0 0xFF (modeCode m) 0 (journalAdd 1 (modeCode m) 0xFF []
    { c with boot := { c.boot with mode := m }, can := kMapVals c.can (fun _ p => canOnMode m p) }))

end Sys2Proof.Machine
end

