-- ==== Sys2Proof/Machine/Resets.lean ====
section
/-! DEFINITION. The parts of a channel as reset leaves them, and as a restart through BOOT leaves them again. -/
namespace Sys2Proof.Machine

def supplyReset : Supply :=
  { pa := 0, pb := 0, lining := 0, capUF := 0, degraded := false, linState := .discharged, st := .off,
    pwarn := false, discharge := false, lowVin := 0, lowLining := 0 }

def bootReset : BootSt :=
  { powered := false, mode := .boot, twinMode := 0xFF, holdReason := 0, phase := 0, halt := none, duration := 0,
    cause := 1, readyMask := 0, granted := false, admitted := false, graphsRun := false, windowOpen := false,
    graphStartAt := 0, pendingMode := none, lastSlotWritten := 0, slotId := 0x1F, rolePrefN := true, clockFault := false }

def slotEmpty : Slot := ⟨[], 0⟩

def slotsReset : SlotsNv :=
  { cfg0 := slotEmpty, cfg1 := slotEmpty, committed := 0, fw0 := ⟨[], 1⟩, fw1 := slotEmpty, committedFw := 0,
    running := 0, intentOperate := false }

def timeReset : TimeSt :=
  { ctr := 0, adj := 0, freq := 0, up := 0, servo := .freerun, offset := 0, selPort := 0, gm := none, masters := [],
    utcOffset := 37, utcValid := false, leapKnown := false, firstLocked := false, firstLock := 0,
    lastOffset := none, slope := none, lastGm := none, outRun := 0, inRun := 0, holdAt := 0, limitPassed := false, highWater := 0, ports := [],
    lastBoundary := [], lastTick := 0, syncSeq := 0, annSeq := 0 }

def pgSetReset : PgSet :=
  { output := 0, source := 0xFFFF, start := 0, period := 0, width := 100, count := 0, gate := 1, low := false, event := false }

def pgReset : PulseGen :=
  { set := pgSetReset, armed := false, status := 0, nextK := 0, inPulse := false, pulseEnd := 0, reload := none,
    disarmAfter := false, level := false, armStart := false }

/-- The power-on default of the Yoke (14 R444): all ports enabled, one untagged VLAN 1, nothing else. -/
def switchDefault : SwitchCfg :=
  { voq := false, age := 300, ports := [], groups := [], rules := [], meters := [], reds := [], statics := [],
    vlans := [(1, 0xFFFF, 0xFFFF)], filters := [] }

def switchReset : SwitchSt :=
  { section_ := false, cfg := switchDefault, ports := [], meters := [], groups := [], learned := [], capture := [],
    capStopped := false, seqNos := [], capSec := 0, capCount := 0, hostIn := [], staging := [], fabricAt := 0 }

def ingestReset : IngestSt := { streams := [], f96 := [], h14 := [], s48 := [], goose := [], tokens := 0 }

def tileIdle (r : TileRole) : Tile := ⟨r, []⟩

/-- 32 placeable tiles and 2 spares (08). -/
def tilesReset : KMap Tile :=
  [(0, tileIdle .placeable), (1, tileIdle .placeable), (2, tileIdle .placeable), (3, tileIdle .placeable),
   (4, tileIdle .placeable), (5, tileIdle .placeable), (6, tileIdle .placeable), (7, tileIdle .placeable),
   (8, tileIdle .placeable), (9, tileIdle .placeable), (10, tileIdle .placeable), (11, tileIdle .placeable),
   (12, tileIdle .placeable), (13, tileIdle .placeable), (14, tileIdle .placeable), (15, tileIdle .placeable),
   (16, tileIdle .placeable), (17, tileIdle .placeable), (18, tileIdle .placeable), (19, tileIdle .placeable),
   (20, tileIdle .placeable), (21, tileIdle .placeable), (22, tileIdle .placeable), (23, tileIdle .placeable),
   (24, tileIdle .placeable), (25, tileIdle .placeable), (26, tileIdle .placeable), (27, tileIdle .placeable),
   (28, tileIdle .placeable), (29, tileIdle .placeable), (30, tileIdle .placeable), (31, tileIdle .placeable),
   (32, tileIdle .spare), (33, tileIdle .spare)]

def dispReset : DispSt :=
  { resv := [512, 512, 512, 256, 256, 512, 256, 128], delay := [], parked := [], fences := [], tiles := tilesReset,
    banks := [], moves := [], items := [], movesLeft := 0, planned := [], queued := [], tileFaultAt := none, tickNo := 0, tickUsed := 0, retention := true, budget := 5 }

def pubReset : PubSt := { trips := [], gpubs := [], spubs := [], subs := [], jobs := [], waiting := [], cuff := false }

def hostReset : HostSt :=
  { fns := [], rings := [], window := [], hbusy := false, hbusyEnd := 0, mail := [], sends := [],
    rr := 0 }

def seamReset : SeamSt :=
  { holdCtl := false, alive := false, twinHold := false, presence := 0, isolated := false, absentAt := 0, out := [],
    align := 0, alignRun := 0, stage := 0, stageAt := 0, convAt := 0, restarts := 0, resyncSleeve := none, transferAt := 0,
    fault := none, digests := [], twinDigests := [], items := [], inputDiv := [], divRun := none, realign := [],
    diagnosing := [], unresolved := [], store := [], confirmed := [], takeover := none, superviseDue := false, lastReq := [] }

/-- The Mantle register and the key journal with nothing in them, as re-provisioning leaves the journal (19 R584). -/
def keysNvReset : KeysNv :=
  { nonce := [], sealedMarker := false, provGen := 0, cellsA := [], cellsB := [], identity := [], cert := [],
    reprovisioned := false }

/-- As manufactured: the nonce drawn, the identity key made, the certificate and the provisioning generation given (19 R563, R585,
R589; log entry 6). -/
def keysNvFactory (id : Chan) : KeysNv :=
  let nonce := leBytes 32 (Config.factoryNonce id).toNat
  let key := beBytes 48 (Config.factoryIdentity id).toNat
  { keysNvReset with nonce := nonce, provGen := Config.factoryGeneration id, identity := key, cert := Config.factoryCertificate id }

def bmReset : List (List Byte) :=
  let z : List Byte := List.replicate 48 0
  [z, z, z, z, z, z, z, z]

def keysReset : KeysSt :=
  { st := 0, bm := bmReset, bmLocked := false, dbk := [], bbr := [], cfg := [], jrn := [], wrp := [], mig := [],
    slots := [], pend := [], result := 0, request := none, statement := [] }

def canPortDefault (n : Nat) : CanPortRec :=
  { nominal := 3, data := 0, term := false, service := n == 1, hostRec := false, node := 0 }

def canPortReset (n : Nat) : CanPort :=
  { cfg := canPortDefault n, loop := false, tec := 0, rec_ := 0, busOff := false, recovering := false, cur := none, bufs := [] }

/-- Four controllers, numbered 1 to 4 (17 R515). -/
def canReset : KMap CanPort := [(1, canPortReset 1), (2, canPortReset 2), (3, canPortReset 3), (4, canPortReset 4)]

def pleatReset : PleatSt :=
  { defs := [], segs := [], queue := [], writing := none, store := [], manual := [] }

def bridgeReset : Bridge :=
  { failed := false, perst := false, speed := 0, width := 0, vfEnable := false, numVfs := 0, serving := none,
    takeover := 0, held := [], wbTx := [], wbRx := [] }

def journalReset : Journal := { recs := [], waiting := [], next := 0 }

def headerBlank : LedgerHeader := { valid := false, writes := 0, used := 0, time := 0, ceiling := 0, resv := 0 }

def ledgerNvReset : LedgerNv := { hdrA := headerBlank, hdrB := headerBlank, hists := [], exts := [], log := [] }

def ledgerReset : LedgerSt :=
  { cycles := 0, opSeconds := 0, queue := [], accBins := [], accExt := [], refused := false, neverUpdate := [],
    opSince := 0 }

def dictReset : DictSt := { overlay := [], initial := [], decls := [], sessions := [], copies := [], pendingW := [], ro := [], domains := [] }

def diagReset : DiagSt :=
  { lastRaise := [], snapT := none, snapBase := 0, snapStepped := false, bank0 := none, bank1 := none,
    latestBank := none, copying := none, armCode := none, armFrom := .pf0, armReadAt := 0, inj := [] }

end Sys2Proof.Machine
end

