-- ==== Sys2Proof/Machine/State.lean ====
section
/-! DEFINITION. The state of the block: the shared supply and host bridge, the two channels, and the commands that
wait, first in first out; with the state right after reset. -/
namespace Sys2Proof.Machine

/-- The block stops. -/
inductive Fault where
  /-- Raised by no command of this model: every command has an effect or none (02 R52). Safe. -/
  | noFault
  deriving DecidableEq, Repr

/-- The model gives a command no meaning. -/
inductive Refusal where
  /-- Raised by an arm of `exec` whose command has no meaning yet. Safe: nothing follows from it. -/
  | notModelled (mnemonic : String)
  deriving DecidableEq, Repr

/-- A channel right after reset. -/
def channelReset (id : Chan) : Channel :=
  { id := id, boot := bootReset, slots := slotsReset, time := timeReset, gens := [], sw := switchReset,
    ingest := ingestReset, paths := [], graphs := [], disp := dispReset, pub := pubReset, lse := [], retain := [],
    host := hostReset, seam := seamReset,
    sleeves := [], can := canReset, pleat := pleatReset, keysNv := keysNvFactory id, keys := keysReset, journal := journalReset, ledgerNv := ledgerNvReset, ledger := ledgerReset,
    dict := dictReset, ctr := [], diag := diagReset, psu := supplyReset, epUJ := 0, temp := 0, tempOut := false,
    emitted := [], free := 0 }

/-- The state of the block. `fuseA` and `fuseB` are true while the fuse is closed (01 R18). -/
structure State where
  supply : Supply
  bridge : Bridge
  fuseA : Bool
  fuseB : Bool
  a : Channel
  b : Channel
  pending : List Instr
  deriving DecidableEq, Repr

/-- The block right after reset: no supply, both channels without power, nothing waiting. -/
def State.reset : State :=
  { supply := supplyReset, bridge := bridgeReset, fuseA := true, fuseB := true, a := channelReset .a,
    b := channelReset .b, pending := [] }

end Sys2Proof.Machine
end

