-- ==== Sys2Proof/Machine/Acts.lean ====
section
/-! DEFINITION. How a meaning acts on the block: on one channel, on both, or on the channels a path reaches. -/
namespace Sys2Proof.Machine

/-- A channel of the block. -/
def chanOf (s : State) : Chan → Channel
  | .a => s.a
  | .b => s.b

/-- The block with one channel replaced. -/
def withChan (s : State) (ch : Chan) (c : Channel) : State :=
  match ch with
  | .a => { s with a := c }
  | .b => { s with b := c }

/-- A command that acts on one channel alone. Commits of earlier commands have ended when it begins. -/
def onChan (ch : Chan) (f : Channel → Channel) (s : State) : Host.Outcome State Fault Refusal :=
  .next (withChan s ch (f (commitsEnded (chanOf s ch))))

/-- A command of a channel that also reads its twin as it stands. -/
def onChanTwin (ch : Chan) (f : Channel → Channel → Channel) (s : State) : Host.Outcome State Fault Refusal :=
  .next (withChan s ch (f (chanOf s ch.twin) (commitsEnded (chanOf s ch))))

/-- A command that acts on both channels. -/
def onBoth (f : Channel → Channel) (s : State) : Host.Outcome State Fault Refusal :=
  .next { s with a := f (commitsEnded s.a), b := f (commitsEnded s.b) }

/-- Does role arbitration or an ACTIVE mode single the channel out (02 R48)? -/
def leads (c : Channel) : Bool := c.boot.mode == .active || c.seam.holdCtl

/-- The lead channel (02 R48; 15 R452, R463): the ACTIVE one, else the one that holds control, else the one that served last;
until role arbitration has ranked the channels, the preferred lone channel of 12 R380, or the one that has power. -/
def leadChan (s : State) : Chan :=
  if s.a.boot.mode == .active then .a
  else if s.b.boot.mode == .active then .b
  else if s.a.seam.holdCtl then .a
  else if s.b.seam.holdCtl then .b
  else match s.bridge.serving with
    | some ch => ch
    | none =>
      if s.a.boot.powered != s.b.boot.powered then (if s.a.boot.powered then .a else .b)
      else if s.a.boot.rolePrefN then .a else .b

/-- The bridge notes which channel serves PF0 and the VFs; a change sets FSTAT.TAKEOVER of each (15 R457, R462). -/
def noteServing (s : State) : State :=
  let ch := leadChan s
  let changed := match s.bridge.serving with | some x => x != ch | none => false
  { s with bridge := { s.bridge with serving := some ch, takeover := if changed then BitVec.allOnes 65 else s.bridge.takeover } }

/-- The channel whose dictionary an access path reaches (21 R617). -/
def pathChan (s : State) (p : Path) : Chan :=
  match p with
  | .pf0 => leadChan s
  | .vf _ => leadChan s
  | .pf1 => .a
  | .pf2 => .b
  | .svc ch _ => ch

/-- Does a write through the path apply to both channels (21 R617)? -/
def pathBoth (p : Path) : Bool := match p with | .pf0 | .vf _ => true | _ => false

/-- Is PF0 or a VF without a serving channel for the moment: from the relinquish instant d to H (15 R462)? A channel that
does not yet see its twin's HOLD_CTL deasserted has a takeover before it where it is STANDBY. -/
def beforeH (other c : Channel) : Bool :=
  (match c.seam.takeover with | some t => !t.opened | none => false) ||
    (c.boot.mode == .standby && c.seam.twinHold && other.boot.powered && !other.seam.holdCtl)
def bridgeHolds (s : State) : Bool := beforeH s.b s.a || beforeH s.a s.b

/-- Does the bridge carry a path's requests: it has not failed, and its link is trained (15 R449, R450; 01 R20)? A service port does not pass through it. -/
def bridgeCarries (s : State) (p : Path) : Bool :=
  match p with
  | .svc _ _ => true
  | .vf n => !s.bridge.failed && s.bridge.speed != 0 && s.bridge.vfEnable && decide (1 ≤ n ∧ n ≤ s.bridge.numVfs)
  | _ => !s.bridge.failed && s.bridge.speed != 0

/-- The bridge holds a request of PF0 or a VF, counted on the channel that is to serve (15 R462). -/
def holdRequest (i : Instr) (s : State) : State :=
  let s1 := { s with bridge := { s.bridge with held := s.bridge.held ++ [(i, max s.a.time.up s.b.time.up)] } }
  if beforeH s.b s.a then { s1 with a := bump 0x2A00 0x05 s1.a } else { s1 with b := bump 0x2A00 0x05 s1.b }

/-- Requests held for a takeover that came to nothing are completed with Completer Abort (15 R463; log entry 26). -/
def abortHeld (s : State) : State :=
  if s.bridge.held.isEmpty then s
  else
    let s1 := { s with bridge := { s.bridge with held := [] } }
    let n := s.bridge.held.length
    match leadChan s with
    | .a => { s1 with a := bumpN 0x2A00 0x07 n s1.a }
    | .b => { s1 with b := bumpN 0x2A00 0x07 n s1.b }

/-- A command through an access path acts on the channel it reaches, once the bridge carries it; `i` is the command, which
the bridge holds where a takeover is before it. -/
def onPath (p : Path) (i : Instr) (f : Channel → Channel) (s : State) : Host.Outcome State Fault Refusal :=
  if !bridgeCarries s p then .next s
  else if pathBoth p && bridgeHolds s then .next (holdRequest i s)
  else onChan (pathChan s p) f (if pathBoth p then abortHeld s else s)

/-- The function number of a path: PF0 0, VF n, 65 for PF1 and PF2 (the channel's own), 66 for a service port. -/
def pathFn (p : Path) : Nat := match p with | .pf0 => 0 | .vf n => n | .pf1 => 65 | .pf2 => 65 | .svc _ _ => 66

end Sys2Proof.Machine
end

