-- ==== Sys2Proof/Machine/Operators.lean ====
section
/-! DEFINITION. The library operators (09): what each computes in a firing, from its state, settings, inputs and
instant alone (05 R157). Sequences of several roundings are taken in this text's order, moved by the units of the
last place the compiled order gives (R281; log entry 3). -/
namespace Sys2Proof.Machine

/-- What a firing computes from: settings, trigger rate T⁻¹, class, instant in ns, initial payloads. -/
structure OpEnv where
  par : List U32
  rate : Nat
  cls : Nat
  instant : Nat
  inits : List (List U32)
  deriving DecidableEq, Repr

/-- An input as it enters the computation: payload type and words, whether it replaces an invalid value, and whether
it is itself invalid or MISSING (09 R283). -/
structure OpIn where
  ty : Nat
  pay : List U32
  repl : Bool
  bad : Bool
  deriving DecidableEq, Repr

/-- What a firing gives: state, payload of each output, validity raised to questionable, and for how many later firings
a replaced value stands in a window. -/
structure OpOut where
  st : OpState
  outs : List (List U32)
  quest : Bool
  keep : Nat
  deriving DecidableEq, Repr

/-- A result of several roundings: free where the order of operations may show in it, else the one value that every order
gives (R281; log entry 3). -/
def fuzz (shows : Bool) (k : Nat) (l : List U32) (x : F32) : F32 := if shows then f32Ulps x (Config.orderUlps k l) else x

/-- How many of the numbers are not zero. -/
def nonZero (l : List F32) : Nat := (l.filter (fun x => !f32IsZero x)).length

/-- May the order show in the mean of the numbers? -/
def meanShows (l : List F32) : Bool := decide (2 ≤ l.length ∧ 0 < nonZero l)

/-- May the order show in a sum of products: three terms or more, or two of which one is rounded? -/
def dotShows (l : List (F32 × F32)) : Bool :=
  let nz := l.filter (fun x => !f32IsZero x.1 && !f32IsZero x.2)
  decide (2 < nz.length) || (nz.length == 2 && nz.any (fun x => !f32MulExact x.1 x.2))
def setting (e : OpEnv) (i : Nat) : U32 := nth e.par i 0
def settingN (e : OpEnv) (i : Nat) : Nat := (setting e i).toNat
def stw (s : OpState) (i : Nat) : U32 := nth s.w i 0
def stn (s : OpState) (i : Nat) : Nat := (stw s i).toNat
def wordOf (b : Bool) : U32 := if b then 1 else 0
/-- A number in a word; a count stops at the greatest word, which is above every delay in firings (R284). -/
def natWord (n : Nat) : U32 := BitVec.ofNat 32 (min n 0xFFFFFFFF)

/-- ⌈time / T⌉ in firings (09 R284). -/
def firings (e : OpEnv) (us : Nat) : Nat := (us * e.rate + 999999) / 1000000

/-- T in seconds. -/
def secT (e : OpEnv) : F32 := f32OfRat 1 e.rate

def f32One : F32 := 0x3F800000#32
def f32Two : F32 := 0x40000000#32
def f32Half : F32 := 0x3F000000#32
/-- π and 180/π. -/
def f32Pi : F32 := 0x40490FDB#32
def degPerRad : F32 := 0x42652EE1#32
def radOf (deg : F32) : F32 := f32Div deg degPerRad

/-- A measurement input in primary units (09 R280). -/
def value (scale : F32) (x : OpIn) : F32 :=
  let w := nth x.pay 0 0
  if x.ty = 2 then f32Mul (f32OfInt w.toInt) scale else w

def reOf (x : OpIn) : F32 := nth x.pay 0 0
def imOf (x : OpIn) : F32 := nth x.pay 1 0

/-- Magnitude of a complex value. -/
def cmag (k : Nat) (z : F32 × F32) : F32 := fuzz (nonZero [z.1, z.2] == 2) k [z.1, z.2] (f32Sqrt (f32Add (f32Mul z.1 z.1) (f32Mul z.2 z.2)))

/-- Phasor magnitude, or |x| after the input scale (09 R688). -/
def magnitude (scale : F32) (x : OpIn) : F32 := if x.ty = 5 then cmag 1 (reOf x, imOf x) else f32Abs (value scale x)

def cadd (a b : F32 × F32) : F32 × F32 := (f32Add a.1 b.1, f32Add a.2 b.2)
def cmul (a b : F32 × F32) : F32 × F32 :=
  (f32Sub (f32Mul a.1 b.1) (f32Mul a.2 b.2), f32Add (f32Mul a.1 b.2) (f32Mul a.2 b.1))
def cscale (k : F32) (a : F32 × F32) : F32 × F32 := (f32Mul k a.1, f32Mul k a.2)
def conj (a : F32 × F32) : F32 × F32 := (a.1, f32Neg a.2)
def cfuzz (shows : Bool) (k : Nat) (l : List U32) (z : F32 × F32) : F32 × F32 := (fuzz shows k l z.1, fuzz shows (k + 1) l z.2)
def cplx (x : OpIn) : F32 × F32 := (reOf x, imOf x)
def inAt (l : List OpIn) (i : Nat) : OpIn := nth l i ⟨4, [0, 0], false, false⟩
/-- A BOOL input that may be absent (09 R689). -/
def boolAt (l : List OpIn) (i : Nat) : Bool :=
  match l[i]? with
  | some x => decide (nth x.pay 0 0 ≠ 0)
  | none => false
def words (l : List OpIn) : List U32 := l.flatMap (fun x => x.pay)

/-- Angle in radians. -/
def angle (z : F32 × F32) : F32 := Config.atan2F z.2 z.1

/-- An angle in radians brought into −π to π. -/
def wrapRad (x : F32) : F32 :=
  if f32Lt f32Pi x then f32Sub x (f32Mul f32Two f32Pi) else if f32Lt x (f32Neg f32Pi) then f32Add x (f32Mul f32Two f32Pi) else x
def deg180 : F32 := f32OfInt 180
/-- An angle in degrees brought into −180 to 180, from up to three turns away. -/
def wrapDegOnce (x : F32) : F32 :=
  if f32Lt deg180 x then f32Sub x (f32OfInt 360) else if f32Lt x (f32Neg deg180) then f32Add x (f32OfInt 360) else x
def wrapDeg (x : F32) : F32 := wrapDegOnce (wrapDegOnce x)

/-! ### Threshold stages (09 R284) -/

/-- START from the started state: over at or above p, dropping below `drop`; under the other way round. -/
def startOf (past was : Bool) (p drop q : F32) : Bool :=
  if past then (if was then !f32Lt q drop else f32Le p q) else (if was then !f32Lt drop q else f32Le q p)

/-- The count of firings with START, kept for `nRs` firings after START drops; OP at a count of nOp + 1. -/
def timerOf (nOp nRs : Nat) (start : Bool) (count kept : Nat) : Nat × Nat × Bool :=
  if start then (count + 1, 0, decide (nOp + 1 ≤ count + 1))
  else if count = 0 then (0, 0, false)
  else if kept + 1 ≤ nRs then (count, kept + 1, false)
  else (0, 0, false)

/-- A stage: its three words (started, count, firings kept); a replaced value leaves it as it is (09 R283). -/
def stageOf (past : Bool) (p drop : F32) (nOp nRs : Nat) (hold : Bool) (q : F32) (s : OpState) (i : Nat) : List U32 × Bool × Bool :=
  if hold then ([stw s i, stw s (i + 1), stw s (i + 2)], stw s i != 0, stw s i != 0 && decide (nOp + 1 ≤ stn s (i + 1)))
  else
    let st := startOf past (stw s i != 0) p drop q
    let t := timerOf nOp nRs st (stn s (i + 1)) (stn s (i + 2))
    ([wordOf st, natWord t.1, natWord t.2.1], st, t.2.2)

/-- Is some input of the firing a replaced one? -/
def held (l : List OpIn) : Bool := l.any (fun x => x.repl)

/-- The four settings of a stage from place i: p, r·p, ⌈t_op/T⌉, ⌈t_rs/T⌉. -/
def stageSet (e : OpEnv) (i : Nat) : F32 × F32 × Nat × Nat :=
  (setting e i, f32Mul (setting e (i + 1)) (setting e i), firings e (settingN e (i + 2)), firings e (settingN e (i + 3)))

/-- A window with a row more, newest first. -/
def pushWin (n : Nat) (row : List U32) (s : OpState) : List (List U32) := (row :: s.win).take n

def f32SumL (l : List F32) : F32 := match l with | [] => 0 | x :: r => r.foldl f32Add x

/-! ### AC functions -/

/-- PHASOR (09 R287): DFT over N or N/2 samples, RMS, angle against a cosine whose phase is zero at each second. -/
def phasorOp (e : OpEnv) (s : OpState) (ins : List OpIn) : OpOut :=
  let n := settingN e 1
  let m := if settingN e 0 = 1 then n / 2 else n
  let smp := e.instant % 1000000000 * e.rate / 1000000000
  let idx := (smp + (if (e.instant % 1000000000 * e.rate) % 1000000000 ≥ 500000000 then 1 else 0)) % max n 1
  let win := pushWin m (natWord idx :: ins.map (value (setting e 2))) s
  let k := f32Div (f32Sqrt f32Two) (f32OfInt m)
  let out (p : Nat) : List U32 :=
    let z := win.foldl (fun (a : F32 × F32) r =>
      let th := f32Mul (f32Mul f32Two f32Pi) (f32Div (f32OfInt (nth r 0 0).toNat) (f32OfInt n))
      let x := nth r (p + 1) 0
      (f32Add a.1 (f32Mul x (Config.cosF th)), f32Sub a.2 (f32Mul x (Config.sinF th)))) (0, 0)
    let y := cfuzz (decide (0 < nonZero (win.map (fun r => nth r (p + 1) 0)))) 0x1010 (win.flatMap (fun r => r)) (cscale k z)
    [y.1, y.2]
  { st := { s with win := win }, outs := (List.range ins.length).map out, quest := false, keep := m - 1 }

/-- a = e^(j120°). -/
def rotA : F32 × F32 := (f32Neg f32Half, 0x3F5DB3D7#32)

/-- SEQ (09 R687). -/
def seqOp (e : OpEnv) (s : OpState) (ins : List OpIn) : OpOut :=
  let a := cplx (inAt ins 0)
  let b := cplx (inAt ins (if settingN e 0 = 1 then 2 else 1))
  let c := cplx (inAt ins (if settingN e 0 = 1 then 1 else 2))
  let third (z : F32 × F32) : F32 × F32 := (f32Div z.1 (f32OfInt 3), f32Div z.2 (f32OfInt 3))
  let a2 := conj rotA
  let f (k : Nat) (z : F32 × F32) : List U32 := let y := cfuzz (decide (0 < nonZero (words ins))) k (words ins) (third z); [y.1, y.2]
  { st := s, quest := false, keep := 0,
    outs := [f 0x1020 (cadd a (cadd b c)), f 0x1022 (cadd a (cadd (cmul rotA b) (cmul a2 c))),
             f 0x1024 (cadd a (cadd (cmul a2 b) (cmul rotA c)))] }

/-- OCI (09 R688). -/
def ociOp (e : OpEnv) (s : OpState) (ins : List OpIn) : OpOut :=
  let g := stageSet e 1
  let r := stageOf true g.1 g.2.1 g.2.2.1 g.2.2.2 false (magnitude (setting e 0) (inAt ins 0)) s 0
  { st := { s with w := r.1 }, outs := [[wordOf r.2.1], [wordOf r.2.2]], quest := false, keep := 0 }

/-- Curve constants A, B and tr (09 R288), in 1/10000. -/
def curveAK (c : Nat) : Nat := nth [0, 1400, 135000, 800000, 1200000, 515, 196100, 282000] c 0
def curveBK (c : Nat) : Nat := nth [0, 0, 0, 0, 0, 1140, 4910, 1217] c 0
def curveTrK (c : Nat) : Nat := nth [0, 0, 0, 0, 0, 48500, 216000, 291000] c 0
def curveA (c : Nat) : F32 := f32OfRat (curveAK c) 10000
def curveB (c : Nat) : F32 := f32OfRat (curveBK c) 10000
def curveTr (c : Nat) : F32 := f32OfRat (curveTrK c) 10000
def curvePow (c : Nat) (x : F32) : F32 :=
  if c = 2 ∨ c = 4 then x else if c = 3 ∨ c = 6 ∨ c = 7 then f32Mul x x else Config.powF x (f32OfRat 2 100)

/-- t(G) in seconds (09 R288). -/
def octTime (e : OpEnv) (g : F32) : F32 :=
  let c := settingN e 1
  if c = 0 then f32OfRat (settingN e 4) 1000000
  else
    let ratio := f32Div g (setting e 2)
    fuzz true 0x1040 [g] (f32Mul (setting e 3) (f32Add (f32Div (curveA c) (f32Sub (curvePow c ratio) f32One)) (curveB c)))

/-- ⌈t(1.1·Gs) / T⌉ (09 R308), exact where p is 1 or 2: A / 0.1 and A / 0.21. -/
def octSlowest (c : Nat) (tms : F32) (rate : Nat) : Nat :=
  if c = 2 ∨ c = 4 then f32CeilMul tms ((10 * curveAK c + curveBK c) * rate) 10000
  else if c = 3 ∨ c = 6 ∨ c = 7 then f32CeilMul tms ((100 * curveAK c + 21 * curveBK c) * rate) 210000
  else f32CeilMul (f32Mul tms (f32Add (f32Div (curveA c) (f32Sub (curvePow c (f32OfRat 11 10)) f32One)) (curveB c))) rate 1

/-- The integrator in a firing with START clear, by reset mode (09 R288); with how long START has been clear. -/
def octReset (e : OpEnv) (g integ : F32) (clear : Nat) : F32 :=
  let mode := settingN e 6
  if mode = 0 then 0
  else if mode = 1 then (if clear ≤ firings e (settingN e 7) then integ else 0)
  else if f32Lt g (setting e 2) then
    let r := f32Div g (setting e 2)
    let d := f32Div (secT e) (f32Div (f32Mul (setting e 3) (curveTr (settingN e 1))) (f32Sub f32One (f32Mul r r)))
    f32Max 0 (fuzz true 0x1042 [g, integ] (f32Sub integ d))
  else integ

/-- OCT (09 R288). State: START, integrator, firings with START, OP, firings since START cleared. -/
def octOp (e : OpEnv) (s : OpState) (ins : List OpIn) : OpOut :=
  let gs := setting e 2
  let g := f32Min (magnitude (setting e 0) (inAt ins 0)) (f32Mul (f32OfInt 20) gs)
  let st := startOf true (stw s 0 != 0) (f32Mul (f32OfRat 11 10) gs) (f32Mul (f32OfRat 105 100) gs) g
  if st then
    let integ := fuzz true 0x1044 [g, stw s 1] (f32Add (stw s 1) (f32Div (secT e) (octTime e g)))
    let cnt := stn s 2 + 1
    let op := stw s 3 != 0 || (f32Le f32One integ && decide (firings e (settingN e 5) + 1 ≤ cnt))
    { st := { s with w := [1, integ, natWord cnt, wordOf op, 0] }, outs := [[1], [wordOf op]], quest := false, keep := 0 }
  else
    let clear := stn s 4 + 1
    { st := { s with w := [0, octReset e g (stw s 1) clear, 0, 0, natWord clear] }, outs := [[0], [0]], quest := false, keep := 0 }

/-- DIR (09 R289). -/
def dirOp (e : OpEnv) (s : OpState) (ins : List OpIn) : OpOut :=
  let o := cplx (inAt ins 0)
  let p := cplx (inAt ins 1)
  let low := f32Lt (cmag 1 o) (setting e 3) || f32Lt (cmag 1 p) (setting e 2)
  let d := wrapDeg (fuzz true 0x1050 (words ins) (f32Sub (f32Mul (f32Sub (angle o) (angle p)) degPerRad) (setting e 0)))
  let fwd := f32Le (f32Abs d) (setting e 1)
  let rev := f32Le (f32Abs (wrapDeg (f32Sub d deg180))) (setting e 1)
  { st := s, outs := [[wordOf (!low && fwd)], [wordOf (!low && rev)]], quest := low, keep := 0 }

/-- DIFF (09 R290). State: count of firings with START. -/
def diffOp (e : OpEnv) (s : OpState) (ins : List OpIn) : OpOut :=
  let k := settingN e 1
  let base := 2 + k
  let c (i : Nat) : F32 := setting e (2 + i)
  let term (i : Nat) : F32 × F32 :=
    let x := inAt ins i
    cscale (c i) (if x.ty = 5 then cplx x else (value (setting e 0) x, 0))
  let ts := (List.range ins.length).map term
  let real := (inAt ins 0).ty != 5
  let sum := ts.foldl cadd (0, 0)
  let mag (z : F32 × F32) : F32 := if real then f32Abs z.1 else cmag 2 z
  let ws := (List.range ins.length).map c
  let vals := ins.map (fun x => if x.ty = 5 then reOf x else value (setting e 0) x)
  let shows := if real then dotShows (ws.zip vals) else decide (0 < nonZero (words ins))
  let id := fuzz shows 0x1060 (words ins) (mag sum)
  let ir := fuzz shows 0x1061 (words ins) (f32Mul f32Half (f32SumL (ts.map mag)))
  let idMin := setting e base
  let s1 := setting e (base + 1)
  let knee := setting e (base + 2)
  let s2 := setting e (base + 3)
  let th := if f32Le ir knee then f32Max idMin (f32Mul s1 ir)
    else f32Max idMin (fuzz (!f32IsZero s2) 0x1062 [ir] (f32Add (f32Mul s1 knee) (f32Mul s2 (f32Sub ir knee))))
  let st := f32Le th id
  let t := timerOf (firings e (settingN e (base + 5))) 0 st (stn s 0) 0
  { st := { s with w := [natWord t.1] }, quest := false, keep := 0,
    outs := [[wordOf st], [wordOf t.2.2], [wordOf (f32Le (setting e (base + 4)) id)]] }

/-- UVOV (09 R291). State: started ports as a mask, count, firings kept. -/
def uvovOp (e : OpEnv) (s : OpState) (ins : List OpIn) : OpOut :=
  let past := settingN e 1 = 1
  let g := stageSet e 3
  let ms := ins.map (magnitude (setting e 0))
  let block := !past && ms.all (fun m => f32Lt m (setting e 7))
  let ports := (List.range ins.length).map (fun i =>
    let was := (stw s 0).getLsbD i
    startOf past was g.1 g.2.1 (nth ms i 0) && (was || !block))
  let st := if settingN e 2 = 1 then ports.all (fun b => b) else ports.any (fun b => b)
  let t := timerOf g.2.2.1 g.2.2.2 st (stn s 1) (stn s 2)
  let mask := ((List.range ports.length).zip ports).foldl (fun n x => if x.2 then n + 2 ^ x.1 else n) 0
  { st := { s with w := [natWord mask, natWord t.1, natWord t.2.1] }, outs := [[wordOf st], [wordOf t.2.2]], quest := false, keep := 0 }

/-- Frequency from a window of wrapped angle changes over W firings (09 R292, R294): Δφ / (2π·W·T). -/
def slip (e : OpEnv) (w : Nat) (diffs : List F32) : F32 :=
  fuzz (decide (0 < nonZero (diffs.take w))) 0x1080 diffs (f32Div (f32SumL (diffs.take w)) (f32Mul (f32Mul f32Two f32Pi) (f32Mul (f32OfInt w) (secT e))))

/-- FREQ (09 R292). Window rows: angle, its change, frequency. State: stage (3 words), count of the ROCOF stage. -/
def freqOp (e : OpEnv) (s : OpState) (ins : List OpIn) : OpOut :=
  let z := cplx (inAt ins 0)
  let w := settingN e 8
  let fnom := f32OfInt (settingN e 0)
  let phi := angle z
  let d := match s.win.head? with | some r => wrapRad (f32Sub phi (nth r 0 0)) | none => 0
  let diffs := d :: s.win.map (fun r => nth r 1 0)
  let low := f32Lt (cmag 1 z) (setting e 9)
  let f := if low then fnom else f32Add fnom (slip e w diffs)
  let win := pushWin (w + 1) [phi, d, f] s
  let old := (nth win w [0, 0, f])
  let rocof := fuzz (!f32Eq f (nth old 2 f)) 0x1082 [f, nth old 2 f] (f32Div (f32Sub f (nth old 2 f)) (f32Mul (f32OfInt w) (secT e)))
  let past := settingN e 1 = 1
  let p := setting e 2
  let drop := if past then f32Sub p (setting e 3) else f32Add p (setting e 3)
  let st := !low && startOf past (stw s 0 != 0) p drop f
  let t := timerOf (firings e (settingN e 4)) (firings e (settingN e 5)) st (stn s 1) (stn s 2)
  let rp := setting e 6
  let rs := !low && !f32IsZero rp && f32Le rp (f32Abs rocof)
  let rt := timerOf (firings e (settingN e 7)) 0 rs (stn s 3) 0
  { st := { w := [wordOf st, natWord t.1, natWord t.2.1, natWord rt.1], win := win }, quest := low, keep := 0,
    outs := [[f], [rocof], [wordOf st], [wordOf t.2.2], [wordOf rt.2.2]] }

/-- RPW (09 R293). -/
def rpwOp (e : OpEnv) (s : OpState) (ins : List OpIn) : OpOut :=
  let th := radOf (setting e 5)
  let rot (z : F32 × F32) : F32 × F32 := if f32IsZero (setting e 5) then z else cmul z (Config.cosF th, Config.sinF th)
  let vi (v i : Nat) : F32 := (cmul (cplx (inAt ins v)) (conj (rot (cplx (inAt ins i))))).1
  let p0 := if settingN e 0 = 1 then f32Mul (f32OfInt 3) (vi 0 1) else f32Add (f32Add (vi 0 3) (vi 1 4)) (vi 2 5)
  let p := fuzz (decide (0 < nonZero (words ins))) 0x1090 (setting e 5 :: words ins) p0
  let g := stageSet e 1
  let r := stageOf true g.1 g.2.1 g.2.2.1 g.2.2.2 false (f32Neg p) s 0
  { st := { s with w := r.1 }, outs := [[p], [wordOf r.2.1], [wordOf r.2.2]], quest := false, keep := 0 }

/-- SYNC (09 R294). Window rows: angle difference, its change. -/
def syncOp (e : OpEnv) (s : OpState) (ins : List OpIn) : OpOut :=
  let a := cplx (inAt ins 0)
  let b := cplx (inAt ins 1)
  let ma := cmag 1 a
  let mb := cmag 1 b
  let dphi := wrapRad (f32Sub (angle b) (angle a))
  let d := match s.win.head? with | some r => wrapRad (f32Sub dphi (nth r 0 0)) | none => 0
  let w := settingN e 6
  let df := slip e w (d :: s.win.map (fun r => nth r 1 0))
  let live (m : F32) : Bool := f32Le (setting e 3) m
  let dead (m : F32) : Bool := f32Lt m (setting e 4)
  let du := fuzz (!f32Eq ma mb) 0x10A0 [ma, mb] (f32Mul (f32Div (f32Abs (f32Sub mb ma)) ma) (f32OfInt 100))
  let inSync := live ma && live mb && f32Le du (setting e 0) && f32Le (f32Abs df) (setting e 1) &&
    f32Le (f32Abs (f32Mul dphi degPerRad)) (setting e 2)
  let mode := settingN e 5
  let deadRef := dead ma && live mb
  let deadInc := live ma && dead mb
  let ok := (deadRef && (mode == 1 || mode == 3 || mode == 4)) || (deadInc && (mode == 2 || mode == 3 || mode == 4)) ||
    (dead ma && dead mb && mode == 4)
  { st := { s with win := pushWin w [dphi, d] s }, outs := [[wordOf (inSync || ok)]], quest := false, keep := 0 }

/-- BF (09 R295). State: consecutive firings with INIT and the condition. -/
def bfOp (e : OpEnv) (s : OpState) (ins : List OpIn) : OpOut :=
  let init := nth (inAt ins 1).pay 0 0 != 0
  let cb := boolAt ins 2
  let cur := f32Le (setting e 2) (magnitude (setting e 0) (inAt ins 0))
  let mode := settingN e 1
  let cond := if mode = 0 then cur else if mode = 1 then cb else cur || cb
  let n := if init && cond then stn s 0 + 1 else 0
  let on (us : Nat) : Bool := decide (0 < n ∧ firings e us + 1 ≤ n)
  { st := { s with w := [natWord n] }, outs := [[wordOf (on (settingN e 3))], [wordOf (on (settingN e 4))]], quest := false, keep := 0 }

/-- THERM (09 R296). State: θ, ALARM, OP. -/
def thermOp (e : OpEnv) (s : OpState) (ins : List OpIn) : OpOut :=
  let b := f32Mul (setting e 1) (setting e 1)
  let sq (x : OpIn) : F32 := let m := magnitude (setting e 0) x; f32Mul m m
  let q := fuzz (decide (0 < nonZero (words ins))) 0x10C0 (words ins) (f32Div (f32SumL (ins.map sq)) b)
  let th := stw s 0
  let tau := if f32Lt th q then setting e 2 else setting e 3
  let th1 := fuzz (!f32Eq th q) 0x10C1 [th, q] (f32Add th (f32Mul (f32Div (f32OfRat 1 1000) tau) (f32Sub q th)))
  let alarm := startOf true (stw s 1 != 0) (setting e 4) (f32Sub (setting e 4) (f32OfRat 2 100)) th1
  let op := startOf true (stw s 2 != 0) (setting e 5) (setting e 6) th1
  { st := { s with w := [th1, wordOf alarm, wordOf op] }, outs := [[th1], [wordOf alarm], [wordOf op]], quest := false, keep := 0 }

/-! ### DC functions and earth fault -/

/-- The position of the least magnitude, the first on a tie, from 1. -/
def lowestOf : Nat → Nat → F32 → List F32 → Nat
  | _, best, _, [] => best
  | i, best, m, x :: r => if f32Lt x m then lowestOf (i + 1) i x r else lowestOf (i + 1) best m r

/-- IEF (09 R298, R299). State: alarm count, operate count. Window rows: ASYM of one firing. -/
def iefOp (e : OpEnv) (s : OpState) (ins : List OpIn) : OpOut :=
  let dc := settingN e 0 = 0
  let w := settingN e 2
  let vp := value (setting e 1) (inAt ins 0)
  let vm := value (setting e 1) (inAt ins 1)
  let a := cplx (inAt ins 0)
  let b := cplx (inAt ins 1)
  let c := cplx (inAt ins 2)
  let v0 := cmag 3 (cadd a (cadd b c))
  let v1 := cmag 4 (cadd a (cadd (cmul rotA b) (cmul (conj rotA) c)))
  let den := if dc then f32Abs (f32Sub vp vm) else f32Div v1 (f32OfInt 3)
  let low := f32Lt den (setting e 7)
  let x := if low then 0 else fuzz (!dc && decide (0 < nonZero (words ins))) 0x10D0 (words ins) (if dc then f32Div (f32Add vp vm) (f32Sub vp vm) else f32Div v0 v1)
  let win := pushWin w [x] s
  let xs := win.map (fun r => nth r 0 0)
  let asym := if low then 0 else fuzz (meanShows xs) 0x10D1 xs (f32Div (f32SumL xs) (f32OfInt xs.length))
  let m := f32Abs asym
  let h := held ins
  let na := if low then 0 else if h then stn s 0 else (timerOf 0 0 (f32Le (setting e 3) m) (stn s 0) 0).1
  let no := if low then 0 else if h then stn s 1 else (timerOf 0 0 (f32Le (setting e 5) m) (stn s 1) 0).1
  let alarm := decide (0 < na ∧ firings e (settingN e 4) + 1 ≤ na)
  let op := decide (0 < no ∧ firings e (settingN e 6) + 1 ≤ no)
  let pole : U32 := if !alarm then 0
    else if dc then (if f32Sign asym then 1 else BitVec.ofInt 32 (-1))
    else natWord (lowestOf 1 1 (f32Inf false) [cmag 1 a, cmag 1 b, cmag 1 c])
  { st := { w := [natWord na, natWord no], win := win }, quest := low, keep := w - 1,
    outs := [[asym], [pole], [wordOf alarm], [wordOf op]] }

/-- q by direction (09 R300): 0 |I|, 1 max(I, 0), 2 max(−I, 0). -/
def dirValue (dir : Nat) (i : F32) : F32 := if dir = 0 then f32Abs i else if dir = 1 then f32Max i 0 else f32Max (f32Neg i) 0

/-- DCOC (09 R300). State: stage 1 started and its count, then stage 2. Window: the last W values of q. -/
def dcocOp (e : OpEnv) (s : OpState) (ins : List OpIn) : OpOut :=
  let q := dirValue (settingN e 0) (value (setting e 1) (inAt ins 0))
  let h := (inAt ins 0).repl
  let p1 := setting e 2
  let w := settingN e 5
  let st1 := if h then stw s 0 != 0 else startOf true (stw s 0 != 0) p1 (f32Mul (f32OfRat 95 100) p1) q
  let n1 := if h then stn s 1 else if st1 then stn s 1 + 1 else 0
  let op1 := decide (0 < n1 ∧ settingN e 3 ≤ n1)
  let win := pushWin w [q] s
  let qs := win.map (fun r => nth r 0 0)
  let mean := fuzz (meanShows qs) 0x2010 qs (f32Div (f32SumL qs) (f32OfInt qs.length))
  let derate := boolAt ins 1
  let p2 := if derate then f32Mul (setting e 4) (setting e 8) else setting e 4
  let r := stageOf true p2 (f32Mul (setting e 7) p2) (firings e (settingN e 6)) 0 h mean s 2
  { st := { w := wordOf st1 :: natWord n1 :: r.1, win := win }, quest := false, keep := if h then w - 1 else 0,
    outs := [[wordOf (st1 || r.2.1)], [wordOf op1], [wordOf r.2.2]] }

/-- DCDI (09 R301). State: firings with START. Window: the last M + 1 values of q. -/
def dcdiOp (e : OpEnv) (s : OpState) (ins : List OpIn) : OpOut :=
  let q := dirValue (settingN e 0) (value (setting e 1) (inAt ins 0))
  let m := settingN e 3
  let win := pushWin (m + 1) [q] s
  let old := nth (nth win m (nth win (win.length - 1) [q])) 0 q
  let span := f32OfRat (m * 1000000) e.rate
  let didt := fuzz (!f32Eq q old) 0x2020 [q, old] (f32Div (f32Sub q old) span)
  let st := f32Le (setting e 2) didt && f32Le (setting e 4) q
  let n := if (inAt ins 0).repl then stn s 0 else if st then stn s 0 + 1 else 0
  { st := { w := [natWord n], win := win }, quest := false, keep := m,
    outs := [[wordOf (decide (0 < n))], [wordOf (decide (0 < n ∧ settingN e 5 ≤ n))], [didt]] }

/-- The greatest deviation and the lowest port that has it. -/
def worstOf : Nat → Nat → F32 → List F32 → Nat × F32
  | _, best, m, [] => (best, m)
  | i, best, m, x :: r => if f32Lt m x then worstOf (i + 1) i x r else worstOf (i + 1) best m r

/-- DCSI (09 R302). State: the stage. Window rows: one firing's currents. -/
def dcsiOp (e : OpEnv) (s : OpState) (ins : List OpIn) : OpOut :=
  let w := settingN e 1
  let win := pushWin w (ins.map (value (setting e 0))) s
  let flat := win.flatMap (fun r => r)
  let port (k : Nat) : List F32 := win.map (fun r => nth r k 0)
  let mean (k : Nat) : F32 := fuzz (meanShows (port k)) (0x2030 + k) flat (f32Div (f32SumL (port k)) (f32OfInt win.length))
  let ms := (List.range ins.length).map mean
  let mu := fuzz (meanShows ms) 0x2050 ms (f32Div (f32SumL ms) (f32OfInt ms.length))
  let ds := ms.map (fun m => f32Abs (f32Sub m mu))
  let wst := match ds with | x :: r => worstOf 1 0 x r | [] => (0, 0)
  let p := f32Max (setting e 3) (f32Mul (setting e 2) (f32Abs mu))
  let r := stageOf true p (f32Mul (f32OfRat 95 100) p) (firings e (settingN e 4)) (firings e (settingN e 5)) (held ins) wst.2 s 0
  { st := { w := r.1, win := win }, outs := [[wordOf r.2.2], [natWord wst.1], [wst.2]], quest := false, keep := w - 1 }

/-! ### Utility operators (09 R304) -/

/-- SUM. -/
def sumOp (e : OpEnv) (s : OpState) (ins : List OpIn) : OpOut :=
  let wt (i : Nat) : F32 := setting e (1 + i)
  let part (x : OpIn) : F32 × F32 := if x.ty = 5 then cplx x else (value f32One x, 0)
  let ts := ((List.range ins.length).zip ins).map (fun x => (wt x.1, part x.2))
  let sum (f : F32 × F32 → F32) (k : Nat) : F32 :=
    fuzz (dotShows (ts.map (fun t => (t.1, f t.2)))) k (words ins) (f32SumL (ts.map (fun t => f32Mul t.1 (f t.2))))
  let y : F32 × F32 := (sum (fun z => z.1) 0x3010, sum (fun z => z.2) 0x3011)
  { st := s, outs := [if (inAt ins 0).ty = 5 then [y.1, y.2] else [y.1]], quest := false, keep := 0 }

/-- SCALE: the product may be rounded before the offset is added, or not (log entry 3). -/
def scaleOp (e : OpEnv) (s : OpState) (ins : List OpIn) : OpOut :=
  let x := inAt ins 0
  let v := if x.ty = 3 then f32OfScaled (nth x.pay 0 0).toInt (-31) else value f32One x
  let a := setting e 0
  let y := if Config.orderUlps 0x3020 [a, v, setting e 1] = 0 then f32Add (f32Mul a v) (setting e 1) else f32Fma a v (setting e 1)
  { st := s, outs := [[y]], quest := false, keep := 0 }

/-- DELAY: the payload of N firings earlier; the initial state before there is one. -/
def delayOp (e : OpEnv) (s : OpState) (ins : List OpIn) : OpOut :=
  let n := settingN e 0
  { st := { s with win := pushWin n (inAt ins 0).pay s }, outs := [nth s.win (n - 1) (nth e.inits 0 [0])], quest := false, keep := 0 }

/-- CMP. State: the output. -/
def cmpOp (e : OpEnv) (s : OpState) (ins : List OpIn) : OpOut :=
  let past := settingN e 0 = 0
  let th := setting e 1
  let drop := if past then f32Sub th (setting e 2) else f32Add th (setting e 2)
  let o := startOf past (stw s 0 != 0) th drop (value f32One (inAt ins 0))
  { st := { s with w := [wordOf o] }, outs := [[wordOf o]], quest := false, keep := 0 }

/-- HOLD. State: a count, IN before, the latch or whether IN has been TRUE. -/
def holdOp (e : OpEnv) (s : OpState) (ins : List OpIn) : OpOut :=
  let inp := nth (inAt ins 0).pay 0 0 != 0
  let rst := boolAt ins 1
  let n := firings e (settingN e 1)
  let mode := settingN e 0
  let was := stw s 1 != 0
  if mode = 0 then
    let c := if inp then stn s 0 + 1 else 0
    { st := { s with w := [natWord c, wordOf inp, 0] }, outs := [[wordOf (decide (n + 1 ≤ c))]], quest := false, keep := 0 }
  else if mode = 1 then
    let seen := inp || stw s 2 != 0
    let c := if inp then 0 else stn s 0 + 1
    { st := { s with w := [natWord c, wordOf inp, wordOf seen] }, outs := [[wordOf (inp || (seen && decide (c ≤ n)))]], quest := false, keep := 0 }
  else if mode = 2 then
    let c := if stn s 0 = 0 ∧ inp ∧ !was then max n 1 else stn s 0
    { st := { s with w := [natWord (c - 1), wordOf inp, 0] }, outs := [[wordOf (decide (0 < c))]], quest := false, keep := 0 }
  else
    let l := !rst && (inp || stw s 2 != 0)
    { st := { s with w := [0, wordOf inp, wordOf l] }, outs := [[wordOf l]], quest := false, keep := 0 }

/-- TRIP (09 R305). The one "output" is the value the signal is driven with. State: signal, firings it still stays. -/
def tripOp (e : OpEnv) (s : OpState) (ins : List OpIn) : OpOut :=
  let x := ins.any (fun i => !i.bad && nth i.pay 0 0 != 0)
  if e.cls = 5 then { st := { s with w := [wordOf x, 0] }, outs := [[wordOf x]], quest := false, keep := 0 }
  else
    let left := if x && stw s 0 == 0 then firings e (settingN e 1) else stn s 1
    let v := x || decide (0 < left)
    { st := { s with w := [wordOf v, natWord (left - 1)] }, outs := [[wordOf v]], quest := false, keep := 0 }

/-- PUB (09 R307): the value it writes. -/
def pubOp (_ : OpEnv) (s : OpState) (ins : List OpIn) : OpOut :=
  { st := s, outs := [(inAt ins 0).pay], quest := false, keep := 0 }

/-- CAP (09 R307): whether it raises its trigger source. State: the input before. -/
def capOp (e : OpEnv) (s : OpState) (ins : List OpIn) : OpOut :=
  let x := nth (inAt ins 0).pay 0 0 != 0
  let fire := x && (settingN e 1 == 1 || stw s 0 == 0)
  { st := { s with w := [wordOf x] }, outs := [[wordOf fire]], quest := false, keep := 0 }

/-! ### The library's figures (09 R285) -/

/-- An operator's rule on invalid input (09 R283): 0 BLOCK, 1 HOLD, 2 PASS, 3 TRIP. -/
def opRule (op : Nat) : Nat :=
  if [0x0101, 0x010C, 0x010D, 0x0201, 0x0202, 0x0203].contains op then 1
  else if op = 0x0306 then 3 else if 0x0300 ≤ op then 2 else 0

/-- Warm-up counts (09 R279, R285). -/
def opWarm (op : Nat) (par : List U32) : Nat :=
  let p (i : Nat) : Nat := (nth par i 0).toNat
  if op = 0x0101 then (if p 0 = 1 then p 1 / 2 else p 1)
  else if op = 0x0103 ∨ op = 0x0104 ∨ op = 0x0106 ∨ op = 0x0107 ∨ op = 0x0109 ∨ op = 0x010B ∨ op = 0x010C then 1
  else if op = 0x0108 then 2 * p 8
  else if op = 0x010A then p 6
  else if op = 0x010D then p 2
  else if op = 0x0201 then 4
  else if op = 0x0202 then p 3
  else if op = 0x0203 then p 1
  else if op = 0x0303 then p 0
  else 0

/-- An instance's initial state (09 R296 for θ; all else clear). -/
def opInit (op : Nat) (par : List U32) : OpState := if op = 0x010C then ⟨[nth par 7 0, 0, 0], []⟩ else ⟨[], []⟩

/-- State words (09 R285), for the Placer and for moves. -/
def opStateWords (r : InstRec) : Nat :=
  let p (i : Nat) : Nat := (nth r.params i 0).toNat
  let k := r.ins.length
  let op := r.op
  if op = 0x0101 then 8 + k * (p 1 + 4)
  else if op = 0x0103 ∨ op = 0x0105 then 2
  else if op = 0x0104 ∨ op = 0x010C then 6
  else if op = 0x0106 ∨ op = 0x0107 ∨ op = 0x0109 ∨ op = 0x010B then 4
  else if op = 0x0108 then 8 + 2 * p 8
  else if op = 0x010A then 8 + p 6
  else if op = 0x010D then 8 + 2 * p 2
  else if op = 0x0201 then 4 + p 5
  else if op = 0x0202 then 4 + p 3
  else if op = 0x0203 then 4 + k * (p 1 + 2)
  else if op = 0x0303 then 2 + p 0 * (match r.ins with | x :: _ => x.words | [] => 1)
  else if op = 0x0304 ∨ op = 0x0307 ∨ op = 0x0308 then 1
  else if op = 0x0305 ∨ op = 0x0306 then 3
  else 0

/-- Worst-case execution time E in ps (09 R285). -/
def opTime (r : InstRec) : Nat :=
  let p (i : Nat) : Nat := (nth r.params i 0).toNat
  let k := r.ins.length
  let op := r.op
  if op = 0x0101 then 900000 + k * (600000 + 15000 * p 1)
  else if op = 0x0102 then 450000
  else if op = 0x0103 then 300000
  else if op = 0x0104 then 650000
  else if op = 0x0105 then 400000
  else if op = 0x0106 then 300000 + 80000 * k
  else if op = 0x0107 then 250000 + 50000 * k
  else if op = 0x0108 then 800000 + 5000 * p 8
  else if op = 0x0109 then 300000 + 60000 * k
  else if op = 0x010A then 700000
  else if op = 0x010B then 350000
  else if op = 0x010C then 2800000 + 600000 * k
  else if op = 0x010D then 500000 + 4000 * p 2
  else if op = 0x0201 then 640000 + 50000 * (k - 1)
  else if op = 0x0202 then 800000 + 30000 * p 3
  else if op = 0x0203 then 400000 + 60000 * k
  else if op = 0x0301 then 100000 + 20000 * k
  else if op = 0x0302 ∨ op = 0x0304 then 80000
  else if op = 0x0303 ∨ op = 0x0305 then 90000
  else if op = 0x0306 then 100000 + 9000 * k
  else if op = 0x0307 then 120000
  else 60000

/-- Commons accesses n per firing (09 R277, R285). -/
def opAccesses (r : InstRec) : Nat :=
  let k := r.ins.length
  let op := r.op
  if op = 0x0101 then 25 + 40 * k
  else if op = 0x0102 then 18
  else if op = 0x0103 ∨ op = 0x010A then 12
  else if op = 0x0104 ∨ op = 0x0105 then 14
  else if op = 0x0106 ∨ op = 0x0203 then 16 + 2 * k
  else if op = 0x0107 then 10 + 2 * k
  else if op = 0x0108 then 28
  else if op = 0x0109 then 14 + 2 * k
  else if op = 0x010B then 16 + 3 * (k - 2)
  else if op = 0x010C then 27 + 24 * k
  else if op = 0x010D then 22 + 2 * k
  else if op = 0x0201 then 22 + 3 * (k - 1)
  else if op = 0x0202 then 25
  else if op = 0x0301 then 4 + 2 * k
  else if op = 0x0302 ∨ op = 0x0304 then 6
  else if op = 0x0303 then 8
  else if op = 0x0305 then 6 + 3 * (k - 1)
  else if op = 0x0306 then 2 * k + 1
  else 3

/-- Code size in KiB (09 R285). -/
def opCode (op : Nat) : Nat :=
  let l : List (Nat × Nat) := [(0x0101, 12), (0x0102, 3), (0x0103, 3), (0x0104, 8), (0x0105, 4), (0x0106, 10), (0x0107, 4),
    (0x0108, 9), (0x0109, 5), (0x010A, 7), (0x010B, 4), (0x010C, 6), (0x010D, 6), (0x0201, 5), (0x0202, 4), (0x0203, 6),
    (0x0301, 2), (0x0302, 1), (0x0303, 2), (0x0304, 1), (0x0305, 2), (0x0306, 2), (0x0307, 3), (0x0308, 1)]
  (kGet l op).getD 0

/-- History length H in firings (09 R308), for a trigger rate. -/
def opHistory (r : InstRec) (rate : Nat) : Nat :=
  let p (i : Nat) : Nat := (nth r.params i 0).toNat
  let d (us : Nat) : Nat := (us * rate + 999999) / 1000000
  let op := r.op
  let k := r.ins.length
  if op = 0x0101 then (if p 0 = 1 then p 1 / 2 else p 1)
  else if op = 0x0103 ∨ op = 0x0109 then 1 + d (p 3) + d (p 4)
  else if op = 0x0107 then 1 + d (p 5) + d (p 6)
  else if op = 0x0104 then
    let t := if p 1 = 0 then d (p 4) else octSlowest (p 1) (nth r.params 3 0) rate
    let rst := if p 6 = 1 then d (p 7) else if p 6 = 2 then f32CeilMul (nth r.params 3 0) (curveTrK (p 1) * rate) 10000 else 0
    1 + max (d (p 5)) t + rst
  else if op = 0x0106 then 1 + d (p (7 + k))
  else if op = 0x0108 then 2 * p 8 + max (d (p 4)) (d (p 7)) + d (p 5)
  else if op = 0x010A then p 6
  else if op = 0x010B then 1 + d (p 4)
  else if op = 0x010D then p 2 + max (d (p 4)) (d (p 6))
  else if op = 0x0201 then max (p 3) (p 5 + d (p 6))
  else if op = 0x0202 then p 3 + p 5
  else if op = 0x0203 then p 1 + d (p 4) + d (p 5)
  else if op = 0x0303 then p 0
  else if op = 0x0305 then (if p 0 = 3 then 1 else 1 + d (p 1))
  else if op = 0x0306 then 1 + d (p 1)
  else 1

end Sys2Proof.Machine
end

