-- ==== Sys2Proof/Machine/Banks.lean ====
section
/-! DEFINITION. The commons banks: requests, arbitration, collisions, atomic operations, stalls of a retained bank (07 R216 to R227), and
the bytes of what is placed in them (03 R102; 04 R131; 05 R149). Time is in bank cycles of 1.6 ns. -/
namespace Sys2Proof.Machine

/-! ### A bank (07 R216 to R223) -/

/-- The bank and the word of a commons address (R216). -/
def bankOf (addr : Nat) : Nat := addr / 524288
def bankWord (addr : Nat) : Nat := addr % 524288 / 8

/-- A bank that holds nothing and has granted nothing. -/
def bankIdle : Bank := { failed := false, retained := false, waking := false, lastGrant := 0, free := 0, rr := 0, reqs := [], words := [] }
def bankGet (c : Channel) (b : Nat) : Bank := (kGet c.disp.banks b).getD bankIdle
def bankPut (b : Nat) (x : Bank) (c : Channel) : Channel := { c with disp := { c.disp with banks := kPut c.disp.banks b x } }

/-- The uptime in ns of a bank cycle. -/
def nsOf (cycle : Nat) : Nat := (cycle * 8 + 4) / 5

/-- One half of a word, and the word with one half replaced (R222). -/
def halfOf (hi : Bool) (w : U64) : U32 := if hi then (w >>> 32).setWidth 32 else w.setWidth 32
def withHalf (hi : Bool) (h : U32) (w : U64) : U64 :=
  if hi then (w &&& 0xFFFFFFFF#64) ||| (h.setWidth 64 <<< 32) else (w &&& 0xFFFFFFFF00000000#64) ||| h.setWidth 64

/-- A word after an access (R219, R222): ADD and SWAP leave the other half of a 32-bit operand's word. -/
def wordAfter (op : BankOp) (w : U64) : U64 :=
  match op with
  | .read => w
  | .write m v => (w &&& ~~~m) ||| (v &&& m)
  | .add true _ v => w + v
  | .add false hi v => withHalf hi (halfOf hi w + v.setWidth 32) w
  | .swap true _ v => v
  | .swap false hi v => withHalf hi (v.setWidth 32) w

def BankReq.reads (r : BankReq) : Bool := match r.op with | .read => true | _ => false
def BankReq.atomic (r : BankReq) : Bool := match r.op with | .add .. => true | .swap .. => true | _ => false

/-- Does a request go before another in a cycle (R218)? One that has waited 8 cycles goes before every younger one, and the oldest first;
else the lower rank, tiles in round robin after the tile granted last. -/
def goesBefore (t rr : Nat) (x y : BankReq) : Bool :=
  let ax := decide (x.since + 8 ≤ t)
  let ay := decide (y.since + 8 ≤ t)
  let turn (r : BankReq) : Nat := (r.tile + 33 - rr % 34) % 34
  if ax && ay then decide (x.since < y.since)
  else if ax || ay then ax
  else decide (x.rank < y.rank) || (x.rank == y.rank && x.rank == 3 && decide (turn x < turn y))

/-- The request that goes first; among equals the one presented first. -/
def firstReq (t rr : Nat) : List BankReq → Option BankReq
  | [] => none
  | x :: r => match firstReq t rr r with
    | some y => if goesBefore t rr y x then some y else some x
    | none => some x

/-- What a bank's cycles count (R240): BUSY responses, each followed by a replay; atomic operations; the longest wait for a grant. -/
structure BankTally where
  busy : Nat
  atomics : Nat
  wait : Nat
  deriving DecidableEq, Repr

def tallyZero : BankTally := ⟨0, 0, 0⟩
def tallyAdd (x y : BankTally) : BankTally := ⟨x.busy + y.busy, x.atomics + y.atomics, max x.wait y.wait⟩

/-- One bank cycle (R218, R219). The request that goes first is granted; where it reads a word that another request writes, the write
takes effect in its place. Reads of a word that is written receive BUSY and stay, with their age (R220); reads of a word that is read
are all served. -/
def bankCycle (t : Nat) (b : Bank) : Bank × BankTally :=
  let here := b.reqs.filter (fun r => decide (r.since ≤ t))
  match firstReq t b.rr here with
  | none => (b, tallyZero)
  | some g =>
    let same := here.filter (fun r => r.word == g.word)
    let w := if g.reads then (firstReq t b.rr (same.filter (fun r => !r.reads))).getD g else g
    let b1 := { b with free := t + 1, lastGrant := nsOf t, rr := if w.rank = 3 then w.tile else b.rr }
    if w.reads then
      ({ b1 with reqs := b.reqs.filter (fun r => !(decide (r.since ≤ t) && r.word == w.word)) },
       { busy := 0, atomics := 0, wait := t - same.foldl (fun n r => min n r.since) w.since })
    else
      ({ b1 with reqs := b.reqs.erase w, words := zPut b.words w.word (wordAfter w.op (zGet b.words w.word)) },
       { busy := (same.filter (fun r => r.reads)).length, atomics := if w.atomic then 1 else 0, wait := t - w.since })

/-- The cycle in which a bank grants next. -/
def bankNext (b : Bank) : Option Nat :=
  match b.reqs with
  | [] => none
  | r :: l => some (max b.free (l.foldl (fun n x => min n x.since) r.since))

/-- Runs a bank's cycles before `limit`; a retained bank serves nothing (R225). Each cycle grants at least one request. -/
def bankRun (limit : Nat) : Nat → Bank → Bank × BankTally
  | 0, b => (b, tallyZero)
  | n + 1, b =>
    match bankNext b with
    | none => (b, tallyZero)
    | some t =>
      if b.retained || decide (limit ≤ t) then (b, tallyZero)
      else
        let r := bankCycle t b
        let q := bankRun limit n r.1
        (q.1, tallyAdd r.2 q.2)

/-- Counts what cycles have shown, in OD 3000:04 to 3000:07 (R240). -/
def countTally (y : BankTally) (c : Channel) : Channel :=
  highWater 0x3000 7 y.wait (bumpN 0x3000 6 y.atomics (bumpN 0x3000 5 y.busy (bumpN 0x3000 4 y.busy c)))

/-- A bank's cycles up to a limit. -/
def bankServe (limit b : Nat) (c : Channel) : Channel :=
  let x := bankGet c b
  if x.reqs.isEmpty then c
  else
    let r := bankRun limit x.reqs.length x
    countTally r.2 (bankPut b r.1 c)

/-- Every bank's cycles that are over by now. -/
def banksSettle (c : Channel) : Channel :=
  c.disp.banks.foldl (fun c b => bankServe (cycleOf c.time.up) b.1 c) c

/-! ### Requests (07 R217, R226) -/

/-- A requester presents accesses, one per bank cycle from the present one on. A request to a retained bank starts its wake (R226). -/
def present (rank tile : Nat) (l : List (Nat × BankOp)) (c0 : Channel) : Channel :=
  if l.isEmpty then c0
  else
    let c := banksSettle c0
    ((List.range l.length).zip l).foldl (fun c x =>
      let b := bankOf x.2.1
      let k := bankGet c b
      bankPut b { k with waking := k.waking || k.retained, reqs := k.reqs ++ [⟨rank, tile, bankWord x.2.1, x.2.2, cycleOf c.time.up + x.1⟩] } c) c

/-- The requesters' ranks (R217): ingest 1, conditioning 2, tiles 3, publisher and capture 4, application cores 5, scrubber 6. -/
def rankIngest : Nat := 1
def rankCond : Nat := 2
def rankTile : Nat := 3
def rankDma : Nat := 4
def rankCores : Nat := 5

/-! ### What stands in the commons (R216; 03 R102; 04 R131; 05 R149) -/

/-- The words that hold `n` bytes from an address on. -/
def wordsOf (a n : Nat) : List Nat := if n = 0 then [] else (List.range ((a % 8 + n + 7) / 8)).map (fun k => a / 8 * 8 + 8 * k)

/-- The accesses that write bytes at an address, and those that read them. -/
def byteWrites (a : Nat) (d : List Byte) : List (Nat × BankOp) :=
  (wordsOf a d.length).map (fun w =>
    let at_ (i : Nat) : Option Byte := if w + i < a then none else d[w + i - a]?
    let l := [0, 1, 2, 3, 4, 5, 6, 7].map at_
    (w, .write (BitVec.ofNat 64 (leNat (l.map (fun x => if x.isSome then 0xFF else 0)))) (BitVec.ofNat 64 (leNat (l.map (fun x => x.getD 0))))))
def byteReads (a n : Nat) : List (Nat × BankOp) := (wordsOf a n).map (fun w => (w, .read))

/-- A token's bytes (05 R149). -/
def tokenBytes (t : Token) : List Byte :=
  leBytes 2 t.smpCnt ++ leBytes 2 (1 + (if t.settling then 2 else 0) + (if t.histBreak then 4 else 0) + (if t.notWarm then 8 else 0)) ++
    leBytes 4 (nth t.pay 0 0).toNat ++ leBytes 4 t.q.toNat ++ leBytes 4 (nth t.pay 1 0).toNat ++ leBytes 8 t.instant.toNat ++
    (t.pay.drop 2).flatMap (fun w => leBytes 4 w.toNat)

/-- A slot's bytes in the stream table (03 R102). -/
def tableSlotBytes (rate : Nat) (s : SampleSlot) : List Byte :=
  leBytes 2 (smpCntOf rate s.n) ++
    leBytes 2 (1 + (if s.missing then 2 else 0) + (if s.histBreak then 4 else 0) + (if s.returning then 8 else 0)) ++
    leBytes 4 (BitVec.ofInt 32 s.delay).toNat ++ leBytes 8 s.instant.toNat ++ s.vals.flatMap (fun v => leBytes 4 v.1.toNat ++ leBytes 4 v.2.toNat)

/-- A placed piece of commons data (08 R257), and the address of its slot `n`. -/
def itemAt (items : List PlItem) (kind s key : Nat) : Option PlItem :=
  items.find? (fun x => x.kind == kind && x.key == key && (x.kind == 0 || x.kind == 1 || x.sleeve == s))
def slotAddr (x : PlItem) (n : Nat) : Nat := x.addr + n % max x.depth 1 * (x.size / max x.depth 1)
def slotSize (x : PlItem) : Nat := x.size / max x.depth 1

/-- The accesses that write slot `n` of what is placed under a key, and those that read it; none where nothing is placed. -/
def placedWrites (c : Channel) (kind s key n : Nat) (d : List Byte) : List (Nat × BankOp) :=
  match itemAt c.disp.items kind s key with | some x => byteWrites (slotAddr x n) d | none => []
def placedReads (c : Channel) (kind s key n : Nat) : List (Nat × BankOp) :=
  match itemAt c.disp.items kind s key with | some x => byteReads (slotAddr x n) (slotSize x) | none => []

/-- A word of the commons (R216). -/
def commonsWord (c : Channel) (addr : Nat) : U64 := zGet (bankGet c (bankOf addr)).words (bankWord addr)

end Sys2Proof.Machine
end

