-- ==== Sys2Proof/Machine/Ledger.lean ====
section
/-! DEFINITION. The Ledger: histograms, extremes, the episode log and batches (20). -/
namespace Sys2Proof.Machine

/-- Low edge and bin width of a quantity, in 1/1000 of its unit (20 R596). -/
def histEdge (q : Nat) : Int := if q = 1 then 12000 else if q = 2 then -40000 else 0
def histWidth (q : Nat) : Int :=
  if q = 1 then 400 else if q = 2 then 2000 else if q ≤ 4 then 1600 else if q = 5 then 16000 else 8000

/-- The bin of a sample (20 R596). -/
def histBin (q : Nat) (v : Int) : Nat :=
  if v < histEdge q then 0 else min (((v - histEdge q) / histWidth q).toNat + 1) 63

/-- Is the quantity sampled now (20 R596)? -/
def histSampled (c : Channel) (q : Nat) : Bool :=
  runtimeUp c && (if 3 ≤ q ∧ q ≤ 5 then c.boot.graphsRun
    else if q = 6 then (c.time.servo == .locked || c.time.servo == .holdover) else decide (1 ≤ q ∧ q ≤ 6))

/-- Extremes with one more sample; an equal one keeps the earlier time (20 R598). -/
def extWith (v : F32) (t : U64) : Option (F32 × F32 × U64 × U64) → F32 × F32 × U64 × U64
  | none => (v, v, t, t)
  | some (lo, hi, tl, th) =>
    (if f32Lt v lo then v else lo, if f32Lt hi v then v else hi, if f32Lt v lo then t else tl, if f32Lt hi v then t else th)

/-- HISTOGRAM_SAMPLE: a sample of quantity `q`, in 1/1000 of its unit (20 R596, R598). That of the baseplate temperature is what OD
2100:15 shows (23 R675). -/
def histogramSampleC (q : Nat) (milli : Int) (c : Channel) : Channel :=
  if histSampled c q then
    { c with temp := if q = 2 then milli / 10 else c.temp, ledger := { c.ledger with
        accBins := zAdd c.ledger.accBins (q * 64 + histBin q milli) 1,
        accExt := kPut c.ledger.accExt q (extWith (f32OfRat milli 1000) (ledgerTime c) (kGet c.ledger.accExt q)) } }
  else c

def execHistogramSample (ch : Chan) (q : Nat) (milli : Int) (s : State) : Host.Outcome State Fault Refusal :=
  onChan ch (histogramSampleC q milli) s

/-- The log's capacity for ordinary appends (20 R594). -/
def logCapacity : Nat := 523260

/-- Appends an episode at record `n` (20 R599). -/
def episodeRecord (e : QEpisode) (n : Nat) : Episode :=
  { src := e.src, priv := privileged e.src, saturated := e.repeats == 0xFFFFFFFF#32, writes := 1, first := e.first,
    latest := e.latest, repeats := e.repeats, number := n, jseq := e.jseq, detail := e.detail, crcOk := true }

/-- A privileged record updated in place for the occurrences a queue entry stands for (20 R602). -/
def episodeUpdate (e : QEpisode) (r : Episode) : Episode :=
  let n := r.repeats.toNat + e.repeats.toNat + 1
  { r with repeats := BitVec.ofNat 32 (min n 0xFFFFFFFF), saturated := decide (0xFFFFFFFF ≤ n), latest := e.latest,
           jseq := e.jseq, detail := e.detail, writes := r.writes + 1 }

/-- The latest record of a source, where it may still be updated (20 R602, R603). -/
def latestOf (src : Nat) (never : List Nat) (log : KMap Episode) : Option Nat :=
  (log.foldl (fun a p => if p.2.src = src then some p.1 else a) none).filter (fun n => !never.contains n)

/-- Writes one queued episode into the log; the running pair is the records used and the reserved bits (20 R600,
R602). -/
def writeEpisode (st : (Nat × BitVec 4) × Channel) (e : QEpisode) : (Nat × BitVec 4) × Channel :=
  let used := st.1.1
  let resv := st.1.2
  let c := st.2
  let put (n : Nat) (r : Episode) (c : Channel) : Channel := { c with ledgerNv := { c.ledgerNv with log := kPut c.ledgerNv.log n r } }
  let full := decide (logCapacity ≤ used)
  if privileged e.src then
    match latestOf e.src c.ledger.neverUpdate c.ledgerNv.log with
    | some n =>
      if full || n + 1 == used then
        ((used, resv), match kGet c.ledgerNv.log n with | some r => put n (episodeUpdate e r) c | none => c)
      else ((used + 1, resv), put used (episodeRecord e used) c)
    | none =>
      if full then
        let n := logCapacity + e.src - 1
        ((used, resv ||| (1#4 <<< (e.src - 1))), put n (episodeRecord e n) { c with ledger := { c.ledger with neverUpdate := c.ledger.neverUpdate.filter (· != n) } })
      else ((used + 1, resv), put used (episodeRecord e used) c)
  else if full then
    ((used, resv), raiseLimited 19 0xFF 0 0 0 (bump 0x2F00 0x07 (bump 0x2F03 e.src c)))
  else ((used + 1, resv), put used (episodeRecord e used) c)

/-- A histogram record with the counts accumulated since the last batch (20 R597). -/
def histMerge (t : U64) (acc : KMap U64) (q : Nat) (h : Option HistRec) : Option HistRec :=
  let mine := acc.filter (fun p => p.1 / 64 == q)
  if mine.isEmpty then h
  else
    let old := h.getD ⟨0, 0, [], 0, true⟩
    some { writes := old.writes + 1, time := t, crcOk := true,
           samples := mine.foldl (fun a p => a + p.2) old.samples,
           bins := mine.foldl (fun b p => zAdd b (p.1 % 64) p.2.toNat) old.bins }

/-- An extremes record with the extremes since the last batch (20 R598). -/
def extMerge (n : Option (F32 × F32 × U64 × U64)) (r : Option ExtRec) : Option ExtRec :=
  match n, r with
  | none, r => r
  | some (lo, hi, tl, th), none => some ⟨1, lo, hi, tl, th, true⟩
  | some (lo, hi, tl, th), some r =>
    if f32Lt lo r.lo || f32Lt r.hi hi then
      some { writes := r.writes + 1, lo := if f32Lt lo r.lo then lo else r.lo, hi := if f32Lt r.hi hi then hi else r.hi,
             loTime := if f32Lt lo r.lo then tl else r.loTime, hiTime := if f32Lt r.hi hi then th else r.hiTime, crcOk := true }
    else some r

/-- Holds what a table entry becomes, where it becomes something. -/
def kPutOpt {α : Type} (m : KMap α) (k : Nat) : Option α → KMap α
  | none => m
  | some v => kPut m k v

/-- The header copy a batch writes: the one not in force, a write count higher; copy A first (20 R595). -/
def writeHeader (used : Nat) (resv : BitVec 4) (t : U64) (ceil : U64) (l : LedgerNv) : LedgerNv :=
  let h (w : U32) : LedgerHeader := { valid := true, writes := w, used := used, time := t, ceiling := ceil, resv := resv }
  match headerInForce l with
  | none => { l with hdrA := h 1 }
  | some f => if l.hdrA.valid && l.hdrA == f then { l with hdrB := h (f.writes + 1) } else { l with hdrA := h (f.writes + 1) }

/-- The writes of a batch that passed the check: episodes, histograms and extremes, header (20 R605); the ceiling
rises, so waiting Journal records are issued (R609). -/
def batchWrite (c0 : Channel) : Channel :=
  let h := (headerInForce c0.ledgerNv).getD headerBlank
  let r := c0.ledger.queue.foldl writeEpisode ((h.used, h.resv), c0)
  let c := r.2
  let t := ledgerTime c
  let qs := [1, 2, 3, 4, 5, 6]
  let nv := { c.ledgerNv with
    hists := qs.foldl (fun m q => kPutOpt m q (histMerge t c.ledger.accBins q (kGet m q))) c.ledgerNv.hists,
    exts := qs.foldl (fun m q => kPutOpt m q (extMerge (kGet c.ledger.accExt q) (kGet m q))) c.ledgerNv.exts }
  let c1 := { c with
    ledgerNv := writeHeader r.1.1 r.1.2 t (c.journal.next + 16777216) nv,
    ledger := { c.ledger with queue := [], accBins := [], accExt := [], refused := false } }
  bump 0x2F00 0x09 (journalDrain c1.journal.waiting c1)

/-- A Ledger batch under the hold-up check (20 R604, R606). -/
def batchTry (c0 : Channel) : Channel :=
  match commitCheck 2 0xFF energyBatch c0 with
  | (true, c) => batchWrite c
  | (false, c) => raiseLimited 21 0xFF 0 0 0 (bump 0x2F00 0x0A { c with ledger := { c.ledger with refused := true } })

/-- Are batches made now: from the end of B1 on, where operating seconds count, and after a halt in BOOT, whose episode is written (20
R592, R601, R604)? -/
def ledgerRuns (c : Channel) : Bool := c.boot.powered && decide (c.boot.phase ≠ 16) && (c.boot.halt.isSome || decide (c.boot.phase ≠ 1))

/-- LEDGER_BATCH: a periodic batch, suspended under PWARN, or one that a queued episode asks for (20 R604). -/
def ledgerBatchC (c : Channel) : Channel :=
  if ledgerRuns c && !(c.psu.pwarn && c.ledger.queue.isEmpty) && !c.ledger.refused then batchTry c else c

def execLedgerBatch (ch : Chan) (s : State) : Host.Outcome State Fault Refusal := onChan ch ledgerBatchC s

/-- LEDGER_BATCH_RETRY: a refused batch at a P1 boundary at which the check passes (20 R606). -/
def ledgerBatchRetryC (c : Channel) : Channel :=
  if ledgerRuns c && c.ledger.refused && holdupOk c.psu c.epUJ energyBatch then
    batchWrite { bump 0x2100 0x0F c with epUJ := c.epUJ + energyBatch }
  else c

def execLedgerBatchRetry (ch : Chan) (s : State) : Host.Outcome State Fault Refusal := onChan ch ledgerBatchRetryC s

/-- A channel that starts: count and seconds resume from the header in force, and numbering resumes at the stored ceiling (20 R592,
R609). -/
def ledgerResume (c : Channel) : Channel :=
  let h := (headerInForce c.ledgerNv).getD headerBlank
  let l := { c.ledger with cycles := h.time.toNat / 1099511627776, opSeconds := h.time.toNat % 1099511627776 }
  { c with ledger := l, journal := { c.journal with next := h.ceiling } }

/-- At B3: the power-cycle count goes up, and records that fail their CRC are counted and no longer updated (20 R592, R603). -/
def ledgerAtB3 (c : Channel) : Channel :=
  let bad := (c.ledgerNv.log.filter (fun p => !p.2.crcOk)).map (fun p => p.1)
  bumpN 0x2F00 0x0B (bad.length + (c.ledgerNv.hists.filter (fun p => !p.2.crcOk)).length + (c.ledgerNv.exts.filter (fun p => !p.2.crcOk)).length)
    { c with
      ledger := { c.ledger with cycles := min (c.ledger.cycles + 1) 16777215, neverUpdate := bad } }

end Sys2Proof.Machine
end

