-- ==== Sys2Proof/Machine/Roles.lean ====
section
/-! DEFINITION. What ends a channel's run: relinquishing control, channel faults, a restart through BOOT
(02 R51, R52; 12 R379, R384), and how records reach the twin. -/
namespace Sys2Proof.Machine

/-- Posts a mirror record, where the lanes are up (12 R370, R371). -/
def post (r : MRec) (c : Channel) : Channel :=
  if c.seam.presence = 2 then bump 0x2800 0x14 { c with seam := { c.seam with out := c.seam.out ++ [r] } } else c

/-- Closes the Cuff and gives HOLD_CTL up (12 R384): what both a relinquish and the end of lead do. -/
def dropControl (c : Channel) : Channel :=
  { c with pub := { c.pub with cuff := false }, seam := { c.seam with holdCtl := false, takeover := none },
           boot := { c.boot with granted := false } }

/-- Relinquishes control at the present instant d (12 R384), with its TAKEOVER episode (20 R601), E4 and Journal
record. No effect on a channel that holds none. -/
def relinquish (code : Nat) (c : Channel) : Channel :=
  if c.seam.holdCtl then
    let c1 := post (.final c.seam.confirmed) (dropControl c)
    raiseLimited 4 0xFF code 0 0 (episode 3 (1 :: BitVec.ofNat 8 code :: 0 :: 0 :: leBytes 8 (nowNs c) ++ leBytes 4 0)
      (journalAdd 8 0 0xFF [] (bump 0x2800 0x06 c1)))
  else c

/-- BOOTSTAT changed: vector 1 of the channel's own function (15 R458, R483). -/
def bootstatChange (c : Channel) : Channel := emit (.msix 65 1) c

/-- A slot that was being written is INCOMPLETE once its writing ends (02 R64, R65; 21 R631). -/
def stopWriting (s : SlotsNv) : SlotsNv :=
  let stop (x : Slot) : Slot := if x.status = 6 then { x with status := 4 } else x
  { s with cfg0 := stop s.cfg0, cfg1 := stop s.cfg1, fw0 := stop s.fw0, fw1 := stop s.fw1 }

/-- What of a channel lives through a restart: what is non-volatile, the counters (22 R642: they start at power-on),
the time counter's uptime, the pins, and the record of what was put out. All else is as reset leaves it. Phase L is skipped while the
Lining is CHARGED alone (02 R58). -/
def restartKeep (c r : Channel) : Channel :=
  { r with
    slots := stopWriting c.slots, retain := c.retain, keysNv := c.keysNv, ledgerNv := c.ledgerNv, ctr := c.ctr, psu := c.psu, temp := c.temp,
    tempOut := c.tempOut, pleat := { r.pleat with store := c.pleat.store, writing := c.pleat.writing }, emitted := c.emitted, free := c.free, dict := { r.dict with ro := c.dict.ro },
    time := { r.time with up := c.time.up },
    diag := { r.diag with inj := c.diag.inj, bank0 := c.diag.bank0, bank1 := c.diag.bank1, latestBank := c.diag.latestBank },
    seam := { r.seam with twinHold := c.seam.twinHold, presence := min c.seam.presence 1, out := c.seam.out },
    boot := { r.boot with powered := c.boot.powered, phase := if c.psu.linState = .charged then 1 else 16, slotId := c.boot.slotId, rolePrefN := c.boot.rolePrefN } }

/-- A restart through BOOT for a cause of OD 2000:0F (02 R52, R81). The reset channel is given. -/
def restartFrom (r : Channel) (cause : Nat) (c0 : Channel) : Channel :=
  let n := ledgerResume (restartKeep (injEndAll c0) r)
  enterMode .boot (if n.boot.phase = 1 then bootstatChange { n with boot := { n.boot with cause := cause } } else { n with boot := { n.boot with cause := cause } })

/-- A restart through BOOT: relinquish first where the channel holds control. The batch that a queued episode asks for is
made before the run ends (20 R604; log entry 10). -/
def restartBoot (cause code : Nat) (c : Channel) : Channel :=
  let c1 := relinquish code c
  restartFrom (channelReset c.id) cause (if ledgerRuns c1 && !c1.ledger.queue.isEmpty then batchTry c1 else c1)

/-- Is a fault code of R379 restart-class? -/
def faultRestarts (code : Nat) : Bool := [1, 2, 4, 6, 9, 10].contains code

/-- The stage at which an in-place fault resynchronises (12 R379). -/
def faultStage (code : Nat) : Nat := if code = 5 then 2 else if code = 8 then 3 else 4

/-- A halt in BOOT (02 R52, R69; 20 R601). -/
def haltBoot (code : Nat) (c : Channel) : Channel :=
  bootstatChange (episode 0x12 [BitVec.ofNat 8 code, BitVec.ofNat 8 c.boot.phase] { c with boot := { c.boot with halt := some code } })

/-- What a restart-class fault does to the mode (02 R52; log entry 45): COMMISSION, STANDBY and ACTIVE restart through BOOT; a clock
fault halts BOOT, and in HOLD keeps the channel out of STANDBY until it has restarted (01 R34); HOLD and SEALED keep their mode. The
SEAM_ALIVE generator stops in every mode (12 R369). -/
def restartFault (code : Nat) (c0 : Channel) : Channel :=
  let c := { c0 with seam := { c0.seam with alive := false } }
  match c.boot.mode with
  | .commission | .standby | .active => restartBoot 4 code c
  | .boot => if code = 1 then haltBoot 2 c else c
  | .hold | .sealedMode => if code = 1 then { c with boot := { c.boot with clockFault := true } } else c

/-- A channel fault (02 R51, R52; 12 R379): E2, episode 0x13. A restart-class fault ends in a restart through BOOT where R52 lists it.
An in-place one makes a channel that holds control relinquish, and outside COMMISSION
it ends in STANDBY and resynchronises (log entry 10). -/
def channelFault (code : Nat) (c : Channel) : Channel :=
  let c1 := setRo 0x2800 0x09 code (raise 2 0xFF code 0 (episode 0x13 [BitVec.ofNat 8 code] c))
  if faultRestarts code then restartFault code c1
  else
    let c2 := relinquish code c1
    match c.boot.mode with
    | .standby | .active =>
      let n := if c2.seam.presence = 2 then faultStage code else 0
      journalAdd 8 n 0xFF [] (enterMode .standby { c2 with seam := { c2.seam with
        fault := some code, stage := n, stageAt := c.time.up, convAt := c.time.up, restarts := 0, resyncSleeve := none,
        transferAt := if n = 3 then (nowNs c + 2999999) / 1000000 * 1000000 else 0 } })
    | _ => c2

end Sys2Proof.Machine
end

