-- ==== Sys2Proof/Machine/Access.lean ====
section
/-! DEFINITION. The answers to an access through a path (21 R616 to R618, R629): accepted writes, aborts. -/
namespace Sys2Proof.Machine

/-- Answers a request: the completion on its path, and the response of the function's mailbox request in work (07 R238;
15 R461). -/
def answer (p : Path) (status : Nat) (data : List Byte) (c : Channel) : Channel :=
  emit (.completion (pathFn p) status data)
    { c with host := { c.host with mail := c.host.mail.map (fun m =>
        if m.fn = pathFn p ∧ m.ready = false then { m with ready := true, status := status, body := data } else m) } }

/-- A refused access: the abort is counted, recorded and answered (21 R629). -/
def refuse (code index sub : Nat) (p : Path) (c : Channel) : Channel :=
  answer p code [] (setRo 0x2000 0x1E (od index sub) (setRo 0x2000 0x1D code (bump 0x2000 0x1C c)))

/-- An accepted write, before its answer: counted, journalled as a host command, mirrored where the path reaches both
channels (21 R617; 20 R608; 12 R371). -/
def taken (p : Path) (m : HostCmd) (c : Channel) : Channel :=
  let c1 := journalAdd 3 (pathFn p) 0xFF [] (bump 0x2000 0x1B c)
  if pathBoth p then post (.hostCmd m) c1 else c1

/-- An accepted write, answered. -/
def accept (p : Path) (m : HostCmd) (c : Channel) : Channel := taken p m (answer p 0 [] c)

/-- An accepted write that concerns this channel alone (02 R53). -/
def acceptOwn (p : Path) (c : Channel) : Channel := answer p 0 [] (journalAdd 3 (pathFn p) 0xFF [] (bump 0x2000 0x1B c))

/-- Is the channel's mode among the codes listed? -/
def modeIn (l : List Nat) (c : Channel) : Bool := l.contains (modeCode c.boot.mode)

/-- May a path of this function be used now (07 R236; 21 R616)? The dictionary answers from phase B4 on, and a
service port where the channel is not in BOOT. -/
def pathLive (p : Path) (c : Channel) : Bool :=
  runtimeUp c && (match p with | .svc _ _ => c.boot.mode != .boot | _ => true)

/-- Does a path reach an index (21 R617)? VF n reaches its own sleeve's range alone. -/
def reaches (p : Path) (index : Nat) : Bool :=
  match p with
  | .vf n => decide (0 < n ∧ 0x4000 + (n - 1) * 256 ≤ index ∧ index < 0x4000 + n * 256)
  | _ => true

/-- The first conditions of a write to an entry (21 R616, R617): a path in use that reaches it, and a mode listed. -/
def writeGate (p : Path) (modes : List Nat) (index sub : Nat) (k : Channel → Channel) (c : Channel) : Channel :=
  if !pathLive p c then c
  else if !reaches p index then refuse 0x0109 index sub p c
  else if !modeIn modes c then refuse 0x0104 index sub p c
  else k c

/-- The same for an entry that PF0 alone may write: the mode and the value's range `ok` come before the condition on the path (21 R616). -/
def pf0Gate (p : Path) (modes : List Nat) (index sub : Nat) (ok : Bool) (k : Channel → Channel) : Channel → Channel :=
  writeGate p modes index sub (fun c =>
    if !ok then refuse 0x0105 index sub p c
    else match p with
      | .pf0 => k c
      | _ => refuse 0x0109 index sub p c)

/-- A value in effect through the overlay (21 R619). -/
def setOver (index sub : Nat) (v : List Byte) (c : Channel) : Channel :=
  { c with dict := { c.dict with overlay := kPut c.dict.overlay (od index sub) v } }

/-! ### Writes that wait for their instant (21 R618) -/

def pendingOf (c : Channel) (index : Nat) : List PendingWrite := c.dict.pendingW.filter (fun w => w.key / 256 == index)

/-- The earliest instant of a list of writes. -/
def earliest : List PendingWrite → Nat
  | [] => 0
  | [w] => w.at_
  | w :: r => min w.at_ (earliest r)

/-- The value an instant brings to a subindex, else the one that stands. -/
def pendVal (l : List PendingWrite) (t sub d : Nat) : Nat :=
  match l.find? (fun w => w.key % 256 == sub && w.at_ == t) with | some w => leNat w.data | none => d

/-- Drops the writes to an index that an instant has brought into effect. -/
def dropDue (index t : Nat) (c : Channel) : Channel :=
  { c with dict := { c.dict with pendingW := c.dict.pendingW.filter (fun w => !(w.key / 256 == index && decide (w.at_ ≤ t))) } }

/-- Places a write at its instant; an earlier one to the same entry that still waits is replaced. -/
def pendWrite (key t : Nat) (data : List Byte) (c : Channel) : Channel :=
  { c with dict := { c.dict with pendingW := c.dict.pendingW.filter (fun w => w.key != key) ++ [⟨key, data, t⟩] } }

/-- The first P1 boundary at least `ns` after the present. -/
def p1After (ns : Nat) (c : Channel) : Nat := (nowNs c + ns + 999999) / 1000000 * 1000000

end Sys2Proof.Machine
end

