-- ==== Sys2Proof/Machine/Flags.lean ====
section
/-! DEFINITION. Quality words (03 R103; 04 R133) and sleeve behaviours (16 R501). -/
namespace Sys2Proof.Machine

def qMissing : U32 := 0x80000000#32
def qSyncUnmet : U32 := 0x40000000#32
def qSim : U32 := 0x20000000#32
def qReturning : U32 := 0x10000000#32
def qSaturated : U32 := 0x08000000#32
def qSubstituted : U32 := 0x04000000#32
def qSettling : U32 := 0x02000000#32
def qTest : U32 := 0x00000800#32
def qOpBlocked : U32 := 0x00001000#32
def qInaccurate : U32 := 0x00000200#32
def qInconsistent : U32 := 0x00000100#32
def qOldData : U32 := 0x00000080#32
def qFailure : U32 := 0x00000040#32
def qOverflow : U32 := 0x00000004#32
def qInvalid : U32 := 1#32
def qQuestionable : U32 := 3#32

/-- Validity of a quality word. -/
def validity (q : U32) : Nat := q.toNat % 4
def qGood (q : U32) : Bool := validity q == 0
def qBad (q : U32) : Bool := validity q == 1 || validity q == 2

/-- A quality word with another validity. -/
def withValidity (q : U32) (v : U32) : U32 := (q &&& 0xFFFFFFFC#32) ||| v

/-- Good validity raised to questionable; any other stays. -/
def raiseQ (q : U32) : U32 := if qGood q then withValidity q qQuestionable else q

/-- The worse of two validities: invalid over questionable over good. -/
def worse (a b : U32) : U32 :=
  if qBad a || qBad b then qInvalid else if validity a = 3 ∨ validity b = 3 then qQuestionable else 0

/-- The reserved validity 0b10 is written as invalid with failure set (03 R103). -/
def fixReserved (q : U32) : U32 := if validity q = 2 then withValidity q qInvalid ||| qFailure else q

/-- Quality formed over several tokens: worst validity, detail bits and module flags ORed (05 R158). -/
def qJoin (l : List U32) : U32 :=
  l.foldl (fun a q => withValidity ((a ||| q) &&& 0xFE003FFC#32) (worse a q)) 0

/-- A sleeve's behaviour code (16 R501); a sleeve that is not defined has none in effect. -/
def behOf (c : Channel) (n : Nat) : Nat := match kGet c.sleeves n with | some s => s.beh | none => 1
def behTest (b : Nat) : Bool := b == 3 || b == 4
def behBlocked (b : Nat) : Bool := b == 2 || b == 4
def sleeveFrozen (c : Channel) (n : Nat) : Bool := match kGet c.sleeves n with | some s => s.st == .frozen | none => false
def sleeveRuns (c : Channel) (n : Nat) : Bool := match kGet c.sleeves n with | some s => s.st == .running | none => false

/-- Is bit `n` of a mask of sleeves set? -/
def maskBit (m : U64) (n : Nat) : Bool := m.getLsbD n

end Sys2Proof.Machine
end

