-- ==== Sys2Proof/Machine/Image.lean ====
section
/-! DEFINITION. The configuration image: manifest, section table, and the records of every section with their ranges
(05 R171 to R180; 03 R110; 04 R139; 10 R313, R319, R324; 11 R362 to R364; 13 R415; 14 R445, R446; 16 R492; 17 R529;
18 R558; 19 R574; 21 R633). A parser answers none where a field is out of its range. -/
namespace Sys2Proof.Machine

def u8 (l : List Byte) (o : Nat) : Nat := leAt l o 1
def u16 (l : List Byte) (o : Nat) : Nat := leAt l o 2
def u32 (l : List Byte) (o : Nat) : Nat := leAt l o 4
def w32 (l : List Byte) (o : Nat) : U32 := BitVec.ofNat 32 (leAt l o 4)
def u64 (l : List Byte) (o : Nat) : Nat := leAt l o 8
/-- A reserved field. -/
def zeros (l : List Byte) (o n : Nat) : Bool := (slice l o n).all (fun b => b == 0)
/-- A MAC address, first octet first. -/
def macAt (l : List Byte) (o : Nat) : BitVec 48 := BitVec.ofNat 48 (leNat (slice l o 6).reverse)
/-- A NUL-padded ASCII field: its characters. -/
def asciiAt (l : List Byte) (o n : Nat) : List Byte := (slice l o n).takeWhile (fun b => b != 0)
/-- Is a field ASCII characters and then NULs alone? -/
def asciiOk (l : List Byte) (o n : Nat) : Bool :=
  ((slice l o n).dropWhile (fun b => b != 0)).all (fun b => b == 0) && (slice l o n).all (fun b => decide (b.toNat < 128))
def inRange (v lo hi : Nat) : Bool := decide (lo ≤ v ∧ v ≤ hi)
/-- A value or a code that stands for none. -/
def orCode (v code lo hi : Nat) : Bool := v == code || inRange v lo hi
def bitAt (v n : Nat) : Bool := v.testBit n

/-- Does every element parse? -/
def allSome {α : Type} : List (Option α) → Option (List α)
  | [] => some []
  | none :: _ => none
  | some x :: r => (allSome r).map (fun l => x :: l)

/-- Records that follow one another, each with its length at byte 2; none where a length is below 4 or runs past the
end. `fuel` bounds their number. -/
def splitRecs : Nat → List Byte → Option (List (List Byte))
  | _, [] => some []
  | 0, _ => none
  | n + 1, l =>
    let k := u16 l 2
    if k < 4 || l.length < k then none else (splitRecs n (l.drop k)).map (fun r => l.take k :: r)

/-- The records of a section whose records are all of one type. -/
def recsOf {α : Type} (f : List Byte → Option α) (l : List Byte) : Option (List α) :=
  (splitRecs l.length l).bind (fun rs => allSome (rs.map f))

/-! ### Manifest and section table (05 R171 to R174) -/

structure Sect where
  ty : Nat
  sleeve : Nat
  off : Nat
  len : Nat
  crc : Nat
  digest : List Byte
  deriving DecidableEq, Repr

structure Manifest where
  count : Nat
  mlen : Nat
  ilen : Nat
  edition : Nat × Nat
  sects : List Sect
  deriving DecidableEq, Repr

/-- Check 1 of R63: a manifest the running edition can read. -/
def manifestReadable (b : List Byte) : Bool :=
  slice b 0 4 == [0x4E, 0x52, 0x43, 0x46] && u16 b 4 == 1 && inRange (u16 b 6) 1 256 &&
    u32 b 8 == 64 + 64 * u16 b 6 + 104

def sectAt (b : List Byte) (i : Nat) : Sect :=
  let o := 64 + 64 * i
  { ty := u16 b o, sleeve := u16 b (o + 2), off := u32 b (o + 4), len := u32 b (o + 8), crc := u32 b (o + 12),
    digest := slice b (o + 16) 48 }

def manifestOf (b : List Byte) : Manifest :=
  { count := u16 b 6, mlen := u32 b 8, ilen := u32 b 12, edition := (u16 b 16, u16 b 18),
    sects := (List.range (u16 b 6)).map (sectAt b) }

def sectBytes (b : List Byte) (s : Sect) : List Byte := slice b s.off s.len

/-- Do two sections share a byte? -/
def sectsOverlap (x y : Sect) : Bool := decide (x.off < y.off + y.len ∧ y.off < x.off + x.len)

/-- Is some pair of a list related? -/
def anyPair {α : Type} (r : α → α → Bool) : List α → Bool
  | [] => false
  | x :: l => l.any (r x) || anyPair r l

/-- Check 2 of R63: laid out as R172 requires, and present in flash. -/
def manifestComplete (b : List Byte) : Bool :=
  let m := manifestOf b
  decide (m.mlen ≤ m.ilen ∧ m.ilen ≤ b.length) &&
    m.sects.all (fun s => decide (s.off % 8 = 0 ∧ m.mlen ≤ s.off ∧ s.off + s.len ≤ m.ilen ∧ s.off + s.len ≤ b.length)) &&
    !anyPair sectsOverlap m.sects

/-- The bytes a manifest's signature covers. -/
def signedBytes (b : List Byte) : List Byte := b.take (64 * u16 b 6 + 64)
def signatureOf (b : List Byte) : List Byte := slice b (64 * u16 b 6 + 64) 96
def signerSlot (b : List Byte) : Nat := u16 b (64 * u16 b 6 + 160)

/-- Check 4 of R63: CRC-32 and digest of every section. -/
def sectsIntact (b : List Byte) : Bool :=
  (manifestOf b).sects.all (fun s => (crc32 (sectBytes b s)).toNat == s.crc &&
    beBytes 48 (Config.sha384 (sectBytes b s)).toNat == s.digest)

/-! ### Subscriptions and paths -/

/-- A key slot field. -/
def slotField (v : Nat) : Bool := orCode v 0xFFFF 0 511

/-- A subscription record (03 R82, R83, R110). -/
def parseStream (b : List Byte) : Option StreamRec :=
  let a := u8 b 25
  let rate := u32 b 16
  let auth := u8 b 28
  let ks := List.range a
  if u16 b 0 == 0x0301 && u16 b 2 == 128 + 16 * a && b.length == 128 + 16 * a && inRange (u16 b 4) 0 511 &&
      inRange (u16 b 6) 0x4000 0x7FFF && orCode (u16 b 14) 0xFFFF 0 4095 && [4800, 14400, 96000].contains rate &&
      inRange (u8 b 24) 1 8 && inRange a 1 24 && inRange (u8 b 26) 1 3 && (u8 b 26 != 2 || (rate == 4800 && u8 b 24 == 1)) &&
      inRange (u8 b 27) 0 2 && inRange auth 0 1 && (if auth = 0 then u8 b 29 == 0 else inRange (u8 b 29) 1 5) &&
      slotField (u16 b 30) && slotField (u16 b 32) && inRange (u8 b 34) 4 8 && inRange (u8 b 35) 1 32 &&
      orCode (u16 b 36) 0 2 10000 && decide (u16 b 48 < 2) && zeros b 50 6 && asciiOk b 56 64 &&
      inRange (asciiAt b 56 64).length 1 63 && zeros b 120 8 &&
      ks.all (fun k => inRange (u16 b (128 + 16 * k)) 0 31 && inRange (u8 b (130 + 16 * k)) 0 4 && zeros b (131 + 16 * k) 1 &&
        f32Finite (w32 b (132 + 16 * k)) && zeros b (136 + 16 * k) 8) then
    some { num := u16 b 4, appid := u16 b 6, dst := macAt b 8, vid := u16 b 14, rate := rate, confRev := w32 b 20,
           noAsdu := u8 b 24, profile := u8 b 26, syncReq := u8 b 27, auth := auth == 1, alg := u8 b 29, keyCur := u16 b 30,
           keyNext := u16 b 32, log2D := u8 b 34, pairs := u8 b 35, allowUs := u16 b 36, loss := u16 b 38, ret := u16 b 40,
           srcMac := macAt b 42, checkSrc := bitAt (u16 b 48) 0, svID := asciiAt b 56 64,
           chans := ks.map (fun k => (u16 b (128 + 16 * k), u8 b (130 + 16 * k), w32 b (132 + 16 * k))) }
  else none

/-- A path record (04 R139): shift 0xFF selects 15; a BYPASS path has all of them so. -/
def parsePath (b : List Byte) : Option PathRec :=
  let sh := [u8 b 12, u8 b 13, u8 b 14, u8 b 15]
  if u16 b 0 == 0x0401 && b.length == 32 && inRange (u16 b 4) 0 2047 && inRange (u16 b 6) 0 511 && inRange (u8 b 8) 0 23 &&
      inRange (u8 b 9) 0 3 && inRange (u16 b 10) 0 16383 && sh.all (fun x => orCode x 0xFF 0 15) &&
      (u8 b 9 != 0 || sh.all (fun x => x == 0xFF)) && inRange (u16 b 16) 0 63 && decide (u16 b 18 < 2) && zeros b 20 12 then
    some { num := u16 b 4, stream := u16 b 6, k := u8 b 8, preset := u8 b 9, phase := u16 b 10,
           shifts := sh.map (fun x => if x = 0xFF then 15 else x), owner := u16 b 16, satEvent := bitAt (u16 b 18) 0 }
  else none

/-! ### Publications and GOOSE subscriptions -/

/-- A VLAN field of R313. -/
def vlanFieldOk (v : Nat) : Bool := v == 0xFFFF || !bitAt v 12

def parseMember (b : List Byte) (o : Nat) : Option MemberRec :=
  let f := u8 b (o + 2)
  if inRange (u8 b o) 1 4 && inRange (u8 b (o + 1)) 0 2 && decide (f < 8) && (!bitAt f 2 || u8 b (o + 1) == 0) && zeros b (o + 3) 1 &&
      (u8 b (o + 1) != 0 || decide (u32 b (o + 4) < 512)) then
    some { ty := u8 b o, writer := u8 b (o + 1), hasQ := bitAt f 0, hasT := bitAt f 1, invert := bitAt f 2, ref := w32 b (o + 4) }
  else none

/-- A GOOSE publication record (10 R313). -/
def parseGPub (b : List Byte) : Option GPubRec :=
  let m := u8 b 19
  if u16 b 0 == 0x0602 && b.length == 232 + 8 * m && inRange (u16 b 4) 0 255 && inRange (u16 b 6) 0 63 &&
      inRange (macAt b 8).toNat 0x010CCD010000 0x010CCD0101FF && vlanFieldOk (u16 b 14) && decide (u16 b 16 ≤ 0x3FFF) &&
      inRange (u8 b 18) 0 1 && inRange m 1 64 && orCode (u32 b 24) 0 500 100000 && orCode (u32 b 28) 0 100000 60000000 &&
      orCode (u8 b 32) 0 2 4 && inRange (u8 b 33) 0 5 && slotField (u16 b 34) && zeros b 36 4 && asciiOk b 40 64 &&
      asciiOk b 104 64 && asciiOk b 168 64 then
    (allSome ((List.range m).map (fun i => parseMember b (232 + 8 * i)))).map (fun ms =>
      { num := u16 b 4, owner := u16 b 6, dst := macAt b 8, vlan := u16 b 14, appid := u16 b 16, protection := u8 b 18 == 1,
        confRev := w32 b 20, t1 := u32 b 24, t0 := u32 b 28, g := u8 b 32, alg := u8 b 33, key := u16 b 34,
        gocbRef := asciiAt b 40 64, datSet := asciiAt b 104 64, goID := asciiAt b 168 64, members := ms })
  else none

/-- An SV publication record (10 R319). -/
def parseSPub (b : List Byte) : Option SPubRec :=
  let a := u8 b 19
  if u16 b 0 == 0x0603 && b.length == 152 + 8 * a && inRange (u16 b 4) 0 31 && inRange (u16 b 6) 0 63 &&
      inRange (macAt b 8).toNat 0x010CCD040000 0x010CCD0401FF && vlanFieldOk (u16 b 14) && inRange (u16 b 16) 0x4000 0x7FFF &&
      inRange (u8 b 18) 0 1 && inRange a 1 24 && [4800, 14400, 96000].contains (u32 b 24) && inRange (u8 b 28) 0 5 &&
      zeros b 29 1 && slotField (u16 b 30) && zeros b 32 8 && asciiOk b 40 64 && zeros b 104 48 &&
      (List.range a).all (fun k => zeros b (156 + 8 * k) 4) then
    some { num := u16 b 4, owner := u16 b 6, dst := macAt b 8, vlan := u16 b 14, appid := u16 b 16, protection := u8 b 18 == 1,
           confRev := w32 b 20, rate := u32 b 24, alg := u8 b 28, key := u16 b 30, svID := asciiAt b 40 64,
           writers := (List.range a).map (fun k => w32 b (152 + 8 * k)) }
  else none

/-- The trip-matrix-and-publications section: records of both types. -/
def parsePubs (l : List Byte) : Option (List GPubRec × List SPubRec) :=
  (splitRecs l.length l).bind (fun rs =>
    let g := allSome ((rs.filter (fun r => u16 r 0 != 0x0603)).map parseGPub)
    let s := allSome ((rs.filter (fun r => u16 r 0 == 0x0603)).map parseSPub)
    g.bind (fun x => s.map (fun y => (x, y))))

/-- A GOOSE subscription record (10 R324). -/
def parseGSub (b : List Byte) : Option GSubRec :=
  let m := u8 b 20
  let auth := u8 b 21
  if u16 b 0 == 0x0901 && b.length == 160 + 8 * m && inRange (u16 b 4) 0 1023 && inRange (u16 b 6) 0 63 &&
      inRange (macAt b 8).toNat 0x010CCD010000 0x010CCD0101FF && decide (u16 b 14 ≤ 0x3FFF) && inRange m 1 64 && inRange auth 0 1 &&
      (if auth = 0 then u8 b 22 == 0 else inRange (u8 b 22) 1 5) && zeros b 23 1 && slotField (u16 b 24) && slotField (u16 b 26) &&
      zeros b 28 4 && asciiOk b 32 64 && asciiOk b 96 64 &&
      (List.range m).all (fun i => inRange (u8 b (160 + 8 * i)) 1 6 && zeros b (161 + 8 * i) 3) then
    some { num := u16 b 4, owner := u16 b 6, dst := macAt b 8, appid := u16 b 14, confRev := w32 b 16, auth := auth == 1,
           alg := u8 b 22, keyCur := u16 b 24, keyNext := u16 b 26, gocbRef := asciiAt b 32 64, goID := asciiAt b 96 64,
           members := (List.range m).map (fun i => (u8 b (160 + 8 * i), w32 b (164 + 8 * i))) }
  else none

/-! ### Graph image (05 R175 to R180): read as its records say; GraphCheck holds the ranges -/

def portIn8 (b : List Byte) (o : Nat) : PortDef := ⟨u8 b o == 0, u8 b (o + 1), u8 b (o + 2)⟩
def portOut8 (b : List Byte) (o : Nat) : PortDef := ⟨bitAt (u8 b (o + 2)) 0, u8 b o, u8 b (o + 1)⟩

/-- 32-bit words of a block. -/
def wordsAt (b : List Byte) (o n : Nat) : List U32 := (List.range n).map (fun i => w32 b (o + 4 * i))

/-- The payloads of an initial-state block, one for each output port. -/
def initPays (b : List Byte) : Nat → List PortDef → List (List U32)
  | _, [] => []
  | o, p :: r => wordsAt b o p.words :: initPays b (o + 4 * p.words) r

/-- The instance record at an offset of its section. -/
def instAt (b : List Byte) (pool o : Nat) : InstRec :=
  let i := u8 b (o + 9)
  let outs := (List.range (u8 b (o + 10))).map (fun j => portOut8 b (o + 32 + 8 * (i + j)))
  let par := pool + u32 b (o + 12)
  { op := u16 b (o + 6), cls := u8 b (o + 8), ins := (List.range i).map (fun k => portIn8 b (o + 32 + 8 * k)), outs := outs,
    missEvent := bitAt (u8 b (o + 11)) 0, version := u16 b (par + 2), params := wordsAt b (par + 4) (u16 b (o + 16) / 4 - 1),
    ident := w32 b (o + 20), init := initPays b (pool + u32 b (o + 24)) outs }

def edgeAt (b : List Byte) (o : Nat) : EdgeRec :=
  { src := u8 b (o + 8) == 1, prod := u32 b (o + 12), prodPort := u8 b (o + 9), cons := u16 b (o + 16), consPort := u8 b (o + 18),
    minDepth := u8 b (o + 19), lagUs := u16 b (o + 20), recordable := bitAt (u16 b (o + 22)) 0 }

def sourceAt (b : List Byte) (o : Nat) : SourceRec := { kind := u8 b (o + 6), ty := u8 b (o + 7), a := u32 b (o + 8), b := u32 b (o + 12) }

/-- Offsets of the instance records, each as long as its port counts say; `n` records from `o`. -/
def instOffsets (b : List Byte) : Nat → Nat → List Nat
  | 0, _ => []
  | n + 1, o => o :: instOffsets b n (o + 32 + 8 * (u8 b (o + 9) + u8 b (o + 10)))

def parseGraph (b : List Byte) : Graph :=
  { insts := (instOffsets b (u32 b 8) (u32 b 24)).map (instAt b (u32 b 36)),
    edges := (List.range (u32 b 12)).map (fun i => edgeAt b (u32 b 28 + 24 * i)),
    sources := (List.range (u32 b 16)).map (fun i => sourceAt b (u32 b 32 + 16 * i)), revision := w32 b 40 }

/-! ### LSE image (11 R362 to R364): read as its records say; LseCheck holds the ranges -/

def parseLse (b : List Byte) : LseProg :=
  let vt := u32 b 28
  let it := u32 b 32
  let ot := u32 b 36
  { tcUs := u32 b 8, code := wordsAt b (u32 b 24) (u32 b 12),
    vars := (List.range (u32 b 16)).map (fun i =>
      let o := vt + 16 * i
      ({ ident := w32 b o, kind := u8 b (o + 4), retentive := bitAt (u8 b (o + 5)) 0, addr := u16 b (o + 6), init := w32 b (o + 8) } : LseVar)),
    ins := (List.range (u16 b 20)).map (fun i =>
      let o := it + 24 * i
      ({ kind := u8 b (o + 6), word := u8 b (o + 7) == 1, ident := w32 b (o + 8), refA := u32 b (o + 12), refB := u16 b (o + 16),
         lagUs := u16 b (o + 18) } : LseIn)),
    outs := (List.range (u16 b 22)).map (fun i =>
      let o := ot + 24 * i
      ({ can := u8 b (o + 6) == 1, safeMode := u8 b (o + 7) == 1, ident := w32 b (o + 8), safe := w32 b (o + 12), qsrc := u16 b (o + 16),
         port := u8 b (o + 18), buf := u8 b (o + 19) } : LseOut)),
    allow := u8 b 44, ceiling := u16 b 46, retainMs := u32 b 48, revision := w32 b 40 }

/-! ### Sleeve definition (16 R492) -/

def parseSleeve (b : List Byte) : Option SleeveRec :=
  let l := u8 b 46
  let base := macAt b 40
  let f8 := List.range 8
  if u16 b 0 == 0x0B01 && u16 b 2 == 256 && b.length == 256 && inRange (u8 b 4) 0 63 && inRange (u8 b 5) 1 5 && decide (u16 b 6 < 2) &&
      inRange (u16 b 8) 1 9000 && inRange (u8 b 10) 3 16 && inRange (u8 b 11) 0 32 && inRange (u32 b 12) 64 32768 &&
      inRange (u16 b 16) 1 16384 && inRange (u16 b 18) 0 8192 && inRange (u32 b 20) 0 65536 && inRange (u16 b 24) 0 512 &&
      inRange (u16 b 26) 0 256 && inRange (u16 b 28) 0 1024 && inRange (u16 b 30) 0 512 && inRange (u16 b 32) 0 256 &&
      inRange (u16 b 34) 0 256 && inRange (u32 b 36) 0 4096 && !base.getLsbD 40 && inRange l 2 8 && decide (base.toNat % 2 ^ l = 0) &&
      inRange (u8 b 47) 0 5 && f8.all (fun i => orCode (u16 b (48 + 2 * i)) 0xFFFF 1 4094) &&
      decide (u16 b 80 ≤ 0x3FFF ∧ u16 b 82 ≤ 0x3FFF) && inRange (u16 b 84) 0x4000 0x7FFF && inRange (u16 b 86) 0x4000 0x7FFF &&
      asciiOk b 88 32 && decide ((asciiAt b 88 32).length ≤ 31) && zeros b 120 8 &&
      f8.all (fun i => zeros b (198 + 8 * i) 2) then
    some { num := u8 b 4, beh := u8 b 5, spoofEvent := bitAt (u16 b 6) 0, tileQuota := u16 b 8, vectors := u8 b 10, svPubs := u8 b 11,
           commonsKiB := u32 b 12, instances := u16 b 16, sources := u16 b 18, edges := u32 b 20, svSubs := u16 b 24,
           goosePubs := u16 b 26, gooseSubs := u16 b 28, keySlots := u16 b 30, canBufs := u16 b 32, pleatSources := u16 b 34,
           pleatMiB := u32 b 36, macBase := base, macLog2 := l, maxPcp := u8 b 47,
           vlans := (f8.map (fun i => u16 b (48 + 2 * i))).filter (fun v => v != 0xFFFF),
           ethertypes := (f8.map (fun i => u16 b (64 + 2 * i))).filter (fun v => v != 0),
           gooseLo := u16 b 80, gooseHi := u16 b 82, svLo := u16 b 84, svHi := u16 b 86, idPrefix := asciiAt b 88 32,
           canFilters := (f8.map (fun i => (w32 b (128 + 8 * i), w32 b (132 + 8 * i)))).filter (fun x => x.2 != 0),
           mcast := (f8.map (fun i => macAt b (192 + 8 * i))).filter (fun m => m != 0) }
  else none

/-! ### Time configuration (13 R415) -/

structure TimeSect where
  vals : List U32
  gens : List PgSet
  arms : List Bool
  deriving DecidableEq, Repr

/-- A generator's settings in their ranges (13 R411, R415). -/
def pgSetFields (s : PgSet) : Bool :=
  inRange s.output 0 2 && orCode s.source 0xFFFF 0 255 && inRange s.gate 0 2 && orCode s.period 0 1000 1000000000000 &&
    (if s.period = 0 then inRange s.width 100 4294967295 else inRange s.width 100 (s.period - 100))

def parseGen (b : List Byte) : PgSet :=
  { output := u8 b 5, source := u16 b 30, start := u64 b 8, period := u64 b 16, width := u32 b 24, count := u16 b 28, gate := u8 b 6,
    low := bitAt (u8 b 7) 0, event := bitAt (u8 b 7) 2 }

def parseTime (b : List Byte) : Option TimeSect :=
  let gs := (List.range 4).map (fun i => slice b (64 + 32 * i) 32)
  if b.length == 192 && u16 b 0 == 0x0C01 && u16 b 2 == 64 &&
      ((List.range 4).zip gs).all (fun x => u16 x.2 0 == 0x0C02 && u16 x.2 2 == 32 && u8 x.2 4 == x.1 && decide (u8 x.2 7 < 8) &&
        pgSetFields (parseGen x.2)) then
    some { vals := wordsAt b 4 15, gens := gs.map parseGen, arms := gs.map (fun g => bitAt (u8 g 7) 1) }
  else none

/-! ### Switch section (14 R445, R446) -/

def parsePortRec (b : List Byte) : Option (Nat × PortRec) :=
  let p := u8 b 4
  let f := u8 b 5
  let six := List.range 6
  if b.length == 32 && (inRange p 1 12 || p == 15) && decide (f < 16) && inRange (u8 b 6) 0 7 && inRange (u8 b 7) 0 3 &&
      inRange (u16 b 8) 1 4094 && inRange (u16 b 10) 1530 2048 && inRange (u16 b 12) 16 512 && inRange (u16 b 14) 16 512 && (inRange (u8 b 16) 0 3 || inRange (u8 b 16) 0xFD 0xFF) && zeros b 17 1 && six.all (fun i => inRange (u8 b (18 + i)) 1 255) &&
      six.all (fun i => inRange (u8 b (24 + i)) 0 63) && zeros b 30 2 then
    some (p, { enable := bitAt f 0, preempt := bitAt f 1, filterMc := bitAt f 2, learn := bitAt f 3, pcp := u8 b 6, addFrag := u8 b 7,
               vid := u16 b 8, maxFrame := u16 b 10, resv7 := u16 b 12, resv6 := u16 b 14, k := signed 8 (u8 b 16),
               weights := six.map (fun i => u8 b (18 + i)), reds := six.map (fun i => u8 b (24 + i)) })
  else none

def parseGroup (b : List Byte) : Option (Nat × GroupRec) :=
  if b.length == 16 && inRange (u8 b 4) 0 3 && inRange (u8 b 5) 0 1 && inRange (u8 b 6) 1 8 && inRange (u8 b 7) 1 8 &&
      u8 b 6 != u8 b 7 && orCode (u16 b 12) 0 500 10000 && zeros b 14 2 then
    some (u8 b 4, { hsr := u8 b 5 == 1, portA := u8 b 6, portB := u8 b 7, entryMs := u16 b 8, nodeS := u16 b 10, lifeMs := u16 b 12 })
  else none

def parseRule (b : List Byte) : Option RuleRec :=
  if b.length == 40 && orCode (u16 b 20) 0xFFFF 0 4095 && orCode (u8 b 22) 0xFF 0 7 && inRange (u8 b 23) 0 7 &&
      decide (u8 b 32 < 4) && zeros b 33 7 then
    some { num := u16 b 4, mask := u16 b 6, dst := macAt b 8, dstMask := macAt b 14, vid := u16 b 20, pcp := u8 b 22, queue := u8 b 23,
           ethertype := u16 b 24, appLo := u16 b 26, appHi := u16 b 28, meter := u16 b 30, aware := bitAt (u8 b 32) 0,
           cut := bitAt (u8 b 32) 1 }
  else none

def parseMeter (b : List Byte) : Option (Nat × MeterRec) :=
  if b.length == 24 && zeros b 6 2 && inRange (u32 b 8) 1 10000 && inRange (u32 b 12) (u32 b 8) 10000 &&
      inRange (u32 b 16) 1538 1048576 && inRange (u32 b 20) (u32 b 16) 1048576 then
    some (u16 b 4, { cir := u32 b 8, pir := u32 b 12, cbs := u32 b 16, pbs := u32 b 20 })
  else none

def parseRed (b : List Byte) : Option (Nat × RedRec) :=
  if b.length == 24 && inRange (u8 b 4) 1 63 && decide (u8 b 5 ≤ 15) && zeros b 6 2 && zeros b 23 1 &&
      (List.range 3).all (fun i => decide (u16 b (8 + 4 * i) ≤ u16 b (10 + 4 * i))) then
    some (u8 b 4, { w := u8 b 5, lim := (List.range 3).map (fun i => (u16 b (8 + 4 * i), u16 b (10 + 4 * i), u8 b (20 + i))) })
  else none

def parseStatic (b : List Byte) : Option (BitVec 48 × Nat × Nat) :=
  if b.length == 16 && zeros b 14 2 then some (macAt b 4, u16 b 10, u16 b 12) else none

def parseVlan (b : List Byte) : Option (Nat × Nat × Nat) :=
  if b.length == 16 && inRange (u16 b 4) 1 4094 && zeros b 10 6 then some (u16 b 4, u16 b 6, u16 b 8) else none

def parseFilter (b : List Byte) : Option (Nat × CapFilter) :=
  if b.length == 16 && inRange (u8 b 4) 0 15 && inRange (u8 b 5) 0 2 && zeros b 13 3 then
    some (u8 b 4, { dir := u8 b 5, ports := u16 b 6, ethertype := u16 b 8, vid := u16 b 10, queues := u8 b 12 })
  else none

/-- Records in the order of their types, each group by ascending number (14 R445). -/
def ascending : List Nat → Bool
  | x :: y :: r => decide (x < y) && ascending (y :: r)
  | _ => true

/-- A table by number. -/
def kOf {α : Type} (l : List (Nat × α)) : KMap α := l.foldl (fun m x => kPut m x.1 x.2) []

/-- The switch section: counts, order, ranges, and no port in two groups. -/
def parseSwitch (b : List Byte) : Option SwitchCfg :=
  (splitRecs b.length b).bind (fun rs =>
    let h := nth rs 0 []
    let body := rs.drop 1
    let types := [0x0102, 0x0103, 0x0104, 0x0105, 0x0106, 0x0107, 0x0108, 0x0109]
    let of (t : Nat) : List (List Byte) := body.filter (fun r => u16 r 0 == t)
    let counts := (List.range 8).all (fun i => (of (nth types i 0)).length == u16 h (6 + 2 * i)) &&
      (List.range 8).all (fun i => decide ((of (nth types i 0)).length ≤ nth [13, 4, 512, 256, 63, 4096, 256, 16] i 0)) &&
      decide (1 ≤ (of 0x0108).length)
    if u16 h 0 == 0x0101 && h.length == 32 && inRange (u8 h 4) 0 1 && zeros h 5 1 && orCode (u16 h 22) 0 10 3600 && zeros h 24 8 &&
        counts && body == types.flatMap of then
      (allSome ((of 0x0102).map parsePortRec)).bind (fun ps =>
      (allSome ((of 0x0103).map parseGroup)).bind (fun gs =>
      (allSome ((of 0x0104).map parseRule)).bind (fun rules =>
      (allSome ((of 0x0105).map parseMeter)).bind (fun ms =>
      (allSome ((of 0x0106).map parseRed)).bind (fun reds =>
      (allSome ((of 0x0107).map parseStatic)).bind (fun st =>
      (allSome ((of 0x0108).map parseVlan)).bind (fun vs =>
      (allSome ((of 0x0109).map parseFilter)).bind (fun fs =>
        let used := gs.flatMap (fun g => [g.2.portA, g.2.portB])
        let num (l : List Nat) : Bool := ascending l
        if num (ps.map (fun x => x.1)) && num (gs.map (fun x => x.1)) && num (rules.map (fun r => r.num)) && num (ms.map (fun x => x.1)) &&
            num (reds.map (fun x => x.1)) && num (vs.map (fun v => v.1)) && num (fs.map (fun x => x.1)) &&
            !anyPair (fun x y => x == y) used && rules.all (fun r => r.meter == 0xFFFF || ms.any (fun m => m.1 == r.meter)) &&
            ps.all (fun p => p.2.reds.all (fun k => k == 0 || reds.any (fun x => x.1 == k))) then
          some ({ voq := u8 h 4 == 1, age := if u16 h 22 = 0 then 300 else u16 h 22, ports := kOf ps, groups := kOf gs, rules := rules,
                  meters := kOf ms, reds := kOf reds, statics := st, vlans := kOf vs, filters := kOf fs } : SwitchCfg)
        else none))))))))
    else none)

/-! ### CAN and Pleat (17 R529; 18 R558) -/

structure CanSect where
  ports : List (Nat × CanPortRec)
  bufs : List CanBufRec
  deriving DecidableEq, Repr

def parseCanPort (b : List Byte) : Option (Nat × CanPortRec) :=
  if u16 b 0 == 0x0A02 && b.length == 16 && inRange (u8 b 4) 1 4 && inRange (u8 b 5) 1 4 && orCode (u8 b 6) 0 0x11 0x15 && decide (u8 b 7 < 8) &&
      inRange (u8 b 8) 0 127 && zeros b 9 7 then
    some (u8 b 4, { nominal := u8 b 5, data := u8 b 6, term := bitAt (u8 b 7) 0, service := bitAt (u8 b 7) 1,
                    hostRec := bitAt (u8 b 7) 2, node := u8 b 8 })
  else none

def parseCanBuf (b : List Byte) : Option CanBufRec :=
  let tx := u8 b 7 == 1
  let id := u32 b 8
  let f := u8 b 16
  if u16 b 0 == 0x0A03 && b.length == 32 && inRange (u8 b 4) 1 4 && inRange (u8 b 5) 0 63 && inRange (u8 b 6) 0 63 &&
      inRange (u8 b 7) 0 1 && decide (id / 536870912 % 4 = 0) && (bitAt id 31 || decide (id < 2048)) &&
      (if tx then u32 b 12 == 0 && [0, 4, 8, 12].contains f else decide (f < 4) && u8 b 17 == 0 && zeros b 20 8) &&
      inRange (u8 b 17) 0 15 && (!tx || bitAt f 2 || decide (u8 b 17 ≤ 8)) && zeros b 18 2 && zeros b 28 4 then
    some { port := u8 b 4, buf := u8 b 5, owner := u8 b 6, tx := tx, ident := w32 b 8, mask := w32 b 12, flags := f, dlc := u8 b 17,
           data := slice b 20 8 }
  else none

def parseCan (b : List Byte) : Option CanSect :=
  let np := u16 b 4
  let nb := u16 b 6
  let r16 (i : Nat) : List Byte := slice b (16 + 16 * i) 16
  let r32 (i : Nat) : List Byte := slice b (16 + 16 * np + 32 * i) 32
  if u16 b 0 == 0x0A01 && u16 b 2 == 16 && decide (np ≤ 4 ∧ nb ≤ 256) && zeros b 8 8 && b.length == 16 + 16 * np + 32 * nb &&
      (List.range np).all (fun i => u16 (r16 i) 2 == 16) && (List.range nb).all (fun i => u16 (r32 i) 2 == 32) then
    (allSome ((List.range np).map (fun i => parseCanPort (r16 i)))).bind (fun ps =>
      (allSome ((List.range nb).map (fun i => parseCanBuf (r32 i)))).bind (fun bs =>
        if ascending (ps.map (fun p => p.1)) && ascending (bs.map (fun x => x.port * 64 + x.buf)) then some ⟨ps, bs⟩ else none))
  else none

def parseSig (b : List Byte) (o : Nat) : Option SigRec :=
  if inRange (u8 b o) 0 2 && inRange (u8 b (o + 1)) 1 9 && (!([1, 4].contains (u8 b (o + 1))) || w32 b (o + 12) == f32OfInt 1) && zeros b (o + 2) 2 && zeros b (o + 20) 4 && f32Finite (w32 b (o + 12)) &&
      f32Finite (w32 b (o + 16)) && f32Le 0 (w32 b (o + 16)) then
    some { kind := u8 b o, ty := u8 b (o + 1), a := u32 b (o + 4), b := u32 b (o + 8), scale := w32 b (o + 12), hyst := w32 b (o + 16) }
  else none

def parseDef (b : List Byte) : Option DefRec :=
  let g := u8 b 6
  let f := u8 b 7
  if u16 b 0 == 0x0D02 && b.length == 64 + 24 * g && inRange (u8 b 4) 0 127 && inRange (u8 b 5) 0 63 && inRange g 1 64 && decide (f < 32) &&
      [96000, 24000, 14400, 4800, 2400, 1000].contains (u32 b 8) && inRange (u32 b 12) 256 1048576 && decide (u32 b 16 < u32 b 12) && inRange (u32 b 20) 1 4096 && zeros b 56 8 then
    (allSome ((List.range g).map (fun j => parseSig b (64 + 24 * j)))).map (fun sigs =>
      { num := u8 b 4, owner := u8 b 5, keep := bitAt f 0, protect := bitAt f 1, extend := bitAt f 2, armStart := bitAt f 3,
        event := bitAt f 4, rate := u32 b 8, n := u32 b 12, p := u32 b 16, ringMiB := u32 b 20, mask := slice b 24 32, sigs := sigs })
  else none

def parsePleat (b : List Byte) : Option (List DefRec) :=
  if u16 b 0 == 0x0D01 && u16 b 2 == 16 && zeros b 6 10 && decide (u16 b 4 ≤ 128) then
    (recsOf parseDef (b.drop 16)).bind (fun ds => if ds.length == u16 b 4 && ascending (ds.map (fun d => d.num)) then some ds else none)
  else none

/-! ### Wrapped keys (19 R574), dictionary initial values (21 R633) -/

/-- A wrapped-key record in its ranges. -/
def keyRecOk (r : List Byte) : Bool :=
  r.length == 160 && u16 r 0 == 0x0E01 && u16 r 2 == 160 && inRange (u16 r 4) 0 511 && orCode (u8 r 6) 0xFF 0 63 && inRange (u8 r 7) 1 3 &&
    decide (u32 r 8 < 16) && inRange (u8 r 16) 0 1 && zeros r 17 3 && zeros r 117 3

def parseKeyRecs (b : List Byte) : Option (List (List Byte)) :=
  (splitRecs b.length b).bind (fun rs => if rs.all keyRecOk then some rs else none)

/-- A record of the dictionary section: its entry, type code, what it declares, and the value. -/
structure DictRec where
  key : Nat
  ty : Nat
  decl : Option Decl
  value : List Byte
  deriving DecidableEq, Repr

def pad4 (n : Nat) : Nat := (n + 3) / 4 * 4

/-- Size of a type of R614; 0 for STR and DOMAIN. -/
def typeSize (t : Nat) : Nat :=
  if t = 0x01 ∨ t = 0x05 then 1 else if t = 0x03 ∨ t = 0x06 then 2 else if t = 0x04 ∨ t = 0x07 ∨ t = 0x08 ∨ t = 0x81 then 4
  else if t = 0x1B ∨ t = 0x80 then 8 else 0

/-- Is a value one of its type (21 R614)? -/
def typeValueOk (t : Nat) (v : List Byte) : Bool :=
  if t = 0x01 then v == [0] || v == [1]
  else if t = 0x08 then v.length == 4 && f32Finite (w32 v 0)
  else if t = 0x09 then decide (v.length ≤ 255) && v.all (fun x => decide (x.toNat < 128))
  else if t = 0x0F then true
  else v.length == typeSize t && typeSize t != 0

def parseDictRec (b : List Byte) : Option DictRec :=
  let key := u16 b 4 * 256 + u8 b 6
  let t := u8 b 7
  if u16 b 0 = 0x2002 then
    let n := u32 b 8
    if b.length == 16 + pad4 n && u32 b 12 == 0 then some ⟨key, t, none, slice b 16 n⟩ else none
  else if u16 b 0 = 0x2003 then
    let n := u32 b 16
    let a := u8 b 8
    if b.length == 24 + pad4 n && zeros b 10 2 && u32 b 20 == 0 && decide (u8 b 6 ≤ 0xFE) &&
        [0x01, 0x03, 0x04, 0x05, 0x06, 0x07, 0x08, 0x81, 0x80, 0x09].contains t && (a == 1 || a == 2 || a == 6) &&
        (a != 1 || u8 b 9 == 0) && (t == 9 || u32 b 12 == typeSize t) && decide (n ≤ u32 b 12) && typeValueOk t (slice b 24 n) then
      some ⟨key, t, some ⟨t, a, u8 b 9, u32 b 12⟩, slice b 24 n⟩
    else none
  else none

def parseDict (b : List Byte) : Option (List DictRec) :=
  if u16 b 0 == 0x2001 && u16 b 2 == 16 && zeros b 8 8 then
    (recsOf parseDictRec (b.drop 16)).bind (fun rs => if rs.length == u32 b 4 && ascending (rs.map (fun r => r.key)) then some rs else none)
  else none

/-! ### The whole image -/

structure Image where
  switch : Option SwitchCfg
  sleeves : List SleeveRec
  sleeveRaw : List (Nat × List Byte)
  streams : List StreamRec
  paths : List PathRec
  graphs : List (Nat × Graph)
  graphRaw : List (Nat × List Byte)
  gpubs : List GPubRec
  spubs : List SPubRec
  lse : List (Nat × LseProg)
  lseRaw : List (Nat × List Byte)
  keys : List (List Byte)
  subs : List GSubRec
  can : CanSect
  pleat : List DefRec
  time : Option TimeSect
  dict : List DictRec
  revision : Nat
  deriving DecidableEq, Repr

/-- The sections of a type. -/
def ofType (b : List Byte) (t : Nat) : List (Sect × List Byte) :=
  ((manifestOf b).sects.filter (fun s => s.ty == t)).map (fun s => (s, sectBytes b s))

/-- An optional module section. -/
def optSect {α : Type} (b : List Byte) (t : Nat) (d : α) (f : List Byte → Option α) : Option α :=
  match ofType b t with
  | [] => some d
  | [x] => f x.2
  | _ => none

/-- The counts of R173 for an image, or of R491 for a package, but for the graph images, which R182 code 0x0B counts;
module sections name no sleeve. -/
def countsOk (package : Bool) (b : List Byte) : Bool :=
  let m := manifestOf b
  let n (t : Nat) : Nat := (ofType b t).length
  let ids (t : Nat) : List Nat := (ofType b t).map (fun x => x.1.sleeve)
  m.sects.all (fun s => inRange s.ty 1 13 && (if s.ty = 2 ∨ s.ty = 5 ∨ s.ty = 7 then decide (s.sleeve < 64) else s.sleeve == 0xFFFF)) &&
    !anyPair (fun x y => x == y) (ids 2) && !anyPair (fun x y => x == y) (ids 7) &&
    [3, 4, 6, 8, 9, 10, 11, 13].all (fun t => decide (n t ≤ 1)) && (ids 7).all (fun i => (ids 2).contains i) &&
    (if package then n 1 == 0 && n 12 == 0 && n 2 == 1 else n 1 == 1 && decide (n 12 ≤ 1))

/-- Reads every section of an image; none where a record of one is not as its chapter specifies. Graph and LSE images are
read as they stand. -/
def parseImage (package : Bool) (b : List Byte) : Option Image :=
  if !countsOk package b then none
  else
    (if package then some none else (optSect b 1 none (fun l => (parseSwitch l).map some))).bind (fun sw =>
    (allSome ((ofType b 2).map (fun x => (parseSleeve x.2).bind (fun r => if r.num = x.1.sleeve then some r else none)))).bind (fun sl =>
    (optSect b 3 [] (recsOf parseStream)).bind (fun st =>
    (optSect b 4 [] (recsOf parsePath)).bind (fun pa =>
    (optSect b 6 ([], []) parsePubs).bind (fun pu =>
    (optSect b 8 [] parseKeyRecs).bind (fun ke =>
    (optSect b 9 [] (recsOf parseGSub)).bind (fun su =>
    (optSect b 10 ⟨[], []⟩ parseCan).bind (fun ca =>
    (optSect b 11 [] parsePleat).bind (fun pl =>
    (optSect b 12 none (fun l => (parseTime l).map some)).bind (fun ti =>
    (optSect b 13 [] parseDict).map (fun di =>
      { switch := sw, sleeves := sl, sleeveRaw := (ofType b 2).map (fun x => (x.1.sleeve, x.2)), streams := st, paths := pa,
        graphs := (ofType b 5).map (fun x => (x.1.sleeve, parseGraph x.2)), graphRaw := (ofType b 5).map (fun x => (x.1.sleeve, x.2)),
        gpubs := pu.1, spubs := pu.2, lse := (ofType b 7).map (fun x => (x.1.sleeve, parseLse x.2)),
        lseRaw := (ofType b 7).map (fun x => (x.1.sleeve, x.2)), keys := ke, subs := su, can := ca, pleat := pl, time := ti,
        dict := di, revision := u32 b 20 })))))))))))

end Sys2Proof.Machine
end

