-- ==== Sys2Proof/Machine/Keys.lean ====
section
/-! DEFINITION. The key store: slots, key commands and their journal, zeroisation, attestation (19). -/
namespace Sys2Proof.Machine

def keySlotEmpty : KeySlot :=
  { st := 0, uncommitted := false, kind := 0, rights := 0, ident := 0, owner := 0xFF, parent := 0xFFFF, gen := 0,
    key := [], label := [], wrapped := [] }

def slotAt (c : Channel) (s : Nat) : KeySlot := (kGet c.keys.slots s).getD keySlotEmpty
def slotPut (s : Nat) (k : KeySlot) (c : Channel) : Channel := { c with keys := { c.keys with slots := kPut c.keys.slots s k } }
def setResult (r : Nat) (c : Channel) : Channel := { c with keys := { c.keys with result := r } }
def chanByte (c : Channel) : Byte := match c.id with | .a => 0 | .b => 1

/-- ASCII text as bytes. -/
def asciiBytes (s : String) : List Byte := s.toList.map (fun ch => BitVec.ofNat 8 ch.toNat)

/-- Block `i` of the derivation function: HMAC-SHA-384 over counter, label, 0x00, context and length (19 R565). -/
def kdfBlock (k label ctx : List Byte) (bits i : Nat) : List Byte :=
  beBytes 48 (Config.hmac384 k (beBytes 4 i ++ (label ++ 0 :: (ctx ++ beBytes 4 bits)))).toNat

/-- KDF(K, label, context, L): the blocks counted from 1, joined and cut to L bits (19 R565). -/
def kdf (k label ctx : List Byte) (bits : Nat) : List Byte :=
  ((List.range ((bits + 383) / 384)).flatMap (fun i => kdfBlock k label ctx bits (i + 1))).take (bits / 8)

/-- A key of R566, under an ASCII label. -/
def derive (k : List Byte) (label : String) (ctx : List Byte) (bits : Nat) : List Byte := kdf k (asciiBytes label) ctx bits

/-- The order of the group of P-384, of the outside standard (log entry 5). -/
def p384Order : Nat := 2 ^ 384 - 0x389CB27E0BC8D220A7E5F24DB74F58851313E695333AD68D

/-- A derived P-384 private scalar: c mod (n − 1), plus 1, of a c of 448 bits (19 R565). -/
def deriveScalar (k : List Byte) (label : String) (ctx : List Byte) : List Byte :=
  let c := (derive k label ctx 448).foldl (fun a b => 256 * a + b.toNat) 0
  beBytes 48 (c % (p384Order - 1) + 1)

/-- The keys derived at B3, from the root the channel's DUK stands for (19 R566). -/
def deriveAll (c : Channel) : Channel :=
  let duk := Config.deviceKey c.id
  let ch := [chanByte c]
  let bms := c.keys.bm.foldl (fun a b => a ++ b) []
  let bbr := derive duk "NRBBR" (c.keysNv.nonce ++ bms) 384
  { c with keys := { c.keys with
      st := 1, bmLocked := true,
      dbk := derive duk "NRDBK" (c.keysNv.nonce ++ (nth c.keys.bm 0 [] ++ ch)) 256, bbr := bbr,
      cfg := derive bbr "NRCFG" ch 256, jrn := derive bbr "NRJRN" ch 256, wrp := deriveScalar bbr "NRWRP" ch,
      mig := deriveScalar bbr "NRMIG" ch } }

/-- A sleeve's root (19 R566). -/
def sleeveRoot (c : Channel) (n : Nat) : List Byte := derive c.keys.bbr "NRSLV" [chanByte c, BitVec.ofNat 8 n] 384

/-- Extends a boot-measurement register, while they are not locked (19 R564). -/
def extendBm (i : Nat) (data : List Byte) (c : Channel) : Channel :=
  if c.keys.bmLocked then c
  else
    let old := nth c.keys.bm i []
    let d := beBytes 48 (Config.sha384 data).toNat
    { c with keys := { c.keys with bm := setNth c.keys.bm i (beBytes 48 (Config.sha384 (old ++ d)).toNat) } }

/-- The key a slot's cells are sealed under: DBK for an anchor, else JRN (19 R578). -/
def cellKey (c : Channel) (k : KeySlot) : List Byte := if k.kind = 4 then c.keys.dbk else c.keys.jrn

def cellMagic : U32 := 0x314A4B4E

/-- Is slot `s`'s cell valid: magic and CRC hold, and its seal opens under the present key (19 R578, R580)? -/
def cellValid (c : Channel) (s : Nat) (x : Option KeyCell) : Option KeyCell :=
  x.bind (fun cell => if cell.magic == cellMagic && cell.slot == s && cell.crcOk && cell.sealKey == cellKey c cell.rec_ then some cell else none)

/-- Writes a slot's cell by the rule of R578. -/
def writeCell (s : Nat) (k : KeySlot) (c : Channel) : Channel :=
  let a := cellValid c s (kGet c.keysNv.cellsA s)
  let b := cellValid c s (kGet c.keysNv.cellsB s)
  let cell (g : U32) : KeyCell := { magic := cellMagic, gen := g, slot := s, crcOk := true, rec_ := { k with uncommitted := false }, sealKey := cellKey c k }
  let nv := c.keysNv
  let nv' := match a, b with
    | some x, some y =>
      if y.gen.toNat < x.gen.toNat then { nv with cellsB := kPut nv.cellsB s (cell (x.gen + 1)) }
      else { nv with cellsA := kPut nv.cellsA s (cell (y.gen + 1)) }
    | some x, none => { nv with cellsB := kPut nv.cellsB s (cell (x.gen + 1)) }
    | none, some y => { nv with cellsA := kPut nv.cellsA s (cell (y.gen + 1)) }
    | none, none => { nv with cellsA := kPut nv.cellsA s (cell 1) }
  bump 0x2E00 0x04 { c with keysNv := nv' }

/-- Commits a slot under the hold-up check, or marks it UNCOMMITTED (19 R579). -/
def commitSlot (s : Nat) (c0 : Channel) : Channel :=
  match commitCheck 0 0xFF energyKey c0 with
  | (true, c) => let k := { slotAt c s with uncommitted := false }; writeCell s k (slotPut s k c)
  | (false, c) =>
    raiseLimited 16 0xFF s 0 0 (bump 0x2E00 0x05 (slotPut s { slotAt c s with uncommitted := true } c))

/-- Orphans the ACTIVE children of the slots listed, and theirs, to a depth of 512 (19 R581). -/
def orphanFrom : Nat → List Nat → Channel → Channel
  | 0, _, c => c
  | n + 1, ps, c =>
    let kids := (c.keys.slots.filter (fun p => p.2.st == 1 && ps.contains p.2.parent && p.2.parent < 512)).map (fun p => p.1)
    match kids with
    | [] => c
    | _ => orphanFrom n kids (kids.foldl (fun c s => raiseLimited 17 0xFF s 0 0 (slotPut s { slotAt c s with st := 2 } c)) c)

/-- Invalidates a slot: erased, descendants orphaned (19 R573, R581). -/
def invalidateSlot (s : Nat) (c : Channel) : Channel :=
  orphanFrom 512 [s] (slotPut s { keySlotEmpty with gen := (slotAt c s).gen, owner := (slotAt c s).owner } c)

/-- Invalidates a sleeve's slots and orphans those derived from its root (19 R581; 16 R498). -/
def invalidateSleeve (n : Nat) (c : Channel) : Channel :=
  let own := (c.keys.slots.filter (fun p => p.2.owner == n && p.2.st != 0 && p.2.parent != 0xFFFE)).map (fun p => p.1)
  let roots := (c.keys.slots.filter (fun p => p.2.owner == n && p.2.st == 1 && p.2.parent == 0xFFFE)).map (fun p => p.1)
  let c1 := own.foldl (fun c s => commitSlot s (invalidateSlot s c)) c
  orphanFrom 512 roots (roots.foldl (fun c s => raiseLimited 17 0xFF s 0 0 (slotPut s { slotAt c s with st := 2 } c)) c1)

/-- The generation of a key that is loaded: one more than the old key's, in an EMPTY slot the count as it stands (19 R573; log entry
55). -/
def loadedGen (old : KeySlot) : U32 := if old.st = 0 then old.gen else old.gen + 1

/-- Loads a key into a slot: an old key is invalidated first, and the generation goes up (19 R573). -/
def loadSlot (s : Nat) (k : KeySlot) (c : Channel) : Channel :=
  let old := slotAt c s
  let c1 := if old.st = 0 then c else orphanFrom 512 [s] c
  commitSlot s (slotPut s { k with st := 1, gen := loadedGen old, uncommitted := false } c1)

/-- May a key be imported into a slot: an ORPHANED one returns to ACTIVE by RE_DERIVE alone (19 R573, R581)? -/
def importable (c : Channel) (s : Nat) : Bool := (slotAt c s).st != 2

/-! ### Uses (19 R572) -/

/-- Does a kind serve an algorithm of 03 R91? -/
def kindServes (kind alg : Nat) : Bool :=
  (kind == 1 && decide (1 ≤ alg ∧ alg ≤ 3)) || ((kind == 2 || kind == 3) && (alg == 4 || alg == 5)) || (kind == 4 && alg == 0)

/-- A use of a slot for a right and an algorithm: the key, where it may be used; a refusal is counted (19 R572,
R581). -/
def useSlot (s right alg : Nat) (c : Channel) : Option (List Byte) × Channel :=
  let k := slotAt c s
  if k.st ≠ 1 then (none, bump 0x2E00 0x07 c)
  else if !(k.rights.getLsbD right) || !(kindServes k.kind alg) then (none, bump 0x2E00 0x08 c)
  else (some k.key, bump (0x9A00 + s) 0x08 c)

/-- The tag an algorithm of 03 R91 gives over some octets. -/
def tagOf (alg : Nat) (key msg : List Byte) : List Byte :=
  let h := beBytes 32 (Config.hmacTag key msg).toNat
  let g := beBytes 16 (Config.gmacTag key msg).toNat
  if alg = 1 then h.take 10 else if alg = 2 then h.take 16 else if alg = 3 then h else if alg = 4 then g.take 8 else g

/-! ### Key commands (19 R576) -/

def kSlot (b : List Byte) : Nat := leAt b 2 2
def kParent (b : List Byte) : Nat := leAt b 4 2
def kRights (b : List Byte) : Nat := leAt b 8 4
def kBody (b : List Byte) : List Byte := b.drop 16

/-- The slots that hold an anchor (19 R577). -/
def anchors (c : Channel) : List KeySlot :=
  (c.keys.slots.filter (fun p => p.2.st == 1 && p.2.kind == 4 && p.2.rights.getLsbD 4)).map (fun p => p.2)

/-- IMPORT_ANCHOR at its boundary (19 R577). -/
def applyAnchor (b : List Byte) (c : Channel) : Channel :=
  let pt := (kBody b).take 97
  let sig := slice (kBody b) 97 96
  let okSig := (anchors c).isEmpty || (anchors c).any (fun a => Config.ecdsaVerify a.key (pt ++ leBytes 2 (kSlot b)) sig)
  if kRights b ≠ 16 then setResult 3 c
  else if !importable c (kSlot b) then setResult 2 c
  else if !okSig then setResult 5 c
  else setResult 0 (loadSlot (kSlot b) { keySlotEmpty with kind := 4, rights := 16, key := pt } c)

/-- Unwraps this channel's record of R574: key, or none where the integrity check fails (19 R575). -/
def unwrapRec (r : List Byte) (c : Channel) : Option (List Byte) :=
  let z := Config.ecdhShared c.keys.wrp (slice r 20 97)
  let ctx := leBytes 4 serialNumber.toNat ++ (chanByte c :: (slice r 4 2 ++ slice r 12 4))
  Config.keyUnwrap (derive z "NRKW" ctx 256) (slice r 120 (if leAt r 7 1 = 2 then 24 else 40))

/-- The 160-byte records of a body. -/
def recs160 : Nat → List Byte → List (List Byte)
  | 0, _ => []
  | n + 1, b => if b.isEmpty then [] else b.take 160 :: recs160 n (b.drop 160)

/-- This channel's own record among several. -/
def ownRec (c : Channel) (l : List (List Byte)) : Option (List Byte) := l.find? (fun r => nth r 16 0 == chanByte c)

/-- Loads an imported key from its record (19 R573, R575). -/
def importRec (r : List Byte) (all : List Byte) (c : Channel) : Bool × Channel :=
  match unwrapRec r c with
  | none => (false, raiseLimited 18 0xFF (leAt r 4 2) 0 0 (bump 0x2E00 0x12 c))
  | some key =>
    (true, loadSlot (leAt r 4 2) { keySlotEmpty with
      kind := leAt r 7 1, rights := BitVec.ofNat 32 (leAt r 8 4),
      owner := leAt r 6 1, ident := BitVec.ofNat 32 (leAt r 12 4), key := key, wrapped := all } c)

/-- IMPORT_WRAPPED at its boundary: this channel's record, in its ranges and for the slot that the header names (19 R574 to R576; log
entry 55). -/
def applyWrapped (b : List Byte) (c : Channel) : Channel :=
  match ownRec c (recs160 8 (kBody b)) with
  | none => setResult 4 c
  | some r =>
    if !keyRecOk r || leAt r 4 2 ≠ kSlot b then setResult 3 c
    else if !importable c (kSlot b) then setResult 2 c
    else match importRec r (kBody b) c with
      | (true, c1) => setResult 0 c1
      | (false, c1) => setResult 4 c1

def applyInvalidate (b : List Byte) (c : Channel) : Channel :=
  if (slotAt c (kSlot b)).st = 0 then setResult 2 c
  else setResult 0 (commitSlot (kSlot b) (invalidateSlot (kSlot b) c))

/-- A derived key: DERIVE of the parent's key with the label and the context slot ‖ generation (19 R576). -/
def derivedFrom (parent label : List Byte) (s : Nat) (gen : U32) : List Byte := kdf parent label (leBytes 2 s ++ leBytes 4 gen.toNat) 384

/-- The key a slot derives from its parent, or from its owner's sleeve root. -/
def derivedKey (c : Channel) (parent owner s : Nat) (gen : U32) (label : List Byte) : List Byte :=
  let k := if parent = 0xFFFE then sleeveRoot c owner else (slotAt c parent).key
  derivedFrom k label s gen

/-- May the parent be derived from (19 R570, R573)? A sleeve root always may. -/
def parentOk (c : Channel) (parent : Nat) : Bool :=
  parent == 0xFFFE || ((slotAt c parent).st == 1 && (slotAt c parent).rights.getLsbD 5)

def applyDerive (b : List Byte) (c : Channel) : Channel :=
  let s := kSlot b
  let p := kParent b
  let owner := if p = 0xFFFE then (slotAt c s).owner else (slotAt c p).owner
  let label := (kBody b).take 16
  if kRights b &&& 0x60 ≠ kRights b then setResult 3 c
  else if (slotAt c s).st ≠ 0 || !parentOk c p then setResult 2 c
  else if p = 0xFFFE && decide (64 ≤ owner) then setResult 3 c
  else
    let gen := (slotAt c s).gen
    setResult 0 (loadSlot s { keySlotEmpty with
      kind := 5, rights := BitVec.ofNat 32 (kRights b), owner := owner,
      parent := p, key := derivedKey c p owner s gen label, label := label } c)

def applyReDerive (b : List Byte) (c : Channel) : Channel :=
  let s := kSlot b
  let k := slotAt c s
  if k.st ≠ 2 || !parentOk c k.parent then setResult 2 c
  else
    let gen := k.gen + 1
    setResult 0 (commitSlot s (slotPut s { k with st := 1, gen := gen, key := derivedKey c k.parent k.owner s gen k.label } c))

/-- A key command at its boundary. -/
def applyKey (cmd : Nat) (b : List Byte) (c : Channel) : Channel :=
  match cmd with
  | 1 => applyAnchor b c
  | 2 => applyWrapped b c
  | 3 => applyInvalidate b c
  | 4 => applyDerive b c
  | _ => applyReDerive b c

/-- The modes a key command is written in (19 R576). -/
def keyModes (cmd : Nat) : List Nat := if cmd = 1 then [2, 3] else if cmd = 3 then [2, 3, 4, 5] else [3, 4, 5]

/-- The body of a key command, in bytes (19 R576). -/
def keyBodyLength (cmd : Nat) : Nat :=
  match cmd with
  | 1 => 193
  | 2 => 320
  | 4 => 16
  | _ => 0

/-- A key command through a path (19 R576, R577; 20 R608 category 0x6). PF0 carries to the lead channel alone, so that result 0x06 of
R589 does not arise. -/
def keyCommand (cmd : Nat) (p : Path) (b : List Byte) (c : Channel) : Channel :=
  let pathOk := match p with | .pf0 => true | .vf _ => false | _ => cmd == 1
  if !pathLive p c then c
  else if !modeIn (keyModes cmd) c then refuse 0x0104 0x2E00 0x0C p (setResult 1 c)
  else if b.length ≠ 16 + keyBodyLength cmd then refuse 0x0106 0x2E00 0x0C p (setResult 1 c)
  else if decide (512 ≤ kSlot b) then refuse 0x0105 0x2E00 0x0C p (setResult 2 c)
  else if !pathOk then refuse 0x0109 0x2E00 0x0C p (setResult 1 c)
  else
    let t := p1After 1000000 c
    let c1 := journalAdd 6 cmd 0xFF [] (journalAdd 3 (pathFn p) 0xFF [] (bump 0x2000 0x1B c))
    let c2 := answer p 0 [] { c1 with keys := { c1.keys with pend := c1.keys.pend ++ [⟨cmd, b, t⟩] } }
    if p == .pf0 then post (.keyChange cmd b t) c2 else c2

/-- A key command takes effect: every pending one of the earliest boundary, in order (19 R576). -/
def keyCommandEffectC (c : Channel) : Channel :=
  match c.keys.pend with
  | [] => c
  | k :: rest => applyKey k.cmd k.body (advanceTo k.at_ { c with keys := { c.keys with pend := rest } })

/-- Each UNCOMMITTED slot is committed where the check passes (19 R579). -/
def keyCommitRetryC (c : Channel) : Channel :=
  let l := (c.keys.slots.filter (fun p => p.2.uncommitted)).map (fun p => p.1)
  l.foldl (fun c s =>
    if holdupOk c.psu c.epUJ energyKey then commitSlot s c else c) c

def execImportAnchor (p : Path) (b : List Byte) (s : State) : Host.Outcome State Fault Refusal :=
  onPath p (.importAnchor p b) (keyCommand 1 p b) s
def execImportWrapped (p : Path) (b : List Byte) (s : State) : Host.Outcome State Fault Refusal :=
  onPath p (.importWrapped p b) (keyCommand 2 p b) s
def execKeyInvalidate (p : Path) (b : List Byte) (s : State) : Host.Outcome State Fault Refusal :=
  onPath p (.keyInvalidate p b) (keyCommand 3 p b) s
def execKeyDerive (p : Path) (b : List Byte) (s : State) : Host.Outcome State Fault Refusal :=
  onPath p (.keyDerive p b) (keyCommand 4 p b) s
def execKeyReDerive (p : Path) (b : List Byte) (s : State) : Host.Outcome State Fault Refusal :=
  onPath p (.keyReDerive p b) (keyCommand 5 p b) s
def execKeyCommandEffect (ch : Chan) (s : State) : Host.Outcome State Fault Refusal := onChan ch keyCommandEffectC s
def execKeyCommitRetry (ch : Chan) (s : State) : Host.Outcome State Fault Refusal := onChan ch keyCommitRetryC s

/-! ### Restoring at B3 (19 R568, R580) -/

/-- Restores a slot from its valid cell of the higher generation; a cell that fails to unseal is discarded. -/
def restoreSlot (c : Channel) (s : Nat) : Channel :=
  let rawA := kGet c.keysNv.cellsA s
  let rawB := kGet c.keysNv.cellsB s
  let a := cellValid c s rawA
  let b := cellValid c s rawB
  let lost := (if rawA.isSome && a.isNone then 1 else 0) + (if rawB.isSome && b.isNone then 1 else 0)
  let c1 := bumpN 0x2E00 0x06 lost c
  let best := match a, b with
    | some x, some y => some (if x.gen.toNat < y.gen.toNat then y else x)
    | some x, none => some x
    | none, some y => some y
    | none, none => none
  match best with
  | some cell => slotPut s cell.rec_ c1
  | none => c1

/-- Every slot that has a cell. -/
def restoreSlots (c : Channel) : Channel :=
  let ks := (c.keysNv.cellsA.map (fun p => p.1) ++ c.keysNv.cellsB.map (fun p => p.1)).eraseDups
  ks.foldl restoreSlot c

/-! ### Zeroisation (19 R582, R583) -/

/-- Zeroises the channel: keys and nonce gone, marker set, outputs off, SEALED, privileged episode (19 R582, R583;
20 R601). `src` is the tamper source of OD 2E00:09. -/
def zeroise (src : Nat) (c : Channel) : Channel :=
  let c1 := { c with
    keys := { keysReset with st := 2, bm := c.keys.bm, bmLocked := c.keys.bmLocked },
    keysNv := { c.keysNv with nonce := [], sealedMarker := true },
    pub := { c.pub with cuff := false },
    seam := { c.seam with holdCtl := false, alive := false, takeover := none },
    graphs := [], lse := [], boot := { c.boot with graphsRun := false, pendingMode := none, granted := false, readyMask := 0 },
    disp := { c.disp with delay := [], parked := [], fences := [], moves := [], planned := [], queued := [], tiles := kMapVals c.disp.tiles (fun _ t => { t with stack := [] }) },
    paths := [], ingest := ingestReset, sw := { c.sw with section_ := false, cfg := switchDefault } }
  let c2 := setRo 0x2E00 0x0A (nowNs c1) (setRo 0x2E00 0x09 src c1)
  raiseLimited 15 0xFF src 0 0 (episode 1 (BitVec.ofNat 8 src :: 0 :: 0 :: 0 :: leBytes 8 (nowNs c)) (enterMode .sealedMode c2))

/-- MANTLE_MESH_BREACH: of the channel's own mesh, while it has power (19 R582; 00 R4). -/
def mantleMeshBreachC (c : Channel) : Channel := if c.boot.powered then zeroise 1 c else c
def execMantleMeshBreach (ch : Chan) (s : State) : Host.Outcome State Fault Refusal := onChan ch mantleMeshBreachC s

/-- TAMPER_N_ASSERTED: low for `ns` ns, which counts from 1 µs (19 R582). -/
def tamperNAssertedC (ns : Nat) (c : Channel) : Channel := if c.boot.powered && decide (1000 ≤ ns) then zeroise 2 c else c
def execTamperNAsserted (ch : Chan) (ns : Nat) (s : State) : Host.Outcome State Fault Refusal := onChan ch (tamperNAssertedC ns) s

/-! ### Attestation, certificate, re-provisioning (19 R584 to R587) -/

/-- ATTESTATION_REQUEST: role, slot and challenge are held until the statement is built (19 R587). -/
def attestationRequestC (p : Path) (b : List Byte) (c : Channel) : Channel :=
  if !pathLive p c then c
  else match p with
    | .vf _ => refuse 0x0109 0x2E00 0x0E p c
    | _ =>
      if !modeIn [2, 3, 4, 5] c then refuse 0x0104 0x2E00 0x0E p c
      else if b.length ≠ 36 then refuse 0x0106 0x2E00 0x0E p c
      else if leAt b 0 1 = 0 || 3 < leAt b 0 1 || (leAt b 0 1 = 3 && 512 ≤ leAt b 2 2) then refuse 0x0105 0x2E00 0x0E p c
      else accept p (.attest b) { c with keys := { c.keys with request := some b } }
def execAttestationRequest (p : Path) (b : List Byte) (s : State) : Host.Outcome State Fault Refusal :=
  onPath p (.attestationRequest p b) (attestationRequestC p b) s

/-- The public point of a private key, an opaque function of it. -/
def publicOf (k : List Byte) : List Byte := Config.ecdhShared k []

/-- The statement of R586 for a request. -/
def statementFor (b : List Byte) (c : Channel) : List Byte :=
  let role := leAt b 0 1
  let slot := leAt b 2 2
  let k := slotAt c slot
  let pub := if role = 1 then publicOf c.keys.wrp else if role = 2 then publicOf c.keys.mig
    else if k.kind = 4 then k.key else List.replicate 97 0
  let hash := if role = 3 && k.kind ≠ 4 then List.replicate 48 0 else beBytes 48 (Config.sha384 pub).toNat
  let props : Nat := if role ≠ 3 then 7 else if k.parent = 0xFFFF then 2 else 7
  let head := asciiBytes "NRAT" ++ leBytes 2 1 ++ [chanByte c, BitVec.ofNat 8 role] ++
    leBytes 4 serialNumber.toNat ++ leBytes 2 (if role = 3 then slot else 0xFFFF) ++
    [BitVec.ofNat 8 (if role = 3 then k.kind else 6), BitVec.ofNat 8 props] ++ leBytes 2 (edition c).1 ++ leBytes 2 (edition c).2 ++
    leBytes 4 (if role = 3 then k.rights.toNat else 0) ++ slice b 4 32 ++ leBytes 8 (nowNs c) ++ pub.take 97 ++
    List.replicate 7 0 ++ hash ++ c.keys.bm.foldl (fun a x => a ++ x) []
  head ++ Config.ecdsaSign c.keysNv.identity head

/-- ATTESTATION_STATEMENT_READY: the statement can be read (19 R587). -/
def attestationStatementReadyC (c : Channel) : Channel :=
  match c.keys.request with
  | none => c
  | some b => { c with keys := { c.keys with request := none, statement := statementFor b c } }
def execAttestationStatementReady (ch : Chan) (s : State) : Host.Outcome State Fault Refusal :=
  onChan ch attestationStatementReadyC s

/-- RE_PROVISIONING in SEALED (19 R584): a new nonce and identity, marker clear, journal erased, restart cause
0x06. -/
def reProvisioningC (p : Path) (b : List Byte) (c : Channel) : Channel :=
  let gen := leAt b 8 4
  let okPath := match p with | .pf1 => true | .pf2 => true | .svc _ _ => true | _ => false
  if !pathLive p c then c
  else if !okPath then refuse 0x0109 0x2E00 0x10 p c
  else if c.boot.mode != .sealedMode then refuse 0x0104 0x2E00 0x10 p c
  else if b.length ≠ 108 then refuse 0x0106 0x2E00 0x10 p c
  else if !(Config.ecdsaVerify Config.provisioningKey (b.take 12) (b.drop 12)) ||
      leAt b 0 4 ≠ serialNumber.toNat || nth b 4 0 ≠ chanByte c || gen ≤ c.keysNv.provGen.toNat then
    refuse 0x0105 0x2E00 0x10 p c
  else
    let d := drawBytes 4 c
    let e := drawBytes 6 d.2
    let c1 := accept p (.reprovision b) e.2
    restartBoot 6 0 { c1 with keysNv := { keysNvReset with
      nonce := d.1, provGen := BitVec.ofNat 32 gen, identity := e.1, cert := c1.keysNv.cert, reprovisioned := true } }
def execReProvisioning (p : Path) (b : List Byte) (s : State) : Host.Outcome State Fault Refusal :=
  onPath p (.reProvisioning p b) (reProvisioningC p b) s

/-- Does a certificate name the channel's identity key, and verify under the issuing key (19 R585)? -/
def certificateOk (b : List Byte) (c : Channel) : Bool :=
  Config.certNames b (publicOf c.keysNv.identity) && Config.certSigned Config.issuingKey b

/-- CERTIFICATE_INSTALL in HOLD (19 R585). -/
def certificateInstallC (p : Path) (b : List Byte) (c : Channel) : Channel :=
  if !pathLive p c then c
  else match p with
    | .vf _ => refuse 0x0109 0x2E00 0x13 p c
    | _ =>
      if c.boot.mode != .hold then refuse 0x0104 0x2E00 0x13 p c
      else if !certificateOk b c then
        refuse 0x0105 0x2E00 0x13 p c
      else accept p (.certificate b) { c with keysNv := { c.keysNv with cert := b } }
def execCertificateInstall (p : Path) (b : List Byte) (s : State) : Host.Outcome State Fault Refusal :=
  onPath p (.certificateInstall p b) (certificateInstallC p b) s

end Sys2Proof.Machine
end

