-- ==== Sys2Proof/Machine/Publish.lean ====
section
/-! DEFINITION. The trip matrix, the publisher, the Cuff and GOOSE subscriptions (10). -/
namespace Sys2Proof.Machine

/-- Delay-list insertion: by due tick, equal ones in insertion order (06 R205). -/
def delayInsert (e : DelayEntry) : List DelayEntry → List DelayEntry
  | [] => [e]
  | x :: r => if e.due < x.due then e :: x :: r else x :: delayInsert e r

/-- The current tick: the latest one begun, and no tick is issued twice (06 R204). -/
def tickOf (c : Channel) : Nat := max c.time.lastTick (nowNs c / 1000)

def setDelay (l : List DelayEntry) (c : Channel) : Channel := { c with disp := { c.disp with delay := l } }

/-- T1, T0 and g in effect for a publication; 0 selects the default (10 R313, R317). -/
def pubT1 (c : Channel) (p : GPub) : Nat := let v := entryNat c (0x8C00 + p.cfg.num) 6 p.cfg.t1; if v = 0 then 2000 else v
def pubT0 (c : Channel) (p : GPub) : Nat := let v := entryNat c (0x8C00 + p.cfg.num) 7 p.cfg.t0; if v = 0 then 1000000 else v
def pubG (p : GPub) : Nat := if p.cfg.g = 0 then 2 else p.cfg.g

def putGPub (g : Nat) (p : GPub) (c : Channel) : Channel := { c with pub := { c.pub with gpubs := kPut c.pub.gpubs g p } }

/-- Next stNum and sqNum after the greatest one: 1 (10 R317). -/
def nextCount (x : U32) : U32 := if x = 0xFFFFFFFF#32 then 1 else x + 1

/-- Re-keys a publication's RETX entry; one due in this tick is superseded (06 R208 to R210). -/
def rekey (g due : Nat) (c : Channel) : Channel :=
  let late := c.disp.delay.any (fun e => e.kind == .retx g && decide (e.due ≤ tickOf c))
  let l := delayInsert ⟨.retx g, due, false⟩ (c.disp.delay.filter (fun e => e.kind != .retx g))
  let c1 := setDelay l (if late then bump 0x2500 0x1D c else c)
  highWater 0x2500 0x1A l.length c1

/-- The instant in whole µs, rounded up. -/
def ceilUs (t : Nat) : Nat := (t + 999) / 1000

/-- Hands a publication's present state to the publisher, `interval` µs before its next frame (10 R316, R318); `change`:
for a state change. -/
def enqueueGoose (tick interval : Nat) (change : Bool) (p : GPub) (c : Channel) : Channel :=
  let before := c.pub.jobs.filter (fun j => p.cfg.protection || !j.protection)
  { c with pub := { c.pub with jobs := c.pub.jobs ++
      [{ protection := p.cfg.protection, sv := false, num := p.cfg.num, tick := tick,
         build := ⟨p.stNum, p.sqNum, p.t, interval, p.pubd⟩, smp := 0, svVals := [], behaviour := behOf c p.cfg.owner,
         ahead := if change then some before.length else none }] } }

/-- A retransmission handed over in this tick and not yet built gives way to a state change (06 R210). -/
def dropRetx (g : Nat) (c : Channel) : Channel :=
  let old (j : PubJob) : Bool := !j.sv && j.num == g && j.tick == tickOf c && j.tick != 0
  if c.pub.jobs.any old then bump 0x2500 0x1D { c with pub := { c.pub with jobs := c.pub.jobs.filter (fun j => !old j) } } else c

/-- A state change of a publication with instant `t`, made by writes of the members `ms` (10 R315; 06 R208, R209). -/
def stateChange (g t : Nat) (ms : List Nat) (p : GPub) (c : Channel) : Channel :=
  let t1 := pubT1 c p
  let p1 : GPub := { p with
    stNum := nextCount p.stNum, sqNum := 0, t := BitVec.ofNat 64 t, interval := t1, t1 := t1, t0 := pubT0 c p
    cycle := some (cycleOf c.time.up), wrote := ms }
  rekey g (ceilUs t + t1) (enqueueGoose 0 t1 true p1 (bump (0x8C00 + g) 4 (bump 0x2600 4 (putGPub g p1 (dropRetx g c)))))

/-- Does the job of a publication's latest state change still wait? -/
def changeWaits (g : Nat) (p : GPub) (j : PubJob) : Bool :=
  !j.sv && j.num == g && j.build.sqNum == 0 && j.build.stNum == p.stNum

/-- Are writes of the members `ms` committed in the dispatcher cycle of the latest state change (10 R315)? A writer
writes once in a cycle, so a member written already belongs to an earlier one (log entry 52). -/
def sameCycle (g : Nat) (ms : List Nat) (p : GPub) (c : Channel) : Bool :=
  p.cycle == some (cycleOf c.time.up) && ms.all (fun m => !p.wrote.contains m) && c.pub.jobs.any (changeWaits g p)

/-- Further writes of the same dispatcher cycle: they join the state change that waits (10 R315). -/
def joinChange (g : Nat) (ms : List Nat) (p : GPub) (c : Channel) : Channel :=
  putGPub g { p with wrote := p.wrote ++ ms }
    { c with pub := { c.pub with jobs := c.pub.jobs.map (fun j =>
        if changeWaits g p j then { j with build := { j.build with vals := p.pubd } } else j) } }

/-- One write of a member: value, quality; its timestamp moves only where the write changes what is published. -/
def writeMember (w : Nat × U32 × U32 × Nat) (st : List MemberVal × Bool) : List MemberVal × Bool :=
  let (m, v, q, t) := w
  match st.1[m]? with
  | none => st
  | some old =>
    if old.v ≠ v ∨ (old.q ^^^ q) &&& 0x1FFF#32 ≠ 0 then (setNth st.1 m ⟨v, q, BitVec.ofNat 64 t⟩, true) else st

/-- Writes committed together to one publication: one state change where they change what is published (10 R315);
before the first frame they only update the members (R317). -/
def pubWrite (g : Nat) (t : Nat) (ws : List (Nat × U32 × U32 × Nat)) (c : Channel) : Channel :=
  match kGet c.pub.gpubs g with
  | none => c
  | some p =>
    let r := ws.foldl (fun st w => writeMember w st) (p.pubd, false)
    let p1 := { p with pubd := r.1 }
    let ms := ws.map (fun w => w.1)
    if !p.first then putGPub g { p with pubd := ws.foldl (fun l w => setNth l w.1 ⟨w.2.1, w.2.2.1, BitVec.ofNat 64 w.2.2.2⟩) p.pubd } c
    else if !r.2 then c
    else if sameCycle g ms p c then joinChange g ms p1 c
    else stateChange g t ms p1 c

/-- The members of a publication that a writer drives: kind 0 trip signal, 1 PUB, 2 LSE variable (10 R313). -/
def membersOf (p : GPubRec) (kind : Nat) (ref : U32) : List Nat :=
  ((List.range p.members.length).zip p.members).filterMap (fun x => if x.2.writer = kind ∧ x.2.ref = ref then some x.1 else none)

/-- The value a trip signal gives a member: FALSE while the behaviour blocks, then the invert flag (10 R311). -/
def tripMember (m : MemberRec) (blocked : Bool) (v : Bool) : U32 :=
  let x := v && !blocked
  if (x != m.invert) then 1 else 0

/-- What trip signal `n` writes into the members of a publication (10 R311; 16 R501). -/
def tripWrites (n : Nat) (v : Bool) (q : U32) (t : Nat) (p : GPub) (c : Channel) : List (Nat × U32 × U32 × Nat) :=
  let blk := behBlocked (behOf c p.cfg.owner)
  (membersOf p.cfg 0 (BitVec.ofNat 32 n)).map (fun m =>
    (m, tripMember (nth p.cfg.members m ⟨1, 0, false, false, false, 0⟩) blk v, if blk then q ||| qOpBlocked else q, t))

/-- The trip matrix writes signal `n` into every member it drives (10 R311; 16 R501). -/
def tripWrite (n : Nat) (v : Bool) (q : U32) (t : Nat) (c : Channel) : Channel :=
  c.pub.gpubs.foldl (fun c x =>
    let ws := tripWrites n v q t x.2 c
    if ws.isEmpty then c else pubWrite x.1 t ws c) c

/-! ### Building frames -/

/-- The owner sleeve's mark on published frames (02 R47; 16 R501). -/
def testMark (c : Channel) (beh : Nat) : Bool := c.boot.mode == .commission || behTest beh

/-- Time quality of a GOOSE timestamp (13 R409): [7] LeapSecondsKnown, [5] ClockNotSynchronized, [4:0] accuracy. -/
def timeQuality (c : Channel) : Byte :=
  let leap : Nat := if c.time.leapKnown then 128 else 0
  match c.time.servo with
  | .freerun | .locking => 32 + 31
  | .locked => BitVec.ofNat 8 ((if c.time.utcValid then 128 else 0) + 20)
  | .holdover => BitVec.ofNat 8 (if c.time.limitPassed then leap + 32 + 31 else leap + 19)

/-- smpSynch of published SV (10 R320; 13 R409). -/
def smpSynch (c : Channel) : Nat := match c.time.servo with | .locked => 2 | .holdover => 1 | _ => 0

/-- A VLAN field of R313: 0xFFFF untagged. -/
def vlanField (v : Nat) : Option VTag := if v = 0xFFFF then none else some ⟨v / 8192, false, v % 4096⟩

/-- timeAllowedToLive: twice the interval to the next frame in whole ms, rounded up, at least 1 (10 R316). -/
def talOf (interval : Nat) : Nat := max 1 ((2 * interval + 999) / 1000)

/-- An instant as an IEC 61850 timestamp (13 R409): UTC is the PTP time less currentUtcOffset. -/
def utcOf (c : Channel) (t : U64) : U64 := t - BitVec.ofInt 64 (c.time.utcOffset * 1000000000)

/-- A published dataset: each member, with its quality and timestamp members (10 R314); a timestamp member is 0 until its
writer's first write (R312). -/
def datasetOf (c : Channel) (ms : List MemberRec) (vs : List MemberVal) : List GVal :=
  (ms.zip vs).foldl (fun acc x =>
    acc ++ [⟨x.1.ty, x.2.v.setWidth 64⟩] ++
      (if x.1.hasQ then [⟨5, (x.2.q &&& 0x1FFF#32).setWidth 64⟩] else []) ++
      (if x.1.hasT then [⟨6, if x.2.t = 0 then 0 else utcOf c x.2.t⟩] else [])) []

/-- Tags a frame with the key of a slot (03 R91; 19 R572); none where the use is refused. -/
def tagFrame (alg key right : Nat) (auth : List Byte) (c : Channel) : Option Sec × Channel :=
  if alg = 0 then (none, c)
  else
    let u := useSlot key right alg c
    match u.1 with
    | none => (none, u.2)
    | some k => (some ⟨(slotAt c key).ident, alg, tagOf alg k auth, auth⟩, u.2)

/-- Octets of a message that its tag covers, as this model lists them (log entry 11). -/
def gooseOctets (m : GooseMsg) : List Byte :=
  m.gocbRef ++ m.goID ++ leBytes 4 m.stNum.toNat ++ leBytes 4 m.sqNum.toNat ++ leBytes 8 m.t.toNat ++
    m.members.foldl (fun a v => a ++ leBytes 8 v.v.toNat) []

/-- The GOOSE message of a job (10 R314, R316). -/
def gooseOf (p : GPub) (j : PubJob) (c : Channel) : GooseMsg :=
  { appid := p.cfg.appid, gocbRef := p.cfg.gocbRef, datSet := p.cfg.datSet, goID := p.cfg.goID,
    t := utcOf c j.build.t, timeQ := timeQuality c, stNum := j.build.stNum,
    sqNum := j.build.sqNum, talMs := talOf j.build.interval, confRev := p.cfg.confRev, ndsCom := false,
    test := testMark c j.behaviour, sim := false, members := datasetOf c p.cfg.members j.build.vals }

/-- Octets of frames. -/
def cuffOctets (l : List BuiltFrame) : Nat := l.foldl (fun n b => n + b.frame.len) 0

/-- The newest of frames in order that have room in the Cuff store: 4,096 frames, 2 MiB (12 R383). -/
def storeRoom : List BuiltFrame → List BuiltFrame
  | [] => []
  | b :: r => if r.length < 4096 ∧ cuffOctets (b :: r) ≤ 2097152 then b :: r else storeRoom r

/-- Keeps a discarded frame in the Cuff store, in the room it has; while the lanes are down the newest of a publication only
(12 R383). -/
def storeFrame (b : BuiltFrame) (c : Channel) : Channel :=
  let keep := if c.seam.presence = 2 then c.seam.store
    else c.seam.store.filter (fun x => !(x.sv == b.sv && x.num == b.num))
  let l := storeRoom (keep ++ [b])
  highWater 0x2800 0x19 l.length (bumpN 0x2800 0x1B (keep.length + 1 - l.length) { c with seam := { c.seam with store := l } })

/-- The Cuff (10 R322): open, the frame waits for port 14; closed, it is discarded, counted and kept. A publication of a
sleeve in off, or frozen, never reaches it (16 R501, R494). -/
def throughCuff (b : BuiltFrame) (beh : Nat) (frozen : Bool) (c : Channel) : Channel :=
  if beh = 5 || frozen then c
  else if c.pub.cuff then { c with pub := { c.pub with waiting := c.pub.waiting ++ [b] } }
  else
    let c1 := bump 0x2600 0x06 (if b.sv then c else bump (0x8C00 + b.num) 5 c)
    if c.seam.holdCtl then c1 else storeFrame b c1

/-- The publication part of a state change up to the handover, OD 2600:09: no more than R328 of 10 gives for the steps
that it makes, and half a microsecond for each job ahead (log entry 43). -/
def partFigure (j : PubJob) (c : Channel) : Channel :=
  match j.ahead with
  | some n => if c.pub.cuff then figure 0x2600 9 (1400 + 500 * n) c else c
  | none => c

/-- Builds the frame of a GOOSE job: tag, sequence number, Cuff (10 R314, R318, R321; 14 R439). -/
def buildGoose (p : GPub) (j : PubJob) (c : Channel) : Channel :=
  let m := gooseOf p j c
  let r := tagFrame p.cfg.alg p.cfg.key 2 (gooseOctets m) c
  let f : Frame := { dst := p.cfg.dst, src := p.srcMac, vlan := vlanField p.cfg.vlan, len := 64 + 8 * m.members.length,
                     good := true, red := .none, sec := r.1, body := .goose m, head := [] }
  let b : BuiltFrame := ⟨false, j.num, j.build.stNum, j.build.sqNum, 0, p.seqNo, p.cfg.protection, f⟩
  throughCuff b j.behaviour (sleeveFrozen c p.cfg.owner)
    (partFigure j (bump 0x2600 5 (putGPub j.num { p with seqNo := (p.seqNo + 1) % 65536 } r.2)))

def putSPub (g : Nat) (p : SPub) (c : Channel) : Channel := { c with pub := { c.pub with spubs := kPut c.pub.spubs g p } }

/-- Builds the frame of an SV job (10 R320); the module flags [31:25] of a quality word are not published (R314). -/
def buildSv (p : SPub) (j : PubJob) (c : Channel) : Channel :=
  let mark := testMark c j.behaviour
  let wire (q : U32) : U32 := (if mark then q ||| qTest else q) &&& 0x01FFFFFF#32
  let a : Asdu := ⟨p.cfg.svID, j.smp, p.cfg.confRev, smpSynch c, j.svVals.map (fun x => (x.1, wire x.2))⟩
  let auth := p.cfg.svID ++ leBytes 2 j.smp ++ a.pairs.foldl (fun l x => l ++ leBytes 4 x.1.toNat ++ leBytes 4 x.2.toNat) []
  let r := tagFrame p.cfg.alg p.cfg.key 3 auth c
  let f : Frame := { dst := p.cfg.dst, src := p.srcMac, vlan := vlanField p.cfg.vlan, len := 108 + 8 * a.pairs.length,
                     good := true, red := .none, sec := r.1, body := .sv p.cfg.appid false true [a], head := [] }
  let b : BuiltFrame := ⟨true, j.num, 0, 0, j.smp, p.seqNo, p.cfg.protection, f⟩
  throughCuff b j.behaviour (sleeveFrozen c p.cfg.owner)
    (setRo (0x8D00 + j.num) 1 j.smp (bump 0x2600 7 (putSPub j.num { p with seqNo := (p.seqNo + 1) % 65536, lastSmp := j.smp } r.2)))

/-- The next job: EXPRESS first, in commit order within a class (10 R318). -/
def takeJob : List PubJob → Option (PubJob × List PubJob)
  | [] => none
  | l => match l.find? (fun j => !j.protection) with
    | some j => some (j, l.erase j)
    | none => l.head?.map (fun j => (j, l.drop 1))

/-- PUBLISHER_FRAME_BUILD (10 R314 to R322). -/
def publisherFrameBuildC (c : Channel) : Channel :=
  match takeJob c.pub.jobs with
  | none => c
  | some (j, rest) =>
    let c1 := { c with pub := { c.pub with jobs := rest } }
    if j.sv then match kGet c.pub.spubs j.num with | some p => buildSv p j c1 | none => c1
    else match kGet c.pub.gpubs j.num with | some p => buildGoose p j c1 | none => c1

def execPublisherFrameBuild (ch : Chan) (s : State) : Host.Outcome State Fault Refusal := onChan ch publisherFrameBuildC s

/-- FIRST_GOOSE_FRAME: stNum 1, sqNum 0, at the first P1 boundary after graph start, which the command waits for
(10 R317); after a restore, one above the stNum saved (16 R499). -/
def firstGooseFrameC (g : Nat) (c : Channel) : Channel :=
  match kGet c.pub.gpubs g with
  | none => c
  | some p =>
    if p.first || !sleeveRuns c p.cfg.owner || !c.boot.graphsRun then c
    else
      let t := p.firstAt
      let p1 : GPub := { p with first := true, stNum := nextCount p.stNum, sqNum := 0, t := BitVec.ofNat 64 t, interval := pubT1 c p, t1 := pubT1 c p, t0 := pubT0 c p }
      rekey g (ceilUs t + p1.t1) (enqueueGoose 0 p1.t1 false p1 (putGPub g p1 (advanceTo t c)))
def execFirstGooseFrame (ch : Chan) (g : Nat) (s : State) : Host.Outcome State Fault Refusal := onChan ch (firstGooseFrameC g) s

/-- A RETX entry that is due, taken off the list: the retransmission goes to the publisher and the entry to the next
step (10 R316; 06 R205). -/
def retxStep (g : Nat) (e : DelayEntry) (c : Channel) : Channel :=
  match kGet c.pub.gpubs g with
  | none => c
  | some p =>
    let iv := min (p.interval * pubG p) p.t0
    let p1 := { p with sqNum := nextCount p.sqNum, interval := iv }
    enqueueGoose (tickOf c) iv false p1 (putGPub g p1 (setDelay (delayInsert ⟨.retx g, e.due + iv, false⟩ c.disp.delay) c))

/-! ### Derived SV (10 R320) -/

/-- Sends an SV publication's frame for number `n`: a channel not written is 0, invalid with failure, and late. -/
def svSend (g n : Nat) (p : SPub) (c : Channel) : Channel :=
  let w := (kGet p.written n).getD (p.cfg.writers.map (fun _ => none))
  let late := (w.filter (fun x => x.isNone)).length
  let vals := w.map (fun x => x.getD (0, qInvalid ||| qFailure))
  let p1 := { p with written := kDel p.written n, sentUpTo := n }
  let c1 := putSPub g p1 c
  let c2 := { c1 with pub := { c1.pub with jobs := c1.pub.jobs ++
    [{ protection := p.cfg.protection, sv := true, num := g, tick := 0, build := ⟨0, 0, 0, 0, []⟩, smp := smpCntOf p.cfg.rate n,
       svVals := vals, behaviour := behOf c p.cfg.owner, ahead := none }] } }
  if late = 0 then c2
  else raiseLimited 42 p.cfg.owner g late (1024 + g) (bumpN (0x8D00 + g) 2 late (bumpN 0x2600 8 late c2))

/-- A PUB writer writes channel `k` for instant `t`; the frame goes when every writer has written (10 R320). -/
def svWrite (g k : Nat) (v q : U32) (t : Nat) (c : Channel) : Channel :=
  match kGet c.pub.spubs g with
  | none => c
  | some p =>
    let n := numberAt p.cfg.rate t
    if n ≤ p.sentUpTo then c
    else
      let w := setNth ((kGet p.written n).getD (p.cfg.writers.map (fun _ => none))) k (some (v, q))
      let p1 := { p with written := kPut p.written n w }
      if w.all (fun x => x.isSome) then svSend g n p1 c else putSPub g p1 c

/-- SV_SEND_DEADLINE: one class period after the earliest instant not sent (10 R320). -/
def svSendDeadlineC (g : Nat) (c : Channel) : Channel :=
  match kGet c.pub.spubs g with
  | none => c
  | some p =>
    if !c.boot.graphsRun || p.cfg.rate = 0 then c
    else
      let n := if p.sentUpTo = 0 then numberAt p.cfg.rate (nowNs c) - 1 else p.sentUpTo + 1
      svSend g n p (advanceTo (instantOf p.cfg.rate (n + 1)) c)
def execSvSendDeadline (ch : Chan) (g : Nat) (s : State) : Host.Outcome State Fault Refusal := onChan ch (svSendDeadlineC g) s

/-! ### GOOSE subscriptions (10 R325, R326) -/

def putSub (n : Nat) (x : GSub) (c : Channel) : Channel := { c with pub := { c.pub with subs := kPut c.pub.subs n x } }

/-- Do a message's members have the subscribed types, and its identity match (10 R325 order 2)? -/
def gooseFormatOk (r : GSubRec) (m : GooseMsg) : Bool :=
  m.gocbRef == r.gocbRef && m.goID == r.goID && !m.ndsCom && m.members.map (fun v => v.ty) == r.members.map (fun x => x.1)

/-- Is a test or simulated message accepted (16 R502)? -/
def gooseTestOk (c : Channel) (x : GSub) (m : GooseMsg) : Bool :=
  if behTest (behOf c x.cfg.owner) then m.sim || !x.simSeen else !m.test && !m.sim

def subDiscard (n sub : Nat) (c : Channel) : Channel := bump (0x8E00 + n) sub (bump 0x2600 0x0C c)

/-- Places or queues a new state for the GOOSE source rings (10 R326); a replaced one is COALESCED. -/
def gooseOffer (st : GState) (n : Nat) (x : GSub) (c : Channel) : Channel :=
  match x.waiting with
  | none => putSub n { x with waiting := some st } c
  | some _ => bump (0x8E00 + n) 9 (bump 0x2600 0x0D (putSub n { x with waiting := some st } c))

/-- A received member: the reserved validity of a quality is invalid with failure (03 R103). -/
def gooseMember (v : GVal) : GVal := if v.ty = 5 then ⟨5, (fixReserved (v.v.setWidth 32)).setWidth 64⟩ else v

/-- An accepted message (10 R325 orders 6 and 7). -/
def gooseAccept (n : Nat) (x : GSub) (m : GooseMsg) (c : Channel) : Channel :=
  let vals := m.members.map gooseMember
  let tick := ceilUs (nowNs c)
  let x1 := { x with sqNum := m.sqNum, talAt := some (tick + m.talMs * 1000), simSeen := x.simSeen || m.sim, st := .valid }
  let c1 := bump (0x8E00 + n) 4 c
  if x.stNum = some m.stNum && x.st == .valid then putSub n x1 c1
  else if x.stNum = some m.stNum then
    let st : GState := { vals := vals, q := 0, t := BitVec.ofNat 64 (tick * 1000), stNum := m.stNum, tick := tick, valid := true }
    putSub n { x1 with latest := some st, hist := st :: x.hist.take 7 } c1
  else
    let st : GState := { vals := vals, q := 0, t := BitVec.ofNat 64 (tick * 1000), stNum := m.stNum, tick := tick, valid := true }
    let prev := (match x.stNum with | some s => s :: x.prev | none => x.prev).take 2
    gooseOffer st n { x1 with stNum := some m.stNum, prev := prev, latest := some st, hist := st :: x.hist.take 7 } c1

/-- GOOSE_MESSAGE_RECEIVED: the next message for the subscription that the Yoke delivered (10 R325). -/
def gooseMessageReceivedC (n : Nat) (c : Channel) : Channel :=
  match c.ingest.goose.find? (fun g => g.1 == n), kGet c.pub.subs n with
  | some g, some x =>
    let c1 := { c with ingest := { c.ingest with goose := c.ingest.goose.erase g } }
    let m := g.2
    if !c.boot.graphsRun then c1
    else if !gooseFormatOk x.cfg m then subDiscard n 7 c1
    else if m.confRev ≠ x.cfg.confRev then subDiscard n 7 c1
    else if !gooseTestOk c x m then subDiscard n 7 c1
    else if x.prev.contains m.stNum && x.stNum ≠ some m.stNum then subDiscard n 6 c1
    else gooseAccept n x m c1
  | _, _ => c

/-- TAL_EXPIRY: EXPIRED, with the invalid token of 05 R164 (10 R325). -/
def talExpiryC (n : Nat) (c : Channel) : Channel :=
  match kGet c.pub.subs n with
  | none => c
  | some x =>
    match x.st, x.talAt with
    | .valid, some t =>
      let c1 := advanceTo (t * 1000) c
      let old := x.latest.getD { vals := [], q := 0, t := 0, stNum := 0, tick := 0, valid := false }
      let st : GState := { old with q := qInvalid, t := BitVec.ofNat 64 (t * 1000), tick := t, valid := false }
      raiseLimited 41 x.cfg.owner n 0 n
        (bump (0x8E00 + n) 5 (bump 0x2600 0x0B (gooseOffer st n { x with st := .expired, talAt := none, latest := some st, hist := st :: x.hist.take 7 } c1)))
    | _, _ => c

end Sys2Proof.Machine
end

