-- ==== Sys2Proof/Machine/Graph.lean ====
section
/-! DEFINITION. Tokens, rings, edges and the firing rule (05), and the dispatcher's part in it (06). -/
namespace Sys2Proof.Machine

/-- The words of a written value as its token carries them: one word, an I16 with its sign, or two. -/
def hostWords (c : Channel) (key : Nat) (d : List Byte) : List U32 :=
  if (kGet c.dict.decls key).any (fun x => x.ty == 3) then [BitVec.ofInt 32 (signed 16 (leNat d))]
  else if d.length ≤ 4 then [BitVec.ofNat 32 (leNat d)] else [BitVec.ofNat 32 (leAt d 0 4), BitVec.ofNat 32 (leAt d 4 4)]

def ringKey (src : Bool) (n port : Nat) : Nat := if src then 1000000 + n else n * 8 + port
def edgeKey (e : EdgeRec) : Nat := ringKey e.src e.prod e.prodPort

def putGraph (s : Nat) (g : GraphRt) (c : Channel) : Channel := { c with graphs := kPut c.graphs s g }
def instOf (g : GraphRt) (i : Nat) : Option (InstRec × InstRt) :=
  match g.cfg.insts[i]?, kGet g.insts i with
  | some r, some t => some (r, t)
  | _, _ => none
def putInst (i : Nat) (x : InstRt) (g : GraphRt) : GraphRt := { g with insts := kPut g.insts i x }

/-- A slot of the stream table as a token of analogue channel `k` (05 R148, R162). -/
def slotToken (rate k : Nat) (s : SampleSlot) : Nat × Token :=
  let v := nth s.vals k (0, qInvalid ||| qMissing)
  (s.n, { smpCnt := smpCntOf rate s.n, settling := false, histBreak := s.histBreak, notWarm := false, pay := [v.1],
          q := v.2, instant := s.instant })

def streamTokens (c : Channel) (s k : Nat) : List (Nat × Token) :=
  match kGet c.ingest.streams s with
  | some x => x.ring.map (slotToken x.cfg.rate k)
  | none => []

/-- Total decimation of a preset from an input rate (04 R123). -/
def presetFactor (preset rate : Nat) : Nat :=
  if preset = 1 then (if rate = 96000 then 4 else 1)
  else if preset = 2 then (if rate = 96000 then 20 else if rate = 14400 then 3 else 1)
  else if preset = 3 then (if rate = 96000 then 40 else if rate = 14400 then 6 else 2)
  else 1

def outToken (rate : Nat) (o : OutSample) : Nat × Token :=
  (o.n, { smpCnt := smpCntOf rate o.n, settling := o.settling, histBreak := o.histBreak, notWarm := false, pay := [o.value],
          q := o.q, instant := o.instant })

/-- A path's tokens: its stream's slots while it is BYPASS, else its output edge (04 R116, R137). Numbers count at the
output rate. -/
def pathTokens (c : Channel) (p : Nat) : List (Nat × Token) :=
  match kGet c.paths p with
  | none => []
  | some x =>
    let rate := match kGet c.ingest.streams x.cfg.stream with | some s => s.cfg.rate | none => 1
    let raw := streamTokens c x.cfg.stream x.cfg.k
    let own := x.ring.map (outToken (rate / presetFactor x.cfg.preset rate))
    let mark (l : List (Nat × Token)) : List (Nat × Token) := l.map (fun t => if t.2.instant.toNat = x.switchAt then (t.1, { t.2 with histBreak := true }) else t)
    if x.switchAt = 0 then (if x.cfg.preset = 0 then raw else own)
    else if x.cfg.preset = 0 then
      (if x.oldBypass then raw else own.filter (fun t => t.2.instant.toNat < x.switchAt) ++ mark (raw.filter (fun t => x.switchAt ≤ t.2.instant.toNat)))
    else if x.oldBypass then raw.filter (fun t => t.2.instant.toNat < x.switchAt) ++ own.filter (fun t => x.switchAt ≤ t.2.instant.toNat)
    else own

def ringOf (g : GraphRt) (k : Nat) : TokRing := (kGet g.rings k).getD ⟨0, [], 2, 0, none⟩

/-- Numbers the tokens of a ring from its base. -/
def numbered : Nat → List Token → List (Nat × Token)
  | _, [] => []
  | n, t :: r => (n, t) :: numbered (n + 1) r

/-- The tokens an edge's producer holds, oldest first. -/
def edgeTokens (c : Channel) (g : GraphRt) (e : EdgeRec) : List (Nat × Token) :=
  let own := let r := ringOf g (edgeKey e); numbered r.base r.toks
  if e.src then
    match g.cfg.sources[e.prod]? with
    | some s => if s.kind = 1 then streamTokens c s.a s.b else if s.kind = 2 then pathTokens c s.a else own
    | none => own
  else own

def edgePos (g : GraphRt) (n : Nat) : Nat := (kGet g.pos n).getD 0

/-- Edges with their numbers that end at an instance, in port order. -/
def edgesInto (g : GraphRt) (i : Nat) : List (Nat × EdgeRec) :=
  let l := ((List.range g.cfg.edges.length).zip g.cfg.edges).filter (fun x => x.2.cons == i)
  (List.range 16).flatMap (fun p => l.filter (fun x => x.2.consPort == p))

def edgeTrigger (r : InstRec) (e : EdgeRec) : Bool := (nth r.ins e.consPort ⟨false, 0, 0⟩).flag

/-- The head token of a trigger edge. -/
def headOf (c : Channel) (g : GraphRt) (x : Nat × EdgeRec) : Option (Nat × Token) :=
  (edgeTokens c g x.2).find? (fun t => edgePos g x.1 ≤ t.1)

/-- The latest P1 boundary passed. -/
def lastP1 (c : Channel) : Nat := nowNs c / 1000000 * 1000000

/-- A producer's horizon in ns (05 R160); `fuel` bounds a chain of EVENT instances. -/
def horizonOf (c : Channel) (g : GraphRt) : Nat → EdgeRec → Nat
  | 0, _ => 0
  | fuel + 1, e =>
    let newest := match (edgeTokens c g e).getLast? with | some t => t.2.instant.toNat | none => (ringOf g (edgeKey e)).horizon
    if e.src then
      match g.cfg.sources[e.prod]? with
      | some s =>
        if s.kind = 3 ∨ s.kind = 4 then tickOf c * 1000 - 2000
        else if s.kind = 5 then (ringOf g (edgeKey e)).horizon
        else if s.kind = 6 then lastP1 c
        else newest
      | none => newest
    else
      match g.cfg.insts[e.prod]? with
      | some r =>
        if r.cls = 5 then
          match edgesInto g e.prod with
          | x :: _ => (match headOf c g x with
              | some h => h.2.instant.toNat - 1
              | none => horizonOf c g fuel x.2)
          | [] => newest
        else max newest (ringOf g (edgeKey e)).horizon
      | none => newest

/-- The newest token not later than an instant; else the newest kept of an emptied ring. -/
def selectAt (c : Channel) (g : GraphRt) (e : EdgeRec) (t : Nat) : Option (Nat × Token) :=
  (((edgeTokens c g e).filter (fun x => x.2.instant.toNat ≤ t)).getLast?)

/-- The payload a member gives a token (05 R162): a timestamp takes two words, low word first. -/
def memberPay (ty : Nat) (v : U64) : List U32 := if ty = 6 then [v.setWidth 32, (v >>> 32).setWidth 32] else [v.setWidth 32]

/-- A producer's initial payload, presented with validity invalid (05 R159). -/
def initialToken (g : GraphRt) (e : EdgeRec) (t : Nat) : Token :=
  let pay : List U32 :=
    if e.src then (kGet g.first e.prod).getD [0]
    else
      match g.cfg.insts[e.prod]? with
      | some r => nth r.init e.prodPort [0]
      | none => [0]
  { smpCnt := 0, settling := false, histBreak := false, notWarm := false, pay := pay, q := qInvalid, instant := BitVec.ofNat 64 t }

/-- The token a sample port reads at instant `t` (05 R159). -/
def sampleToken (c : Channel) (g : GraphRt) (e : EdgeRec) (t : Nat) : Token :=
  match selectAt c g e (t - e.lagUs * 1000) with
  | some x => x.2
  | none => initialToken g e t

/-- Have the sample edges' producers reached t − L (05 R154)? Answers the edges that have not. -/
def horizonMisses (c : Channel) (g : GraphRt) (i : Nat) (r : InstRec) (t : Nat) : List EdgeRec :=
  ((edgesInto g i).filter (fun x => !edgeTrigger r x.2 && decide (horizonOf c g 17 x.2 < t - x.2.lagUs * 1000))).map (fun x => x.2)

/-- Readers of a producer port: edge numbers. -/
def readersOf (g : GraphRt) (key : Nat) : List Nat :=
  (((List.range g.cfg.edges.length).zip g.cfg.edges).filter (fun x => edgeKey x.2 == key)).map (fun x => x.1)

/-- A ring without what every reader has released (05 R148); one with no reader frees at once. -/
def trimRing (g : GraphRt) (key : Nat) (r : TokRing) : TokRing :=
  let rs := (readersOf g key).map (fun n => edgePos g n) ++ (g.lsePos.filter (fun x => x.2.1 == key)).map (fun x => x.2.2)
  let lo := match rs with | [] => r.base + r.toks.length | x :: l => l.foldl min x
  let d := min (lo - r.base) r.toks.length
  { r with base := r.base + d, toks := r.toks.drop d }

def trimAll (g : GraphRt) : GraphRt := { g with rings := kMapVals g.rings (fun k r => trimRing g k r) }

/-- Every output ring has a free slot (05 R154). -/
def roomOut (g : GraphRt) (i : Nat) (r : InstRec) : Bool :=
  (List.range r.outs.length).all (fun p =>
    let k := ringKey false i p
    let x := ringOf g k
    ((readersOf g k).isEmpty && !g.lsePos.any (fun y => y.2.1 == k)) || decide (x.toks.length < x.depth))

/-- Writes a token into a ring and moves its horizon. -/
def pushTok (key : Nat) (t : Token) (g : GraphRt) : GraphRt :=
  let r := ringOf g key
  let r1 := { r with toks := r.toks ++ [t], newest := some t, horizon := max r.horizon t.instant.toNat }
  { g with rings := kPut g.rings key (trimRing g key r1) }

/-- The commons accesses that write tokens into a graph's rings (07 R217; 08 R250). -/
def ringWrites (c : Channel) (s : Nat) (g : GraphRt) (l : List (Nat × Token)) : List (Nat × BankOp) :=
  l.flatMap (fun x =>
    let r := ringOf g x.1
    placedWrites c (if x.1 < 1000000 then 2 else 3) s x.1 (r.base + r.toks.length) (tokenBytes x.2))

/-- The commons accesses that read token `n` of an edge: of a slot, its head and one channel's value and quality. -/
def edgeReads (c : Channel) (s : Nat) (g : GraphRt) (e : EdgeRec) (n : Nat) : List (Nat × BankOp) :=
  let slot (st k : Nat) : List (Nat × BankOp) := match itemAt c.disp.items 0 0 st with
    | some x => byteReads (slotAddr x n) 16 ++ byteReads (slotAddr x n + 16 + 8 * k) 8
    | none => []
  match e.src, g.cfg.sources[e.prod]? with
  | true, some b =>
    if b.kind = 1 then slot b.a b.b
    else if b.kind = 2 then (match kGet c.paths b.a with
      | some p => if p.cfg.preset = 0 then slot p.cfg.stream p.cfg.k else placedReads c 1 0 b.a n
      | none => [])
    else placedReads c 3 s (edgeKey e) n
  | true, none => []
  | false, _ => placedReads c 2 s (edgeKey e) n

/-- Tokens of source bindings that the application cores write into a graph. -/
def pushSources (s : Nat) (l : List (Nat × Token)) (g : GraphRt) (c : Channel) : Channel :=
  putGraph s (l.foldl (fun g x => pushTok x.1 x.2 g) g) (present rankCores 0 (ringWrites c s g l) c)

/-- The firing instant of a waiting instance, where its trigger ports hold tokens (05 R153, R154). -/
def firingInstant (c : Channel) (g : GraphRt) (i : Nat) (r : InstRec) (x : InstRt) : Option Nat :=
  let tr := (edgesInto g i).filter (fun e => edgeTrigger r e.2)
  match tr with
  | [] => if r.cls = 4 ∧ x.nextP1 ≤ nowNs c then some x.nextP1 else none
  | _ =>
    let hs := tr.map (headOf c g)
    if hs.all (fun h => h.isSome) then
      some (hs.foldl (fun a h => match h with | some t => max a t.2.instant.toNat | none => a) 0)
    else none

/-- Discards each head token older than the latest head; a discarded HISTORY_BREAK is kept for the firing (05 R156).
Answers the graph, how many, and whether a break was among them. -/
def alignHeads (c : Channel) (i : Nat) (r : InstRec) (t : Nat) (g : GraphRt) : GraphRt × Nat × Bool :=
  (edgesInto g i).foldl (fun st e =>
    if edgeTrigger r e.2 then
      let old := (edgeTokens c st.1 e.2).filter (fun k => edgePos st.1 e.1 ≤ k.1 && decide (k.2.instant.toNat < t))
      match old.getLast? with
      | none => st
      | some k => ({ st.1 with pos := kPut st.1.pos e.1 (k.1 + 1) }, st.2.1 + old.length, st.2.2 || old.any (fun o => o.2.histBreak))
    else st) (g, 0, false)

/-- The tokens a firing for `t` consumes and selects, in port order (05 R154, R159). -/
def firingInputs (c : Channel) (g : GraphRt) (i : Nat) (r : InstRec) (t : Nat) : List (Bool × Token) :=
  (edgesInto g i).map (fun e =>
    if edgeTrigger r e.2 then
      (true, match headOf c g e with | some h => h.2 | none => initialToken g e.2 t)
    else (false, sampleToken c g e.2 t))

/-- Releases what a completed firing consumed or selected (05 R148). -/
def consumeInputs (c : Channel) (i : Nat) (r : InstRec) (t : Nat) (g : GraphRt) : GraphRt :=
  trimAll ((edgesInto g i).foldl (fun g e =>
    if edgeTrigger r e.2 then
      match headOf c g e with | some h => { g with pos := kPut g.pos e.1 (h.1 + 1) } | none => g
    else match selectAt c g e.2 (t - e.2.lagUs * 1000) with
      | some h => { g with pos := kPut g.pos e.1 (max (edgePos g e.1) h.1) }
      | none => g) g)

/-! ### Ready entries and fences (06) -/

/-- Priority level of a class (01 R45; 06 R190): the class code itself. -/
def levelOf (r : InstRec) : Nat := r.cls

/-- Does a firing take part in the ready lists' demand: it holds an entry, or waits for one in HELD? -/
def wantsEntry (x : InstRt) : Bool := match x.fs with | .ready | .running | .preempted | .held => true | _ => false

def holdsEntry (x : InstRt) : Bool := match x.fs with | .ready | .running | .preempted => true | _ => false

/-- Firings of a level in a state. -/
def firingsAt (p : InstRt → Bool) (c : Channel) (l : Nat) : Nat :=
  c.graphs.foldl (fun n g => n + (g.2.insts.filter (fun x =>
    p x.2 && (match g.2.cfg.insts[x.1]? with | some r => levelOf r == l | none => false))).length) 0

/-- Entries in use at a level, and entries that its firings hold or wait for. -/
def inUse (c : Channel) (l : Nat) : Nat := firingsAt holdsEntry c l
def demand (c : Channel) (l : Nat) : Nat := firingsAt wantsEntry c l

def sharedSize (c : Channel) : Nat := 4096 - c.disp.resv.foldl (· + ·) 0
def sharedUsed (c : Channel) : Nat := (List.range 8).foldl (fun n l => n + (inUse c l - nth c.disp.resv l 0)) 0

/-- Is an entry available to a new firing of a level: its reservation first, then the shared part (06 R190)? What firings in HELD wait
for is theirs (R192). -/
def entryFree (c : Channel) (l : Nat) : Bool :=
  decide (demand c l < nth c.disp.resv l 0) ||
    decide ((List.range 8).foldl (fun n k => n + (demand c k - nth c.disp.resv k 0)) 0 < sharedSize c)

/-- Does an armed fence match a firing (06 R197)? -/
def fenceFor (c : Channel) (s i t : Nat) : Option Fence :=
  c.disp.fences.find? (fun f => f.sleeve == s && (f.freeze || f.inst == i) && decide (f.instant ≤ t))

def noteEntries (l : Nat) (c : Channel) : Channel :=
  let n := (List.range 8).foldl (fun a k => a + inUse c k) 0
  highWater 0x2503 (l + 1) (inUse c l) (highWater 0x2500 0x11 n c)

/-- Work of the Nortar Runtime on a tile, at level 6 (06 R190; log entry 49): it takes an entry, is dispatched, and ends. -/
def tileWork (l : Nat) (c : Channel) : Channel :=
  let n := (List.range 8).foldl (fun a k => a + inUse c k) 0
  highWater 0x2503 (l + 1) (inUse c l + 1) (highWater 0x2500 0x11 (n + 1) (bump 0x2504 (l + 1) (bump 0x2500 0x17 c)))

end Sys2Proof.Machine
end

