-- ==== Sys2Proof/Machine/Can.lean ====
section
/-! DEFINITION. The CAN FD ports (17). -/
namespace Sys2Proof.Machine

def putCan (n : Nat) (p : CanPort) (c : Channel) : Channel := { c with can := kPut c.can n p }
def putBuf (n b : Nat) (p : CanPort) (x : CanBuf) (c : Channel) : Channel := putCan n { p with bufs := kPut p.bufs b x } c
def canIndex (n : Nat) : Nat := 0x2C10 + n
def bufIndex (n b : Nat) : Nat := 0x9700 + 64 * (n - 1) + b

/-- The port mode (17 R511, R512): 0 off, 1 normal, 2 listen-only, 3 internal loopback. -/
def canMode (c : Channel) (p : CanPort) : Nat :=
  if p.loop then 3
  else match c.boot.mode with
    | .boot => 0
    | .hold | .sealedMode => if p.cfg.service then 1 else 0
    | .commission => if p.cfg.service || leads c then 1 else 2
    | .standby => if p.cfg.service then 1 else 2
    | .active => 1

/-- The error state (17 R524): 0 active, 1 passive, 2 bus-off. -/
def canErr (p : CanPort) : Nat := if p.busOff then 2 else if 128 ≤ p.tec ∨ 128 ≤ p.rec_ then 1 else 0

/-- A data length code of a number of bytes. -/
def dlcOf (n : Nat) : Nat :=
  if n ≤ 8 then n else if n ≤ 12 then 9 else if n ≤ 16 then 10 else if n ≤ 20 then 11 else if n ≤ 24 then 12
  else if n ≤ 32 then 13 else if n ≤ 48 then 14 else 15

/-- The bytes a data length code stands for. -/
def bytesOfDlc (fd : Bool) (d : Nat) : Nat :=
  if d ≤ 8 then d else if !fd then 8 else nth [12, 16, 20, 24, 32, 48, 64] (d - 9) 64

/-- 16 words of data bytes (17 R515). -/
def dataWords : Nat → List Byte → List U32
  | 0, _ => []
  | n + 1, l => BitVec.ofNat 32 (leNat (l.take 4)) :: dataWords n (l.drop 4)

/-- Words 0 to 19 of a received frame with its reception tick (17 R515, R517). -/
def frameWords (f : CanFrame) (tickNs : Nat) : List U32 :=
  (BitVec.ofNat 32 ((if f.ext then 0x80000000 else 0) + (if f.fd then 0x40000000 else 0) +
      (if f.brs then 0x20000000 else 0) + f.id % 0x20000000)) ::
    BitVec.ofNat 32 ((if f.esi then 16 else 0) + dlcOf f.data.length) :: dataWords 16 f.data ++
    [BitVec.ofNat 32 tickNs, BitVec.ofNat 32 (tickNs / 4294967296)]

/-- The frame a transmit buffer's words spell. -/
def wordsFrame (w : List U32) : CanFrame :=
  let w0 := nth w 0 0
  let fd := w0.getLsbD 30
  { id := w0.toNat % 0x20000000, ext := w0.getLsbD 31, fd := fd, brs := fd && w0.getLsbD 29, rtr := false, esi := false,
    data := ((w.drop 2).take 16).foldl (fun a x => a ++ leBytes 4 x.toNat) [] |>.take (bytesOfDlc fd ((nth w 1 0).toNat % 16)) }

/-- The words a buffer record sets (17 R519, R529). -/
def recWords (r : CanBufRec) : List U32 :=
  let w0 := (r.ident &&& 0x9FFFFFFF#32) ||| (if r.flags.testBit 2 then 0x40000000#32 else 0) ||| (if r.flags.testBit 3 then 0x20000000#32 else 0)
  w0 :: BitVec.ofNat 32 r.dlc :: dataWords 16 r.data ++ [0, 0]

/-! ### Tokens of CAN sources (17 R518, R522) -/

/-- The binding that names a buffer: sleeve and source number. -/
def canBinding (c : Channel) (n b : Nat) : Option (Nat × Nat) :=
  c.graphs.findSome? (fun g =>
    (((List.range g.2.cfg.sources.length).zip g.2.cfg.sources).find? (fun x => x.2.kind == 4 && x.2.a == n && x.2.b == b)).map
      (fun x => (g.1, x.1)))

/-- Room for one more token in a source's ring. -/
def sourceRoom (g : GraphRt) (src : Nat) : Bool :=
  let k := ringKey true src 0
  (readersOf g k).isEmpty || decide ((ringOf g k).toks.length < (ringOf g k).depth)

/-- Copies a fresh buffer into its source's ring; the shadow moves in (17 R518). -/
def canCopy (n b : Nat) (c : Channel) : Channel :=
  match kGet c.can n, canBinding c n b with
  | some p, some (s, src) =>
    match kGet p.bufs b, kGet c.graphs s with
    | some x, some g =>
      if x.fresh && x.locked.isNone && sourceRoom g src then
        let t : Nat := (nth x.words 18 0).toNat + 4294967296 * (nth x.words 19 0).toNat
        let tok : Token := { smpCnt := 0, settling := false, histBreak := false, notWarm := false, pay := x.words.take 18, q := 0,
                             instant := BitVec.ofNat 64 t }
        let x1 : CanBuf := match x.shadow with
          | some w => { x with words := w, shadow := none, fresh := true }
          | none => { x with fresh := false }
        pushSources s [(ringKey true src 0, tok)] g (putBuf n b p x1 c)
      else c
    | _, _ => c
  | _, _ => c

/-! ### Error confinement (17 R524 to R526) -/

/-- Sets the error counters: passive and bus-off entries are counted and raised. -/
def canCounters (n tec rc : Nat) (c : Channel) : Channel :=
  match kGet c.can n with
  | none => c
  | some p =>
    let q : CanPort := { p with tec := min tec 256, rec_ := rc, busOff := p.busOff || decide (255 < tec) }
    let c1 := putCan n q c
    if canErr p = canErr q then c1
    else if canErr q = 2 then raiseLimited 71 0xFF n 0 n (bump (canIndex n) 0x15 c1)
    else if canErr q = 1 then raiseLimited 70 0xFF n 0 n (bump (canIndex n) 0x14 c1)
    else c1

/-- Receive error counter after a good frame (17 R524; above 127 a value from 119 to 127, free: log entry 2). -/
def recGood (rc : Nat) (free : U64) : Nat := if 127 < rc then 119 + free.toNat % 9 else rc - 1

/-! ### Requests and outcomes (17 R519 to R523) -/

/-- The present tick as a time (17 R517; log entry 12). -/
def canTick (c : Channel) : Nat := ceilUs (nowNs c) * 1000

/-- Writes an outcome code, the error state and the tick into a transmit buffer (17 R515, R522). -/
def outcomeWords (code err tickNs : Nat) (w : List U32) : List U32 :=
  let w1 := nth w 1 0
  setNth (setNth (setNth w 1 ((w1 &&& 0xFFFF000F#32) ||| BitVec.ofNat 32 (code * 256 + err * 64)))
    18 (BitVec.ofNat 32 tickNs)) 19 (BitVec.ofNat 32 (tickNs / 4294967296))

/-- The end of a request or attempt: outcome, token on the bound source, outcome record where the channel holds
control (17 R522). -/
def canEnd (n b code : Nat) (c : Channel) : Channel :=
  match kGet c.can n with
  | none => c
  | some p =>
    match kGet p.bufs b with
    | none => c
    | some x =>
      let t := canTick c
      let x1 := { x with words := outcomeWords code (canErr p) t x.words, fresh := (canBinding c n b).isSome,
                         hist := (t, code) :: x.hist.take 7 }
      let c1 := canCopy n b (putBuf n b p x1 c)
      if c1.seam.holdCtl then post (.canOutcome n b code t) c1 else c1

/-- A spoof violation by cause (16 R506): 1 SRC_MAC to 6 CAN_ID. -/
def spoof (cause sleeve obj : Nat) (c : Channel) : Channel :=
  let c1 := bump 0x2B00 0x0C (bump (0x4002 + 256 * sleeve) cause c)
  match kGet c.sleeves sleeve with
  | some s => if s.cfg.spoofEvent then raiseLimited 48 sleeve obj cause sleeve c1 else c1
  | none => c1

/-- Does a transmit identifier match a filter of the sleeve (16 R505)? -/
def canIdOk (c : Channel) (sleeve : Nat) (w0 : U32) : Bool :=
  match kGet c.sleeves sleeve with
  | some s => s.cfg.canFilters.any (fun f => f.1.getLsbD 31 == w0.getLsbD 31 && ((w0 ^^^ f.1) &&& f.2 &&& 0x1FFFFFFF#32) == 0)
  | none => false

/-- A request takes the buffer: sequence, PENDING; a request not started is SUPERSEDED (17 R515, R521, R523). -/
def canTake (n b : Nat) (pay : Option (List U32)) (c : Channel) : Channel :=
  match kGet c.can n with
  | none => c
  | some p =>
    match kGet p.bufs b with
    | none => c
    | some x =>
      let seq := ((nth x.words 1 0).toNat / 65536 + 1) % 65536
      let w := match pay with | some l => l.take 18 ++ x.words.drop 18 | none => x.words
      let w1 := (nth w 1 0 &&& 0xF#32) ||| BitVec.ofNat 32 (seq * 65536 + 256 + canErr p * 64)
      putBuf n b p { x with words := setNth w 1 w1, hist := (canTick c, 1) :: x.hist.take 7, pend := true } c

def canUnpend (n b : Nat) (c : Channel) : Channel :=
  match kGet c.can n with
  | none => c
  | some p => { c with can := kPut c.can n { p with bufs := kMod p.bufs b (fun x => { x with pend := false }) } }

/-- CAN_TRANSMIT_REQUEST of a sleeve (17 R519, R520; 16 R501, R505): from a PUB firing with its payload, or from an LSE
write with the contents that stand in the buffer. A channel that carries out no requests shows PENDING (R513, R522). -/
def canRequest (sleeve n b : Nat) (pay : Option (List U32)) (c : Channel) : Channel :=
  match kGet c.can n with
  | none => c
  | some p =>
    match kGet p.bufs b with
    | none => c
    | some x =>
      if !x.cfg.tx then c
      else if x.locked.isSome then putBuf n b p { x with waiting := x.waiting ++ [(sleeve, pay)] } c
      else
        let c0 := if x.pend && leads c then canEnd n b 0x0B (canUnpend n b c) else c
        let c1 := canTake n b pay c0
        let w0 := match pay with | some l => nth l 0 0 | none => nth x.words 0 0
        if !leads c then c1
        else if behBlocked (behOf c sleeve) || behOf c sleeve = 5 then canEnd n b 8 (canUnpend n b c1)
        else if x.cfg.owner ≠ sleeve ∨ !canIdOk c sleeve w0 then
          canEnd n b 9 (canUnpend n b (spoof 6 sleeve (64 * (n - 1) + b) c1))
        else if p.busOff then canEnd n b 7 (canUnpend n b c1)
        else c1

/-- A lock ends: the shadow of a buffer that holds no frame still to be copied moves in, and the writes that waited are made (17 R516,
R518). -/
def canRelease (n b : Nat) (c : Channel) : Channel :=
  match kGet c.can n with
  | none => c
  | some p =>
    match kGet p.bufs b with
    | none => c
    | some x =>
      let bound := (canBinding c n b).isSome
      let x1 := { x with locked := none, waiting := [] }
      let x2 := match x.shadow with
        | some w => if bound && x.fresh then x1 else { x1 with words := w, fresh := bound, shadow := none }
        | none => x1
      x.waiting.foldl (fun c r => canRequest r.1 n b r.2 c) (putBuf n b p x2 c)

/-- CAN_SOURCE_COPY: buffer i of OD 9700+i (17 R516, R518, R532). A read that stalls leaves the buffer locked; while the controller holds
the lock the engine waits. -/
def canSourceCopyC (i : Nat) (stall : Bool) (c : Channel) : Channel :=
  let n := i / 64 + 1
  let b := i % 64
  match kGet c.can n with
  | none => c
  | some p =>
    match kGet p.bufs b with
    | none => c
    | some x =>
      if x.locked = some 0 then c
      else if stall then (if x.fresh && (canBinding c n b).isSome then putBuf n b p { x with locked := some 1 } c else c)
      else if x.locked.isNone then canCopy n b c
      else canRelease n b (canCopy n b (putBuf n b p { x with locked := none } c))
def execCanSourceCopy (ch : Chan) (x : CanRead) (s : State) : Host.Outcome State Fault Refusal :=
  onChan ch (canSourceCopyC x.num x.stall) s

/-- The order in which arbitration decides between identifiers (17 R520): base part, IDE, extension. -/
def arbKey (w0 : U32) : Nat :=
  let id := w0.toNat % 0x20000000
  if w0.getLsbD 31 then (id / 262144) * 524288 + 262144 + id % 262144 else (id % 2048) * 524288

/-- The pending buffer that starts first; equal identifiers in ascending buffer number. -/
def canNext (p : CanPort) : Option Nat :=
  (p.bufs.foldl (fun (a : Option (Nat × Nat)) x =>
    if x.2.pend then
      let k := arbKey (nth x.2.words 0 0)
      match a with
      | some (k0, _) => if k < k0 then some (k, x.1) else a
      | none => some (k, x.1)
    else a) none).map (fun x => x.2)

/-- CAN_ATTEMPT_START: at bus idle, on a channel that leads, in normal mode or loopback (17 R513, R514, R520). The controller reads the
buffer in one burst; a read that stalls leaves it locked, and while the source engine holds the lock the controller waits (R516; log
entry 12). -/
def canAttemptStartC (n : Nat) (stall : Bool) (c : Channel) : Channel :=
  match kGet c.can n with
  | none => c
  | some p =>
    if p.cur.isSome || p.busOff || !leads c || !(canMode c p == 1 || canMode c p == 3) then c
    else match canNext p with
      | none => c
      | some b =>
        match kGet p.bufs b with
        | none => c
        | some x =>
          if x.locked = some 1 then c
          else if stall then putBuf n b p { x with locked := some 0 } c
          else
            let c1 := bump (bufIndex n b) 6 (bump (canIndex n) 0x0F
              (putBuf n b { p with cur := some (b, wordsFrame x.words) } { x with pend := false } c))
            if x.locked.isSome then canRelease n b c1 else c1
def execCanAttemptStart (ch : Chan) (x : CanRead) (s : State) : Host.Outcome State Fault Refusal :=
  onChan ch (canAttemptStartC x.num x.stall) s

/-! ### Reception (17 R517, R518) -/

/-- Does a receive buffer match a frame? -/
def bufMatches (f : CanFrame) (x : CanBuf) : Bool :=
  !x.cfg.tx && x.cfg.ident.getLsbD 31 == f.ext &&
    ((BitVec.ofNat 32 (f.id % 0x20000000) ^^^ x.cfg.ident) &&& x.cfg.mask &&& 0x1FFFFFFF#32) == 0 &&
    (if f.fd then x.cfg.flags.testBit 1 else x.cfg.flags.testBit 0)

/-- A matching frame into a buffer, or into its shadow. -/
def bufTake (n b : Nat) (w : List U32) (c : Channel) : Channel :=
  match kGet c.can n with
  | none => c
  | some p =>
    match kGet p.bufs b with
    | none => c
    | some x =>
      let bound := (canBinding c n b).isSome
      let c1 := bump (bufIndex n b) 6 c
      if x.locked.isSome || (bound && x.fresh) then
        let c2 := putBuf n b p { x with shadow := some w } c1
        match x.shadow with
        | some _ => raiseLimited 73 x.cfg.owner (64 * (n - 1) + b) 0 n (bump (bufIndex n b) 7 (bump (canIndex n) 0x17 c2))
        | none => c2
      else putBuf n b p { x with words := w, fresh := bound } c1

/-- A frame at a controller: counted, written to every buffer that matches, or unmatched. -/
def canReceive (n : Nat) (f : CanFrame) (c : Channel) : Channel :=
  match kGet c.can n with
  | none => c
  | some p =>
    let c1 := bump (canIndex n) 0x0D c
    let w := frameWords f (canTick c)
    let hits := if f.rtr then [] else (p.bufs.filter (fun x => bufMatches f x.2)).map (fun x => x.1)
    if hits.isEmpty then bump (canIndex n) 0x0E c1 else hits.foldl (fun c b => bufTake n b w c) c1

/-- CAN_FRAME_RECEIVED: a good frame lowers REC but in listen-only (17 R511, R517). -/
def canFrameReceivedC (n : Nat) (f : CanFrame) (c : Channel) : Channel :=
  match kGet c.can n with
  | none => c
  | some p =>
    let m := canMode c p
    if m = 1 then
      let d := if 127 < p.rec_ then draw c else (0, c)
      canReceive n f (canCounters n p.tec (recGood p.rec_ d.1) d.2)
    else if m = 2 then canReceive n f c
    else c

/-- TEC after an attempt's end (17 R524, R525): an error adds 8, an ACK error only while error active. -/
def tecAfter (p : CanPort) (outcome : Nat) : Nat :=
  if outcome = 2 then p.tec - 1
  else if outcome = 4 then (if canErr p = 0 then p.tec + 8 else p.tec)
  else if outcome = 5 ∨ outcome = 6 ∨ outcome = 7 then p.tec + 8
  else p.tec

def outcomeSub (outcome : Nat) : Option Nat :=
  if outcome = 2 then some 0x10 else if outcome = 4 then some 0x11 else if outcome = 3 then some 0x12
  else if outcome = 5 ∨ outcome = 6 then some 0x13 else none

/-- At entry into bus-off every request not started ends BUS_OFF (17 R520, R521). -/
def endPending (n code : Nat) (only : CanBuf → Bool) (c : Channel) : Channel :=
  match kGet c.can n with
  | none => c
  | some p => (p.bufs.filter (fun x => x.2.pend && only x.2)).foldl (fun c x => canEnd n x.1 code (canUnpend n x.1 c)) c

/-- CAN_ATTEMPT_END with the outcome the bus gave: 2 SENT, 3 to 6 as R521; 7 for an error that reaches bus-off. -/
def canAttemptEndC (n outcome : Nat) (c : Channel) : Channel :=
  match kGet c.can n with
  | none => c
  | some p =>
    match p.cur with
    | none => c
    | some (b, f) =>
      let tec := tecAfter p outcome
      if outcome < 2 ∨ 7 < outcome ∨ (outcome = 7 ∧ tec ≤ 255) ∨ (p.loop ∧ outcome ≠ 2) then c
      else
        let code := if 255 < tec then 7 else outcome
        let c1 := canCounters n tec p.rec_ (putCan n { p with cur := none } c)
        let c2 := match outcomeSub code with | some s => bump (canIndex n) s c1 | none => c1
        let c3 := canEnd n b code c2
        if code = 7 then endPending n 7 (fun _ => true) c3
        else if code = 2 then (if p.loop then canReceive n f c3 else emit (.can n f) c3)
        else c3
def execCanAttemptEnd (ch : Chan) (n outcome : Nat) (s : State) : Host.Outcome State Fault Refusal :=
  onChan ch (canAttemptEndC n outcome) s

/-- At a freeze or deletion boundary the sleeve's requests not started end CANCELLED (17 R523). -/
def canCancel (sleeve : Nat) (c : Channel) : Channel :=
  [1, 2, 3, 4].foldl (fun c n => endPending n 0x0C (fun x => x.cfg.owner == sleeve) c) c

/-- At H: a request from before H with no outcome record is reported TAKEOVER and not repeated (12 R388). -/
def canTakeover (c : Channel) : Channel :=
  [1, 2, 3, 4].foldl (fun c n =>
    match kGet c.can n with
    | none => c
    | some p => (p.bufs.filter (fun x => x.2.pend)).foldl (fun c x => canEnd n x.1 0x0A (canUnpend n x.1 (bump 0x2C00 2 c))) c) c

/-- A CAN outcome record of the twin: its outcome and tick enter the buffer (17 R522). -/
def canOutcomeIn (n b code tickNs : Nat) (c : Channel) : Channel :=
  match kGet c.can n with
  | none => c
  | some p =>
    match kGet p.bufs b with
    | none => c
    | some x =>
      canCopy n b (putBuf n b p { x with words := outcomeWords code (canErr p) tickNs x.words, pend := false,
                                         fresh := (canBinding c n b).isSome, hist := (tickNs, code) :: x.hist.take 7 } c)

/-- CAN_LOCK_TIMEOUT: a lock held for 2 µs is released and counted (17 R516). -/
def canLockTimeoutC (i : Nat) (c : Channel) : Channel :=
  let n := i / 64 + 1
  let b := i % 64
  match kGet c.can n with
  | none => c
  | some p =>
    match kGet p.bufs b with
    | none => c
    | some x =>
      if x.locked.isSome then raiseLimited 74 0xFF i 0 n (bump (canIndex n) 0x16 (canRelease n b c)) else c
def execCanLockTimeout (ch : Chan) (i : Nat) (s : State) : Host.Outcome State Fault Refusal := onChan ch (canLockTimeoutC i) s

/-- CAN_RECEIVE_ERROR: REC rises by 1, or by 8 where the bit after the error flag is dominant (ISO 11898-1); not in
listen-only (17 R511, R524). -/
def canReceiveErrorC (n : Nat) (dominant : Bool) (c : Channel) : Channel :=
  match kGet c.can n with
  | none => c
  | some p => if canMode c p = 1 ∧ !p.busOff then canCounters n p.tec (p.rec_ + if dominant then 8 else 1) c else c
def execCanReceiveError (ch : Chan) (n : Nat) (d : Bool) (s : State) : Host.Outcome State Fault Refusal :=
  onChan ch (canReceiveErrorC n d) s

/-- BUS_OFF_RECOVERY: automatic, or after a recovery request (17 R526). -/
def busOffRecoveryC (n : Nat) (c : Channel) : Channel :=
  match kGet c.can n with
  | none => c
  | some p =>
    if p.busOff && (!p.cfg.hostRec || p.recovering) then
      raiseLimited 72 0xFF n 0 n (putCan n { p with busOff := false, recovering := false, tec := 0, rec_ := 0 } c)
    else c
def execBusOffRecovery (ch : Chan) (n : Nat) (s : State) : Host.Outcome State Fault Refusal := onChan ch (busOffRecoveryC n) s

/-- A recovery request as it takes effect on a channel. -/
def recoverPort (n : Nat) (c : Channel) : Channel :=
  match kGet c.can n with
  | none => c
  | some p => if p.busOff && p.cfg.hostRec then putCan n { p with recovering := true } c else c

/-- RECOVERY_REQUEST: 1 written to OD 2C10+n:0B (17 R526, R531). -/
def recoveryRequestC (p : Path) (n : Nat) (c : Channel) : Channel :=
  writeGate p [2, 3, 4, 5] (canIndex n) 0x0B (fun c => recoverPort n (accept p (.canRecovery n) c)) c
def execRecoveryRequest (p : Path) (n : Nat) (s : State) : Host.Outcome State Fault Refusal := onPath p (.recoveryRequest p n) (recoveryRequestC p n) s

/-- Loopback as it takes effect (17 R512). -/
def setLoop (n : Nat) (on : Bool) (c : Channel) : Channel :=
  match kGet c.can n with
  | none => c
  | some p => putCan n { p with loop := on } c

/-- INTERNAL_LOOPBACK: OD 2C10+n:0C (17 R512, R531). -/
def internalLoopbackC (p : Path) (n : Nat) (on : Bool) (c : Channel) : Channel :=
  writeGate p [2, 3] (canIndex n) 0x0C (fun c => setLoop n on (accept p (.canLoopback n on) c)) c
def execInternalLoopback (p : Path) (n : Nat) (on : Bool) (s : State) : Host.Outcome State Fault Refusal :=
  onPath p (.internalLoopback p n on) (internalLoopbackC p n on) s

/-- A port's record with the entries in effect (17 R531). -/
def canEntries (c : Channel) (n : Nat) (r : CanPortRec) : CanPortRec :=
  { nominal := entryNat c (canIndex n) 5 r.nominal, data := entryNat c (canIndex n) 6 r.data,
    term := entryNat c (canIndex n) 7 (if r.term then 1 else 0) != 0,
    service := entryNat c (canIndex n) 8 (if r.service then 1 else 0) != 0, node := entryNat c (canIndex n) 9 r.node,
    hostRec := entryNat c (canIndex n) 0x0A (if r.hostRec then 1 else 0) != 0 }

/-- CAN_PORT_REINIT: changed entries take effect at bus idle, TEC and REC at 0 (17 R531). -/
def canPortReinitC (n : Nat) (c : Channel) : Channel :=
  match kGet c.can n with
  | none => c
  | some p =>
    let r := canEntries c n p.cfg
    if r = p.cfg ∨ p.cur.isSome then c
    else putCan n { p with cfg := r, tec := 0, rec_ := 0, busOff := false, recovering := false } c
def execCanPortReinit (ch : Chan) (n : Nat) (s : State) : Host.Outcome State Fault Refusal := onChan ch (canPortReinitC n) s

/-- NMT_COMMAND: the server is always operational and ignores NMT commands (17 R527). -/
def execNmtCommand (ch : Chan) (_n _code : Nat) (s : State) : Host.Outcome State Fault Refusal := onChan ch (fun c => c) s

end Sys2Proof.Machine
end

