-- ==== Sys2Proof/Machine/Inject.lean ====
section
/-! DEFINITION. The fault injectors (22 R647 to R649). -/
namespace Sys2Proof.Machine

def injReset : Injector := ⟨false, 0, 1, 0, [], [], []⟩
def injGet (c : Channel) (i : Nat) : Injector := (kGet c.diag.inj i).getD injReset
def injPut (i : Nat) (x : Injector) (c : Channel) : Channel := { c with diag := { c.diag with inj := kPut c.diag.inj i x } }

/-- A step of the 32-bit xorshift generator (22 R647; shifts 13, 17, 5: log entry 13). -/
def xorshift (x : U32) : U32 :=
  let a := x ^^^ (x <<< 13)
  let b := a ^^^ (a >>> 17)
  b ^^^ (b <<< 5)

/-- Draws a number from an injector's generator. -/
def injNumber (i : Nat) (c : Channel) : Nat × Channel :=
  let x := injGet c i
  let r := xorshift x.rng
  (r.toNat, injPut i { x with rng := r } c)

/-- What an injector sees is counted; it acts where the number drawn is below the probability (22 R647). -/
def injDraw (i : Nat) (c : Channel) : Bool × Channel :=
  let r := injNumber i (bump (injIndex i) 0x0A c)
  let act := decide (r.1 % 65536 < entryNat c (injIndex i) 3 0)
  (act, if act then bump (injIndex i) 0x0B r.2 else r.2)

/-- `n` numbers drawn in turn. -/
def injNumbers (i : Nat) : Nat → Channel → List Nat × Channel
  | 0, c => ([], c)
  | n + 1, c =>
    let r := injNumber i c
    let l := injNumbers i n r.2
    (r.1 :: l.1, l.2)

/-- The bits that an injector flips where it acts with a bit flip (22 R647). -/
def injBits (i : Nat) (act : Bool) (c : Channel) : List Nat × Channel :=
  if act && entryNat c (injIndex i) 2 0 == 3 then injNumbers i (entryNat c (injIndex i) 4 1) c else ([], c)

/-- A stream injector draws once per sample, keyed by source MAC and smpCnt, and does the same to both copies (22 R647). -/
def injDrawKeyed (i mac smp : Nat) (c : Channel) : (Bool × List Nat) × Channel :=
  match (injGet c i).drawn.find? (fun d => d.1 == mac && d.2.1 == smp) with
  | some d => (d.2.2, if d.2.2.1 then bump (injIndex i) 0x0B (bump (injIndex i) 0x0A c) else bump (injIndex i) 0x0A c)
  | none =>
    let r := injDraw i c
    let b := injBits i r.1 r.2
    ((r.1, b.1), injPut i { injGet b.2 i with drawn := (mac, smp, r.1, b.1) :: (injGet b.2 i).drawn.take 63 } b.2)

def flipAt {w : Nat} (v : BitVec w) (p : Nat) : BitVec w := v ^^^ (1#w <<< p)

/-- One bit of a pair of words flipped. -/
def flipPair (p : Nat) (x : U32 × U32) : U32 × U32 := if p < 32 then (flipAt x.1 p, x.2) else (x.1, flipAt x.2 (p - 32))

/-- One payload bit of a frame's body flipped; the payload bits of a body this model lists are numbered from its first
(log entry 13). -/
def flipBody (n : Nat) : FrameBody → FrameBody
  | .sv a s l asdus =>
    let per := match asdus with | x :: _ => 64 * x.pairs.length | [] => 0
    let p := n % (per * asdus.length)
    .sv a s l ((List.range asdus.length).zip asdus |>.map (fun x =>
      if x.1 = p / per then
        { x.2 with pairs := (List.range x.2.pairs.length).zip x.2.pairs |>.map (fun y => if y.1 = p % per / 64 then flipPair (p % 64) y.2 else y.2) }
      else x.2))
  | .goose g =>
    let p := n % (64 * g.members.length)
    .goose { g with members := (List.range g.members.length).zip g.members |>.map (fun y => if y.1 = p / 64 then { y.2 with v := flipAt y.2.v (p % 64) } else y.2) }
  | .ptp m => .ptp { m with origin := Nat.xor m.origin (2 ^ (n % 64)) }
  | .supervision m l q => .supervision m l (Nat.xor q (2 ^ (n % 16)))
  | .pause q => .pause (Nat.xor q (2 ^ (n % 16)))
  | .other e l =>
    let p := n % (8 * l.length)
    .other e ((List.range l.length).zip l |>.map (fun y => if y.1 = p / 8 then flipAt y.2 (p % 8) else y.2))

/-- A frame with payload bits flipped and the FCS recomputed; octets a tag covers are changed with it. -/
def flipFrame (ps : List Nat) (f : Frame) : Frame :=
  { f with body := ps.foldl (fun b p => flipBody p b) f.body,
           sec := f.sec.map (fun s => { s with auth := match s.auth with | x :: r => flipAt x 0 :: r | [] => [1] }) }

/-- Frames held for reordering see one more frame; those due come out. -/
def injRelease (i : Nat) (c : Channel) : List (Nat × Frame) × Channel :=
  let x := injGet c i
  let h := x.held.map (fun e => (e.1 - 1, e.2))
  ((h.filter (fun e => e.1 == 0)).map (fun e => e.2), injPut i { x with held := h.filter (fun e => e.1 != 0) } c)

/-- An injector's action on a frame (22 R647, R650), with the bits it flips: what takes the frame's place on its port. -/
def injAct (i port : Nat) (f : Frame) (act : Bool) (bits : List Nat) (c0 : Channel) : List (Nat × Frame) × Channel :=
  let rel := injRelease i c0
  let c := rel.2
  let a := entryNat c (injIndex i) 2 0
  if !act then ((port, f) :: rel.1, c)
  else if a = 1 then (rel.1, c)
  else if a = 2 then ((port, { f with good := false }) :: rel.1, c)
  else if a = 3 then ((port, flipFrame bits f) :: rel.1, c)
  else if a = 4 then
    let x := injGet c i
    (rel.1, injPut i { x with held := x.held ++ [(entryNat c (injIndex i) 5 1, port, f)] } c)
  else ((port, f) :: rel.1, c)

/-- Front-port injectors 0 to 11, on received frames. -/
def injPort (port : Nat) (f : Frame) (c : Channel) : List (Nat × Frame) × Channel :=
  let i := port - 1
  if (injGet c i).armed && decide (1 ≤ port ∧ port ≤ 12) then
    let d := injDraw i c
    let b := injBits i d.1 d.2
    injAct i port f d.1 b.1 b.2
  else ([(port, f)], c)

/-- Stream injectors 17 to 32, on the SV frames of their streams; `st` is the frame's stream. -/
def injStream (port : Nat) (f : Frame) (st : Nat) (c : Channel) : List (Nat × Frame) × Channel :=
  let smp := match f.body with | .sv _ _ _ (a :: _) => a.smpCnt | _ => 0
  (List.range 16).foldl (fun (r : List (Nat × Frame) × Channel) k =>
    let i := 17 + k
    if (injGet r.2 i).armed && entryNat r.2 (injIndex i) 1 0 == st then
      r.1.foldl (fun (q : List (Nat × Frame) × Channel) x =>
        let d := injDrawKeyed i f.src.toNat smp q.2
        let y := injAct i x.1 x.2 d.1.1 d.1.2 d.2
        (q.1 ++ y.1, y.2)) ([], r.2)
    else r) ([(port, f)], c)

/-- CAN injectors 13 to 16: on a frame received after acknowledgement. -/
def injCan (n : Nat) (f : CanFrame) (c0 : Channel) : List CanFrame × Channel :=
  let i := 12 + n
  if (injGet c0 i).armed then
    let d := injDraw i c0
    let x := injGet d.2 i
    let h := x.heldCan.map (fun e => (e.1 - 1, e.2))
    let rel := (h.filter (fun e => e.1 == 0)).map (fun e => e.2)
    let c := injPut i { x with heldCan := h.filter (fun e => e.1 != 0) } d.2
    let a := entryNat c (injIndex i) 2 0
    if !d.1 then (f :: rel, c)
    else if a = 1 then (rel, c)
    else if a = 3 then
      let r := injNumbers i (entryNat c (injIndex i) 4 1) c
      let flip (l : List Byte) (p : Nat) : List Byte :=
        if l.isEmpty then l else (List.range l.length).zip l |>.map (fun y => if y.1 = p % (8 * l.length) / 8 then flipAt y.2 (p % 8) else y.2)
      ({ f with data := r.1.foldl flip f.data } :: rel, r.2)
    else if a = 4 then (rel, injPut i { injGet c i with heldCan := (injGet c i).heldCan ++ [(entryNat c (injIndex i) 5 1, f)] } c)
    else (f :: rel, c)
  else ([f], c0)

/-- CAN_FRAME_RECEIVED, through the port's injector. -/
def execCanFrameReceived (ch : Chan) (n : Nat) (f : CanFrame) (s : State) : Host.Outcome State Fault Refusal :=
  onChan ch (fun c =>
    let r := injCan n f c
    r.1.foldl (fun c f => canFrameReceivedC n f c) r.2) s

/-- Injector 12, on a Seam record as its sender puts it on the lanes: does the record fail there? -/
def injRecord (c : Channel) : Bool × Channel :=
  if (injGet c 12).armed then
    let d := injDraw 12 c
    (d.1 && decide (entryNat c (injIndex 12) 2 0 ≠ 0 ∧ entryNat c (injIndex 12) 2 0 ≠ 2), d.2)
  else (false, c)

/-! ### Arming (22 R648, R649) -/

/-- ARMING_CODE_READ: a fresh code, free; through PF0 the read is a host command, mirrored (22 R648). A service port reads as PF1 or PF2
of its channel (21 R617). -/
def armingCodeReadC (p : Path) (c0 : Channel) : Channel :=
  match p with
  | .vf _ => if pathLive p c0 then refuse 0x0109 0x3100 0x10 p c0 else c0
  | _ =>
    if !pathLive p c0 then c0
    else
      let d := draw c0
      let code : U32 := d.1.setWidth 32
      let c := { d.2 with diag := { d.2.diag with armCode := some code, armFrom := p, armReadAt := d.2.time.up } }
      let c1 := answer p 0 (leBytes 4 code.toNat) c
      if p == .pf0 then post (.hostCmd (.armCode code)) (journalAdd 3 0 0xFF [] c1) else c1
def execArmingCodeRead (p : Path) (s : State) : Host.Outcome State Fault Refusal := onPath p (.armingCodeRead p) (armingCodeReadC p) s

/-- An arming as it takes effect (22 R648): seed 0 selects 1. -/
def injArm (i : Nat) (c : Channel) : Channel :=
  let seed := entryNat c (injIndex i) 6 1
  raise 28 0xFF i 1 (injPut i ⟨true, 1, BitVec.ofNat 32 (if seed = 0 then 1 else seed), c.time.up, [], [], []⟩ c)

/-- Is the code current, and read within 10 s; for an arming through PF0, was it read through PF0 (22 R648)? -/
def codeOk (p : Path) (code : U32) (c : Channel) : Bool :=
  c.diag.armCode == some code && (p != .pf0 || c.diag.armFrom == .pf0) && decide (c.time.up ≤ c.diag.armReadAt + 10000000000)

/-- May the path arm or disarm: PF0, PF1 and PF2, and with them a service port (22 R648; 21 R617)? -/
def injPathOk (p : Path) : Bool := match p with | .vf _ => false | _ => true

/-- INJECTOR_ARM: the current arming code written to OD 3120+i:08 (22 R648, R650). -/
def injectorArmC (p : Path) (i : Nat) (code : U32) (c : Channel) : Channel :=
  if !pathLive p c then c
  else if decide (33 ≤ i) then refuse 0x0101 (injIndex i) 8 p c
  else if !injAllowed c i then refuse 0x0104 (injIndex i) 8 p c
  else if !injPathOk p || !codeOk p code c then refuse 0x0109 (injIndex i) 8 p c
  else if (injGet c i).armed then refuse 0x0107 (injIndex i) 8 p c
  else injArm i (accept p (.injArm i code) c)
def execInjectorArm (p : Path) (i : Nat) (code : U32) (s : State) : Host.Outcome State Fault Refusal :=
  onPath p (.injectorArm p i code) (injectorArmC p i code) s

/-- INJECTOR_DISARM: 0 written to OD 3120+i:08 (22 R649). -/
def injectorDisarmC (p : Path) (i : Nat) (c : Channel) : Channel :=
  if !pathLive p c then c
  else if decide (33 ≤ i) then refuse 0x0101 (injIndex i) 8 p c
  else if !modeIn [3, 4, 5] c then refuse 0x0104 (injIndex i) 8 p c
  else if !injPathOk p then refuse 0x0109 (injIndex i) 8 p c
  else injEnd i 0 (accept p (.injDisarm i) c)
def execInjectorDisarm (p : Path) (i : Nat) (s : State) : Host.Outcome State Fault Refusal := onPath p (.injectorDisarm p i) (injectorDisarmC p i) s

/-- INJECTOR_DURATION_EXPIRY (22 R649): time has moved on to the end of the duration (log entry 9). -/
def injectorDurationExpiryC (i : Nat) (c : Channel) : Channel :=
  let x := injGet c i
  if x.armed then
    let left := x.since + entryNat c (injIndex i) 7 60 * 1000000000 - c.time.up
    injEnd i 2 (advanceTo (nowNs c + left) c)
  else c
def execInjectorDurationExpiry (ch : Chan) (i : Nat) (s : State) : Host.Outcome State Fault Refusal :=
  onChan ch (injectorDurationExpiryC i) s

end Sys2Proof.Machine
end

