-- ==== Sys2Proof/Machine/Pleat.lean ====
section
/-! DEFINITION. The Pleat recorder (18). -/
namespace Sys2Proof.Machine

def defIndex (d : Nat) : Nat := 0x9800 + d
def putDef (d : Nat) (x : PDef) (c : Channel) : Channel := { c with pleat := { c.pleat with defs := kPut c.pleat.defs d x } }

/-- Rows that a definition's ring holds (18 R535, R544). -/
def ringRows (r : DefRec) : Nat := r.ringMiB * 1048576 / (8 * max r.sigs.length 1)

/-- Rows of a definition that pinned segments hold (18 R545). -/
def pinnedRows (c : Channel) (d : Nat) : Nat :=
  ((c.pleat.queue ++ (match c.pleat.writing with | some s => [s] | none => [])).filter (fun s => s.dfn == d)).foldl
    (fun n s => n + s.rows.length) 0

/-! ### Capture (18 R534 to R536) -/

/-- The tokens a signal's producer holds (18 R534). -/
def sigTokens (c : Channel) (owner : Nat) (s : SigRec) : List Token :=
  if s.kind = 0 then (streamTokens c s.a s.b).map (fun x => x.2)
  else if s.kind = 1 then (pathTokens c s.a).map (fun x => x.2)
  else match kGet c.graphs owner with
    | none => []
    | some g =>
      match g.cfg.edges[s.a]? with
      | none => []
      | some e =>
        let l := (edgeTokens c g e).map (fun x => x.2)
        match (ringOf g (edgeKey e)).newest with
        | some t => l ++ [t]
        | none => l

/-- A signal's value for a row's instant: the token of that instant; MISSING where only later ones stand. -/
def sigAt (c : Channel) (owner t : Nat) (s : SigRec) : Option (U32 × U32 × Bool) :=
  let l := sigTokens c owner s
  match l.find? (fun k => k.instant.toNat == t) with
  | some k => some (nth k.pay 0 0, k.q, k.histBreak)
  | none => if l.any (fun k => decide (t < k.instant.toNat)) then some (0, qInvalid ||| qMissing, false) else none

/-- What a row in progress holds, with the signals that are raised now copied (18 R536). -/
def fillRow (c : Channel) (owner t : Nat) : List SigRec → List (Option (U32 × U32 × Bool)) → List (Option (U32 × U32 × Bool))
  | [], _ => []
  | s :: r, l => (match l.head? with | some (some v) => some v | _ => sigAt c owner t s) :: fillRow c owner t r (l.drop 1)

/-! ### Segments (18 R540 to R548) -/

/-- The bytes of a row (18 R535). -/
def rowBytes (r : List (U32 × U32)) : List Byte := r.foldl (fun a v => a ++ leBytes 4 v.1.toNat ++ leBytes 4 v.2.toNat) []

/-- A signal's value in primary units (18 R550). -/
def primary (s : SigRec) (v : U32) : F32 :=
  if s.ty = 4 then v
  else if s.ty = 1 then (if v = 0 then 0 else f32OfInt 1)
  else if s.ty = 3 then f32Mul (f32OfScaled v.toInt (-31)) s.scale
  else if s.ty = 8 then f32Mul (f32OfInt v.toNat) s.scale
  else f32Mul (f32OfInt v.toInt) s.scale

/-- The valid rows of a signal: row number in the segment and value. -/
def validRows (s : SigRec) (j : Nat) (rows : List (List (U32 × U32))) : List (Nat × F32) :=
  ((List.range rows.length).zip rows).filterMap (fun x =>
    match x.2[j]? with
    | some v => if qBad v.2 || v.2 &&& qMissing ≠ 0 then none else some (x.1, primary s v.1)
    | none => none)

/-- Positive-going crossings of the mean (18 R551), as times in rows: from below −h to at or above +h, each at the passage through zero,
between the two rows that bracket it; of several passages the last counts (log entry 54). `armed` holds whether the signal has been
below −h, `zero` the latest passage since, `prev` the row before. -/
def crossings (mean h : F32) : Bool → Option F32 → Option (Nat × F32) → List (Nat × F32) → List F32
  | _, _, _, [] => []
  | armed, zero, prev, (i, x) :: r =>
    let y := f32Sub x mean
    let z := match prev with
      | some (i0, y0) => if f32Lt y0 0 && f32Le 0 y then some (f32Add (f32OfInt i0) (f32Mul (f32OfInt (i - i0)) (f32Div (f32Neg y0) (f32Sub y y0)))) else zero
      | none => zero
    if armed && f32Le h y then z.toList ++ crossings mean h (f32Lt y (f32Neg h)) none (some (i, y)) r
    else crossings mean h (armed || f32Lt y (f32Neg h)) z (some (i, y)) r

/-- The greatest rate of rise over consecutive valid rows, and its row (18 R550). -/
def maxRise (rate : Nat) : Option (Nat × F32) → List (Nat × F32) → Option (F32 × Nat) → Option (F32 × Nat)
  | _, [], best => best
  | prev, (i, x) :: r, best =>
    let b := match prev with
      | some (i0, x0) =>
        if i = i0 + 1 then
          let v := f32Mul (f32Sub x x0) (f32OfInt rate)
          match best with
          | some (m, _) => if f32Lt m v then some (v, i) else best
          | none => some (v, i)
        else best
      | none => best
    maxRise rate (some (i, x)) r b

def f32Sum (l : List F32) : F32 := match l with | [] => 0 | x :: r => r.foldl f32Add x

/-- The measurement block of a signal (18 R550). The order of sums is the compiled one (09 R281; log entry 3). -/
def measurement (rate : Nat) (s : SigRec) (v : List (Nat × F32)) : List U32 :=
  match v with
  | [] => List.replicate 12 0
  | (_, x0) :: _ =>
    let xs := v.map (fun x => x.2)
    let n := f32OfInt xs.length
    let shows := decide (2 ≤ xs.length) && xs.any (fun x => !f32IsZero x)
    let fuzz (k : Nat) (x : F32) : F32 := if shows then f32Ulps x (Config.orderUlps (0x1800 + k) xs) else x
    let lo := xs.foldl f32Min x0
    let hi := xs.foldl f32Max x0
    let mean := fuzz 0 (f32Div (f32Sum xs) n)
    let rms := fuzz 1 (f32Sqrt (f32Div (f32Sum (xs.map (fun x => f32Mul x x))) n))
    let cr := crossings mean s.hyst false none none v
    let k := cr.length
    let few := decide (k < 2)
    let first := cr.headD 0
    let last := cr.getLast?.getD 0
    let part := (v.filter (fun x => f32Le first (f32OfInt x.1) && f32Le (f32OfInt x.1) last)).map (fun x => x.2)
    let dc := if few then mean else fuzz 2 (f32Div (f32Sum part) (f32OfInt part.length))
    let span := f32Sub last first
    let per := if few then 0 else f32Div (f32Div span (f32OfInt rate)) (f32OfInt (k - 1))
    let rise := maxRise rate none v none
    [lo, hi, mean, rms, f32Sub hi lo, dc, per, if few then 0 else f32Div (f32OfInt 1) per,
     (rise.map (fun x => x.1)).getD 0, f32OfInt ((rise.map (fun x => x.2)).getD 0), n, f32OfInt k]

def bit16 (n : Nat) (b : Bool) : Nat := if b then 2 ^ n else 0

/-- The servo states' codes, OD 2200:01 (13 R405). -/
def servoCode : Servo → Nat
  | .freerun => 0 | .locking => 1 | .locked => 2 | .holdover => 3

/-- The header of a segment (18 R548). -/
def segmentHeader (c : Channel) (d : PDef) (o : OpenSeg) (rows : List PRow) (trunc : Bool) (num : U64) : List Byte :=
  let r := d.cfg
  let first := (rows.head?.map (fun x => x.n)).getD o.first
  let vals := rows.map (fun x => x.vals)
  let missing := (vals.filter (fun v => v.any (fun x => x.2 &&& qMissing ≠ 0))).length
  let invalid := (vals.filter (fun v => v.any (fun x => qBad x.2))).length
  let flags := bit16 0 o.extended + bit16 1 (rows.any (fun x => x.damaged)) + bit16 2 (decide (0 < missing)) +
    bit16 3 (rows.any (fun x => x.hbreak)) + bit16 4 o.short + bit16 5 r.keep + bit16 6 o.limited + bit16 7 trunc + o.servo * 256
  let head := [0x4E, 0x52, 0x50, 0x4C] ++ leBytes 2 1 ++ leBytes 2 (128 + 48 * r.sigs.length) ++ leBytes 1 r.num ++ leBytes 1 r.owner ++
    leBytes 1 r.sigs.length ++ [chanByte c] ++ leBytes 2 flags ++ leBytes 2 o.trigSrc ++ leBytes 8 num.toNat ++ leBytes 8 o.trigInstant ++
    leBytes 2 (smpCntOf r.rate o.trigRow) ++ leBytes 2 (smpCntOf r.rate first) ++ leBytes 4 r.rate ++ leBytes 8 (instantOf r.rate first) ++
    leBytes 4 rows.length ++ leBytes 4 (o.trigRow - first) ++ leBytes 8 o.jseq.toNat ++ leBytes 8 (nowNs c) ++ leBytes 4 missing ++
    leBytes 4 invalid ++ leBytes 4 serialNumber.toNat ++ leBytes 4 ((BitVec.ofInt 32 o.utc).toNat) ++
    leBytes 4 (crc32 (vals.foldl (fun a v => a ++ rowBytes v) [])).toNat
  let meas := ((List.range r.sigs.length).zip r.sigs).foldl (fun a x =>
    a ++ (measurement r.rate x.2 (validRows x.2 x.1 vals)).foldl (fun b w => b ++ leBytes 4 w.toNat) []) []
  let tail := List.replicate 32 (0 : Byte) ++ meas
  head ++ leBytes 4 (crc32 (head ++ [0, 0, 0, 0] ++ tail)).toNat ++ tail

/-- Closes the open segment with the rows captured up to `last` (18 R541, R545, R548); 1 is added to the count. -/
def closeSegment (d last : Nat) (trunc : Bool) (next : DefState) (c0 : Channel) : Channel :=
  match kGet c0.pleat.defs d with
  | none => c0
  | some x =>
    match x.opened with
    | none => c0
    | some o =>
      let rows := x.ring.filter (fun r => decide (o.first ≤ r.n ∧ r.n ≤ last))
      let c := bump (defIndex d) 2 (bump 0x2D00 5 c0)
      let num : U64 := BitVec.ofNat 64 (c.ledger.cycles * 1099511627776 + (zGet c.ctr (od 0x2D00 5)).toNat % 1099511627776)
      let seg : Segment := {
        num := num, dfn := d, keep := x.cfg.keep, protect := x.cfg.protect, header := segmentHeader c x o rows trunc num,
        first := (rows.head?.map (fun r => r.n)).getD o.first, rows := rows.map (fun r => r.vals), damaged := rows.any (fun r => r.damaged), late := o.late }
      let p := if x.cfg.keep then { c.pleat with queue := c.pleat.queue ++ [seg] } else { c.pleat with segs := c.pleat.segs ++ [seg] }
      let c1 := setRo (defIndex d) 3 num.toNat (putDef d { x with opened := none, st := next, rearmAt := c.time.up } { c with pleat := p })
      let c2 := if x.cfg.event then raise 49 x.cfg.owner d 0 c1 else c1
      if seg.damaged then raiseLimited 52 x.cfg.owner d 0 d (bump 0x2D00 8 c2) else c2

/-- Closes the open segment once its last row is captured (18 R541). -/
def closeIfDone (d : Nat) (c : Channel) : Channel :=
  match kGet c.pleat.defs d with
  | none => c
  | some x =>
    match x.opened with
    | some o => if o.last < x.next then closeSegment d o.last false .rearming c else c
    | none => c

/-- The definition's settings in effect since graph start (18 R561). -/
def defMask (x : PDef) (src : Nat) : Bool := (nth x.cfg.mask (src / 8) 0).getLsbD (src % 8)

/-- Opens a segment at a trigger (18 R540, R541, R543, R546). -/
def openSegment (d src t : Nat) (x : PDef) (c : Channel) : Channel :=
  let r := x.cfg
  if ringRows r < pinnedRows c d + 2 * r.n then
    raiseLimited 50 r.owner d 0 d (bump (defIndex d) 5 (bump 0x2D00 7 c))
  else
    let row := numberAt r.rate t
    let oldest := (x.ring.head?.map (fun k => k.n)).getD x.next
    let first := max (row - r.p) oldest
    let o : OpenSeg := {
      trigInstant := t, trigSrc := src, first := first, trigRow := row, last := row + r.n - r.p - 1, extended := false,
      limited := false, short := decide (row - r.p < oldest), jseq := journalCurrent c, servo := servoCode c.time.servo, late := c.time.limitPassed,
      utc := c.time.utcOffset }
    closeIfDone d (putDef d { x with opened := some o, st := .recording } c)

/-- A trigger at one definition (18 R541). -/
def triggerDef (d src t : Nat) (c : Channel) : Channel :=
  match kGet c.pleat.defs d with
  | none => c
  | some x =>
    match x.st with
    | .stopped => c
    | .armed => openSegment d src t x c
    | .rearming => putDef d { x with heldTrig := x.heldTrig ++ [(src, t)] } c
    | .recording =>
      match x.opened with
      | none => c
      | some o =>
        if x.cfg.extend then
          let want := max o.last (numberAt x.cfg.rate t + x.cfg.n - x.cfg.p - 1)
          let lim := o.first + 1048575
          putDef d { x with opened := some { o with last := min want lim, extended := true, limited := o.limited || decide (lim ≤ want) } } c
        else bump (defIndex d) 4 (bump 0x2D00 6 c)

/-- A trigger source fires at instant `t` (18 R537, R539). -/
def pleatTrigger (src t : Nat) (c : Channel) : Channel :=
  c.pleat.defs.foldl (fun c x => if defMask x.2 src then triggerDef x.1 src t c else c) c

/-- PLEAT_ROW_CAPTURE: copies the tokens raised for the row in progress; a full row enters the ring (18 R535, R536). -/
def pleatRowCaptureC (d : Nat) (c : Channel) : Channel :=
  match kGet c.pleat.defs d with
  | none => c
  | some x =>
    if x.st = .stopped then c
    else
      let row := fillRow c x.cfg.owner (instantOf x.cfg.rate x.next) x.cfg.sigs x.row
      if row.all (fun v => v.isSome) then
        let vs := row.filterMap (fun v => v)
        let pr : PRow := { n := x.next, vals := vs.map (fun v => (v.1, v.2.1)), hbreak := vs.any (fun v => v.2.2), damaged := false }
        let ring := x.ring ++ [pr]
        let ring1 := ring.drop (ring.length - (ringRows x.cfg - pinnedRows c d))
        let oldest := (ring1.head?.map (fun k => k.n)).getD x.next
        let c1 := putDef d { x with ring := ring1, row := [], next := x.next + 1 } c
        let c2 := { c1 with pleat := { c1.pleat with segs := c1.pleat.segs.filter (fun s => s.dfn != d || decide (oldest ≤ s.first)) } }
        closeIfDone d (bump (defIndex d) 6 c2)
      else putDef d { x with row := row } c
/-- REARM_COMPLETE: ARMED again; what was held applies at once, in turn (18 R541, R542). -/
def rearmCompleteC (d : Nat) (c : Channel) : Channel :=
  match kGet c.pleat.defs d with
  | none => c
  | some x =>
    if x.st = .rearming then
      let c1 := highWater 0x2D00 0x17 (c.time.up - x.rearmAt) (putDef d { x with st := .armed, heldTrig := [] } c)
      x.heldTrig.foldl (fun c h => triggerDef d h.1 h.2 c) c1
    else c
def execRearmComplete (ch : Chan) (d : Nat) (s : State) : Host.Outcome State Fault Refusal := onChan ch (rearmCompleteC d) s

/-! ### Arming (18 R538, R541) -/

/-- Capture starts, with the first row after the present (18 R541; log entry 14). -/
def startCapture (d : Nat) (c : Channel) : Channel :=
  match kGet c.pleat.defs d with
  | none => c
  | some x =>
    if x.st = .stopped then
      putDef d { x with st := .armed, ring := [], row := [], next := numberAt x.cfg.rate (nowNs c) + 1, heldTrig := [] } c
    else c

/-- Capture stops at instant `t`: an open segment closes at the last row before it, TRUNCATED (18 R541). -/
def stopCapture (d t : Nat) (c : Channel) : Channel :=
  match kGet c.pleat.defs d with
  | none => c
  | some x =>
    if x.st = .stopped then c
    else
      let c1 := closeSegment d (numberAt x.cfg.rate (t - 1)) true .stopped c
      match kGet c1.pleat.defs d with
      | some y => putDef d { y with st := .stopped, heldTrig := [], row := [] } c1
      | none => c1

/-- A definition armed or disarmed as it takes effect. -/
def setArmed (d : Nat) (on : Bool) (c : Channel) : Channel :=
  let c1 := { c with dict := { c.dict with overlay := kPut c.dict.overlay (od (defIndex d) 7) [if on then 1 else 0] } }
  if on then startCapture d c1 else stopCapture d (nowNs c) c1

/-- DEFINITION_ARM and DEFINITION_DISARM: OD 9800+d:07 (18 R541, R561; 21 R623). -/
def definitionWrite (p : Path) (d : Nat) (on : Bool) (c : Channel) : Channel :=
  writeGate p [3, 4, 5] (defIndex d) 7 (fun c =>
    if kHas c.pleat.defs d then setArmed d on (accept p (.defArm d on) c) else refuse 0x0108 (defIndex d) 7 p c) c
def execDefinitionArm (p : Path) (d : Nat) (s : State) : Host.Outcome State Fault Refusal := onPath p (.definitionArm p d) (definitionWrite p d true) s
def execDefinitionDisarm (p : Path) (d : Nat) (s : State) : Host.Outcome State Fault Refusal := onPath p (.definitionDisarm p d) (definitionWrite p d false) s

/-- MANUAL_TRIGGER: OD 2D00:0F through PF0; its instant is a P1 boundary at least 1 ms later (18 R538). -/
def manualTriggerC (p : Path) (d : Nat) (c : Channel) : Channel :=
  pf0Gate p [3, 4, 5] 0x2D00 0x0F (decide (d < 128)) (fun c =>
    if !kHas c.pleat.defs d then refuse 0x0108 0x2D00 0x0F p c
    else
      let t := p1After 1000000 c
      let c1 := accept p (.manual d t) c
      { c1 with pleat := { c1.pleat with manual := c1.pleat.manual ++ [(d, t)] } }) c
def execManualTrigger (p : Path) (d : Nat) (s : State) : Host.Outcome State Fault Refusal := onPath p (.manualTrigger p d) (manualTriggerC p d) s

/-- MANUAL_TRIGGER_INSTANT: the earliest one's boundary arrives (18 R538, R548). -/
def manualTriggerInstantC (c : Channel) : Channel :=
  match c.pleat.manual with
  | [] => c
  | (d, t) :: rest => triggerDef d 0x8000 t (advanceTo t { c with pleat := { c.pleat with manual := rest } })
def execManualTriggerInstant (ch : Chan) (s : State) : Host.Outcome State Fault Refusal := onChan ch manualTriggerInstantC s

/-- At graph start: the entries written since are in effect, and definitions whose flag is set start (18 R541, R561). -/
def pleatGraphStart (c : Channel) : Channel :=
  c.pleat.defs.foldl (fun c x =>
    let r := x.2.cfg
    let r1 := { r with n := entryNat c (defIndex x.1) 8 r.n, p := entryNat c (defIndex x.1) 9 r.p, mask := entryBytes c (defIndex x.1) 0x0A r.mask }
    let c1 := putDef x.1 { x.2 with cfg := r1, st := .stopped, ring := [], row := [], opened := none, heldTrig := [] } c
    if entryNat c (defIndex x.1) 7 (if r.armStart then 1 else 0) ≠ 0 then startCapture x.1 c1 else c1) c

/-- The definitions of a sleeve stop at its freeze or deletion boundary (18 R541). -/
def pleatStopSleeve (sleeve t : Nat) (c : Channel) : Channel :=
  c.pleat.defs.foldl (fun c x =>
    if x.2.cfg.owner = sleeve then
      stopCapture x.1 t (putDef x.1 { x.2 with wasArmed := x.2.st != .stopped } c)
    else c) c

/-- At thaw, a definition that was armed at the freeze is ARMED again (18 R541). -/
def pleatThawSleeve (sleeve : Nat) (c : Channel) : Channel :=
  c.pleat.defs.foldl (fun c x => if x.2.cfg.owner = sleeve ∧ x.2.wasArmed then startCapture x.1 c else c) c

/-! ### The flash store (18 R552 to R554) -/

/-- Blocks of 64 KiB that a record occupies (18 R552). -/
def storeBlocks (s : Segment) : Nat :=
  (s.header.length + s.rows.length * 8 * ((s.header.length - 128) / 48) + 65535) / 65536

def storeUsed (l : List Segment) : Nat := l.foldl (fun n s => n + storeBlocks s) 0

/-- The store: 256 GiB in blocks of 64 KiB (01 R38). -/
def storeCapacity : Nat := 4194304

/-- Deletes the oldest record without the protect flag. -/
def dropOldest : List Segment → Option (List Segment)
  | [] => none
  | s :: r => if s.protect then (dropOldest r).map (fun l => s :: l) else some r

/-- Makes room for `need` blocks; answers what is left and how many records went, or none where there is no room. -/
def makeRoom : Nat → Nat → List Segment → Nat → Option (List Segment × Nat)
  | 0, _, _, _ => none
  | fuel + 1, need, l, n =>
    if storeUsed l + need ≤ storeCapacity then some (l, n)
    else match dropOldest l with
      | some l1 => makeRoom fuel need l1 (n + 1)
      | none => none

/-- STORE_WRITE_START (18 R552 to R554). -/
def storeWriteStartC (c : Channel) : Channel :=
  match c.pleat.queue, c.pleat.writing with
  | s :: rest, none =>
    if c.psu.pwarn || !runtimeUp c then c
    else match makeRoom (c.pleat.store.length + 1) (storeBlocks s) c.pleat.store 0 with
      | some (l, n) => bumpN 0x2D00 0x0C n { c with pleat := { c.pleat with store := l, queue := rest, writing := some s } }
      | none =>
        raiseLimited 51 0xFF s.dfn 0 s.dfn (bump 0x2D00 0x0D
          { c with pleat := { c.pleat with queue := rest, segs := c.pleat.segs ++ [s] } })
  | _, _ => c
def execStoreWriteStart (ch : Chan) (s : State) : Host.Outcome State Fault Refusal := onChan ch storeWriteStartC s

/-- STORE_WRITE_COMPLETE: the header is written, and the segment is unpinned (18 R545, R552). -/
def storeWriteCompleteC (c : Channel) : Channel :=
  match c.pleat.writing with
  | none => c
  | some s => { c with pleat := { c.pleat with writing := none, store := c.pleat.store ++ [s], segs := c.pleat.segs ++ [s] } }
def execStoreWriteComplete (ch : Chan) (s : State) : Host.Outcome State Fault Refusal := onChan ch storeWriteCompleteC s

/-- Do a record's header CRC and data CRC hold (18 R548)? -/
def recordOk (s : Segment) : Bool :=
  let h := s.header
  leBytes 4 (crc32 (h.take 92 ++ [0, 0, 0, 0] ++ h.drop 96)).toNat == slice h 92 4 &&
    leBytes 4 (crc32 (s.rows.foldl (fun a v => a ++ rowBytes v) [])).toNat == slice h 88 4

/-- At BOOT a record left by an interrupted write, or whose header CRC or data CRC fails, is discarded and counted (18 R552; 01 R41). -/
def pleatAtBoot (c : Channel) : Channel :=
  bumpN 0x2D00 0x0E (c.pleat.writing.toList.length + (c.pleat.store.filter (fun s => !recordOk s)).length)
    { c with pleat := { c.pleat with writing := none, store := c.pleat.store.filter recordOk } }

/-- Deletes a store record, as it takes effect. -/
def deleteRecord (n : Nat) (c : Channel) : Channel :=
  if c.pleat.store.any (fun s => s.num.toNat == n) then
    bump 0x2D00 0x0C { c with pleat := { c.pleat with store := c.pleat.store.filter (fun s => s.num.toNat != n) } }
  else c

/-- DELETE_STORE_RECORD: OD 2D00:16, protected or not (18 R554, R560). -/
def deleteStoreRecordC (p : Path) (n : Nat) (c : Channel) : Channel :=
  writeGate p [2, 3, 4, 5] 0x2D00 0x16 (fun c =>
    if c.pleat.store.any (fun s => s.num.toNat == n) then deleteRecord n (accept p (.deleteRec n) c)
    else refuse 0x0108 0x2D00 0x16 p c) c
def execDeleteStoreRecord (p : Path) (n : Nat) (s : State) : Host.Outcome State Fault Refusal := onPath p (.deleteStoreRecord p n) (deleteStoreRecordC p n) s

/-! ### Reading and export (18 R545, R557, R560) -/

/-- The segment that OD 2D00:10 selects, where it is readable. -/
def selected (c : Channel) : Option Segment :=
  let n := entryNat c 0x2D00 0x10 0
  (c.pleat.queue ++ c.pleat.segs ++ c.pleat.store ++ (match c.pleat.writing with | some s => [s] | none => [])).find? (fun s => s.num.toNat == n)

/-- What R557 fills a .cff file with: station and device, the analogue channels by name, unit and factor, the digital channels by name,
rate, rows, start and trigger time in µs of UTC, the rows' times in µs, the quality code, and the rows' analogue and digital values. -/
structure Cff where
  rev : Nat
  station : List Byte
  device : List Byte
  analogue : List (List Byte × List Byte × F32)
  digital : List (List Byte)
  nrates : Nat
  samp : Nat
  endsamp : Nat
  start : Int
  trigger : Int
  timemult : Nat
  stamps : List Nat
  timeCode : Nat
  localCode : Nat
  tmq : Nat
  leapsec : Nat
  binary : Bool
  rows : List (List U32 × List Bool)
  deriving DecidableEq, Repr

/-- The bytes of a .cff file of IEEE C37.111-2013 with these items (log entry 15). -/
opaque encodeCff : Cff → List Byte

/-- A number in decimal digits, at least `n` of them. -/
def decimal : Nat → Nat → Nat → List Byte
  | 0, _, _ => []
  | fuel + 1, n, v => if n = 0 ∧ v = 0 then [] else decimal fuel (n - 1) (v / 10) ++ [BitVec.ofNat 8 (48 + v % 10)]

/-- An analogue channel's unit: A or V from the kind of a stream channel, of its own or its path's (03 R110; 18 R557). -/
def sigUnit (c : Channel) (s : SigRec) : List Byte :=
  let kind (n k : Nat) : Option Nat := (kGet c.ingest.streams n).bind (fun x => (x.cfg.chans[k]?).map (fun y => y.2.1))
  let found := if s.kind = 0 then kind s.a s.b else if s.kind = 1 then (kGet c.paths s.a).bind (fun p => kind p.cfg.stream p.cfg.k) else none
  match found with
  | some k => if k = 0 ∨ k = 2 then asciiBytes "A" else if k = 1 ∨ k = 3 then asciiBytes "V" else []
  | none => []

/-- The file's items for a segment and the signals of its definition (18 R557; log entry 15). -/
def cffOf (c : Channel) (fmt : Nat) (g : Segment) (sigs : List SigRec) : Cff :=
  let h := g.header
  let l := (List.range sigs.length).zip sigs
  let an := l.filter (fun x => x.2.ty != 1)
  let di := l.filter (fun x => x.2.ty == 1)
  let name (j : Nat) : List Byte := asciiBytes "S" ++ decimal 3 1 j
  let off := signed 32 (leAt h 84 4)
  let us (t : Nat) : Int := (t : Int) / 1000 - off * 1000000
  let rate := leAt h 36 4
  let first := numberAt rate (leAt h 40 8)
  let servo := leAt h 13 1 % 4
  let bad (v : U32 × U32) : Bool := qBad v.2 || v.2 &&& qMissing != 0
  { rev := 2013, station := (match kGet c.sleeves (leAt h 9 1) with | some s => s.cfg.idPrefix | none => [])
    device := asciiBytes "MCM-2410 " ++ decimal 10 5 (leAt h 80 4) ++ asciiBytes (if leAt h 11 1 = 0 then "A" else "B")
    analogue := an.map (fun x => (name x.1, sigUnit c x.2, if fmt = 0 then x.2.scale else f32OfInt 1))
    digital := di.map (fun x => name x.1) ++ an.map (fun x => name x.1 ++ asciiBytes ".INV")
    nrates := 1, samp := rate, endsamp := g.rows.length, start := us (leAt h 40 8), trigger := us (leAt h 24 8), timemult := 1
    stamps := (List.range g.rows.length).map (fun i => (instantOf rate (first + i) - leAt h 40 8 + 500) / 1000)
    timeCode := 0, localCode := 0, tmq := if servo = 2 then 0 else if servo = 3 ∧ g.late = false then 4 else 15, leapsec := 0, binary := fmt == 0
    rows := g.rows.map (fun r => (an.map (fun x => let v := nth r x.1 (0, 0); if fmt = 0 then v.1 else primary x.2 v.1),
      di.map (fun x => decide ((nth r x.1 (0, 0)).1 ≠ 0)) ++ an.map (fun x => bad (nth r x.1 (0, 0))))) }

/-- COMTRADE_EXPORT: OD 2D00:15 as a .cff file; BINARY32 refuses a segment with an F32 or Q31 signal (18 R557). -/
def comtradeExportC (p : Path) (c : Channel) : Channel :=
  if !pathLive p c then c
  else if !reaches p 0x2D00 then refuse 0x0109 0x2D00 0x15 p c
  else match selected c with
    | none => refuse 0x0108 0x2D00 0x15 p c
    | some s =>
      let fmt := entryNat c 0x2D00 0x14 1
      let sigs := match kGet c.pleat.defs s.dfn with | some x => x.cfg.sigs | none => []
      if fmt = 0 && sigs.any (fun x => x.ty == 4 || x.ty == 3) then refuse 0x0105 0x2D00 0x15 p c
      else
        let file := encodeCff (cffOf c fmt s sigs)
        answer p 0 file
          { c with dict := { c.dict with copies := ⟨p, od 0x2D00 0x15, file⟩ :: c.dict.copies.filter (fun x => x.path != p) } }
def execComtradeExport (p : Path) (s : State) : Host.Outcome State Fault Refusal := onPath p (.comtradeExport p) (comtradeExportC p) s

end Sys2Proof.Machine
end

