-- ==== Sys2Proof/Machine/Digest.lean ====
section
/-! DEFINITION. Digests of outputs and inputs, and their comparison (12 R373 to R378). -/
namespace Sys2Proof.Machine

/-- The trigger rate of an instance, T⁻¹ (05 R152; 08 R245); `fuel` bounds the chain of producers. -/
def triggerRate (c : Channel) (g : GraphRt) : Nat → Nat → Nat
  | 0, _ => 1000
  | fuel + 1, i =>
    match g.cfg.insts[i]? with
    | none => 1000
    | some r =>
      if r.cls = 5 then 2000
      else if r.cls = 4 then 1000
      else match (edgesInto g i).find? (fun e => edgeTrigger r e.2) with
        | none => 1000
        | some e =>
          if e.2.src then
            match g.cfg.sources[e.2.prod]? with
            | some s =>
              if s.kind = 1 then (match kGet c.ingest.streams s.a with | some x => x.cfg.rate | none => 1000)
              else (match kGet c.paths s.a with
                | some p => (match kGet c.ingest.streams p.cfg.stream with | some x => x.cfg.rate / presetFactor p.cfg.preset x.cfg.rate | none => 1000)
                | none => 1000)
            | none => 1000
          else triggerRate c g fuel e.2.prod

def rateOfInst (c : Channel) (g : GraphRt) (i : Nat) : Nat := triggerRate c g (g.cfg.insts.length + 1) i

/-- The attribution window A_s of a sleeve in ns (12 R375). -/
def attrWindow (c : Channel) (s : Nat) : Nat :=
  match kGet c.graphs s with
  | none => 10000000
  | some g => 10000000 + ((List.range g.cfg.insts.length).zip g.cfg.insts).foldl (fun a x =>
      max a (opHistory x.2 (rateOfInst c g x.1) * 1000000000 / rateOfInst c g x.1)) 0

/-- The class of a stream's slots (05 R152). -/
def rateClass (rate : Nat) : Nat := if rate = 14400 then 1 else if rate = 4800 then 2 else if rate = 2400 then 3 else 0

/-- Does a sleeve consume the inputs that an input digest of a class covers (12 R375; log entry 17)? -/
def consumes (c : Channel) (s cls : Nat) : Bool :=
  match kGet c.graphs s with
  | none => false
  | some g =>
    if cls = 4 then c.pub.subs.any (fun x => x.2.cfg.owner == s)
    else g.cfg.sources.any (fun x =>
      let st := if x.kind = 1 then some x.a else if x.kind = 2 then (kGet c.paths x.a).map (fun p => p.cfg.stream) else none
      match st with
      | some n => (match kGet c.ingest.streams n with | some k => rateClass k.cfg.rate == cls | none => false)
      | none => false)

/-! ### Comparison (12 R375 to R378) -/

/-- Does the channel compare digests now (12 R391, R392)? Not in stages 1 to 3. -/
def comparing (c : Channel) : Bool := !(1 ≤ c.seam.stage && c.seam.stage ≤ 3)

/-- The first P1 boundary at or after an instant. -/
def p1Ceil (t : Nat) : Nat := (t + 999999) / 1000000 * 1000000

/-- The runs of input divergence with one more (12 R375): a run goes on while its instants lie within 10 ms. -/
def divRuns (cls t : Nat) : List (Nat × Nat × Nat) → List (Nat × Nat × Nat)
  | [] => [(cls, t, t)]
  | (k, a, b) :: r => if k = cls ∧ a ≤ t + 10000000 ∧ t ≤ b + 10000000 then (k, min a t, max b t) :: r else (k, a, b) :: divRuns cls t r

/-- An input divergence (12 R375, R378): E9, and the realignment of every sleeve that consumes the class. -/
def inputDivergence (cls t : Nat) (c : Channel) : Channel :=
  let run := match c.seam.divRun with
    | some (a, b) => if c.time.up ≤ b + 1000000 then (a, c.time.up) else (c.time.up, c.time.up)
    | none => (c.time.up, c.time.up)
  let re := (c.sleeves.map (fun x => x.1)).foldl (fun m s =>
    if consumes c s cls then kPut m s (max ((kGet m s).getD 0) (p1Ceil (t + attrWindow c s))) else m) c.seam.realign
  let c1 := raiseLimited 9 0xFF cls 0 0 (bump 0x2800 0x0B
    { c with seam := { c.seam with inputDiv := divRuns cls t c.seam.inputDiv, divRun := some run, realign := re } })
  if run.1 + 1000000000 ≤ run.2 then raiseLimited 10 0xFF cls 0 0 c1 else c1

/-- Is a disagreement of a sleeve at `t` attributed to input (12 R375)? -/
def attributed (c : Channel) (s t : Nat) : Bool :=
  kHas c.seam.realign s || c.seam.resyncSleeve == some s ||
    c.seam.inputDiv.any (fun d => consumes c s d.1 && decide (d.2.1 ≤ t ∧ t - attrWindow c s ≤ d.2.2))

/-- A digest disagreement (12 R375, R376, R392), in which the sleeves `ss` differ: it is counted and raised once, and the convergence
run of stage 4 starts anew. Where a sleeve's part is not attributed to input, a self-diagnosis starts: of that sleeve, or of all (64)
where several are. The one that names a sleeve already under diagnosis goes on with it (log entry 53). -/
def disagree (cls t : Nat) (ss : List Nat) (c : Channel) : Channel :=
  let s := ss.head?.getD 0xFF
  let c1 := raiseLimited 8 s cls 0 0 (setRoFF 0x2800 0x10 cls (setRoFF 0x2800 0x0F s (setRo 0x2800 0x0E t (bump 0x2800 0x0A c))))
  let c2 := { c1 with seam := { c1.seam with convAt := c1.time.up } }
  let own := match ss.filter (fun k => !attributed c k t) with | [] => none | [k] => some k | _ => some 64
  match own with
  | none => c2
  | some k =>
    if c2.seam.diagnosing.any (fun d => d.1 == k) then c2
    else bump 0x2800 0x0C { c2 with seam := { c2.seam with diagnosing := c2.seam.diagnosing ++ [(k, c2.time.up)] } }

/-- The sleeves whose parts differ; the digest's own sleeve where none is named. -/
def differing (a b : Digest) : List Nat :=
  let l := (a.subs.map (fun x => x.1) ++ b.subs.map (fun x => x.1)).eraseDups.filter (fun s =>
    (a.subs.find? (fun x => x.1 == s)).map (fun x => x.2) != (b.subs.find? (fun x => x.1 == s)).map (fun x => x.2))
  if l.isEmpty then [a.sleeve] else l

/-- Compares an own digest with the twin's (12 R375). -/
def digestCompare (mine twin : Digest) (c : Channel) : Channel :=
  if mine.v = twin.v || !mine.fit || !twin.fit then c
  else if mine.out then disagree (min mine.cls 6) mine.instant (differing mine twin) c
  else inputDivergence mine.cls mine.instant c

def sameDigest (a b : Digest) : Bool :=
  a.cls == b.cls && a.out == b.out && a.sleeve == b.sleeve && a.instant == b.instant

/-- Closes an own digest: its record posted, and compared where the twin's has come (12 R374, R375). -/
def closeAs (r : MRec) (d : Digest) (c : Channel) : Channel :=
  let c1 := post r c
  match c1.seam.twinDigests.find? (fun x => sameDigest d x) with
  | some t => digestCompare d t { c1 with seam := { c1.seam with twinDigests := c1.seam.twinDigests.filter (fun x => !sameDigest d x) } }
  | none =>
    if c1.seam.presence = 2 then { c1 with seam := { c1.seam with digests := c1.seam.digests ++ [d] } } else c1

def closeDigest (d : Digest) (c : Channel) : Channel := closeAs (.digest d) d c

/-- A retain flush's digest, compared as an LSE output digest (12 R371). -/
def retainDigestOf (n t : Nat) (v : U64) (fit : Bool) (up : Nat) : Digest :=
  { cls := 7, out := true, sleeve := n, instant := t, v := v, subs := [], fit := fit, closedAt := up }
def closeRetain (n t : Nat) (v : U64) (c : Channel) : Channel :=
  closeAs (.retainDigest n t v) (retainDigestOf n t v (comparing c) c.time.up) c

/-- A twin's digest arrives (12 R375). -/
def twinDigest (t : Digest) (c : Channel) : Channel :=
  match c.seam.digests.find? (fun x => sameDigest t x) with
  | some d => digestCompare d t { c with seam := { c.seam with digests := c.seam.digests.filter (fun x => !sameDigest t x) } }
  | none => { c with seam := { c.seam with twinDigests := (t :: c.seam.twinDigests).take 4096 } }

/-! ### Items (12 R373) -/

/-- Words of items as the CRC takes them: 32-bit little-endian, value words then quality (log entry 17). -/
def itemBytes (i : DigItem) : List Byte := i.words.foldl (fun a w => a ++ leBytes 4 w.toNat) [] ++ leBytes 4 i.q.toNat

def itemKey (i : DigItem) : Nat := (i.sleeve * 16 + i.kind) * 4294967296 + i.item

def insertItem (i : DigItem) : List DigItem → List DigItem
  | [] => [i]
  | x :: r => if itemKey i < itemKey x then i :: x :: r else if itemKey i = itemKey x then i :: r else x :: insertItem i r

/-- The digest of a list of items, and each sleeve's part. -/
def itemsDigest (cls sleeve t : Nat) (l : List DigItem) (c : Channel) : Digest :=
  let s := l.foldl (fun a i => insertItem i a) []
  let crcOf (x : List DigItem) : U64 := crc64 (x.foldl (fun a i => a ++ itemBytes i) [])
  { cls := cls, out := true, sleeve := sleeve, instant := t, v := crcOf s,
    subs := (s.map (fun i => i.sleeve)).eraseDups.map (fun n => (n, crcOf (s.filter (fun i => i.sleeve == n)))),
    fit := comparing c, closedAt := c.time.up }

/-- Notes an item written for an instant. EVENT items keep their latest values for the next P1 boundary. -/
def noteItem (i : DigItem) (c : Channel) : Channel :=
  if i.cls = 5 then
    { c with seam := { c.seam with items := c.seam.items.filter (fun x => !(x.cls == 5 && itemKey x == itemKey i)) ++ [i] } }
  else { c with seam := { c.seam with items := c.seam.items ++ [i] } }

/-- Has every writer of a class written for instant `t` (12 R374)? Sleeves that are frozen write nothing. -/
def writersDone (c : Channel) (cls t : Nat) : Bool :=
  c.graphs.all (fun g => !sleeveRuns c g.1 ||
    ((List.range g.2.cfg.insts.length).zip g.2.cfg.insts).all (fun x =>
      !((x.2.op == 0x0306 || x.2.op == 0x0307) && x.2.cls == cls) ||
      (match kGet g.2.insts x.1 with | some r => decide (t ≤ r.done) | none => true)))

/-- DIGEST_CLOSE of an output digest (12 R374). -/
def closeOutputs (cls t : Nat) (c : Channel) : Channel :=
  if cls = 5 || !writersDone c cls t then c
  else
    let mine := c.seam.items.filter (fun i => i.cls == cls && i.instant == t)
    closeDigest (itemsDigest cls 0xFF t mine c)
      { c with seam := { c.seam with items := c.seam.items.filter (fun i => !(i.cls == cls && decide (i.instant ≤ t))) } }

/-- Words of a slot as the input digest takes them (12 R373): flags [3:0], then value and quality of each channel. -/
def slotBytes (s : SampleSlot) : List Byte :=
  let f := bit16 0 s.written + bit16 1 s.missing + bit16 2 s.histBreak + bit16 3 s.returning
  BitVec.ofNat 8 f :: s.vals.foldl (fun a v => a ++ leBytes 4 v.1.toNat ++ leBytes 4 v.2.toNat) []

/-- The input digest of a class closes when every stream of the class holds the slot of the instant (12 R373). -/
def closeInputs (rate n : Nat) (c : Channel) : Channel :=
  let l := c.ingest.streams.filter (fun x => x.2.cfg.rate == rate && x.2.st != .inactive)
  let slots := l.map (fun x => x.2.ring.find? (fun s => s.n == n))
  if slots.all (fun s => match s with | some k => k.written | none => false) then
    closeDigest {
      cls := rateClass rate, out := false, sleeve := 0xFF, instant := instantOf rate n,
      v := crc64 (slots.foldl (fun a s => match s with | some k => a ++ slotBytes k | none => a) []), subs := [],
      fit := comparing c, closedAt := c.time.up } c
  else c

def subStateCode : SubState → Nat
  | .waiting => 0 | .valid => 1 | .expired => 2

/-- Is class EVENT in use by a writer (12 R373)? -/
def eventWriters (c : Channel) : Bool := c.graphs.any (fun g => g.2.cfg.insts.any (fun r => (r.op == 0x0306 || r.op == 0x0307) && r.cls == 5))

/-- At a P1 boundary: the digest of EVENT writers' latest values, and that of the GOOSE subscriptions (12 R373). -/
def p1Digests (t : Nat) (c : Channel) : Channel :=
  let ev := c.seam.items.filter (fun i => i.cls == 5)
  let c1 := { c with seam := { c.seam with items := c.seam.items.filter (fun i => i.cls != 5) } }
  let c2 := if eventWriters c then closeDigest (itemsDigest 5 0xFF t ev c1) c1 else c1
  let sub (x : GSub) : List Byte :=
    match x.hist.find? (fun h => decide (h.tick * 1000 ≤ t - 2000)) with
    | some h => BitVec.ofNat 8 (if h.valid then 1 else 2) :: leBytes 4 h.stNum.toNat
    | none => 0 :: leBytes 4 0
  if c2.pub.subs.isEmpty then c2
  else closeDigest {
    cls := 4, out := false, sleeve := 0xFF, instant := t,
    v := crc64 (c2.pub.subs.foldl (fun a x => a ++ sub x.2) []), subs := [], fit := comparing c2, closedAt := c2.time.up } c2

/-- DIGEST_UNMATCHED: a millisecond after its closing the oldest own digest that waits is counted, not compared (12 R374). -/
def digestUnmatchedC (c : Channel) : Channel :=
  match c.seam.digests with
  | [] => c
  | d :: r => bump 0x2800 0x11 (upTo (d.closedAt + 1000000) { c with seam := { c.seam with digests := r } })
def execDigestUnmatched (ch : Chan) (s : State) : Host.Outcome State Fault Refusal := onChan ch digestUnmatchedC s

end Sys2Proof.Machine
end

