-- ==== Sys2Proof/Machine/Control.lean ====
section
/-! DEFINITION. Sleeves that are ready (02 R78), control granted by role arbitration, and the Cuff's opening (02 R59;
12 R381 to R383). -/
namespace Sys2Proof.Machine

/-- Settling count of a preset at an input rate (04 R125; 02 R72). -/
def settleCount (preset rate : Nat) : Nat :=
  if preset = 1 then (if rate = 96000 then 3 else 0) else if preset = 2 then 6 else if preset = 3 then 10 else 0

/-- Is a subscribed stream present and past its settling count for a sleeve (02 R78)? -/
def streamReady (c : Channel) (n : Nat) (x : Nat × Stream) : Bool :=
  x.2.st == .valid && c.paths.all (fun p => !(p.2.cfg.stream == x.1 && p.2.cfg.owner == n) ||
    decide (settleCount p.2.cfg.preset x.2.cfg.rate ≤ p.2.produced))

/-- Is every instance of a graph warm (02 R73)? -/
def graphWarm (g : GraphRt) : Bool :=
  ((List.range g.cfg.insts.length).zip g.cfg.insts).all (fun x =>
    match kGet g.insts x.1 with | some r => decide (opWarm x.2.op x.2.params ≤ r.warm) | none => true)

/-- Is a sleeve ready (02 R78)? -/
def sleeveReady (c : Channel) (n : Nat) : Bool :=
  c.ingest.streams.all (fun x => !x.2.mask.getLsbD n || streamReady c n x) &&
  (match kGet c.graphs n with | some g => graphWarm g | none => true) &&
  c.pub.subs.all (fun x => x.2.cfg.owner != n || x.2.stNum.isSome) &&
  (match kGet c.lse n with | some l => !l.firstScan | none => true)

/-- Opens the Cuff outside a takeover: the copies kept at the grant go first, in build order (12 R383). -/
def openCuff (c : Channel) : Channel :=
  { c with pub := { c.pub with cuff := true, waiting := c.pub.waiting ++ c.seam.store }, seam := { c.seam with store := [] } }

/-- Enters ACTIVE: the Cuff opens (02 R46, R59). -/
def enterActive (c : Channel) : Channel := openCuff (enterMode .active c)

/-- The newest copy of each GOOSE publication of a store, in build order (12 R383). -/
def newestGoose : List BuiltFrame → List BuiltFrame
  | [] => []
  | x :: r => if x.sv || r.any (fun y => !y.sv && y.num == x.num) then newestGoose r else x :: newestGoose r

/-- Trims the Cuff store when control is gained by role arbitration (12 R383). -/
def trimStore (c : Channel) : Channel :=
  let kept := newestGoose c.seam.store
  bumpN 0x2800 0x1B (c.seam.store.length - kept.length) { c with seam := { c.seam with store := kept } }

/-- Control granted by role arbitration (12 R381, R382): HOLD_CTL asserts and the store is trimmed; in COMMISSION the
lead channel's Cuff opens at once, for test-marked frames (02 R46). A channel that is granted control holds a converged
state of its own. -/
def grantControl (c : Channel) : Channel :=
  let c1 := trimStore { c with seam := { c.seam with holdCtl := true, stage := 0, convAt := 0 }, boot := { c.boot with granted := true } }
  match c1.boot.mode with
  | .commission => openCuff c1
  | .standby =>
    if c1.boot.graphsRun && !c1.boot.windowOpen then enterActive c1 else c1
  | _ => c1

/-- The ready mask of the sleeves as they stand. -/
def readyMaskOf (c : Channel) : U64 :=
  c.sleeves.foldl (fun m x => if sleeveReady c x.1 then m ||| (1#64 <<< x.1) else m) 0

/-- The sleeves' ready bits taken anew, E46 for each that changes; every sleeve ready ends the warm-up window of a
channel that control is granted to (02 R59, R78). -/
def readyUpdate (c : Channel) : Channel :=
  let m := readyMaskOf c
  let changed := (List.range 64).filter (fun n => m.getLsbD n != c.boot.readyMask.getLsbD n)
  let c1 := changed.foldl (fun c n => raise 46 n n (bit16 0 (m.getLsbD n)) c) { c with boot := { c.boot with readyMask := m } }
  if c1.boot.mode == .standby && c1.boot.graphsRun && c1.boot.granted && c1.boot.windowOpen && c1.seam.holdCtl &&
      c1.sleeves.all (fun x => m.getLsbD x.1) then
    enterActive { c1 with boot := { c1.boot with windowOpen := false } }
  else c1

end Sys2Proof.Machine
end

