-- ==== Sys2Proof/Machine/Dispatcher.lean ====
section
/-! DEFINITION. The dispatcher (06): the life of a firing, ready entries, the tick and the delay list, and what
ends a move (08 R269). -/
namespace Sys2Proof.Machine

/-! ### Tokens as a firing takes them -/

def f32Bad (w : U32) : Bool := w &&& 0x7F800000#32 == 0x7F800000#32

/-- An F32 or PHASOR token with a NaN or an infinity counts as invalid with failure set (09 R281). -/
def sanToken (ty : Nat) (t : Token) : Token :=
  if (ty == 4 || ty == 5) && t.pay.any f32Bad then { t with q := withValidity t.q qInvalid ||| qFailure } else t

def qMissingSet (q : U32) : Bool := q &&& qMissing != 0

/-- Is a token's value invalid or MISSING (06 R198; 09 R283)? -/
def tokBad (t : Token) : Bool := qBad t.q || qMissingSet t.q

/-- The tokens of a firing, in port order, with their payload types. -/
def takenTokens (c : Channel) (g : GraphRt) (i : Nat) (r : InstRec) (t : Nat) : List (Bool × Nat × Token) :=
  (firingInputs c g i r t).zip r.ins |>.map (fun x => (x.1.1, x.2.ty, sanToken x.2.ty x.1.2))

/-- An instance back in its initial state and not warm (05 R158). -/
def instInit (r : InstRec) (x : InstRt) : InstRt :=
  { x with st := opInit r.op r.params, lastGood := [], subst := 0, warm := 0, breakPend := false }

/-- smpCnt of an output token: data-driven rates count within the second, others carry 0 (05 R149). -/
def outSmp (cls rate t : Nat) : Nat := if cls ≤ 3 then smpCntOf rate (numberAt rate t) else 0

/-- Writes a firing's tokens, one on every output port (05 R151, R155). -/
def pushOuts (i : Nat) (toks : List Token) (g : GraphRt) : GraphRt :=
  ((List.range toks.length).zip toks).foldl (fun g x => pushTok (ringKey false i x.1) x.2 g) g

/-- The commons accesses of a firing on its tile: the tokens it consumes and selects, then those it writes (07 R217). -/
def firingAccesses (s i : Nat) (r : InstRec) (x : InstRt) (toks : List Token) (g : GraphRt) (c : Channel) : List (Nat × BankOp) :=
  (edgesInto g i).flatMap (fun e =>
    match (if edgeTrigger r e.2 then headOf c g e else selectAt c g e.2 (x.instant - e.2.lagUs * 1000)) with
    | some k => edgeReads c s g e.2 k.1
    | none => []) ++
  ringWrites c s g (((List.range toks.length).zip toks).map (fun k => (ringKey false i k.1, k.2)))

/-- A firing ended: its inputs consumed, its tokens written, the instance waiting again. -/
def endFiring (s i : Nat) (r : InstRec) (x : InstRt) (toks : List Token) (g : GraphRt) (c0 : Channel) : Channel :=
  let c := present rankTile x.tile (firingAccesses s i r x toks g c0) c0
  let g1 := pushOuts i toks (consumeInputs c i r x.instant g)
  let p1 := r.cls = 4 ∧ ((edgesInto g i).filter (fun e => edgeTrigger r e.2)).isEmpty
  let x1 := { x with fs := .waiting, done := x.instant, breakPend := false,
                     nextP1 := if p1 then x.nextP1 + 1000000 else x.nextP1 }
  putGraph s (putInst i x1 g1) c

/-! ### Release -/

/-- The block completion of the dispatcher (06 R198). -/
def blockCompletion (s i : Nat) (r : InstRec) (x : InstRt) (l : List (Bool × Nat × Token)) (g : GraphRt) (c : Channel) : Channel :=
  let brk := x.breakPend || l.any (fun k => k.1 && k.2.2.histBreak)
  let x1 := if brk then instInit r x else x
  let warm := decide (opWarm r.op r.params ≤ x1.warm)
  let det := l.foldl (fun a k => a ||| (k.2.2.q &&& 0x3FFC#32)) 0#32
  let miss := l.any (fun k => qMissingSet k.2.2.q)
  let q := qInvalid ||| det ||| (if miss then qMissing else 0) ||| (if warm then 0 else qOldData)
  let toks := ((List.range r.outs.length).map (fun p =>
    ({ smpCnt := outSmp r.cls (rateOfInst c g i) x.instant, settling := false, histBreak := brk, notWarm := !warm,
       pay := nth r.init p [0], q := q, instant := BitVec.ofNat 64 x.instant } : Token)))
  bump 0x2500 0x16 (endFiring s i r x1 toks g c)

/-- An entry at the instance's level, or HELD (06 R187, R190). -/
def takeEntry (s i : Nat) (r : InstRec) (x : InstRt) (g : GraphRt) (c : Channel) : Channel :=
  let l := levelOf r
  if entryFree c l then noteEntries l (putGraph s (putInst i { x with fs := .ready } g) c)
  else
    let c1 := bump 0x2500 0x13 (putGraph s (putInst i { x with fs := .held } g) c)
    if l ≤ 5 then raiseLimited 38 0xFF l 0 0 c1 else c1

/-- A firing that no fence matches: blocked, it is completed here; else it takes an entry (06 R187, R198). A release ends its wait on the
delay list (R206). -/
def enterFiring (s i : Nat) (r : InstRec) (x : InstRt) (g : GraphRt) (c : Channel) : Channel :=
  let l := takenTokens c g i r x.instant
  if opRule r.op = 0 && l.any (fun k => tokBad k.2.2) then blockCompletion s i r x l g c
  else takeEntry s i r x g c

/-- A firing whose conditions hold is released (06 R187, R197 to R200). -/
def releaseFiring (s i t : Nat) (r : InstRec) (x : InstRt) (g : GraphRt) (c0 : Channel) : Channel :=
  let c := { c0 with disp := { c0.disp with parked := c0.disp.parked.filter (fun k => k != (s, i)) } }
  let x1 := { x with instant := t, release := c.time.up, waited := false }
  match fenceFor c s i t with
  | some f =>
    let c1 := bump 0x2500 0x14 (putGraph s (putInst i { x1 with fs := .fenced, fencedBy := if f.freeze then 1 else 2 } g) c)
    if f.armedAt = c.time.up then bump 0x2500 0x15 c1 else c1
  | none => enterFiring s i r x1 g c

/-- The kind of timed horizon an edge's producer waits on: GOOSE or CAN (false), HOST (true); none for others. An EVENT
instance with nothing pending stands for its trigger source (05 R160). -/
def timedHorizon (c : Channel) (g : GraphRt) : Nat → EdgeRec → Option Bool
  | 0, _ => none
  | fuel + 1, e =>
    if e.src then
      match g.cfg.sources[e.prod]? with
      | some s => if s.kind = 3 ∨ s.kind = 4 then some false else if s.kind = 6 then some true else none
      | none => none
    else
      match g.cfg.insts[e.prod]? with
      | some r =>
        if r.cls = 5 then
          match edgesInto g e.prod with
          | x :: _ => (match headOf c g x with | some _ => none | none => timedHorizon c g fuel x.2)
          | [] => none
        else none
      | none => none

/-- The due tick of a HORIZON entry (06 R205). -/
def horizonDueTick (t : Nat) (host : Bool) (e : EdgeRec) : Nat :=
  let w := t - e.lagUs * 1000
  if host then (w + 999999) / 1000000 * 1000 else ceilUs w + 2

/-- Parks a firing on the delay list, or where it is full leaves it for every tick (06 R205, R206). -/
def park (s i due : Nat) (c : Channel) : Channel :=
  if c.disp.delay.any (fun e => e.kind == .horizon s i) || c.disp.parked.contains (s, i) then c
  else
    let n := (c.disp.delay.filter (fun e => match e.kind with | .horizon _ _ => true | .retx _ => false)).length
    if n < 3840 then
      let l := delayInsert ⟨.horizon s i, due, false⟩ c.disp.delay
      highWater 0x2500 0x1A l.length (setDelay l c)
    else { c with disp := { c.disp with parked := c.disp.parked ++ [(s, i)] } }

/-- A firing whose conditions but the horizon hold waits (05 R159; 06 R187). -/
def horizonWait (s i t : Nat) (x : InstRt) (l : List EdgeRec) (g : GraphRt) (c : Channel) : Channel :=
  let c1 := if x.waited then c else bump 0x2500 0x0E (putGraph s (putInst i { x with waited := true } g) c)
  let timed := l.map (fun e => (timedHorizon c g 17 e).map (fun h => horizonDueTick t h e))
  if timed.all (fun d => d.isSome) then park s i (timed.foldl (fun a d => max a (d.getD 0)) 0) c1 else c1

/-- Discards older heads until the trigger heads agree or one is wanting (05 R156); `fuel` bounds the passes. -/
def alignLoop (c : Channel) (i : Nat) (r : InstRec) : Nat → GraphRt × Nat × Bool → GraphRt × Nat × Bool
  | 0, st => st
  | fuel + 1, st =>
    let hs := ((edgesInto st.1 i).filter (fun e => edgeTrigger r e.2)).map (headOf c st.1)
    if hs.all (fun h => h.isSome) then
      let t := hs.foldl (fun a h => match h with | some k => max a k.2.instant.toNat | none => a) 0
      let a := alignHeads c i r t st.1
      if a.2.1 = 0 then st else alignLoop c i r fuel (a.1, st.2.1 + a.2.1, st.2.2 || a.2.2)
    else st

/-- Has a sleeve's graph started (05 R181; 16 R491)? -/
def graphStarted (c : Channel) (s : Nat) : Bool :=
  c.boot.graphsRun && (match kGet c.sleeves s with | some x => x.st != .starting | none => true)

/-- Evaluates the conditions of R154 for an instance's next firing (06 R186, R187). -/
def evalFiring (s i : Nat) (c : Channel) : Channel :=
  match kGet c.graphs s with
  | none => c
  | some g0 =>
    match instOf g0 i with
    | none => c
    | some (r, x0) =>
      if x0.fs != .waiting || !graphStarted c s then c
      else
        let a := alignLoop c i r 512 (g0, 0, false)
        let g := trimAll a.1
        let x := { x0 with breakPend := x0.breakPend || a.2.2 }
        let c1 := bumpN 0x2500 0x0D a.2.1 (if a.2.1 = 0 then c else putGraph s (putInst i x g) c)
        match firingInstant c1 g i r x with
        | none => c1
        | some t =>
          if !roomOut g i r then c1
          else
            match horizonMisses c1 g i r t with
            | [] => releaseFiring s i t r x g c1
            | l => horizonWait s i t x l g c1

def execFiringRelease (ch : Chan) (s i : Nat) (st : State) : Host.Outcome State Fault Refusal :=
  onChan ch (fun c => readyUpdate (evalFiring s i c)) st

/-! ### Held entries, dispatch and preemption -/

/-- Every instance of the channel in a firing state: sleeve, number, record, run-time part. -/
def instsIn (c : Channel) (p : InstRec → InstRt → Bool) : List (Nat × Nat × InstRec × InstRt) :=
  c.graphs.flatMap (fun g => g.2.insts.filterMap (fun x =>
    match g.2.cfg.insts[x.1]? with
    | some r => if p r x.2 then some (g.1, x.1, r, x.2) else none
    | none => none))

/-- The first of a list by level, then release, then instance number, then sleeve (06 R192, R194). -/
def firstEntry : List (Nat × Nat × InstRec × InstRt) → Option (Nat × Nat × InstRec × InstRt)
  | [] => none
  | a :: rest =>
    match firstEntry rest with
    | none => some a
    | some b =>
      let ka := (levelOf a.2.2.1, a.2.2.2.release, a.2.1, a.1)
      let kb := (levelOf b.2.2.1, b.2.2.2.release, b.2.1, b.1)
      if ka.1 < kb.1 ∨ (ka.1 = kb.1 ∧ (ka.2.1 < kb.2.1 ∨ (ka.2.1 = kb.2.1 ∧ (ka.2.2.1 < kb.2.2.1 ∨ (ka.2.2.1 = kb.2.2.1 ∧ ka.2.2.2 ≤ kb.2.2.2)))))
      then some a else some b

def isHeld (l : Nat) (r : InstRec) (x : InstRt) : Bool := x.fs == .held && levelOf r == l

/-- HELD_ENTRY_GRANTED: an entry of the level's reservation, or a shared one where no lower-numbered level waits, goes to
the firing held longest (06 R187, R192). -/
def heldEntryGrantedC (l : Nat) (c : Channel) : Channel :=
  let own := decide (inUse c l < nth c.disp.resv l 0)
  let shared := decide (sharedUsed c < sharedSize c) && (List.range l).all (fun k => (instsIn c (isHeld k)).isEmpty)
  match firstEntry (instsIn c (isHeld l)) with
  | none => c
  | some (s, i, _, x) =>
    if own || shared then
      match kGet c.graphs s with
      | none => c
      | some g =>
        match fenceFor c s i x.instant with
        | some f => bump 0x2500 0x14 (putGraph s (putInst i { x with fs := .fenced, fencedBy := if f.freeze then 1 else 2 } g) c)
        | none => noteEntries l (putGraph s (putInst i { x with fs := .ready } g) c)
    else c
def execHeldEntryGranted (ch : Chan) (l : Nat) (s : State) : Host.Outcome State Fault Refusal := onChan ch (heldEntryGrantedC l) s

def putTile (n : Nat) (t : Tile) (c : Channel) : Channel := { c with disp := { c.disp with tiles := kPut c.disp.tiles n t } }

/-- Changes an instance's run-time part. -/
def modInst (s i : Nat) (f : InstRt → InstRt) (c : Channel) : Channel :=
  match kGet c.graphs s with
  | none => c
  | some g => match kGet g.insts i with
    | some x => putGraph s (putInst i (f x) g) c
    | none => c

/-- The level of the firing on top of a tile. -/
def topLevel (c : Channel) (t : Tile) : Option (Nat × Nat × Nat) :=
  match t.stack with
  | [] => none
  | (s, i) :: _ =>
    match kGet c.graphs s with
    | some g => (g.cfg.insts[i]?).map (fun r => (levelOf r, s, i))
    | none => none

/-- The tile's first ready entry. -/
def readyOn (c : Channel) (n : Nat) : Option (Nat × Nat × InstRec × InstRt) := firstEntry (instsIn c (fun _ x => x.fs == .ready && x.tile == n))

/-- Is the firing on top of a tile running, and not itself preempted? -/
def topRuns (c : Channel) (s i : Nat) : Bool :=
  match kGet c.graphs s with
  | some g => (match kGet g.insts i with | some x => x.fs == .running | none => false)
  | none => false

/-- FIRING_DISPATCH: the tile's first ready entry runs, preempting a firing of a lower level (06 R194, R195). -/
def firingDispatchC (n : Nat) (c : Channel) : Channel :=
  match kGet c.disp.tiles n, readyOn c n with
  | some t, some (s, i, r, x) =>
    let l := levelOf r
    let go (c1 : Channel) : Channel :=
      highWater 0x2505 (l + 1) (c.time.up - x.release) (bump 0x2504 (l + 1) (bump 0x2500 0x17
        (putTile n { t with stack := (s, i) :: t.stack } (modInst s i (fun y => { y with fs := .running, startAt := c.time.up }) c1))))
    if t.role == .failed then c
    else match topLevel c t with
      | none => go c
      | some (k, s0, i0) =>
        if l < k then go (if topRuns c s0 i0 then bump 0x2500 0x18 (modInst s0 i0 (fun y => { y with fs := .preempted }) c) else c) else c
  | _, _ => c
def execFiringDispatch (ch : Chan) (n : Nat) (s : State) : Host.Outcome State Fault Refusal := onChan ch (firingDispatchC n) s

/-- FIRING_RESUME: no entry of a higher level remains for the tile, so the preempted firing runs on (06 R187). -/
def firingResumeC (n : Nat) (c : Channel) : Channel :=
  match kGet c.disp.tiles n with
  | none => c
  | some t =>
    match topLevel c t with
    | none => c
    | some (k, s, i) =>
      if (instsIn c (fun r x => x.fs == .ready && x.tile == n && decide (levelOf r < k))).isEmpty then
        modInst s i (fun y => if y.fs = .preempted then { y with fs := .running } else y) c
      else c
def execFiringResume (ch : Chan) (n : Nat) (s : State) : Host.Outcome State Fault Refusal := onChan ch (firingResumeC n) s

/-! ### The tick and the delay list -/

/-- Entries processed in the present tick. -/
def tickCount (c : Channel) : Nat := if c.disp.tickNo = tickOf c then c.disp.tickUsed else 0

/-- Takes the first due entry of the delay list off and acts on it, at most 625 in a tick (06 R205, R207). -/
def delayPop (c : Channel) : Option (DelayEntry × Channel) :=
  match c.disp.delay with
  | [] => none
  | e :: r =>
    if e.due ≤ tickOf c ∧ tickCount c < 625 then
      let c0 := setDelay r c
      let c1 := { c0 with disp := { c0.disp with tickNo := tickOf c, tickUsed := tickCount c + 1 } }
      some (e, match e.kind with
        | .retx g => retxStep g e c1
        | .horizon s i => evalFiring s i c1)
    else none

/-- Acts on due entries in order, at most `n`. -/
def delayRun : Nat → Channel → Channel
  | 0, c => c
  | n + 1, c => match delayPop c with | none => c | some r => delayRun n r.2

/-- Acts on due entries in order up to and with the first of a kind. -/
def delayRunTo (k : DelayKind) : Nat → Channel → Channel
  | 0, c => c
  | n + 1, c => match delayPop c with
    | none => c
    | some r => if r.1.kind = k then r.2 else delayRunTo k n r.2

/-- Begins tick `n` where the counter has not passed it. -/
def tickTo (n : Nat) (c : Channel) : Channel :=
  let c1 := advanceTo (n * 1000) c
  { c1 with time := { c1.time with lastTick := max c1.time.lastTick n } }

/-- Entries left over from a tick in which 625 were processed are counted late, each once (06 R207, R215). -/
def markLate (c : Channel) : Channel :=
  let n := (c.disp.delay.filter (fun e => decide (e.due ≤ tickOf c) && !e.late)).length
  if n = 0 ∨ tickCount c < 625 then c
  else raiseLimited 40 0xFF n 0 0 (bumpN 0x2500 0x1B n
    (setDelay (c.disp.delay.map (fun e => if e.due ≤ tickOf c then { e with late := true } else e)) c))

/-- TICK: the next tick begins and up to 625 due entries are processed (06 R204, R207). -/
def tickC (c : Channel) : Channel :=
  if c.boot.graphsRun then markLate (delayRun 625 (tickTo (max (c.time.lastTick + 1) (nowNs c / 1000)) c)) else c
def execTick (ch : Chan) (s : State) : Host.Outcome State Fault Refusal := onChan ch tickC s

/-- A delay-list entry falls due: its tick begins, and the list is processed in order up to it (06 R207). -/
def entryDue (k : DelayKind) (c : Channel) : Channel :=
  match c.disp.delay.find? (fun e => e.kind == k) with
  | none => c
  | some e => markLate (delayRunTo k 625 (tickTo e.due c))

def execRetxDue (ch : Chan) (g : Nat) (s : State) : Host.Outcome State Fault Refusal := onChan ch (entryDue (.retx g)) s
def execHorizonDue (ch : Chan) (n i : Nat) (s : State) : Host.Outcome State Fault Refusal :=
  onChan ch (fun c => readyUpdate (entryDue (.horizon n i) c)) s

/-- DELAY_FULL_RECHECK: one firing whose entry found no room, and which still waits, is evaluated again (06 R206, R215). -/
def delayFullRecheckC (c : Channel) : Channel :=
  match c.disp.parked with
  | [] => c
  | (s, i) :: r =>
    let c1 := { c with disp := { c.disp with parked := r } }
    if (instsIn c (fun _ x => x.fs == .waiting)).any (fun x => x.1 == s && x.2.1 == i) then
      readyUpdate (evalFiring s i (raiseLimited 39 0xFF i 0 0 (bump 0x2500 0x1C c1)))
    else c1
def execDelayFullRecheck (ch : Chan) (s : State) : Host.Outcome State Fault Refusal := onChan ch delayFullRecheckC s

/-! ### GOOSE states into the graph -/

/-- The GOOSE source bindings of a subscription in a graph. -/
def gooseBindings (g : GraphRt) (n : Nat) : List (Nat × SourceRec) :=
  ((List.range g.cfg.sources.length).zip g.cfg.sources).filter (fun x => x.2.kind == 3 && x.2.a == n)

/-- GOOSE_STATE_DELIVER: the waiting state is placed where every source ring has room (10 R326). -/
def gooseStateDeliverC (n : Nat) (c : Channel) : Channel :=
  match kGet c.pub.subs n with
  | none => c
  | some x =>
    match x.waiting with
    | none => c
    | some st =>
      let c1 := putSub n { x with waiting := none } c
      match kGet c.graphs x.cfg.owner with
      | none => c1
      | some g =>
        let bs := gooseBindings g n
        if bs.all (fun b => sourceRoom g b.1) then
          pushSources x.cfg.owner (bs.map (fun b =>
            let v := nth st.vals b.2.b ⟨1, 0⟩
            (ringKey true b.1 0, ⟨0, false, false, false, memberPay v.ty v.v, st.q, st.t⟩))) g c1
        else c

def execGooseStateDeliver (ch : Chan) (n : Nat) (s : State) : Host.Outcome State Fault Refusal := onChan ch (gooseStateDeliverC n) s

/-- GOOSE_MESSAGE_RECEIVED (10 R325, R326; 02 R78): an accepted state is placed at once where there is room. -/
def execGooseMessageReceived (ch : Chan) (n : Nat) (s : State) : Host.Outcome State Fault Refusal :=
  onChan ch (fun c => readyUpdate (gooseStateDeliverC n (gooseMessageReceivedC n c))) s

/-- TAL_EXPIRY (10 R325): the invalid token is placed at once where there is room. -/
def execTalExpiry (ch : Chan) (n : Nat) (s : State) : Host.Outcome State Fault Refusal :=
  onChan ch (fun c => gooseStateDeliverC n (talExpiryC n c)) s

/-! ### Deadlines and tile faults -/

/-- A class's deadline in ns (05 R167). -/
def deadlineNs (cls : Nat) : Nat :=
  if cls = 0 then 10420 else if cls = 1 then 69440 else if cls = 2 then 208300 else if cls = 3 then 416700 else 1000000

/-- A deadline miss is counted, and raised where the instance asks for it (05 R168, R177). -/
def missCount (s : Nat) (r : InstRec) (c : Channel) : Channel :=
  let c1 := setRoFF 0x2500 0x0C s (setRo 0x2500 0x0B r.ident.toNat (bump 0x2500 0x0A c))
  if r.missEvent then raise 37 s r.ident.toNat 0 c1 else c1

/-- Is the channel within the 1 ms in which a tile's bindings move to a spare (08 R272)? -/
def inTileRecovery (c : Channel) : Bool := c.disp.tileFaultAt.any (fun t => decide (c.time.up ≤ t + 1000000))

/-- A fence on one instance is disarmed: a firing it held takes an entry (06 R187). -/
def disarmMove (s i : Nat) (c : Channel) : Channel :=
  let c1 := { c with disp := { c.disp with fences := c.disp.fences.filter (fun f => f.freeze || f.sleeve != s || f.inst != i) } }
  match kGet c1.graphs s with
  | none => c1
  | some g =>
    match instOf g i with
    | none => c1
    | some (r, x) =>
      if x.fs = .fenced ∧ x.fencedBy = 2 then
        match fenceFor c1 s i x.instant with
        | some _ => modInst s i (fun y => { y with fencedBy := 1 }) c1
        | none => enterFiring s i r x g c1
      else c1

/-- Abandons the moves a condition names (08 R269). -/
def abandonMoves (p : Move → Bool) (c : Channel) : Channel :=
  let gone := c.disp.moves.filter p
  gone.foldl (fun c m => disarmMove m.sleeve m.inst (bump 0x2500 0x26 c))
    { c with disp := { c.disp with moves := c.disp.moves.filter (fun m => !p m) } }

/-- The lowest-numbered spare tile. -/
def firstSpare (c : Channel) : Option Nat := (c.disp.tiles.find? (fun t => t.2.role == .spare)).map (fun t => t.1)

def spareCount (c : Channel) : Nat := (c.disp.tiles.filter (fun t => t.2.role == .spare)).length

/-- What the Placer does (08 R274): 3 within 1 ms of a tile fault, else 2 while a move is in flight, else 1 while a sleeve waits for it, else
0. -/
def placerState (c : Channel) : Nat :=
  if inTileRecovery c then 3 else if !c.disp.moves.isEmpty then 2 else if !c.disp.planned.isEmpty || !c.disp.queued.isEmpty then 1 else 0

end Sys2Proof.Machine
end

