-- ==== Sys2Proof/Machine/Fire.lean ====
section
/-! DEFINITION. A firing completes (05 R155 to R158, R167, R168; 09 R281 to R283): one operator of the library runs on
the tokens the firing took, and its results go to its rings or its sink. -/
namespace Sys2Proof.Machine

/-- Zeroes of a port's width: what replaces an invalid value before any valid one (09 R283). -/
def zeroPay (r : InstRec) (p : Nat) : List U32 := List.replicate (nth r.ins p ⟨false, 0, 1⟩).words 0

/-- Last valid values by port, after the tokens of this firing (09 R283). -/
def goodAfter (l : List (Bool × Nat × Token)) (m : KMap (List U32)) : KMap (List U32) :=
  ((List.range l.length).zip l).foldl (fun m k => if tokBad k.2.2.2 then m else kPut m k.1 k.2.2.2.pay) m

/-- The inputs as the operator computes on them, by its rule on invalid input (09 R283). -/
def opInputs (r : InstRec) (x : InstRt) (l : List (Bool × Nat × Token)) : List OpIn :=
  ((List.range l.length).zip l).map (fun k =>
    let t := k.2.2.2
    let bad := tokBad t
    if bad && opRule r.op == 1 then
      { ty := k.2.2.1, pay := (kGet x.lastGood k.1).getD (zeroPay r k.1), repl := true, bad := bad }
    else { ty := k.2.2.1, pay := t.pay, repl := false, bad := bad })

/-- The instance after a firing: state, warm-up count, last valid values, replaced values still in a window. A firing with
any input questionable, invalid or MISSING adds nothing to the count (02 R74). -/
def instAfter (x : InstRt) (l : List (Bool × Nat × Token)) (repl : Bool) (o : OpOut) : InstRt :=
  let good := l.all (fun k => qGood k.2.2.q && !qMissingSet k.2.2.q)
  { x with
    st := o.st, warm := if good then x.warm + 1 else x.warm, lastGood := goodAfter l x.lastGood,
    subst := max (if repl then o.keep else 0) (x.subst - 1) }

/-- The quality of a firing's outputs (05 R158; 02 R73; 09 R283). -/
def outQuality (r : InstRec) (x : InstRt) (l : List (Bool × Nat × Token)) (repl warm : Bool) (o : OpOut) : U32 :=
  let q0 := qJoin (l.map (fun k => k.2.2.q))
  let q1 := if o.quest then raiseQ q0 else q0
  let q2 := if 0 < x.subst ∨ (repl = true ∧ r.op = 0x010C) then q1 ||| qSubstituted else q1
  if warm then q2 else raiseQ (q2 ||| qOldData)

/-- What a TRIP firing drives (09 R305; 10 R311; 12 R373). -/
def sinkTrip (s t : Nat) (r : InstRec) (v : Bool) (q : U32) (c : Channel) : Channel :=
  let n := (nth r.params 0 0).toNat
  let c1 := tripWrite n v q t { c with pub := { c.pub with trips := kPut c.pub.trips n ⟨v, q, BitVec.ofNat 64 t, true⟩ } }
  let c2 := noteItem ⟨r.cls, t, s, 2, n, [wordOf v], q⟩ c1
  c2.pub.gpubs.foldl (fun c x => (tripWrites n v q t x.2 c).foldl (fun c w =>
    noteItem ⟨r.cls, t, s, 0, x.1 * 64 + w.1, [w.2.1], w.2.2.1⟩ c) c) c2

/-- What a PUB firing writes (09 R307; 10 R311, R320; 17 R520; 12 R373). -/
def sinkPub (s t : Nat) (r : InstRec) (pay : List U32) (q : U32) (c : Channel) : Channel :=
  let kind := (nth r.params 0 0).toNat
  let n := (nth r.params 1 0).toNat
  let k := (nth r.params 2 0).toNat
  let v := nth pay 0 0
  if kind = 0 then noteItem ⟨r.cls, t, s, 0, n * 64 + k, [v], q⟩ (pubWrite n t [(k, v, q, t)] c)
  else if kind = 1 then noteItem ⟨r.cls, t, s, 1, n * 64 + k, [v], q⟩ (svWrite n k v q t c)
  else noteItem ⟨r.cls, t, s, 3, (n - 1) * 64 + k, pay, q⟩ (canRequest s n k (some pay) c)

/-- What a CAP firing raises (09 R307; 18 R537). -/
def sinkCap (t : Nat) (r : InstRec) (fire : Bool) (c : Channel) : Channel :=
  if fire then pleatTrigger (nth r.params 0 0).toNat t c else c

/-- The sinks of a firing, by operator. -/
def sinks (s t : Nat) (r : InstRec) (outs : List (List U32)) (q : U32) (c : Channel) : Channel :=
  let w := nth outs 0 []
  if r.op = 0x0306 then sinkTrip s t r (nth w 0 0 != 0) q c
  else if r.op = 0x0307 then sinkPub s t r w q c
  else if r.op = 0x0308 then sinkCap t r (nth w 0 0 != 0) c
  else c

/-- A completion after the deadline (05 R168; 12 R379). -/
def deadlineCheck (s : Nat) (r : InstRec) (x : InstRt) (c : Channel) : Channel :=
  if c.time.up ≤ x.release + deadlineNs r.cls then c
  else
    let c1 := missCount s r c
    match c1.boot.mode with
    | .standby | .active => if inTileRecovery c1 then c1 else channelFault 7 c1
    | _ => c1

/-- A running firing of an instance of operator `op` completes, computing `f`. -/
def completeFiring (op : Nat) (f : OpEnv → OpState → List OpIn → OpOut) (s i : Nat) (c : Channel) : Channel :=
  match kGet c.graphs s with
  | none => c
  | some g =>
    match instOf g i with
    | none => c
    | some (r, x) =>
      if r.op != op || x.fs != .running then c
      else
        let t := x.instant
        let l := takenTokens c g i r t
        let brk := x.breakPend || l.any (fun k => k.1 && k.2.2.histBreak)
        let x0 := if brk then instInit r x else x
        let ins := opInputs r x0 l
        let repl := ins.any (fun k => k.repl)
        let rate := rateOfInst c g i
        let o := f { par := r.params, rate := rate, cls := r.cls, instant := t, inits := r.init } x0.st ins
        let warm := decide (opWarm op r.params ≤ x0.warm)
        let q := outQuality r x0 l repl warm o
        let toks := (List.range r.outs.length).map (fun p =>
          ({ smpCnt := outSmp r.cls rate t, settling := q &&& qSettling != 0, histBreak := brk, notWarm := !warm,
             pay := if warm then nth o.outs p [0] else nth r.init p [0], q := q, instant := BitVec.ofNat 64 t } : Token))
        let c1 := endFiring s i r (instAfter x0 l repl o) toks g c
        let c2 := match kGet c1.disp.tiles x.tile with
          | some tl => putTile x.tile { tl with stack := tl.stack.filter (fun k => k != (s, i)) } c1
          | none => c1
        let c3 := closeOutputs r.cls t (sinks s t r o.outs q c2)
        deadlineCheck s r x (readyUpdate c3)

def onFiring (op : Nat) (f : OpEnv → OpState → List OpIn → OpOut) (ch : Chan) (s i : Nat) (st : State) :
    Host.Outcome State Fault Refusal :=
  onChan ch (completeFiring op f s i) st

/-- PHASOR (09 R287): a firing of the operator completes. -/
def execOpPhasor (ch : Chan) (s i : Nat) (st : State) : Host.Outcome State Fault Refusal := onFiring 0x0101 phasorOp ch s i st
/-- SEQ (09 R286): a firing of the operator completes. -/
def execOpSeq (ch : Chan) (s i : Nat) (st : State) : Host.Outcome State Fault Refusal := onFiring 0x0102 seqOp ch s i st
/-- OCI (09 R688): a firing of the operator completes. -/
def execOpOci (ch : Chan) (s i : Nat) (st : State) : Host.Outcome State Fault Refusal := onFiring 0x0103 ociOp ch s i st
/-- OCT (09 R288): a firing of the operator completes. -/
def execOpOct (ch : Chan) (s i : Nat) (st : State) : Host.Outcome State Fault Refusal := onFiring 0x0104 octOp ch s i st
/-- DIR (09 R289): a firing of the operator completes. -/
def execOpDir (ch : Chan) (s i : Nat) (st : State) : Host.Outcome State Fault Refusal := onFiring 0x0105 dirOp ch s i st
/-- DIFF (09 R290): a firing of the operator completes. -/
def execOpDiff (ch : Chan) (s i : Nat) (st : State) : Host.Outcome State Fault Refusal := onFiring 0x0106 diffOp ch s i st
/-- UVOV (09 R291): a firing of the operator completes. -/
def execOpUvov (ch : Chan) (s i : Nat) (st : State) : Host.Outcome State Fault Refusal := onFiring 0x0107 uvovOp ch s i st
/-- FREQ (09 R292): a firing of the operator completes. -/
def execOpFreq (ch : Chan) (s i : Nat) (st : State) : Host.Outcome State Fault Refusal := onFiring 0x0108 freqOp ch s i st
/-- RPW (09 R293): a firing of the operator completes. -/
def execOpRpw (ch : Chan) (s i : Nat) (st : State) : Host.Outcome State Fault Refusal := onFiring 0x0109 rpwOp ch s i st
/-- SYNC (09 R294): a firing of the operator completes. -/
def execOpSync (ch : Chan) (s i : Nat) (st : State) : Host.Outcome State Fault Refusal := onFiring 0x010A syncOp ch s i st
/-- BF (09 R295): a firing of the operator completes. -/
def execOpBf (ch : Chan) (s i : Nat) (st : State) : Host.Outcome State Fault Refusal := onFiring 0x010B bfOp ch s i st
/-- THERM (09 R296): a firing of the operator completes. -/
def execOpTherm (ch : Chan) (s i : Nat) (st : State) : Host.Outcome State Fault Refusal := onFiring 0x010C thermOp ch s i st
/-- IEF (09 R298, R299): a firing of the operator completes. -/
def execOpIef (ch : Chan) (s i : Nat) (st : State) : Host.Outcome State Fault Refusal := onFiring 0x010D iefOp ch s i st
/-- DCOC (09 R300): a firing of the operator completes. -/
def execOpDcoc (ch : Chan) (s i : Nat) (st : State) : Host.Outcome State Fault Refusal := onFiring 0x0201 dcocOp ch s i st
/-- DCDI (09 R301): a firing of the operator completes. -/
def execOpDcdi (ch : Chan) (s i : Nat) (st : State) : Host.Outcome State Fault Refusal := onFiring 0x0202 dcdiOp ch s i st
/-- DCSI (09 R302): a firing of the operator completes. -/
def execOpDcsi (ch : Chan) (s i : Nat) (st : State) : Host.Outcome State Fault Refusal := onFiring 0x0203 dcsiOp ch s i st
/-- SUM (09 R304): a firing of the operator completes. -/
def execOpSum (ch : Chan) (s i : Nat) (st : State) : Host.Outcome State Fault Refusal := onFiring 0x0301 sumOp ch s i st
/-- SCALE (09 R304): a firing of the operator completes. -/
def execOpScale (ch : Chan) (s i : Nat) (st : State) : Host.Outcome State Fault Refusal := onFiring 0x0302 scaleOp ch s i st
/-- DELAY (09 R304): a firing of the operator completes. -/
def execOpDelay (ch : Chan) (s i : Nat) (st : State) : Host.Outcome State Fault Refusal := onFiring 0x0303 delayOp ch s i st
/-- CMP (09 R304): a firing of the operator completes. -/
def execOpCmp (ch : Chan) (s i : Nat) (st : State) : Host.Outcome State Fault Refusal := onFiring 0x0304 cmpOp ch s i st
/-- HOLD (09 R304): a firing of the operator completes. -/
def execOpHold (ch : Chan) (s i : Nat) (st : State) : Host.Outcome State Fault Refusal := onFiring 0x0305 holdOp ch s i st
/-- TRIP (09 R305): a firing of the operator completes. -/
def execOpTrip (ch : Chan) (s i : Nat) (st : State) : Host.Outcome State Fault Refusal := onFiring 0x0306 tripOp ch s i st
/-- PUB (09 R307): a firing of the operator completes. -/
def execOpPub (ch : Chan) (s i : Nat) (st : State) : Host.Outcome State Fault Refusal := onFiring 0x0307 pubOp ch s i st
/-- CAP (09 R307): a firing of the operator completes. -/
def execOpCap (ch : Chan) (s i : Nat) (st : State) : Host.Outcome State Fault Refusal := onFiring 0x0308 capOp ch s i st

end Sys2Proof.Machine
end

