-- ==== Sys2Proof/Machine/LseExec.lean ====
section
/-! DEFINITION. The instructions of the Logic Scan Engine (11 R346 to R349) on the registers of one scan, with the
forces of R357. -/
namespace Sys2Proof.Machine

/-- The words a variable of a kind covers (11 R347, R348, R363). -/
def varSpan (kind : Nat) : Nat := if kind = 2 ∨ kind = 3 then 3 else 1

/-- Is the variable in word memory? -/
def varIsWord (kind : Nat) : Bool := kind == 1 || kind == 2 || kind == 3

/-- The force that holds a memory address, if one does (11 R357): of bit memory, or of word memory with the place
inside the variable. -/
def forceAt (L : Lse) (word : Bool) (addr : Nat) : Option U32 :=
  L.forces.findSome? (fun f =>
    match L.prog.vars.find? (fun v => v.ident == f.ident) with
    | some v =>
      if varIsWord v.kind == word && decide (v.addr ≤ addr ∧ addr < v.addr + varSpan v.kind) then
        some (if addr = v.addr then f.v0 else if addr = v.addr + 1 then f.v1 else f.v2)
      else none
    | none => none)

/-- A bit as instructions read it. -/
def lseBit (L : Lse) (r : LseRegs) (a : Nat) : Bool :=
  match forceAt L false a with
  | some v => v != 0
  | none => zGet r.bits a != 0

/-- A store to a bit; a forced one ignores it. -/
def lseSetBit (L : Lse) (a : Nat) (v : Bool) (r : LseRegs) : LseRegs :=
  match forceAt L false a with
  | some _ => r
  | none => { r with bits := zPut r.bits a (if v then 1 else 0) }

/-- A word as instructions read it. -/
def lseWord (L : Lse) (r : LseRegs) (a : Nat) : U32 :=
  match forceAt L true a with
  | some v => v
  | none => zGet r.words a

/-- A store to a word; a forced one ignores it. -/
def lseSetWord (L : Lse) (a : Nat) (v : U32) (r : LseRegs) : LseRegs :=
  match forceAt L true a with
  | some _ => r
  | none => { r with words := zPut r.words a v }

/-- Saturation to I32 (11 R346). -/
def satI32 (x : Int) : U32 := BitVec.ofInt 32 (clampInt (-2147483648) 2147483647 x)

/-- To the next instruction. -/
def lseNext (r : LseRegs) : LseRegs := { r with ip := r.ip + 1 }

/-- Sets B and goes on. -/
def lseB (v : Bool) (r : LseRegs) : LseRegs := lseNext { r with b := v }

/-- Sets W and goes on. -/
def lseW (v : U32) (r : LseRegs) : LseRegs := lseNext { r with w := v }

def insNop (_ : Lse) (_ : Nat) (r : LseRegs) : LseRegs := lseNext r
def insLd (L : Lse) (a : Nat) (r : LseRegs) : LseRegs := lseB (lseBit L r a) r
def insLdn (L : Lse) (a : Nat) (r : LseRegs) : LseRegs := lseB (!lseBit L r a) r
def insAnd (L : Lse) (a : Nat) (r : LseRegs) : LseRegs := lseB (r.b && lseBit L r a) r
def insAndn (L : Lse) (a : Nat) (r : LseRegs) : LseRegs := lseB (r.b && !lseBit L r a) r
def insOr (L : Lse) (a : Nat) (r : LseRegs) : LseRegs := lseB (r.b || lseBit L r a) r
def insOrn (L : Lse) (a : Nat) (r : LseRegs) : LseRegs := lseB (r.b || !lseBit L r a) r
def insXor (L : Lse) (a : Nat) (r : LseRegs) : LseRegs := lseB (r.b != lseBit L r a) r
def insNot (_ : Lse) (_ : Nat) (r : LseRegs) : LseRegs := lseB (!r.b) r
def insSt (L : Lse) (a : Nat) (r : LseRegs) : LseRegs := lseNext (lseSetBit L a r.b r)
def insStn (L : Lse) (a : Nat) (r : LseRegs) : LseRegs := lseNext (lseSetBit L a (!r.b) r)
def insSet (L : Lse) (a : Nat) (r : LseRegs) : LseRegs := lseNext (if r.b then lseSetBit L a true r else r)
def insRst (L : Lse) (a : Nat) (r : LseRegs) : LseRegs := lseNext (if r.b then lseSetBit L a false r else r)

/-- The edge bit as RE or FE finds it: equal to B at its first evaluation (11 R349). -/
def edgeMem (L : Lse) (a : Nat) (r : LseRegs) : Bool := if r.edgeSeen.contains a then lseBit L r a else r.b

/-- The edge bit takes B, and has been evaluated. -/
def edgeTake (L : Lse) (a : Nat) (r : LseRegs) : LseRegs :=
  let r1 := lseSetBit L a r.b r
  { r1 with edgeSeen := if r.edgeSeen.contains a then r.edgeSeen else a :: r.edgeSeen }

def insRe (L : Lse) (a : Nat) (r : LseRegs) : LseRegs := lseB (r.b && !edgeMem L a r) (edgeTake L a r)
def insFe (L : Lse) (a : Nat) (r : LseRegs) : LseRegs := lseB (!r.b && edgeMem L a r) (edgeTake L a r)
def insApush (_ : Lse) (_ : Nat) (r : LseRegs) : LseRegs := lseB true { r with stack := (r.b, true) :: r.stack }
def insOpush (_ : Lse) (_ : Nat) (r : LseRegs) : LseRegs := lseB false { r with stack := (r.b, false) :: r.stack }
def insPop (_ : Lse) (_ : Nat) (r : LseRegs) : LseRegs :=
  match r.stack with
  | [] => lseNext r
  | (s, isAnd) :: rest => lseB (if isAnd then s && r.b else s || r.b) { r with stack := rest }
def insLdw (L : Lse) (a : Nat) (r : LseRegs) : LseRegs := lseW (lseWord L r a) r
def insLdi (_ : Lse) (a : Nat) (r : LseRegs) : LseRegs := lseW ((BitVec.ofNat 24 a).signExtend 32) r
def insStw (L : Lse) (a : Nat) (r : LseRegs) : LseRegs := lseNext (lseSetWord L a r.w r)
def insAddw (L : Lse) (a : Nat) (r : LseRegs) : LseRegs := lseW (satI32 (r.w.toInt + (lseWord L r a).toInt)) r
def insSubw (L : Lse) (a : Nat) (r : LseRegs) : LseRegs := lseW (satI32 (r.w.toInt - (lseWord L r a).toInt)) r
def insMulw (L : Lse) (a : Nat) (r : LseRegs) : LseRegs := lseW (satI32 (r.w.toInt * (lseWord L r a).toInt)) r
def insCeq (L : Lse) (a : Nat) (r : LseRegs) : LseRegs := lseB (r.w == lseWord L r a) r
def insCgt (L : Lse) (a : Nat) (r : LseRegs) : LseRegs := lseB (decide ((lseWord L r a).toInt < r.w.toInt)) r
def insClt (L : Lse) (a : Nat) (r : LseRegs) : LseRegs := lseB (decide (r.w.toInt < (lseWord L r a).toInt)) r
def insMovc (L : Lse) (a : Nat) (r : LseRegs) : LseRegs := lseNext (if r.b then lseSetWord L a r.w r else r)

/-- Δ of a block in µs: since the cycle of its last execution; 0 at the first (11 R347). -/
def blockDelta (a : Nat) (r : LseRegs) : Int :=
  match kGet r.lastExec a with
  | some t => ((r.s - t) / 1000 : Nat)
  | none => 0

/-- IN of the block's previous execution: bit [1] of its status word (11 R347). -/
def blockIn (L : Lse) (a : Nat) (r : LseRegs) : Bool := (lseWord L r (a + 2)).getLsbD 1

/-- Q of the block's previous execution: bit [0] of its status word. -/
def blockQ (L : Lse) (a : Nat) (r : LseRegs) : Bool := (lseWord L r (a + 2)).getLsbD 0

/-- Writes a block's second and status words and gives B = Q (11 R347, R348): of a forced block, the Q of its forced status word (R357). -/
def blockDone (L : Lse) (a : Nat) (v : Int) (q : Bool) (r : LseRegs) : LseRegs :=
  let st : U32 := (if q then 1 else 0) ||| (if r.b then 2 else 0)
  let r1 := lseSetWord L (a + 2) st (lseSetWord L (a + 1) (BitVec.ofInt 32 v) r)
  lseB ((lseWord L r1 (a + 2)).getLsbD 0) { r1 with lastExec := kPut r1.lastExec a r.s }

/-- ET run on by Δ up to PT. -/
def etRun (L : Lse) (a : Nat) (r : LseRegs) : Int :=
  min (lseWord L r a).toInt ((lseWord L r (a + 1)).toInt + blockDelta a r)

def insTon (L : Lse) (a : Nat) (r : LseRegs) : LseRegs :=
  let et : Int := match blockIn L a r, r.b with
    | false, true => 0
    | true, true => etRun L a r
    | true, false => 0
    | false, false => (lseWord L r (a + 1)).toInt
  blockDone L a et (r.b && decide ((lseWord L r a).toInt ≤ et)) r

/-- TOF: Q after IN has been 1 is kept by Q itself, which only IN = 1 can first set (11 R347). -/
def insTof (L : Lse) (a : Nat) (r : LseRegs) : LseRegs :=
  let et : Int := match blockIn L a r, r.b with
    | false, false => etRun L a r
    | _, _ => 0
  let was := blockIn L a r || blockQ L a r
  blockDone L a et (r.b || (was && decide (et < (lseWord L r a).toInt))) r

/-- B has changed from 0 to 1 since the block's previous execution; at the first there is none (11 R347, R348; 02 R77). -/
def blockRise (L : Lse) (a : Nat) (r : LseRegs) : Bool :=
  kHas r.lastExec a && r.b && !blockIn L a r

def insTp (L : Lse) (a : Nat) (r : LseRegs) : LseRegs :=
  let timing := blockQ L a r
  let start := !timing && blockRise L a r
  let et : Int := if start then 0 else if timing then etRun L a r else (lseWord L r (a + 1)).toInt
  blockDone L a et ((timing || start) && decide (et < (lseWord L r a).toInt)) r

def insCtu (L : Lse) (a : Nat) (r : LseRegs) : LseRegs :=
  let cv := (lseWord L r (a + 1)).toInt
  let cv' := if blockRise L a r then clampInt (-2147483648) 2147483647 (cv + 1) else cv
  blockDone L a cv' (decide ((lseWord L r a).toInt ≤ cv')) r

def insCtd (L : Lse) (a : Nat) (r : LseRegs) : LseRegs :=
  let cv := (lseWord L r (a + 1)).toInt
  let cv' := if blockRise L a r then clampInt (-2147483648) 2147483647 (cv - 1) else cv
  blockDone L a cv' (decide (cv' ≤ 0)) r

def insCrst (L : Lse) (a : Nat) (r : LseRegs) : LseRegs := lseNext (if r.b then lseSetWord L (a + 1) 0 r else r)
def insCldp (L : Lse) (a : Nat) (r : LseRegs) : LseRegs :=
  lseNext (if r.b then lseSetWord L (a + 1) (lseWord L r a) r else r)
def insJmp (_ : Lse) (a : Nat) (r : LseRegs) : LseRegs := { r with ip := a }
def insJc (_ : Lse) (a : Nat) (r : LseRegs) : LseRegs := if r.b then { r with ip := a } else lseNext r
def insJcn (_ : Lse) (a : Nat) (r : LseRegs) : LseRegs := if r.b then lseNext r else { r with ip := a }
def insEnd (_ : Lse) (_ : Nat) (r : LseRegs) : LseRegs := { r with ended := true, scanning := false }

/-- Validity bits of the entry's latched quality; an entry never latched is invalid. -/
def entryValidity (L : Lse) (a : Nat) : Nat := match kGet L.latched a with | some p => p.2.toNat % 4 | none => 1
def insQv (L : Lse) (a : Nat) (r : LseRegs) : LseRegs :=
  lseB (r.b && (entryValidity L a != 1 && entryValidity L a != 2)) r
def insQg (L : Lse) (a : Nat) (r : LseRegs) : LseRegs := lseB (r.b && entryValidity L a == 0) r

/-- Does program `a` of sleeve `i` run ahead of program `b` of sleeve `j` (11 R336)? -/
def runsAhead (i : Nat) (a : Lse) (j : Nat) (b : Lse) : Bool :=
  decide (a.prog.tcUs < b.prog.tcUs) || (a.prog.tcUs == b.prog.tcUs && decide (i < j))

/-- Is the sleeve's scan the highest-priority incomplete one (11 R336)? -/
def scanFirst (c : Channel) (n : Nat) (L : Lse) : Bool :=
  L.r.scanning && c.lse.all (fun x => !x.2.r.scanning || x.1 == n || runsAhead n L x.1 x.2)

/-- The engine executes an instruction of a scan: the one the program holds at the instruction index, of the
highest-priority incomplete scan (11 R334, R336, R346). Any other word is not what the engine fetches, and nothing
happens. -/
def lseStep (op : Nat) (ins : Lse → Nat → LseRegs → LseRegs) (sleeve opnd : Nat) (c : Channel) : Channel :=
  match kGet c.lse sleeve with
  | none => c
  | some L =>
    if scanFirst c sleeve L && nth L.prog.code L.r.ip 0 == BitVec.ofNat 32 (op * 16777216 + opnd) then
      { c with lse := kPut c.lse sleeve { L with r := ins L opnd L.r } }
    else c

/-- A command that executes one instruction on a channel. -/
def onLse (ch : Chan) (op : Nat) (ins : Lse → Nat → LseRegs → LseRegs) (n a : Nat) (s : State) : Host.Outcome State Fault Refusal :=
  onChan ch (lseStep op ins n a) s

def execLseNop (ch : Chan) (n a : Nat) (s : State) : Host.Outcome State Fault Refusal := onLse ch 0x00 insNop n a s
def execLseLd (ch : Chan) (n a : Nat) (s : State) : Host.Outcome State Fault Refusal := onLse ch 0x01 insLd n a s
def execLseLdn (ch : Chan) (n a : Nat) (s : State) : Host.Outcome State Fault Refusal := onLse ch 0x02 insLdn n a s
def execLseAnd (ch : Chan) (n a : Nat) (s : State) : Host.Outcome State Fault Refusal := onLse ch 0x03 insAnd n a s
def execLseAndn (ch : Chan) (n a : Nat) (s : State) : Host.Outcome State Fault Refusal := onLse ch 0x04 insAndn n a s
def execLseOr (ch : Chan) (n a : Nat) (s : State) : Host.Outcome State Fault Refusal := onLse ch 0x05 insOr n a s
def execLseOrn (ch : Chan) (n a : Nat) (s : State) : Host.Outcome State Fault Refusal := onLse ch 0x06 insOrn n a s
def execLseXor (ch : Chan) (n a : Nat) (s : State) : Host.Outcome State Fault Refusal := onLse ch 0x07 insXor n a s
def execLseNot (ch : Chan) (n a : Nat) (s : State) : Host.Outcome State Fault Refusal := onLse ch 0x08 insNot n a s
def execLseSt (ch : Chan) (n a : Nat) (s : State) : Host.Outcome State Fault Refusal := onLse ch 0x09 insSt n a s
def execLseStn (ch : Chan) (n a : Nat) (s : State) : Host.Outcome State Fault Refusal := onLse ch 0x0A insStn n a s
def execLseSet (ch : Chan) (n a : Nat) (s : State) : Host.Outcome State Fault Refusal := onLse ch 0x0B insSet n a s
def execLseRst (ch : Chan) (n a : Nat) (s : State) : Host.Outcome State Fault Refusal := onLse ch 0x0C insRst n a s
def execLseRe (ch : Chan) (n a : Nat) (s : State) : Host.Outcome State Fault Refusal := onLse ch 0x0D insRe n a s
def execLseFe (ch : Chan) (n a : Nat) (s : State) : Host.Outcome State Fault Refusal := onLse ch 0x0E insFe n a s
def execLseApush (ch : Chan) (n a : Nat) (s : State) : Host.Outcome State Fault Refusal := onLse ch 0x10 insApush n a s
def execLseOpush (ch : Chan) (n a : Nat) (s : State) : Host.Outcome State Fault Refusal := onLse ch 0x11 insOpush n a s
def execLsePop (ch : Chan) (n a : Nat) (s : State) : Host.Outcome State Fault Refusal := onLse ch 0x12 insPop n a s
def execLseLdw (ch : Chan) (n a : Nat) (s : State) : Host.Outcome State Fault Refusal := onLse ch 0x20 insLdw n a s
def execLseLdi (ch : Chan) (n a : Nat) (s : State) : Host.Outcome State Fault Refusal := onLse ch 0x21 insLdi n a s
def execLseStw (ch : Chan) (n a : Nat) (s : State) : Host.Outcome State Fault Refusal := onLse ch 0x22 insStw n a s
def execLseAddw (ch : Chan) (n a : Nat) (s : State) : Host.Outcome State Fault Refusal := onLse ch 0x23 insAddw n a s
def execLseSubw (ch : Chan) (n a : Nat) (s : State) : Host.Outcome State Fault Refusal := onLse ch 0x24 insSubw n a s
def execLseMulw (ch : Chan) (n a : Nat) (s : State) : Host.Outcome State Fault Refusal := onLse ch 0x25 insMulw n a s
def execLseCeq (ch : Chan) (n a : Nat) (s : State) : Host.Outcome State Fault Refusal := onLse ch 0x26 insCeq n a s
def execLseCgt (ch : Chan) (n a : Nat) (s : State) : Host.Outcome State Fault Refusal := onLse ch 0x27 insCgt n a s
def execLseClt (ch : Chan) (n a : Nat) (s : State) : Host.Outcome State Fault Refusal := onLse ch 0x28 insClt n a s
def execLseMovc (ch : Chan) (n a : Nat) (s : State) : Host.Outcome State Fault Refusal := onLse ch 0x29 insMovc n a s
def execLseTon (ch : Chan) (n a : Nat) (s : State) : Host.Outcome State Fault Refusal := onLse ch 0x30 insTon n a s
def execLseTof (ch : Chan) (n a : Nat) (s : State) : Host.Outcome State Fault Refusal := onLse ch 0x31 insTof n a s
def execLseTp (ch : Chan) (n a : Nat) (s : State) : Host.Outcome State Fault Refusal := onLse ch 0x32 insTp n a s
def execLseCtu (ch : Chan) (n a : Nat) (s : State) : Host.Outcome State Fault Refusal := onLse ch 0x34 insCtu n a s
def execLseCtd (ch : Chan) (n a : Nat) (s : State) : Host.Outcome State Fault Refusal := onLse ch 0x35 insCtd n a s
def execLseCrst (ch : Chan) (n a : Nat) (s : State) : Host.Outcome State Fault Refusal := onLse ch 0x36 insCrst n a s
def execLseCldp (ch : Chan) (n a : Nat) (s : State) : Host.Outcome State Fault Refusal := onLse ch 0x37 insCldp n a s
def execLseJmp (ch : Chan) (n a : Nat) (s : State) : Host.Outcome State Fault Refusal := onLse ch 0x40 insJmp n a s
def execLseJc (ch : Chan) (n a : Nat) (s : State) : Host.Outcome State Fault Refusal := onLse ch 0x41 insJc n a s
def execLseJcn (ch : Chan) (n a : Nat) (s : State) : Host.Outcome State Fault Refusal := onLse ch 0x42 insJcn n a s
def execLseQv (ch : Chan) (n a : Nat) (s : State) : Host.Outcome State Fault Refusal := onLse ch 0x51 insQv n a s
def execLseQg (ch : Chan) (n a : Nat) (s : State) : Host.Outcome State Fault Refusal := onLse ch 0x52 insQg n a s

end Sys2Proof.Machine
end

