-- ==== Sys2Proof/Machine/Scheme.lean ====
section
/-! DEFINITION. The cycle of the Logic Scan Engine (11): latch, write, overruns, retain, forces, on-line change. -/
namespace Sys2Proof.Machine

def putLse (n : Nat) (L : Lse) (c : Channel) : Channel := { c with lse := kPut c.lse n L }

/-- Cycle time in ns. -/
def tcNs (L : Lse) : Nat := L.prog.tcUs * 1000

/-- The first cycle boundary of a program at or after an instant (11 R333). -/
def cycleCeil (L : Lse) (t : Nat) : Nat := (t + tcNs L - 1) / max (tcNs L) 1 * tcNs L

/-! ### Retain (11 R350 to R353) -/

/-- The values of the retentive variables: identity, word index, value. -/
def retainSnap (L : Lse) (r : LseRegs) : List (U32 × Nat × U32) :=
  (L.prog.vars.filter (fun v => v.retentive)).flatMap (fun v =>
    if varIsWord v.kind then (List.range (varSpan v.kind)).map (fun i => (v.ident, i, zGet r.words (v.addr + i)))
    else [(v.ident, 0, (zGet r.bits v.addr).setWidth 32)])

/-- The 12-byte records of a copy (11 R351). -/
def retainBytes (recs : List (U32 × Nat × U32)) : List Byte :=
  recs.foldl (fun a x => a ++ leBytes 4 x.1.toNat ++ leBytes 2 x.2.1 ++ [0, 0] ++ leBytes 4 x.2.2.toNat) []

/-- A copy as a flush writes it, and as it stands in MRAM from its offset on. -/
def copyOfRecs (seq : U32) (recs : List (U32 × Nat × U32)) : RetainCopy :=
  { magic := 0x52544E31, seq := seq, count := BitVec.ofNat 32 recs.length, crc := crc32 (retainBytes recs), recs := recs }
def copyBytes (k : RetainCopy) : List Byte :=
  leBytes 4 k.magic.toNat ++ leBytes 4 k.seq.toNat ++ leBytes 4 k.count.toNat ++ leBytes 4 k.crc.toNat ++ retainBytes k.recs

/-- A copy never written, and one whose read fails its CRC (01 R41). -/
def copyBlank : RetainCopy := ⟨0, 0, 0, 0, []⟩
def spoilCopy (k : RetainCopy) : RetainCopy := { k with crc := ~~~(crc32 (retainBytes k.recs)) }
def retainNone : RetainNv := ⟨copyBlank, copyBlank⟩

/-- Is a copy valid: do its magic and CRC-32 hold (11 R351)? -/
def copyValid (k : RetainCopy) : Bool :=
  k.magic == 0x52544E31#32 && k.count.toNat == k.recs.length && k.crc == crc32 (retainBytes k.recs)

/-- The valid copy with the higher sequence (11 R353). -/
def retainCopy (m : RetainNv) : Option RetainCopy :=
  if copyValid m.a && copyValid m.b then some (if m.a.seq.toNat < m.b.seq.toNat then m.b else m.a)
  else if copyValid m.a then some m.a
  else if copyValid m.b then some m.b
  else none

/-- The copy a flush writes (11 R351). -/
def retainWrite (recs : List (U32 × Nat × U32)) (m : RetainNv) : RetainNv :=
  if copyValid m.a && copyValid m.b then
    (if m.b.seq.toNat < m.a.seq.toNat then { m with b := copyOfRecs (m.a.seq + 1) recs } else { m with a := copyOfRecs (m.b.seq + 1) recs })
  else if copyValid m.a then { m with b := copyOfRecs (m.a.seq + 1) recs }
  else if copyValid m.b then { m with a := copyOfRecs (m.b.seq + 1) recs }
  else { m with a := copyOfRecs 1 recs }

/-- The writes of a flush, with its digest to the twin (11 R351, R352; 12 R371). -/
def retainCommit (n : Nat) (L : Lse) (c : Channel) : Channel :=
  let c1 := bump 0x2700 0x0B (putLse n { L with flushDue := false }
    { c with retain := kPut c.retain n (retainWrite L.snap ((kGet c.retain n).getD retainNone)) })
  closeRetain n L.r.s (crc64 (retainBytes L.snap)) c1

/-- A flush under the hold-up check (11 R352; 23 R665). -/
def retainFlush (n : Nat) (L : Lse) (c0 : Channel) : Channel :=
  match commitCheck 1 n (energyRetain L.snap.length) c0 with
  | (true, c) => retainCommit n L c
  | (false, c) => bump 0x2700 0x0C (putLse n { L with flushDue := true } c)

/-- Has a retentive value changed since the last flush (11 R352)? -/
def retainChanged (n : Nat) (L : Lse) (c : Channel) : Bool :=
  match retainCopy ((kGet c.retain n).getD retainNone) with
  | some k => k.recs != L.snap
  | none => !L.snap.isEmpty

/-- Flushes every sleeve, as a mode request to HOLD or RESTART does (11 R352). -/
def retainFlushEvery (c : Channel) : Channel :=
  c.lse.foldl (fun c x => match kGet c.lse x.1 with
    | some L => retainFlush x.1 L c
    | none => c) c

/-- Flushes every sleeve with changed values, in ascending number (11 R352). -/
def retainFlushAll (c : Channel) : Channel :=
  c.lse.foldl (fun c x => match kGet c.lse x.1 with
    | some L => if retainChanged x.1 L c then retainFlush x.1 L c else c
    | none => c) c

/-- RETAIN_INTERVAL: the interval in effect has passed since it began (11 R352); suspended while PWARN is asserted. -/
def retainIntervalC (n : Nat) (c0 : Channel) : Channel :=
  match kGet c0.lse n with
  | some L0 =>
    if c0.psu.pwarn || !c0.boot.graphsRun || L0.st == .stopped then c0
    else
      let c := upTo (L0.retainAt + L0.retainMs * 1000000) c0
      let L := { L0 with retainAt := c.time.up }
      if retainChanged n L c then retainFlush n L c else putLse n L c
  | none => c0
def execRetainInterval (ch : Chan) (n : Nat) (s : State) : Host.Outcome State Fault Refusal := onChan ch (retainIntervalC n) s

/-- RETAIN_FLUSH_RETRY: a refused flush, at a boundary at which the check passes (11 R352). -/
def retainFlushRetryC (n : Nat) (c : Channel) : Channel :=
  match kGet c.lse n with
  | some L =>
    if L.flushDue && holdupOk c.psu c.epUJ (energyRetain L.snap.length) then
      retainCommit n L { bump 0x2100 0x0F c with epUJ := c.epUJ + energyRetain L.snap.length }
    else c
  | none => c
def execRetainFlushRetry (ch : Chan) (n : Nat) (s : State) : Host.Outcome State Fault Refusal := onChan ch (retainFlushRetryC n) s

/-! ### First scan (02 R77; 11 R353) -/

/-- A variable's initial value (11 R363): a block's first word is its preset; the rest of a block starts at zero. -/
def initVar (r : LseRegs) (v : LseVar) : LseRegs :=
  if v.kind = 0 ∨ v.kind = 4 then { r with bits := zPut r.bits v.addr (v.init.setWidth 1) }
  else if v.kind = 1 then { r with words := zPut r.words v.addr v.init }
  else { r with words := zPut (zPut (zPut r.words v.addr v.init) (v.addr + 1) 0) (v.addr + 2) 0 }

def lseRegsReset : LseRegs :=
  { b := false, w := 0, stack := [], ip := 0, scanning := false, ended := false, bits := [], words := [], lastExec := [], edgeSeen := [], s := 0 }

/-- Applies a retain record of a copy to the retentive variable of its identity (11 R353). A record does not name its kind: a block has three
in the copy, a bit or a word one, and the variable must take as many (log entry 50). -/
def applyRec (p : LseProg) (all : List (U32 × Nat × U32)) (r : LseRegs) (x : U32 × Nat × U32) : LseRegs :=
  match p.vars.find? (fun v => v.ident == x.1 && v.retentive) with
  | some v =>
    if (all.filter (fun y => y.1 == x.1)).length ≠ varSpan v.kind then r
    else if varIsWord v.kind then (if x.2.1 < varSpan v.kind then { r with words := zPut r.words (v.addr + x.2.1) x.2.2 } else r)
    else if x.2.1 = 0 then { r with bits := zPut r.bits v.addr (x.2.2.setWidth 1) } else r
  | none => r

/-- The registers before a first scan: initial values, then the retentive ones from the copy in force. -/
def firstRegs (p : LseProg) (m : RetainNv) : LseRegs :=
  let r0 := p.vars.foldl initVar lseRegsReset
  match retainCopy m with
  | some k => k.recs.foldl (applyRec p k.recs) r0
  | none => r0

/-- Makes a sleeve's program ready for its first scan (11 R353; 16 R499): rejected copies are counted, and with none valid the
retain-lost event is raised. -/
def lseFirst (n : Nat) (L : Lse) (c : Channel) : Channel :=
  match L.seed with
  | some r => putLse n { L with r := r, seed := none, snap := retainSnap L r, overruns := 0, passed := 0, late := false, firstScan := true, retainAt := c.time.up } c
  | none =>
  let m := (kGet c.retain n).getD retainNone
  let bad := (if copyValid m.a then 0 else 1) + (if copyValid m.b then 0 else 1)
  let r := firstRegs L.prog m
  let c1 := bumpN 0x2700 0x0D bad (putLse n { L with r := r, snap := retainSnap L r, overruns := 0, passed := 0, late := false, firstScan := true, retainAt := c.time.up } c)
  if !copyValid m.a && !copyValid m.b then raiseLimited 44 n n 0 n c1 else c1

/-! ### The input image (11 R339 to R341) -/

/-- The words of a producer's initial state, latched where no token is written (11 R340). -/
def latchPort (e : LseIn) (t : Nat) (k : Nat) (g : GraphRt) : (U32 × U32) × GraphRt :=
  match ((List.range g.cfg.insts.length).zip g.cfg.insts).find? (fun x => x.2.ident.toNat == e.refA) with
  | none => ((0, qInvalid), g)
  | some (i, r) =>
    let key := ringKey false i e.refB
    let ring := ringOf g key
    match ((numbered ring.base ring.toks).filter (fun x => decide (x.2.instant.toNat ≤ t - e.lagUs * 1000))).getLast? with
    | some x => ((nth x.2.pay 0 0, x.2.q), { g with lsePos := kPut g.lsePos k (key, x.1) })
    | none => ((nth (nth r.init e.refB [0]) 0 0, qInvalid), g)

/-- A subscription's state as selected at `t` − 2 µs. -/
def subAt (x : GSub) (t : Nat) : Option GState := x.hist.find? (fun h => decide (h.tick * 1000 ≤ t - 2000))

/-- The value an input entry of kinds 1 to 4 latches at `t`. -/
def latchOther (c : Channel) (e : LseIn) (t : Nat) : U32 × U32 :=
  if e.kind = 1 ∨ e.kind = 2 then
    match kGet c.pub.subs e.refA with
    | none => (0, qInvalid)
    | some x =>
      if e.kind = 2 then (match subAt x t with | some h => (if h.valid then 1 else 2, 0) | none => (0, 0))
      else match subAt x t with
        | some h => ((nth h.vals e.refB ⟨1, 0⟩).v.setWidth 32, h.q)
        | none => ((nth x.cfg.members e.refB (1, 0)).2, qInvalid)
  else if e.kind = 3 then
    match kGet c.can e.refA with
    | none => (0, 0)
    | some p => match kGet p.bufs e.refB with
      | some b => (match b.hist.find? (fun h => decide (h.1 ≤ t - 2000)) with | some h => (natWord h.2, 0) | none => (0, 0))
      | none => (0, 0)
  else (nth (hostWords c e.refA (entryBytes c (e.refA / 256) (e.refA % 256) [])) 0 0, 0)

/-- Stores a latched value into its variable; a forced one is overridden (11 R357). -/
def latchStore (L : Lse) (e : LseIn) (v : U32) (r : LseRegs) : LseRegs :=
  match L.prog.vars.find? (fun x => x.ident == e.ident) with
  | some x => if varIsWord x.kind then lseSetWord L x.addr v r else lseSetBit L x.addr (v != 0) r
  | none => r

/-- Latches one entry. -/
def latchEntry (n t : Nat) (st : Lse × Channel) (x : Nat × LseIn) : Lse × Channel :=
  let L := st.1
  let c := st.2
  let put (v : U32 × U32) : Lse := { L with latched := kPut L.latched x.1 v, r := latchStore L x.2 v.1 L.r }
  if x.2.kind = 0 then
    match kGet c.graphs n with
    | some g =>
      let p := latchPort x.2 t x.1 g
      (put p.1, putGraph n (trimAll p.2) c)
    | none => (put (0, qInvalid), c)
  else (put (latchOther c x.2 t), c)

/-- The latch at `t`, and the scan begins at instruction 0 (11 R334, R335). The spec does not give the accumulators at
scan start (log entry 18). The scan-start jitter is a figure below its bound (R338; log entry 43). -/
def lseLatch (n t : Nat) (L : Lse) (c0 : Channel) : Channel :=
  let d := draw (figure 0x2700 6 11000 c0)
  let r0 := { L.r with s := t, ip := 0, scanning := true, ended := false, stack := [], b := d.1.getLsbD 32, w := d.1.setWidth 32 }
  let x := ((List.range L.prog.ins.length).zip L.prog.ins).foldl (latchEntry n t) ({ L with r := r0, nextB := t + tcNs L }, d.2)
  putLse n x.1 x.2

/-! ### The output image (11 R343 to R345, R355) -/

/-- The value of a variable by identity, as an output entry reads it. -/
def varValue (L : Lse) (ident : U32) : U32 :=
  match L.prog.vars.find? (fun v => v.ident == ident) with
  | some v => if varIsWord v.kind then lseWord L L.r v.addr else (if lseBit L L.r v.addr then 1 else 0)
  | none => 0

/-- Tokens of the LSE source bindings that name a variable (11 R343). -/
def lseTokens (n t : Nat) (ident v q : U32) (c : Channel) : Channel :=
  match kGet c.graphs n with
  | none => c
  | some g =>
    let bs := ((List.range g.cfg.sources.length).zip g.cfg.sources).filter (fun x => x.2.kind == 5 && x.2.a == ident.toNat)
    pushSources n (bs.map (fun b => (ringKey true b.1 0, ⟨0, false, false, false, [v], q, BitVec.ofNat 64 t⟩))) g c

/-- The published outputs of one write reach each publication together (10 R315; 11 R343). -/
def lsePublish (n t : Nat) (outs : List (LseOut × U32 × U32)) (c : Channel) : Channel :=
  c.pub.gpubs.foldl (fun c x =>
    if x.2.cfg.owner = n then
      let ws := outs.flatMap (fun o => if o.1.can then [] else (membersOf x.2.cfg 2 o.1.ident).map (fun m => (m, o.2.1, o.2.2, t)))
      if ws.isEmpty then c else pubWrite x.1 t ws c
    else c) c

/-- The write of output values at end boundary `t`, with its digest (11 R343 to R345; 12 R373, R374). -/
def lseWriteOuts (n t : Nat) (outs : List (LseOut × U32 × U32)) (c : Channel) : Channel :=
  let c1 := lsePublish n t outs c
  let c2 := outs.foldl (fun c o => if o.1.can then c else lseTokens n t o.1.ident o.2.1 o.2.2 c) c1
  let items : List DigItem := ((List.range outs.length).zip outs).map (fun o => ⟨6, t, n, 0, o.1, [o.2.2.1], o.2.2.2⟩)
  closeDigest (itemsDigest 6 n t items c2) c2

/-- A CAN output that a write finds 1 after a write that found it 0 requests one transmission (11 R345). -/
def lseCanOuts (n : Nat) (outs : List (LseOut × U32 × U32)) (c : Channel) : Channel :=
  ((List.range outs.length).zip outs).foldl (fun c o =>
    if o.2.1.can then
      match kGet c.lse n with
      | none => c
      | some L =>
        let now : BitVec 1 := if o.2.2.1 != 0 then 1 else 0
        let was := kGet L.outPrev o.1
        let c1 := putLse n { L with outPrev := kPut L.outPrev o.1 now } c
        if now = 1 ∧ was = some 0 then canRequest n o.2.1.port o.2.1.buf none c1 else c1
    else c) c

/-- The write of a completed cycle at its end boundary (11 R334, R343, R344). -/
def lseWrite (n t : Nat) (L : Lse) (c : Channel) : Channel :=
  let outs := L.prog.outs.map (fun o =>
    (o, varValue L o.ident, if o.qsrc = 0xFFFF then (0 : U32) else match kGet L.latched o.qsrc with | some p => p.2 | none => qInvalid))
  let last := ((List.range outs.length).zip outs).foldl (fun m o => kPut m o.1 (o.2.2.1, o.2.2.2)) L.outLast
  lseCanOuts n outs (lseWriteOuts n t outs (putLse n { L with outLast := last, r := { L.r with ended := false } } c))

/-- The safe state (11 R355): the last value written, or the safe value; validity questionable with failure. An entry never
written holds its variable's initial value. -/
def lseSafeWrite (n t : Nat) (L : Lse) (c : Channel) : Channel :=
  let outs := ((List.range L.prog.outs.length).zip L.prog.outs).map (fun o =>
    let init := match L.prog.vars.find? (fun v => v.ident == o.2.ident) with | some v => v.init | none => 0
    let v := if o.2.safeMode then o.2.safe else match kGet L.outLast o.1 with | some p => p.1 | none => init
    (o.2, v, qQuestionable ||| qFailure))
  lseCanOuts n outs (lseWriteOuts n t outs (putLse n { L with safePend := false } c))

/-! ### Faults, forces and on-line change -/

/-- Entry into FAULTED (11 R354). -/
def lseFaulted (n : Nat) (L : Lse) (c : Channel) : Channel :=
  raiseLimited 43 n n 0 n (bump 0x2700 0x09 (putLse n
    { L with st := .faulted, safePend := true, restartPend := false, r := { L.r with scanning := false, ended := false } } c))

/-- A force released because its variable is gone (11 R360). -/
def forceGone (n : Nat) (k : Nat) (c : Channel) : Channel :=
  if k = 0 then c else raiseLimited 45 n n k n (bumpN 0x2700 0x0A k c)

/-- Applies the pending forces whose boundary is at or before `t` (11 R356, R360). -/
def applyForces (n t : Nat) (L : Lse) (c : Channel) : Lse × Channel :=
  L.pendForces.foldl (fun st f =>
    let L := st.1
    if t < f.at_ then st
    else
      let L1 := { L with pendForces := L.pendForces.erase f }
      let others := L1.forces.filter (fun x => x.ident != f.f.ident)
      if !L1.prog.vars.any (fun v => v.ident == f.f.ident) then (L1, raiseLimited 45 n n 0 n st.2)
      else if f.set then (if others.length < 256 then ({ L1 with forces := others ++ [f.f] }, st.2) else (L1, st.2))
      else ({ L1 with forces := others }, st.2)) (L, c)

/-- The variables of an old program carried into a new one by identity and kind (11 R359). -/
def mapVar (old : LseProg) (r : LseRegs) (x : LseRegs) (v : LseVar) : LseRegs :=
  match old.vars.find? (fun o => o.ident == v.ident && o.kind == v.kind) with
  | none => x
  | some o =>
    if varIsWord v.kind then
      let y := (List.range (varSpan v.kind)).foldl (fun y i => { y with words := zPut y.words (v.addr + i) (zGet r.words (o.addr + i)) }) x
      match kGet r.lastExec o.addr with
      | some t => if varSpan v.kind = 3 then { y with lastExec := kPut y.lastExec v.addr t } else y
      | none => y
    else
      let y := { x with bits := zPut x.bits v.addr (zGet r.bits o.addr) }
      if v.kind = 4 ∧ r.edgeSeen.contains o.addr then { y with edgeSeen := v.addr :: y.edgeSeen } else y

/-- The readers of LSE entries in a graph follow the new program's graph-port entries, from where each ring stands. -/
def lseReaders (p : LseProg) (g : GraphRt) : GraphRt :=
  let es := ((List.range p.ins.length).zip p.ins).filter (fun x => x.2.kind == 0)
  { g with lsePos := es.foldl (fun m x =>
      match ((List.range g.cfg.insts.length).zip g.cfg.insts).find? (fun i => i.2.ident.toNat == x.2.refA) with
      | some (i, _) =>
        let key := ringKey false i x.2.refB
        kPut m x.1 (key, (ringOf g key).base)
      | none => m) [] }

def setReaders (n : Nat) (p : LseProg) (c : Channel) : Channel :=
  match kGet c.graphs n with
  | some g => putGraph n (lseReaders p g) c
  | none => c

/-- The program's values of the settings that the dictionary can override (11 R366). -/
def lseSettings (c : Channel) (n : Nat) (p : LseProg) (L : Lse) : Lse :=
  { L with
    allow := entryNat c 0x2706 (n + 1) p.allow, ceiling := entryNat c 0x2707 (n + 1) p.ceiling,
    retainMs := entryNat c 0x2708 (n + 1) p.retainMs }

/-- A program as admitted, not started. -/
def lseNew (c : Channel) (n : Nat) (p : LseProg) : Lse :=
  lseSettings c n p
    { prog := p, differs := false, st := .stopped, r := lseRegsReset, latched := [], outPrev := [], outLast := [], overruns := 0,
      passed := 0, overSince := 0, nextB := 0, allow := p.allow, ceiling := p.ceiling, retainMs := p.retainMs,
      late := false, snap := [], flushDue := false, forces := [], pendForces := [], staged := [], swap := none,
      restartPend := false, safePend := false, firstScan := true, seed := none, retainAt := 0 }

/-- What is kept of the output entries across a swap: an entry follows the old one of the same variable, kind and target. -/
def mapOuts {α : Type} (old new : LseProg) (m : KMap α) : KMap α :=
  let same (x y : LseOut) : Bool := x.ident == y.ident && x.can == y.can && x.port == y.port && x.buf == y.buf
  ((List.range new.outs.length).zip new.outs).filterMap (fun x =>
    ((((List.range old.outs.length).zip old.outs).find? (fun y => same x.2 y.2)).bind (fun y => kGet m y.1)).map (fun v => (x.1, v)))

/-- The swap of an on-line change (11 R358 to R361); a FAULTED program starts anew with it. -/
def lseSwap (n : Nat) (p : LseProg) (L : Lse) (c : Channel) : Lse × Channel :=
  let keep (f : Force) : Bool := match L.prog.vars.find? (fun v => v.ident == f.ident) with
    | some o => p.vars.any (fun v => v.ident == o.ident && v.kind == o.kind)
    | none => false
  let r0 := p.vars.foldl initVar lseRegsReset
  let r := p.vars.foldl (mapVar L.prog L.r) { r0 with s := L.r.s }
  let L1 := lseSettings c n p { L with
    prog := p, differs := true, swap := none, r := r, forces := L.forces.filter keep, latched := [],
    outLast := mapOuts L.prog p L.outLast, outPrev := mapOuts L.prog p L.outPrev }
  (L1, forceGone n (L.forces.filter (fun f => !keep f)).length (bump 0x2700 0x0E (setReaders n p c)))

/-! ### The boundary of one sleeve (11 R334, R336, R354) -/

/-- Between the write and the latch: the retain snapshot, a flush that waits, the swap, the forces; then the latch. -/
def lseBetween (n t : Nat) (c : Channel) : Channel :=
  match kGet c.lse n with
  | none => c
  | some L0 =>
    let L := { L0 with snap := retainSnap L0 L0.r }
    let c1 := putLse n L c
    match L.swap with
    | some (p, at_) =>
      if at_ ≤ t then
        let c2 := retainFlush n L c1
        match kGet c2.lse n with
        | some L2 =>
          let x := lseSwap n p L2 c2
          let y := applyForces n t x.1 x.2
          lseLatch n t y.1 y.2
        | none => c2
      else let y := applyForces n t L c1; lseLatch n t y.1 y.2
    | none => let y := applyForces n t L c1; lseLatch n t y.1 y.2

/-- The first scan begins at the boundary: the program becomes RUNNING. -/
def lseStart (n t : Nat) (L : Lse) (c : Channel) : Channel :=
  let c1 := lseFirst n { L with st := .running, restartPend := false, safePend := false } c
  match kGet c1.lse n with
  | some L1 => let y := applyForces n t L1 c1; lseLatch n t y.1 y.2
  | none => c1

/-- A boundary passed without END (11 R354). -/
def lseOverrun (n t : Nat) (L : Lse) (c : Channel) : Channel :=
  let L1 := { L with overruns := L.overruns + 1, passed := L.passed + 1, overSince := if L.st = .overrun then L.overSince else t,
                     st := .overrun, nextB := t + tcNs L }
  let c1 := bump 0x2700 7 (putLse n L1 c)
  if L.allow < L1.overruns then lseFaulted n L1 c1 else c1

/-- A FAULTED program latches nothing; its graph-port entries go on selecting at its boundaries, so that they release what is older and hold
no producer back (11 R340; 05 R148; log entry 18). -/
def releaseReaders (n t : Nat) (L : Lse) (c : Channel) : Channel :=
  match kGet c.graphs n with
  | some g =>
    let es := ((List.range L.prog.ins.length).zip L.prog.ins).filter (fun x => x.2.kind == 0)
    putGraph n (trimAll (es.foldl (fun g x => (latchPort x.2 t x.1 g).2) g)) c
  | none => c

/-- A FAULTED program at a boundary (11 R354, R355): the safe state at the first one after its entry; then, where an on-line change or a
restart is due, the first scan. A retain flush is made at the swap (R359). -/
def lseFaultedServe (n t : Nat) (L0 : Lse) (c0 : Channel) : Channel :=
  let c := if L0.safePend then lseSafeWrite n t L0 c0 else c0
  match kGet c.lse n with
  | none => c
  | some L =>
    let idle (c : Channel) : Channel := releaseReaders n t L (putLse n { L with nextB := t + tcNs L } c)
    match L.swap with
    | some (p, at_) =>
      if at_ ≤ t then
        let c1 := retainFlush n { L with snap := retainSnap L L.r } c
        match kGet c1.lse n with
        | some L1 => let x := lseSwap n p L1 c1; lseStart n t x.1 x.2
        | none => c1
      else if L.restartPend then lseStart n t L c else idle c
    | none => if L.restartPend then lseStart n t L c else idle c

/-- Serves one sleeve at its boundary. -/
def lseServe (n t : Nat) (c : Channel) : Channel :=
  match kGet c.lse n with
  | none => c
  | some L =>
    match L.st with
    | .stopped => lseStart n t L c
    | .faulted => lseFaultedServe n t L c
    | .running | .overrun =>
      if L.r.ended then lseBetween n t (lseWrite n t { L with overruns := if L.late then L.overruns else 0, late := false } c)
      else lseOverrun n t L c

/-- The sleeves with a program that runs boundaries now: running sleeves while the graphs run. -/
def lseLive (c : Channel) : KMap Lse := if c.boot.graphsRun then c.lse.filter (fun x => sleeveRuns c x.1) else []

/-- Insertion in the order of service: ascending cycle time, then sleeve number (11 R336). -/
def insertServe (x : Nat × Lse) : KMap Lse → KMap Lse
  | [] => [x]
  | y :: r => if runsAhead x.1 x.2 y.1 y.2 then x :: y :: r else y :: insertServe x r

/-- LSE_CYCLE_BOUNDARY: the next boundary of the running programs; each due sleeve is served (11 R336). -/
def lseCycleBoundaryC (c : Channel) : Channel :=
  match lseLive c with
  | [] => c
  | a :: rest =>
    let t := rest.foldl (fun m x => min m x.2.nextB) a.2.nextB
    let due := ((a :: rest).filter (fun x => x.2.nextB == t)).foldl (fun l x => insertServe x l) []
    readyUpdate (due.foldl (fun c x => lseServe x.1 t c) (advanceTo t c))
def execLseCycleBoundary (ch : Chan) (s : State) : Host.Outcome State Fault Refusal := onChan ch lseCycleBoundaryC s

/-- LSE_OVERRUN_CEILING: the overrun time passes the ceiling, so the scan is aborted (11 R354). -/
def lseOverrunCeilingC (n : Nat) (c : Channel) : Channel :=
  match kGet c.lse n with
  | some L =>
    if L.st = .overrun ∧ L.r.scanning = true then lseFaulted n L (advanceTo (L.overSince + tcNs L * L.ceiling / 100 + 1) c) else c
  | none => c
def execLseOverrunCeiling (ch : Chan) (n : Nat) (s : State) : Host.Outcome State Fault Refusal := onChan ch (lseOverrunCeilingC n) s

/-- END: the scan is complete (11 R346, R354); in OVERRUN the boundaries passed are skipped cycles. -/
def lseEndC (n a : Nat) (c : Channel) : Channel :=
  let c1 := lseStep 0x4F insEnd n a c
  match kGet c.lse n, kGet c1.lse n with
  | some L, some L1 =>
    if L.r.scanning && L1.r.ended then
      let past := L.st == .overrun
      let L2 := { L1 with st := .running, late := past, passed := 0, firstScan := false }
      readyUpdate (bump 0x2702 (n + 1) (bumpN 0x2700 8 (if past then L.passed else 0) (putLse n L2 c1)))
    else c1
  | _, _ => c1
def execLseEnd (ch : Chan) (n a : Nat) (s : State) : Host.Outcome State Fault Refusal := onChan ch (lseEndC n a) s

/-- ONLINE_CHANGE_SWAP: the sleeve's swap boundary arrives (11 R358). -/
def onlineChangeSwapC (n : Nat) (c : Channel) : Channel :=
  match kGet (lseLive c) n with
  | some L =>
    match L.swap with
    | some (_, at_) => if at_ ≤ L.nextB then lseServe n L.nextB (advanceTo L.nextB c) else c
    | none => c
  | none => c
def execOnlineChangeSwap (ch : Chan) (n : Nat) (s : State) : Host.Outcome State Fault Refusal := onChan ch (onlineChangeSwapC n) s

/-- FORCE_EFFECT: a pending force's boundary arrives (11 R356); the sleeve is served at it, or where it scans nothing the
force simply holds from there. -/
def forceEffectC (n : Nat) (c : Channel) : Channel :=
  match kGet (lseLive c) n with
  | none => c
  | some L =>
    match L.pendForces with
    | [] => c
    | f :: _ =>
      if L.st = .stopped ∨ L.st = .faulted then
        let c1 := advanceTo f.at_ c
        let y := applyForces n f.at_ L c1
        putLse n y.1 y.2
      else if f.at_ = L.nextB then lseServe n L.nextB (advanceTo L.nextB c)
      else c
def execForceEffect (ch : Chan) (n : Nat) (s : State) : Host.Outcome State Fault Refusal := onChan ch (forceEffectC n) s

/-! ### Commands -/

/-- LSE_RESTART: OD 2700:11 (11 R354). -/
def lseRestartC (p : Path) (n : Nat) (c : Channel) : Channel :=
  writeGate p [3, 4, 5] 0x2700 0x11 (fun c =>
    match kGet c.lse n with
    | none => refuse 0x0105 0x2700 0x11 p c
    | some L => accept p (.restartLse n) (if L.st = .faulted then putLse n { L with restartPend := true } c else c)) c
def execLseRestart (p : Path) (n : Nat) (s : State) : Host.Outcome State Fault Refusal := onPath p (.lseRestart p n) (lseRestartC p n) s

/-- Places a force command at its boundary, replacing one for the same variable that still waits (11 R356; 21 R618). -/
def pendForce (n : Nat) (f : PendForce) (c : Channel) : Channel :=
  match kGet c.lse n with
  | some L => putLse n { L with pendForces := L.pendForces.filter (fun x => x.f.ident != f.f.ident) ++ [f] } c
  | none => c

/-- The program that a command taking effect at `t` meets (11 R360). -/
def progAt (L : Lse) (t : Nat) : LseProg := match L.swap with | some (p, at_) => if at_ ≤ t then p else L.prog | none => L.prog

/-- The variables forced once what waits has taken effect, without one. -/
def forcedBut (L : Lse) (ident : U32) : List U32 :=
  ((L.forces.map (fun x => x.ident)).filter (fun x => !L.pendForces.any (fun f => !f.set && f.f.ident == x)) ++
    (L.pendForces.filter (fun f => f.set)).map (fun f => f.f.ident)).eraseDups.filter (fun x => x != ident)

/-- A force command through OD 2700:12 (11 R356). -/
def forceCmd (p : Path) (n : Nat) (set : Bool) (f : Force) (c : Channel) : Channel :=
  writeGate p [3, 4, 5] 0x2700 0x12 (fun c =>
    if !leads c then refuse 0x0109 0x2700 0x12 p c
    else match kGet c.lse n with
      | none => refuse 0x0105 0x2700 0x12 p c
      | some L =>
        let t := cycleCeil L (nowNs c + 1000000)
        if !(progAt L t).vars.any (fun v => v.ident == f.ident) then refuse 0x0105 0x2700 0x12 p c
        else if set && c.boot.mode != .commission && !inTest c n then refuse 0x0105 0x2700 0x12 p c
        else if set && decide (256 ≤ (forcedBut L f.ident).length) then refuse 0x010E 0x2700 0x12 p c
        else
          post (.hostCmd (.force n set f.ident f.v0 f.v1 f.v2 t))
            (pendForce n ⟨set, f, t⟩ (answer p 0 [] (journalAdd 3 (pathFn p) n [] (bump 0x2000 0x1B c))))) c
def execForceSet (p : Path) (n : Nat) (ident v v1 v2 : U32) (s : State) : Host.Outcome State Fault Refusal :=
  onPath p (.forceSet p n ident v v1 v2) (forceCmd p n true ⟨ident, v, v1, v2⟩) s
def execForceRelease (p : Path) (n : Nat) (ident : U32) (s : State) : Host.Outcome State Fault Refusal :=
  onPath p (.forceRelease p n ident) (forceCmd p n false ⟨ident, 0, 0, 0⟩) s

end Sys2Proof.Machine
end

