-- ==== Sys2Proof/Machine/Ingest.lean ====
section
/-! DEFINITION. Sampled-value ingest and the stream table (03). -/
namespace Sys2Proof.Machine

def putStream (n : Nat) (x : Stream) (c : Channel) : Channel :=
  { c with ingest := { c.ingest with streams := kPut c.ingest.streams n x } }
def stIndex (n : Nat) : Nat := 0x8000 + n
def stView (n : Nat) : Nat := 0x8200 + n

/-- smpCnt values of a rate, and their period in ns (03 R85). -/
def smpW (rate : Nat) : Nat := if rate = 96000 then 48000 else rate
def smpPeriod (rate : Nat) : Nat := if rate = 96000 then 500000000 else 1000000000

/-- Arrival allowance in ns, loss and return counts in effect; 0 selects the default (03 R109, R112). -/
def allowNs (x : Stream) : Nat :=
  1000 * (if x.allowUs = 0 then (if x.cfg.rate = 96000 then 25 else if x.cfg.rate = 14400 then 250 else 1000) else x.allowUs)
def lossCount (x : Stream) : Nat := if x.loss = 0 then (x.cfg.rate + 999) / 1000 else x.loss
def returnCount (x : Stream) : Nat := if x.ret = 0 then x.cfg.rate / 100 else x.ret

/-- Ring depth D (03 R110). -/
def depthOf (x : Stream) : Nat := 2 ^ x.cfg.log2D

/-- The number of the next slot to close or fill. -/
def openSlot (x : Stream) : Nat := x.next + x.closed.length

/-- Raises an event of a stream once for each subscribing sleeve (03 R114). -/
def raiseStream (src n : Nat) (c : Channel) : Channel := (subscribers c n).foldl (fun c s => raise src s n 0 c) c

/-! ### Readers (03 R99) -/

/-- Does an edge of a graph read the stream's slots: a STREAM source, or a PATH source whose path is BYPASS? -/
def readsStream (c : Channel) (g : GraphRt) (n : Nat) (e : EdgeRec) : Bool :=
  e.src && (match g.cfg.sources[e.prod]? with
    | some s =>
      if s.kind = 1 then s.a == n
      else if s.kind = 2 then (match kGet c.paths s.a with | some p => p.cfg.stream == n && p.cfg.preset == 0 | none => false)
      else false
    | none => false)

/-- Is slot `k` of a stream still held by a reader? Readers of frozen sleeves hold none (16 R494). -/
def slotHeld (c : Channel) (n k : Nat) (x : Stream) : Bool :=
  x.ring.any (fun s => s.n == k) &&
    (c.graphs.any (fun g => sleeveRuns c g.1 &&
        ((List.range g.2.cfg.edges.length).zip g.2.cfg.edges).any (fun e => readsStream c g.2 n e.2 && decide (edgePos g.2 e.1 ≤ k))) ||
     c.paths.any (fun p => p.2.cfg.stream == n && p.2.cfg.preset != 0 && !p.2.frozen &&
        (match p.2.lastIn with | some l => decide (l < k) | none => true)))

/-- May slot `k` be written: has every reader released slot k − D? -/
def slotRoom (c : Channel) (n k : Nat) (x : Stream) : Bool := decide (k < depthOf x) || !slotHeld c n (k - depthOf x) x

/-! ### Writing slots (03 R102 to R104, R107) -/

/-- Does a slot break a path's history: by its own mark, by a gap before it, or by a change that waits (04 R136 to R138)? -/
def slotBreaks (s : SampleSlot) (x : CPath) : Bool :=
  s.histBreak || (match x.lastIn with | some l => s.n != l + 1 | none => false) || x.breakPending

/-- A BYPASS path passes a slot on without a computation (04 R116); a history break there is counted (R136, R143). -/
def bypassTake (p : Nat) (x : CPath) (s : SampleSlot) (c : Channel) : Channel :=
  let c1 := { c with paths := kPut c.paths p { x with lastIn := some s.n, breakPending := false } }
  if slotBreaks s x then bump (0x8400 + p) 0x17 c1 else c1

/-- The BYPASS paths of a stream pass on the slot that is written. -/
def bypassTakes (n : Nat) (s : SampleSlot) (c : Channel) : Channel :=
  c.paths.foldl (fun c p => if p.2.cfg.stream = n ∧ p.2.cfg.preset = 0 ∧ p.2.frozen = false then bypassTake p.1 p.2 s c else c) c

/-- Writes the next slot of the ring and raises its token; the slot D before it leaves (03 R102, R104). -/
def pushSlot (n : Nat) (s : SampleSlot) (x : Stream) (c0 : Channel) : Channel :=
  let k := { s with tok := c0.ingest.tokens }
  let c := present rankIngest 0 (placedWrites c0 0 0 n k.n (tableSlotBytes x.cfg.rate k)) c0
  let ring := (x.ring.filter (fun y => decide (k.n < y.n + depthOf x))) ++ [k]
  let c1 := putStream n { x with ring := ring, next := k.n + 1 } c
  closeInputs x.cfg.rate k.n (bypassTakes n k { c1 with ingest := { c1.ingest with tokens := c1.ingest.tokens + 1 } })

def missingSlot (x : Stream) (k : Nat) (brk : Bool) : SampleSlot :=
  { n := k, written := true, missing := true, histBreak := brk, returning := false, delay := -2147483648,
    instant := BitVec.ofNat 64 (instantOf x.cfg.rate k), vals := x.cfg.chans.map (fun _ => (0, qMissing ||| qInvalid)), tok := 0 }

/-- A slot closes MISSING (03 R87, R107): its state is fixed, and it waits in order for its write. -/
def closeMissing (n : Nat) (c : Channel) : Channel :=
  match kGet c.ingest.streams n with
  | none => c
  | some x =>
    let k := openSlot x
    let x1 := { x with closed := x.closed ++ [(k, x.breakPending)], breakPending := false }
    let c1 := bump (stIndex n) 4 c
    match x.st with
    | .returning => putStream n { x1 with st := .lost, retRun := 0 } c1
    | .valid =>
      if lossCount x ≤ x.missRun + 1 then
        raiseStream 32 n (bump (stIndex n) 0x0F (putStream n { x1 with st := .lost, missRun := 0, retRun := 0, breakPending := true } c1))
      else putStream n { x1 with missRun := x.missRun + 1 } c1
    | _ => putStream n x1 c1

/-- Writes the slots that wait, as far as there is room (03 R99). -/
def drainClosed (n : Nat) : Nat → Channel → Channel
  | 0, c => c
  | fuel + 1, c =>
    match kGet c.ingest.streams n with
    | none => c
    | some x =>
      match x.closed with
      | [] => c
      | (k, brk) :: r =>
        if slotRoom c n k x then drainClosed n fuel (pushSlot n (missingSlot x k brk) { x with closed := r } c) else c

/-- The quality a channel's slot carries (03 R90, R103). -/
def slotQuality (q : U32) (unmet sim ret : Bool) : U32 :=
  let q0 := fixReserved (q &&& 0x3FFF#32)
  let q1 := if unmet then raiseQ q0 ||| qInaccurate ||| qSyncUnmet else q0
  let q2 := if sim then q1 ||| qSim else q1
  if ret then raiseQ q2 ||| qInconsistent ||| qReturning else q2

/-- Does smpSynch meet a sync requirement (03 R90)? -/
def syncMet (req synch : Nat) : Bool :=
  let glob := synch == 2 || (decide (5 ≤ synch) && decide (synch ≤ 254))
  req == 0 || (req == 1 && (synch == 1 || glob)) || (req == 2 && glob)

/-- An accepted sample of slot `k` (03 R103, R107). Every earlier slot is closed and written. -/
def acceptSample (n k : Nat) (a : Asdu) (sim : Bool) (delay : Int) (c : Channel) : Channel :=
  match kGet c.ingest.streams n with
  | none => c
  | some x =>
    let entering := x.st == .waiting || x.st == .lost
    let ret := x.st != .valid
    let run := if entering then 1 else x.retRun + 1
    let unmet := !syncMet x.cfg.syncReq a.smpSynch
    let slot : SampleSlot :=
      { n := k, written := true, missing := false, histBreak := x.breakPending, returning := ret, delay := delay,
        instant := BitVec.ofNat 64 (instantOf x.cfg.rate k),
        vals := x.cfg.chans.map (fun h => let p := nth a.pairs h.1 (0, qInvalid); (p.1, slotQuality p.2 unmet sim ret)), tok := 0 }
    let back := !entering && ret && decide (returnCount x ≤ run)
    let x1 := { x with
      breakPending := false, missRun := 0, retRun := if ret then run else x.retRun,
      fromLost := if entering then x.st == .lost else x.fromLost,
      st := if entering then .returning else if back then .valid else x.st }
    let c1 := bump (stIndex n) 3 (setRo (stIndex n) 2 a.smpCnt (setRo (stIndex n) 0x0D (BitVec.ofInt 32 delay).toNat c))
    let high := (BitVec.ofNat 32 (zGet c.dict.ro (od (stIndex n) 0x0E)).toNat).toInt
    let c2 := if high < delay then setRo (stIndex n) 0x0E (BitVec.ofInt 32 delay).toNat c1 else c1
    let c3 := if unmet then bump (stIndex n) 0x0C c2 else c2
    let c4 := pushSlot n slot x1 c3
    if back && x1.fromLost then raiseStream 33 n c4 else c4

/-! ### The service of a frame (03 R86 to R90, R97, R98) -/

/-- The latest number with a smpCnt whose instant is not later than a time. -/
def mapSmp (rate cnt t : Nat) : Option Nat :=
  let h := t / smpPeriod rate
  let n := h * smpW rate + cnt
  if instantOf rate n ≤ t then some n else if h = 0 then none else some (n - smpW rate)

/-- What becomes of an ASDU now. -/
inductive AsduFate where
  | late | dup | hold | write (n : Nat) (delay : Int)
  deriving DecidableEq, Repr

def asduFate (c : Channel) (s : Nat) (x : Stream) (arrival : Nat) (a : Asdu) : AsduFate :=
  match mapSmp x.cfg.rate a.smpCnt (arrival + 1000) with
  | none => .late
  | some n =>
    let delay : Int := (arrival : Int) - (instantOf x.cfg.rate n : Int)
    if (allowNs x : Int) < delay then .late
    else if n < openSlot x then
      (if x.closed.isEmpty && n + 1 == x.next && x.ring.any (fun y => y.n == n && !y.missing) then .dup else .late)
    else if x.closed.isEmpty && slotRoom c s n x then .write n delay
    else .hold

/-- Closes every slot before `k` MISSING and writes them (03 R87). -/
def closeUpTo (s k : Nat) : Nat → Channel → Channel
  | 0, c => c
  | fuel + 1, c =>
    match kGet c.ingest.streams s with
    | none => c
    | some x => if openSlot x < k then closeUpTo s k fuel (drainClosed s 1 (closeMissing s c)) else c

/-- The outcome of a frame's ASDUs from `part` on: how many are served, whether any was written, whether it is held. -/
def serveAsdus (s : Nat) (sim : Bool) (arrival : Nat) : List Asdu → Nat → Bool → Channel → Nat × Bool × Bool × Channel
  | [], k, w, c => (k, w, false, c)
  | a :: r, k, w, c =>
    match kGet c.ingest.streams s with
    | none => (k, w, false, c)
    | some x =>
      match asduFate c s x arrival a with
      | .late => serveAsdus s sim arrival r (k + 1) w (bump (stIndex s) 5 (bump 0x2300 0x0B c))
      | .dup => serveAsdus s sim arrival r (k + 1) w (bump (stIndex s) 6 c)
      | .hold => (k, w, true, c)
      | .write n d => serveAsdus s sim arrival r (k + 1) true (acceptSample s n a sim d (closeUpTo s n (n - openSlot x + 1) c))

/-- The conditions on a whole frame, in the order of R98: the counter of the cause, if one holds. -/
def frameCause (c : Channel) (x : Stream) (sim lenOk : Bool) (src : BitVec 48) (asdus : List Asdu) : Option Nat :=
  if !c.time.firstLocked then some 0x10
  else if !lenOk || asdus.length != x.cfg.noAsdu || (x.cfg.checkSrc && src != x.cfg.srcMac) ||
      asdus.any (fun a => a.svID != x.cfg.svID || a.pairs.length != x.cfg.pairs || decide (smpW x.cfg.rate ≤ a.smpCnt)) then some 9
  else if asdus.any (fun a => a.confRev != x.cfg.confRev) then some 0x0A
  else if (sim && !x.simMode) || (!sim && x.simMode && x.simSeen) then some 0x0B
  else none

/-- A history break that sends a stream to WAITING (03 R107). -/
def streamBreak (x : Stream) : Stream := { x with st := .waiting, breakPending := true, missRun := 0, retRun := 0, fromLost := false }

/-- Serves a frame; what is left of it where it is held (03 R98, R99). The causes on a whole frame are counted in every state of the
stream; a frame of an INACTIVE stream that none of them names has no slots to go to (log entry 33). -/
def serveFrame (f : RingFrame) (c : Channel) : Option RingFrame × Channel :=
  match f.frame.body, kGet c.ingest.streams f.stream with
  | .sv _ sim lenOk asdus, some x =>
    match (if f.part = 0 && !f.held then frameCause c x sim lenOk f.frame.src asdus else none) with
    | some sub => (none, bump (stIndex f.stream) sub (bump 0x2300 0x0A c))
    | none =>
      if x.st = .inactive then (none, c)
      else
        let c0 := if sim && !x.simSeen then putStream f.stream { streamBreak x with simSeen := true } c else c
        let r := serveAsdus f.stream sim f.arrival (asdus.drop f.part) f.part f.anyWritten c0
        if r.2.2.1 then
          (some { f with part := r.1, anyWritten := r.2.1, held := true }, if f.held then r.2.2.2 else bump 0x2300 0x0F r.2.2.2)
        else (none, if r.2.1 then bump 0x2300 7 r.2.2.2 else r.2.2.2)
  | _, _ => (none, c)

/-- INGEST_FRAME_SERVICE: the head of the first class that is not empty (03 R97). A head that is held lets a lower class
be served in its time. -/
def ingestFrameServiceC (c : Channel) : Channel :=
  let i := c.ingest
  let step (l : List RingFrame) (put : List RingFrame → Channel → Channel) (next : Channel → Channel) (c : Channel) : Channel :=
    match l with
    | [] => next c
    | f :: r =>
      match serveFrame f c with
      | (none, c1) => put r c1
      | (some g, c1) => if f.held && g == f then next (put (g :: r) c1) else put (g :: r) c1
  readyUpdate (step i.f96 (fun l c => { c with ingest := { c.ingest with f96 := l } })
    (fun c => step i.h14 (fun l c => { c with ingest := { c.ingest with h14 := l } })
      (fun c => step i.s48 (fun l c => { c with ingest := { c.ingest with s48 := l } }) (fun c => c) c) c) c)
/-- SLOT_CLOSE_MISSING: the open slot's allowance expires with no sample (03 R87). -/
def slotCloseMissingC (n : Nat) (c : Channel) : Channel :=
  match kGet c.ingest.streams n with
  | none => c
  | some x =>
    if x.st = .inactive then c
    else readyUpdate (drainClosed n 1 (closeMissing n (advanceTo (instantOf x.cfg.rate (openSlot x) + allowNs x) c)))
def execSlotCloseMissing (ch : Chan) (n : Nat) (s : State) : Host.Outcome State Fault Refusal := onChan ch (slotCloseMissingC n) s

/-- HELD_SLOT_WRITE: a reader has released slot n − D, so the slots that wait are written as far as there is room (03 R99). -/
def heldSlotWriteC (n : Nat) (c : Channel) : Channel :=
  match kGet c.ingest.streams n with
  | some x => drainClosed n x.closed.length c
  | none => c
def execHeldSlotWrite (ch : Chan) (n : Nat) (s : State) : Host.Outcome State Fault Refusal := onChan ch (heldSlotWriteC n) s

/-- The change of a stream that its waiting writes make at the earliest of their instants (03 R114). -/
def streamRepend (n : Nat) (c : Channel) : Channel :=
  match kGet c.ingest.streams n with
  | none => c
  | some x =>
    let l := pendingOf c (stView n)
    let t := earliest l
    if l.isEmpty then putStream n { x with pend := none } c
    else putStream n { x with pend := some (pendVal l t 5 x.allowUs, pendVal l t 6 x.loss, pendVal l t 7 x.ret), pendAt := t } c

/-- SUBSCRIPTION_CHANGE_APPLY: pending writes of a stream's settings take effect, with one history break where they change
anything (03 R114). -/
def subscriptionChangeApplyC (n : Nat) (c : Channel) : Channel :=
  match kGet c.ingest.streams n with
  | none => c
  | some x =>
    match x.pend with
    | none => c
    | some (a, l, r) =>
      let y := if a = x.allowUs ∧ l = x.loss ∧ r = x.ret then x else { streamBreak x with allowUs := a, loss := l, ret := r }
      readyUpdate (streamRepend n (dropDue (stView n) x.pendAt (putStream n y (advanceTo x.pendAt c))))
def execSubscriptionChangeApply (ch : Chan) (n : Nat) (s : State) : Host.Outcome State Fault Refusal :=
  onChan ch (subscriptionChangeApplyC n) s

/-- The first multiple of 5 ms at least 1 ms ahead (03 R114; 04 R138). -/
def fiveMsAfter (c : Channel) : Nat := (nowNs c + 1000000 + 4999999) / 5000000 * 5000000

/-! ### The ingest ring (03 R95, R96) -/

def classFrames (c : Channel) (cls : Nat) : List RingFrame := if cls = 1 then c.ingest.h14 else if cls = 2 then c.ingest.s48 else c.ingest.f96
def allRing (c : Channel) : List RingFrame := c.ingest.f96 ++ c.ingest.h14 ++ c.ingest.s48
def ringBytes (l : List RingFrame) : Nat := l.foldl (fun n f => n + f.frame.len) 0

/-- A frame of a subscribed stream enters the ring, or finds no room (03 R96). -/
def ingestEnqueue (n : Nat) (f : Frame) (arrival : Nat) (c : Channel) : Channel :=
  match kGet c.ingest.streams n with
  | none => c
  | some x =>
    let cls := rateClass x.cfg.rate
    let own := (classFrames c cls).filter (fun r => !r.shared)
    let sh := (allRing c).filter (fun r => r.shared)
    let inOwn := decide (own.length < 1024) && decide (ringBytes own + f.len ≤ 262144)
    let inShared := decide (sh.length < 5120) && decide (ringBytes sh + f.len ≤ 1310720)
    if inOwn || inShared then
      let r : RingFrame := ⟨n, f, arrival, 0, false, !inOwn, false⟩
      let i := c.ingest
      let i1 := if cls = 1 then { i with h14 := i.h14 ++ [r] } else if cls = 2 then { i with s48 := i.s48 ++ [r] } else { i with f96 := i.f96 ++ [r] }
      let c1 := { c with ingest := i1 }
      highWater 0x2300 5 (allRing c1).length c1
    else
      let k := match f.body with | .sv _ _ _ a => a.length | _ => 0
      raise 34 0xFF n 0 (bumpN (stIndex n) 7 k (bumpN 0x2300 9 k (bump 0x2300 8 c)))

/-! ### Graph start and stop, simulation mode -/

/-- A stream as the graphs start: WAITING from the first slot after the present (03 R107; 02 R71). -/
def streamStart (t : Nat) (x : Stream) : Stream :=
  { streamBreak x with ring := [], closed := [], next := numberAt x.cfg.rate (t - 1) + 1, simSeen := false }

/-- Is every subscribing sleeve in test or test/blocked (03 R105)? -/
def simModeNow (c : Channel) (n : Nat) : Bool := !(subscribers c n).isEmpty && (subscribers c n).all (inTest c)

/-- Simulation mode taken anew after behaviours or subscribers change; its end is a history break (03 R105, R106). -/
def simUpdate (c : Channel) : Channel :=
  c.ingest.streams.foldl (fun c x =>
    let now := simModeNow c x.1
    if x.2.simMode = now then c
    else if !now && x.2.st != .inactive then putStream x.1 { streamBreak x.2 with simMode := now, simSeen := false } c
    else putStream x.1 { x.2 with simMode := now } c) c

end Sys2Proof.Machine
end

