-- ==== Sys2Proof/Machine/Conditioning.lean ====
section
/-! DEFINITION. The conditioning chain (04). -/
namespace Sys2Proof.Machine

def putPath (n : Nat) (x : CPath) (c : Channel) : Channel := { c with paths := kPut c.paths n x }
def pathIndex (p : Nat) : Nat := 0x8400 + p

/-- A filtering stage: its coefficient bank (sub of OD 2410; 0 identity), factor F, taps N (04 R123, R142). -/
structure Stage where
  bank : Nat
  f : Nat
  n : Nat
  deriving DecidableEq, Repr

/-- The stage plan of a preset at an input rate (04 R123). -/
def stagePlan (preset rate : Nat) : List Stage :=
  if preset = 1 then (if rate = 96000 then [⟨1, 4, 9⟩] else [])
  else if preset = 2 then
    (if rate = 96000 then [⟨2, 5, 21⟩, ⟨3, 4, 17⟩] else if rate = 14400 then [⟨4, 3, 16⟩] else [⟨5, 1, 6⟩])
  else if preset = 3 then
    (if rate = 96000 then [⟨6, 5, 21⟩, ⟨7, 4, 13⟩, ⟨8, 2, 15⟩] else if rate = 14400 then [⟨9, 3, 13⟩, ⟨10, 2, 15⟩] else [⟨11, 2, 19⟩])
  else []

/-- The four stage positions: the plan's stages, then identity stages (04 R119). -/
def stages (preset rate : Nat) : List Stage := (stagePlan preset rate ++ List.replicate 4 (⟨0, 1, 1⟩ : Stage)).take 4

/-- Twice the delay D of a plan in input samples (04 R123). -/
def planDelay2 : List Stage → Nat → Nat
  | [], _ => 0
  | s :: r, k => (s.n - 1) * k + planDelay2 r (k * s.f)

def sumInt (l : List Int) : Int := l.foldl (· + ·) 0

/-- The limits the rules set on a coefficient set of N taps at a phase: signed 16 bits (04 R119), sum 32,768 (R120), at the default shift
no saturation of the accumulator or the output from INT32 input (R122), a delay at DC of (N − 1)/2 + φ/256 inputs (R126), and for phase 0 the symmetry of a
linear-phase filter (R119). The figures of R124 are not among them: log entry 47. -/
def tapsOk (n phase : Nat) (l : List Int) : Bool :=
  l.length == n && l.all (fun h => decide (-32768 ≤ h ∧ h ≤ 32767)) && sumInt l == 32768 &&
    decide (sumInt (l.map (fun h => (h.natAbs : Int))) ≤ 32768) &&
    sumInt (((List.range n).zip l).map (fun x => (x.1 : Int) * x.2)) == 16384 * ((n : Int) - 1) + 128 * (phase : Int) &&
    (phase != 0 || l == l.reverse)

/-- A set within those limits: a raised interpolation about the delay it must have. -/
def tapsNominal (n phase : Nat) : List Int :=
  let d := 16384 * (n - 1) + 128 * phase
  let k := d / 32768
  let b : Int := ((d % 32768 : Nat) : Int)
  let a : Int := 32768 - b
  (List.range n).map (fun j =>
    if j + 1 = k then a / 4 else if j = k then a / 2 + b / 4 else if j = k + 1 then a / 4 + b / 2 else if j = k + 2 then b / 4 else 0)

/-- The taps of a stage at a phase: the firmware's, free values within the limits of the rules (04 R119, R120, R122, R126, R142; log
entry 47). -/
def taps (s : Stage) (phase : Nat) : List Int :=
  if s.bank = 0 then [32768]
  else
    let l := (List.range s.n).map (fun j => ((Config.freeTable (0x241000 + s.bank) (phase * s.n + j)).setWidth 16).toInt)
    if tapsOk s.n phase l then l else tapsNominal s.n phase

/-- One stage evaluation (04 R119): the output, and whether the accumulator and the output saturated. -/
def stageCalc (shift : Nat) (y : Int) : Int × Bool × Bool :=
  let yc := clampInt (-140737488355328) 140737488355327 y
  let z := if shift = 0 then yc else (yc + 2 ^ (shift - 1)) / 2 ^ shift
  let zc := clampInt (-2147483648) 2147483647 z
  (zc, yc != y, zc != z)

/-- Σ h[j]·x(i + j), and whether any input evaluation saturated. -/
def convolve (x : Nat → Int × Bool) (i : Nat) : Nat → List Int → Int × Bool
  | _, [] => (0, false)
  | j, h :: r =>
    let a := x (i + j)
    let b := convolve x i (j + 1) r
    (h * a.1 + b.1, a.2 || b.2)

/-- The stages of a path with shifts and the phase of stage 1, last position first: what they give `m` outputs back, and whether a stage
saturated on the way. DESIGN CHOICE (log entry 47): 04 R133 marks an output that a stage of it saturated for and does not say whether
that is every output an intermediate result enters; an output is marked wherever a result that enters it saturated, even one
first formed for an earlier output. -/
def chainOut (x : Nat → Int × Bool) : List (Stage × Nat × Nat) → Nat → Int × Bool
  | [], m => x m
  | (s, shift, phase) :: r, m =>
    let a := convolve (chainOut x r) (m * s.f) 0 (taps s phase)
    let z := stageCalc shift a.1
    (z.1, a.2 || z.2.1 || z.2.2)

/-- Saturations of the last stage of a list in its newest `k` evaluations: accumulator, output. -/
def newSats (x : Nat → Int × Bool) (l : List (Stage × Nat × Nat)) (k : Nat) : Nat × Nat :=
  match l with
  | [] => (0, 0)
  | (s, shift, phase) :: r =>
    (List.range k).foldl (fun a m =>
      let z := stageCalc shift (convolve (chainOut x r) (m * s.f) 0 (taps s phase)).1
      (a.1 + (if z.2.1 then 1 else 0), a.2 + (if z.2.2 then 1 else 0))) (0, 0)

/-- The stage positions of a path with their shifts, the first with its phase set (04 R126), in order. -/
def pathStages (r : PathRec) (rate : Nat) : List (Stage × Nat × Nat) :=
  ((List.range 4).zip (stages r.preset rate)).map (fun x =>
    (x.2, nth r.shifts x.1 15, if x.1 = 0 then r.phase % 256 else 0))

/-- The delayed input of a path: sample `i` back from the newest (04 R126). -/
def pathInput (r : PathRec) (h : List InSample) (i : Nat) : Int × Bool :=
  (match h[i + r.phase / 256]? with | some s => s.v | none => 0, false)

/-- The input samples of an output's span (04 R133). -/
def spanOf (r : PathRec) (rate : Nat) (h : List InSample) : List InSample :=
  (h.drop (r.phase / 256)).take (planDelay2 (stagePlan r.preset rate) 1 + 1 + (if r.phase % 256 = 0 then 0 else 1))

/-- How much history a path keeps. -/
def histKeep (r : PathRec) (rate : Nat) : Nat := planDelay2 (stagePlan r.preset rate) 1 + 2 + r.phase / 256

/-- Counters of a path's saturations at one stage position (04 R141, R143). -/
def satCount (p k : Nat) (a : Nat × Nat) (c : Channel) : Channel :=
  bumpN (pathIndex p) (0x13 + k) a.2 (bumpN (pathIndex p) (0x0F + k) a.1 (bumpN 0x2400 5 a.2 (bumpN 0x2400 4 a.1 c)))

/-- The first part of a list of stages, last position first, with how many evaluations each output takes. -/
def stageCounts (l : List (Stage × Nat × Nat)) (total : Nat) : List (Nat × List (Stage × Nat × Nat) × Nat) :=
  (List.range l.length).map (fun k =>
    let f := (l.take (k + 1)).foldl (fun a s => a * s.1.f) 1
    (k, (l.take (k + 1)).reverse, total / f))

/-- The smallest reader position on a path's output edge; none where nothing reads it. -/
def pathReaders (c : Channel) (p : Nat) : Option Nat :=
  c.graphs.foldl (fun a g =>
    if !sleeveRuns c g.1 then a
    else ((List.range g.2.cfg.edges.length).zip g.2.cfg.edges).foldl (fun a e =>
      if e.2.src && (match g.2.cfg.sources[e.2.prod]? with | some s => s.kind == 2 && s.a == p | none => false) then
        (match a with | none => some (edgePos g.2 e.1) | some m => some (min m (edgePos g.2 e.1)))
      else a) a) none

/-- Has the output edge room for one more (04 R132)? -/
def pathRoom (c : Channel) (p : Nat) (x : CPath) : Bool :=
  match pathReaders c p with
  | none => true
  | some m => decide ((x.ring.filter (fun o => decide (m ≤ o.n))).length < max x.depth 1)

/-- An output of a path for boundary `n` of its output rate (04 R119, R131, R133, R135). -/
def pathOutput (p n : Nat) (instant : U64) (rate : Nat) (x : CPath) (c0 : Channel) : Channel :=
  let outRate := rate / presetFactor x.cfg.preset rate
  let edge (o : OutSample) : List (Nat × BankOp) := placedWrites c0 1 0 p n (tokenBytes (outToken outRate o).2)
  let span := spanOf x.cfg rate x.hist
  let put (o : OutSample) (y : CPath) : CPath := { y with outBreak := false, ring := (if y.depth ≤ y.ring.length then y.ring.drop 1 else y.ring) ++ [o] }
  if !span.any (fun s => s.present) then
    let q := qInvalid ||| qMissing ||| (if span.any (fun s => s.subst) then qInaccurate ||| qSubstituted else 0#32)
    let o : OutSample := ⟨n, false, x.outBreak, 0, q, instant⟩
    bump (pathIndex p) 0x0D (putPath p (put o x) (present rankCond 0 (edge o) c0))
  else
    let ss := pathStages x.cfg rate
    let z := chainOut (pathInput x.cfg x.hist) ss.reverse 0
    let total := (ss.foldl (fun a s => a * s.1.f) 1)
    let c1 := (stageCounts ss total).foldl (fun c k => satCount p k.1 (newSats (pathInput x.cfg x.hist) k.2.1 k.2.2) c) c0
    let wr := span.filter (fun s => s.present)
    let q0 := wr.foldl (fun a s => withValidity ((a ||| s.q) &&& 0x70003FFC#32) (worse a s.q)) 0#32
    let q1 := if span.any (fun s => s.subst) then raiseQ (q0 ||| qInaccurate ||| qSubstituted) else q0
    let q2 := if z.2 then raiseQ (q1 ||| qOverflow ||| qSaturated) else q1
    let settle := decide (x.produced < settleCount x.cfg.preset rate)
    let q3 := if settle then raiseQ (q2 ||| qInaccurate ||| qSettling) else q2
    let o : OutSample := ⟨n, settle, x.outBreak, BitVec.ofInt 32 z.1, q3, instant⟩
    let c2 := bump (pathIndex p) 0x0C (putPath p (put o { x with produced := x.produced + 1 }) (present rankCond 0 (edge o) c1))
    if z.2 && x.cfg.satEvent then raiseLimited 36 x.cfg.owner p 0 p c2 else c2

/-- A change of a path takes effect: one history break at its next input, unless only the event enable changed; into or
out of BYPASS the consumers switch at the instant (04 R137, R138). -/
def applyPathChange (rate : Nat) (r : PathRec) (x : CPath) : CPath :=
  let same := decide ({ r with satEvent := x.cfg.satEvent } = x.cfg)
  if same then { x with cfg := r, pend := none }
  else
    let cross := (r.preset == 0) != (x.cfg.preset == 0)
    { x with
      cfg := r, pend := none, breakPending := true,
      switchAt := if cross then x.pendAt else x.switchAt, oldBypass := if cross then x.cfg.preset == 0 else x.oldBypass,
      lastIn := if cross && x.cfg.preset == 0 then some (numberAt rate (x.pendAt - 1)) else x.lastIn }

/-- The record of a path with what an instant brings to its entries (04 R138, R143). -/
def pathWith (l : List PendingWrite) (t : Nat) (r : PathRec) : PathRec :=
  let v := pendVal l t
  { r with preset := v 3 r.preset, phase := v 4 r.phase, satEvent := v 0x18 (if r.satEvent then 1 else 0) != 0,
           shifts := [v 5 (nth r.shifts 0 15), v 6 (nth r.shifts 1 15), v 7 (nth r.shifts 2 15), v 8 (nth r.shifts 3 15)] }

/-- The change of a path that its waiting writes make at the earliest of their instants (04 R138). -/
def pathRepend (p : Nat) (c : Channel) : Channel :=
  match kGet c.paths p with
  | none => c
  | some x =>
    let l := pendingOf c (pathIndex p)
    if l.isEmpty then putPath p { x with pend := none } c
    else putPath p { x with pend := some (pathWith l (earliest l) x.cfg), pendAt := earliest l } c

/-- After a path's change at an instant: its writes are in effect, later ones still wait. -/
def pathApplied (p t : Nat) (c : Channel) : Channel := pathRepend p (dropDue (pathIndex p) t c)

/-- An input slot enters a path's history (04 R134 to R136). -/
def pathTake (p : Nat) (rate : Nat) (s : SampleSlot) (x : CPath) (c : Channel) : CPath × Channel :=
  let brk := slotBreaks s x
  let x1 := if brk then { x with hist := [], lastVal := none, produced := 0, breakPending := false, outBreak := true } else x
  let c1 := if brk then bump (pathIndex p) 0x17 c else c
  let v := nth s.vals x.cfg.k (0, qInvalid ||| qMissing)
  let i : InSample := if s.missing then
      (match x1.lastVal with | some w => ⟨w, 0, false, true⟩ | none => ⟨0, 0, false, false⟩)
    else ⟨v.1.toInt, v.2, true, false⟩
  let c2 := if i.subst then bump (pathIndex p) 0x0E (bump 0x2400 6 c1) else c1
  ({ x1 with hist := (i :: x1.hist).take (histKeep x1.cfg rate), lastIn := some s.n,
             lastVal := if s.missing then x1.lastVal else some v.1.toInt }, c2)

/-- The slots of a path's stream that it has still to take, oldest first. -/
def slotsLeft (st : Stream) (x : CPath) : List SampleSlot :=
  st.ring.filter (fun s => match x.lastIn with | some l => decide (l < s.n) | none => true)

/-- The computation a path waits for: class and token of its next input slot, the path; none where it has none, or where its output edge
has no room (04 R130, R132). -/
def pathJob (c : Channel) (p : Nat) (x : CPath) : Option (Nat × Nat × Nat) :=
  match kGet c.ingest.streams x.cfg.stream with
  | none => none
  | some st =>
    match slotsLeft st x with
    | [] => none
    | s :: _ =>
      if !c.boot.graphsRun || x.frozen || x.cfg.preset = 0 then none
      else if s.n % presetFactor x.cfg.preset st.cfg.rate = 0 && !pathRoom c p x then none
      else some (rateClass st.cfg.rate, s.tok, p)

/-- Does one computation come before another: by input class, then in token order (04 R130)? The paths of one slot follow their
numbers. -/
def jobBefore (a b : Nat × Nat × Nat) : Bool :=
  decide (a.1 < b.1 ∨ (a.1 = b.1 ∧ (a.2.1 < b.2.1 ∨ (a.2.1 = b.2.1 ∧ a.2.2 < b.2.2))))

/-- The computation the engine serves next. -/
def engineNext (c : Channel) : Option (Nat × Nat × Nat) :=
  c.paths.foldl (fun a x => match a, pathJob c x.1 x.2 with
    | some j, some k => if jobBefore k j then some k else some j
    | none, k => k
    | j, none => j) none

/-- A BYPASS path passes on the slots of its stream that it has not (04 R116). -/
def bypassCatchUp (p : Nat) (c : Channel) : Channel :=
  match kGet c.paths p with
  | none => c
  | some x =>
    match kGet c.ingest.streams x.cfg.stream with
    | some st =>
      if x.cfg.preset = 0 && !x.frozen then (slotsLeft st x).foldl (fun c s => match kGet c.paths p with
        | some y => bypassTake p y s c
        | none => c) c
      else c
    | none => c

/-- The time from input token to output token where an output is made: at most 0.40 µs, 15 ns more for each computation queued (04 R130,
R141). -/
def pathLatency (p : Nat) (before after : Channel) : Channel :=
  let newest (c : Channel) : Option Nat := (kGet c.paths p).bind (fun x => x.ring.getLast?.map (fun o => o.n))
  if newest after = newest before then after
  else figure 0x2400 0x0A (400 + 15 * (before.paths.filter (fun x => x.1 != p && (pathJob before x.1 x.2).isSome)).length) after

/-- PATH_COMPUTE: the path's next input slot, and the output it completes (04 R130, R132); the engine serves the path in its turn. -/
def pathComputeC (p : Nat) (c : Channel) : Channel :=
  match kGet c.paths p with
  | none => c
  | some x0 =>
    match kGet c.ingest.streams x0.cfg.stream with
    | none => c
    | some st =>
      let rate := st.cfg.rate
      match slotsLeft st x0 with
      | [] => c
      | s :: _ =>
        if (engineNext c).map (fun j => j.2.2) ≠ some p then c
        else
          let now := x0.pend.isSome && decide (x0.pendAt ≤ s.instant.toNat)
          let c1 := if now then pathApplied p x0.pendAt (putPath p (applyPathChange rate (x0.pend.getD x0.cfg) x0) c) else c
          let x := (kGet c1.paths p).getD x0
          let f := presetFactor x.cfg.preset rate
          if x.cfg.preset = 0 then bypassCatchUp p c1
          else if s.n % f = 0 then
            if pathRoom c1 p x then
              let y := pathTake p rate s x c1
              pathOutput p (s.n / f) s.instant rate y.1 y.2
            else c1
          else let y := pathTake p rate s x c1; putPath p y.1 y.2
def execPathCompute (ch : Chan) (p : Nat) (s : State) : Host.Outcome State Fault Refusal :=
  onChan ch (fun c => readyUpdate (pathLatency p c (pathComputeC p c))) s

/-- Is every slot of an instant before a path's change taken, so that the change is due (04 R138)? -/
def changeDue (st : Stream) (x : CPath) : Bool :=
  x.cfg.preset == 0 || (match x.lastIn with
    | some l => decide (x.pendAt ≤ instantOf st.cfg.rate (l + 1))
    | none => match st.ring with
      | s :: _ => decide (x.pendAt ≤ s.instant.toNat)
      | [] => st.st == .inactive || decide (x.pendAt ≤ instantOf st.cfg.rate st.next))

/-- CONDITIONING_CHANGE_APPLY: the change's instant arrives (04 R138). Slots of earlier instants that are still to come are
computed with the old settings, and the change then takes effect with the first later one. -/
def conditioningChangeApplyC (p : Nat) (c : Channel) : Channel :=
  match kGet c.paths p with
  | none => c
  | some x =>
    match x.pend, kGet c.ingest.streams x.cfg.stream with
    | some r, some st =>
      let c1 := advanceTo x.pendAt c
      if changeDue st x then bypassCatchUp p (pathApplied p x.pendAt (putPath p (applyPathChange st.cfg.rate r x) c1)) else c1
    | _, _ => c
def execConditioningChangeApply (ch : Chan) (p : Nat) (s : State) : Host.Outcome State Fault Refusal :=
  onChan ch (conditioningChangeApplyC p) s

/-- A path as the graphs start, with the changes that wait (04 R138): it takes the slots from its stream's next one on, and no older
token. -/
def pathStart (c : Channel) (x : CPath) : CPath :=
  { x with cfg := x.pend.getD x.cfg, pend := none, ring := [], hist := [],
           lastIn := (kGet c.ingest.streams x.cfg.stream).map (fun s => s.next - 1), lastVal := none, produced := 0,
           breakPending := false, outBreak := false, frozen := false, switchAt := 0, oldBypass := false }

/-- A path's record with the values in effect of its entries (04 R143). -/
def pathEntries (c : Channel) (p : Nat) (r : PathRec) : PathRec :=
  let e (sub d : Nat) : Nat := entryNat c (pathIndex p) sub d
  { r with preset := e 3 r.preset, phase := e 4 r.phase,
           shifts := [e 5 (nth r.shifts 0 15), e 6 (nth r.shifts 1 15), e 7 (nth r.shifts 2 15), e 8 (nth r.shifts 3 15)],
           satEvent := e 0x18 (if r.satEvent then 1 else 0) != 0 }

/-- The conditioning delay in ns (04 R128). -/
def condDelay (r : PathRec) (rate : Nat) : Nat :=
  let num := planDelay2 (stagePlan r.preset rate) 1 * 128 + r.phase
  (num * 1000000000 * 2 + 256 * rate) / (2 * 256 * max rate 1)

end Sys2Proof.Machine
end

