-- ==== Sys2Proof/Machine/Yoke.lean ====
section
/-! DEFINITION. The Yoke switch: classification, meters, drop rules, forwarding, redundancy, capture (14). -/
namespace Sys2Proof.Machine

/-- An address as the 48 bits of its six bytes. -/
def hostMac (c : Channel) : BitVec 48 :=
  let base := Config.moduleMac &&& 0xFCFFFFFFFFFE#48
  match c.id with | .a => base | .b => base ||| 1#48

def broadcastMac : BitVec 48 := 0xFFFFFFFFFFFF#48
def isMulticast (m : BitVec 48) : Bool := m.getLsbD 40

def portDefault : PortRec :=
  { enable := true, preempt := false, filterMc := false, learn := true, pcp := 0, addFrag := 0, vid := 1, maxFrame := 1536,
    resv7 := 64, resv6 := 64, k := 0, weights := [16, 16, 16, 16, 16, 16], reds := [0, 0, 0, 0, 0, 0] }

/-- A port's record; a port without one has the defaults (14 R445, R446). -/
def portCfg (c : Channel) (p : Nat) : PortRec := (kGet c.sw.cfg.ports p).getD portDefault

def portReset : PortSt :=
  { up := false, queues := [], tx := none, preempted := none, deficits := [], drrPos := 0, redAvg := [], pausedTo := 0,
    pausedAt := 0, preempt := 0, rrIn := 0, redDrops := [], resumed := false }
def portGet (c : Channel) (p : Nat) : PortSt := (kGet c.sw.ports p).getD portReset
def portPut (p : Nat) (x : PortSt) (c : Channel) : Channel := { c with sw := { c.sw with ports := kPut c.sw.ports p x } }

/-- Is a port's link up? The internal ports always are. -/
def linkUp (c : Channel) (p : Nat) : Bool := decide (13 ≤ p) || ((portGet c p).up && (portCfg c p).enable)
def isTenGig (p : Nat) : Bool := decide (1 ≤ p ∧ p ≤ 8)

/-! ### Buffer (14 R418 to R421, R434) -/

def cellsOf (f : Frame) : Nat := (f.len + 127) / 128
def queueOf (x : PortSt) (q : Nat) : List QFrame := (kGet x.queues q).getD []
def queueCells (x : PortSt) (q : Nat) : Nat := (queueOf x q).foldl (fun n f => n + cellsOf f.frame) 0
def queuedPorts : List Nat := [1, 2, 3, 4, 5, 6, 7, 8, 9, 10, 11, 12, 15]

/-- Cells of shared memory a port's queues take. -/
def sharedOf (c : Channel) (p : Nat) : Nat :=
  let x := portGet c p
  let r := portCfg c p
  (queueCells x 7 - r.resv7 * 8) + (queueCells x 6 - r.resv6 * 8) + ([0, 1, 2, 3, 4, 5].foldl (fun n q => n + queueCells x q) 0)

/-- The shared pool: what no reservation holds (14 R420). -/
def sharedFree (c : Channel) : Nat :=
  65536 - queuedPorts.foldl (fun n p => n + (portCfg c p).resv7 * 8 + (portCfg c p).resv6 * 8) 0 -
    queuedPorts.foldl (fun n p => n + sharedOf c p) 0

/-- Cells in use (2900:03). -/
def cellsInUse (c : Channel) : Nat :=
  queuedPorts.foldl (fun n p => n + [0, 1, 2, 3, 4, 5, 6, 7].foldl (fun k q => k + queueCells (portGet c p) q) 0) 0

/-- Is a queue 0 to 5 at its limit, α times the free shared cells (14 R420)? -/
def atLimit (c : Channel) (p q : Nat) : Bool :=
  let k := (portCfg c p).k
  decide (sharedFree c * 2 ^ k.toNat ≤ queueCells (portGet c p) q * 2 ^ (-k).toNat)

/-- Cells an ingress port's partition holds in VOQ mode, by queue class (14 R434). -/
def partitionCells (c : Channel) (inPort : Nat) (express : Bool) : Nat :=
  queuedPorts.foldl (fun n p => n + (if express then [6, 7] else [0, 1, 2, 3, 4, 5]).foldl (fun k q =>
    k + ((queueOf (portGet c p) q).filter (fun f => f.inPort == inPort)).foldl (fun a f => a + cellsOf f.frame) 0) 0) 0

/-- Has an ingress port's partition room for a frame's copies to queues 6 and 7 (14 R434)? -/
def partitionRoom (c : Channel) (inPort need : Nat) : Bool :=
  decide (partitionCells c inPort false + partitionCells c inPort true + need ≤ 4096)

/-- Does a frame for queues 0 to 5 find its ingress partition full (14 R434)? -/
def partitionFull (c : Channel) (inPort need : Nat) : Bool :=
  decide (4096 < partitionCells c inPort false + max 512 (partitionCells c inPort true) + need)

/-- Bytes that an ingress port's staging buffer holds, by queue class (14 R428). -/
def stagedBytes (c : Channel) (p : Nat) (express : Bool) : Nat :=
  (c.sw.staging.filter (fun s => s.port == p && s.express == express && decide (cycleOf c.time.up < s.till))).foldl (fun n s => n + s.len) 0

/-- Does a frame for queues 0 to 5 find no staging room: 32 KiB, 8 KiB of it reserved for queues 6 and 7 (14 R428)? -/
def stagingFull (c : Channel) (p len : Nat) : Bool := decide (32768 < stagedBytes c p false + max 8192 (stagedBytes c p true) + len)

/-- A frame holds its staging room until the fabric, a cell per cycle, has written its copies (14 R418, R428; log entry 48). In VOQ
mode its partition holds it (R434). -/
def stage (p q copies : Nat) (f : Frame) (c : Channel) : Channel :=
  if c.sw.cfg.voq || copies == 0 then c
  else
    let t := max c.sw.fabricAt (cycleOf c.time.up) + cellsOf f * copies
    { c with sw := { c.sw with fabricAt := t, staging := c.sw.staging.filter (fun s => decide (cycleOf c.time.up < s.till)) ++ [⟨p, f.len, t, decide (6 ≤ q)⟩] } }

/-- Can queue 6 or 7 of a port admit a frame now (14 R421)? -/
def admits (c : Channel) (p q need : Nat) : Bool :=
  let r := if q = 7 then (portCfg c p).resv7 * 8 else (portCfg c p).resv6 * 8
  !linkUp c p || decide (need ≤ (r - queueCells (portGet c p) q) + sharedFree c)

/-! ### Header capture (14 R442, R443) -/

def etherOf (f : Frame) : Nat :=
  match f.body with
  | .sv .. => 0x88BA | .goose _ => 0x88B8 | .ptp _ => 0x88F7 | .supervision .. => 0x88FB | .pause _ => 0x8808 | .other e _ => e

/-- The VID a frame belongs to at a port: its tag's, or the port's untagged VID. -/
def vidOf (c : Channel) (p : Nat) (f : Frame) : Nat :=
  match f.vlan with
  | some t => if t.vid = 0 then (portCfg c p).vid else t.vid
  | none => (portCfg c p).vid

/-- Does a filter select a frame? -/
def filterHit (c : Channel) (dir p q : Nat) (f : Frame) (x : CapFilter) : Bool :=
  x.dir == dir && x.ports.testBit (p - 1) && (x.ethertype == 0 || x.ethertype == etherOf f) &&
    (x.vid == 0xFFFF || x.vid == vidOf c p f) && x.queues.testBit q

/-- A capture record, where an enabled filter selects the frame; `dir` 0 ingress, 1 egress, 2 dropped. -/
def capture (dir disp inPort outPort q : Nat) (x : QFrame) (c : Channel) : Channel :=
  let p := if dir = 1 then outPort else inPort
  let full := decide (6710886 ≤ c.sw.capture.length)
  let stop := entryNat c 0x2900 0x0C 0 == 1
  if entryNat c 0x2900 0x0B 0 ≠ 1 || !c.sw.cfg.filters.any (fun y => filterHit c dir p q x.frame y.2) then c
  else if full && stop then { c with sw := { c.sw with capStopped := true } }
  else
    let sec := c.time.up / 1000000000
    let n := if c.sw.capSec = sec then c.sw.capCount else 0
    if 25000000 ≤ n then raiseLimited 67 0xFF inPort 0 inPort (bump 0x2900 0x0E c)
    else
      let r : CapRec := {
        ts := x.ts, inPort := inPort, outPort := outPort, queue := q, colour := x.colour, disp := disp, len := x.frame.len,
        seq := zGet c.ctr (od 0x2900 0x0D), head := x.frame.head.take 128, damaged := false }
      let l := if full then c.sw.capture.drop 1 else c.sw.capture
      bump 0x9210 3 (bump 0x2900 0x0D { c with sw := { c.sw with capture := l ++ [r], capSec := sec, capCount := n + 1 } })

/-! ### Classification, colour, drop (14 R422 to R426) -/

def appidOf (f : Frame) : Option Nat := match f.body with | .sv a .. => some a | .goose g => some g.appid | _ => none
def ptpType (f : Frame) : Option Nat := match f.body with | .ptp m => some m.msgType | _ => none
/-- A PTP event message: messageType 0 to 3. -/
def isEvent (f : Frame) : Bool := match ptpType f with | some t => decide (t ≤ 3) | none => false

/-- Does a classification rule match? The APPID range is looked at on SV and GOOSE frames (log entry 20). -/
def ruleHit (c : Channel) (p : Nat) (f : Frame) (r : RuleRec) : Bool :=
  r.mask.testBit (p - 1) && f.dst &&& r.dstMask == r.dst &&& r.dstMask && (r.vid == 0xFFFF || r.vid == vidOf c p f) &&
  (r.pcp == 0xFF || (match f.vlan with | some t => t.pcp == r.pcp | none => (portCfg c p).pcp == r.pcp)) &&
  (r.ethertype == 0 || r.ethertype == etherOf f) &&
  (match appidOf f with | some a => decide (r.appLo ≤ a ∧ a ≤ r.appHi) | none => true)

/-- The queue of a frame and the rule that gave it (14 R422). `express` is the egress class of a frame from port 14. -/
def classify (c : Channel) (p : Nat) (express : Bool) (f : Frame) : Nat × Option RuleRec :=
  if isEvent f then (7, none)
  else if (ptpType f).isSome || etherOf f == 0x88FB then (6, none)
  else if p = 14 then (if express then 7 else 6, none)
  else match c.sw.cfg.rules.find? (ruleHit c p f) with
    | some r => (r.queue, some r)
    | none =>
      let pcp := match f.vlan with | some t => t.pcp | none => (portCfg c p).pcp
      (if 6 ≤ pcp then 5 else pcp, none)

/-- The colour of a frame that passes no meter: 0 green, 1 yellow. -/
def deiColour (f : Frame) : Nat := match f.vlan with | some t => bit16 0 t.dei | none => 0

/-- A meter marks a frame (14 R424; RFC 2698). Buckets in 1/1000 bit, full at first. -/
def meterMark (n : Nat) (aware : Bool) (f : Frame) (c : Channel) : Nat × Channel :=
  match kGet c.sw.cfg.meters n with
  | none => (deiColour f, c)
  | some r =>
    let x := (kGet c.sw.meters n).getD ⟨r.cbs * 8000, r.pbs * 8000, c.time.up⟩
    let d := c.time.up - x.at_
    let tc := min (r.cbs * 8000) (x.c + r.cir * d)
    let tp := min (r.pbs * 8000) (x.p + r.pir * d)
    let b := f.len * 8000
    let pre := if aware then deiColour f else 0
    let col := if tp < b then 2 else if pre = 1 ∨ tc < b then 1 else 0
    let y : MeterSt := ⟨if col = 0 then tc - b else tc, if col = 2 then tp else tp - b, c.time.up⟩
    (col, { c with sw := { c.sw with meters := kPut c.sw.meters n y } })

/-- Queue and colour of a frame at ingress; a red frame of queue 6 or 7 is demoted (14 R423). -/
def ingressClass (p : Nat) (express : Bool) (f : Frame) (c : Channel) : (Nat × Nat × Bool) × Channel :=
  let k := classify c p express f
  let m := match k.2 with
    | some r => if r.meter = 0xFFFF then (deiColour f, c) else meterMark r.meter r.aware f c
    | none => (deiColour f, c)
  let cut := isEvent f || (match k.2 with | some r => r.cut | none => false)
  if 6 ≤ k.1 ∧ m.1 = 2 then ((5, 2, cut), raiseLimited 66 0xFF p 0 p (bump 0x2900 6 m.2))
  else ((k.1, m.1, cut), m.2)

/-- Random early drop (14 R425); the average depth is in 2⁻²⁴ KiB, its draw a free value (log entry 20). -/
def redDrop (p q colour : Nat) (c : Channel) : Bool × Channel :=
  let x := portGet c p
  match kGet c.sw.cfg.reds (nth (portCfg c p).reds q 0) with
  | none => (false, c)
  | some r =>
    let depth := ((queueOf x q).foldl (fun n f => n + f.frame.len) 0) * 16384
    let old := (kGet x.redAvg q).getD 0
    let avg := if old ≤ depth then old + (depth - old) / 2 ^ r.w else old - (old - depth) / 2 ^ r.w
    let c1 := portPut p { x with redAvg := kPut x.redAvg q avg } c
    let lim := nth r.lim colour (0, 0, 0)
    let lo := lim.1 * 16777216
    let hi := lim.2.1 * 16777216
    if avg < lo then (false, c1)
    else if hi ≤ avg then (true, c1)
    else
      let d := draw c1
      (decide (d.1.toNat % (256 * (hi - lo)) < lim.2.2 * (avg - lo)), d.2)

/-- Puts a copy of a frame into an egress queue, or drops it (14 R420, R425, R441). -/
def enqueue (out q : Nat) (x : QFrame) (c : Channel) : Channel :=
  if !linkUp c out then capture 2 7 x.inPort out q x (bump (0x9200 + out) 0x0D c)
  else
    let put (c : Channel) : Channel :=
      let y := portGet c out
      let c1 := portPut out { y with queues := kPut y.queues q (queueOf y q ++ [x]) } c
      highWater 0x2900 4 (cellsInUse c1) (bump (0x9300 + out) (q + 1) c1)
    if 6 ≤ q then put c
    else
      let r := redDrop out q x.colour c
      if r.1 then
        let y := portGet r.2 out
        let c1 := portPut out { y with redDrops := kPut y.redDrops (q * 3 + x.colour) ((kGet y.redDrops (q * 3 + x.colour)).getD 0 + 1) } r.2
        capture 2 1 x.inPort out q x (bump (0x9400 + out) (q + 1) c1)
      else if !c.sw.cfg.voq && (atLimit r.2 out q || decide (sharedFree r.2 < cellsOf x.frame)) then
        capture 2 2 x.inPort out q x (bump (0x9400 + out) (q + 1) r.2)
      else put r.2

/-! ### Forwarding (14 R427, R437, R444) -/

/-- The redundancy group of a port. -/
def groupOf (c : Channel) (p : Nat) : Option (Nat × GroupRec) := c.sw.cfg.groups.find? (fun g => g.2.portA == p || g.2.portB == p)

/-- Is an address one that this channel's host side answers to: the host MAC, or one of a sleeve's block (15 R476)? -/
def ownUnicast (c : Channel) (m : BitVec 48) : Bool :=
  m == hostMac c || c.sleeves.any (fun s => decide (s.2.cfg.macBase.toNat ≤ m.toNat ∧ m.toNat < s.2.cfg.macBase.toNat + 2 ^ s.2.cfg.macLog2))

/-- Destination ports by address and VID, before redundancy (14 R427, R444). -/
def lookup (c : Channel) (p : Nat) (f : Frame) : List Nat :=
  let vid := vidOf c p f
  let ms := match kGet c.sw.cfg.vlans vid with | some v => v.1 | none => 0
  let ports (mask : Nat) : List Nat := queuedPorts.filter (fun o => mask.testBit (o - 1) && ms.testBit (o - 1) && o != p)
  if !c.sw.section_ then
    if p = 14 ∨ p = 15 then (if f.dst = hostMac c then [] else (ports 0x7FFF).filter (fun o => o != 15))
    else if f.dst = broadcastMac ∨ f.dst = hostMac c then [15] else []
  else match c.sw.cfg.statics.find? (fun s => s.1 == f.dst && s.2.1 == vid) with
    | some s => ports s.2.2
    | none =>
      if ownUnicast c f.dst then (if p = 15 then [] else [15])
      else if isMulticast f.dst then
        (ports 0xFFFF).filter (fun o => f.dst == broadcastMac || !(portCfg c o).filterMc)
      else match c.sw.learned.find? (fun l => l.mac == f.dst && l.vid == vid) with
        | some l => ports (2 ^ (l.port - 1))
        | none => ports 0xFFFF

/-- Link-local addresses are never forwarded (IEEE 802.1Q; 13 R399 for Pdelay). -/
def linkLocal (m : BitVec 48) : Bool := m &&& 0xFFFFFFFFFFF0#48 == 0x0180C2000000#48

/-- The ports a frame goes out on: a front port in a group forwards to no other front port, none forwards into a group,
and what ports 14 and 15 send into a group goes out on both of its ports (14 R437). -/
def route (c : Channel) (p : Nat) (f : Frame) : List Nat :=
  if linkLocal f.dst then []
  else
    let l := lookup c p f
    if p = 14 ∨ p = 15 then
      queuedPorts.filter (fun o => l.contains o ||
        (match groupOf c o with | some g => l.contains g.2.portA || l.contains g.2.portB | none => false))
    else if (groupOf c p).isSome then l.filter (fun o => o == 15)
    else l.filter (fun o => o == 15 || (groupOf c o).isNone)

/-- A frame as it leaves a port: tagged or untagged as the VLAN's untagged mask says. -/
def vlanOut (c : Channel) (p out : Nat) (f : Frame) : Frame :=
  let vid := vidOf c p f
  let un := match kGet c.sw.cfg.vlans vid with | some v => v.2.testBit (out - 1) | none => true
  if un then { f with vlan := none }
  else match f.vlan with
    | some _ => f
    | none => { f with vlan := some ⟨(portCfg c p).pcp, false, vid⟩ }

/-- The next number of a source MAC (14 R439). -/
def nextSeq (m : BitVec 48) (c : Channel) : Nat × Channel :=
  let n := match c.sw.seqNos.find? (fun s => s.1 == m) with | some s => s.2 | none => 0
  (n, { c with sw := { c.sw with seqNos := (m, (n + 1) % 65536) :: c.sw.seqNos.filter (fun s => s.1 != m) } })

/-- The redundancy tag a frame of this channel gets on a group's port (14 R437). -/
def tagFor (c : Channel) (out seq : Nat) : Redun :=
  match groupOf c out with
  | none => .none
  | some g => if g.2.hsr then .hsr seq else .prp seq (if g.2.portA = out then 0xA else 0xB)

/-- Puts a frame of ports 14 and 15, or of the switch itself, into its destination queues. -/
def sendOut (p q colour ts seq : Nat) (outs : List Nat) (f : Frame) (c : Channel) : Channel :=
  outs.foldl (fun c o => enqueue o q ⟨{ vlanOut c p o f with red := tagFor c o seq }, p, colour, ts⟩ c) c

/-! ### Groups (14 R437, R438, R440) -/

def groupSt (c : Channel) (g : Nat) : GroupSt := (kGet c.sw.groups g).getD ⟨[], [], [], 0, 0⟩
def groupPut (g : Nat) (x : GroupSt) (c : Channel) : Channel := { c with sw := { c.sw with groups := kPut c.sw.groups g x } }

def forgetNs (g : GroupRec) : Nat := (if g.entryMs = 0 then 400 else g.entryMs) * 1000000

/-- Is there an entry for a copy, no older than the EntryForgetTime? -/
def dupSeen (now forget : Nat) (mac : BitVec 48) (seq : Nat) (l : List DupEntry) : Bool :=
  l.any (fun e => e.mac == mac && e.seq == seq && decide (now ≤ e.at_ + forget))

/-- A table with one more entry, the oldest of 16,384 leaving. -/
def dupAdd (now : Nat) (mac : BitVec 48) (seq port : Nat) (l : List DupEntry) : List DupEntry :=
  (if l.length < 16384 then l else l.drop 1) ++ [⟨mac, seq, now, port⟩]

def redSeq (r : Redun) : Option Nat := match r with | .none => none | .prp s _ => some s | .hsr s => some s

/-- Is a source MAC one of this channel's: the host MAC, a sleeve's block? -/
def ownSource (c : Channel) (m : BitVec 48) : Bool := ownUnicast c m

/-- What mode H does with a frame of a group's port (14 R437). -/
inductive RingFate where
  | notRing | ownFrame | forUs | sentBefore
  | pass (other seq : Nat)
  deriving DecidableEq, Repr

/-- Mode H (14 R437): own frames and frames forwarded once are removed, a frame to this channel is not forwarded, and every other
goes on to the group's other port. PTP messages are exempt from duplicate discard (13 R402). -/
def ringFate (gn : Nat) (g : GroupRec) (p : Nat) (f : Frame) (c : Channel) : RingFate :=
  match redSeq f.red with
  | none => .notRing
  | some seq =>
    if !g.hsr then .notRing
    else if ownSource c f.src then .ownFrame
    else if ownUnicast c f.dst then .forUs
    else if !(ptpType f).isSome && dupSeen c.time.up (forgetNs g) f.src seq (groupSt c gn).ringSent then .sentBefore
    else .pass (if g.portA = p then g.portB else g.portA) seq

/-- The delivery table (14 R438): answers whether the copy is the first. -/
def firstCopy (gn : Nat) (g : GroupRec) (p : Nat) (f : Frame) (c : Channel) : Bool × Channel :=
  match redSeq f.red with
  | none => (true, c)
  | some seq =>
    if (ptpType f).isSome then (true, c)
    else
      let x := groupSt c gn
      let wrong := match f.red with | .prp _ lan => lan != (if g.portA = p then 0xA else 0xB) | _ => false
      let c0 := if wrong then bump (0x2910 + gn) 4 c else c
      if dupSeen c.time.up (forgetNs g) f.src seq x.delivered then (false, bump (0x2910 + gn) 3 c0)
      else (true, groupPut gn { x with delivered := dupAdd c.time.up f.src seq p x.delivered } c0)

/-- A supervision frame enters the node table of 1,024 entries (14 R440). -/
def noteNode (gn : Nat) (mac : BitVec 48) (pubs : List (BitVec 48)) (c : Channel) : Channel :=
  let x := groupSt c gn
  let l := x.nodes.filter (fun n => n.1 != mac)
  bump (0x2910 + gn) 7 (groupPut gn { x with nodes := (if l.length < 1024 then l else l.drop 1) ++ [(mac, pubs, c.time.up)] } c)

/-! ### Delivery to port 13 (03 R91 to R95; 10 R325) -/

/-- Does a frame's tag verify under a subscription's key slots (03 R92)? -/
def tagOk (c : Channel) (port alg cur next : Nat) (right : Nat) (f : Frame) : Bool × Channel :=
  match f.sec with
  | none => (false, c)
  | some s =>
    if !isTenGig port || s.alg ≠ alg then (false, c)
    else
      let slot := if cur ≠ 0xFFFF && (slotAt c cur).ident == s.keyId then some cur
        else if next ≠ 0xFFFF && (slotAt c next).ident == s.keyId then some next else none
      match slot with
      | none => (false, c)
      | some k =>
        let u := useSlot k right alg c
        match u.1 with
        | none => (false, u.2)
        | some key => (tagOf alg key s.auth == s.tag, u.2)

/-- The streams a frame belongs to. -/
def streamsOf (c : Channel) (f : Frame) : List (Nat × Stream) :=
  match f.body with
  | .sv a .. => c.ingest.streams.filter (fun x => x.2.cfg.dst == f.dst && x.2.cfg.appid == a)
  | _ => []

/-- The GOOSE subscriptions a frame belongs to. -/
def subsOf (c : Channel) (f : Frame) : List (Nat × GSub) :=
  match f.body with
  | .goose g => c.pub.subs.filter (fun x => x.2.cfg.dst == f.dst && x.2.cfg.appid == g.appid)
  | _ => []

/-- Verification at the Yoke (03 R91, R92): does every authenticated subscription that the frame belongs to pass it? -/
def verifyFrame (port : Nat) (f : Frame) (c0 : Channel) : Bool × Channel :=
  let r := (streamsOf c0 f).foldl (fun (r : Bool × Channel) x =>
    if !x.2.cfg.auth then r
    else
      let v := tagOk r.2 port x.2.cfg.alg x.2.cfg.keyCur x.2.cfg.keyNext 0 f
      if v.1 then (r.1, v.2)
      else (false, raiseStream 35 x.1 (bump (stIndex x.1) 8 (bump 0x2300 0x0C v.2)))) (true, c0)
  (subsOf c0 f).foldl (fun (r : Bool × Channel) x =>
    if !x.2.cfg.auth then r
    else
      let v := tagOk r.2 port x.2.cfg.alg x.2.cfg.keyCur x.2.cfg.keyNext 1 f
      if v.1 then (r.1, v.2)
      else (false, raise 35 x.2.cfg.owner x.1 0 (bump (0x8E00 + x.1) 8 v.2))) r

/-- A frame delivered to port 13: into the ingest ring, through the stream injectors, or to its subscriptions. -/
def deliverIngest (port arrival : Nat) (f : Frame) (c0 : Channel) : Channel :=
  let c := if (streamsOf c0 f).isEmpty && (subsOf c0 f).isEmpty then c0 else bump 0x920D 3 c0
  let c1 := (streamsOf c f).foldl (fun c x =>
    let r := injStream port f x.1 c
    r.1.foldl (fun c y => if y.2.good then ingestEnqueue x.1 y.2 arrival c else c) r.2) c
  match f.body with
  | .goose g => (subsOf c f).foldl (fun c x => { c with ingest := { c.ingest with goose := c.ingest.goose ++ [(x.1, g)] } }) c1
  | _ => c1

/-! ### Reception (14 R422 to R431) -/

/-- Learning (14 R427). -/
def learn (p : Nat) (f : Frame) (c : Channel) : Channel :=
  let vid := vidOf c p f
  if !c.sw.section_ || !(portCfg c p).learn || isMulticast f.src || decide (13 ≤ p) then c
  else
    let l := c.sw.learned.filter (fun x => !(x.mac == f.src && x.vid == vid))
    if l.length < 16384 then { c with sw := { c.sw with learned := l ++ [⟨f.src, vid, p, c.time.up⟩] } } else c

/-- May a copy be cut through (14 R429)? -/
def cutsThrough (c : Channel) (p out q : Nat) (cut : Bool) : Bool :=
  let x := portGet c out
  q == 7 && cut && isTenGig p && isTenGig out && !c.sw.cfg.voq && linkUp c out && (queueOf x 7).isEmpty &&
    (match x.tx with | some t => t.1 != 7 && x.preempt == 2 | none => true)

/-- The PTP corrections of an event message at its egress (13 R401): residence, and for Sync and Pdelay_Req the
ingress port's link delay and asymmetry; a two-step Sync's go into its Follow_Up instead. -/
def ptpEgress (out : Nat) (x : QFrame) (c : Channel) : Frame × Channel :=
  match x.frame.body with
  | .ptp m =>
    if 3 < m.msgType then (x.frame, c)
    else
      let res := stampNow c - x.ts
      let pt := kGet c.time.ports x.inPort
      if m.msgType = 0 && m.twoStep then
        match pt with
        | none => (x.frame, c)
        | some y =>
          let hit (h : HeldSync) : Bool := h.msg.seqId == m.seqId && h.msg.srcClock == m.srcClock && h.msg.srcPort == m.srcPort
          let y1 := { y with syncs := y.syncs.map (fun h => if hit h then { h with residence := kPut h.residence out res } else h) }
          (x.frame, bump 0x2217 out { c with time := { c.time with ports := kPut c.time.ports x.inPort y1 } })
      else if x.inPort = 0 ∧ m.msgType = 2 then
        let pt1 := kGet c.time.ports out
        (x.frame, match pt1 with | some y => { c with time := { c.time with ports := kPut c.time.ports out { y with reqAt := nowNs c } } } | none => c)
      else
        let extra : Int := if m.msgType = 0 ∨ m.msgType = 2 then
            ((match pt with | some y => (y.delay : Int) | none => 0) + signed 32 (entryNat c 0x2215 x.inPort 0)) * 65536
          else 0
        ({ x.frame with body := .ptp { m with correction := m.correction + res + (if x.inPort = 0 then 0 else extra) } }, bump 0x2217 out c)
  | _ => (x.frame, c)

/-- Starts a frame on an egress port. -/
def startTx (out q : Nat) (x : QFrame) (c : Channel) : Channel :=
  let r := ptpEgress out x c
  let y := portGet r.2 out
  let pre := match y.tx with | some t => if t.1 ≠ 7 ∧ q = 7 ∧ y.preempt = 2 then some t else y.preempted | none => y.preempted
  let c1 := portPut out { y with tx := some (q, x), preempted := pre } r.2
  let began := pre.isSome && y.preempted.isNone
  let c2 := if began && !y.resumed then bump (0x9200 + out) 0x0A c1 else if pre.isNone then portPut out { portGet c1 out with resumed := false } c1 else c1
  let c3 := if q = 7 then highWater (0x9200 + out) 0x0E ((stampNow c2 - x.ts) / 65536) c2 else c2
  capture 1 0 x.inPort out q x (emit (.frame out r.1) (bump (0x9200 + out) 3 c3))

/-- A cut-through copy of a frame that turns out bad (14 R430). -/
def stomp (out : Nat) (x : QFrame) (c : Channel) : Channel :=
  raiseLimited 65 0xFF out 0 out (capture 2 4 x.inPort out 7 x
    (emit (.stomped out x.frame) (bump (0x9200 + out) 5 (bump 0x2900 5 (bump (0x9200 + out) 6 c)))))

/-- A copy of an accepted frame into a destination, cut through where the rule permits (14 R429). -/
def place (q : Nat) (cut : Bool) (o : Nat) (x : QFrame) (c : Channel) : Channel :=
  if cutsThrough c x.inPort o q cut then startTx o q x (bump (0x9200 + o) 6 (bump (0x9300 + o) (q + 1) c)) else enqueue o q x c

/-- Copies of an accepted frame into its destinations. -/
def forward (p q colour ts : Nat) (cut : Bool) (outs : List Nat) (f : Frame) (c : Channel) : Channel :=
  outs.foldl (fun c o => place q cut o ⟨vlanOut c p o { f with red := .none }, p, colour, ts⟩ c) c

/-- A ring frame goes on to the group's other port, or is removed and counted (14 R437). Answers whether the frame stays for
delivery. -/
def ringForward (gn : Nat) (g : GroupRec) (p q colour ts : Nat) (cut : Bool) (f : Frame) (c : Channel) : Bool × Channel :=
  match ringFate gn g p f c with
  | .notRing | .forUs => (true, c)
  | .ownFrame => (false, bump (0x2910 + gn) 8 c)
  | .sentBefore => (true, bump (0x2910 + gn) 8 c)
  | .pass other seq =>
    let x := groupSt c gn
    let c1 := if (ptpType f).isSome then c else groupPut gn { x with ringSent := dupAdd c.time.up f.src seq p x.ringSent } c
    (true, place q cut other ⟨f, p, colour, ts⟩ c1)

/-- A frame that a front port or the host MAC brings into the fabric. -/
def fabricIn (p ts : Nat) (f : Frame) (c0 : Channel) : Channel :=
  let k := ingressClass p false f c0
  let q := k.1.1
  let col := k.1.2.1
  let cut := k.1.2.2
  let x : QFrame := ⟨f, p, col, ts⟩
  let c := capture 0 0 p 0 q x k.2
  let ms := match kGet c.sw.cfg.vlans (vidOf c p f) with | some v => v.1 | none => 0
  if !ms.testBit (p - 1) then capture 2 8 p 0 q x (bump 0x2900 8 c)
  else if decide (q ≤ 5) && (if c.sw.cfg.voq then partitionFull c p (cellsOf f) else stagingFull c p f.len) then capture 2 6 p 0 q x (bump 0x2900 7 c)
  else if p = 15 then
    let s := nextSeq f.src c
    sendOut 15 q col ts s.1 (route c 15 f) f (stage 15 q (route c 15 f).length f s.2)
  else
    let g := groupOf c p
    let rf := match g with | some g => ringForward g.1 g.2 p q col ts cut f c | none => (true, c)
    if !rf.1 then rf.2
    else
      let v := verifyFrame p f rf.2
      if !v.1 then v.2
      else
        let fc := match g with | some g => firstCopy g.1 g.2 p f v.2 | none => (true, v.2)
        if !fc.1 then capture 2 5 p 0 q x fc.2
        else
          let c1 := learn p f fc.2
          let c2 := match f.body, g with | .supervision m l _, some g => noteNode g.1 m l c1 | _, _ => c1
          forward p q col ts cut (route c2 p f) f (stage p q (route c2 p f).length f (deliverIngest p (ts / 65536) f c2))

/-- A bad frame: received bad; what was cut through is stomped, stored copies are discarded (14 R430). -/
def badFrame (p ts : Nat) (f : Frame) (c : Channel) : Channel :=
  let k := classify c p false f
  let cut := isEvent f || (match k.2 with | some r => r.cut | none => false)
  let f1 := { f with len := min f.len (portCfg c p).maxFrame }
  let ring := match groupOf c p with
    | some g => (match ringFate g.1 g.2 p f c with | .pass o _ => if cutsThrough c p o k.1 cut then [o] else [] | _ => [])
    | none => []
  let outs := if ring.isEmpty && (groupOf c p).any (fun g => ringFate g.1 g.2 p f c == .ownFrame) then []
    else (route c p f).filter (fun o => cutsThrough c p o k.1 cut)
  let c1 := ring.foldl (fun c o => stomp o ⟨f1, p, 0, ts⟩ c) (bump (0x9200 + p) 4 c)
  outs.foldl (fun c o => stomp o ⟨vlanOut c p o f1, p, 0, ts⟩ c) c1

/-- A frame at a front port, past its injector. -/
def portIn (p ts : Nat) (f : Frame) (c : Channel) : Channel :=
  if !f.good || decide ((portCfg c p).maxFrame < f.len) then badFrame p ts f c
  else match f.body with
    | .pause _ => c
    | _ => fabricIn p ts f c

/-- FRAME_RECEIVED: a frame at a front port whose link is up, stamped at its timestamp point (13 R397; 14 R422), `ago` ns before.
`frags` received fragments were discarded before it (14 R448). -/
def frameReceivedC (p : Nat) (f : Frame) (ago frags : Nat) (c : Channel) : Channel :=
  if c.boot.powered && decide (2 ≤ c.boot.phase ∧ c.boot.phase ≠ 16) && decide (1 ≤ p ∧ p ≤ 12) && linkUp c p then
    let r := injPort p f (bump (0x9200 + p) 2 (bumpN (0x9200 + p) 0x0B frags c))
    r.1.foldl (fun c x => portIn x.1 (stampNow c - ago * 65536) x.2 c) r.2
  else c

/-! ### Egress (14 R419, R432; 15 R482) -/

/-- Takes the frame that a queue sends next; in VOQ mode round robin over the ingress ports (14 R434). -/
def takeFrame (voq : Bool) (rr : Nat) (l : List QFrame) : Option (QFrame × List QFrame) :=
  let pick := if voq then
      match (List.range 17).map (fun k => (rr + 1 + k) % 17) |>.findSome? (fun i => l.find? (fun f => f.inPort == i)) with
      | some f => some f
      | none => none
    else l.head?
  pick.map (fun f => (f, l.erase f))

/-- Deficit round robin over queues 0 to 5 (14 R419): the queue that sends next, and the deficits after it. A weight is
worth 128 bytes a round (log entry 20). -/
def drrPick (c : Channel) (out : Nat) : Nat → PortSt → Option Nat × PortSt
  | 0, x => (none, x)
  | n + 1, x =>
    let q := x.drrPos
    let d := (kGet x.deficits q).getD 0
    let after := (q + 1) % 6
    let quantum := (kGet x.deficits after).getD 0 + nth (portCfg c out).weights after 16 * 128
    let moved (left : Nat) : PortSt := { x with drrPos := after, deficits := kPut (kPut x.deficits q left) after quantum }
    match queueOf x q with
    | [] => drrPick c out n (moved 0)
    | f :: _ =>
      if f.frame.len ≤ d then (some q, { x with deficits := kPut x.deficits q (d - f.frame.len) })
      else drrPick c out n (moved d)

/-- Sends the next frame of a queue. -/
def sendQueue (out q : Nat) (c : Channel) : Channel :=
  let x := portGet c out
  match takeFrame c.sw.cfg.voq x.rrIn (queueOf x q) with
  | none => c
  | some (f, rest) =>
    startTx out q f (portPut out { x with queues := kPut x.queues q rest, rrIn := f.inPort } c)

/-- Rings a frame of port 15 goes to (15 R476, R477 checks 1 to 5); the sleeve's receive set and BCAST steer. -/
def ringsFor (c : Channel) (f : Frame) : List Nat :=
  if f.dst = hostMac c then [0]
  else if f.dst = broadcastMac then
    (List.range 65).filter (fun r => match kGet c.host.rings r with | some x => x.bcast | none => r == 0)
  else if isMulticast f.dst then
    0 :: (c.sleeves.filter (fun s => s.2.cfg.mcast.contains f.dst)).map (fun s => s.1 + 1)
  else (c.sleeves.filter (fun s => decide (s.2.cfg.macBase.toNat ≤ f.dst.toNat ∧ f.dst.toNat < s.2.cfg.macBase.toNat + 2 ^ s.2.cfg.macLog2))).map (fun s => s.1 + 1)

/-- A frame that port 15 delivers to the host MAC: steered, or dropped and counted (15 R476, R477). -/
def hostDeliver (x : QFrame) (c : Channel) : Channel :=
  if !x.frame.good then bump 0x2A00 0x0F c
  else if x.frame.len < 64 then bump 0x2A00 0x10 c
  else
    let l := ringsFor c x.frame
    let maxOf (r : Nat) : Nat := match kGet c.host.rings r with | some y => y.maxFrame | none => 1518
    let fit := l.filter (fun r => decide (x.frame.len ≤ maxOf r))
    let c1 := bumpN 0x2A00 0x11 (l.length - fit.length) c
    if !leads c then (if fit.isEmpty && !l.isEmpty then c1 else bump 0x2A00 0x12 c1)
    else if l.isEmpty then bump 0x2A00 0x13 c1
    else { c1 with sw := { c1.sw with hostIn := c1.sw.hostIn ++ fit.map (fun r => (r, x)) } }

/-- EGRESS_FRAME_START: the port starts its next frame: queue 7, then a preempted frame's remainder, then queue 6, then
queues 0 to 5 unless paused. With nothing to send the port falls idle. Port 15 delivers to the host MAC. -/
def egressFrameStartC (out : Nat) (c : Channel) : Channel :=
  if !(queuedPorts.contains out && linkUp c out) then c
  else
    let x := portGet c out
    let voq := c.sw.cfg.voq
    if out = 15 then
      let q := [7, 6, 5, 4, 3, 2, 1, 0].find? (fun q => decide (6 ≤ q) && !(queueOf x q).isEmpty)
      let d := match q with | some q => (some q, x) | none => drrPick c 15 64 x
      match d.1 with
      | none => c
      | some q =>
        match takeFrame voq x.rrIn (queueOf x q) with
        | none => c
        | some (f, rest) =>
          hostDeliver f (bump 0x920F 3 (portPut 15 { d.2 with queues := kPut x.queues q rest, rrIn := f.inPort } c))
    else if !(queueOf x 7).isEmpty then sendQueue out 7 c
    else match x.preempted with
      | some t => bump (0x9200 + out) 0x0A (portPut out { x with tx := some t, preempted := none, resumed := true } c)
      | none =>
        if !(queueOf x 6).isEmpty then sendQueue out 6 c
        else if c.time.up < x.pausedTo then portPut out { x with tx := none } c
        else
          let d := drrPick c out 64 x
          match d.1 with
          | some q => sendQueue out q (portPut out d.2 c)
          | none => portPut out { d.2 with tx := none } c

def execEgressFrameStart (ch : Chan) (p : Nat) (s : State) : Host.Outcome State Fault Refusal := onChan ch (egressFrameStartC p) s

/-- PAUSE_RECEIVED: counted on every front port, honoured where enabled (15 R481, R482). -/
def pauseReceivedC (p quanta : Nat) (c : Channel) : Channel :=
  if !(decide (1 ≤ p ∧ p ≤ 12) && linkUp c p) then c
  else
    let c1 := bump 0x2A21 p c
    let x := portGet c1 p
    let paused := min c1.time.up x.pausedTo - x.pausedAt
    if entryNat c1 0x2A20 p (if p ≤ 8 then 0 else 1) ≠ 1 then c1
    else
      bumpN 0x2A22 p paused (portPut p
        { x with pausedAt := c1.time.up,
                 pausedTo := c1.time.up + (if isTenGig p then quanta * 512 / 10 else quanta * 512) } c1)

def execPauseReceived (ch : Chan) (p quanta : Nat) (s : State) : Host.Outcome State Fault Refusal := onChan ch (pauseReceivedC p quanta) s

/-- PAUSE_EXPIRY: the pause time has passed; the time paused is counted. -/
def pauseExpiryC (p : Nat) (c : Channel) : Channel :=
  let x := portGet c p
  if x.pausedAt < x.pausedTo then
    bumpN 0x2A22 p (x.pausedTo - x.pausedAt) (portPut p { x with pausedAt := 0, pausedTo := 0 } (upTo x.pausedTo c))
  else c

def execPauseExpiry (ch : Chan) (p : Nat) (s : State) : Host.Outcome State Fault Refusal := onChan ch (pauseExpiryC p) s

/-! ### Port 14 (10 R321 to R323; 14 R421) -/

/-- The Cuff has opened and still holds every frame for FINAL (12 R386). -/
def holdsForFinal (c : Channel) : Bool := match c.seam.takeover with | some t => t.opened | none => false

/-- A frame handed over is confirmed to the twin by the channel that holds control (12 R371). -/
def confirmFrame (b : BuiltFrame) (c : Channel) : Channel :=
  if c.seam.holdCtl then
    let e := (b.sv, b.num, b.stNum, b.sqNum, b.smp)
    post (.confirm b.sv b.num b.stNum b.sqNum b.smp)
      { c with seam := { c.seam with confirmed := c.seam.confirmed.filter (fun x => !(x.1 == b.sv && x.2.1 == b.num)) ++ [e] } }
  else c

/-- PUBLISHER_HANDOVER: the next frame that waits goes to port 14, EXPRESS first, once every destination queue can admit
it; with the Cuff closed it is discarded instead (10 R322, R323; 14 R421). -/
def publisherHandoverC (c : Channel) : Channel :=
  let l := c.pub.waiting
  match (match l.find? (fun b => !b.protection) with | some b => some b | none => l.head?) with
  | none => c
  | some b =>
    let c1 := { c with pub := { c.pub with waiting := l.erase b } }
    if !c.pub.cuff then throughCuff b 1 false c1
    else if holdsForFinal c then c
    else
      let k := ingressClass 14 (!b.protection) b.frame c1
      let outs := route k.2 14 b.frame
      let room := if c.sw.cfg.voq then partitionRoom k.2 14 (cellsOf b.frame * outs.length) else outs.all (fun o => admits k.2 o k.1.1 (cellsOf b.frame))
      if room then
        let x : QFrame := ⟨b.frame, 14, k.1.2.1, stampNow c⟩
        confirmFrame b (sendOut 14 k.1.1 k.1.2.1 (stampNow c) b.seqNo outs b.frame (capture 0 0 14 0 k.1.1 x (bump 0x920E 2 k.2)))
      else bump 0x2900 9 c

def execPublisherHandover (ch : Chan) (s : State) : Host.Outcome State Fault Refusal := onChan ch publisherHandoverC s

/-! ### Links and preemption (14 R432, R441) -/

/-- Is preemption enabled on a port: the entry, else the section's record (14 R448)? -/
def preemptOn (c : Channel) (p : Nat) : Bool := entryNat c (0x9200 + p) 8 (bit16 0 (portCfg c p).preempt) == 1

/-- A front port goes down: queues flushed, the frame in transmission ended unfinished, E64 (14 R441). -/
def linkDown (p : Nat) (c : Channel) : Channel :=
  let x := portGet c p
  let c1 := (List.range 8).foldl (fun c q =>
    (queueOf x q).foldl (fun c f => capture 2 3 f.inPort p q f (bump (0x9500 + p) (q + 1) c)) c) c
  let c2 := (x.tx.toList ++ x.preempted.toList).foldl (fun c t => emit (.cutFrame p t.2.frame) c) c1
  raiseLimited 64 0xFF p 0 p (bump (0x9200 + p) 0x0C
    (portPut p { x with up := false, queues := [], tx := none, preempted := none, preempt := 0, deficits := [], resumed := false } c2))

/-- PORT_UP: the link returns and preemption verification restarts (14 R441). -/
def portUpC (p : Nat) (c : Channel) : Channel :=
  if decide (1 ≤ p ∧ p ≤ 12) && c.boot.powered then
    let x := portGet c p
    if x.up then c else portPut p { x with up := true, preempt := if preemptOn c p then 1 else 0 } c
  else c

def execPortUp (ch : Chan) (p : Nat) (s : State) : Host.Outcome State Fault Refusal := onChan ch (portUpC p) s

/-- PREEMPTION_VERIFY_COMPLETE (14 R432). -/
def preemptionVerifyCompleteC (p : Nat) (ok : Bool) (c : Channel) : Channel :=
  let x := portGet c p
  if x.preempt = 1 then portPut p { x with preempt := if ok then 2 else 3 } c else c

def execPreemptionVerifyComplete (ch : Chan) (p : Nat) (ok : Bool) (s : State) : Host.Outcome State Fault Refusal :=
  onChan ch (preemptionVerifyCompleteC p ok) s

/-! ### Supervision and ageing (14 R427, R438, R440) -/

/-- The publication source MACs a supervision frame lists. -/
def pubMacs (c : Channel) : List (BitVec 48) :=
  (c.pub.gpubs.map (fun p => p.2.srcMac) ++ c.pub.spubs.map (fun p => p.2.srcMac)).take 64

/-- A supervision frame on every port of a group (14 R440). -/
def supervise (gn : Nat) (g : GroupRec) (c : Channel) : Channel :=
  let x := groupSt c gn
  let f : Frame := { dst := 0x01154E000100#48, src := hostMac c, vlan := none, len := 64, good := true, red := .none, sec := none,
                     body := .supervision (hostMac c) (pubMacs c) x.supSeq, head := [] }
  let s := nextSeq (hostMac c) (groupPut gn { x with supSeq := (x.supSeq + 1) % 65536, lifeAt := c.time.up } c)
  bumpN (0x2910 + gn) 6 2 (sendOut 15 6 0 (stampNow c) s.1 [g.portA, g.portB] f s.2)

/-- LIFE_CHECK_INTERVAL of a group, that long after its last supervision frames (14 R440). -/
def lifeCheckIntervalC (gn : Nat) (c : Channel) : Channel :=
  match kGet c.sw.cfg.groups gn with
  | some g => supervise gn g (upTo ((groupSt c gn).lifeAt + (if g.lifeMs = 0 then 2000 else g.lifeMs) * 1000000) c)
  | none => c

def execLifeCheckInterval (ch : Chan) (g : Nat) (s : State) : Host.Outcome State Fault Refusal := onChan ch (lifeCheckIntervalC g) s

/-- NODE_FORGET: a node not heard of for the NodeForgetTime leaves the table (14 R440). -/
def nodeForgetC (gn : Nat) (mac : BitVec 48) (c : Channel) : Channel :=
  let x := groupSt c gn
  match kGet c.sw.cfg.groups gn, x.nodes.find? (fun n => n.1 == mac) with
  | some g, some n =>
    groupPut gn { x with nodes := x.nodes.filter (fun n => n.1 != mac) }
      (upTo (n.2.2 + (if g.nodeS = 0 then 60 else g.nodeS) * 1000000000) c)
  | _, _ => c

def execNodeForget (ch : Chan) (g : Nat) (mac : BitVec 48) (s : State) : Host.Outcome State Fault Refusal := onChan ch (nodeForgetC g mac) s

/-- ENTRY_FORGET: an entry older than the EntryForgetTime leaves the delivery and ring tables (14 R438). -/
def entryForgetC (gn : Nat) (mac : BitVec 48) (seq : Nat) (c : Channel) : Channel :=
  let x := groupSt c gn
  match kGet c.sw.cfg.groups gn, (x.delivered ++ x.ringSent).find? (fun e => e.mac == mac && e.seq == seq) with
  | some g, some e =>
    let c1 := upTo (e.at_ + forgetNs g) c
    let keep (y : DupEntry) : Bool := !(y.mac == mac && y.seq == seq && decide (y.at_ + forgetNs g ≤ c1.time.up))
    groupPut gn { x with delivered := x.delivered.filter keep, ringSent := x.ringSent.filter keep } c1
  | _, _ => c

def execEntryForget (ch : Chan) (g : Nat) (mac : BitVec 48) (seq : Nat) (s : State) : Host.Outcome State Fault Refusal :=
  onChan ch (entryForgetC g mac seq) s

/-- LEARNED_ENTRY_AGE_OUT (14 R427). -/
def learnedEntryAgeOutC (mac : BitVec 48) (vid : Nat) (c : Channel) : Channel :=
  match c.sw.learned.find? (fun l => l.mac == mac && l.vid == vid) with
  | none => c
  | some l =>
    let c1 := upTo (l.at_ + entryNat c 0x2900 0x12 c.sw.cfg.age * 1000000000) c
    { c1 with sw := { c1.sw with learned := c1.sw.learned.erase l } }

def execLearnedEntryAgeOut (ch : Chan) (mac : BitVec 48) (vid : Nat) (s : State) : Host.Outcome State Fault Refusal :=
  onChan ch (learnedEntryAgeOutC mac vid) s

end Sys2Proof.Machine
end

