-- ==== Sys2Proof/Machine/Time.lean ====
section
/-! DEFINITION. The time counter, the servo and PTP, sample boundaries, host writes that wait for one, and the pulse
generators (13; 05 R165). -/
namespace Sys2Proof.Machine

/-- Does the counter run (02 R50)? In every mode but phase B1. -/
def counterRuns (c : Channel) : Bool := c.boot.powered && decide (2 ≤ c.boot.phase ∧ c.boot.phase ≠ 16)

/-- What a fabric cycle of 1.6 ns adds, in 2⁻³² ns, to the nearest unit (13 R395; log entry 19). -/
def cycleUnits : Int := 6871947674

/-- ±200 ppm of a cycle, in the same units (13 R395). -/
def adjMax : Int := 1374389
def clampAdj (a : Int) : Int := clampInt (-adjMax) adjMax a

/-- One fabric cycle of the counter; uptime goes on by the whole ns it passes (13 R395). -/
def fabricCycle (c : Channel) : Channel :=
  if counterRuns c then
    let v := c.time.ctr + BitVec.ofInt 96 (cycleUnits + c.time.adj)
    { c with time := { c.time with ctr := v, up := c.time.up + ((v >>> 32).toNat - nowNs c) } }
  else c

/-! ### Steps (02 R80; 06 R204; 13 R407, R413) -/

/-- Token rates of the classes with boundaries: F96, H14, S48, D24, P1. -/
def boundaryRates : List Nat := [96000, 14400, 4800, 2400, 1000]

/-- Boundaries of a class in the open range from `old` to `new`, as number after the last one passed. -/
def boundariesIn (f old new : Nat) : Nat := numberAt f (new - 1) - numberAt f old

/-- Has a generator issued or skipped its last edge? -/
def pgDone (x : PulseGen) : Bool := if x.set.period = 0 then decide (1 ≤ x.nextK) else x.set.count != 0 && decide (x.set.count ≤ x.nextK)

/-- Pulse edges that a forward step jumps over are skipped (13 R413). -/
def pgSkip (old new g : Nat) (x : PulseGen) (c : Channel) : Channel :=
  let at_ (k : Nat) : Nat := x.set.start + k * x.set.period
  if x.armed && decide (x.set.start < new) then
    let upto := if x.set.period = 0 then 1 else (new - 1 - x.set.start) / x.set.period + 1
    let last := if x.set.period = 0 then min upto 1 else if x.set.count = 0 then upto else min upto x.set.count
    if x.nextK < last ∧ old < at_ x.nextK then
      let y := { x with nextK := last }
      bumpN (0x2220 + g) 0x0C (last - x.nextK) { c with gens := kPut c.gens g (if pgDone y && !y.inPulse then { y with armed := false, status := 3 } else y) }
    else c
  else c

/-- What a forward step does to all that boundaries drive: those jumped over are not issued (02 R80). -/
def skipTo (new : Nat) (c : Channel) : Channel :=
  { c with
    ingest := { c.ingest with streams := kMapVals c.ingest.streams (fun _ x => { x with next := max x.next (numberAt x.cfg.rate (new - 1) + 1) }) },
    graphs := kMapVals c.graphs (fun _ g => { g with insts := kMapVals g.insts (fun _ x => { x with nextP1 := max x.nextP1 ((new + 999999) / 1000000 * 1000000) }) }),
    lse := kMapVals c.lse (fun _ L =>
      let t := L.prog.tcUs * 1000
      { L with nextB := max L.nextB ((new + t - 1) / max t 1 * t) }),
    time := { c.time with
      lastBoundary := (List.range 5).foldl (fun m k => kPut m k (max ((kGet m k).getD 0) (numberAt (nth boundaryRates k 1000) (new - 1)))) c.time.lastBoundary,
      lastTick := max c.time.lastTick ((new + 999) / 1000 - 1) } }

/-- The servo steps the counter by `d` ns (13 R407). -/
def stepCounter (d : Int) (first : Bool) (c : Channel) : Channel :=
  let old := nowNs c
  let new := ((old : Int) + d).toNat
  let c1 := setRo 0x2200 0x0E (BitVec.ofInt 32 (clampInt (-2147483648) 2147483647 d)).toNat (bump 0x2200 0x0D
    { c with time := { c.time with ctr := c.time.ctr + BitVec.ofInt 96 ((new : Int) - old) * 0x100000000#96 } })
  let c2 := { c1 with diag := { c1.diag with snapStepped := c1.diag.snapStepped || (match c1.diag.snapT with
    | some t => decide (old < t.toNat ∧ t.toNat ≤ new)
    | none => false) } }
  if new ≤ old then c2
  else
    let n := boundaryRates.foldl (fun n f => n + boundariesIn f old new) 0
    let ticks := ((new + 999) / 1000 - 1) - max c.time.lastTick (old / 1000)
    let c3 := bumpN 0x2500 0x1E ticks (if first then bumpN 0x2000 0x10 n c2 else bumpN 0x2200 0x13 n c2)
    skipTo new (c3.gens.foldl (fun c x => pgSkip old new x.1 x.2 c) c3)

/-! ### Masters and paths (13 R400, R403, R404) -/

def ptpPortReset : PtpPort :=
  { delay := 0, delayKnown := false, missedRun := 0, unusable := false, offset := 0, syncs := [], reqSeq := 0, reqAt := 0,
    awaiting := false, respPend := none }
def ptpGet (c : Channel) (p : Nat) : PtpPort := (kGet c.time.ports p).getD ptpPortReset
def ptpPut (p : Nat) (x : PtpPort) (c : Channel) : Channel := { c with time := { c.time with ports := kPut c.time.ports p x } }

/-- clockIdentity from the host MAC address (13 R400; IEEE 1588-2019: EUI-64 with FF-FE between its halves). -/
def clockId (c : Channel) : U64 :=
  let m := (hostMac c).toNat
  BitVec.ofNat 64 (m / 16777216 * 1099511627776 + 0xFFFE000000 + m % 16777216)

def announceNs (c : Channel) : Nat := if entryNat c 0x2200 0x26 0 = 1 then 2000000000 else 1000000000
def lockThreshold (c : Channel) : Nat := entryNat c 0x2200 0x29 1000
def masterCapable (c : Channel) : Bool := entryNat c 0x2200 0x22 0 == 1
def ptpOn (c : Channel) (p : Nat) : Bool := entryNat c 0x2210 p 1 == 1

/-- Is a foreign master qualified: two Announces within four intervals, the latest not timed out (IEEE 1588-2019)? -/
def qualified (c : Channel) (x : Master) : Bool :=
  (match x.before with | some b => decide (x.heard ≤ b + 4 * announceNs c) | none => false) &&
    decide (c.time.up ≤ x.heard + entryNat c 0x2200 0x28 3 * announceNs c)

/-- The order of the best master clock algorithm (13 R400). -/
def rankOf (m : PtpMsg) : List Nat :=
  [m.priority1, m.clockClass, m.clockAccuracy, m.variance, m.priority2, m.gmId.toNat, m.steps]
def rankLt : List Nat → List Nat → Bool
  | a :: r, b :: s => if a < b then true else if b < a then false else rankLt r s
  | _, _ => false

/-- The channel's own rank: clockClass 248, accuracy 0xFE, variance 0xFFFF (log entry 19). -/
def ownRank (c : Channel) : List Nat :=
  [entryNat c 0x2200 0x23 128, 248, 0xFE, 0xFFFF, entryNat c 0x2200 0x24 128, (clockId c).toNat, 0]

/-- The best qualified master by rank, then port. -/
def bestMaster (c : Channel) : Option Master :=
  (c.time.masters.filter (qualified c)).foldl (fun b x =>
    match b with
    | none => some x
    | some y => if rankLt (rankOf x.msg ++ [x.port]) (rankOf y.msg ++ [y.port]) then some x else b) none

/-- The paths of the selected master that the servo may use, as stepsRemoved and port (13 R403, R404). -/
def usablePaths (c : Channel) : List (Nat × Nat) :=
  match c.time.gm with
  | none => []
  | some g => (c.time.masters.filter (fun x => x.msg.srcClock == g.msg.srcClock && ptpOn c x.port && linkUp c x.port &&
      !(ptpGet c x.port).unusable)).map (fun x => (x.msg.steps, x.port))

def bestPath (c : Channel) : Nat :=
  ((usablePaths c).foldl (fun b x =>
    match b with
    | none => some x
    | some y => if x.1 < y.1 ∨ (x.1 = y.1 ∧ x.2 < y.2) then some x else b) none).elim 0 (fun x => x.2)

/-- Enters a servo state (13 R405, R408). -/
def setServo (st : Servo) (c : Channel) : Channel :=
  let t := c.time
  match st with
  | .freerun => { c with time := { t with servo := .freerun, lastOffset := none, slope := none } }
  | .locking => { c with time := { t with servo := .locking, lastOffset := none, slope := none } }
  | .locked => raiseLimited 22 0xFF 0 0 0 { c with time := { t with servo := .locked, outRun := 0, inRun := 0, limitPassed := false, freq := t.adj } }
  | .holdover => raiseLimited 23 0xFF 0 0 0 { c with time := { t with servo := .holdover, inRun := 0, holdAt := t.up, adj := t.freq } }

/-- HOLDOVER from LOCKED; other states stay. -/
def leaveLocked (c : Channel) : Channel := match c.time.servo with | .locked => setServo .holdover c | _ => c

/-- Selects the path with the lowest rank anew (13 R404). -/
def selectPath (c : Channel) : Channel :=
  let new := bestPath c
  let old := c.time.selPort
  if new = old then c
  else
    let c1 := { c with time := { c.time with selPort := new } }
    let far := decide (lockThreshold c < ((ptpGet c new).offset - (ptpGet c old).offset).natAbs)
    if old ≠ 0 ∧ new ≠ 0 ∧ far = true then leaveLocked c1 else c1

/-- What an Announce of the selected master tells: UTC offset and flags (13 R409). -/
def takeUtc (m : PtpMsg) (c : Channel) : Channel :=
  { c with time := { c.time with utcOffset := if m.utcValid then m.utcOffset else c.time.utcOffset, utcValid := m.utcValid, leapKnown := m.utcValid } }

/-- A master is selected (13 R400, R405). -/
def selectMaster (x : Master) (c : Channel) : Channel :=
  let changed := match c.time.lastGm with | some g => g != x.msg.srcClock | none => false
  let c1 := { c with time := { c.time with gm := some x, lastGm := some x.msg.srcClock } }
  let c2 := if changed then raiseLimited 26 0xFF 0 0 0 (bump 0x2200 0x0F c1) else c1
  let c3 := match c2.time.servo with
    | .freerun => setServo .locking c2
    | .locking => if changed then setServo .locking c2 else c2
    | .locked => if changed then setServo .holdover c2 else c2
    | .holdover => c2
  selectPath (takeUtc x.msg c3)

/-- In HOLDOVER without a usable master the counter runs at the last frequency (13 R405). -/
def runFree (c : Channel) : Channel := { c with time := { c.time with adj := c.time.freq, inRun := 0 } }

/-- The master is lost (13 R405). -/
def loseMaster (c : Channel) : Channel :=
  let c1 := { c with time := { c.time with gm := none, selPort := 0 } }
  match c1.time.servo with
  | .locking => setServo .freerun c1
  | .locked => setServo .holdover c1
  | .holdover => runFree c1
  | .freerun => c1

/-- The best master clock algorithm as the masters stand (13 R400). -/
def bmca (c : Channel) : Channel :=
  match bestMaster c with
  | none => c
  | some x =>
    if masterCapable c && rankLt (ownRank c) (rankOf x.msg) then (if c.time.gm.isSome then loseMaster c else c)
    else match c.time.gm with
      | some g =>
        if g.msg.srcClock = x.msg.srcClock then
          let c1 := selectPath (takeUtc x.msg { c with time := { c.time with gm := some x } })
          if 7 < x.msg.clockClass then leaveLocked c1 else c1
        else selectMaster x c
      | none => selectMaster x c

/-- ANNOUNCE_RECEIVED (13 R400, R405). -/
def announceReceivedC (p : Nat) (m : PtpMsg) (c : Channel) : Channel :=
  if counterRuns c && linkUp c p && decide (m.domain = entryNat c 0x2200 0x20 0) && m.srcClock != clockId c && decide (m.steps < 255) then
    let same (x : Master) : Bool := x.port == p && x.msg.srcClock == m.srcClock && x.msg.srcPort == m.srcPort
    let old := c.time.masters.find? same
    let x : Master := ⟨p, m, c.time.up, old.map (fun o => o.heard)⟩
    bmca { c with time := { c.time with masters := c.time.masters.filter (fun y => !same y) ++ [x] } }
  else c
def execAnnounceReceived (ch : Chan) (p : Nat) (m : PtpMsg) (s : State) : Host.Outcome State Fault Refusal :=
  onChan ch (announceReceivedC p m) s

/-- ANNOUNCE_RECEIPT_TIMEOUT: the timeout of the selected master has passed (13 R405; log entry 9). -/
def announceReceiptTimeoutC (c : Channel) : Channel :=
  match c.time.gm with
  | none => c
  | some g =>
    let last := c.time.masters.foldl (fun t x => if x.msg.srcClock = g.msg.srcClock then max t x.heard else t) g.heard
    let c1 := upTo (last + entryNat c 0x2200 0x28 3 * announceNs c) c
    bmca (loseMaster { c1 with time := { c1.time with masters := c1.time.masters.filter (fun x => x.msg.srcClock != g.msg.srcClock) } })
def execAnnounceReceiptTimeout (ch : Chan) (s : State) : Host.Outcome State Fault Refusal := onChan ch announceReceiptTimeoutC s

/-! ### Syncs (13 R401, R404, R405) -/

/-- A frequency adjustment the spec leaves to the servo, within its range (log entry 2). -/
def freeAdj (c : Channel) : Int × Channel :=
  let d := draw c
  ((d.1.toNat % 2748779 : Nat) - adjMax, d.2)

/-- The first lock: the counter steps once, the estimated frequency is loaded (02 R80; 13 R405). -/
def firstLock (off : Int) (slope : Int × Nat) (c : Channel) : Channel :=
  let a := clampAdj (c.time.adj - slope.1 * cycleUnits / (max slope.2 1 : Nat))
  let c1 := stepCounter (-off) true { c with time := { c.time with adj := a } }
  setServo .locked { c1 with time := { c1.time with firstLocked := true, firstLock := BitVec.ofNat 64 (nowNs c1) } }

/-- A slew: the frequency moves off the last one by a free amount up to the maximum slew rate, against the offset. -/
def slew (off : Int) (c : Channel) : Channel :=
  let most := entryNat c 0x2200 0x2C 50000 * 6871947674 / 1000000000
  let d := draw c
  let k : Int := (d.1.toNat % (most + 1) : Nat)
  { d.2 with time := { d.2.time with adj := clampAdj (if 0 < off then c.time.freq - k else c.time.freq + k) } }

/-- An offset on the selected path moves the servo (13 R405); `mt` is the master time of the Sync. -/
def servoSync (off : Int) (mt : Nat) (c : Channel) : Channel :=
  let t := c.time
  let near := decide (off.natAbs ≤ lockThreshold c)
  let next := { c with time := { t with lastOffset := some (off, mt), offset := off } }
  match t.servo with
  | .freerun => next
  | .locking =>
    match t.lastOffset, t.slope with
    | some (o, m), some (d, k) =>
      let want := o + d * ((mt : Int) - m) / (max k 1 : Nat)
      if (off - want).natAbs ≤ 1000 ∧ (ptpGet c t.selPort).delayKnown = true then firstLock off (off - o, mt - m) next
      else { next with time := { next.time with slope := some (off - o, mt - m) } }
    | some (o, m), none => { next with time := { next.time with slope := some (off - o, mt - m) } }
    | none, _ => next
  | .locked =>
    let c1 := { next with time := { next.time with highWater := max t.highWater off.natAbs } }
    if near then
      let r := freeAdj c1
      { r.2 with time := { r.2.time with adj := r.1, freq := r.1, outRun := 0 } }
    else if 4 ≤ t.outRun + 1 then setServo .holdover c1
    else { c1 with time := { c1.time with outRun := t.outRun + 1 } }
  | .holdover =>
    match t.gm with
    | none => runFree next
    | some g =>
      if 7 < g.msg.clockClass then runFree next
      else if near && decide (1 ≤ t.inRun) then setServo .locked { next with time := { next.time with freq := t.adj } }
      else
        let c1 := { next with time := { next.time with inRun := if near then t.inRun + 1 else 0 } }
        if entryNat c 0x2200 0x2B 1 = 0 ∨ off.natAbs ≤ entryNat c 0x2200 0x2A 100000 then slew off c1
        else raiseLimited 25 0xFF 0 0 0 (stepCounter (-off) false c1)

/-- Asymmetry of a port in ns (2215). -/
def asymmetry (c : Channel) (p : Nat) : Int := signed 32 (entryNat c 0x2215 p 0)

/-- An offset is known on a port (13 R404): the selected path's moves the servo, the others are reported. -/
def pathOffset (p : Nat) (m : PtpMsg) (rx origin : Nat) (corr : Int) (c : Channel) : Channel :=
  match c.time.gm with
  | none => c
  | some g =>
    if g.msg.srcClock ≠ m.srcClock then c
    else
      let x := ptpGet c p
      let mt : Int := origin + corr / 65536 + x.delay + asymmetry c p
      let off := (rx : Int) - mt
      let c1 := selectPath (ptpPut p { x with offset := off } c)
      if c1.time.selPort = p then servoSync off mt.toNat c1 else c1

/-- SYNC_RECEIVED: a Sync of the domain with its receive timestamp (13 R401, R405). A two-step one waits for its
Follow_Up, at most 16 a port. -/
def syncReceivedC (p : Nat) (m : PtpMsg) (rx : Nat) (c : Channel) : Channel :=
  if counterRuns c && linkUp c p && decide (m.domain = entryNat c 0x2200 0x20 0) then
    let c1 := bump 0x2218 p c
    let x := ptpGet c1 p
    if m.twoStep then
      if x.syncs.length < 16 then ptpPut p { x with syncs := x.syncs ++ [⟨m, rx, (x.delay + asymmetry c p) * 65536, []⟩] } c1 else c1
    else pathOffset p m rx m.origin m.correction c1
  else c
def execSyncReceived (ch : Chan) (p : Nat) (m : PtpMsg) (rx : Nat) (s : State) : Host.Outcome State Fault Refusal :=
  onChan ch (syncReceivedC p m rx) s

/-- The corrections of a Sync in the copies of its Follow_Up that wait at the egress ports (13 R401). -/
def correctFollowUp (p : Nat) (h : HeldSync) (m : PtpMsg) (c : Channel) : Channel :=
  let fix (o : Nat) (f : QFrame) : QFrame :=
    match f.frame.body with
    | .ptp y =>
      if f.inPort = p ∧ y.msgType = 8 ∧ y.seqId = m.seqId ∧ y.srcClock = m.srcClock ∧ y.srcPort = m.srcPort then
        { f with frame := { f.frame with body := .ptp { y with correction := y.correction + h.base + ((kGet h.residence o).getD 0 : Nat) } } }
      else f
    | _ => f
  { c with sw := { c.sw with ports := kMapVals c.sw.ports (fun o x => { x with queues := kMapVals x.queues (fun _ l => l.map (fix o)) }) } }

/-- FOLLOW_UP_RECEIVED: matched within 10 ms by sequence and source it is corrected and gives the offset; otherwise it
is forwarded unchanged and counted (13 R401). -/
def followUpReceivedC (p : Nat) (m : PtpMsg) (c : Channel) : Channel :=
  if counterRuns c && linkUp c p then
    let x := ptpGet c p
    match x.syncs.find? (fun h => h.msg.seqId == m.seqId && h.msg.srcClock == m.srcClock && h.msg.srcPort == m.srcPort) with
    | none => bump 0x2200 0x12 c
    | some h =>
      let c1 := ptpPut p { x with syncs := x.syncs.erase h } c
      if h.rx + 10000000 < nowNs c then bump 0x2200 0x12 c1
      else pathOffset p m h.rx m.origin (h.msg.correction + m.correction) (correctFollowUp p h m c1)
  else c
def execFollowUpReceived (ch : Chan) (p : Nat) (m : PtpMsg) (s : State) : Host.Outcome State Fault Refusal :=
  onChan ch (followUpReceivedC p m) s

/-- FOLLOW_UP_MATCH_TIMEOUT: the oldest Sync held on the port has waited 10 ms (13 R401). -/
def followUpMatchTimeoutC (p : Nat) (c : Channel) : Channel :=
  let x := ptpGet c p
  match x.syncs with
  | [] => c
  | h :: r => ptpPut p { x with syncs := r } (advanceTo (h.rx + 10000000) c)
def execFollowUpMatchTimeout (ch : Chan) (p : Nat) (s : State) : Host.Outcome State Fault Refusal := onChan ch (followUpMatchTimeoutC p) s

/-! ### Peer delay (13 R399, R403) -/

def ptpMulticast : BitVec 48 := 0x011B19000000#48
def pdelayMulticast : BitVec 48 := 0x0180C200000E#48

/-- A PTP message of the channel on a port, in the queue of R422. -/
def sendPtp (p ts : Nat) (dst : BitVec 48) (m : PtpMsg) (c : Channel) : Channel :=
  let f : Frame := { dst := dst, src := hostMac c, vlan := vlanField (entryNat c 0x2200 0x2E 0xFFFF), len := 64, good := true,
                     red := .none, sec := none, body := .ptp m, head := [] }
  enqueue p (if m.msgType ≤ 3 then 7 else 6) ⟨f, 0, 0, ts⟩ c

def ptpMsg (c : Channel) (p ty seq : Nat) : PtpMsg :=
  { msgType := ty, domain := entryNat c 0x2200 0x20 0, seqId := seq, srcClock := clockId c, srcPort := p, correction := 0,
    twoStep := false, origin := 0, reqClock := 0, reqPort := 0, priority1 := entryNat c 0x2200 0x23 128, clockClass := 248,
    clockAccuracy := 0xFE, variance := 0xFFFF, priority2 := entryNat c 0x2200 0x24 128, gmId := clockId c, steps := 0,
    utcOffset := c.time.utcOffset, utcValid := c.time.utcValid, leapKnown := c.time.leapKnown }

/-- PDELAY_REQ_RECEIVED: answered with a one-step Pdelay_Resp, whose turnaround its egress adds (13 R403). -/
def pdelayReqReceivedC (p : Nat) (m : PtpMsg) (rx : Nat) (c : Channel) : Channel :=
  if counterRuns c && linkUp c p && ptpOn c p && decide (1 ≤ p ∧ p ≤ 12) then
    sendPtp p (rx * 65536) pdelayMulticast { ptpMsg c p 3 m.seqId with correction := m.correction, reqClock := m.srcClock, reqPort := m.srcPort } c
  else c
def execPdelayReqReceived (ch : Chan) (p : Nat) (m : PtpMsg) (rx : Nat) (s : State) : Host.Outcome State Fault Refusal :=
  onChan ch (pdelayReqReceivedC p m rx) s

/-- A measured link delay; the port's path is usable again. -/
def linkDelay (p : Nat) (d : Int) (c : Channel) : Channel :=
  let x := ptpGet c p
  selectPath (ptpPut p { x with delay := d.toNat, delayKnown := true, missedRun := 0, unusable := false, awaiting := false, respPend := none } c)

/-- PDELAY_RESP_RECEIVED: the answer to the port's latest request; a two-step peer's second part completes it
(13 R399, R403). -/
def pdelayRespReceivedC (p : Nat) (m : PtpMsg) (rx : Nat) (c : Channel) : Channel :=
  let x := ptpGet c p
  if counterRuns c && x.awaiting && decide (m.seqId = x.reqSeq) && m.reqClock == clockId c && decide (m.reqPort = p) then
    if m.msgType = 10 then
      match x.respPend with
      | some (t4, t2) => linkDelay p ((((t4 : Int) - x.reqAt) - ((m.origin : Int) - t2) - m.correction / 65536) / 2) c
      | none => c
    else if m.twoStep then ptpPut p { x with respPend := some (rx, m.origin) } c
    else linkDelay p ((((rx : Int) - x.reqAt) - m.correction / 65536) / 2) c
  else c
def execPdelayRespReceived (ch : Chan) (p : Nat) (m : PtpMsg) (rx : Nat) (s : State) : Host.Outcome State Fault Refusal :=
  onChan ch (pdelayRespReceivedC p m rx) s

/-- PDELAY_INTERVAL: an unanswered request is a miss, the third in a row makes the path unusable; then the next request
goes out (13 R403). -/
def pdelayIntervalC (p : Nat) (c : Channel) : Channel :=
  if counterRuns c && linkUp c p && ptpOn c p && decide (1 ≤ p ∧ p ≤ 12) then
    let x := ptpGet c p
    let run := if x.awaiting then x.missedRun + 1 else 0
    let c1 := if x.awaiting then bump 0x2212 p c else c
    let x1 := { x with missedRun := run, unusable := x.unusable || decide (3 ≤ run), awaiting := true, reqSeq := (x.reqSeq + 1) % 65536,
                       reqAt := nowNs c, respPend := none }
    selectPath (sendPtp p (stampNow c) pdelayMulticast (ptpMsg c p 2 x1.reqSeq) (ptpPut p x1 c1))
  else c
def execPdelayInterval (ch : Chan) (p : Nat) (s : State) : Host.Outcome State Fault Refusal := onChan ch (pdelayIntervalC p) s

/-! ### The channel as master (13 R399, R400) -/

/-- Does the channel act as master: capable, and no other master selected? -/
def actsAsMaster (c : Channel) : Bool := counterRuns c && masterCapable c && c.time.gm.isNone

/-- A message on every enabled front port that is up. -/
def sendMaster (ty seq : Nat) (c : Channel) : Channel :=
  ((List.range 12).map (· + 1)).foldl (fun c p =>
    if linkUp c p && ptpOn c p then sendPtp p (stampNow c) ptpMulticast { ptpMsg c p ty seq with origin := nowNs c } c else c) c

/-- SYNC_INTERVAL. -/
def syncIntervalC (c : Channel) : Channel :=
  if actsAsMaster c then
    sendMaster 0 c.time.syncSeq { c with time := { c.time with syncSeq := (c.time.syncSeq + 1) % 65536 } }
  else c
def execSyncInterval (ch : Chan) (s : State) : Host.Outcome State Fault Refusal := onChan ch syncIntervalC s

/-- ANNOUNCE_INTERVAL. -/
def announceIntervalC (c : Channel) : Channel :=
  if actsAsMaster c then
    sendMaster 11 c.time.annSeq { c with time := { c.time with annSeq := (c.time.annSeq + 1) % 65536 } }
  else c
def execAnnounceInterval (ch : Chan) (s : State) : Host.Outcome State Fault Refusal := onChan ch announceIntervalC s

/-- HOLDOVER_LIMIT (13 R408). -/
def holdoverLimitC (c : Channel) : Channel :=
  match c.time.servo with
  | .holdover =>
    if c.time.limitPassed then c
    else
      let c1 := upTo (c.time.holdAt + entryNat c 0x2200 0x2D 14400 * 1000000000) c
      raiseLimited 24 0xFF 0 0 0 { c1 with time := { c1.time with limitPassed := true } }
  | _ => c
def execHoldoverLimit (ch : Chan) (s : State) : Host.Outcome State Fault Refusal := onChan ch holdoverLimitC s

/-- PORT_DOWN: queues flushed and E64; the servo selects its path anew (13 R404; 14 R441). -/
def portDownC (p : Nat) (c : Channel) : Channel :=
  if decide (1 ≤ p ∧ p ≤ 12) && (portGet c p).up then selectPath (linkDown p c) else c
def execPortDown (ch : Chan) (p : Nat) (s : State) : Host.Outcome State Fault Refusal := onChan ch (portDownC p) s

/-! ### Boundaries (13 R410) and host writes (05 R165) -/

/-- What a P1 boundary drives: the alignment record, the digests of the boundary, the firings of P1 instances that no
token triggers (05 R154; 12 R371, R373). -/
def p1Boundary (t : Nat) (c : Channel) : Channel :=
  let c1 := p1Digests t (post (.alignment t) c)
  if c1.boot.graphsRun then
    readyUpdate ((c1.graphs.flatMap (fun g => (List.range g.2.cfg.insts.length).map (fun i => (g.1, i)))).foldl (fun c x =>
      match kGet c.graphs x.1 with
      | some g => (match g.cfg.insts[x.2]? with | some r => if r.cls = 4 then evalFiring x.1 x.2 c else c | none => c)
      | none => c) c1)
  else c1

/-- SAMPLE_BOUNDARY: the next boundary of a class is issued, the first one at or past the counter that has not been
(13 R410). Classes: 0 F96, 1 H14, 2 S48, 3 D24, 4 P1. -/
def sampleBoundaryC (cls : Nat) (c : Channel) : Channel :=
  if counterRuns c && decide (cls ≤ 4) then
    let f := nth boundaryRates cls 1000
    let first := numberAt f (nowNs c - 1) + 1
    let n := match kGet c.time.lastBoundary cls with | some b => max (b + 1) first | none => first
    let t := instantOf f n
    let c1 := advanceTo t c
    let c2 := { c1 with time := { c1.time with lastBoundary := kPut c1.time.lastBoundary cls n } }
    if cls = 4 then p1Boundary t c2 else c2
  else c
def execSampleBoundary (ch : Chan) (cls : Nat) (s : State) : Host.Outcome State Fault Refusal := onChan ch (sampleBoundaryC cls) s

/-- A HOST source's token for an entry, in every graph that binds it (05 R162, R165). -/
def hostToken (key t : Nat) (d : List Byte) (c : Channel) : Channel :=
  c.graphs.foldl (fun c g =>
    let hit := ((List.range g.2.cfg.sources.length).zip g.2.cfg.sources).filter (fun s => s.2.kind == 6 && s.2.a == key)
    if hit.isEmpty then c
    else
      let tok : Token := ⟨0, false, false, false, hostWords c key d, 0, BitVec.ofNat 64 t⟩
      pushSources g.1 (hit.map (fun s => (ringKey true s.1 0, tok))) ((kGet c.graphs g.1).getD g.2) c) c

/-- HOST_WRITE_EFFECT: the write to a HOST-bound entry that waits takes effect at its boundary (05 R165; 21 R618). -/
def hostWriteEffectC (index sub : Nat) (c : Channel) : Channel :=
  let key := od index sub
  match c.dict.pendingW.find? (fun w => w.key == key) with
  | none => c
  | some w =>
    let c1 := advanceTo w.at_ { c with dict := { c.dict with pendingW := c.dict.pendingW.erase w, overlay := kPut c.dict.overlay key w.data } }
    hostToken key w.at_ w.data c1
def execHostWriteEffect (ch : Chan) (i sub : Nat) (s : State) : Host.Outcome State Fault Refusal := onChan ch (hostWriteEffectC i sub) s

/-! ### Pulse generators (13 R411 to R414) -/

def pgGet (c : Channel) (g : Nat) : PulseGen := (kGet c.gens g).getD pgReset
def pgPut (g : Nat) (x : PulseGen) (c : Channel) : Channel := { c with gens := kPut c.gens g x }

/-- The pending set: the generator's entries (13 R412). -/
def pgEntries (c : Channel) (g : Nat) : PgSet :=
  let i := 0x2220 + g
  { output := entryNat c i 2 0, source := entryNat c i 3 0xFFFF, start := entryNat c i 4 0, period := entryNat c i 5 0,
    width := entryNat c i 6 100, count := entryNat c i 7 0, gate := entryNat c i 8 1, low := entryNat c i 9 0 == 1,
    event := entryNat c i 0x0D 0 == 1 }

/-- The set loads: MISSED, or armed from the first edge at least 2 µs on (13 R413; log entry 19). -/
def pgLoad (g : Nat) (s : PgSet) (c : Channel) : Channel :=
  let x := pgGet c g
  let least := nowNs c + 2000
  let y := { x with set := s, reload := none, disarmAfter := false, inPulse := false, level := s.low }
  if s.period = 0 then
    if s.start < least then pgPut g { y with armed := false, status := 4, nextK := 0 } c
    else pgPut g { y with armed := true, status := 1, nextK := 0 } c
  else
    let k := if least ≤ s.start then 0 else (least - s.start + s.period - 1) / s.period
    if s.count ≠ 0 ∧ s.count ≤ k then pgPut g { y with armed := false, status := 3, nextK := k } c
    else pgPut g { y with armed := true, status := 1, nextK := k } c

/-- Arming as it takes effect: a pulse in progress completes first (13 R412). -/
def pgArmNow (g : Nat) (c : Channel) : Channel :=
  let s := pgEntries c g
  if (pgGet c g).inPulse then pgPut g { pgGet c g with reload := some s, disarmAfter := false } c else pgLoad g s c

/-- May the pending set be loaded (13 R412)? -/
def pgSetOk (c : Channel) (g : Nat) : Bool :=
  let s := pgEntries c g
  (s.output == 0 || !c.gens.any (fun x => x.1 != g && x.2.armed && x.2.set.output == s.output)) &&
    (if s.period = 0 then decide (100 ≤ s.width) else decide (100 ≤ s.width ∧ s.width + 100 ≤ s.period))

/-- PG_ARM: 1 written to OD 2220+g:01. -/
def pgArmC (p : Path) (g : Nat) (c : Channel) : Channel :=
  if 4 ≤ g then (if pathLive p c then refuse 0x0101 (0x2220 + g) 1 p c else c)
  else writeGate p [2, 3, 4, 5] (0x2220 + g) 1 (fun c =>
    if pgSetOk c g then pgArmNow g (accept p (.pg g true) c) else refuse 0x0105 (0x2220 + g) 1 p c) c
def execPgArm (p : Path) (g : Nat) (s : State) : Host.Outcome State Fault Refusal := onPath p (.pgArm p g) (pgArmC p g) s

/-- Disarming as it takes effect. -/
def pgDisarmNow (g : Nat) (c : Channel) : Channel :=
  let x := pgGet c g
  if x.inPulse then pgPut g { x with disarmAfter := true, reload := none } c else pgPut g { x with armed := false, status := 0, reload := none } c

/-- PG_DISARM: 0 written to OD 2220+g:01. -/
def pgDisarmC (p : Path) (g : Nat) (c : Channel) : Channel :=
  if 4 ≤ g then (if pathLive p c then refuse 0x0101 (0x2220 + g) 1 p c else c)
  else writeGate p [2, 3, 4, 5] (0x2220 + g) 1 (fun c => pgDisarmNow g (accept p (.pg g false) c)) c
def execPgDisarm (p : Path) (g : Nat) (s : State) : Host.Outcome State Fault Refusal := onPath p (.pgDisarm p g) (pgDisarmC p g) s

def pgGate (c : Channel) (gate : Nat) : Bool :=
  gate == 0 || (match c.time.servo with | .locked => true | .holdover => gate == 2 | _ => false)

/-- PULSE_ACTIVE_EDGE: the next edge is issued, or skipped where the gate is false (13 R411, R413). -/
def pulseActiveEdgeC (g : Nat) (c0 : Channel) : Channel :=
  let x0 := pgGet c0 g
  if x0.armed && !x0.inPulse && !pgDone x0 then
    let t := x0.set.start + x0.nextK * x0.set.period
    let c := advanceTo t c0
    let x := { x0 with nextK := x0.nextK + 1 }
    if !pgGate c x.set.gate then
      bump (0x2220 + g) 0x0C (pgPut g (if pgDone x then { x with armed := false, status := 3 } else x) c)
    else
      let c1 := bump (0x2220 + g) 0x0B (pgPut g { x with inPulse := true, pulseEnd := t + x.set.width, status := 2, level := !x.set.low } c)
      let c2 := if x.set.output = 0 then c1 else emit (.pulse x.set.output (!x.set.low)) c1
      let c3 := if x.set.source = 0xFFFF then c2 else pleatTrigger x.set.source t c2
      if x.set.event then raiseLimited 27 0xFF g 0 g c3 else c3
  else c0
def execPulseActiveEdge (ch : Chan) (g : Nat) (s : State) : Host.Outcome State Fault Refusal := onChan ch (pulseActiveEdgeC g) s

/-- PULSE_INACTIVE_EDGE: the width has elapsed; a set or a disarm that waited applies (13 R411, R412). -/
def pulseInactiveEdgeC (g : Nat) (c0 : Channel) : Channel :=
  let x := pgGet c0 g
  if x.inPulse then
    let c := advanceTo x.pulseEnd c0
    let c1 := if x.set.output = 0 then c else emit (.pulse x.set.output x.set.low) c
    let y := { x with inPulse := false, level := x.set.low }
    match x.reload with
    | some s => pgLoad g s (pgPut g y c1)
    | none =>
      if x.disarmAfter then pgPut g { y with armed := false, status := 0, disarmAfter := false } c1
      else if pgDone y then pgPut g { y with armed := false, status := 3 } c1
      else pgPut g y c1
  else c0
def execPulseInactiveEdge (ch : Chan) (g : Nat) (s : State) : Host.Outcome State Fault Refusal := onChan ch (pulseInactiveEdgeC g) s

end Sys2Proof.Machine
end

