-- ==== Sys2Proof/Machine/Cycle.lean ====
section
/-! DEFINITION. What the block does while no command waits (log entry 1). -/
namespace Sys2Proof.Machine

/-- One cycle of the fabric clock passes on both channels: their time counters advance (13 R395; 01 R32). -/
def idle (s : State) : State := { s with a := fabricCycle s.a, b := fabricCycle s.b }

end Sys2Proof.Machine
end

