-- ==== Sys2Proof/Machine/GraphCheck.lean ====
section
/-! DEFINITION. The checks of a graph image (05 R144 to R182; 09 R275, R285, R286, R297, R303, R689). -/
namespace Sys2Proof.Machine

/-! ### The library's signatures (09 R285) -/

/-- The library's operator codes, in the order of R285. -/
def opCodes : List Nat :=
  [0x0101, 0x0102, 0x0103, 0x0104, 0x0105, 0x0106, 0x0107, 0x0108, 0x0109, 0x010A, 0x010B, 0x010C, 0x010D, 0x0201, 0x0202, 0x0203,
   0x0301, 0x0302, 0x0303, 0x0304, 0x0305, 0x0306, 0x0307, 0x0308]

/-- Least and greatest number of input ports. -/
def opPorts (op : Nat) : Nat × Nat :=
  if op = 0x0101 ∨ op = 0x0107 then (1, 3) else if op = 0x0102 then (3, 3) else if op = 0x0105 ∨ op = 0x010A then (2, 2)
  else if op = 0x0106 ∨ op = 0x0203 then (2, 12) else if op = 0x0109 then (2, 6) else if op = 0x010B ∨ op = 0x010D then (2, 3)
  else if op = 0x010C then (1, 4) else if op = 0x0201 ∨ op = 0x0305 then (1, 2) else if op = 0x0301 then (2, 16)
  else if op = 0x0306 then (1, 16) else (1, 1)

/-- Classes an operator may run in. -/
def opClass (op cls : Nat) : Bool :=
  if op = 0x010C then cls == 4
  else if [0x0201, 0x0202, 0x0203].contains op then decide (cls ≤ 2)
  else if [0x0301, 0x0302, 0x0304, 0x0307, 0x0308].contains op then decide (cls ≤ 5)
  else if op = 0x0303 then decide (cls ≤ 4)
  else if op = 0x0306 then decide (cls ≤ 3) || cls == 5
  else decide (cls ≤ 3)

/-- May port `p` be a sample port, and must it be? -/
def opSample (op p : Nat) : Bool :=
  op == 0x010C || ((op == 0x010B || op == 0x0201 || op == 0x0305) && decide (1 ≤ p))

/-- Payload types of input port `p`; `mode` is the first setting. -/
def opInTypes (op mode p : Nat) : List Nat :=
  if opSample op p && op != 0x010C then [1]
  else if [0x0102, 0x0105, 0x0108, 0x0109, 0x010A].contains op then [5]
  else if op = 0x0101 ∨ [0x0201, 0x0202, 0x0203, 0x0304].contains op then [2, 4]
  else if op = 0x010D then (if mode = 0 then [2, 4] else [5])
  else if op = 0x0302 then [2, 3, 4]
  else if op = 0x0303 ∨ op = 0x0307 then [1, 2, 3, 4, 5, 6, 7, 8, 9]
  else if op = 0x0305 ∨ op = 0x0306 ∨ op = 0x0308 then [1]
  else [2, 4, 5]

/-- Payload types of the output ports. -/
def opOutTypes (op : Nat) (ins : List PortDef) : List Nat :=
  let t0 := (nth ins 0 ⟨false, 0, 0⟩).ty
  if op = 0x0101 then ins.map (fun _ => 5) else if op = 0x0102 then [5, 5, 5]
  else if [0x0103, 0x0104, 0x0105, 0x0107, 0x010B].contains op then [1, 1]
  else if op = 0x0106 ∨ op = 0x0201 then [1, 1, 1] else if op = 0x0108 then [4, 4, 1, 1, 1]
  else if op = 0x0109 ∨ op = 0x010C then [4, 1, 1] else if op = 0x010A ∨ op = 0x0304 ∨ op = 0x0305 then [1]
  else if op = 0x010D then [4, 2, 1, 1] else if op = 0x0202 then [1, 1, 4] else if op = 0x0203 then [1, 2, 4]
  else if op = 0x0301 then [if t0 = 5 then 5 else 4] else if op = 0x0302 then [4] else if op = 0x0303 then [t0] else []

/-- Words of a payload type (05 R150). -/
def wordsOk (p : PortDef) : Bool :=
  if p.ty = 6 then inRange p.words 1 16 else if p.ty = 5 ∨ p.ty = 7 then p.words == 2 else if p.ty = 9 then p.words == 18
  else inRange p.ty 1 9 && p.words == 1

/-- Ports as the operator defines them (05 R182 code 0x05). DIFF and SUM take all PHASOR or all F32 and I32. -/
def portsOk (r : InstRec) : Bool :=
  let mode := (nth r.params 0 0).toNat
  let n := r.ins.length
  let ps := (List.range n).zip r.ins
  let same := if r.op = 0x0106 ∨ r.op = 0x0301 then r.ins.all (fun p => p.ty == 5) || r.ins.all (fun p => p.ty != 5) else true
  decide ((opPorts r.op).1 ≤ n ∧ n ≤ (opPorts r.op).2) && (r.op != 0x0109 || n == 2 || n == 6) &&
    ps.all (fun x => (opInTypes r.op mode x.1).contains x.2.ty && wordsOk x.2 && (x.2.flag != opSample r.op x.1)) && same &&
    r.outs.map (fun p => p.ty) == opOutTypes r.op r.ins && r.outs.all wordsOk &&
    (r.op != 0x0303 || r.outs.map (fun p => p.words) == r.ins.map (fun p => p.words))

/-! ### Settings (09 R284, R286, R297, R303) -/

/-- The range of a setting: a number, or an F32 between two values given in 1/1000. -/
inductive SetRange where
  | u (lo hi : Nat)
  | f (lo hi : Int)
  | pos
  | any
  deriving DecidableEq, Repr

def setOk (r : SetRange) (w : U32) : Bool :=
  match r with
  | .u lo hi => inRange w.toNat lo hi
  | .f lo hi => f32Finite w && f32Le (f32OfRat lo 1000) w && f32Le w (f32OfRat hi 1000)
  | .pos => f32Finite w && f32Lt 0 w
  | .any => f32Finite w

def usDelay : SetRange := .u 0 600000000
/-- The four words of a stage, its pickup range in 1/1000. -/
def stageRange (under : Bool) (lo hi : Int) : List SetRange := [.f lo hi, if under then .f 1010 2000 else .f 500 990, usDelay, usDelay]

/-- The settings of an operator with `k` input ports, in block order; `mode` is the second setting of UVOV. -/
def opSettings (op k mode : Nat) : List SetRange :=
  let m : Int := 1000000000
  if op = 0x0101 then [.u 0 1, .u 8 320, .pos]
  else if op = 0x0102 then [.u 0 1]
  else if op = 0x0103 then .pos :: stageRange false 1000 m
  else if op = 0x0104 then [.pos, .u 0 7, .f 1000 100000000, .f 10 100000, usDelay, usDelay, .u 0 2, usDelay]
  else if op = 0x0105 then [.f (-180000) 180000, .f 10000 90000, .f 0 100000000, .f 0 100000000]
  else if op = 0x0106 then .pos :: .u k k :: (List.replicate k (.f 50 20000) ++
    [.f 1000 100000000, .f 0 1000, .f 1000 m, .f 0 2000, .f 1000 m, usDelay])
  else if op = 0x0107 then [.pos, .u 0 1, .u 0 1] ++ stageRange (mode == 0) 1000 2000000000 ++ [.f 0 2000000000]
  else if op = 0x0108 then [.u 50 60, .u 0 1, .f 40000 70000, .f 10 1000, usDelay, usDelay, .f 0 10000, usDelay, .u 8 4800, .f 0 2000000000]
  else if op = 0x0109 then .u 0 1 :: (stageRange false 0 1000000000000 ++ [.f (-5000) 5000])
  else if op = 0x010A then [.f 1000 50000, .f 10 1000, .f 1000 60000, .f 0 2000000000, .f 0 2000000000, .u 0 4, .u 8 4800]
  else if op = 0x010B then [.pos, .u 0 2, .f 1000 100000000, usDelay, usDelay]
  else if op = 0x010C then [.pos, .f 1000 100000000, .f 1000 100000000, .f 1000 100000000, .f 500 2000, .f 500 2000, .f 100 2000, .f 0 2000]
  else if op = 0x010D then [.u 0 1, .pos, .u 8 4800, .f 50 950, usDelay, .f 50 1000, usDelay, .f 0 2000000000]
  else if op = 0x0201 then [.u 0 2, .pos, .f 1000 m, .u 1 8, .f 1000 m, .u 1 1024, usDelay, .f 500 990, .f 100 1000]
  else if op = 0x0202 then [.u 0 2, .pos, .f 100 10000000, .u 2 32, .f 0 m, .u 1 8]
  else if op = 0x0203 then [.pos, .u 8 1024, .f 20 1000, .f 0 100000000, usDelay, usDelay]
  else if op = 0x0301 then .u k k :: List.replicate k (.f (-1000000000) 1000000000)
  else if op = 0x0302 then [.any, .any]
  else if op = 0x0303 then [.u 1 4096]
  else if op = 0x0304 then [.u 0 1, .any, .f 0 (340282346638528859811704183484516925440 * 1000)]
  else if op = 0x0305 then [.u 0 3, usDelay]
  else if op = 0x0306 then [.u 0 511, .u 0 1000000]
  else if op = 0x0307 then [.u 0 2, .u 0 255, .u 0 63]
  else [.u 0 255, .u 0 1]

/-- Conditions between settings, and port counts that a setting fixes (09 R286, R288, R297, R689). -/
def settingsAgree (r : InstRec) : Bool :=
  let p (i : Nat) : U32 := nth r.params i 0
  let k := r.ins.length
  let op := r.op
  if op = 0x0101 then (p 1).toNat % 2 == 0
  else if op = 0x0104 then (p 6).toNat != 2 || decide (5 ≤ (p 1).toNat)
  else if op = 0x0108 then ((p 0).toNat == 50 || (p 0).toNat == 60) && (f32IsZero (p 6) || f32Le (f32OfRat 1 10) (p 6))
  else if op = 0x0109 then k == (if (p 0).toNat = 0 then 6 else 2)
  else if op = 0x010B then (p 1).toNat == 0 || k == 3
  else if op = 0x010C then f32Lt (p 6) (p 5)
  else if op = 0x010D then k == (if (p 0).toNat = 0 then 2 else 3) && f32Lt (p 3) (p 5)
  else if op = 0x0305 then (p 0).toNat != 3 || k == 2
  else if op = 0x0307 then (p 0).toNat != 2 || inRange (p 1).toNat 1 4
  else true

/-- Settings and initial state of an instance (05 R180; code 0x04). -/
def paramsOk (r : InstRec) : Bool :=
  let rs := opSettings r.op r.ins.length (nth r.params 1 0).toNat
  r.params.length == rs.length && (rs.zip r.params).all (fun x => setOk x.1 x.2) && settingsAgree r && r.version == 1

/-! ### Token rates (05 R152, R153): 0 none, 1 EVENT, 1000 P1, else tokens per second -/

def classRate (rate : Nat) : Nat :=
  if rate = 96000 ∨ rate = 24000 then 0 else if rate = 14400 then 1 else if rate = 4800 then 2 else if rate = 2400 then 3 else 9

/-- The rate of a source, from the streams and paths of the image. -/
def sourceRate (m : Image) (s : SourceRec) : Nat :=
  let st (n : Nat) : Nat := match m.streams.find? (fun x => x.num == n) with | some x => x.rate | none => 0
  if s.kind = 1 then st s.a
  else if s.kind = 2 then (match m.paths.find? (fun p => p.num == s.a) with
    | some p => st p.stream / presetFactor p.preset (st p.stream)
    | none => 0)
  else if s.kind = 3 ∨ s.kind = 4 then 1 else 0

/-- The port an edge reads: instance port or source. -/
def edgeProducer (g : Graph) (e : EdgeRec) : Option PortDef :=
  if e.src then (g.sources[e.prod]?).bind (fun s => if e.prodPort = 0 then
      some ⟨false, s.ty, if s.ty = 5 ∨ s.ty = 7 then 2 else if s.ty = 9 then 18 else 1⟩ else none)
  else (g.insts[e.prod]?).bind (fun r => r.outs[e.prodPort]?)

/-- The trigger edges of instance `i` that name a producer; an edge that names none is reported at its own record (R182). -/
def triggersOf (g : Graph) (i : Nat) (r : InstRec) : List EdgeRec :=
  g.edges.filter (fun e => e.cons == i && edgeTrigger r e && (edgeProducer g e).isSome)

/-- The token rate of a producer; `fuel` bounds the chain. -/
def prodRate (m : Image) (g : Graph) : Nat → Bool → Nat → Nat
  | 0, _, _ => 0
  | n + 1, src, i =>
    if src then (match g.sources[i]? with | some s => sourceRate m s | none => 0)
    else match g.insts[i]? with
      | none => 0
      | some r =>
        if r.cls = 4 then 1000 else if r.cls = 5 then 1
        else match (triggersOf g i r).head? with
          | some e => prodRate m g n e.src e.prod
          | none => 0

/-- A rate as the class of a triggered instance needs it: a P1 rate comes from P1 instances alone. A producer of no rate
fails elsewhere: a source that may not trigger at its edge, one that is absent at its own record, a ring of triggers as a
cycle (R182). -/
def ratesOk (m : Image) (g : Graph) (i : Nat) (r : InstRec) : Bool :=
  let rates := ((triggersOf g i r).map (fun e => prodRate m g (g.insts.length + 1) e.src e.prod)).filter (fun x => x != 0)
  let ports := (r.ins.filter (fun p => p.flag)).length
  if r.cls = 4 then rates.all (fun x => x == 1000)
  else if r.cls = 5 then ports == 1 && rates.all (fun x => x == 1)
  else decide (1 ≤ ports) && (match rates with
    | [] => true
    | x :: l => classRate x == r.cls && l.all (fun y => y == x))

/-! ### Records (05 R175 to R179) -/

/-- A failure: code, sleeve, byte offset of the record, identity of the instance. -/
structure GFail where
  code : Nat
  sleeve : Nat
  off : Nat
  ident : Nat
  deriving DecidableEq, Repr

/-- The first check of a list that fails. -/
def firstFail (s off ident : Nat) : List (Nat × Bool) → Option GFail
  | [] => none
  | (code, ok) :: r => if ok then firstFail s off ident r else some ⟨code, s, off, ident⟩

/-- The graph header: `used` counts the instances, edges and sources of the sleeves before (05 R169, R176). -/
def headerCheck (s : Nat) (b : List Byte) (used : Nat × Nat × Nat) : Option GFail :=
  let ni := u32 b 8
  let ne := u32 b 12
  let ns := u32 b 16
  let ioff := u32 b 24
  let eoff := u32 b 28
  let soff := u32 b 32
  let poff := u32 b 36
  firstFail s 0 0 [
    (0x01, u16 b 0 == 0x0501 && u16 b 2 == 64 && u16 b 6 == 1 && zeros b 44 20 && ioff % 8 == 0 && eoff % 8 == 0 && soff % 8 == 0 &&
      poff % 8 == 0 && decide (64 ≤ ioff ∧ ioff ≤ eoff ∧ eoff + 24 * ne ≤ soff ∧ soff + 16 * ns ≤ poff ∧ poff + u32 b 20 ≤ b.length)),
    (0x02, decide (used.1 + ni ≤ 16384 ∧ used.2.1 + ne ≤ 65536 ∧ used.2.2 + ns ≤ 8192))]

/-- Does an instance before instance `i` of a sleeve name the trip signal (09 R306)? -/
def tripTaken (m : Image) (s i : Nat) (sig : U32) : Bool :=
  let names (r : InstRec) : Bool := r.op == 0x0306 && nth r.params 0 0 == sig
  (m.graphs.takeWhile (fun x => x.1 != s)).any (fun x => x.2.insts.any names) ||
    (m.graphs.any (fun x => x.1 == s && (x.2.insts.take i).any names))

/-- An instance record at offset `o`, position `i`. DUPLICATE_ID is reported at the first record of those that share an
identity (DESIGN CHOICE, log entry 51). -/
def instCheck (m : Image) (s : Nat) (b : List Byte) (g : Graph) (i o : Nat) : Option GFail :=
  match g.insts[i]? with
  | none => some ⟨0x01, s, o, 0⟩
  | some r =>
    let ni := u8 b (o + 9)
    let no := u8 b (o + 10)
    let pool := u32 b 36
    let plen := u32 b 20
    let par := pool + u32 b (o + 12)
    let inPool (off len : Nat) : Bool := decide (off + len ≤ plen)
    firstFail s o r.ident.toNat [
      (0x01, u16 b o == 0x0502 && u16 b (o + 2) == 32 + 8 * (ni + no) && u16 b (o + 4) == i && decide (r.cls ≤ 5 ∧ u8 b (o + 11) < 2) &&
        u32 b (o + 12) % 4 == 0 && zeros b (o + 18) 2 && u32 b (o + 24) % 4 == 0 && zeros b (o + 30) 2 &&
        (List.range ni).all (fun k => decide (u8 b (o + 32 + 8 * k) < 2) && zeros b (o + 35 + 8 * k) 5) &&
        (List.range no).all (fun k => decide (u8 b (o + 34 + 8 * (ni + k)) < 2) && zeros b (o + 35 + 8 * (ni + k)) 5) &&
        decide (o + 32 + 8 * (ni + no) ≤ u32 b 28)),
      (0x02, decide (ni ≤ 16 ∧ no ≤ 8 ∧ u16 b (o + 16) ≤ 16384) && (no != 0 || [0x0306, 0x0307, 0x0308].contains r.op)),
      (0x03, opCodes.contains r.op),
      (0x04, inPool (u32 b (o + 12)) (u16 b (o + 16)) && u16 b (o + 16) == 4 + 4 * r.params.length && u16 b par == r.op && paramsOk r &&
        inPool (u32 b (o + 24)) (u16 b (o + 28)) && u16 b (o + 28) == 4 * (r.outs.foldl (fun n p => n + p.words) 0) &&
        (r.op != 0x0306 || !tripTaken m s i (nth r.params 0 0))),
      (0x05, portsOk r),
      (0x06, opClass r.op r.cls && ratesOk m g i r),
      (0x0A, r.ident != 0 && (g.insts.filter (fun x => x.ident == r.ident)).length == 1)]

def edgeConsumer (g : Graph) (e : EdgeRec) : Option PortDef := (g.insts[e.cons]?).bind (fun r => r.ins[e.consPort]?)

/-- May a source of a kind drive the port (05 R162)? Trigger ports of GOOSE and CAN are those of EVENT instances. -/
def sourcePortOk (g : Graph) (e : EdgeRec) (trigger : Bool) : Bool :=
  !e.src || !trigger || (match g.sources[e.prod]?, g.insts[e.cons]? with
    | some s, some r => s.kind == 1 || s.kind == 2 || ((s.kind == 3 || s.kind == 4) && r.cls == 5)
    | _, _ => false)

/-- An edge record at offset `o`, position `i`. A port with more than 64 edges (R144) is reported at the first of them
(DESIGN CHOICE, log entry 51). -/
def edgeCheck (s : Nat) (b : List Byte) (g : Graph) (i o : Nat) : Option GFail :=
  match g.edges[i]? with
  | none => some ⟨0x01, s, o, 0⟩
  | some e =>
    match edgeProducer g e, edgeConsumer g e with
    | some p, some c =>
      firstFail s o 0 [
        (0x01, u16 b o == 0x0503 && u16 b (o + 2) == 24 && u32 b (o + 4) == i && decide (u8 b (o + 8) < 2) && zeros b (o + 10) 2 &&
          decide (u16 b (o + 22) < 2) && (!c.flag || e.lagUs == 0)),
        (0x02, decide ((g.edges.filter (fun x => edgeKey x == edgeKey e)).length ≤ 64)),
        (0x05, p.ty == c.ty && (p.ty != 6 || p.words == c.words)),
        (0x06, sourcePortOk g e c.flag)]
    | _, _ => some ⟨0x01, s, o, 0⟩

/-- Is a declared application entry of a sleeve named (21 R634)? Its type code, where it is. -/
def declaredTy (m : Image) (s key : Nat) : Option Nat :=
  if inRange (key / 256) (0x4010 + s * 256) (0x40FF + s * 256) then
    ((m.dict.find? (fun d => d.key == key)).bind (fun d => d.decl)).map (fun d => d.ty)
  else none

/-- Payload type of a dictionary type (05 R162 kind HOST). 'As the entry' names no payload for I16, U8 and U16, which R150
does not list: I32 and U32 are the model's choice (DESIGN CHOICE, log entry 51). -/
def payloadOf (ty : Nat) : Nat :=
  if ty = 0x01 then 1 else if ty = 0x03 ∨ ty = 0x04 then 2 else if ty = 0x81 then 3 else if ty = 0x08 then 4
  else if ty = 0x80 then 7 else if ty = 0x05 ∨ ty = 0x06 ∨ ty = 0x07 then 8 else 0

/-- Payload type of a GOOSE member (10 R313, R324). For a quality, 'as member' names no payload of R150: U32 is the model's
choice (DESIGN CHOICE, log entry 51). -/
def memberPayload (ty : Nat) : Nat := if ty = 1 then 1 else if ty = 2 then 2 else if ty = 3 then 4 else if ty = 6 then 7 else 8

/-- Payload types a source may carry; none where it is not the sleeve's (05 R162, R163). R182 names no code for a reference
out of its range (a channel that the stream lacks, a timer or a counter): code 0x08 is the model's choice (DESIGN CHOICE,
log entry 51). -/
def sourceTypes (m : Image) (s : Nat) (x : SourceRec) : Option (List Nat) :=
  if x.kind = 1 then (m.streams.find? (fun t => t.num == x.a)).bind (fun t => if x.b < t.chans.length then some [2] else none)
  else if x.kind = 2 then (m.paths.find? (fun p => p.num == x.a && p.owner == s)).map (fun _ => [2])
  else if x.kind = 3 then (m.subs.find? (fun g => g.num == x.a && g.owner == s)).bind (fun g => (g.members[x.b]?).map (fun k => [memberPayload k.1]))
  else if x.kind = 4 then (m.can.bufs.find? (fun c => c.port == x.a && c.buf == x.b && c.owner == s)).map (fun _ => [9])
  else if x.kind = 5 then
    ((m.lse.find? (fun l => l.1 == s)).bind (fun l => l.2.vars.find? (fun v => v.ident.toNat == x.a))).bind (fun v =>
      if v.kind = 0 ∨ v.kind = 4 then some [1] else if v.kind = 1 then some [2] else none)
  else (declaredTy m s x.a).map (fun t => [payloadOf t])

def sourceCheck (m : Image) (s : Nat) (b : List Byte) (g : Graph) (i o : Nat) : Option GFail :=
  match g.sources[i]? with
  | none => some ⟨0x01, s, o, 0⟩
  | some x =>
    firstFail s o 0 [
      (0x01, u16 b o == 0x0504 && u16 b (o + 2) == 16 && u16 b (o + 4) == i && inRange x.kind 1 6 && inRange x.ty 1 9 &&
        (x.kind == 1 || x.kind == 3 || x.kind == 4 || x.b == 0)),
      (0x05, (sourceTypes m s x).isNone || ((sourceTypes m s x).getD []).contains x.ty),
      (0x08, (sourceTypes m s x).isSome)]

/-! ### The whole graph: ports bound, cycles (05 R145, R170) -/

/-- Does an edge break a cycle: a sample edge whose lag is at least the period of its producer's class? -/
def breaksCycle (g : Graph) (e : EdgeRec) : Bool :=
  match edgeConsumer g e, g.insts[e.prod]? with
  | some c, some r =>
    let rate := nth [96000, 14400, 4800, 2400, 1000, 2000] r.cls 1
    !c.flag && decide (1000000 ≤ e.lagUs * rate)
  | _, _ => false

/-- Instances left when those with no unbroken edge from another one left have been taken away, again and again. -/
def cycleCore (edges : List EdgeRec) : Nat → List Nat → List Nat
  | 0, l => l
  | n + 1, l =>
    let k := l.filter (fun i => edges.any (fun e => e.cons == i && l.contains e.prod))
    if k.length = l.length then l else cycleCore edges n k

/-- Instances that instance `i` reaches in at most `n` further edges, itself among them. -/
def reach (edges : List EdgeRec) : Nat → List Nat → List Nat
  | 0, l => l
  | n + 1, l => let k := l ++ (edges.filter (fun e => l.contains e.prod && !l.contains e.cons)).map (fun e => e.cons)
    if k.length = l.length then l else reach edges n k

/-- Does a cycle of the edges pass through instance `i`? -/
def onCycle (edges : List EdgeRec) (n i : Nat) : Bool :=
  edges.any (fun e => e.prod == i && (reach edges n [e.cons]).contains i)

/-- The checks of pass 3 (R182). CYCLE names the lowest-numbered instance that a cycle passes through (DESIGN CHOICE, log
entry 51). -/
def wholeCheck (s : Nat) (b : List Byte) (g : Graph) : Option GFail :=
  let offs := instOffsets b (u32 b 8) (u32 b 24)
  let ids := List.range g.insts.length
  let bound (i : Nat) : Bool := match g.insts[i]? with
    | some r => (List.range r.ins.length).all (fun p => (g.edges.filter (fun e => e.cons == i && e.consPort == p)).length == 1)
    | none => true
  let at_ (code i : Nat) : GFail := ⟨code, s, nth offs i 0, match g.insts[i]? with | some r => r.ident.toNat | none => 0⟩
  match ids.find? (fun i => !bound i) with
  | some i => some (at_ 0x07 i)
  | none =>
    let es := g.edges.filter (fun e => !e.src && !breaksCycle g e)
    ((cycleCore es (ids.length + 1) ids).find? (onCycle es ids.length)).map (at_ 0x09)

/-- The first failure of a list of checks. -/
def firstOf {α : Type} (f : α → Option GFail) : List α → Option GFail
  | [] => none
  | x :: r => match f x with | some e => some e | none => firstOf f r

/-- The checks of one sleeve's graph image (05 R182). -/
def graphCheck (m : Image) (used : Nat × Nat × Nat) (s : Nat) (b : List Byte) (g : Graph) : Option GFail :=
  let offs := instOffsets b (u32 b 8) (u32 b 24)
  let n (l : Nat) : List Nat := List.range l
  if u16 b 4 ≠ s ∨ (m.graphRaw.filter (fun x => x.1 == s)).length ≠ 1 then some ⟨0x0B, s, 0, 0⟩
  else match headerCheck s b used with
    | some e => some e
    | none =>
      match firstOf (fun x => instCheck m s b g x.1 x.2) ((n offs.length).zip offs) with
      | some e => some e
      | none =>
        match firstOf (fun i => edgeCheck s b g i (u32 b 28 + 24 * i)) (n g.edges.length) with
        | some e => some e
        | none =>
          match firstOf (fun i => sourceCheck m s b g i (u32 b 32 + 16 * i)) (n g.sources.length) with
          | some e => some e
          | none => wholeCheck s b g

/-- Graph checks over every sleeve, in the order of the images (05 R182); a defined sleeve without one fails 0x0B. A missing
image has no place in that order: it comes before every other check (DESIGN CHOICE, log entry 51). -/
def graphChecks (m : Image) : Option GFail :=
  let rec go (used : Nat × Nat × Nat) : List (Nat × List Byte) → Option GFail
    | [] => none
    | (s, b) :: r =>
      let g := parseGraph b
      match graphCheck m used s b g with
      | some e => some e
      | none => go (used.1 + g.insts.length, used.2.1 + g.edges.length, used.2.2 + g.sources.length) r
  match m.sleeves.find? (fun x => !m.graphRaw.any (fun y => y.1 == x.num)), m.graphRaw.find? (fun y => !m.sleeves.any (fun x => x.num == y.1)) with
  | some x, _ => some ⟨0x0B, x.num, 0, 0⟩
  | none, some y => some ⟨0x0B, y.1, 0, 0⟩
  | none, none => go (0, 0, 0) m.graphRaw

end Sys2Proof.Machine
end

