-- ==== Sys2Proof/Machine/LseCheck.lean ====
section
/-! DEFINITION. The checks of an LSE image (11 R333, R337, R346, R350, R362 to R365). -/
namespace Sys2Proof.Machine

/-! ### Figures of R337, in 1/10 ns -/

/-- Cycles of an instruction (11 R346). -/
def lseCycles (w : U32) : Nat :=
  let op := w.toNat / 16777216
  if op = 0x0D ∨ op = 0x0E then 2
  else if 0x20 ≤ op ∧ op ≤ 0x29 then (if op = 0x21 then 1 else if op = 0x25 then 3 else 2)
  else if op = 0x36 ∨ op = 0x37 then 3
  else if 0x30 ≤ op ∧ op ≤ 0x35 then 6
  else if op = 0x51 ∨ op = 0x52 then 2 else 1

def lseE (p : LseProg) : Nat := 16 * (p.code.foldl (fun n w => n + lseCycles w) 0)
def lseL (p : LseProg) : Nat := 2000 + 80 * p.ins.length
def lseO (p : LseProg) : Nat := 2000 + 80 * p.outs.length
def lseTc (p : LseProg) : Nat := p.tcUs * 10000
def lseAll (p : LseProg) : Nat := lseL p + lseE p + lseO p

/-- Is sleeve `x` served before sleeve `y` (11 R336)? -/
def servedBefore (x y : Nat × LseProg) : Bool := decide (x.2.tcUs < y.2.tcUs) || (x.2.tcUs == y.2.tcUs && decide (x.1 < y.1))

/-- The scan response bound by its own equation, from below; `fuel` bounds the steps. -/
def lseBound (hi : List (Nat × LseProg)) (own : Nat) : Nat → Nat → Nat
  | 0, r => r
  | n + 1, r =>
    let r' := own + hi.foldl (fun a x => a + (r + lseTc x.2 - 1) / max (lseTc x.2) 1 * lseAll x.2) 0
    if r' ≤ r then r else lseBound hi own n r'

/-- R_s in 1/10 ns. -/
def lseR (all : List (Nat × LseProg)) (s : Nat × LseProg) : Nat :=
  lseBound (all.filter (fun x => servedBefore x s)) (4000 + lseL s.2 + lseE s.2) 4096 0

/-- LSE load, of 10⁹: every cycle time of R333 divides 100 ms, which is 10⁹ of these units. -/
def lseLoadSum (all : List (Nat × LseProg)) : Nat := all.foldl (fun a x => a + lseAll x.2 * (1000000000 / max (lseTc x.2) 1)) 0

/-- LSE load in 0.01 %. -/
def lseLoad (all : List (Nat × LseProg)) : Nat := lseLoadSum all / 100000

/-- Cycle times in µs (11 R333). -/
def cycleTimes : List Nat := [250, 500, 1000, 2000, 2500, 4000, 5000, 10000, 20000, 25000, 50000, 100000]

/-! ### Records -/

def headerLseOk (s : Nat) (b : List Byte) : Bool :=
  let it := u32 b 24
  let vt := u32 b 28
  let nt := u32 b 32
  let ot := u32 b 36
  u16 b 0 == 0x0701 && u16 b 2 == 64 && u16 b 4 == s && u16 b 6 == 1 && zeros b 45 1 && zeros b 52 12 && decide (u8 b 44 ≤ 15) &&
    inRange (u16 b 46) 1 400 && orCode (u32 b 48) 0 1000 3600000 && decide (1 ≤ u32 b 12 ∧ 1 ≤ u32 b 16) &&
    it % 8 == 0 && vt % 8 == 0 && nt % 8 == 0 && ot % 8 == 0 &&
    decide (64 ≤ it ∧ it + 4 * u32 b 12 ≤ vt ∧ vt + 16 * u32 b 16 ≤ nt ∧ nt + 24 * u16 b 20 ≤ ot ∧ ot + 24 * u16 b 22 ≤ b.length)

def varOk (b : List Byte) (o : Nat) (v : LseVar) : Bool :=
  decide (v.kind ≤ 4 ∧ u8 b (o + 5) < 2) && zeros b (o + 12) 4 &&
    (if v.kind = 1 then decide (v.addr ≤ 8191) else if v.kind = 2 ∨ v.kind = 3 then decide (v.addr ≤ 8189) else true) &&
    ((v.kind != 0 && v.kind != 4) || decide (v.init.toNat ≤ 1))

def lseInOk (b : List Byte) (o i : Nat) (e : LseIn) : Bool :=
  u16 b o == 0x0702 && u16 b (o + 2) == 24 && u16 b (o + 4) == i && decide (e.kind ≤ 4 ∧ u8 b (o + 7) < 2) && zeros b (o + 20) 4 &&
    (e.kind == 0 || e.lagUs == 0) && (e.kind == 0 || e.kind == 1 || e.kind == 3 || e.refB == 0)

def lseOutOk (b : List Byte) (o i : Nat) (e : LseOut) : Bool :=
  u16 b o == 0x0703 && u16 b (o + 2) == 24 && u16 b (o + 4) == i && decide (u8 b (o + 6) < 2 ∧ u8 b (o + 7) < 2) && zeros b (o + 20) 4 &&
    (if e.can then inRange e.port 1 4 && decide (e.buf ≤ 63) else e.port == 0 && e.buf == 0)

/-- Retentive words (11 R350). -/
def retainSize (v : LseVar) : Nat := if v.retentive then varSpan v.kind else 0

/-- Do two variables share a place of bit or word memory? -/
def varsOverlap (x y : LseVar) : Bool :=
  varIsWord x.kind == varIsWord y.kind && decide (x.addr < y.addr + varSpan y.kind ∧ y.addr < x.addr + varSpan x.kind)

/-! ### Instructions (11 R346) -/

def opOf (w : U32) : Nat := w.toNat / 16777216
def arg (w : U32) : Nat := w.toNat % 16777216

/-- The kind of variable an instruction's operand must name: none where it names none. -/
def operandKind (op : Nat) : Option Nat :=
  if (0x01 ≤ op ∧ op ≤ 0x07) ∨ (0x09 ≤ op ∧ op ≤ 0x0C) then some 0
  else if op = 0x0D ∨ op = 0x0E then some 4
  else if op = 0x20 ∨ (0x22 ≤ op ∧ op ≤ 0x29) then some 1
  else if 0x30 ≤ op ∧ op ≤ 0x32 then some 2
  else if 0x34 ≤ op ∧ op ≤ 0x37 then some 3 else none

def isJump (op : Nat) : Bool := op == 0x40 || op == 0x41 || op == 0x42

/-- An instruction's opcode and operand (code 0x03). -/
def instrOk (p : LseProg) (w : U32) : Bool :=
  let op := opOf w
  match operandKind op with
  | some k => p.vars.any (fun v => v.kind == k && v.addr == arg w) &&
      (k != 4 || (p.code.filter (fun x => (opOf x == 0x0D || opOf x == 0x0E) && arg x == arg w)).length == 1)
  | none =>
    if op = 0x00 ∨ op = 0x08 ∨ op = 0x10 ∨ op = 0x11 ∨ op = 0x12 ∨ op = 0x4F then arg w == 0
    else if op = 0x21 then true
    else if isJump op then decide (arg w ≤ 65535)
    else if op = 0x51 ∨ op = 0x52 then decide (arg w < p.ins.length)
    else false

/-- A jump goes forward, to END at the latest (code 0x04). -/
def jumpOk (p : LseProg) (i : Nat) (w : U32) : Bool := !isJump (opOf w) || decide (i < arg w ∧ arg w < p.code.length)

/-- Branch-stack depths into each instruction, as far as known: the first place at which the rule of R346 is broken. -/
def stackFail : Nat → List U32 → KMap Nat → Option Nat
  | _, [], _ => none
  | i, w :: r, m =>
    match kGet m i with
    | none => stackFail (i + 1) r m
    | some d =>
      let op := opOf w
      let d' := if op = 0x10 ∨ op = 0x11 then d + 1 else if op = 0x12 then d - 1 else d
      let flow : List Nat := (if op = 0x40 ∨ op = 0x4F then [] else [i + 1]) ++ (if isJump op then [arg w] else [])
      if (op = 0x12 ∧ d = 0) ∨ 16 < d' ∨ (op = 0x4F ∧ d ≠ 0) then some i
      else if flow.any (fun t => match kGet m t with | some x => x != d' | none => false) then some i
      else stackFail (i + 1) r (flow.foldl (fun m t => kPut m t d') m)

/-! ### Bindings (code 0x07) -/

def varOf (p : LseProg) (ident : U32) : Option LseVar := p.vars.find? (fun v => v.ident == ident)
/-- Payloads that can be latched (11 R339). -/
def latchable (ty : Nat) : Bool := ty == 1 || ty == 2 || ty == 8

def lseInBound (m : Image) (s : Nat) (p : LseProg) (e : LseIn) : Bool :=
  let g := m.graphs.find? (fun x => x.1 == s)
  let sub := m.subs.find? (fun x => x.num == e.refA && x.owner == s)
  (match varOf p e.ident with | some v => v.kind == (if e.word then 1 else 0) | none => false) &&
  (if e.kind = 0 then
    (match g.bind (fun x => (x.2.insts.find? (fun r => r.ident.toNat == e.refA)).bind (fun r => r.outs[e.refB]?)) with
      | some o => o.flag && latchable o.ty
      | none => false)
   else if e.kind = 1 then (match sub.bind (fun x => x.members[e.refB]?) with | some k => latchable (memberPayload k.1) | none => false)
   else if e.kind = 2 then sub.isSome
   else if e.kind = 3 then m.can.bufs.any (fun c => c.port == e.refA && c.buf == e.refB && c.owner == s && c.tx)
   else match declaredTy m s e.refA with | some t => latchable (payloadOf t) | none => false)

def lseOutBound (m : Image) (s : Nat) (p : LseProg) (e : LseOut) : Bool :=
  (match varOf p e.ident with | some v => !e.can || v.kind == 0 | none => false) && (e.qsrc == 0xFFFF || decide (e.qsrc < p.ins.length)) &&
    (!e.can || m.can.bufs.any (fun c => c.port == e.port && c.buf == e.buf && c.owner == s && c.tx))

/-- Has every variable that a GOOSE member or an LSE source names a published output record? -/
def lseNamedOk (m : Image) (s : Nat) (p : LseProg) : Bool :=
  let pub (id : Nat) : Bool := p.outs.any (fun o => !o.can && o.ident.toNat == id)
  m.gpubs.all (fun x => x.owner != s || x.members.all (fun k => k.writer != 2 || pub k.ref.toNat)) &&
    m.graphs.all (fun g => g.1 != s || g.2.sources.all (fun x => x.kind != 5 || (pub x.a &&
      (match varOf p (BitVec.ofNat 32 x.a) with
        | some v => if x.ty = 1 then v.kind == 0 || v.kind == 4 else x.ty == 2 && v.kind == 1
        | none => false))))

/-! ### The checks -/

/-- The first of a list with the offset of what fails. -/
def firstBad {α : Type} (ok : Nat → α → Bool) (off : Nat → Nat) : Nat → List α → Option Nat
  | _, [] => none
  | i, x :: r => if ok i x then firstBad ok off (i + 1) r else some (off i)

/-- The first of a list of checks that gives an offset: its code with it. -/
def lseFirstOf : List (Nat × Option Nat) → Option (Nat × Nat)
  | [] => none
  | (k, some o) :: _ => some (k, o)
  | (_, none) :: r => lseFirstOf r

/-- A check over the whole image, reported at the header. -/
def wholeOk (ok : Bool) : Option Nat := if ok then none else some 0

/-- Codes 0x01 to 0x09 for one sleeve's image: the first failure and its offset (11 R365). -/
def lseCheck (m : Image) (s : Nat) (b : List Byte) (p : LseProg) : Option (Nat × Nat) :=
  let ct := u32 b 24
  let vt := u32 b 28
  let it := u32 b 32
  let ot := u32 b 36
  let code (i : Nat) : Nat := ct + 4 * i
  let all := m.lse
  if !headerLseOk s b then some (0x01, 0)
  else lseFirstOf [
    (0x01, firstBad (fun i v => varOk b (vt + 16 * i) v) (fun i => vt + 16 * i) 0 p.vars),
    (0x01, firstBad (fun i e => lseInOk b (it + 24 * i) i e) (fun i => it + 24 * i) 0 p.ins),
    (0x01, firstBad (fun i e => lseOutOk b (ot + 24 * i) i e) (fun i => ot + 24 * i) 0 p.outs),
    (0x02, wholeOk (decide (p.code.length ≤ 65536 ∧ p.vars.length ≤ 73728 ∧ p.ins.length ≤ 1024 ∧ p.outs.length ≤ 1024) &&
      decide (p.vars.foldl (fun n v => n + retainSize v) 0 ≤ 4096))),
    (0x02, firstBad (fun i v => !((p.vars.take i).any (varsOverlap v))) (fun i => vt + 16 * i) 0 p.vars),
    (0x03, firstBad (fun _ w => instrOk p w) code 0 p.code),
    (0x04, firstBad (fun i w => jumpOk p i w && (decide (i + 1 < p.code.length) || opOf w == 0x4F)) code 0 p.code),
    (0x05, (stackFail 0 p.code [(0, 0)]).map code),
    (0x06, firstBad (fun i v => v.ident != 0 && !((p.vars.take i).any (fun x => x.ident == v.ident))) (fun i => vt + 16 * i) 0 p.vars),
    (0x07, firstBad (fun _ e => lseInBound m s p e) (fun i => it + 24 * i) 0 p.ins),
    (0x07, firstBad (fun _ e => lseOutBound m s p e) (fun i => ot + 24 * i) 0 p.outs),
    (0x07, wholeOk (lseNamedOk m s p)),
    (0x08, wholeOk (cycleTimes.contains p.tcUs)),
    (0x09, wholeOk (all.all (fun x => decide (lseR all x ≤ lseTc x.2)) && decide (lseLoadSum all ≤ 990000000)))]

/-- A GOOSE member or a source may name an LSE variable only where the sleeve has a program. -/
def lseWantedOk (m : Image) : Bool :=
  m.gpubs.all (fun x => m.lse.any (fun l => l.1 == x.owner) || x.members.all (fun k => k.writer != 2))

/-- Code 0x0A: what an on-line change must keep (11 R365). -/
def lseChangeOk (old new : LseProg) : Bool :=
  old.tcUs == new.tcUs && old.outs.all (fun o => o.can || (new.outs.any (fun n => !n.can && n.ident == o.ident) &&
    (varOf old o.ident).map (fun v => v.kind) == (varOf new o.ident).map (fun v => v.kind)))

/-- LSE checks over every sleeve: code, sleeve, offset of the first failure. -/
def lseChecks (m : Image) : Option (Nat × Nat × Nat) :=
  (m.lseRaw.findSome? (fun x => (lseCheck m x.1 x.2 (parseLse x.2)).map (fun f => (f.1, x.1, f.2))))

end Sys2Proof.Machine
end

