-- ==== Sys2Proof/Machine/ImageCheck.lean ====
section
/-! DEFINITION. The section checks that belong to check 7 of R63, beside those of graph and LSE images: subscriptions (03
R111), paths (04 R140), publications (10 R310 to R324), switch (14 R420, R426), sleeves (16 R492, R493, R506), CAN
(17 R530), Pleat (18 R559), dictionary (21 R634). Every check takes the image whole. -/
namespace Sys2Proof.Machine

def sumOf {α : Type} (f : α → Nat) (l : List α) : Nat := l.foldl (fun n x => n + f x) 0
def noTwice (l : List Nat) : Bool := !anyPair (fun x y => x == y) l

/-- The graph and the operator instances of a sleeve. -/
def graphFor (m : Image) (s : Nat) : Option Graph := (m.graphs.find? (fun g => g.1 == s)).map (fun g => g.2)
def instsFor (m : Image) (s : Nat) : List InstRec := match graphFor m s with | some g => g.insts | none => []
def par (r : InstRec) (i : Nat) : Nat := (nth r.params i 0).toNat

/-- Is a key slot usable for a right and an algorithm: by the image's own wrapped key of this channel, else by the slot
as it stands (03 R111; 10 R313)? -/
def keyFits (c : Channel) (m : Image) (slot right alg : Nat) : Bool :=
  match ownRec c (m.keys.filter (fun r => u16 r 4 == slot)) with
  | some r => bitAt (u32 r 8) right && (alg == 0 || kindServes (u8 r 7) alg)
  | none => let k := slotAt c slot; k.st == 1 && k.rights.getLsbD right && (alg == 0 || kindServes k.kind alg)

/-- A slot field that names none, or a fit one; a record with authentication OFF names no algorithm, so the right alone is asked of a slot
that it names (03 R111; 10 R324). -/
def keyNamedOk (c : Channel) (m : Image) (slot right alg : Nat) : Bool := slot == 0xFFFF || keyFits c m slot right alg

/-- A destination that a subscription may name: multicast, or the unicast address of a channel's ports (03 R110; log entry 22). -/
def streamDstOk (c : Channel) (dst : BitVec 48) : Bool := isMulticast dst || dst ||| 1#48 == hostMac c ||| 1#48

/-! ### Streams and paths -/

/-- The arrival allowance in force, µs: 0 selects the class default (03 R110). -/
def allowOf (r : StreamRec) : Nat :=
  if r.allowUs ≠ 0 then r.allowUs else if r.rate = 96000 then 25 else if r.rate = 14400 then 250 else 1000

def streamsOk (c : Channel) (m : Image) : Bool :=
  let l := m.streams
  noTwice (l.map (fun r => r.num)) && noTwice (l.map (fun r => r.dst.toNat * 65536 + r.appid)) && decide (l.length ≤ 512) &&
    decide (sumOf (fun (r : StreamRec) => (r.rate + r.noAsdu - 1) / r.noAsdu) l ≤ 4800000) &&
    l.all (fun r => streamDstOk c r.dst && keyNamedOk c m r.keyCur 0 r.alg && keyNamedOk c m r.keyNext 0 r.alg &&
      decide (allowOf r * r.rate * 4 ≤ 2 ^ r.log2D * 1000000) && r.chans.all (fun k => decide (k.1 < r.pairs)))

/-- Does a sleeve take a stream: by a source binding or a path of its own (log entry 22)? -/
def takesStream (m : Image) (s st : Nat) : Bool :=
  (match graphFor m s with | some g => g.sources.any (fun x => x.kind == 1 && x.a == st) | none => false) ||
    m.paths.any (fun p => p.owner == s && p.stream == st)

/-- The subscriber mask of a stream (03 R110; log entry 22). -/
def maskOf (m : Image) (st : Nat) : U64 :=
  m.sleeves.foldl (fun w x => if takesStream m x.num st then w ||| (1#64 <<< x.num) else w) 0

/-- Is the stage plan an identity: LATENCY from 14,400 or 4,800 (04 R127)? -/
def identityPlan (preset rate : Nat) : Bool := preset == 1 && rate != 96000

def pathOk (m : Image) (p : PathRec) : Bool :=
  match m.streams.find? (fun x => x.num == p.stream) with
  | none => false
  | some x =>
    decide (p.k < x.chans.length) && m.sleeves.any (fun s => s.num == p.owner) && (p.preset != 0 || (p.phase == 0 && p.shifts.all (fun x => x == 15))) &&
      (!identityPlan p.preset x.rate || p.phase % 256 == 0) &&
      decide ((m.paths.filter (fun y => y.stream == p.stream && y.k == p.k)).length ≤ 4)

def pathsOk (m : Image) : Bool :=
  let l := m.paths
  noTwice (l.map (fun p => p.num)) && decide (l.length ≤ 2048) && l.all (pathOk m) &&
    !anyPair (fun x y => x.stream == y.stream && x.k == y.k && x.preset == y.preset && x.phase == y.phase && x.shifts == y.shifts) l &&
    decide (sumOf (fun (p : PathRec) => if p.preset = 0 then 0 else
      match m.streams.find? (fun x => x.num == p.stream) with | some x => x.rate | none => 0) l ≤ 48000000)

/-! ### Publications and GOOSE subscriptions -/

/-- The instances of a sleeve with an identity and an operator. -/
def namedInst (m : Image) (s op : Nat) (ident : U32) : Option (Nat × InstRec) :=
  ((List.range (instsFor m s).length).zip (instsFor m s)).find? (fun x => x.2.ident == ident && x.2.op == op)

/-- The sleeve whose TRIP instance drives a signal. -/
def tripOwner (m : Image) (sig : Nat) : Option Nat :=
  (m.graphs.find? (fun g => g.2.insts.any (fun r => r.op == 0x0306 && par r 0 == sig))).map (fun g => g.1)

/-- A member's one writer, of its publication's owner (10 R310). -/
def memberOk (m : Image) (g : GPubRec) (k : Nat) (x : MemberRec) : Bool :=
  if x.writer = 0 then (match tripOwner m x.ref.toNat with | some s => s == g.owner | none => true)
  else if x.writer = 1 then (match namedInst m g.owner 0x0307 x.ref with
    | some r => par r.2 0 == 0 && par r.2 1 == g.num && par r.2 2 == k
    | none => false)
  else (m.lse.find? (fun l => l.1 == g.owner)).any (fun l => l.2.vars.any (fun v => v.ident == x.ref))

def gpubOk (c : Channel) (m : Image) (g : GPubRec) : Bool :=
  m.sleeves.any (fun s => s.num == g.owner) && ((List.range g.members.length).zip g.members).all (fun x => memberOk m g x.1 x.2) &&
    (g.alg == 0 || keyFits c m g.key 2 g.alg)

/-- An SV channel's writer is a PUB of the owner that names it, in the class of the publication (10 R319). -/
def writerOk (m : Image) (p : SPubRec) (k : Nat) (ident : U32) : Bool :=
  match namedInst m p.owner 0x0307 ident, graphFor m p.owner with
  | some r, some g => par r.2 0 == 1 && par r.2 1 == p.num && par r.2 2 == k && prodRate m g (g.insts.length + 1) false r.1 == p.rate
  | _, _ => false

def spubOk (c : Channel) (m : Image) (p : SPubRec) : Bool :=
  m.sleeves.any (fun s => s.num == p.owner) && ((List.range p.writers.length).zip p.writers).all (fun x => writerOk m p x.1 x.2) &&
    (p.alg == 0 || keyFits c m p.key 3 p.alg)

/-- A PUB instance is the writer of the member, channel or buffer it names (10 R313, R319; 17 R519). -/
def pubTargetOk (m : Image) (s : Nat) (r : InstRec) : Bool :=
  if par r 0 = 0 then m.gpubs.any (fun g => g.num == par r 1 && g.owner == s && (match g.members[par r 2]? with
    | some x => x.writer == 1 && x.ref == r.ident
    | none => false))
  else if par r 0 = 1 then m.spubs.any (fun p => p.num == par r 1 && p.owner == s && p.writers[par r 2]? == some r.ident)
  else m.can.bufs.any (fun b => b.port == par r 1 && b.buf == par r 2 && b.owner == s && b.tx)

def pubsOk (c : Channel) (m : Image) : Bool :=
  let trips := m.gpubs.flatMap (fun g => (g.members.filter (fun x => x.writer == 0)).map (fun x => x.ref.toNat))
  noTwice (m.gpubs.map (fun g => g.num)) && noTwice (m.spubs.map (fun g => g.num)) && m.gpubs.all (gpubOk c m) && m.spubs.all (spubOk c m) &&
    trips.all (fun t => decide ((trips.filter (fun u => u == t)).length ≤ 8)) &&
    m.graphs.all (fun g => g.2.insts.all (fun r => r.op != 0x0307 || pubTargetOk m g.1 r)) && lseWantedOk m

def subsOk (c : Channel) (m : Image) : Bool :=
  noTwice (m.subs.map (fun g => g.num)) &&
    m.subs.all (fun g => m.sleeves.any (fun s => s.num == g.owner) && keyNamedOk c m g.keyCur 1 g.alg &&
      keyNamedOk c m g.keyNext 1 g.alg)

/-! ### Sleeves -/

/-- The pools of R492, and what a sleeve takes from each. -/
def poolsOk (l : List SleeveRec) : Bool :=
  decide (sumOf (fun s => s.tileQuota) l ≤ 9000 ∧ sumOf (fun s => s.svPubs) l ≤ 32 ∧ sumOf (fun s => s.commonsKiB) l ≤ 32768 ∧
    sumOf (fun s => s.instances) l ≤ 16384 ∧ sumOf (fun s => s.sources) l ≤ 8192 ∧ sumOf (fun s => s.edges) l ≤ 65536 ∧
    sumOf (fun s => s.goosePubs) l ≤ 256 ∧ sumOf (fun s => s.gooseSubs) l ≤ 1024 ∧ sumOf (fun s => s.keySlots) l ≤ 512) &&
  decide (sumOf (fun s => s.canBufs) l ≤ 256 ∧ sumOf (fun s => s.pleatSources) l ≤ 256 ∧ sumOf (fun s => s.pleatMiB) l ≤ 4096)

/-- The channel's key slots that a sleeve's records of the image name. -/
def keySlotsOf (m : Image) (s : Nat) : Nat := ((m.keys.filter (fun r => u8 r 6 == s)).map (fun r => u16 r 4)).eraseDups.length

/-- What a sleeve has, against its own quotas (16 R492). -/
def sharesOk (m : Image) (x : SleeveRec) : Bool :=
  let s := x.num
  let g := graphFor m s
  decide ((instsFor m s).length ≤ x.instances ∧ (match g with | some g => g.sources.length | none => 0) ≤ x.sources ∧
    (match g with | some g => g.edges.length | none => 0) ≤ x.edges ∧
    (m.streams.filter (fun t => takesStream m s t.num)).length ≤ x.svSubs ∧ (m.gpubs.filter (fun p => p.owner == s)).length ≤ x.goosePubs ∧
    (m.spubs.filter (fun p => p.owner == s)).length ≤ x.svPubs ∧ (m.subs.filter (fun p => p.owner == s)).length ≤ x.gooseSubs ∧
    keySlotsOf m s ≤ x.keySlots)

/-- Publications of a sleeve. -/
def pubCount (m : Image) (s : Nat) : Nat := (m.gpubs.filter (fun p => p.owner == s)).length + (m.spubs.filter (fun p => p.owner == s)).length

def isPrefix (p l : List Byte) : Bool := l.take p.length == p

/-- A publication's tag, APPID and ID against its sleeve's sets (16 R506). -/
def tagInSets (x : SleeveRec) (vlan : Nat) : Bool :=
  vlan == 0xFFFF || (x.vlans.contains (vlan % 4096) && decide (vlan / 8192 ≤ x.maxPcp))

def pubInSets (m : Image) (x : SleeveRec) : Bool :=
  (m.gpubs.filter (fun p => p.owner == x.num)).all (fun p => tagInSets x p.vlan && inRange p.appid x.gooseLo x.gooseHi &&
    isPrefix x.idPrefix p.goID) &&
  (m.spubs.filter (fun p => p.owner == x.num)).all (fun p => tagInSets x p.vlan && inRange p.appid x.svLo x.svHi &&
    isPrefix x.idPrefix p.svID)

def blocksOverlap (x y : SleeveRec) : Bool :=
  decide (x.macBase.toNat < y.macBase.toNat + 2 ^ y.macLog2 ∧ y.macBase.toNat < x.macBase.toNat + 2 ^ x.macLog2)

def sleevesOk (m : Image) : Bool :=
  poolsOk m.sleeves && !anyPair blocksOverlap m.sleeves &&
    m.sleeves.all (fun x => sharesOk m x && decide (1 + pubCount m x.num ≤ 2 ^ x.macLog2) && pubInSets m x)

/-! ### Switch (14 R420, R426) -/

/-- The static entries that frames of a rule can meet. -/
def ruleStatics (w : SwitchCfg) (r : RuleRec) : List (BitVec 48 × Nat × Nat) :=
  w.statics.filter (fun e => e.1 &&& r.dstMask == r.dst &&& r.dstMask && (r.vid == 0xFFFF || r.vid == e.2.1))

/-- The ports that frames of a rule can be forwarded to: by static entries where any fits them, else to the members of
their VLANs; SV and GOOSE frames also to port 13 (14 R427; log entry 22). -/
def ruleMask (w : SwitchCfg) (r : RuleRec) : Nat :=
  let st := ruleStatics w r
  let base := if st.isEmpty then ((w.vlans.filter (fun v => r.vid == 0xFFFF || r.vid == v.1)).map (fun v => v.2.1)).foldl (· ||| ·) 0
    else (st.map (fun e => e.2.2)).foldl (· ||| ·) 0
  if r.ethertype = 0x88B8 ∨ r.ethertype = 0x88BA then base ||| 4096 else base

def bitCount (n : Nat) : Nat := ((List.range 16).filter (fun i => bitAt n i)).length

/-- A port's line rate, Mb/s (14 R417). -/
def lineMbps (p : Nat) : Nat := if p ≤ 8 then 10000 else if p ≤ 12 then 1000 else 40000

def switchOk (w : SwitchCfg) : Bool :=
  let port (p : Nat) : PortRec := (kGet w.ports p).getD portDefault
  let rules := w.rules.filter (fun r => (r.queue == 6 || r.queue == 7) && r.meter != 0xFFFF)
  let meters (p : Nat) : List MeterRec :=
    ((rules.filter (fun r => bitAt (ruleMask w r) (p - 1))).map (fun r => r.meter)).eraseDups.filterMap (fun n => kGet w.meters n)
  w.rules.all (fun r => decide (r.queue < 6) || r.meter != 0xFFFF || r.mask &&& 0x4FFF == 0) &&
  decide (sumOf (fun p => (port p).resv7 + (port p).resv6) queuedPorts ≤ 6144) &&
    queuedPorts.all (fun p => decide (sumOf (fun x => x.pbs) (meters p) + 4 * 1538 ≤ ((port p).resv7 + (port p).resv6) * 1024 ∧
      sumOf (fun x => x.pir) (meters p) * 2 ≤ lineMbps p)) &&
    decide (sumOf (fun (r : RuleRec) => (match kGet w.meters r.meter with | some x => x.pir | none => 0) * bitCount (ruleMask w r)) rules ≤ 320000)

/-! ### CAN (17 R530) -/

/-- A port's record in the image, or its defaults (17 R529). -/
def canPortCfg (m : Image) (n : Nat) : CanPortRec :=
  match m.can.ports.find? (fun p => p.1 == n) with | some p => p.2 | none => canPortDefault n

/-- A port's node ID; 0 selects the default (17 R527). -/
def nodeOf (c : Channel) (p : CanPortRec) : Nat :=
  if p.node ≠ 0 then p.node else (match c.id with | .a => 1 | .b => 0x21) + c.boot.slotId

/-- The identifiers of the USDO server (21 R630). -/
def serverIds (c : Channel) (p : CanPortRec) : List Nat := [0x580 + nodeOf c p, 0x600 + nodeOf c p, 0x700 + nodeOf c p]

def filterMatch (id : U32) (x : U32 × U32) : Bool :=
  id.getLsbD 31 == x.1.getLsbD 31 && ((id ^^^ x.1) &&& x.2 &&& 0x1FFFFFFF#32) == 0

def canBufOk (c : Channel) (m : Image) (b : CanBufRec) : Bool :=
  let srcs := m.graphs.flatMap (fun g => (g.2.sources.filter (fun s => s.kind == 4 && s.a == b.port && s.b == b.buf)).map (fun _ => g.1))
  let pubs := m.graphs.flatMap (fun g => (g.2.insts.filter (fun r => r.op == 0x0307 && par r 0 == 2 && par r 1 == b.port && par r 2 == b.buf)).map (fun _ => g.1))
  let lses := m.lse.flatMap (fun l => (l.2.outs.filter (fun o => o.can && o.port == b.port && o.buf == b.buf)).map (fun _ => l.1))
  let port := canPortCfg m b.port
  match m.sleeves.find? (fun s => s.num == b.owner) with
  | none => false
  | some s =>
    if b.tx then
      (pubs ++ lses) == [b.owner] && s.canFilters.any (filterMatch b.ident) && (!bitAt b.flags 3 || port.data != 0) &&
        (!port.service || bitAt b.ident.toNat 31 || !(serverIds c port).contains b.ident.toNat)
    else decide (srcs.length ≤ 1)

def canOk (c : Channel) (m : Image) : Bool :=
  m.can.bufs.all (canBufOk c m) &&
    m.sleeves.all (fun s => decide ((m.can.bufs.filter (fun b => b.owner == s.num)).length ≤ s.canBufs))

/-! ### Pleat (18 R559) -/

def sigOk (m : Image) (d : DefRec) (s : SigRec) : Bool :=
  if s.kind = 0 then (match m.streams.find? (fun x => x.num == s.a) with
    | some x => takesStream m d.owner s.a && decide (s.b < x.chans.length) && x.rate == d.rate
    | none => false)
  else if s.kind = 1 then (match m.paths.find? (fun p => p.num == s.a && p.owner == d.owner) with
    | some p => s.b == 0 && (match m.streams.find? (fun x => x.num == p.stream) with
      | some x => x.rate / presetFactor p.preset x.rate == d.rate
      | none => false)
    | none => false)
  else (match graphFor m d.owner with
    | some g => (match g.edges[s.a]? with
      | some e => s.b == 0 && e.recordable && prodRate m g (g.insts.length + 1) e.src e.prod == d.rate &&
          (match edgeProducer g e with | some p => [1, 2, 3, 4, 8].contains p.ty | none => false)
      | none => false)
    | none => false)

def maskSources (d : DefRec) : List Nat := (List.range 256).filter (fun n => (nth d.mask (n / 8) 0).getLsbD (n % 8))

/-- The sleeves whose CAP instances drive a trigger source (18 R537). -/
def capOwners (m : Image) (src : Nat) : List Nat :=
  m.graphs.flatMap (fun g => (g.2.insts.filter (fun r => r.op == 0x0308 && par r 0 == src)).map (fun _ => g.1))

/-- The generators that drive a trigger source (18 R537; 13 R411). -/
def genDrivers (m : Image) (src : Nat) : Nat :=
  match m.time with | some t => (t.gens.filter (fun g => g.source == src)).length | none => 0

def defOk (m : Image) (d : DefRec) : Bool :=
  m.sleeves.any (fun s => s.num == d.owner) && d.sigs.all (sigOk m d) && decide (2 * d.n ≤ ringRows d) &&
    (maskSources d).all (fun n => (capOwners m n).all (fun s => s == d.owner))

def pleatOk (m : Image) : Bool :=
  m.pleat.all (defOk m) && decide (sumOf (fun (d : DefRec) => d.rate * d.sigs.length * 8) m.pleat ≤ 1000000000) &&
    (List.range 256).all (fun n => decide ((capOwners m n).length + genDrivers m n ≤ 1)) &&
    m.sleeves.all (fun s =>
      let ds := m.pleat.filter (fun d => d.owner == s.num)
      decide (sumOf (fun (d : DefRec) => d.ringMiB) ds ≤ s.pleatMiB) &&
        decide ((ds.flatMap maskSources).eraseDups.length ≤ s.pleatSources))

/-! ### Wrapped keys (19 R574, R575): check 6 -/

/-- The slots that the section names, each with the channel's own record (19 R574). -/
def keysUnwrap (c : Channel) (keys : List (List Byte)) : Bool :=
  (keys.map (fun r => u16 r 4)).eraseDups.all (fun s =>
    match keys.filter (fun r => u16 r 4 == s && nth r 16 0 == chanByte c) with
    | [r] => (unwrapRec r c).isSome
    | _ => false)

end Sys2Proof.Machine
end

