-- ==== Sys2Proof/Machine/OdTable.lean ====
section
/-! DEFINITION. The dictionary's table: every entry the chapters give, with type, access, modes, default and range (21 R613
to R623, R635, R636 and the tables of every chapter). -/
namespace Sys2Proof.Machine

/-- A row: first index, how many indices and how far apart, subindexes, type code, access code, writable-in mask, default,
range, maximum length, and whether it is a counter (22 R642). -/
structure OdRow where
  base : Nat
  cnt : Nat
  stride : Nat
  lo : Nat
  hi : Nat
  ty : Nat
  access : Nat
  mask : Nat
  dflt : Nat
  least : Nat
  most : Nat
  maxLen : Nat
  counter : Bool
  deriving DecidableEq, Repr

/-- A read-only row. -/
def odRo (base cnt stride lo hi ty dflt maxLen : Nat) (counter : Bool) : OdRow :=
  ⟨base, cnt, stride, lo, hi, ty, 1, 0, dflt, 0, 0, maxLen, counter⟩

def odPart1 : List OdRow :=
  [odRo 0x1000 1 1 0x0 0x0 0x7 0 4 false,
   odRo 0x1001 1 1 0x0 0x0 0x5 0 1 false,
   odRo 0x1008 1 1 0x0 0x0 0x9 0 255 false,
   odRo 0x1009 1 1 0x0 0x0 0x9 0 255 false,
   odRo 0x100A 1 1 0x0 0x0 0x9 0 255 false,
   odRo 0x1011 1 1 0x0 0x0 0x5 2 1 false,
   ⟨0x1011, 1, 1, 0x1, 0x1, 0x7, 3, 6, 0, 0, 4294967295, 4, false⟩,
   ⟨0x1011, 1, 1, 0x2, 0x2, 0x7, 3, 6, 0, 0, 4294967295, 4, false⟩,
   ⟨0x1017, 1, 1, 0x0, 0x0, 0x6, 2, 62, 1000, 0, 60000, 2, false⟩,
   odRo 0x1018 1 1 0x0 0x0 0x5 4 1 false,
   odRo 0x1018 1 1 0x1 0x1 0x7 0 4 false,
   odRo 0x1018 1 1 0x2 0x2 0x7 9232 4 false,
   odRo 0x1018 1 1 0x3 0x3 0x7 0 4 false,
   odRo 0x1018 1 1 0x4 0x4 0x7 0 4 false,
   odRo 0x2000 1 1 0x1 0x1 0x5 1 1 false,
   odRo 0x2000 1 1 0x2 0x2 0x5 255 1 false,
   ⟨0x2000, 1, 1, 0x3, 0x3, 0x5, 3, 30, 0, 1, 132, 1, false⟩,
   odRo 0x2000 1 1 0x4 0x4 0x5 0 1 false,
   odRo 0x2000 1 1 0x5 0x5 0x5 0 1 false,
   odRo 0x2000 1 1 0x6 0x6 0x5 0 1 false,
   odRo 0x2000 1 1 0x7 0x7 0x5 0 1 false,
   ⟨0x2000, 1, 1, 0x8, 0x8, 0x5, 6, 6, 0, 0, 1, 1, false⟩,
   odRo 0x2000 1 1 0x9 0x9 0x5 0 1 false,
   odRo 0x2000 1 1 0xA 0xA 0x5 0 1 false,
   odRo 0x2000 1 1 0xB 0xB 0x7 0 4 false,
   odRo 0x2000 1 1 0xC 0xC 0x1B 0 8 false,
   ⟨0x2000, 1, 1, 0xD, 0xD, 0x6, 6, 6, 100, 10, 100, 2, false⟩,
   odRo 0x2000 1 1 0xE 0xE 0x5 2 1 false,
   odRo 0x2000 1 1 0xF 0xF 0x5 1 1 false,
   odRo 0x2000 1 1 0x10 0x10 0x1B 0 8 true,
   ⟨0x2000, 1, 1, 0x11, 0x11, 0xF, 6, 6, 0, 0, 0, 2147483648, false⟩,
   odRo 0x2000 1 1 0x12 0x12 0xF 0 2147483648 false,
   odRo 0x2000 1 1 0x13 0x13 0xF 0 48 false,
   ⟨0x2000, 1, 1, 0x14, 0x14, 0xF, 6, 6, 0, 0, 0, 2147483648, false⟩,
   odRo 0x2000 1 1 0x15 0x15 0x5 0 1 false,
   odRo 0x2000 1 1 0x16 0x16 0x5 0 1 false,
   ⟨0x2000, 1, 1, 0x17, 0x17, 0x5, 3, 6, 0, 0, 1, 1, false⟩,
   odRo 0x2000 1 1 0x18 0x18 0x5 0 1 false,
   odRo 0x2000 1 1 0x19 0x19 0x5 0 1 false,
   odRo 0x2000 1 1 0x1A 0x1A 0x6 0 2 false]

def odPart2 : List OdRow :=
  [odRo 0x2000 1 1 0x1B 0x1B 0x1B 0 8 true,
   odRo 0x2000 1 1 0x1C 0x1C 0x1B 0 8 true,
   odRo 0x2000 1 1 0x1D 0x1D 0x6 0 2 false,
   odRo 0x2000 1 1 0x1E 0x1E 0x7 0 4 false,
   odRo 0x2100 1 1 0x1 0x1 0x6 0 2 false,
   odRo 0x2100 1 1 0x2 0x2 0x6 0 2 false,
   odRo 0x2100 1 1 0x3 0x3 0x6 0 2 false,
   odRo 0x2100 1 1 0x4 0x4 0x6 0 2 false,
   odRo 0x2100 1 1 0x5 0x5 0x5 0 1 false,
   odRo 0x2100 1 1 0x6 0x6 0x6 0 2 false,
   odRo 0x2100 1 1 0x7 0x7 0x6 0 2 false,
   odRo 0x2100 1 1 0x8 0x8 0x6 1000 2 false,
   odRo 0x2100 1 1 0x9 0x9 0x1 0 1 false,
   odRo 0x2100 1 1 0xA 0xA 0x1B 0 8 true,
   odRo 0x2100 1 1 0xB 0xB 0x1B 0 8 true,
   odRo 0x2100 1 1 0xC 0xC 0x6 0 2 false,
   odRo 0x2100 1 1 0xD 0xD 0x6 0 2 false,
   odRo 0x2100 1 1 0xE 0xE 0x7 0 4 false,
   odRo 0x2100 1 1 0xF 0xF 0x1B 0 8 true,
   odRo 0x2100 1 1 0x10 0x10 0x1B 0 8 true,
   odRo 0x2100 1 1 0x11 0x11 0x1B 0 8 true,
   odRo 0x2100 1 1 0x12 0x12 0x1B 0 8 true,
   odRo 0x2100 1 1 0x13 0x13 0x1B 0 8 true,
   odRo 0x2100 1 1 0x14 0x14 0x6 0 2 false,
   odRo 0x2100 1 1 0x15 0x15 0x3 0 2 false,
   odRo 0x2100 1 1 0x16 0x16 0x1 0 1 false,
   odRo 0x2101 1 1 0x1 0x1 0x6 40 2 false,
   odRo 0x2101 1 1 0x2 0x2 0x6 10 2 false,
   odRo 0x2101 1 1 0x3 0x3 0x6 58 2 false,
   odRo 0x2101 1 1 0x4 0x4 0x6 20 2 false,
   odRo 0x2200 1 1 0x1 0x1 0x5 0 1 false,
   odRo 0x2200 1 1 0x2 0x2 0x4 0 4 false,
   odRo 0x2200 1 1 0x3 0x3 0x7 0 4 false,
   odRo 0x2200 1 1 0x4 0x4 0x4 0 4 false,
   odRo 0x2200 1 1 0x5 0x5 0x5 0 1 false,
   odRo 0x2200 1 1 0x6 0x6 0x1B 0 8 false,
   odRo 0x2200 1 1 0x7 0x7 0x5 255 1 false,
   odRo 0x2200 1 1 0x8 0x8 0x6 0 2 false,
   odRo 0x2200 1 1 0x9 0x9 0x4 37 4 false,
   odRo 0x2200 1 1 0xA 0xA 0x1 0 1 false]

def odPart3 : List OdRow :=
  [odRo 0x2200 1 1 0xB 0xB 0x80 0 8 false,
   odRo 0x2200 1 1 0xC 0xC 0x7 0 4 false,
   odRo 0x2200 1 1 0xD 0xD 0x1B 0 8 true,
   odRo 0x2200 1 1 0xE 0xE 0x4 0 4 false,
   odRo 0x2200 1 1 0xF 0xF 0x1B 0 8 true,
   odRo 0x2200 1 1 0x10 0x10 0x7 0 4 false,
   odRo 0x2200 1 1 0x11 0x11 0x1 0 1 false,
   odRo 0x2200 1 1 0x12 0x12 0x1B 0 8 true,
   odRo 0x2200 1 1 0x13 0x13 0x1B 0 8 true,
   ⟨0x2200, 1, 1, 0x20, 0x20, 0x5, 6, 6, 0, 0, 255, 1, false⟩,
   ⟨0x2200, 1, 1, 0x21, 0x21, 0x5, 6, 6, 1, 1, 2, 1, false⟩,
   ⟨0x2200, 1, 1, 0x22, 0x22, 0x1, 6, 6, 0, 0, 1, 1, false⟩,
   ⟨0x2200, 1, 1, 0x23, 0x23, 0x5, 6, 6, 128, 0, 255, 1, false⟩,
   ⟨0x2200, 1, 1, 0x24, 0x24, 0x5, 6, 6, 128, 0, 255, 1, false⟩,
   ⟨0x2200, 1, 1, 0x25, 0x25, 0x4, 6, 6, 0, 0, 4294967295, 4, false⟩,
   ⟨0x2200, 1, 1, 0x26, 0x26, 0x4, 6, 6, 0, 0, 1, 4, false⟩,
   ⟨0x2200, 1, 1, 0x27, 0x27, 0x4, 6, 6, 0, 0, 1, 4, false⟩,
   ⟨0x2200, 1, 1, 0x28, 0x28, 0x5, 6, 6, 3, 2, 10, 1, false⟩,
   ⟨0x2200, 1, 1, 0x29, 0x29, 0x7, 6, 6, 1000, 100, 10000, 4, false⟩,
   ⟨0x2200, 1, 1, 0x2A, 0x2A, 0x7, 6, 6, 100000, 1000, 1000000000, 4, false⟩,
   ⟨0x2200, 1, 1, 0x2B, 0x2B, 0x5, 6, 6, 1, 0, 1, 1, false⟩,
   ⟨0x2200, 1, 1, 0x2C, 0x2C, 0x7, 6, 6, 50000, 1000, 100000, 4, false⟩,
   ⟨0x2200, 1, 1, 0x2D, 0x2D, 0x7, 6, 6, 14400, 60, 604800, 4, false⟩,
   ⟨0x2200, 1, 1, 0x2E, 0x2E, 0x6, 6, 6, 65535, 0, 65535, 2, false⟩,
   ⟨0x2210, 1, 1, 0x1, 0xC, 0x1, 6, 6, 1, 0, 1, 1, false⟩,
   odRo 0x2211 1 1 0x1 0xC 0x7 0 4 false,
   odRo 0x2212 1 1 0x1 0xC 0x1B 0 8 true,
   odRo 0x2213 1 1 0x1 0xC 0x4 0 4 false,
   odRo 0x2214 1 1 0x1 0xC 0x4 0 4 false,
   ⟨0x2215, 1, 1, 0x1, 0xC, 0x4, 6, 6, 0, 0, 4294967295, 4, false⟩,
   odRo 0x2216 1 1 0x1 0xC 0x4 0 4 false,
   odRo 0x2217 1 1 0x1 0xC 0x1B 0 8 true,
   odRo 0x2218 1 1 0x1 0xC 0x1B 0 8 true,
   ⟨0x2220, 4, 1, 0x1, 0x1, 0x5, 2, 30, 0, 0, 1, 1, false⟩,
   ⟨0x2220, 4, 1, 0x2, 0x2, 0x5, 2, 30, 0, 0, 2, 1, false⟩,
   ⟨0x2220, 4, 1, 0x3, 0x3, 0x6, 2, 30, 65535, 0, 65535, 2, false⟩,
   ⟨0x2220, 4, 1, 0x4, 0x4, 0x80, 2, 30, 0, 0, 18446744073709551615, 8, false⟩,
   ⟨0x2220, 4, 1, 0x5, 0x5, 0x1B, 2, 30, 0, 0, 18446744073709551615, 8, false⟩,
   ⟨0x2220, 4, 1, 0x6, 0x6, 0x7, 2, 30, 100, 0, 4294967295, 4, false⟩,
   ⟨0x2220, 4, 1, 0x7, 0x7, 0x6, 2, 30, 0, 0, 65535, 2, false⟩]

def odPart4 : List OdRow :=
  [⟨0x2220, 4, 1, 0x8, 0x8, 0x5, 2, 30, 1, 0, 2, 1, false⟩,
   ⟨0x2220, 4, 1, 0x9, 0x9, 0x5, 2, 30, 0, 0, 1, 1, false⟩,
   odRo 0x2220 4 1 0xA 0xA 0x5 0 1 false,
   odRo 0x2220 4 1 0xB 0xB 0x1B 0 8 true,
   odRo 0x2220 4 1 0xC 0xC 0x1B 0 8 true,
   ⟨0x2220, 4, 1, 0xD, 0xD, 0x1, 2, 30, 0, 0, 1, 1, false⟩,
   odRo 0x2300 1 1 0x1 0x1 0x6 0 2 false,
   odRo 0x2300 1 1 0x2 0x2 0x7 0 4 false,
   odRo 0x2300 1 1 0x3 0x3 0x7 4800000 4 false,
   odRo 0x2300 1 1 0x4 0x4 0x6 0 2 false,
   odRo 0x2300 1 1 0x5 0x5 0x6 0 2 false,
   odRo 0x2300 1 1 0x6 0x6 0x7 0 4 false,
   odRo 0x2300 1 1 0x7 0x7 0x1B 0 8 true,
   odRo 0x2300 1 1 0x8 0x8 0x1B 0 8 true,
   odRo 0x2300 1 1 0x9 0x9 0x1B 0 8 true,
   odRo 0x2300 1 1 0xA 0xA 0x1B 0 8 true,
   odRo 0x2300 1 1 0xB 0xB 0x1B 0 8 true,
   odRo 0x2300 1 1 0xC 0xC 0x1B 0 8 true,
   odRo 0x2300 1 1 0xD 0xD 0x6 0 2 false,
   odRo 0x2300 1 1 0xE 0xE 0x6 0 2 false,
   odRo 0x2300 1 1 0xF 0xF 0x1B 0 8 true,
   odRo 0x2400 1 1 0x1 0x1 0x6 0 2 false,
   odRo 0x2400 1 1 0x2 0x2 0x7 0 4 false,
   odRo 0x2400 1 1 0x3 0x3 0x7 48000000 4 false,
   odRo 0x2400 1 1 0x4 0x4 0x1B 0 8 true,
   odRo 0x2400 1 1 0x5 0x5 0x1B 0 8 true,
   odRo 0x2400 1 1 0x6 0x6 0x1B 0 8 true,
   odRo 0x2400 1 1 0x7 0x7 0x6 0 2 false,
   odRo 0x2400 1 1 0x8 0x8 0x6 0 2 false,
   odRo 0x2400 1 1 0x9 0x9 0x80 0 8 false,
   odRo 0x2400 1 1 0xA 0xA 0x7 0 4 false,
   odRo 0x2410 1 1 0x1 0xB 0xF 0 65536 false,
   odRo 0x2500 1 1 0x1 0x1 0x6 0 2 false,
   odRo 0x2500 1 1 0x2 0x2 0x7 0 4 false,
   odRo 0x2500 1 1 0x3 0x3 0x6 0 2 false,
   odRo 0x2500 1 1 0x4 0x4 0x6 16384 2 false,
   odRo 0x2500 1 1 0x5 0x5 0x7 65536 4 false,
   odRo 0x2500 1 1 0x6 0x6 0x5 0 1 false,
   odRo 0x2500 1 1 0x7 0x7 0x5 255 1 false,
   odRo 0x2500 1 1 0x8 0x8 0x7 0 4 false]

def odPart5 : List OdRow :=
  [odRo 0x2500 1 1 0x9 0x9 0x7 0 4 false,
   odRo 0x2500 1 1 0xA 0xA 0x1B 0 8 true,
   odRo 0x2500 1 1 0xB 0xB 0x7 0 4 false,
   odRo 0x2500 1 1 0xC 0xC 0x5 255 1 false,
   odRo 0x2500 1 1 0xD 0xD 0x1B 0 8 true,
   odRo 0x2500 1 1 0xE 0xE 0x1B 0 8 true,
   odRo 0x2500 1 1 0x10 0x10 0x6 0 2 false,
   odRo 0x2500 1 1 0x11 0x11 0x6 0 2 false,
   odRo 0x2500 1 1 0x12 0x12 0x6 0 2 false,
   odRo 0x2500 1 1 0x13 0x13 0x1B 0 8 true,
   odRo 0x2500 1 1 0x14 0x14 0x1B 0 8 true,
   odRo 0x2500 1 1 0x15 0x15 0x1B 0 8 true,
   odRo 0x2500 1 1 0x16 0x16 0x1B 0 8 true,
   odRo 0x2500 1 1 0x17 0x17 0x1B 0 8 true,
   odRo 0x2500 1 1 0x18 0x18 0x1B 0 8 true,
   odRo 0x2500 1 1 0x19 0x19 0x6 0 2 false,
   odRo 0x2500 1 1 0x1A 0x1A 0x6 0 2 false,
   odRo 0x2500 1 1 0x1B 0x1B 0x1B 0 8 true,
   odRo 0x2500 1 1 0x1C 0x1C 0x1B 0 8 true,
   odRo 0x2500 1 1 0x1D 0x1D 0x1B 0 8 true,
   odRo 0x2500 1 1 0x1E 0x1E 0x1B 0 8 true,
   odRo 0x2500 1 1 0x1F 0x1F 0x6 1152 2 false,
   odRo 0x2500 1 1 0x20 0x20 0x6 0 2 false,
   odRo 0x2500 1 1 0x21 0x21 0x6 0 2 false,
   odRo 0x2500 1 1 0x22 0x22 0x7 0 4 false,
   odRo 0x2500 1 1 0x23 0x23 0x5 0 1 false,
   odRo 0x2500 1 1 0x24 0x24 0x5 0 1 false,
   odRo 0x2500 1 1 0x25 0x25 0x1B 0 8 true,
   odRo 0x2500 1 1 0x26 0x26 0x1B 0 8 true,
   odRo 0x2500 1 1 0x27 0x27 0x5 0 1 false,
   odRo 0x2500 1 1 0x28 0x28 0x5 255 1 false,
   odRo 0x2500 1 1 0x29 0x29 0x7 0 4 false,
   odRo 0x2500 1 1 0x2A 0x2A 0x5 255 1 false,
   odRo 0x2500 1 1 0x2B 0x2B 0x7 0 4 false,
   odRo 0x2500 1 1 0x2C 0x2C 0x7 0 4 false,
   odRo 0x2500 1 1 0x2D 0x2D 0x5 2 1 false,
   odRo 0x2500 1 1 0x2E 0x2E 0x1B 0 8 true,
   ⟨0x2500, 1, 1, 0x2F, 0x2F, 0x5, 6, 6, 5, 0, 5, 1, false⟩,
   odRo 0x2500 1 1 0x30 0x30 0x7 0 4 false,
   ⟨0x2501, 1, 1, 0x1, 0x8, 0x6, 6, 6, 0, 0, 4096, 2, false⟩]

def odPart6 : List OdRow :=
  [odRo 0x2502 1 1 0x1 0x8 0x6 0 2 false,
   odRo 0x2503 1 1 0x1 0x8 0x6 0 2 false,
   odRo 0x2504 1 1 0x1 0x8 0x1B 0 8 true,
   odRo 0x2505 1 1 0x1 0x8 0x7 0 4 false,
   odRo 0x2506 1 1 0x1 0x22 0x6 0 2 false,
   odRo 0x2507 1 1 0x1 0x22 0x5 0 1 false,
   odRo 0x2508 1 1 0x0 0x0 0xF 0 2147483648 false,
   odRo 0x2509 1 1 0x1 0x1 0x9 0 255 false,
   odRo 0x2509 1 1 0x2 0x2 0x5 24 1 false,
   odRo 0x250A 1 1 0x1 0x18 0x7 0 4 false,
   odRo 0x2600 1 1 0x1 0x1 0x6 0 2 false,
   odRo 0x2600 1 1 0x2 0x2 0x5 0 1 false,
   odRo 0x2600 1 1 0x3 0x3 0x6 0 2 false,
   odRo 0x2600 1 1 0x4 0x4 0x1B 0 8 true,
   odRo 0x2600 1 1 0x5 0x5 0x1B 0 8 true,
   odRo 0x2600 1 1 0x6 0x6 0x1B 0 8 true,
   odRo 0x2600 1 1 0x7 0x7 0x1B 0 8 true,
   odRo 0x2600 1 1 0x8 0x8 0x1B 0 8 true,
   odRo 0x2600 1 1 0x9 0x9 0x7 0 4 false,
   odRo 0x2600 1 1 0xA 0xA 0x1 0 1 false,
   odRo 0x2600 1 1 0xB 0xB 0x1B 0 8 true,
   odRo 0x2600 1 1 0xC 0xC 0x1B 0 8 true,
   odRo 0x2600 1 1 0xD 0xD 0x1B 0 8 true,
   odRo 0x2610 1 1 0x1 0x8 0x1B 0 8 false,
   odRo 0x2700 1 1 0x1 0x1 0x6 0 2 false,
   odRo 0x2700 1 1 0x2 0x2 0x5 0 1 false,
   odRo 0x2700 1 1 0x3 0x3 0x5 0 1 false,
   odRo 0x2700 1 1 0x4 0x4 0x5 255 1 false,
   odRo 0x2700 1 1 0x5 0x5 0x7 0 4 false,
   odRo 0x2700 1 1 0x6 0x6 0x7 0 4 false,
   odRo 0x2700 1 1 0x7 0x7 0x1B 0 8 true,
   odRo 0x2700 1 1 0x8 0x8 0x1B 0 8 true,
   odRo 0x2700 1 1 0x9 0x9 0x1B 0 8 true,
   odRo 0x2700 1 1 0xA 0xA 0x1B 0 8 true,
   odRo 0x2700 1 1 0xB 0xB 0x1B 0 8 true,
   odRo 0x2700 1 1 0xC 0xC 0x1B 0 8 true,
   odRo 0x2700 1 1 0xD 0xD 0x1B 0 8 true,
   odRo 0x2700 1 1 0xE 0xE 0x1B 0 8 true,
   ⟨0x2700, 1, 1, 0xF, 0xF, 0x5, 3, 28, 0, 0, 63, 1, false⟩,
   odRo 0x2700 1 1 0x10 0x10 0x1B 0 8 false]

def odPart7 : List OdRow :=
  [⟨0x2700, 1, 1, 0x11, 0x11, 0x5, 3, 28, 0, 0, 63, 1, false⟩,
   ⟨0x2700, 1, 1, 0x12, 0x12, 0xF, 3, 28, 0, 0, 0, 20, false⟩,
   odRo 0x2700 1 1 0x13 0x13 0x6 0 2 false,
   odRo 0x2701 1 1 0x1 0x40 0x5 0 1 false,
   odRo 0x2702 1 1 0x1 0x40 0x1B 0 8 true,
   odRo 0x2703 1 1 0x1 0x40 0x7 0 4 false,
   odRo 0x2704 1 1 0x1 0x40 0x7 0 4 false,
   odRo 0x2705 1 1 0x1 0x40 0x5 0 1 false,
   ⟨0x2706, 1, 1, 0x1, 0x40, 0x5, 6, 6, 0, 0, 15, 1, false⟩,
   ⟨0x2707, 1, 1, 0x1, 0x40, 0x6, 6, 6, 0, 1, 400, 2, false⟩,
   ⟨0x2708, 1, 1, 0x1, 0x40, 0x7, 6, 6, 0, 1000, 3600000, 4, false⟩,
   odRo 0x2709 1 1 0x1 0x40 0xF 0 2147483648 false,
   ⟨0x2710, 1, 1, 0x1, 0x40, 0xF, 2, 28, 0, 0, 0, 2147483648, false⟩,
   odRo 0x2800 1 1 0x1 0x1 0x1 0 1 false,
   odRo 0x2800 1 1 0x2 0x2 0x5 0 1 false,
   odRo 0x2800 1 1 0x3 0x3 0x1 0 1 false,
   odRo 0x2800 1 1 0x4 0x4 0x5 0 1 false,
   odRo 0x2800 1 1 0x5 0x5 0x1B 0 8 true,
   odRo 0x2800 1 1 0x6 0x6 0x1B 0 8 true,
   odRo 0x2800 1 1 0x7 0x7 0x80 0 8 false,
   odRo 0x2800 1 1 0x8 0x8 0x7 0 4 false,
   odRo 0x2800 1 1 0x9 0x9 0x5 0 1 false,
   odRo 0x2800 1 1 0xA 0xA 0x1B 0 8 true,
   odRo 0x2800 1 1 0xB 0xB 0x1B 0 8 true,
   odRo 0x2800 1 1 0xC 0xC 0x1B 0 8 true,
   odRo 0x2800 1 1 0xD 0xD 0x1B 0 8 true,
   odRo 0x2800 1 1 0xE 0xE 0x80 0 8 false,
   odRo 0x2800 1 1 0xF 0xF 0x5 255 1 false,
   odRo 0x2800 1 1 0x10 0x10 0x5 255 1 false,
   odRo 0x2800 1 1 0x11 0x11 0x1B 0 8 true,
   odRo 0x2800 1 1 0x12 0x12 0x4 0 4 false,
   odRo 0x2800 1 1 0x13 0x13 0x7 0 4 false,
   odRo 0x2800 1 1 0x14 0x14 0x1B 0 8 true,
   odRo 0x2800 1 1 0x15 0x15 0x1B 0 8 true,
   odRo 0x2800 1 1 0x16 0x16 0x1B 0 8 true,
   odRo 0x2800 1 1 0x17 0x17 0x1B 0 8 true,
   odRo 0x2800 1 1 0x18 0x18 0x6 0 2 false,
   odRo 0x2800 1 1 0x19 0x19 0x6 0 2 false,
   odRo 0x2800 1 1 0x1A 0x1A 0x1B 0 8 true,
   odRo 0x2800 1 1 0x1B 0x1B 0x1B 0 8 true]

def odPart8 : List OdRow :=
  [odRo 0x2800 1 1 0x1C 0x1C 0x1B 0 8 true,
   odRo 0x2800 1 1 0x1D 0x1D 0x1B 0 8 true,
   ⟨0x2800, 1, 1, 0x1E, 0x1E, 0x6, 6, 6, 1000, 100, 10000, 2, false⟩,
   ⟨0x2800, 1, 1, 0x1F, 0x1F, 0x6, 6, 6, 1000, 100, 10000, 2, false⟩,
   odRo 0x2800 1 1 0x20 0x20 0x1B 0 8 true,
   odRo 0x2800 1 1 0x21 0x21 0x5 0 1 false,
   odRo 0x2800 1 1 0x22 0x22 0x1B 0 8 true,
   odRo 0x2810 1 1 0x1 0x40 0x7 10000 4 false,
   odRo 0x2900 1 1 0x1 0x1 0x5 0 1 false,
   odRo 0x2900 1 1 0x2 0x2 0x5 0 1 false,
   odRo 0x2900 1 1 0x3 0x3 0x7 0 4 false,
   odRo 0x2900 1 1 0x4 0x4 0x7 0 4 false,
   odRo 0x2900 1 1 0x5 0x5 0x1B 0 8 true,
   odRo 0x2900 1 1 0x6 0x6 0x1B 0 8 true,
   odRo 0x2900 1 1 0x7 0x7 0x1B 0 8 true,
   odRo 0x2900 1 1 0x8 0x8 0x1B 0 8 true,
   odRo 0x2900 1 1 0x9 0x9 0x1B 0 8 true,
   odRo 0x2900 1 1 0xA 0xA 0x1B 0 8 true,
   ⟨0x2900, 1, 1, 0xB, 0xB, 0x1, 2, 30, 0, 0, 1, 1, false⟩,
   ⟨0x2900, 1, 1, 0xC, 0xC, 0x5, 2, 30, 0, 0, 1, 1, false⟩,
   odRo 0x2900 1 1 0xD 0xD 0x1B 0 8 true,
   odRo 0x2900 1 1 0xE 0xE 0x1B 0 8 true,
   ⟨0x2900, 1, 1, 0xF, 0xF, 0x1B, 2, 30, 0, 0, 18446744073709551615, 8, false⟩,
   odRo 0x2900 1 1 0x10 0x10 0xF 0 2147483648 false,
   odRo 0x2900 1 1 0x11 0x11 0x6 0 2 false,
   ⟨0x2900, 1, 1, 0x12, 0x12, 0x6, 6, 6, 0, 10, 3600, 2, false⟩,
   odRo 0x2910 4 1 0x1 0x1 0x5 255 1 false,
   odRo 0x2910 4 1 0x2 0x2 0x6 0 2 false,
   odRo 0x2910 4 1 0x3 0x3 0x1B 0 8 true,
   odRo 0x2910 4 1 0x4 0x4 0x1B 0 8 true,
   odRo 0x2910 4 1 0x5 0x5 0x6 0 2 false,
   odRo 0x2910 4 1 0x6 0x6 0x1B 0 8 true,
   odRo 0x2910 4 1 0x7 0x7 0x1B 0 8 true,
   odRo 0x2910 4 1 0x8 0x8 0x1B 0 8 true,
   odRo 0x2A00 1 1 0x1 0x1 0x6 0 2 false,
   odRo 0x2A00 1 1 0x2 0x2 0x5 0 1 false,
   odRo 0x2A00 1 1 0x3 0x3 0x5 0 1 false,
   odRo 0x2A00 1 1 0x4 0x4 0x5 0 1 false,
   odRo 0x2A00 1 1 0x5 0x5 0x1B 0 8 true,
   odRo 0x2A00 1 1 0x6 0x6 0x7 0 4 false]

def odPart9 : List OdRow :=
  [odRo 0x2A00 1 1 0x7 0x7 0x1B 0 8 true,
   odRo 0x2A00 1 1 0x8 0x8 0x1B 0 8 true,
   odRo 0x2A00 1 1 0x9 0x9 0x1B 0 8 true,
   odRo 0x2A00 1 1 0xA 0xA 0x1B 0 8 true,
   odRo 0x2A00 1 1 0xB 0xB 0x1B 0 8 true,
   odRo 0x2A00 1 1 0xC 0xC 0x1B 0 8 true,
   odRo 0x2A00 1 1 0xD 0xD 0x1B 0 8 true,
   odRo 0x2A00 1 1 0xE 0xE 0x1B 0 8 true,
   odRo 0x2A00 1 1 0xF 0xF 0x1B 0 8 true,
   odRo 0x2A00 1 1 0x10 0x10 0x1B 0 8 true,
   odRo 0x2A00 1 1 0x11 0x11 0x1B 0 8 true,
   odRo 0x2A00 1 1 0x12 0x12 0x1B 0 8 true,
   odRo 0x2A00 1 1 0x13 0x13 0x1B 0 8 true,
   odRo 0x2A00 1 1 0x14 0x14 0x1B 0 8 true,
   odRo 0x2A00 1 1 0x15 0x15 0x1B 0 8 true,
   odRo 0x2A00 1 1 0x16 0x16 0x1B 0 8 true,
   odRo 0x2A00 1 1 0x17 0x17 0x7 0 4 false,
   odRo 0x2A00 1 1 0x18 0x18 0x1B 0 8 true,
   odRo 0x2A00 1 1 0x19 0x19 0x1B 0 8 false,
   ⟨0x2A20, 1, 1, 0x1, 0xC, 0x1, 6, 6, 0, 0, 1, 1, false⟩,
   odRo 0x2A21 1 1 0x1 0xC 0x1B 0 8 true,
   odRo 0x2A22 1 1 0x1 0xC 0x1B 0 8 false,
   odRo 0x2B00 1 1 0x1 0x1 0x1B 0 8 false,
   odRo 0x2B00 1 1 0x2 0x2 0x1B 0 8 false,
   odRo 0x2B00 1 1 0x3 0x3 0x1B 0 8 false,
   ⟨0x2B00, 1, 1, 0x4, 0x4, 0xF, 3, 28, 0, 0, 0, 4, false⟩,
   ⟨0x2B00, 1, 1, 0x5, 0x5, 0xF, 2, 28, 0, 0, 0, 2147483648, false⟩,
   odRo 0x2B00 1 1 0x6 0x6 0xF 0 2147483648 false,
   ⟨0x2B00, 1, 1, 0x7, 0x7, 0xF, 2, 28, 0, 0, 0, 2784, false⟩,
   odRo 0x2B00 1 1 0x8 0x8 0x5 0 1 false,
   odRo 0x2B00 1 1 0x9 0x9 0x5 255 1 false,
   odRo 0x2B00 1 1 0xA 0xA 0x6 9000 2 false,
   odRo 0x2B00 1 1 0xB 0xB 0x7 32768 4 false,
   odRo 0x2B00 1 1 0xC 0xC 0x1B 0 8 true,
   odRo 0x2C00 1 1 0x1 0x1 0x6 0 2 false,
   odRo 0x2C00 1 1 0x2 0x2 0x1B 0 8 true,
   odRo 0x2C11 4 1 0x1 0x1 0x5 0 1 false,
   odRo 0x2C11 4 1 0x2 0x2 0x5 0 1 false,
   odRo 0x2C11 4 1 0x3 0x3 0x6 0 2 false,
   odRo 0x2C11 4 1 0x4 0x4 0x6 0 2 false]

def odPart10 : List OdRow :=
  [⟨0x2C11, 4, 1, 0x5, 0x5, 0x5, 6, 6, 0, 1, 4, 1, false⟩,
   ⟨0x2C11, 4, 1, 0x6, 0x6, 0x5, 6, 6, 0, 0, 21, 1, false⟩,
   ⟨0x2C11, 4, 1, 0x7, 0x7, 0x1, 6, 6, 0, 0, 1, 1, false⟩,
   ⟨0x2C11, 4, 1, 0x8, 0x8, 0x1, 6, 6, 0, 0, 1, 1, false⟩,
   ⟨0x2C11, 4, 1, 0x9, 0x9, 0x5, 6, 6, 0, 1, 127, 1, false⟩,
   ⟨0x2C11, 4, 1, 0xA, 0xA, 0x5, 6, 6, 0, 0, 1, 1, false⟩,
   ⟨0x2C11, 4, 1, 0xB, 0xB, 0x5, 3, 30, 0, 1, 1, 1, false⟩,
   ⟨0x2C11, 4, 1, 0xC, 0xC, 0x1, 2, 6, 0, 0, 1, 1, false⟩,
   odRo 0x2C11 4 1 0xD 0xD 0x1B 0 8 true,
   odRo 0x2C11 4 1 0xE 0xE 0x1B 0 8 true,
   odRo 0x2C11 4 1 0xF 0xF 0x1B 0 8 true,
   odRo 0x2C11 4 1 0x10 0x10 0x1B 0 8 true,
   odRo 0x2C11 4 1 0x11 0x11 0x1B 0 8 true,
   odRo 0x2C11 4 1 0x12 0x12 0x1B 0 8 true,
   odRo 0x2C11 4 1 0x13 0x13 0x1B 0 8 true,
   odRo 0x2C11 4 1 0x14 0x14 0x1B 0 8 true,
   odRo 0x2C11 4 1 0x15 0x15 0x1B 0 8 true,
   odRo 0x2C11 4 1 0x16 0x16 0x1B 0 8 true,
   odRo 0x2C11 4 1 0x17 0x17 0x1B 0 8 true,
   odRo 0x2D00 1 1 0x1 0x1 0x5 0 1 false,
   odRo 0x2D00 1 1 0x2 0x2 0x7 0 4 false,
   odRo 0x2D00 1 1 0x3 0x3 0x7 1000000000 4 false,
   odRo 0x2D00 1 1 0x4 0x4 0x6 0 2 false,
   odRo 0x2D00 1 1 0x5 0x5 0x1B 0 8 true,
   odRo 0x2D00 1 1 0x6 0x6 0x1B 0 8 true,
   odRo 0x2D00 1 1 0x7 0x7 0x1B 0 8 true,
   odRo 0x2D00 1 1 0x8 0x8 0x1B 0 8 true,
   odRo 0x2D00 1 1 0x9 0x9 0x7 0 4 false,
   odRo 0x2D00 1 1 0xA 0xA 0x7 0 4 false,
   odRo 0x2D00 1 1 0xB 0xB 0x6 0 2 false,
   odRo 0x2D00 1 1 0xC 0xC 0x1B 0 8 true,
   odRo 0x2D00 1 1 0xD 0xD 0x1B 0 8 true,
   odRo 0x2D00 1 1 0xE 0xE 0x1B 0 8 true,
   ⟨0x2D00, 1, 1, 0xF, 0xF, 0x5, 3, 28, 0, 0, 127, 1, false⟩,
   ⟨0x2D00, 1, 1, 0x10, 0x10, 0x1B, 2, 30, 0, 0, 18446744073709551615, 8, false⟩,
   odRo 0x2D00 1 1 0x11 0x11 0xF 0 2147483648 false,
   ⟨0x2D00, 1, 1, 0x12, 0x12, 0x7, 2, 30, 0, 0, 4294967295, 4, false⟩,
   odRo 0x2D00 1 1 0x13 0x13 0xF 0 2147483648 false,
   ⟨0x2D00, 1, 1, 0x14, 0x14, 0x5, 2, 30, 1, 0, 1, 1, false⟩,
   odRo 0x2D00 1 1 0x15 0x15 0xF 0 2147483648 false]

def odPart11 : List OdRow :=
  [⟨0x2D00, 1, 1, 0x16, 0x16, 0x1B, 3, 30, 0, 0, 18446744073709551615, 8, false⟩,
   odRo 0x2D00 1 1 0x17 0x17 0x7 0 4 false,
   odRo 0x2D00 1 1 0x18 0x18 0xF 0 2147483648 false,
   odRo 0x2E00 1 1 0x1 0x1 0x5 0 1 false,
   odRo 0x2E00 1 1 0x2 0x2 0x6 0 2 false,
   odRo 0x2E00 1 1 0x3 0x3 0x6 0 2 false,
   odRo 0x2E00 1 1 0x4 0x4 0x1B 0 8 true,
   odRo 0x2E00 1 1 0x5 0x5 0x1B 0 8 true,
   odRo 0x2E00 1 1 0x6 0x6 0x1B 0 8 true,
   odRo 0x2E00 1 1 0x7 0x7 0x1B 0 8 true,
   odRo 0x2E00 1 1 0x8 0x8 0x1B 0 8 true,
   odRo 0x2E00 1 1 0x9 0x9 0x5 0 1 false,
   odRo 0x2E00 1 1 0xA 0xA 0x80 0 8 false,
   odRo 0x2E00 1 1 0xB 0xB 0x7 0 4 false,
   ⟨0x2E00, 1, 1, 0xC, 0xC, 0xF, 3, 30, 0, 0, 0, 2147483648, false⟩,
   odRo 0x2E00 1 1 0xD 0xD 0x5 0 1 false,
   ⟨0x2E00, 1, 1, 0xE, 0xE, 0xF, 2, 30, 0, 0, 0, 696, false⟩,
   odRo 0x2E00 1 1 0xF 0xF 0xF 0 2147483648 false,
   ⟨0x2E00, 1, 1, 0x10, 0x10, 0xF, 3, 32, 0, 0, 0, 108, false⟩,
   odRo 0x2E00 1 1 0x11 0x11 0x6 0 2 false,
   odRo 0x2E00 1 1 0x12 0x12 0x1B 0 8 true,
   ⟨0x2E00, 1, 1, 0x13, 0x13, 0xF, 3, 2, 0, 0, 0, 2147483648, false⟩,
   odRo 0x2E01 1 1 0x1 0x8 0xF 0 48 false,
   odRo 0x2F00 1 1 0x1 0x1 0x7 0 4 false,
   odRo 0x2F00 1 1 0x2 0x2 0x1B 0 8 false,
   odRo 0x2F00 1 1 0x3 0x3 0x1B 0 8 false,
   odRo 0x2F00 1 1 0x4 0x4 0x7 0 4 false,
   odRo 0x2F00 1 1 0x5 0x5 0x7 523260 4 false,
   odRo 0x2F00 1 1 0x6 0x6 0x1 0 1 false,
   odRo 0x2F00 1 1 0x7 0x7 0x1B 0 8 true,
   odRo 0x2F00 1 1 0x8 0x8 0x1B 0 8 true,
   odRo 0x2F00 1 1 0x9 0x9 0x1B 0 8 true,
   odRo 0x2F00 1 1 0xA 0xA 0x1B 0 8 true,
   odRo 0x2F00 1 1 0xB 0xB 0x1B 0 8 true,
   ⟨0x2F00, 1, 1, 0xC, 0xC, 0x7, 2, 62, 0, 0, 4294967295, 4, false⟩,
   odRo 0x2F00 1 1 0xD 0xD 0xF 0 2147483648 false,
   odRo 0x2F00 1 1 0xE 0xE 0xF 0 128 false,
   odRo 0x2F00 1 1 0x10 0x10 0x1B 0 8 false,
   odRo 0x2F00 1 1 0x11 0x11 0x1B 0 8 false,
   ⟨0x2F00, 1, 1, 0x12, 0x12, 0x1B, 2, 62, 0, 0, 18446744073709551615, 8, false⟩]

def odPart12 : List OdRow :=
  [odRo 0x2F00 1 1 0x13 0x13 0xF 0 2147483648 false,
   odRo 0x2F00 1 1 0x14 0x14 0x1B 0 8 true,
   odRo 0x2F01 1 1 0x1 0x6 0xF 0 2147483648 false,
   odRo 0x2F02 1 1 0x1 0x6 0xF 0 2147483648 false,
   odRo 0x2F03 1 1 0x1 0x19 0x1B 0 8 true,
   odRo 0x3000 1 1 0x1 0x1 0x1B 0 8 false,
   odRo 0x3000 1 1 0x2 0x2 0x1B 0 8 true,
   odRo 0x3000 1 1 0x3 0x3 0x7 0 4 false,
   odRo 0x3000 1 1 0x4 0x4 0x1B 0 8 true,
   odRo 0x3000 1 1 0x5 0x5 0x1B 0 8 true,
   odRo 0x3000 1 1 0x6 0x6 0x1B 0 8 true,
   odRo 0x3000 1 1 0x7 0x7 0x7 0 4 false,
   odRo 0x3000 1 1 0x8 0x8 0x1B 0 8 true,
   odRo 0x3000 1 1 0x9 0x9 0x1B 0 8 true,
   odRo 0x3000 1 1 0xA 0xA 0x1B 0 8 true,
   odRo 0x3000 1 1 0xB 0xB 0x1B 0 8 true,
   odRo 0x3000 1 1 0xC 0xC 0x1B 0 8 true,
   ⟨0x3000, 1, 1, 0xD, 0xD, 0x1, 6, 6, 1, 0, 1, 1, false⟩,
   ⟨0x3100, 1, 1, 0x1, 0x1, 0x80, 2, 30, 0, 0, 18446744073709551615, 8, false⟩,
   ⟨0x3100, 1, 1, 0x2, 0x2, 0x1B, 2, 30, 0, 0, 3600000000000, 8, false⟩,
   odRo 0x3100 1 1 0x3 0x3 0x1B 0 8 false,
   odRo 0x3100 1 1 0x4 0x4 0x1B 0 8 true,
   odRo 0x3100 1 1 0x9 0x9 0x7 0 4 false,
   odRo 0x3100 1 1 0xA 0xA 0x1B 0 8 true,
   odRo 0x3100 1 1 0xB 0xB 0x1B 0 8 true,
   ⟨0x3100, 1, 1, 0x10, 0x10, 0x7, 4, 0, 0, 0, 4294967295, 4, false⟩,
   odRo 0x3101 1 1 0x1 0x80 0x1B 0 8 true,
   odRo 0x3102 1 1 0x1 0x80 0x1B 0 8 true,
   odRo 0x3103 1 1 0x0 0x0 0xF 0 2147483648 false,
   odRo 0x3104 1 1 0x0 0x0 0xF 0 2147483648 false,
   ⟨0x3131, 16, 1, 0x1, 0x1, 0x6, 2, 28, 0, 0, 511, 2, false⟩,
   ⟨0x3120, 33, 1, 0x2, 0x2, 0x5, 2, 28, 0, 0, 4, 1, false⟩,
   ⟨0x3120, 33, 1, 0x3, 0x3, 0x7, 2, 28, 0, 0, 65536, 4, false⟩,
   ⟨0x3120, 33, 1, 0x4, 0x4, 0x5, 2, 28, 1, 1, 8, 1, false⟩,
   ⟨0x3120, 33, 1, 0x5, 0x5, 0x5, 2, 28, 1, 1, 15, 1, false⟩,
   ⟨0x3120, 33, 1, 0x6, 0x6, 0x7, 2, 28, 1, 0, 4294967295, 4, false⟩,
   ⟨0x3120, 33, 1, 0x7, 0x7, 0x7, 2, 28, 60, 1, 3600, 4, false⟩,
   ⟨0x3120, 33, 1, 0x8, 0x8, 0x7, 3, 28, 0, 0, 4294967295, 4, false⟩,
   odRo 0x3120 33 1 0x9 0x9 0x5 0 1 false,
   odRo 0x3120 33 1 0xA 0xA 0x1B 0 8 true]

def odPart13 : List OdRow :=
  [odRo 0x3120 33 1 0xB 0xB 0x1B 0 8 true,
   odRo 0x4000 64 256 0x1 0x1 0x5 0 1 false,
   odRo 0x4000 64 256 0x2 0x2 0x5 0 1 false,
   odRo 0x4000 64 256 0x3 0x3 0x80 0 8 false,
   odRo 0x4000 64 256 0x4 0x4 0x7 0 4 false,
   odRo 0x4001 64 256 0x1 0x1 0x6 0 2 false,
   odRo 0x4001 64 256 0x2 0x2 0x7 0 4 false,
   odRo 0x4001 64 256 0x3 0x3 0xF 0 256 false,
   odRo 0x4002 64 256 0x1 0x1 0x1B 0 8 true,
   odRo 0x4002 64 256 0x2 0x2 0x1B 0 8 true,
   odRo 0x4002 64 256 0x3 0x3 0x1B 0 8 true,
   odRo 0x4002 64 256 0x4 0x4 0x1B 0 8 true,
   odRo 0x4002 64 256 0x5 0x5 0x1B 0 8 true,
   odRo 0x4002 64 256 0x6 0x6 0x1B 0 8 true,
   odRo 0x8000 512 1 0x1 0x1 0x5 0 1 false,
   odRo 0x8000 512 1 0x2 0x2 0x6 0 2 false,
   odRo 0x8000 512 1 0x3 0x3 0x1B 0 8 true,
   odRo 0x8000 512 1 0x4 0x4 0x1B 0 8 true,
   odRo 0x8000 512 1 0x5 0x5 0x1B 0 8 true,
   odRo 0x8000 512 1 0x6 0x6 0x1B 0 8 true,
   odRo 0x8000 512 1 0x7 0x7 0x1B 0 8 true,
   odRo 0x8000 512 1 0x8 0x8 0x1B 0 8 true,
   odRo 0x8000 512 1 0x9 0x9 0x1B 0 8 true,
   odRo 0x8000 512 1 0xA 0xA 0x1B 0 8 true,
   odRo 0x8000 512 1 0xB 0xB 0x1B 0 8 true,
   odRo 0x8000 512 1 0xC 0xC 0x1B 0 8 true,
   odRo 0x8000 512 1 0xD 0xD 0x4 0 4 false,
   odRo 0x8000 512 1 0xE 0xE 0x4 0 4 false,
   odRo 0x8000 512 1 0xF 0xF 0x1B 0 8 true,
   odRo 0x8000 512 1 0x10 0x10 0x1B 0 8 true,
   odRo 0x8200 512 1 0x1 0x1 0x6 0 2 false,
   odRo 0x8200 512 1 0x2 0x2 0x7 0 4 false,
   odRo 0x8200 512 1 0x3 0x3 0x7 0 4 false,
   odRo 0x8200 512 1 0x4 0x4 0x1B 0 8 false,
   ⟨0x8200, 512, 1, 0x5, 0x5, 0x6, 6, 6, 0, 0, 10000, 2, false⟩,
   ⟨0x8200, 512, 1, 0x6, 0x6, 0x6, 6, 6, 0, 0, 65535, 2, false⟩,
   ⟨0x8200, 512, 1, 0x7, 0x7, 0x6, 6, 6, 0, 0, 65535, 2, false⟩,
   odRo 0x8200 512 1 0x8 0x8 0x1 0 1 false,
   odRo 0x8400 2048 1 0x1 0x1 0x6 0 2 false,
   odRo 0x8400 2048 1 0x2 0x2 0x5 0 1 false]

def odPart14 : List OdRow :=
  [⟨0x8400, 2048, 1, 0x3, 0x3, 0x5, 6, 6, 0, 0, 3, 1, false⟩,
   ⟨0x8400, 2048, 1, 0x4, 0x4, 0x6, 6, 6, 0, 0, 16383, 2, false⟩,
   ⟨0x8400, 2048, 1, 0x5, 0x8, 0x5, 6, 6, 0, 0, 15, 1, false⟩,
   odRo 0x8400 2048 1 0x9 0x9 0x5 0 1 false,
   odRo 0x8400 2048 1 0xA 0xA 0x5 0 1 false,
   odRo 0x8400 2048 1 0xB 0xB 0x7 0 4 false,
   odRo 0x8400 2048 1 0xC 0xC 0x1B 0 8 true,
   odRo 0x8400 2048 1 0xD 0xD 0x1B 0 8 true,
   odRo 0x8400 2048 1 0xE 0xE 0x1B 0 8 true,
   odRo 0x8400 2048 1 0xF 0x12 0x1B 0 8 true,
   odRo 0x8400 2048 1 0x13 0x16 0x1B 0 8 true,
   odRo 0x8400 2048 1 0x17 0x17 0x1B 0 8 true,
   ⟨0x8400, 2048, 1, 0x18, 0x18, 0x1, 6, 6, 0, 0, 1, 1, false⟩,
   odRo 0x8C00 256 1 0x1 0x1 0x7 0 4 false,
   odRo 0x8C00 256 1 0x2 0x2 0x7 0 4 false,
   odRo 0x8C00 256 1 0x3 0x3 0x7 0 4 false,
   odRo 0x8C00 256 1 0x4 0x4 0x1B 0 8 true,
   odRo 0x8C00 256 1 0x5 0x5 0x1B 0 8 true,
   ⟨0x8C00, 256, 1, 0x6, 0x6, 0x7, 6, 6, 0, 0, 100000, 4, false⟩,
   ⟨0x8C00, 256, 1, 0x7, 0x7, 0x7, 6, 6, 0, 0, 60000000, 4, false⟩,
   odRo 0x8D00 32 1 0x1 0x1 0x6 0 2 false,
   odRo 0x8D00 32 1 0x2 0x2 0x1B 0 8 true,
   odRo 0x8E00 1024 1 0x1 0x1 0x5 0 1 false,
   odRo 0x8E00 1024 1 0x2 0x2 0x7 0 4 false,
   odRo 0x8E00 1024 1 0x3 0x3 0x7 0 4 false,
   odRo 0x8E00 1024 1 0x4 0x4 0x1B 0 8 true,
   odRo 0x8E00 1024 1 0x5 0x5 0x1B 0 8 true,
   odRo 0x8E00 1024 1 0x6 0x6 0x1B 0 8 true,
   odRo 0x8E00 1024 1 0x7 0x7 0x1B 0 8 true,
   odRo 0x8E00 1024 1 0x8 0x8 0x1B 0 8 true,
   odRo 0x8E00 1024 1 0x9 0x9 0x1B 0 8 true,
   odRo 0x9201 16 1 0x1 0x1 0x5 0 1 false,
   odRo 0x9201 16 1 0x2 0x2 0x1B 0 8 true,
   odRo 0x9201 16 1 0x3 0x3 0x1B 0 8 true,
   odRo 0x9201 16 1 0x4 0x4 0x1B 0 8 true,
   odRo 0x9201 16 1 0x5 0x5 0x1B 0 8 true,
   odRo 0x9201 16 1 0x6 0x6 0x1B 0 8 true,
   odRo 0x9201 16 1 0x7 0x7 0x5 0 1 false,
   ⟨0x9201, 16, 1, 0x8, 0x8, 0x1, 6, 6, 0, 0, 1, 1, false⟩,
   ⟨0x9201, 16, 1, 0x9, 0x9, 0x5, 6, 6, 0, 0, 3, 1, false⟩]

def odPart15 : List OdRow :=
  [odRo 0x9201 16 1 0xA 0xA 0x1B 0 8 true,
   odRo 0x9201 16 1 0xB 0xB 0x1B 0 8 true,
   odRo 0x9201 16 1 0xC 0xC 0x1B 0 8 true,
   odRo 0x9201 16 1 0xD 0xD 0x1B 0 8 true,
   odRo 0x9201 16 1 0xE 0xE 0x7 0 4 false,
   odRo 0x9301 16 1 0x1 0x8 0x1B 0 8 true,
   odRo 0x9401 16 1 0x1 0x8 0x1B 0 8 true,
   odRo 0x9501 16 1 0x1 0x8 0x1B 0 8 true,
   odRo 0x9600 65 1 0x1 0x1 0x1B 0 8 true,
   odRo 0x9600 65 1 0x2 0x2 0x1B 0 8 true,
   odRo 0x9600 65 1 0x3 0x3 0x1B 0 8 true,
   odRo 0x9600 65 1 0x4 0x4 0x1B 0 8 true,
   odRo 0x9600 65 1 0x5 0x5 0x1B 0 8 true,
   odRo 0x9600 65 1 0x6 0x6 0x1B 0 8 true,
   odRo 0x9600 65 1 0x7 0x7 0x1B 0 8 true,
   odRo 0x9600 65 1 0x8 0x8 0x1B 0 8 true,
   odRo 0x9600 65 1 0x9 0x9 0x1B 0 8 true,
   odRo 0x9700 256 1 0x1 0x1 0x5 255 1 false,
   odRo 0x9700 256 1 0x2 0x2 0x5 0 1 false,
   odRo 0x9700 256 1 0x3 0x3 0xF 0 80 false,
   odRo 0x9700 256 1 0x4 0x4 0x5 0 1 false,
   odRo 0x9700 256 1 0x5 0x5 0x6 0 2 false,
   odRo 0x9700 256 1 0x6 0x6 0x1B 0 8 true,
   odRo 0x9700 256 1 0x7 0x7 0x1B 0 8 true,
   odRo 0x9800 128 1 0x1 0x1 0x5 0 1 false,
   odRo 0x9800 128 1 0x2 0x2 0x1B 0 8 true,
   odRo 0x9800 128 1 0x3 0x3 0x1B 0 8 false,
   odRo 0x9800 128 1 0x4 0x4 0x1B 0 8 true,
   odRo 0x9800 128 1 0x5 0x5 0x1B 0 8 true,
   odRo 0x9800 128 1 0x6 0x6 0x1B 0 8 true,
   ⟨0x9800, 128, 1, 0x7, 0x7, 0x1, 2, 28, 0, 0, 1, 1, false⟩,
   ⟨0x9800, 128, 1, 0x8, 0x8, 0x7, 6, 6, 0, 256, 1048576, 4, false⟩,
   ⟨0x9800, 128, 1, 0x9, 0x9, 0x7, 6, 6, 0, 0, 1048575, 4, false⟩,
   ⟨0x9800, 128, 1, 0xA, 0xA, 0xF, 6, 6, 0, 0, 0, 32, false⟩,
   odRo 0x9A00 512 1 0x1 0x1 0x5 0 1 false,
   odRo 0x9A00 512 1 0x2 0x2 0x5 0 1 false,
   odRo 0x9A00 512 1 0x3 0x3 0x7 0 4 false,
   odRo 0x9A00 512 1 0x4 0x4 0x5 255 1 false,
   odRo 0x9A00 512 1 0x5 0x5 0x6 65535 2 false,
   odRo 0x9A00 512 1 0x6 0x6 0x7 0 4 false]

def odPart16 : List OdRow :=
  [odRo 0x9A00 512 1 0x7 0x7 0x7 0 4 false,
   odRo 0x9A00 512 1 0x8 0x8 0x1B 0 8 true]

/-- The whole table, in ascending index and subindex of the first entry of a row. -/
def odTable : List OdRow :=
  odPart1 ++ odPart2 ++ odPart3 ++ odPart4 ++ odPart5 ++ odPart6 ++ odPart7 ++ odPart8 ++ odPart9 ++ odPart10 ++ odPart11 ++ odPart12 ++ odPart13 ++ odPart14 ++ odPart15 ++ odPart16

/-- Is an index one of a row's? -/
def odIndexIn (r : OdRow) (index : Nat) : Bool :=
  decide (r.base ≤ index ∧ (index - r.base) % r.stride = 0 ∧ (index - r.base) / r.stride < r.cnt)

/-- The row of an entry. -/
def odFind (index sub : Nat) : Option OdRow := odTable.find? (fun r => odIndexIn r index && decide (r.lo ≤ sub ∧ sub ≤ r.hi))

/-- Does any chapter give the index? -/
def odHas (index : Nat) : Bool := odTable.any (fun r => odIndexIn r index)

/-- The highest subindex in use at an index (21 R613). -/
def odHighest (index : Nat) : Nat := odTable.foldl (fun n r => if odIndexIn r index then max n r.hi else n) 0

/-- The counters in bank order: the address of each, ascending (22 R642). -/
def counterKeys : List Nat :=
  (List.range 0xA000).flatMap (fun index =>
    (odTable.filter (fun r => r.counter && odIndexIn r index)).flatMap (fun r =>
      (List.range (r.hi + 1 - r.lo)).map (fun j => od index (r.lo + j))))

end Sys2Proof.Machine
end

