-- ==== Sys2Proof/Machine/Power.lean ====
section
/-! DEFINITION. The shared supply stage, the Lining, fuses, baseplate temperature, clocks and the Runtime (23; 01 R18,
R24, R33). -/
namespace Sys2Proof.Machine

/-- VIN: the higher input; a reversed input draws nothing (23 R651, R652). -/
def vinOf (p : Supply) : Int := max 0 (max p.pa p.pb)

/-- The supply stage with a sample taken; while PWARN is asserted the dip's lowest values go with it (23 R661). -/
def sampled (x : SupSample) (p : Supply) : Supply :=
  let p1 := { p with pa := x.pa, pb := x.pb, lining := x.lining }
  if p.pwarn then { p1 with lowVin := min p.lowVin (vinOf p1).toNat, lowLining := min p.lowLining x.lining } else p1

/-- A command of the shared supply stage: the stage as it becomes, and what each channel makes of it (23 R659). -/
def onSupply (x : SupSample) (f : Supply → Supply) (g : Channel → Channel) (s : State) : Host.Outcome State Fault Refusal :=
  let p := f (sampled x s.supply)
  .next { s with supply := p, a := g { commitsEnded s.a with psu := p }, b := g { commitsEnded s.b with psu := p } }

/-- A supply command whose condition does not hold leaves the sample alone. -/
def onSample (x : SupSample) (s : State) : Host.Outcome State Fault Refusal := onSupply x id id s

/-! ### Power-on and loss of power -/

/-- A channel without power: what is volatile is gone (20 R594; 23 R659; log entry 21). -/
def unpowered (c : Channel) : Channel :=
  let r := channelReset c.id
  { r with slots := stopWriting c.slots, retain := c.retain, keysNv := c.keysNv, ledgerNv := c.ledgerNv, psu := c.psu, temp := c.temp,
           tempOut := c.tempOut, pleat := { r.pleat with store := c.pleat.store, writing := c.pleat.writing }, emitted := c.emitted,
           free := c.free, boot := { r.boot with slotId := c.boot.slotId, rolePrefN := c.boot.rolePrefN } }

/-- A channel held in reset: its counters and high-waters stay, which start at power-on alone (22 R642; log entry 21). -/
def heldInReset (c : Channel) : Channel :=
  let u := unpowered c
  { u with ctr := c.ctr, dict := { u.dict with ro := c.dict.ro } }

/-- A channel that gets power starts BOOT at phase L, or at B1 with the Lining CHARGED (02 R58; 23 R659). -/
def powerOn (charged : Bool) (cause : Nat) (c : Channel) : Channel :=
  let u := ledgerResume (if cause = 2 then heldInReset c else unpowered c)
  { u with boot := { u.boot with powered := true, phase := if charged then 1 else 16, cause := cause } }

/-- VIN_APPLIED: OFF to NORMAL (23 R659). Open fuses close (23 R654). -/
def execVinApplied (x : SupSample) (s : State) : Host.Outcome State Fault Refusal :=
  let p := sampled x s.supply
  match p.st with
  | .off =>
    if 16500 ≤ vinOf p then
      let charged := p.linState == .charged || decide (41000 ≤ p.lining)
      onSupply x (fun p => { p with st := .normal, pwarn := false, discharge := false, linState := if charged then .charged else .charging })
        (powerOn charged 1) { s with fuseA := true, fuseB := true }
    else onSample x s
  | _ => onSample x s

/-! ### PWARN (23 R659 to R662) -/

/-- Slot writes stop: the slot being written becomes INCOMPLETE (02 R65; 23 R660). Its session ends at the next segment (21 R631), or
when PWARN clears, since a stopped write is not resumed (23 R661). -/
def stopSlotWrites (c : Channel) : Channel :=
  let n := ([c.slots.cfg0, c.slots.cfg1, c.slots.fw0, c.slots.fw1].filter (fun x => x.status == 6)).length
  bumpN 0x2100 0x13 n { c with slots := stopWriting c.slots }

/-- The sessions of stopped slot writes end. -/
def endImageSessions (c : Channel) : Channel :=
  { c with dict := { c.dict with sessions := c.dict.sessions.filter (fun w => w.key != od 0x2000 0x11 && w.key != od 0x2000 0x14) } }

/-- What a channel does at the assertion of PWARN (23 R660). -/
def pwarnActions (c : Channel) : Channel :=
  if !c.boot.powered then c
  else
    let c1 := stopSlotWrites (raise 12 0xFF 0 0 (bump 0x2100 0x0A c))
    let c2 := if ledgerRuns c1 then batchTry c1 else c1
    if runtimeUp c2 then retainFlushAll c2 else c2

def execPwarnAsserted (x : SupSample) (s : State) : Host.Outcome State Fault Refusal :=
  let p := sampled x s.supply
  match p.st with
  | .normal =>
    if vinOf p < 15500 then
      onSupply x (fun p => { p with st := .warning, pwarn := true, lowVin := (vinOf p).toNat, lowLining := p.lining }) pwarnActions s
    else onSample x s
  | _ => onSample x s

/-- What a channel does at the clearing of PWARN (23 R661): the SUPPLY_DIP episode, E13, and the refused commits. -/
def pwarnCleared (us : Nat) (c : Channel) : Channel :=
  if !c.boot.powered then c
  else
    let lv := min c.psu.lowVin 65535
    let ll := min c.psu.lowLining 65535
    let c0 := endImageSessions c
    let c1 := setRo 0x2100 0x0E us (setRo 0x2100 0x0D ll (setRo 0x2100 0x0C lv (bump 0x2100 0x0B c0)))
    let c2 := raise 13 0xFF 0 0 (episode 0x10 (leBytes 2 lv ++ leBytes 2 ll ++ leBytes 4 us) c1)
    ledgerBatchRetryC (if runtimeUp c2 then c2.lse.foldl (fun c L => retainFlushRetryC L.1 c) (keyCommitRetryC c2) else c2)

/-- PWARN_CLEARED: `us` is the dip's duration in µs (23 R659, R661). -/
def execPwarnCleared (x : SupSample) (us : Nat) (s : State) : Host.Outcome State Fault Refusal :=
  let p := sampled x s.supply
  match p.st with
  | .warning =>
    if 16500 ≤ vinOf p then onSupply x (fun p => { p with st := .normal, pwarn := false }) (pwarnCleared us) s else onSample x s
  | _ => onSample x s

/-- VIN_DIP_IN_CLEARING_WINDOW: the window starts afresh, the dip goes on as one (23 R662). PWARN stays asserted, and
the sample counts for the dip's lowest values. -/
def execVinDipInClearingWindow (x : SupSample) (s : State) : Host.Outcome State Fault Refusal := onSample x s

/-! ### Reset and off (23 R659) -/

/-- The host bridge without power: what is in host memory stays (01 R20). -/
def bridgeOff (b : Bridge) : Bridge := { bridgeReset with wbTx := b.wbTx, wbRx := b.wbRx }

/-- LINING_BUS_BELOW_RESET: both channels are held in reset, the active discharge is on (23 R658, R659; 02 R52). -/
def execLiningBusBelowReset (x : SupSample) (s : State) : Host.Outcome State Fault Refusal :=
  match s.supply.st with
  | .warning =>
    if x.lining < 12000 then
      onSupply x (fun p => { p with st := .reset, linState := .discharged, discharge := true }) heldInReset { s with bridge := bridgeOff s.bridge }
    else onSample x s
  | _ => onSample x s

/-- A channel whose fuse is closed leaves reset with cause 0x02. -/
def releaseReset (closed charged : Bool) (c : Channel) : Channel := if closed then powerOn charged 2 c else c

def execResetReleased (x : SupSample) (s : State) : Host.Outcome State Fault Refusal :=
  let p := sampled x s.supply
  match p.st with
  | .reset =>
    if 16500 ≤ vinOf p then
      let charged := decide (41000 ≤ p.lining)
      let q := { p with st := .normal, pwarn := false, discharge := false, linState := if charged then .charged else .charging }
      .next { s with supply := q, a := releaseReset s.fuseA charged { commitsEnded s.a with psu := q },
                     b := releaseReset s.fuseB charged { commitsEnded s.b with psu := q } }
    else onSample x s
  | _ => onSample x s

def execSupplyOff (x : SupSample) (s : State) : Host.Outcome State Fault Refusal :=
  let p := sampled x s.supply
  match p.st with
  | .reset =>
    if p.pa < 5000 ∧ p.pb < 5000 then onSupply x (fun p => { p with st := .off, pwarn := false }) unpowered { s with bridge := bridgeOff s.bridge } else onSample x s
  | _ => onSample x s

/-! ### The Lining (23 R655 to R657) -/

def inService (p : Supply) : Bool := p.st == .normal || p.st == .warning

/-- HOLDUP_CONNECT: below 14.5 V the Lining takes the load, the charger is off. -/
def execHoldupConnect (x : SupSample) (s : State) : Host.Outcome State Fault Refusal :=
  onSupply x (fun p => if inService p && decide (vinOf p < 14500) then { p with linState := .holdup } else p) id s

/-- A channel in phase L goes on to B1 once the Lining is CHARGED (02 R56). -/
def liningReady (c : Channel) : Channel :=
  if c.psu.linState == .charged && c.boot.powered && decide (c.boot.phase = 16) then bootstatChange { c with boot := { c.boot with phase := 1 } } else c

/-- HOLDUP_DISCONNECT: above 15.0 V the charger restarts; a bus still at 41.0 V is CHARGED. -/
def execHoldupDisconnect (x : SupSample) (s : State) : Host.Outcome State Fault Refusal :=
  onSupply x (fun p => if p.linState == .holdup && decide (15000 < vinOf p) then
    { p with linState := if 41000 ≤ p.lining then .charged else .charging } else p) liningReady s

/-- LINING_CHARGED: the measured capacitance; below 4.40 mF the Lining is degraded (23 R656). -/
def execLiningCharged (x : SupSample) (cap : Nat) (s : State) : Host.Outcome State Fault Refusal :=
  onSupply x (fun p => if p.linState == .charging && decide (41000 ≤ p.lining) then
    { p with linState := .charged, capUF := cap, degraded := p.degraded || decide (cap < 4400) } else p) liningReady s

/-- LINING_LEAVES_CHARGED: below 38.0 V (23 R656). -/
def execLiningLeavesCharged (x : SupSample) (s : State) : Host.Outcome State Fault Refusal :=
  onSupply x (fun p => if p.linState == .charged && decide (p.lining < 38000) then { p with linState := .charging } else p) id s

/-! ### One channel -/

/-- FUSE_OPEN: more than 6.0 A for 5 ms, or more than 12 A, removes the channel's supply (01 R18; 23 R654). -/
def execFuseOpen (ch : Chan) (mA us : Nat) (s : State) : Host.Outcome State Fault Refusal :=
  let closed := match ch with | .a => s.fuseA | .b => s.fuseB
  if closed && (decide (6000 < mA ∧ 5000 ≤ us) || decide (12000 < mA)) then
    let s1 := withChan s ch (unpowered (chanOf s ch))
    match ch with
    | .a => .next { s1 with fuseA := false }
    | .b => .next { s1 with fuseB := false }
  else .next s

/-- TEMPERATURE_CROSSING: out of or back into the order code's baseplate range (00 R5, R6; 23 R675; 20 R601). -/
def temperatureCrossingC (centi : Int) (c : Channel) : Channel :=
  let lo : Int := if Config.wideRange then -4000 else -2500
  let out := decide (centi < lo ∨ 7000 < centi)
  let c1 := { c with temp := centi, tempOut := out }
  if out = c.tempOut || !c.boot.powered then c1
  else episode 0x16 (BitVec.ofNat 8 (bit16 0 (!out)) :: leBytes 2 (BitVec.ofInt 16 centi).toNat) c1
def execTemperatureCrossing (ch : Chan) (centi : Int) (s : State) : Host.Outcome State Fault Refusal :=
  onChan ch (temperatureCrossingC centi) s

/-- CLOCK_MONITOR_FAULT: PLL unlock (0), a stopped clock (1), a deviation (2) (01 R33): channel fault CLOCK. -/
def clockMonitorFaultC (c : Channel) : Channel :=
  if c.boot.powered && c.boot.halt.isNone then
    channelFault 1 (testFail 3 0 c)
  else c
def execClockMonitorFault (ch : Chan) (_kind : Nat) (s : State) : Host.Outcome State Fault Refusal := onChan ch clockMonitorFaultC s

/-- RUNTIME_RESTART (01 R24): a channel fault where graphs run; in HOLD and SEALED a restart through BOOT. DESIGN CHOICE (log entry
45): 02 R81 has no code for that restart, which is no channel fault, so OD 2000:0F keeps the cause it had; and no rule says what a
Runtime restart during BOOT does, so BOOT begins again at its first phase, the cause unchanged. -/
def runtimeRestartC (c : Channel) : Channel :=
  if !runtimeUp c then c
  else match c.boot.mode with
    | .commission | .standby | .active => channelFault 4 c
    | .hold | .sealedMode => restartBoot c.boot.cause 0 c
    | .boot => restartFrom (channelReset c.id) c.boot.cause c
def execRuntimeRestart (ch : Chan) (s : State) : Host.Outcome State Fault Refusal := onChan ch runtimeRestartC s

end Sys2Proof.Machine
end

