-- ==== Sys2Proof/Machine/Dict.lean ====
section
/-! DEFINITION. What every dictionary entry reads: computed values, last-value words, counters, overlay and initial values
(21 R613 to R623; the entry tables of every chapter), and the DOMAIN entries. -/
namespace Sys2Proof.Machine

/-- A number of entries as a count. -/
def countOf {α : Type} (p : α → Bool) (m : KMap α) : Nat := (m.filter (fun x => p x.2)).length
def b01 (b : Bool) : Nat := if b then 1 else 0
def i32 (i : Int) : Nat := (BitVec.ofInt 32 (clampInt (-2147483648) 2147483647 i)).toNat
/-- A 64-bit mask of the sleeves that satisfy a condition. -/
def sleeveMask (c : Channel) (p : Nat → Sleeve → Bool) : Nat :=
  c.sleeves.foldl (fun n x => if p x.1 x.2 then n ||| 2 ^ x.1 else n) 0

/-- The configuration slot that is not committed, and the committed one (02 R62). -/
def stagingSlot (c : Channel) : Slot := if c.slots.committed = 0 then c.slots.cfg1 else c.slots.cfg0
def committedSlot (c : Channel) : Slot := if c.slots.committed = 0 then c.slots.cfg0 else c.slots.cfg1


/-- The entry that reads a free value, input power; each READ of it draws. -/
def freeEntry (index sub : Nat) : Bool :=
  index == 0x2100 && sub == 0x14

/-! ### Codes -/

def streamCode : StreamState → Nat
  | .inactive => 0 | .waiting => 1 | .returning => 2 | .valid => 3 | .lost => 4
def lseCode : LseState → Nat
  | .stopped => 0 | .running => 1 | .overrun => 2 | .faulted => 3
def sleeveCode : SleeveState → Nat
  | .undefined => 0 | .starting => 1 | .running => 2 | .frozen => 3
def roleCode : TileRole → Nat
  | .placeable => 0 | .spare => 1 | .failed => 2
def defCode : DefState → Nat
  | .stopped => 1 | .armed => 2 | .recording => 3 | .rearming => 4
def liningCode : LiningState → Nat
  | .discharged => 0 | .charging => 1 | .charged => 2 | .holdup => 3

/-! ### Computed entries by block; none where the entry is not computed -/

/-- Block 2000 and the identity objects (02 R81; 21 R635, R636). -/
def num2000 (c : Channel) (sub : Nat) : Option Nat :=
  match sub with
  | 0x01 => some (modeCode c.boot.mode)
  | 0x02 => some c.boot.twinMode.toNat
  | 0x04 => some c.boot.holdReason
  | 0x05 => some c.slots.committed
  | 0x06 => some c.slots.cfg0.status
  | 0x07 => some c.slots.cfg1.status
  | 0x08 => some c.boot.lastSlotWritten
  | 0x09 => some c.slots.committedFw
  | 0x0A => some c.boot.phase
  | 0x0B => some c.boot.duration.toNat
  | 0x0C => some c.boot.readyMask.toNat
  | 0x0E => some (if c.slots.intentOperate then 3 else 2)
  | 0x0F => some c.boot.cause
  | 0x15 => some c.slots.fw0.status
  | 0x16 => some c.slots.fw1.status
  | 0x18 => some (chanByte c).toNat
  | 0x19 => some c.boot.slotId
  | 0x1A => some c.dict.overlay.length
  | _ => none

def numIdentity (c : Channel) (index sub : Nat) : Option Nat :=
  if index = 0x1001 then
    some (b01 (c.boot.mode == .hold || c.boot.mode == .sealedMode || c.boot.halt.isSome) +
      16 * b01 (c.can.any (fun p => canErr p.2 != 0)) + 128 * b01 (c.seam.presence == 0))
  else if index = 0x1018 then
    match sub with
    | 1 => some Config.vendorId.toNat
    | 3 => some ((edition c).1 * 65536 + (edition c).2 % 256 * 256 + issueLetter.toNat)
    | 4 => some serialNumber.toNat
    | _ => none
  else none

/-- Blocks 2300, 8000 and 8200 (03 R113, R114). -/
def chargeOf (r : StreamRec) : Nat := (r.rate + r.noAsdu - 1) / max r.noAsdu 1

def num2300 (c : Channel) (sub : Nat) : Option Nat :=
  match sub with
  | 0x01 => some c.ingest.streams.length
  | 0x02 => some (sumOf (fun x => chargeOf x.2.cfg) c.ingest.streams)
  | 0x04 => some (c.ingest.f96.length + c.ingest.h14.length + c.ingest.s48.length)
  | 0x06 => some (sumOf (fun (f : RingFrame) => f.frame.len) (c.ingest.f96 ++ c.ingest.h14 ++ c.ingest.s48))
  | 0x0D => some (countOf (fun x => x.st == .valid) c.ingest.streams)
  | 0x0E => some (countOf (fun x => x.st == .lost || x.st == .waiting) c.ingest.streams)
  | _ => none

def numStream (c : Channel) (view : Bool) (n sub : Nat) : Option Nat :=
  (kGet c.ingest.streams n).bind (fun x =>
    if !view then (if sub = 1 then some (streamCode x.st) else none)
    else match sub with
      | 1 => some x.cfg.appid
      | 2 => some x.cfg.rate
      | 3 => some (chargeOf x.cfg)
      | 4 => some x.mask.toNat
      | 8 => some (b01 x.simMode)
      | _ => none)

/-- Blocks 2400 and 8400 (04 R141, R143). -/
def rateOf (c : Channel) (s : Nat) : Nat := match kGet c.ingest.streams s with | some x => x.cfg.rate | none => 1

def settleLeft (c : Channel) (x : CPath) : Nat := settleCount x.cfg.preset (rateOf c x.cfg.stream) - x.produced

/-- Does a path settle, or emit empty outputs (04 R135, R141)? -/
def pathSettling (c : Channel) (x : CPath) : Bool :=
  x.cfg.preset != 0 && (settleLeft c x != 0 || (match x.ring.getLast? with | some o => o.q &&& qMissing != 0 | none => false))

def num2400 (c : Channel) (sub : Nat) : Option Nat :=
  match sub with
  | 0x01 => some c.paths.length
  | 0x02 => some (sumOf (fun x => if x.2.cfg.preset = 0 then 0 else rateOf c x.2.cfg.stream) c.paths)
  | 0x07 => some (countOf (pathSettling c) c.paths)
  | 0x08 => some (countOf (fun x => x.pend.isSome) c.paths)
  | 0x09 => some ((c.paths.filter (fun x => x.2.pend.isSome)).foldl (fun t x => if t = 0 then x.2.pendAt else min t x.2.pendAt) 0)
  | _ => none

def numPath (c : Channel) (n sub : Nat) : Option Nat :=
  (kGet c.paths n).bind (fun x =>
    match sub with
    | 0x01 => some x.cfg.stream
    | 0x02 => some x.cfg.k
    | 0x09 => some x.cfg.owner
    | 0x0A => some (settleLeft c x)
    | 0x0B => some (condDelay x.cfg (rateOf c x.cfg.stream))
    | _ => none)

/-- Blocks 2500 to 250A and 3000 (05 R184; 06 R214; 07 R240; 08 R274; 09 R309). -/
def num2500 (c : Channel) (index sub : Nat) : Option Nat :=
  if index = 0x2500 then
    match sub with
    | 0x01 => some (sumOf (fun g => g.2.cfg.insts.length) c.graphs)
    | 0x02 => some (sumOf (fun g => g.2.cfg.edges.length) c.graphs)
    | 0x03 => some (sumOf (fun g => g.2.cfg.sources.length) c.graphs)
    | 0x10 => some (sumOf (fun l => inUse c l) (List.range 8))
    | 0x12 => some (sharedUsed c)
    | 0x19 => some c.disp.delay.length
    | 0x1F => some (sharedSize c)
    | 0x23 => some (placerState c)
    | 0x24 => some c.disp.moves.length
    | 0x2D => some (spareCount c)
    | _ => none
  else if index = 0x2502 then some (inUse c (sub - 1))
  else if index = 0x2507 then (kGet c.disp.tiles (sub - 1)).map (fun t => roleCode t.role)
  else if index = 0x250A then some (nth opCodes (sub - 1) 0 * 65536 + 1)
  else if index = 0x3000 then
    (if sub = 1 then some (c.disp.banks.foldl (fun n b => if b.2.retained then n ||| 2 ^ b.1 else n) 0)
     else if inRange sub 4 6 then some (zGet (banksSettle c).ctr (od index sub)).toNat
     else if sub = 7 then some (zGet (banksSettle c).dict.ro (od index sub)).toNat
     else none)
  else none

/-- Blocks 2600, 2610, 8C00, 8D00 and 8E00 (10 R331, R332). -/
def num2600 (c : Channel) (index sub : Nat) : Option Nat :=
  if index = 0x2600 then
    match sub with
    | 0x01 => some c.pub.gpubs.length
    | 0x02 => some c.pub.spubs.length
    | 0x03 => some c.pub.subs.length
    | 0x0A => some (b01 c.pub.cuff)
    | _ => none
  else if index = 0x2610 then
    some (c.pub.trips.foldl (fun n x => if x.2.value && x.1 / 64 + 1 == sub then n ||| 2 ^ (x.1 % 64) else n) 0)
  else if inRange index 0x8C00 0x8CFF then
    (kGet c.pub.gpubs (index - 0x8C00)).bind (fun p =>
      match sub with
      | 1 => some p.stNum.toNat
      | 2 => some p.sqNum.toNat
      | 3 => some p.interval
      | _ => none)
  else if inRange index 0x8E00 0x91FF then
    (kGet c.pub.subs (index - 0x8E00)).bind (fun x =>
      match sub with
      | 1 => some (subStateCode x.st)
      | 2 => some (match x.stNum with | some n => n.toNat | none => 0)
      | 3 => some x.sqNum.toNat
      | _ => none)
  else none

/-- Block 2700 (11 R366). -/
def lsePrograms (c : Channel) : List (Nat × LseProg) := c.lse.map (fun x => (x.1, x.2.prog))

def num2700 (c : Channel) (index sub : Nat) : Option Nat :=
  if index = 0x2700 then
    match sub with
    | 0x01 => some (lseLoad (lsePrograms c))
    | 0x02 => some c.lse.length
    | 0x10 => some (c.lse.foldl (fun n x => if x.2.differs then n ||| 2 ^ x.1 else n) 0)
    | 0x13 => some (sumOf (fun x => x.2.forces.length) c.lse)
    | _ => none
  else
    (kGet c.lse (sub - 1)).bind (fun L =>
      if index = 0x2701 then some (lseCode L.st)
      else if index = 0x2703 then some (lseAll L.prog / 10)
      else if index = 0x2704 then some (lseR (lsePrograms c) (sub - 1, L.prog) / 10)
      else if index = 0x2705 then some L.overruns
      else none)

/-- Blocks 2800 and 2810 (12 R394). -/
def num2800 (c : Channel) (index sub : Nat) : Option Nat :=
  if index = 0x2810 then some (attrWindow c (sub - 1) / 1000)
  else if index = 0x2800 then
    match sub with
    | 0x01 => some (b01 c.seam.holdCtl)
    | 0x02 => some c.seam.presence
    | 0x03 => some (b01 (c.seam.stage == 5))
    | 0x04 => some c.seam.stage
    | 0x12 => some (i32 c.seam.align)
    | 0x18 => some c.seam.store.length
    | 0x21 => some (b01 (!c.boot.rolePrefN))
    | _ => none
  else none

/-- Blocks 2200 to 2223 (13 R416). -/
def num2200 (c : Channel) (index sub : Nat) : Option Nat :=
  let t := c.time
  let gm (f : PtpMsg → Nat) : Option Nat := t.gm.map (fun x => f x.msg)
  if index = 0x2200 then
    match sub with
    | 0x01 => some (servoCode t.servo)
    | 0x02 => some (i32 t.offset)
    | 0x03 => some (ptpGet c t.selPort).delay
    | 0x04 => some (i32 (t.adj * 1000000000000 / cycleUnits))
    | 0x05 => some t.selPort
    | 0x06 => gm (fun m => m.gmId.toNat)
    | 0x07 => gm (fun m => m.clockClass)
    | 0x08 => gm (fun m => m.steps)
    | 0x09 => some (i32 t.utcOffset)
    | 0x0A => some (b01 t.utcValid)
    | 0x0B => some t.firstLock.toNat
    | 0x0C => some (if t.servo = .holdover then (t.up - t.holdAt) / 1000000000 else 0)
    | 0x10 => some t.highWater
    | 0x11 => some (b01 t.limitPassed)
    | _ => none
  else if index = 0x2211 then some (ptpGet c sub).delay
  else if index = 0x2213 then some (Config.ingressConst c.id sub).toNat
  else if index = 0x2214 then some (Config.egressConst c.id sub).toNat
  else if index = 0x2216 then some (i32 (ptpGet c sub).offset)
  else if inRange index 0x2220 0x2223 && sub == 0x0A then some (pgGet c (index - 0x2220)).status
  else none

/-- Blocks 2900, 2910 and 9200 (14 R447, R448). -/
def num2900 (c : Channel) (index sub : Nat) : Option Nat :=
  if index = 0x2900 then
    match sub with
    | 0x01 => some (b01 c.sw.cfg.voq)
    | 0x02 => some (b01 c.sw.section_)
    | 0x03 => some (cellsInUse c)
    | 0x11 => some c.sw.learned.length
    | _ => none
  else if inRange index 0x2910 0x2913 then
    (kGet c.sw.cfg.groups (index - 0x2910)).bind (fun g =>
      match sub with
      | 1 => some (b01 g.hsr)
      | 2 => some (g.portA * 256 + g.portB)
      | 5 => some (groupSt c (index - 0x2910)).nodes.length
      | _ => none)
  else if inRange index 0x9201 0x9210 then
    let p := index - 0x9200
    match sub with
    | 1 => some (b01 (linkUp c p))
    | 7 => some (portGet c p).preempt
    | _ => none
  else none

/-- Block 2A00 (15 R485), with the shared bridge. -/
def num2A00 (br : Bridge) (c : Channel) (sub : Nat) : Option Nat :=
  match sub with
  | 0x01 => some Config.pciVendor.toNat
  | 0x02 => some br.speed
  | 0x03 => some br.width
  | 0x04 => some (if br.vfEnable then br.numVfs else 0)
  | 0x19 => some (hostMac c).toNat
  | _ => none

/-- Block 2B00 and the sleeves' own objects (16 R507, R508). -/
def num2B00 (c : Channel) (sub : Nat) : Option Nat :=
  match sub with
  | 0x01 => some (sleeveMask c (fun _ s => s.st != .undefined))
  | 0x02 => some (sleeveMask c (fun _ s => s.st == .frozen))
  | 0x03 =>
    let committed := (ofType (committedSlot c).bytes 2).map (fun x => x.1.sleeve)
    some ((List.range 64).foldl (fun m n =>
      let d := match kGet c.sleeves n with
        | some s => s.differs || !committed.contains n
        | none => c.boot.admitted && committed.contains n
      if d then m ||| 2 ^ n else m) 0)
  | 0x0A => some (9000 - sumOf (fun x => x.2.cfg.tileQuota) (c.sleeves.filter (fun x => x.2.st != .undefined)))
  | 0x0B => some (32768 - sumOf (fun x => x.2.cfg.commonsKiB) (c.sleeves.filter (fun x => x.2.st != .undefined)))
  | _ => none

def numSleeve (c : Channel) (n sub : Nat) : Option Nat :=
  (kGet c.sleeves n).bind (fun s =>
    match sub with
    | 1 => some (sleeveCode s.st)
    | 2 => some s.beh
    | 3 => some s.lastBoundary
    | _ => none)

/-- Blocks 2C00 and 9700 (17 R531, R532). -/
def num2C00 (c : Channel) (index sub : Nat) : Option Nat :=
  if index = 0x2C00 then (if sub = 1 then some (sumOf (fun p => p.2.bufs.length) c.can) else none)
  else if inRange index 0x2C11 0x2C14 then
    (kGet c.can (index - 0x2C10)).bind (fun p =>
      match sub with
      | 1 => some (canMode c p)
      | 2 => some (canErr p)
      | 3 => some p.tec
      | 4 => some p.rec_
      | _ => none)
  else
    let i := index - 0x9700
    ((kGet c.can (i / 64 + 1)).bind (fun p => kGet p.bufs (i % 64))).bind (fun b =>
      match sub with
      | 1 => some b.cfg.owner
      | 2 => some (b01 b.cfg.tx)
      | 4 => some (if b.cfg.tx then ((nth b.words 1 0).toNat / 256) % 256 else 0)
      | 5 => some (if b.cfg.tx then (nth b.words 1 0).toNat / 65536 else 0)
      | _ => none)

/-- Blocks 2D00 and 9800 (18 R560, R561). -/
def storeBytes (c : Channel) : Nat :=
  sumOf (fun (s : Segment) => s.header.length + sumOf (fun r => 8 * r.length) s.rows) c.pleat.store

def num2D00 (c : Channel) (sub : Nat) : Option Nat :=
  let ds := c.pleat.defs
  match sub with
  | 0x01 => some ds.length
  | 0x02 => some (sumOf (fun d => d.2.cfg.rate * d.2.cfg.sigs.length * 8) ds)
  | 0x04 => some (sumOf (fun d => d.2.cfg.ringMiB) ds)
  | 0x09 => some (storeBytes c / 1048576)
  | 0x0A => some c.pleat.store.length
  | 0x0B => some c.pleat.queue.length
  | _ => none

/-- Blocks 2E00 and 9A00 (19 R589, R590). -/
def num2E00 (c : Channel) (sub : Nat) : Option Nat :=
  match sub with
  | 0x01 => some c.keys.st
  | 0x02 => some (countOf (fun k => k.st == 1) c.keys.slots)
  | 0x03 => some (countOf (fun k => k.st == 2) c.keys.slots)
  | 0x0B => some c.keysNv.provGen.toNat
  | 0x0D => some c.keys.result
  | 0x11 => some (countOf (fun k => k.uncommitted) c.keys.slots)
  | _ => none

def numSlot (c : Channel) (n sub : Nat) : Option Nat :=
  let k := slotAt c n
  match sub with
  | 1 => some (k.st + 128 * b01 k.uncommitted)
  | 2 => some k.kind
  | 3 => some k.rights.toNat
  | 4 => some k.owner
  | 5 => some k.parent
  | 6 => some k.ident.toNat
  | 7 => some k.gen.toNat
  | _ => none

/-- Block 2F00 (20 R611, R612). -/
def num2F00 (c : Channel) (sub : Nat) : Option Nat :=
  let h := (headerInForce c.ledgerNv).getD headerBlank
  match sub with
  | 0x01 => some c.ledger.cycles
  | 0x02 => some (opSecondsNow c)
  | 0x03 => some (ledgerTime c).toNat
  | 0x04 => some h.used
  | 0x06 => some (b01 (decide (logCapacity ≤ h.used)))
  | 0x10 => some c.journal.next.toNat
  | 0x11 => some (match c.journal.recs.head? with | some r => r.seq.toNat | none => c.journal.next.toNat)
  | _ => none

/-- Blocks 3100 and 3120 (22 R641 to R650). -/
def num3100 (c : Channel) (index sub : Nat) : Option Nat :=
  let bank := match c.diag.latestBank with | some 0 => c.diag.bank0 | some _ => c.diag.bank1 | none => none
  if index = 0x3100 then
    match sub with
    | 0x03 => some (match bank with | some b => b.gen.toNat | none => 0)
    | 0x09 => some counterKeys.length
    | _ => none
  else if inRange index 0x3120 0x3140 && sub == 9 then some (injGet c (index - 0x3120)).status.toNat
  else none

/-- Block 2100 (23 R676, R677). The input power is a free value of at most 110 W: its sensor is no input of the block (23 R651; log entry 2). -/
def num2100 (c : Channel) (sub : Nat) : Option Nat :=
  let p := c.psu
  match sub with
  | 0x01 => some p.pa.toNat
  | 0x02 => some p.pb.toNat
  | 0x03 => some (vinOf p).toNat
  | 0x04 => some p.lining
  | 0x05 => some (liningCode p.linState)
  | 0x06 => some p.capUF
  | 0x07 => some (availableUJ p / 1000)
  | 0x09 => some (b01 p.pwarn)
  | 0x14 => some ((nextFree c).toNat % 1101)
  | 0x15 => some ((BitVec.ofInt 16 c.temp).toNat)
  | 0x16 => some (b01 p.degraded)
  | _ => none

/-- The value of a computed numeric entry. -/
def computedNum (br : Bridge) (c : Channel) (index sub : Nat) : Option Nat :=
  if index < 0x2000 then numIdentity c index sub
  else if index = 0x2000 then num2000 c sub
  else if index < 0x2200 then num2100 c sub
  else if index < 0x2300 then num2200 c index sub
  else if index = 0x2300 then num2300 c sub
  else if index < 0x2500 then num2400 c sub
  else if index < 0x2600 then num2500 c index sub
  else if index < 0x2700 then num2600 c index sub
  else if index < 0x2800 then num2700 c index sub
  else if index < 0x2900 then num2800 c index sub
  else if index < 0x2A00 then num2900 c index sub
  else if index = 0x2A00 then num2A00 br c sub
  else if index < 0x2B00 then none
  else if index = 0x2B00 then num2B00 c sub
  else if index < 0x2D00 then num2C00 c index sub
  else if index = 0x2D00 then num2D00 c sub
  else if index < 0x2F00 then num2E00 c sub
  else if index = 0x2F00 then num2F00 c sub
  else if index < 0x3100 then num2500 c index sub
  else if index < 0x4000 then num3100 c index sub
  else if index < 0x8000 then (if index % 256 = 0 then numSleeve c ((index - 0x4000) / 256) sub else none)
  else if index < 0x8200 then numStream c false (index - 0x8000) sub
  else if index < 0x8400 then numStream c true (index - 0x8200) sub
  else if index < 0x8C00 then numPath c (index - 0x8400) sub
  else if index < 0x9200 then num2600 c index sub
  else if index < 0x9700 then num2900 c index sub
  else if index < 0x9800 then num2C00 c index sub
  else if index < 0x9900 then
    (if sub = 1 then (kGet c.pleat.defs (index - 0x9800)).map (fun d => defCode d.st) else none)
  else numSlot c (index - 0x9A00) sub

/-- Entries that read 0xFF while no last value is held, kept one higher (`setRoFF`). -/
def roFF (index sub : Nat) : Bool :=
  [(0x2500, 0x07), (0x2500, 0x0C), (0x2500, 0x28), (0x2500, 0x2A), (0x2700, 0x04), (0x2800, 0x0F), (0x2800, 0x10), (0x2B00, 0x09)].contains (index, sub)

/-! ### DOMAIN and STR entries -/

/-- A CRC-32 at the end of a record; one that does not match where the read fails (01 R41). -/
def sealed32 (l : List Byte) : List Byte := l ++ leBytes 4 (crc32 l).toNat
def sealedIf (ok : Bool) (l : List Byte) : List Byte := l ++ leBytes 4 (if ok then crc32 l else ~~~(crc32 l)).toNat
def zeroBytes (n : Nat) : List Byte := List.replicate n 0

/-- A capture record (14 R442). The ingress timestamp is a TIME64, then a fraction in 2⁻¹⁶ ns (13 R396). -/
def capBytes (r : CapRec) : List Byte :=
  leBytes 8 (r.ts / 65536) ++ leBytes 2 (r.ts % 65536) ++
    [BitVec.ofNat 8 r.inPort, BitVec.ofNat 8 r.outPort, BitVec.ofNat 8 r.queue, BitVec.ofNat 8 r.colour, BitVec.ofNat 8 r.disp, 0] ++
    leBytes 2 r.len ++ zeroBytes 6 ++ leBytes 8 r.seq.toNat ++ (r.head ++ zeroBytes 128).take 128

/-- An episode record (20 R599). -/
def episodeBytes (e : Episode) : List Byte :=
  sealedIf e.crcOk (leBytes 2 0x2F02 ++ [BitVec.ofNat 8 e.src, BitVec.ofNat 8 (b01 e.priv + 2 * b01 e.saturated)] ++ leBytes 4 e.writes.toNat ++
    leBytes 8 e.first.toNat ++ leBytes 8 e.latest.toNat ++ leBytes 4 e.repeats.toNat ++ leBytes 4 e.number ++ leBytes 8 e.jseq.toNat ++
    (e.detail ++ zeroBytes 20).take 20)

/-- A Journal record (20 R608). -/
def journalBytes (r : JRec) : List Byte :=
  leBytes 8 r.seq.toNat ++ leBytes 2 r.code.toNat ++ [r.sleeve, BitVec.ofNat 8 r.body.length] ++ (r.body ++ zeroBytes 116).take 116

/-- A header copy (20 R595). -/
def headerBytes (h : LedgerHeader) : List Byte :=
  if h == headerBlank then zeroBytes 64
  else sealedIf h.valid (asciiBytes "NRLG" ++ leBytes 2 1 ++ zeroBytes 2 ++ leBytes 4 h.writes.toNat ++ leBytes 4 h.used ++ leBytes 8 h.time.toNat ++
    leBytes 8 h.ceiling.toNat ++ leBytes 4 h.resv.toNat ++ leBytes 4 serialNumber.toNat ++ zeroBytes 20)

/-- A histogram record (20 R597). -/
def histBytes (q : Nat) (h : HistRec) : List Byte :=
  sealedIf h.crcOk (leBytes 2 0x2F03 ++ [BitVec.ofNat 8 q, 0] ++ leBytes 4 h.writes.toNat ++ leBytes 8 h.samples.toNat ++
    (List.range 64).flatMap (fun i => leBytes 8 (zGet h.bins i).toNat) ++ leBytes 8 h.time.toNat ++ zeroBytes 4)

/-- An extremes record (20 R598). -/
def extBytes (q : Nat) (e : ExtRec) : List Byte :=
  sealedIf e.crcOk (leBytes 2 0x2F04 ++ [BitVec.ofNat 8 q, 0] ++ leBytes 4 e.writes.toNat ++ leBytes 4 e.lo.toNat ++ leBytes 4 e.hi.toNat ++
    leBytes 8 e.loTime.toNat ++ leBytes 8 e.hiTime.toNat ++ zeroBytes 12)

/-- A snapshot bank (22 R645). -/
def bankBytes (b : SnapBank) : List Byte :=
  sealed32 (leBytes 8 b.gen.toNat ++ leBytes 8 b.t.toNat ++ leBytes 8 b.latch.toNat ++
    [b.servo, BitVec.ofNat 8 (b01 b.stepped + 2 * b01 b.unlocked), 0, 0] ++ leBytes 4 counterKeys.length ++ zeroBytes 28) ++
    counterKeys.flatMap (fun k => leBytes 8 (zGet b.vals k).toNat)

/-- Records of a window: 64 from a start on (20 R611; 14 R442). -/
def window {α : Type} (from_ : Nat) (numOf : α → Nat) (l : List α) : List α := (l.filter (fun r => decide (from_ ≤ numOf r))).take 64

/-- The coefficient banks of OD 2410 by subindex: preset, input rate, stage (04 R142). -/
def coefPlans : List (Nat × Nat × Nat) :=
  [(1, 96000, 0), (2, 96000, 0), (2, 96000, 1), (2, 14400, 0), (2, 4800, 0), (3, 96000, 0), (3, 96000, 1), (3, 96000, 2), (3, 14400, 0),
   (3, 14400, 1), (3, 4800, 0)]

def coefBank (sub : Nat) : List Byte :=
  let p := nth coefPlans (sub - 1) (1, 96000, 0)
  let s := nth (stagePlan p.1 p.2.1) p.2.2 ⟨0, 1, 1⟩
  let sets := if p.2.2 = 0 then 256 else 1
  leBytes 2 (taps s 0).length ++ leBytes 2 sets ++ leBytes 2 s.f ++ zeroBytes 2 ++
    (List.range sets).flatMap (fun i => (taps s i).flatMap (fun x => leBytes 2 (BitVec.ofInt 16 x).toNat))

/-- A hardware issue and edition as text. -/
def editionText (c : Channel) : List Byte :=
  let digits (n : Nat) : List Byte := asciiBytes (toString n)
  digits (edition c).1 ++ asciiBytes "." ++ digits (edition c).2

/-- The value of a DOMAIN or STR entry; none where there is nothing to read. -/
def domainOf (c : Channel) (index sub : Nat) : Option (List Byte) :=
  let put (k : Nat) : List Byte := (kGet c.dict.domains k).getD []
  if index = 0x1008 then some (asciiBytes (if Config.wideRange then "MCM-2410-X" else "MCM-2410-S"))
  else if index = 0x1009 then some [issueLetter]
  else if index = 0x100A ∨ index = 0x2509 then some (editionText c)
  else if index = 0x2000 then
    (if sub = 0x11 then some (stagingSlot c).bytes
     else if sub = 0x12 then some (committedSlot c).bytes
     else if sub = 0x13 then (if !manifestReadable (committedSlot c).bytes then none else some <| beBytes 48 (Config.sha384 (signedBytes (committedSlot c).bytes)).toNat)
     else some [])
  else if index = 0x2410 then some (coefBank sub)
  else if index = 0x2709 then
    some (match kGet c.lse (sub - 1) with
      | some L => L.forces.flatMap (fun f => leBytes 4 f.ident.toNat ++ leBytes 4 f.v0.toNat ++ leBytes 4 f.v1.toNat ++ leBytes 4 f.v2.toNat)
      | none => [])
  else if index = 0x2710 then some (match kGet c.lse (sub - 1) with | some L => L.staged | none => [])
  else if index = 0x2900 then
    some ((window (entryNat c 0x2900 0x0F 0) (fun (r : CapRec) => r.seq.toNat) c.sw.capture).flatMap capBytes)
  else if index = 0x2D00 then
    (if sub = 0x18 then some (c.pleat.store.flatMap (fun s => leBytes 8 s.num.toNat ++ [BitVec.ofNat 8 s.dfn] ++ zeroBytes 7))
     else (selected c).map (fun s =>
       if sub = 0x11 then s.header else ((s.rows.drop (entryNat c 0x2D00 0x12 0)).take 4096).flatMap rowBytes))
  else if index = 0x2E00 then (if sub = 0x0E then some c.keys.statement else some c.keysNv.cert)
  else if index = 0x2E01 then some (nth c.keys.bm (sub - 1) [])
  else if index = 0x2F00 then
    (if sub = 0x0D then some ((window (entryNat c 0x2F00 0x0C 0) (fun (p : Nat × Episode) => p.1) c.ledgerNv.log).flatMap (fun p => episodeBytes p.2))
     else if sub = 0x0E then some (headerBytes c.ledgerNv.hdrA ++ headerBytes c.ledgerNv.hdrB)
     else some ((window (entryNat c 0x2F00 0x12 0) (fun (r : JRec) => r.seq.toNat) c.journal.recs).flatMap journalBytes))
  else if index = 0x2F01 then some (match kGet c.ledgerNv.hists sub with | some h => histBytes sub h | none => zeroBytes 544)
  else if index = 0x2F02 then some (match kGet c.ledgerNv.exts sub with | some e => extBytes sub e | none => zeroBytes 48)
  else if index = 0x3103 then
    (match c.diag.latestBank with | some 0 => c.diag.bank0 | some _ => c.diag.bank1 | none => none).map bankBytes
  else if index = 0x3104 then some (counterKeys.flatMap (leBytes 4))
  else if inRange index 0x9700 0x97FF then
    let i := index - 0x9700
    ((kGet c.can (i / 64 + 1)).bind (fun p => kGet p.bufs (i % 64))).map (fun b => b.words.flatMap (fun w => leBytes 4 w.toNat))
  else some (put (od index sub))

/-! ### Any entry -/

/-- Is the entry writable, so that its value in effect follows R619? A mode request and other commands are WO. -/
def overlaid (r : OdRow) : Bool := r.access == 2 || r.access == 6

/-- The Default column of an entry. -/
def dfltOf (r : OdRow) (index sub : Nat) : Nat :=
  if index = 0x2501 then nth [512, 512, 512, 256, 256, 512, 256, 128] (sub - 1) 0
  else if index = 0x2A20 then b01 (decide (9 ≤ sub)) else r.dflt

/-- The value an entry reads (21 R619); none where no data is available. -/
def valueOf (br : Bridge) (c : Channel) (r : OdRow) (index sub : Nat) : Option (List Byte) :=
  if r.ty = 0x0F ∨ r.ty = 0x09 then
    (if overlaid r && !([0x2000, 0x2710, 0x2E00].contains index) then
       some (entryBytes c index sub ((domainOf c index sub).getD []))
     else domainOf c index sub)
  else
    match computedNum br c index sub with
    | some v => some (leBytes r.maxLen v)
    | none =>
      if overlaid r then some ((entryBytes c index sub (leBytes r.maxLen (dfltOf r index sub)) ++ zeroBytes 8).take r.maxLen)
      else if r.counter then some (leBytes 8 (zGet c.ctr (od index sub)).toNat)
      else if roFF index sub then some (leBytes r.maxLen ((zGet c.dict.ro (od index sub)).toNat + 255))
      else if kHas c.dict.ro (od index sub) then some (leBytes r.maxLen (zGet c.dict.ro (od index sub)).toNat)
      else if kHas c.ctr (od index sub) then some (leBytes r.maxLen (zGet c.ctr (od index sub)).toNat)
      else some (leBytes r.maxLen r.dflt)

/-- A declared application entry as a row (21 R633); an RWC one is writable only in HOLD and COMMISSION (00 R12). -/
def declRow (key : Nat) (d : Decl) : OdRow :=
  ⟨key / 256, 1, 1, key % 256, key % 256, d.ty, d.access, if d.access = 6 then d.mask &&& 6 else d.mask, 0, 0, 256 ^ typeSize d.ty - 1, d.maxLen, false⟩

/-- The row of an entry, declared ones among them; subindex 0 of an array is its highest subindex (21 R613). -/
def rowOf (c : Channel) (index sub : Nat) : Option OdRow :=
  match odFind index sub with
  | some r => some r
  | none =>
    match kGet c.dict.decls (od index sub) with
    | some d => some (declRow (od index sub) d)
    | none =>
      if sub = 0 && (odHas index || c.dict.decls.any (fun x => x.1 / 256 == index)) then
        some (odRo index 1 1 0 0 0x05 (c.dict.decls.foldl (fun n x => if x.1 / 256 = index then max n (x.1 % 256) else n) (odHighest index)) 1 false)
      else none

/-- Does an index exist (21 R629 NO_OBJECT)? -/
def indexExists (c : Channel) (index : Nat) : Bool := odHas index || c.dict.decls.any (fun x => x.1 / 256 == index)

end Sys2Proof.Machine
end

