-- ==== Sys2Proof/Machine/Entries.lean ====
section
/-! DEFINITION. What may be written to an entry (21 R614 to R616, R623), the dictionary section's records over the
records of the other sections (R619), and the section's own check (R634). -/
namespace Sys2Proof.Machine

/-! ### Values -/

/-- Ranges that are not one interval, entry by entry; `w` is the whole word. -/
def rangeOther (index sub v : Nat) : Bool :=
  if index = 0x2000 ∧ sub = 3 then [1, 2, 3, 4, 0x84].contains v
  else if index = 0x1017 then orCode v 0 100 60000
  else if index = 0x1011 then v == 0x64616F6C
  else if index = 0x2200 ∧ sub = 0x25 then v == 0 || inRange v 0xFFFFFFFC 0xFFFFFFFF
  else if index = 0x2200 ∧ sub = 0x2E then vlanFieldOk v
  else if inRange index 0x2220 0x2223 && sub == 3 then orCode v 0xFFFF 0 255
  else if inRange index 0x2220 0x2223 && sub == 5 then orCode v 0 1000 1000000000000
  else if inRange index 0x2220 0x2223 && sub == 6 then decide (100 ≤ v)
  else if inRange index 0x2C11 0x2C14 && sub == 6 then orCode v 0 0x11 0x15
  else if inRange index 0x8C00 0x8CFF && sub == 6 then orCode v 0 500 100000
  else if inRange index 0x8C00 0x8CFF && sub == 7 then orCode v 0 100000 60000000
  else if inRange index 0x8200 0x83FF && sub == 5 then orCode v 0 2 10000
  else if inRange index 0x312C 0x3130 && sub == 2 then v != 2
  else if index = 0x3100 ∧ sub = 2 then orCode v 0 1000000 3600000000000
  else true

/-- Lengths of a DOMAIN that its chapter fixes: SIZE otherwise. A force command of a one-word variable may end with that word
(11 R366; log entry 24). -/
def lengthOther (index sub n : Nat) : Bool :=
  if inRange index 0x9800 0x987F && sub == 0x0A then n == 32
  else if index = 0x2700 ∧ sub = 0x12 then n == 16 || n == 20
  else if index = 0x2B00 ∧ sub = 4 then n == 4
  else if index = 0x2E00 ∧ sub = 0x0E then n == 36
  else if index = 0x2E00 ∧ sub = 0x10 then n == 108
  else true

/-- The abort of a value that an entry cannot take: SIZE or VALUE_RANGE (21 R614, R629); none where it can. -/
def valueAbort (r : OdRow) (index sub : Nat) (v : List Byte) : Option Nat :=
  if r.ty = 0x0F then (if r.maxLen < v.length || !lengthOther index sub v.length then some 0x0106 else none)
  else if r.ty = 0x09 then (if r.maxLen < v.length then some 0x0106 else if typeValueOk 9 v then none else some 0x0105)
  else if v.length ≠ typeSize r.ty then some 0x0106
  else if typeValueOk r.ty v && (r.ty == 8 || inRange (leNat v) r.least r.most) && rangeOther index sub (leNat v) then none
  else some 0x0105

def valueOk (r : OdRow) (index sub : Nat) (v : List Byte) : Bool := (valueAbort r index sub v).isNone

/-- Is an entry's number one that the configuration uses (21 R623)? -/
def configured (c : Channel) (index sub : Nat) : Bool :=
  if inRange index 0x8200 0x83FF then kHas c.ingest.streams (index - 0x8200)
  else if inRange index 0x8400 0x8BFF then kHas c.paths (index - 0x8400)
  else if inRange index 0x8C00 0x8CFF then kHas c.pub.gpubs (index - 0x8C00)
  else if inRange index 0x9800 0x987F then kHas c.pleat.defs (index - 0x9800)
  else if [0x2706, 0x2707, 0x2708, 0x2710].contains index then kHas c.lse (sub - 1)
  else true

/-! ### An image with its dictionary section's values (21 R619) -/

/-- The dictionary section's value for an entry, else the record's. -/
def overNat (m : Image) (index sub d : Nat) : Nat :=
  match m.dict.find? (fun r => r.key == od index sub) with | some r => leNat r.value | none => d

def overStream (m : Image) (r : StreamRec) : StreamRec :=
  let i := 0x8200 + r.num
  { r with allowUs := overNat m i 5 r.allowUs, loss := overNat m i 6 r.loss, ret := overNat m i 7 r.ret }

def overPath (m : Image) (r : PathRec) : PathRec :=
  let i := 0x8400 + r.num
  { r with preset := overNat m i 3 r.preset, phase := overNat m i 4 r.phase,
           shifts := [overNat m i 5 (nth r.shifts 0 15), overNat m i 6 (nth r.shifts 1 15), overNat m i 7 (nth r.shifts 2 15), overNat m i 8 (nth r.shifts 3 15)],
           satEvent := overNat m i 0x18 (b01 r.satEvent) != 0 }

def overGPub (m : Image) (r : GPubRec) : GPubRec :=
  { r with t1 := overNat m (0x8C00 + r.num) 6 r.t1, t0 := overNat m (0x8C00 + r.num) 7 r.t0 }

def overCanPort (m : Image) (n : Nat) (r : CanPortRec) : CanPortRec :=
  let i := 0x2C10 + n
  { r with nominal := overNat m i 5 r.nominal, data := overNat m i 6 r.data, term := overNat m i 7 (b01 r.term) != 0,
           service := overNat m i 8 (b01 r.service) != 0, node := overNat m i 9 r.node, hostRec := overNat m i 0x0A (b01 r.hostRec) != 0 }

def overDef (m : Image) (r : DefRec) : DefRec :=
  let i := 0x9800 + r.num
  { r with armStart := overNat m i 7 (b01 r.armStart) != 0, n := overNat m i 8 r.n, p := overNat m i 9 r.p,
           mask := match m.dict.find? (fun x => x.key == od i 0x0A) with | some x => x.value | none => r.mask }

def overLse (m : Image) (s : Nat) (p : LseProg) : LseProg :=
  { p with allow := overNat m 0x2706 (s + 1) p.allow, ceiling := overNat m 0x2707 (s + 1) p.ceiling,
           retainMs := overNat m 0x2708 (s + 1) p.retainMs }

/-- The image as its dictionary section leaves its records. -/
def effImage (m : Image) : Image :=
  { m with
    streams := m.streams.map (overStream m), paths := m.paths.map (overPath m), gpubs := m.gpubs.map (overGPub m),
    lse := m.lse.map (fun x => (x.1, overLse m x.1 x.2)), pleat := m.pleat.map (overDef m)
    can := { m.can with ports := [1, 2, 3, 4].map (fun n => (n, overCanPort m n (canPortCfg m n))) } }

/-! ### The dictionary section (21 R634) -/

/-- Is a declared entry one of a defined sleeve's range? -/
def declRangeOk (m : Image) (key : Nat) : Bool :=
  m.sleeves.any (fun s => inRange (key / 256) (0x4010 + s.num * 256) (0x40FF + s.num * 256))

def dictRecOk (m : Image) (r : DictRec) : Bool :=
  match r.decl with
  | some _ => declRangeOk m r.key
  | none =>
    match odFind (r.key / 256) (r.key % 256) with
    | some row => overlaid row && row.ty == r.ty && valueOk row (r.key / 256) (r.key % 256) r.value
    | none =>
      match (m.dict.find? (fun d => d.key == r.key && d.decl.isSome)).bind (fun d => d.decl) with
      | some d => d.ty == r.ty && valueOk (declRow r.key d) (r.key / 256) (r.key % 256) r.value
      | none => false

def dictOk (m : Image) : Bool := m.dict.all (dictRecOk m)

/-- The time record's words, in the ranges of OD 2200:20 to 2200:2E (13 R415; 05 R180). -/
def timeOk (m : Image) : Bool :=
  match m.time with
  | none => true
  | some t => ((List.range 15).zip t.vals).all (fun x =>
      match odFind 0x2200 (0x20 + x.1) with
      | some r => valueOk r 0x2200 (0x20 + x.1) (leBytes (typeSize r.ty) x.2.toNat) && decide (x.2.toNat < 256 ^ typeSize r.ty)
      | none => false)

end Sys2Proof.Machine
end

