-- ==== Sys2Proof/Machine/Placer.lean ====
section
/-! DEFINITION. The Placer (08 R241 to R262). Times are in units of 1/90 ns, in which every token interval, every charge
and the bank cycle are whole numbers; utilisation is Σ C · rate, of which 9·10¹⁰ is a whole tile. -/
namespace Sys2Proof.Machine

/-- Division, rounded up. -/
def cdiv (a b : Nat) : Nat := (a + b - 1) / b
def ofUs (n : Nat) : Nat := n * 90000
/-- A time as reported, in ns, rounded up (log entry 23). -/
def toNs (n : Nat) : Nat := cdiv n 90
def perUnit : Nat := 90000000000
def maxOf {α : Type} (f : α → Nat) (l : List α) : Nat := l.foldl (fun n x => max n (f x)) 0
def minOf {α : Type} (f : α → Nat) (l : List α) : Nat := l.foldl (fun n x => min n (f x)) (maxOf f l)

/-- Sorts by a strict order, equals in place. -/
def insertBy {α : Type} (lt : α → α → Bool) (x : α) : List α → List α
  | [] => [x]
  | y :: r => if lt x y then x :: y :: r else y :: insertBy lt x r
def sortBy {α : Type} (lt : α → α → Bool) (l : List α) : List α := l.foldl (fun r x => insertBy lt x r) []

/-- An instance as the Placer sees it: its rate per second (R245), deadline, jitter, tile and access charge. -/
structure PlInst where
  s : Nat
  i : Nat
  r : InstRec
  rate : Nat
  d : Nat
  j : Nat
  tile : Nat
  a : Nat
  deriving DecidableEq, Repr

/-- A refusal: code of R253, sleeve, identity, tile, value, limit. -/
structure PlRef where
  code : Nat
  sleeve : Nat
  ident : Nat
  tile : Nat
  value : Nat
  limit : Nat
  deriving DecidableEq, Repr

/-- A sample edge of the report (R262). -/
structure PlEdge where
  num : Nat
  sleeve : Nat
  lagUs : Nat
  minUs : Nat
  deriving DecidableEq, Repr

/-- A placement. -/
structure Placement where
  insts : List PlInst
  items : List PlItem
  edges : List PlEdge
  deriving DecidableEq, Repr

def noTile : Nat := 255
def PlInst.t (x : PlInst) : Nat := perUnit / max x.rate 1
def PlInst.e (x : PlInst) : Nat := opTime x.r * 9 / 100
def samePl (x y : PlInst) : Bool := x.s == y.s && x.i == y.i

/-! ### Charges, utilisation, response bounds (R244 to R248) -/

/-- The class deadline (05 R167). -/
def deadlineU (cls : Nat) : Nat := perUnit / nth [96000, 14400, 4800, 2400, 1000, 1000] cls 1000

/-- The largest arrival allowance, µs, of the streams from which a producer's tokens descend (R245). -/
def descAllow (m : Image) (g : Graph) : Nat → Bool → Nat → Nat
  | 0, _, _ => 0
  | n + 1, src, i =>
    let ofStream (k : Nat) : Nat := match m.streams.find? (fun x => x.num == k) with | some x => allowOf x | none => 0
    if src then (match g.sources[i]? with
      | some x => if x.kind = 1 then ofStream x.a
        else if x.kind = 2 then (match m.paths.find? (fun p => p.num == x.a) with | some p => ofStream p.stream | none => 0) else 0
      | none => 0)
    else match g.insts[i]? with
      | some r => maxOf (fun (e : EdgeRec) => descAllow m g n e.src e.prod) (g.edges.filter (fun e => e.cons == i && edgeTrigger r e))
      | none => 0

/-- An instance of an image, not yet bound, every bank at its largest wait bound. -/
def plInst (m : Image) (g : Graph) (s i : Nat) (r : InstRec) : PlInst :=
  let rate := if r.cls = 4 then 1000 else if r.cls = 5 then 2000 else prodRate m g (g.insts.length + 1) false i
  { s := s, i := i, r := r, rate := rate, d := deadlineU r.cls,
    j := if r.cls ≤ 3 then ofUs (descAllow m g (g.insts.length + 1) false i) + deadlineU r.cls else 0, tile := noTile,
    a := opAccesses r * 40 * 144 }

def allPlInsts (m : Image) : List PlInst :=
  m.graphs.flatMap (fun g => ((List.range g.2.insts.length).zip g.2.insts).map (fun x => plInst m g.2 g.1 x.1 x.2))

/-- P of an instance among those of its tile. -/
def chargeP (l : List PlInst) (x : PlInst) : Nat :=
  sumOf (fun v =>
    let h := l.filter (fun y => y.r.cls == v)
    if h.isEmpty then 0 else 10800 * cdiv (x.d + maxOf (fun y => y.j) h) (minOf PlInst.t h)) (List.range x.r.cls)

def chargeC (l : List PlInst) (x : PlInst) : Nat := x.e + x.a + chargeP l x

/-- Utilisation of a tile, of 9·10¹⁰. -/
def tileU (l : List PlInst) : Nat := sumOf (fun x => chargeC l x * x.rate) l

/-- The fixed point of R248 from below; it ends where the bound passes the deadline. -/
def boundFix (base d : Nat) (hi : List (Nat × Nat × Nat)) : Nat → Nat → Nat
  | 0, w => w
  | n + 1, w =>
    let w' := base + sumOf (fun (h : Nat × Nat × Nat) => cdiv (w + h.1) h.2.1 * h.2.2) hi
    if w' = w ∨ d < w' then w' else boundFix base d hi n w'

/-- W of an instance among those of its tile. -/
def boundW (l : List PlInst) (x : PlInst) : Nat :=
  let base := 49500 + chargeC l x + sumOf (chargeC l) (l.filter (fun y => y.r.cls == x.r.cls && !samePl x y))
  boundFix base x.d ((l.filter (fun y => y.r.cls < x.r.cls)).map (fun y => (y.j, y.t, chargeC l y))) 20000 base

/-- Scratchpad bytes used on a tile (R242). -/
def scratchOf (l : List PlInst) : Nat :=
  sumOf (fun (x : PlInst) => 4 * opStateWords x.r) l + sumOf (fun op => opCode op * 1024) (l.map (fun x => x.r.op)).eraseDups

/-- An amount of utilisation in 0.01 %, to nearest (log entry 23). -/
def pct (u : Nat) : Nat := (u * 10000 + perUnit / 2) / perUnit

/-- The first check of R242, R246 and R248 that a tile's instances break: code, value, limit. -/
def tileBreaks (l : List PlInst) : Option (Nat × Nat × Nat) :=
  if 245760 < scratchOf l then some (2, scratchOf l, 245760)
  else if 9 * perUnit < 10 * tileU l then some (3, cdiv (tileU l * 10000) perUnit, 9000)
  else (l.find? (fun x => x.d < boundW l x)).map (fun x => (4, toNs (boundW l x), toNs x.d))

def onTile (l : List PlInst) (k : Nat) : List PlInst := l.filter (fun x => x.tile == k)

/-- W of an instance where it is bound. -/
def wOf (l : List PlInst) (x : PlInst) : Nat := boundW (onTile l x.tile) x

/-! ### Binding instances to tiles (R256) -/

/-- Ascending level, descending C/T, sleeve, identity. C is E + A here: P depends on the tile (log entry 23). -/
def placeFirst (x y : PlInst) : Bool :=
  let c (z : PlInst) : Nat := (z.e + z.a) * z.rate
  if x.r.cls ≠ y.r.cls then decide (x.r.cls < y.r.cls)
  else if c x ≠ c y then decide (c y < c x)
  else if x.s ≠ y.s then decide (x.s < y.s)
  else decide (x.r.ident.toNat < y.r.ident.toNat)

/-- The least by a measure, ties to the first. -/
def leastBy {α : Type} (f : α → Nat) : List α → Option α
  | [] => none
  | x :: r => match leastBy f r with
    | none => some x
    | some y => if f y < f x then some y else some x

/-- Binds one instance. A refusal names SCRATCHPAD where no tile fits, UTILISATION where none that fits passes R246, else
DEADLINE, and the tile with the least value found (R253; log entry 23). -/
def bindOne (tiles : List Nat) (placed : List PlInst) (x : PlInst) : Except PlRef (List PlInst) :=
  let tried := tiles.map (fun k => (k, onTile placed k ++ [{ x with tile := k }]))
  match leastBy (fun (y : Nat × List PlInst) => tileU y.2) (tried.filter (fun y => (tileBreaks y.2).isNone)) with
  | some y => .ok (placed ++ [{ x with tile := y.1 }])
  | none =>
    let bad := tried.filterMap (fun y => (tileBreaks y.2).map (fun b => (y.1, b)))
    let code := if bad.all (fun b => b.2.1 == 2) then 2 else if bad.all (fun b => b.2.1 == 2 || b.2.1 == 3) then 3 else 4
    match leastBy (fun (b : Nat × Nat × Nat × Nat) => b.2.2.1) (bad.filter (fun b => b.2.1 == code)) with
    | some b => .error ⟨code, x.s, x.r.ident.toNat, b.1, b.2.2.1, b.2.2.2⟩
    | none => .error ⟨2, x.s, x.r.ident.toNat, noTile, 0, 245760⟩

def bindAll (tiles : List Nat) : List PlInst → List PlInst → Except PlRef (List PlInst)
  | [], placed => .ok placed
  | x :: r, placed => match bindOne tiles placed x with
    | .ok p => bindAll tiles r p
    | .error e => .error e

def placeableTiles (c : Channel) : List Nat := (c.disp.tiles.filter (fun t => t.2.role == .placeable)).map (fun t => t.1)

/-! ### Ready bound (R249) -/

/-- Trigger edges between instances of one level, as pairs of sleeve-and-number keys. -/
def plKey (x : PlInst) : Nat := x.s * 65536 + x.i
def levelLinks (m : Image) (l : List PlInst) : List (Nat × Nat) :=
  m.graphs.flatMap (fun g => (g.2.edges.filter (fun e => !e.src && (match g.2.insts[e.cons]? with
    | some r => edgeTrigger r e
    | none => false))).map (fun e => (g.1 * 65536 + e.prod, g.1 * 65536 + e.cons))) |>.filter
    (fun p => l.any (fun x => plKey x == p.1) && l.any (fun x => plKey x == p.2))

/-- Keys reached from some by steps of a relation. -/
def spread (next : Nat → List Nat) : Nat → List Nat → List Nat
  | 0, l => l
  | n + 1, l =>
    let k := (l ++ l.flatMap next).eraseDups
    if k.length = l.length then l else spread next n k

/-- A maximum matching by augmenting paths: answers whether `u` can be matched, the keys seen and the matching. -/
def augment (reach : Nat → List Nat) : Nat → Nat → List Nat × KMap Nat → Bool × (List Nat × KMap Nat)
  | 0, _, st => (false, st)
  | n + 1, u, st =>
    (reach u).foldl (fun acc v =>
      if acc.1 || acc.2.1.contains v then acc
      else
        let seen := v :: acc.2.1
        match kGet acc.2.2 v with
        | none => (true, (seen, kPut acc.2.2 v u))
        | some w =>
          let q := augment reach n w (seen, acc.2.2)
          if q.1 then (true, (q.2.1, kPut q.2.2 v u)) else q) (false, st)

/-- Width of a release group: its members less a maximum matching of upstream pairs. -/
def groupWidth (down : Nat → List Nat) (l : List Nat) : Nat :=
  let reach (u : Nat) : List Nat := spread down (l.length + 1) (down u)
  let r := l.foldl (fun (acc : Nat × KMap Nat) u =>
    let q := augment reach (l.length + 1) u ([], acc.2)
    if q.1 then (acc.1 + 1, q.2.2) else acc) (0, [])
  l.length - r.1

/-- The release groups of a level. -/
def releaseGroups (links : List (Nat × Nat)) : Nat → List Nat → List (List Nat)
  | 0, _ => []
  | _ + 1, [] => []
  | n + 1, x :: r =>
    let both (u : Nat) : List Nat := links.filterMap (fun p => if p.1 = u then some p.2 else if p.2 = u then some p.1 else none)
    let g := spread both ((x :: r).length + 1) [x]
    g :: releaseGroups links n (r.filter (fun y => !g.contains y))

/-- Release groups and ready bound of a level. -/
def readyBound (m : Image) (l : List PlInst) (v : Nat) : Nat × Nat :=
  let h := l.filter (fun x => x.r.cls == v)
  let links := levelLinks m h
  let down (u : Nat) : List Nat := (links.filter (fun p => p.1 == u)).map (fun p => p.2)
  let gs := releaseGroups links (h.length + 1) (h.map plKey)
  (gs.length, sumOf (fun (g : List Nat) =>
    let k := h.filter (fun x => g.contains (plKey x))
    min g.length ((1 + cdiv (maxOf (fun x => x.j) k) (max (minOf PlInst.t k) 1)) * groupWidth down g)) gs)

/-! ### Rings, depths and lags (R250, R251) -/

def tokSize (w : Nat) : Nat := if w ≤ 2 then 24 else 24 + 4 * (w - 2)
def srcWords (ty : Nat) : Nat := if ty = 9 then 18 else 2
def minDepthOf (e : EdgeRec) : Nat := if e.minDepth = 0 then 2 else e.minDepth
def plFind (l : List PlInst) (s i : Nat) : Option PlInst := l.find? (fun x => x.s == s && x.i == i)

/-- Release lag of one reader: a trigger port, or a sample port with lag L behind a producer of interval `tp`. -/
def readerLag (l : List PlInst) (g : Nat × Graph) (tp : Nat) (e : EdgeRec) : Nat :=
  match plFind l g.1 e.cons with
  | some r => if edgeTrigger r.r e then r.j + wOf l r else ofUs e.lagUs + tp + r.t + r.j + wOf l r
  | none => 0

/-- Release lag of an LSE entry that reads a graph port (11 R340). -/
def lseLag (m : Image) (s tp : Nat) (e : LseIn) : Nat :=
  match m.lse.find? (fun x => x.1 == s) with
  | some x => ofUs e.lagUs + tp + ofUs x.2.tcUs + 9 * lseR m.lse x
  | none => 0

/-- The LSE entries that read an output port. -/
def lsePortReaders (m : Image) (s : Nat) (r : InstRec) (p : Nat) : List LseIn :=
  match m.lse.find? (fun x => x.1 == s) with
  | some x => x.2.ins.filter (fun e => e.kind == 0 && e.refA == r.ident.toNat && e.refB == p)
  | none => []

/-- Depth that a release lag, the minimum depths and the producer's interval need. -/
def needDepth (tp lag low : Nat) : Nat := max low (cdiv lag (max tp 1) + 2)

def plItem (kind s key need lag size1 : Nat) : PlItem :=
  { kind := kind, sleeve := s, key := key, depth := need, need := need, lagNs := toNs lag, addr := 0, size := need * size1 }

/-- The ring of an output port. -/
def instRing (m : Image) (l : List PlInst) (g : Nat × Graph) (x : PlInst) (p : Nat) (o : PortDef) : PlItem :=
  let key := ringKey false x.i p
  let es := g.2.edges.filter (fun e => edgeKey e == key)
  let lag := max (maxOf (readerLag l g x.t) es) (maxOf (lseLag m g.1 x.t) (lsePortReaders m g.1 x.r p))
  plItem 2 g.1 key (needDepth x.t lag (max 2 (maxOf minDepthOf es))) lag (tokSize o.words)

/-- The ring of a source binding that is no stream and no path. -/
def sourceRing (m : Image) (l : List PlInst) (g : Nat × Graph) (i : Nat) (x : SourceRec) : PlItem :=
  let key := ringKey true i 0
  let es := g.2.edges.filter (fun e => edgeKey e == key)
  let low := max 2 (maxOf minDepthOf es)
  let tp := if x.kind = 5 then (match m.lse.find? (fun y => y.1 == g.1) with | some y => ofUs y.2.tcUs | none => ofUs 1000) else ofUs 1000
  let lag := maxOf (readerLag l g tp) es
  plItem 3 g.1 key (if x.kind = 3 ∨ x.kind = 4 then low else needDepth tp lag low) lag (tokSize (srcWords x.ty))

/-- The edges that read source bindings of a kind and number, with their graphs. -/
def sourceEdges (m : Image) (kind a : Nat) : List ((Nat × Graph) × EdgeRec) :=
  m.graphs.flatMap (fun g => (g.2.edges.filter (fun e => e.src && (match g.2.sources[e.prod]? with
    | some x => x.kind == kind && x.a == a
    | none => false))).map (fun e => (g, e)))

def streamRate (m : Image) (n : Nat) : Nat := match m.streams.find? (fun x => x.num == n) with | some x => x.rate | none => 4800
def pathFactor (m : Image) (p : PathRec) : Nat := presetFactor p.preset (streamRate m p.stream)

/-- A path's output edge (04 R132). -/
def pathEdge (m : Image) (l : List PlInst) (p : PathRec) : PlItem :=
  let tp := perUnit * pathFactor m p / streamRate m p.stream
  let es := sourceEdges m 2 p.num
  let lag := maxOf (fun (x : (Nat × Graph) × EdgeRec) => readerLag l x.1 tp x.2) es
  plItem 1 p.owner p.num (needDepth tp lag (max 2 (maxOf (fun x => minDepthOf x.2) es))) lag 24

/-- A stream-table entry, its required depth from every reader: edges, the consumers of its BYPASS paths, and its filtering
paths (R250; 04 R116). -/
def streamEntry (m : Image) (l : List PlInst) (x : StreamRec) : PlItem :=
  let tp := perUnit / x.rate
  let ps := m.paths.filter (fun p => p.stream == x.num)
  let es := sourceEdges m 1 x.num ++ (ps.filter (fun p => p.preset == 0)).flatMap (fun p => sourceEdges m 2 p.num)
  let lag := max (maxOf (fun (y : (Nat × Graph) × EdgeRec) => readerLag l y.1 tp y.2) es)
    (maxOf (fun (p : PathRec) => ofUs (allowOf x) + perUnit * pathFactor m p / x.rate + ofUs 1) (ps.filter (fun p => p.preset != 0)))
  { kind := 0, sleeve := 0xFF, key := x.num, depth := 2 ^ x.log2D, need := needDepth tp lag (max 2 (maxOf (fun (y : (Nat × Graph) × EdgeRec) => minDepthOf y.2) es)), lagNs := toNs lag, addr := 0,
    size := 2 ^ x.log2D * (16 + 8 * x.chans.length) }

def stateItem (x : PlInst) : PlItem :=
  { kind := 4, sleeve := x.s, key := x.i, depth := 0, need := 0, lagNs := 0, addr := 0, size := 64 }

/-- W of a stream as a producer, and of a path (R251). -/
def streamW (m : Image) (rate : Nat) : Nat := 54000 + 3600 * (m.streams.filter (fun x => decide (rate ≤ x.rate))).length
def pathW (m : Image) (p : PathRec) : Nat :=
  let rate := streamRate m p.stream
  streamW m rate + (if p.preset = 0 then 0 else
    36000 + 1350 * (m.paths.filter (fun q => q.preset != 0 && decide (rate ≤ streamRate m q.stream))).length)

/-- Minimum sample lag of an edge, µs (R251). -/
def minLagUs (m : Image) (l : List PlInst) (g : Nat × Graph) (e : EdgeRec) : Nat :=
  let st (n : Nat) : Option StreamRec := m.streams.find? (fun x => x.num == n)
  if e.src then (match g.2.sources[e.prod]? with
    | none => 0
    | some x =>
      if x.kind = 1 then (match st x.a with
        | some y => cdiv (perUnit + y.rate * (ofUs (allowOf y) + streamW m y.rate)) (y.rate * 90000)
        | none => 0)
      else if x.kind = 2 then (match m.paths.find? (fun p => p.num == x.a) with
        | some p => (match st p.stream with
          | some y =>
            let out := y.rate / pathFactor m p
            cdiv (perUnit + out * (ofUs (allowOf y) + pathW m p)) (max out 1 * 90000)
          | none => 0)
        | none => 0)
      else if x.kind = 5 then (match m.lse.find? (fun y => y.1 == g.1) with | some y => 2 * y.2.tcUs | none => 0)
      else if x.kind = 6 then 1000 else 3)
  else match plFind l g.1 e.prod with
    | some p => cdiv (p.t + p.j + wOf l p) 90000
    | none => 0

/-- Every sample edge, the LSE entries that read a graph port among them (R262; 11 R340). -/
def plEdges (m : Image) (l : List PlInst) : List PlEdge :=
  m.graphs.flatMap (fun g =>
    ((List.range g.2.edges.length).zip g.2.edges).filterMap (fun x =>
      match g.2.insts[x.2.cons]? with
      | some r => if edgeTrigger r x.2 then none else some ⟨x.1, g.1, x.2.lagUs, minLagUs m l g x.2⟩
      | none => none) ++
    (match m.lse.find? (fun y => y.1 == g.1) with
      | some y => ((List.range y.2.ins.length).zip y.2.ins).filterMap (fun x =>
          if x.2.kind = 0 then
            (match l.find? (fun p => p.s == g.1 && p.r.ident.toNat == x.2.refA) with
              | some p => some ⟨0x80000000 + x.1, g.1, x.2.lagUs, cdiv (p.t + p.j + wOf l p) 90000⟩
              | none => none)
          else none)
      | none => []))

/-! ### Banks (R257) -/

def align8 (n : Nat) : Nat := cdiv n 8 * 8

/-- The lowest free place of a size in a bank. -/
def gapIn (items : List PlItem) (b size : Nat) : Option Nat :=
  let h := items.filter (fun y => bankOf y.addr == b)
  let ok (a : Nat) : Bool := decide (a + size ≤ (b + 1) * 524288) && h.all (fun y => decide (a + size ≤ y.addr ∨ y.addr + y.size ≤ a))
  leastBy (fun a => a) ((b * 524288 :: h.map (fun y => align8 (y.addr + y.size))).filter ok)

def firstGap (items : List PlItem) (size : Nat) : List Nat → Option Nat
  | [] => none
  | b :: r => match gapIn items b size with | some a => some a | none => firstGap items size r

/-- Places one item: a ring of level 0 takes a bank with a stream-table entry only when no other has room. -/
def allocOne (items : List PlItem) (level0 : Bool) (x : PlItem) : Option (List PlItem) :=
  let banks := List.range 64
  let hot (b : Nat) : Bool := items.any (fun y => y.kind == 0 && bankOf y.addr == b)
  let order := if level0 then banks.filter (fun b => !hot b) ++ banks.filter hot else banks
  (firstGap items x.size order).map (fun a => items ++ [{ x with addr := a }])

def allocAll : List (Bool × PlItem) → List PlItem → Except PlRef (List PlItem)
  | [], l => .ok l
  | x :: r, l => match allocOne l x.1 x.2 with
    | some l' => allocAll r l'
    | none => .error ⟨6, x.2.sleeve, 0, noTile, x.2.size, 524288⟩

/-- Level of a ring's producer. -/
def itemLevel (l : List PlInst) (x : PlItem) : Nat :=
  if x.kind = 1 then 0 else if x.kind = 2 then (match plFind l x.sleeve (x.key / 8) with | some p => p.r.cls | none => 5) else 5

/-- What the image needs of the commons, in the order of R257. -/
def commonsList (m : Image) (l : List PlInst) : List (Bool × PlItem) :=
  let streams := sortBy (fun (x y : StreamRec) => decide (y.rate < x.rate) || (x.rate == y.rate && decide (x.num < y.num))) m.streams
  let rings := m.paths.map (pathEdge m l) ++
    m.graphs.flatMap (fun g =>
      (l.filter (fun x => x.s == g.1)).flatMap (fun x => ((List.range x.r.outs.length).zip x.r.outs).map (fun o => instRing m l g x o.1 o.2)) ++
      (((List.range g.2.sources.length).zip g.2.sources).filter (fun x => decide (3 ≤ x.2.kind))).map (fun x => sourceRing m l g x.1 x.2))
  let before (x y : PlItem) : Bool :=
    decide (itemLevel l x < itemLevel l y) || (itemLevel l x == itemLevel l y && decide (y.size < x.size))
  streams.map (fun x => (false, streamEntry m l x)) ++ (sortBy before rings).map (fun x => (itemLevel l x == 0, x)) ++
    (sortBy (fun x y => decide (plKey x < plKey y)) l).map (fun x => (false, stateItem x))

/-! ### Access charges on the banks in use (R244; 09 R277) -/

/-- The bank an input edge reads. -/
def edgeBank (m : Image) (items : List PlItem) (g : Nat × Graph) (e : EdgeRec) : Nat :=
  let bank (x : Option PlItem) : Nat := match x with | some y => bankOf y.addr | none => 0
  if !e.src then bank (itemAt items 2 g.1 (edgeKey e))
  else match g.2.sources[e.prod]? with
    | none => 0
    | some x =>
      if x.kind = 1 then bank (itemAt items 0 0 x.a)
      else if x.kind = 2 then (match m.paths.find? (fun p => p.num == x.a) with
        | some p => if p.preset = 0 then bank (itemAt items 0 0 p.stream) else bank (itemAt items 1 0 p.num)
        | none => 0)
      else bank (itemAt items 3 g.1 (edgeKey e))

/-- The banks a firing accesses, with how often. -/
def accessesOf (m : Image) (items : List PlItem) (x : PlInst) : List (Nat × Nat) :=
  match m.graphs.find? (fun g => g.1 == x.s) with
  | none => []
  | some g =>
    let ins := (g.2.edges.filter (fun e => e.cons == x.i)).map (fun e => (edgeBank m items g e, if edgeTrigger x.r e then 2 else 3))
    let outs := (List.range x.r.outs.length).map (fun p => (match itemAt items 2 x.s (ringKey false x.i p) with
      | some y => bankOf y.addr
      | none => 0, 4))
    let st := match itemAt items 4 x.s x.i with | some y => bankOf y.addr | none => 0
    ins ++ outs ++ [(st, opAccesses x.r - sumOf (fun (y : Nat × Nat) => y.2) (ins ++ outs))]

def hotBank (items : List PlItem) (b : Nat) : Bool := items.any (fun y => (y.kind == 0 || y.kind == 1) && bankOf y.addr == b)

/-- Instances charged with the wait bounds of the banks they reach. -/
def chargeBanks (m : Image) (items : List PlItem) (l : List PlInst) : List PlInst :=
  let acc := l.map (fun x => (x, accessesOf m items x))
  let others (b k : Nat) : Nat :=
    ((acc.filter (fun y => y.1.tile != k && y.2.any (fun z => z.1 == b && z.2 != 0))).map (fun y => y.1.tile)).eraseDups.length
  acc.map (fun y => { y.1 with a := 144 * sumOf (fun (z : Nat × Nat) =>
    z.2 * (if hotBank items z.1 then 40 else min 40 (1 + others z.1 y.1.tile))) y.2 })

/-! ### Quotas (R252; 16 R492) -/

/-- A sleeve's tile-time share: Σ C · rate, of 32 whole tiles. -/
def shareOf (l : List PlInst) (s : Nat) : Nat := sumOf (fun x => chargeC (onTile l x.tile) x * x.rate) (l.filter (fun x => x.s == s))
def sharePct (u : Nat) : Nat := pct (u / 32)

/-- A sleeve's commons bytes: its rings and state, and the entries of the streams it subscribes to. -/
def commonsOf (m : Image) (items : List PlItem) (s : Nat) : Nat :=
  sumOf (fun (x : PlItem) => x.size) (items.filter (fun x => if x.kind = 0 then (maskOf m x.key).getLsbD s else x.sleeve == s))

/-- The first sleeve over its tile-time or commons quota. -/
def quotaBreak (m : Image) (l : List PlInst) (items : List PlItem) : Option PlRef :=
  m.sleeves.findSome? (fun x =>
    if x.tileQuota * 32 * perUnit < shareOf l x.num * 10000 then
      some ⟨1, x.num, 0, noTile, cdiv (shareOf l x.num * 10000) (32 * perUnit), x.tileQuota⟩
    else if x.commonsKiB * 1024 < commonsOf m items x.num then some ⟨1, x.num, 0, noTile, commonsOf m items x.num, x.commonsKiB * 1024⟩
    else none)

/-! ### Admission (R253) -/

/-- What is surely charged before placement: every instance alone, each bank at a wait of one cycle. -/
def leastCharge (l : List PlInst) : List PlInst :=
  ((List.range l.length).zip l).map (fun x => { x.2 with a := opAccesses x.2.r * 144, tile := 1000 + x.1 })

def firstTileBreak (l : List PlInst) (tiles : List Nat) : Option PlRef :=
  tiles.findSome? (fun k => (tileBreaks (onTile l k)).map (fun b => ⟨b.1, 0xFF, 0, k, b.2.1, b.2.2⟩))

def readyBreak (c : Channel) (m : Image) (l : List PlInst) : Option PlRef :=
  (List.range 6).findSome? (fun v =>
    if nth c.disp.resv v 0 < (readyBound m l v).2 then some ⟨5, 0xFF, 0, noTile, (readyBound m l v).2, nth c.disp.resv v 0⟩ else none)

/-- A ring below its required depth: a stream-table entry, or a ring that stands and cannot move (R263). -/
def depthBreak (need : List PlItem) (items : List PlItem) : Option PlRef :=
  items.findSome? (fun x => match itemAt need x.kind x.sleeve x.key with
    | some y => if x.kind != 4 && decide (x.depth < y.need) then some ⟨7, x.sleeve, 0, noTile, x.depth, y.need⟩ else none
    | none => none)

def lagBreak (l : List PlEdge) : Option PlRef :=
  (l.find? (fun e => decide (e.lagUs < e.minUs))).map (fun e => ⟨8, e.sleeve, 0, noTile, e.lagUs, e.minUs⟩)

/-- Items with the required depth and release lag of the placement as it stands now. -/
def freshen (need : List PlItem) (items : List PlItem) : List PlItem :=
  items.map (fun x => match itemAt need x.kind x.sleeve x.key with
    | some y => { x with need := y.need, lagNs := y.lagNs }
    | none => x)

def firstRef (l : List (Option PlRef)) : Option PlRef := l.findSome? (fun x => x)

/-- Places an image. Instances and items that stand keep their tiles and places (R263); every other is placed. -/
def placeImage (c : Channel) (m : Image) (bound : List (Nat × Nat × Nat)) (standing : List PlItem) : Except PlRef Placement :=
  let all := (allPlInsts m).map (fun x => match bound.find? (fun b => b.1 == x.s && b.2.1 == x.i) with
    | some b => { x with tile := b.2.2 }
    | none => x)
  let kept := all.filter (fun x => x.tile != noTile)
  match quotaBreak m (leastCharge all) ((commonsList m (leastCharge all)).map (fun x => x.2)) with
  | some e => .error e
  | none =>
    match bindAll (placeableTiles c) (sortBy placeFirst (all.filter (fun x => x.tile == noTile))) kept with
    | .error e => .error e
    | .ok l0 =>
      match readyBreak c m l0 with
      | some e => .error e
      | none =>
        let new := (commonsList m l0).filter (fun x => (itemAt standing x.2.kind x.2.sleeve x.2.key).isNone)
        match allocAll new standing with
        | .error e => .error e
        | .ok items0 =>
          let l := chargeBanks m items0 l0
          let need := (commonsList m l).map (fun x => x.2)
          let edges := plEdges m l
          match firstRef [quotaBreak m l items0, firstTileBreak l (placeableTiles c), readyBreak c m l, depthBreak need items0, lagBreak edges] with
          | some e => .error e
          | none => .ok ⟨l, freshen need items0, edges⟩

/-! ### The report (R259 to R262) and the placement entries -/

def tileRoleCode : TileRole → Nat
  | .placeable => 0 | .spare => 1 | .failed => 2

def budgetOf (c : Channel) : Nat := c.disp.budget

/-- Tile load in 0.01 % (R247): u_k, 4 % and the level-7 budget, of every tile; u_k of a tile without instances is 0. -/
def tileLoad (c : Channel) (l : List PlInst) (k : Nat) : Nat := pct (tileU (onTile l k)) + 400 + 100 * budgetOf c

def channelUtil (c : Channel) (l : List PlInst) : Nat := pct (sumOf (fun k => tileU (onTile l k)) (placeableTiles c) / 32)

def le2 (n : Nat) : List Byte := leBytes 2 n
def le4 (n : Nat) : List Byte := leBytes 4 n

def tileRecord (c : Channel) (l : List PlInst) (k : Nat) : List Byte :=
  let h := onTile l k
  le2 0x0802 ++ le2 16 ++ [BitVec.ofNat 8 k, BitVec.ofNat 8 (match kGet c.disp.tiles k with | some t => tileRoleCode t.role | none => 2)] ++
    le2 (pct (tileU h)) ++ le2 (tileLoad c l k) ++ le2 (cdiv (scratchOf h) 1024) ++ le2 h.length ++ le2 0

def levelRecord (c : Channel) (m : Image) (l : List PlInst) (v : Nat) : List Byte :=
  let r := readyBound m l v
  le2 0x0803 ++ le2 16 ++ [BitVec.ofNat 8 v, 0] ++ le2 r.2 ++ le2 (nth c.disp.resv v 0) ++
    le2 (l.filter (fun x => x.r.cls == v)).length ++ le2 r.1 ++ le2 0

/-- A bank's wait bound: of a tile among those that access it (log entry 23). -/
def bankWait (m : Image) (p : Placement) (b : Nat) : Nat :=
  if hotBank p.items b then 40
  else min 40 (max 1 ((p.insts.filter (fun x => (accessesOf m p.items x).any (fun z => z.1 == b && z.2 != 0))).map (fun x => x.tile)).eraseDups.length)

def bankRecord (c : Channel) (m : Image) (p : Placement) (b : Nat) : List Byte :=
  let h := p.items.filter (fun x => bankOf x.addr == b)
  let ret := match kGet c.disp.banks b with | some k => k.retained | none => false
  le2 0x0804 ++ le2 16 ++ [BitVec.ofNat 8 b, if ret then 1 else 0, BitVec.ofNat 8 (bankWait m p b), 0] ++
    le4 (sumOf (fun (x : PlItem) => x.size) h) ++ le2 h.length ++ le2 0

def instRecord (l : List PlInst) (x : PlInst) : List Byte :=
  let h := onTile l x.tile
  let e := toNs x.e
  let a := toNs x.a
  let p := toNs (chargeP h x)
  let w := toNs (boundW h x)
  le2 0x0805 ++ le2 40 ++ le4 x.r.ident.toNat ++ [BitVec.ofNat 8 x.s, BitVec.ofNat 8 x.r.cls, BitVec.ofNat 8 x.tile, 0] ++
    le4 e ++ le4 a ++ le4 p ++ le4 (toNs x.j) ++ le4 (w - (e + a + p)) ++ le4 w ++ le4 (toNs x.d)

/-- The report's ring records: of instances and of source bindings, stream and path bindings with the ring they read. -/
def ringRecord (ident src port : Nat) (x : PlItem) : List Byte :=
  le2 0x0806 ++ le2 24 ++ le4 ident ++ le2 src ++ [BitVec.ofNat 8 port, BitVec.ofNat 8 (bankOf x.addr)] ++ le4 x.addr ++ le2 x.depth ++
    le2 x.need ++ le4 (cdiv x.lagNs 1000)

def ringRecords (m : Image) (p : Placement) : List (List Byte) :=
  m.graphs.flatMap (fun g =>
    (p.insts.filter (fun x => x.s == g.1)).flatMap (fun x => (List.range x.r.outs.length).filterMap (fun o =>
      (itemAt p.items 2 g.1 (ringKey false x.i o)).map (ringRecord x.r.ident.toNat 0xFFFF o))) ++
    ((List.range g.2.sources.length).zip g.2.sources).filterMap (fun x =>
      (if x.2.kind = 1 then itemAt p.items 0 0 x.2.a else if x.2.kind = 2 then itemAt p.items 1 0 x.2.a
       else itemAt p.items 3 g.1 (ringKey true x.1 0)).map (ringRecord 0 x.1 0)))

def edgeRecord (e : PlEdge) : List Byte :=
  le2 0x0807 ++ le2 16 ++ le4 e.num ++ [BitVec.ofNat 8 e.sleeve, 0] ++ le2 e.lagUs ++ le2 e.minUs ++ le2 0

def placerReport (c : Channel) (m : Image) (p : Placement) (gen : Nat) : List Byte :=
  let rings := ringRecords m p
  le2 0x0801 ++ le2 40 ++ le4 gen ++ leBytes 8 (nowNs c) ++ le2 (channelUtil c p.insts) ++ le2 34 ++ le4 p.insts.length ++ le4 rings.length ++
    le4 p.edges.length ++ le2 64 ++ le2 6 ++ le4 0 ++
    ((List.range 34).flatMap (tileRecord c p.insts) ++ (List.range 6).flatMap (levelRecord c m p.insts) ++
     (List.range 64).flatMap (bankRecord c m p)) ++
    (p.insts.flatMap (instRecord p.insts) ++ rings.flatten ++ p.edges.flatMap edgeRecord)

/-- The Placer wakes a retained bank before it places data in it, and waits for the wake (R258; 07 R226). -/
def placerWake (b : Nat) (c : Channel) : Channel :=
  let k := bankGet c b
  if k.retained then
    let d := draw c
    highWater 0x3000 3 (d.1.toNat % 4001) (bump 0x3000 2 (bankPut b { k with retained := false, waking := false, lastGrant := d.2.time.up } d.2))
  else c

/-- Banks that hold nothing go into retention where it is enabled, once they have granted nothing for 1 µs (R258; 07 R227); a bank with
data is active. -/
def retainBanks (c : Channel) : Channel :=
  (List.range 64).foldl (fun c b =>
    if c.disp.items.any (fun x => bankOf x.addr == b) then placerWake b c
    else
      let k := bankGet c b
      bankPut b { k with retained := c.disp.retention && !k.failed && (k.retained || decide (k.lastGrant + 1000 ≤ c.time.up)) } c) c

/-- The placement entries and the report (R259, R274; 16 R508). -/
def notePlacement (m : Image) (p : Placement) (c : Channel) : Channel :=
  let gen := (zGet c.dict.ro (od 0x2500 0x22)).toNat + 1
  let c1 := setRo 0x2500 0x22 gen (setRo 0x2500 0x21 (maxOf (tileLoad c p.insts) (List.range 34)) (setRo 0x2500 0x20 (channelUtil c p.insts) c))
  let c2 := (List.range 34).foldl (fun c k => setRo 0x2506 (k + 1) (tileLoad c p.insts k) c) c1
  let c3 := m.sleeves.foldl (fun c x => setRo (0x4001 + x.num * 256) 2 (cdiv (commonsOf m p.items x.num) 1024)
    (setRo (0x4001 + x.num * 256) 1 (sharePct (shareOf p.insts x.num)) c)) c2
  { c3 with dict := { c3.dict with domains := kPut c3.dict.domains (od 0x2508 0) (placerReport c3 m p gen) } }

/-- Retained banks that get data are woken (R258). -/
def wakeBanks (c : Channel) : Channel :=
  (List.range 64).foldl (fun c b => if c.disp.items.any (fun x => bankOf x.addr == b) then placerWake b c else c) c

/-- Carries a placement out: bindings, ring depths, commons data and, while graphs run, retention. -/
def bindPlacement (p : Placement) (c : Channel) : Channel :=
  let depth (kind s key : Nat) : Option Nat := (itemAt p.items kind s key).map (fun x => x.depth)
  let c1 : Channel := { c with
    graphs := kMapVals c.graphs (fun s g => { g with
      insts := kMapVals g.insts (fun i x => match plFind p.insts s i with | some y => { x with tile := y.tile } | none => x)
      rings := kMapVals g.rings (fun k r => match depth (if k < 1000000 then 2 else 3) s k with
        | some d => { r with depth := d }
        | none => r) })
    paths := kMapVals c.paths (fun n x => match depth 1 0 n with | some d => { x with depth := d } | none => x)
    disp := { c.disp with items := p.items } }
  if c.boot.graphsRun then retainBanks c1 else wakeBanks c1

/-- A placement carried out, with its entries and report. -/
def applyPlacement (m : Image) (p : Placement) (c : Channel) : Channel := notePlacement m p (bindPlacement p c)

/-- A refusal: its entries and E30 (R254). -/
def placerRefused (e : PlRef) (c : Channel) : Channel :=
  let c1 := setRo 0x2500 0x27 e.code (setRoFF 0x2500 0x28 e.sleeve (setRo 0x2500 0x29 e.ident (setRoFF 0x2500 0x2A e.tile c)))
  raise 30 e.sleeve e.code 0 (setRo 0x2500 0x2B (min e.value 0xFFFFFFFF) (setRo 0x2500 0x2C (min e.limit 0xFFFFFFFF) c1))

end Sys2Proof.Machine
end

