-- ==== Sys2Proof/Machine/Validate.lean ====
section
/-! DEFINITION. The checks of R63 on a configuration slot (02): what status and HOLD reason a slot's bytes give, and the
image that passes. -/
namespace Sys2Proof.Machine

/-- The signature of a manifest (05 R174): the slot it names holds an anchor with the right to verify images, which does. -/
def signatureOk (c : Channel) (b : List Byte) : Bool :=
  let k := slotAt c (signerSlot b)
  k.st == 1 && k.kind == 4 && k.rights.getLsbD 4 && Config.ecdsaVerify k.key (signedBytes b) (signatureOf b)

/-- Checks 1 to 5 of R63: slot status and HOLD reason; reason 0 where all pass. -/
def imageIntact (c : Channel) (b : List Byte) : Nat × Nat :=
  if !manifestReadable b then (0, 1)
  else if !manifestComplete b then (4, 4)
  else if !signatureOk c b then (2, 2)
  else if !sectsIntact b then (3, 3)
  else if (manifestOf b).edition != edition c then (5, 5)
  else (1, 0)

/-- Check 6 of R63; a wrapped-keys section whose records are not as R574 specifies fails check 7. -/
def keysPass (c : Channel) (b : List Byte) : Bool :=
  match optSect b 8 [] parseKeyRecs with
  | some l => keysUnwrap c l
  | none => true

/-- The outcome of check 7: the graph check and the LSE check that failed, and the image where every section passes. -/
structure Checked where
  graph : Option GFail
  lse : Option (Nat × Nat × Nat)
  image : Option Image
  deriving DecidableEq, Repr

/-- The section checks that stand beside the graph and LSE checks (02 R63, check 7). -/
def sectionsOk (c : Channel) (m : Image) : Bool :=
  streamsOk c m && pathsOk m && pubsOk c m && subsOk c m && sleevesOk m &&
    (match m.switch with | some w => switchOk w | none => true) && canOk c m && pleatOk m && timeOk m && dictOk m

/-- Check 7 of R63, on the image as its dictionary section leaves its records. -/
def imageChecked (c : Channel) (b : List Byte) : Checked :=
  match parseImage false b with
  | none => ⟨none, none, none⟩
  | some m0 =>
    let m := effImage m0
    match graphChecks m with
    | some e => ⟨some e, none, none⟩
    | none =>
      match lseChecks m with
      | some e => ⟨none, some e, none⟩
      | none => ⟨none, none, if lseWantedOk m && sectionsOk c m then some m else none⟩

/-- The last graph check (OD 2500:06 to 2500:09). A check that passes, and a check 7 that fails before any graph check,
leave no result behind (05 R184 names no case; DESIGN CHOICE, log entry 51). -/
def noteGraph (e : Option GFail) (c : Channel) : Channel :=
  match e with
  | some f => setRo 0x2500 6 f.code (setRoFF 0x2500 7 f.sleeve (setRo 0x2500 8 f.off (setRo 0x2500 9 f.ident c)))
  | none => setRo 0x2500 6 0 (setRo 0x2500 7 0 (setRo 0x2500 8 0 (setRo 0x2500 9 0 c)))

/-- The last LSE check (OD 2700:03 to 2700:05). -/
def noteLse (e : Option (Nat × Nat × Nat)) (c : Channel) : Channel :=
  match e with
  | some f => setRo 0x2700 3 f.1 (setRoFF 0x2700 4 f.2.1 (setRo 0x2700 5 f.2.2 c))
  | none => setRo 0x2700 3 0 (setRo 0x2700 4 0 (setRo 0x2700 5 0 c))

def setSlot (n : Nat) (x : Slot) (c : Channel) : Channel :=
  { c with slots := if n = 0 then { c.slots with cfg0 := x } else { c.slots with cfg1 := x } }
def slotOf (c : Channel) (n : Nat) : Slot := if n = 0 then c.slots.cfg0 else c.slots.cfg1

/-- Checks 1 to 7 on a slot: its status, the reports, the HOLD reason, and the image that passed (02 R63). -/
def validateSlot (n : Nat) (c : Channel) : (Nat × Option Image) × Channel :=
  let b := (slotOf c n).bytes
  let r := imageIntact c b
  let c1 := setSlot n { slotOf c n with status := r.1 } c
  if r.2 ≠ 0 then ((r.2, none), c1)
  else if !keysPass c b then ((6, none), c1)
  else
    let k := imageChecked c b
    let c2 := noteLse k.lse (noteGraph k.graph c1)
    match k.image with
    | some m => ((0, some m), c2)
    | none => ((7, none), c2)

/-- The switch section of the committed image, where it passes on its own: readable, complete and signed manifest, its own
CRC and digest, its own ranges (02 R49; log entry 22). -/
def switchAlone (c : Channel) (b : List Byte) : Option SwitchCfg :=
  if manifestReadable b && manifestComplete b && signatureOk c b then
    match ofType b 1 with
    | [x] =>
      if (crc32 x.2).toNat == x.1.crc && beBytes 48 (Config.sha384 x.2).toNat == x.1.digest then
        match parseSwitch x.2 with
        | some w => if switchOk w then some w else none
        | none => none
      else none
    | _ => none
  else none

end Sys2Proof.Machine
end

