-- ==== Sys2Proof/Machine/Load.lean ====
section
/-! DEFINITION. Loading an image that passed its checks (05 R181), unloading, and graph start (02 R52, R59). A create package
is loaded by the same operations beside what runs (16 R491). -/
namespace Sys2Proof.Machine

/-! ### Values of writable entries that come from the image (21 R619) -/

/-- An entry's value in the bytes of its type. -/
def entryOf (index sub v : Nat) : Nat × List Byte :=
  (od index sub, leBytes (match odFind index sub with | some r => typeSize r.ty | none => 0) v)

def genInitial (g : Nat) (s : PgSet) : List (Nat × List Byte) :=
  let i := 0x2220 + g
  [entryOf i 2 s.output, entryOf i 3 s.source, entryOf i 4 s.start, entryOf i 5 s.period, entryOf i 6 s.width, entryOf i 7 s.count,
   entryOf i 8 s.gate, entryOf i 9 (b01 s.low), entryOf i 0x0D (b01 s.event)]

def recordInitial (m : Image) : List (Nat × List Byte) :=
  m.streams.flatMap (fun r => [entryOf (0x8200 + r.num) 5 r.allowUs, entryOf (0x8200 + r.num) 6 r.loss, entryOf (0x8200 + r.num) 7 r.ret]) ++
  m.paths.flatMap (fun r =>
    let i := pathIndex r.num
    [entryOf i 3 r.preset, entryOf i 4 r.phase, entryOf i 5 (nth r.shifts 0 15), entryOf i 6 (nth r.shifts 1 15),
     entryOf i 7 (nth r.shifts 2 15), entryOf i 8 (nth r.shifts 3 15), entryOf i 0x18 (b01 r.satEvent)]) ++
  m.gpubs.flatMap (fun r => [entryOf (0x8C00 + r.num) 6 r.t1, entryOf (0x8C00 + r.num) 7 r.t0]) ++
  m.lse.flatMap (fun x => [entryOf 0x2706 (x.1 + 1) x.2.allow, entryOf 0x2707 (x.1 + 1) x.2.ceiling, entryOf 0x2708 (x.1 + 1) x.2.retainMs]) ++
  m.pleat.flatMap (fun r =>
    [entryOf (defIndex r.num) 7 (b01 r.armStart), entryOf (defIndex r.num) 8 r.n, entryOf (defIndex r.num) 9 r.p, (od (defIndex r.num) 0x0A, r.mask)])

def moduleInitial (m : Image) : List (Nat × List Byte) :=
  (match m.switch with
    | some w => entryOf 0x2900 0x12 w.age :: w.ports.flatMap (fun p => [entryOf (0x9200 + p.1) 8 (b01 p.2.preempt), entryOf (0x9200 + p.1) 9 p.2.addFrag])
    | none => []) ++
  m.can.ports.flatMap (fun p =>
    let i := canIndex p.1
    [entryOf i 5 p.2.nominal, entryOf i 6 p.2.data, entryOf i 7 (b01 p.2.term), entryOf i 8 (b01 p.2.service), entryOf i 9 p.2.node,
     entryOf i 0x0A (b01 p.2.hostRec)]) ++
  (match m.time with
    | some t => ((List.range 15).zip t.vals).map (fun x => entryOf 0x2200 (0x20 + x.1) x.2.toNat) ++
        ((List.range 4).zip t.gens).flatMap (fun x => genInitial x.1 x.2)
    | none => [])

/-- Puts an image's values under the dictionary's entries: records first, then the dictionary section over them. -/
def loadDict (module_ : Bool) (m : Image) (c : Channel) : Channel :=
  let vals := (if module_ then moduleInitial m else []) ++ recordInitial m ++ m.dict.map (fun r => (r.key, r.value))
  { c with dict := { c.dict with
      initial := vals.foldl (fun t x => kPut t x.1 x.2) c.dict.initial,
      decls := m.dict.foldl (fun t r => match r.decl with | some d => kPut t r.key d | none => t) c.dict.decls } }

/-! ### The running form of each record -/

def streamNew (c : Channel) (mask : U64) (r : StreamRec) : Stream :=
  { cfg := r, st := .inactive, fromLost := false, missRun := 0, retRun := 0, breakPending := false, simSeen := false, simMode := false,
    ring := [], next := 0, closed := [], allowUs := entryNat c (0x8200 + r.num) 5 r.allowUs, loss := entryNat c (0x8200 + r.num) 6 r.loss,
    ret := entryNat c (0x8200 + r.num) 7 r.ret, pend := none, pendAt := 0, mask := mask }

def pathNew (c : Channel) (r : PathRec) : CPath :=
  { cfg := pathEntries c r.num r, depth := 2, ring := [], hist := [], lastIn := none, lastVal := none, produced := 0, breakPending := false,
    outBreak := false, pend := none, pendAt := 0, frozen := false, switchAt := 0, oldBypass := false }

def ringNew : TokRing := ⟨0, [], 2, 0, none⟩

def instNew (r : InstRec) : InstRt :=
  { st := opInit r.op r.params, lastGood := [], subst := 0, warm := 0, done := 0, breakPend := false, fs := .waiting, release := 0,
    instant := 0, startAt := 0, fencedBy := 0, nextP1 := 0, tile := noTile, waited := false }

/-- Rings of every output port, and of the source bindings whose producer holds none of its own (05 R148, R162). -/
def ringKeys (g : Graph) : List Nat :=
  ((List.range g.insts.length).zip g.insts).flatMap (fun x => (List.range x.2.outs.length).map (fun p => ringKey false x.1 p)) ++
    (((List.range g.sources.length).zip g.sources).filter (fun x => decide (3 ≤ x.2.kind))).map (fun x => ringKey true x.1 0)

def graphNew (g : Graph) : GraphRt :=
  { cfg := g, first := [], rings := kOf ((ringKeys g).map (fun k => (k, ringNew))), pos := (List.range g.edges.length).map (fun n => (n, 0)),
    lsePos := [], insts := ((List.range g.insts.length).zip g.insts).map (fun x => (x.1, instNew x.2)) }

/-- A publication's place in its sleeve's address block (16 R493). -/
def pubPlace (m : Image) (sv : Bool) (owner num : Nat) : Nat :=
  let g := m.gpubs.filter (fun p => p.owner == owner)
  if sv then 1 + g.length + (m.spubs.filter (fun p => p.owner == owner && decide (p.num < num))).length
  else 1 + (g.filter (fun p => decide (p.num < num))).length

def pubMac (m : Image) (sv : Bool) (owner num : Nat) : BitVec 48 :=
  match m.sleeves.find? (fun s => s.num == owner) with
  | some s => s.macBase + BitVec.ofNat 48 (pubPlace m sv owner num)
  | none => 0

/-- Members before their writers' first writes (10 R312). -/
def membersNew (l : List MemberRec) : List MemberVal := l.map (fun _ => (⟨0, qInvalid, 0⟩ : MemberVal))

def gpubNew (m : Image) (r : GPubRec) : GPub :=
  { cfg := r, pubd := membersNew r.members, stNum := 0, sqNum := 0, t := 0, interval := 0, first := false, t1 := 0, t0 := 0, seqNo := 0,
    srcMac := pubMac m false r.owner r.num, firstAt := 0, cycle := none, wrote := [] }
def spubNew (m : Image) (r : SPubRec) : SPub :=
  { cfg := r, written := [], lastSmp := 0, sentUpTo := 0, seqNo := 0, srcMac := pubMac m true r.owner r.num }
def subNew (r : GSubRec) : GSub :=
  { cfg := r, st := .waiting, stNum := none, prev := [], sqNum := 0, latest := none, hist := [], waiting := none, talAt := none, simSeen := false }

def sleeveNew (r : SleeveRec) : Sleeve :=
  { st := .starting, cfg := r, beh := r.beh, req := none, lastBoundary := 0, differs := false, saving := false, pkg := [], restore := none }

def bufNew (r : CanBufRec) : CanBuf :=
  { cfg := r, words := recWords r, pend := false, locked := none, waiting := [], fresh := false, shadow := none, hist := [] }

def defNew (r : DefRec) : PDef :=
  { cfg := r, st := .stopped, ring := [], next := 0, row := [], opened := none, heldTrig := [], rearmAt := 0, wasArmed := false }

/-- Imports the channel's own wrapped keys; a slot that holds the same wrapped records stays (19 R573, R575; log entry 25). -/
def loadKeys (keys : List (List Byte)) (c : Channel) : Channel :=
  ((keys.map (fun r => u16 r 4)).eraseDups).foldl (fun c s =>
    let mine := keys.filter (fun r => u16 r 4 == s)
    let all := mine.flatten
    if (slotAt c s).st = 1 && (slotAt c s).wrapped == all then c
    else match ownRec c mine with
      | some r => (importRec r all c).2
      | none => c) c

/-- Adds records to a table, each under its number. -/
def addAll {α β : Type} (f : β → Nat) (g : β → α) (t : KMap α) (l : List β) : KMap α := l.foldl (fun t r => kPut t (f r) (g r)) t

def addBufs (l : List CanBufRec) (n : Nat) (p : CanPort) : CanPort :=
  { p with bufs := addAll (fun (r : CanBufRec) => r.buf) bufNew p.bufs (l.filter (fun r => r.port == n)) }

def addStreams (all : Image) (l : List StreamRec) (c : Channel) : IngestSt :=
  { c.ingest with streams := kMapVals (addAll (fun r => r.num) (streamNew c 0) c.ingest.streams l) (fun n x => { x with mask := maskOf all n }) }

/-- Loads the records of `new` into the channel, beside what it holds; `all` is the image that then runs. -/
def loadRecords (all new : Image) (c : Channel) : Channel :=
  let c1 : Channel := { c with
    ingest := addStreams all new.streams c
    paths := addAll (fun (r : PathRec) => r.num) (fun r => pathNew c r) c.paths new.paths
    graphs := addAll (fun (x : Nat × Graph) => x.1) (fun x => graphNew x.2) c.graphs new.graphs
    lse := addAll (fun (x : Nat × LseProg) => x.1) (fun x => lseNew c x.1 x.2) c.lse new.lse
    pub := { c.pub with
      gpubs := addAll (fun r => r.num) (fun r => gpubNew all r) c.pub.gpubs new.gpubs,
      spubs := addAll (fun r => r.num) (fun r => spubNew all r) c.pub.spubs new.spubs,
      subs := addAll (fun r => r.num) (fun r => subNew r) c.pub.subs new.subs }
    sleeves := addAll (fun (r : SleeveRec) => r.num) (fun r => sleeveNew r) c.sleeves new.sleeves
    can := kMapVals c.can (addBufs new.can.bufs)
    pleat := { c.pleat with defs := addAll (fun (r : DefRec) => r.num) (fun r => defNew r) c.pleat.defs new.pleat }
    dict := { c.dict with domains := new.sleeveRaw.foldl (fun t x => kPut t (od (0x4001 + x.1 * 256) 3) x.2) c.dict.domains } }
  new.lse.foldl (fun c x => setReaders x.1 x.2 c) c1

/-- The switch takes a configuration; an equal one changes nothing (02 R49; log entry 25). -/
def installSwitch (section_ : Bool) (w : SwitchCfg) (c : Channel) : Channel :=
  if c.sw.section_ = section_ ∧ c.sw.cfg = w then c
  else { c with sw := { c.sw with section_ := section_, cfg := w, meters := [], groups := [], learned := [] } }

/-- The ports' records: a port whose record changes starts anew, TEC and REC at 0 (17 R529, R531). -/
def loadPorts (m : Image) (c : Channel) : Channel :=
  { c with can := kMapVals c.can (fun n p =>
      let r := canEntries c n (canPortCfg m n)
      if r = p.cfg then p else { p with cfg := r, tec := 0, rec_ := 0, busOff := false, recovering := false, cur := none }) }

/-- The time section: which generators arm at graph start (13 R415). Their settings are the entries' initial values. -/
def loadGens (m : Image) (c : Channel) : Channel :=
  { c with gens := [0, 1, 2, 3].foldl (fun t g =>
      let on := match m.time with | some x => nth x.arms g false | none => false
      kPut t g { (kGet t g).getD pgReset with armStart := on }) c.gens }

/-- The reservations, bank retention and level-7 budget, as a graph start takes them (06 R191; 07 R240; 08 R274). -/
def loadResv (c : Channel) : Channel :=
  { c with disp := { c.disp with retention := entryNat c 0x3000 0x0D 1 == 1, budget := entryNat c 0x2500 0x2F 5, resv := [512, 512, 512, 256, 256, 512, 256, 128].zip (List.range 8) |>.map (fun x => entryNat c 0x2501 (x.2 + 1) x.1) } }

/-- An image is placed for the values that its graph start will take; until then those of the last one stay in effect. -/
def keepResv (old c : Channel) : Channel :=
  { c with disp := { c.disp with retention := old.disp.retention, budget := old.disp.budget, resv := old.disp.resv } }

/-- Keeps the overlay of the entries that exist with the same type in the reloaded image (21 R620). -/
def keepOverlay (old : KMap Decl) (c : Channel) : Channel :=
  let keep (k : Nat) : Bool :=
    match kGet old k, kGet c.dict.decls k with
    | none, none => configured c (k / 256) (k % 256)
    | some a, some b => a.ty == b.ty
    | none, some _ => true
    | some _, none => false
  { c with dict := { c.dict with overlay := c.dict.overlay.filter (fun x => keep x.1) } }

/-- What runs from an image is taken away: graphs, paths, streams, LSEs, publications, sleeves, recordings, buffers. Captures
stop and open segments close (02 R52; 18 R541). -/
def unloadImage (c0 : Channel) : Channel :=
  let c := c0.pleat.defs.foldl (fun c x => stopCapture x.1 (nowNs c) c) c0
  { c with
    graphs := [], paths := [], ingest := ingestReset, lse := [], pub := pubReset, sleeves := [],
    disp := { c.disp with delay := [], parked := [], fences := [], moves := [], planned := [], queued := [], items := [], movesLeft := 0, tiles := kMapVals c.disp.tiles (fun _ t => { t with stack := [] }) },
    can := kMapVals c.can (fun _ p => { p with bufs := [], cur := none }),
    pleat := { c.pleat with defs := [], manual := [] },
    dict := { c.dict with pendingW := [] },
    seam := { c.seam with digests := [], twinDigests := [], items := [], inputDiv := [], divRun := none, realign := [], diagnosing := [], store := [], confirmed := [] },
    boot := { c.boot with graphsRun := false, windowOpen := false, admitted := false, readyMask := 0 } }

/-- Loads an image that passed checks 1 to 7 and offers it to the Placer (02 R63, check 8; 05 R181; 08 R254). -/
def loadImage (m : Image) (c0 : Channel) : Except PlRef Channel :=
  let u := unloadImage c0
  let u1 := { u with dict := { u.dict with initial := [], decls := [] } }
  let c1 := keepOverlay c0.dict.decls (loadRecords m { m with sleeveRaw := [] } (loadDict true m u1))
  let c2 := loadGens m (loadPorts m (loadRecords m m { c1 with ingest := ingestReset }))
  match placeImage (loadResv c2) m [] [] with
  | .error e => .error e
  | .ok p =>
    let c3 := loadKeys m.keys (keepResv c2 (applyPlacement m p (loadResv c2)))
    let c4 := match m.switch with | some w => installSwitch true w c3 | none => c3
    .ok { c4 with boot := { c4.boot with admitted := true } }

/-! ### Graph start -/

/-- The streams of a set of numbers enter WAITING, the paths of a set of owners start. -/
def startStreams (t : Nat) (only : Nat → Bool) (c : Channel) : Channel :=
  { c with ingest := { c.ingest with streams := kMapVals c.ingest.streams (fun n x => if only n then streamStart t x else x) } }
def startPaths (only : Nat → Bool) (c : Channel) : Channel :=
  { c with paths := kMapVals c.paths (fun n x => if only x.cfg.owner then let y := pathStart c x; { y with cfg := pathEntries c n y.cfg } else x) }

/-- What a source binding presents before its first token (05 R159): the default of a GOOSE member, a CANFRAME of zeros, the initial value of
the sleeve's LSE variable, the value in effect of a HOST entry. -/
def sourceFirst (c : Channel) (s : Nat) (x : SourceRec) : List U32 :=
  if x.kind = 3 then (match kGet c.pub.subs x.a with | some b => let d := nth b.cfg.members x.b (0, 0); memberPay d.1 (d.2.setWidth 64) | none => [0])
  else if x.kind = 4 then List.replicate 18 0
  else if x.kind = 5 then [((kGet c.lse s).bind (fun l => (l.prog.vars.find? (fun v => v.ident.toNat == x.a)).map (fun v => v.init))).getD 0]
  else if x.kind = 6 then hostWords c x.a (entryBytes c (x.a / 256) (x.a % 256) [])
  else [0]

/-- A sleeve's graph starts: empty rings, initial states, P1 firings from instant `t` (05 R181). -/
def startGraph (t s : Nat) (c : Channel) : Channel :=
  match kGet c.graphs s with
  | none => c
  | some g =>
    putGraph s { g with
      first := ((List.range g.cfg.sources.length).zip g.cfg.sources).map (fun x => (x.1, sourceFirst c s x.2))
      rings := kMapVals g.rings (fun _ r => { ringNew with depth := r.depth }), pos := kMapVals g.pos (fun _ _ => 0)
      lsePos := kMapVals g.lsePos (fun _ x => (x.1, 0))
      insts := kMapVals g.insts (fun i x => match g.cfg.insts[i]? with
        | some r => { instNew r with tile := x.tile, nextP1 := (t + 999999) / 1000000 * 1000000 }
        | none => x) } c

/-- A sleeve's reader positions of streams and paths start where their producers stand. -/
def startReaders (s : Nat) (c : Channel) : Channel :=
  match kGet c.graphs s with
  | none => c
  | some g =>
    putGraph s { g with pos := ((List.range g.cfg.edges.length).zip g.cfg.edges).map (fun x =>
      (x.1, if x.2.src then (match g.cfg.sources[x.2.prod]? with
        | some k =>
          if k.kind = 1 then (match kGet c.ingest.streams k.a with | some st => st.next | none => 0)
          else if k.kind = 2 then (match kGet c.paths k.a with
            | some p => if p.cfg.preset = 0 then (match kGet c.ingest.streams p.cfg.stream with | some st => st.next | none => 0)
                        else (match p.ring.getLast? with | some o => o.n + 1 | none => 0)
            | none => 0)
          else 0
        | none => 0) else 0)) } c

/-- The publications and subscriptions of a set of owners as they start at `t` (10 R312, R317, R325); the first frame is
due at the first P1 boundary after it. -/
def startPubs (t : Nat) (only : Nat → Bool) (c : Channel) : Channel :=
  { c with pub := { c.pub with
      gpubs := kMapVals c.pub.gpubs (fun _ p => if only p.cfg.owner then { p with pubd := membersNew p.cfg.members, stNum := 0, sqNum := 0, first := false, firstAt := (t / 1000000 + 1) * 1000000, cycle := none, wrote := [] } else p)
      spubs := kMapVals c.pub.spubs (fun _ p => if only p.cfg.owner then { p with written := [], sentUpTo := 0 } else p)
      subs := kMapVals c.pub.subs (fun _ x => if only x.cfg.owner then subNew x.cfg else x) } }

/-- Entries written in HOLD or COMMISSION that take effect at the next graph start, at instant `t`; a program scans first at
its first boundary from then on (11 R354). -/
def startSettings (t : Nat) (c : Channel) : Channel :=
  loadResv { c with
    lse := kMapVals c.lse (fun n L => lseSettings c n L.prog { L with st := .stopped, nextB := cycleCeil L t, forces := [], pendForces := [], outPrev := [], outLast := [], latched := [] })
    ingest := { c.ingest with streams := kMapVals c.ingest.streams (fun n x => { x with
      allowUs := entryNat c (0x8200 + n) 5 x.cfg.allowUs, loss := entryNat c (0x8200 + n) 6 x.cfg.loss, ret := entryNat c (0x8200 + n) 7 x.cfg.ret
      pend := none }) }
    dict := { c.dict with pendingW := c.dict.pendingW.filter (fun w => !(inRange (w.key / 256) 0x8200 0x83FF || inRange (w.key / 256) 0x8400 0x8BFF)) } }

/-- Generators whose flag is set arm (13 R412, R415). -/
def startGens (c : Channel) : Channel :=
  c.gens.foldl (fun c x => if x.2.armStart && pgSetOk c x.1 then pgArmNow x.1 c else c) c

/-- GRAPH_START: at the P1 boundary after admission (02 R52, R59; 05 R181; 03 R107; 18 R541). -/
def graphStartC (c0 : Channel) : Channel :=
  if !graphMode c0.boot.mode || c0.boot.graphsRun || !c0.boot.admitted then c0
  else
    let c := advanceTo c0.boot.graphStartAt c0
    let t := c.boot.graphStartAt
    let ss := c.sleeves.map (fun x => x.1)
    let c1 := startPubs t (fun _ => true) (startPaths (fun _ => true) (startStreams t (fun _ => true) (startSettings t c)))
    let c2 := ss.foldl (fun c s => startReaders s (startGraph t s c))
      { c1 with sleeves := kMapVals c1.sleeves (fun _ s => { s with st := .running, lastBoundary := t })
                pub := { c1.pub with trips := [], jobs := [], waiting := [] }
                boot := { c1.boot with graphsRun := true, windowOpen := true, readyMask := 0 } }
    readyUpdate (startGens (pleatGraphStart (simUpdate (retainBanks c2))))
def execGraphStart (ch : Chan) (s : State) : Host.Outcome State Fault Refusal := onChan ch graphStartC s

end Sys2Proof.Machine
end

