-- ==== Sys2Proof/Machine/Window.lean ====
section
/-! DEFINITION. The Host Window's words, its areas and the owner words (07 R229, R235). -/
namespace Sys2Proof.Machine

/-- Bytes of the window (07 R229): an unlisted byte reads 0 (log entry 26). -/
def winRead (c : Channel) (a n : Nat) : List Byte := (List.range n).map (fun i => zGet c.host.window (a + i))

def winPut (m : List Host.Cell) (a : Nat) : List Byte → List Host.Cell
  | [] => m
  | b :: r => winPut (zPut m a b) (a + 1) r

def winWrite (a : Nat) (l : List Byte) (c : Channel) : Channel := { c with host := { c.host with window := winPut c.host.window a l } }

/-- The area of a function: its first byte and its size (07 R229). -/
def areaBase (f : Nat) : Nat := if f = 0 then 0 else if f = 65 then 0x80000 else 0xC0000 + (f - 1) * 0xD000
def areaSize (f : Nat) : Nat := if f = 0 then 0x80000 else if f = 65 then 0x40000 else 0xD000

/-- An owner word (07 R235): OWNER 1 is HOST, 2 is MODULE. -/
def ownerWord (owner seq len : Nat) : Nat := owner * 2 ^ 62 + seq % 65536 * 2 ^ 32 + len % 2 ^ 32
def ownerOf (w : Nat) : Nat := w / 2 ^ 62
def seqOf (w : Nat) : Nat := w / 2 ^ 32 % 65536
def lenOf (w : Nat) : Nat := w % 2 ^ 32

def readOwner (f : Nat) (c : Channel) : Nat := leNat (winRead c (areaBase f) 8)
def writeOwner (f w : Nat) (c : Channel) : Channel := winWrite (areaBase f) (leBytes 8 w) c

/-- Every function that has an area: PF0, the VFs, the channel's diagnostic function. -/
def windowFns : List Nat := List.range 66

/-- The owner words at the end of B3 (07 R236). -/
def resetOwners (c : Channel) : Channel := windowFns.foldl (fun c f => writeOwner f (ownerWord 1 0 0) c) c

/-- The mailbox event of a function drives its vector 0 (15 R483). -/
def mailboxEvent (f : Nat) (c : Channel) : Channel := emit (.msix f 0) c

end Sys2Proof.Machine
end

