-- ==== Sys2Proof/Machine/Boot.lean ====
section
/-! DEFINITION. Start-up and the mode transitions (02 R52 to R70; 12 R380 to R382; 19 R562 to R568; 22 R641). -/
namespace Sys2Proof.Machine

/-- A channel that is in a start-up phase and not halted. -/
def inPhase (n : Nat) (c : Channel) : Bool := c.boot.powered && c.boot.halt.isNone && c.boot.phase == n

/-- A phase that BOOT alone goes through: a tamper event that sealed the channel has ended it (02 R54). -/
def inBootPhase (n : Nat) (c : Channel) : Bool := inPhase n c && c.boot.mode == .boot

def setPhase (n : Nat) (c : Channel) : Channel := bootstatChange { c with boot := { c.boot with phase := n } }

/-- Leaves BOOT or another mode for HOLD, for a reason of OD 2000:04 (02 R52). -/
def enterHold (reason : Nat) (c : Channel) : Channel :=
  let c1 := enterMode .hold { c with boot := { c.boot with holdReason := reason, phase := 0x20 } }
  if c.boot.phase = 0x20 then c1 else bootstatChange c1

/-! ### B1 to B4 -/

/-- BOOT_B1_COMPLETE (19 R562, R564; 02 R52, R79): `rom` is what BM0 measures; the counter is loaded from a twin whose servo
is locked. Operating seconds count from here on (20 R592). -/
def bootB1 (dukOk prefN : Bool) (slotId : Nat) (rom : List Byte) (twin c : Channel) : Channel :=
  if !inPhase 1 c then c
  else
    let c1 := { c with boot := { c.boot with rolePrefN := prefN, slotId := slotId % 32 } }
    if !dukOk then haltBoot 3 c1
    else
      let ctr := if twin.boot.powered && twin.time.servo == .locked then twin.time.ctr else 0
      let c2 := setPhase 2 (extendBm 0 rom { c1 with time := { c1.time with ctr := ctr }, ledger := { c1.ledger with opSince := c1.time.up } })
      if c2.keysNv.sealedMarker then
        installSwitch false switchDefault (enterMode .sealedMode { c2 with keys := { c2.keys with st := 2 } })
      else { c2 with seam := { c2.seam with alive := true } }
def execBootB1Complete (ch : Chan) (dukOk prefN : Bool) (slotId : Nat) (rom : List Byte) (s : State) : Host.Outcome State Fault Refusal :=
  onChanTwin ch (bootB1 dukOk prefN slotId rom) s

def fwSlot (c : Channel) (n : Nat) : Slot := if n = 0 then c.slots.fw0 else c.slots.fw1

/-- The image of a firmware slot; a slot as delivered holds the factory's (log entry 6). -/
def fwImage (c : Channel) (n : Nat) : List Byte := if (fwSlot c n).bytes.isEmpty then Config.factoryFirmware n else (fwSlot c n).bytes
def fwVerifies (c : Channel) (n : Nat) : Bool :=
  if (fwSlot c n).bytes.isEmpty then (fwSlot c n).status == 1 else Config.firmwareSigned (fwSlot c n).bytes
def fwEdition (c : Channel) (n : Nat) : Nat × Nat :=
  if (fwSlot c n).bytes.isEmpty then (3, 2) else Config.editionOf (fwSlot c n).bytes

/-- BOOT_B2_COMPLETE (02 R69; 19 R564): the committed slot, else the other one where it verifies with the same edition. -/
def bootB2 (c : Channel) : Channel :=
  if !inPhase 2 c then c
  else
    let n := c.slots.committedFw
    let o := 1 - n
    let run (k : Nat) : Channel := setPhase 3 (extendBm 1 (fwImage c n) { c with slots := { c.slots with running := k } })
    if fwVerifies c n then run n
    else if fwVerifies c o && fwEdition c o == fwEdition c n then run o
    else haltBoot 1 c
def execBootB2Complete (ch : Chan) (s : State) : Host.Outcome State Fault Refusal := onChan ch bootB2 s

/-- The episodes of a start (20 R601). -/
def startEpisodes (c : Channel) : Channel :=
  let c1 := episode 0x19 [BitVec.ofNat 8 c.boot.cause] c
  let c2 := if c.boot.cause = 2 then episode 2 (leBytes 2 (min c.psu.lowVin 65535) ++ leBytes 2 (min c.psu.lowLining 65535)) c1 else c1
  if c.keysNv.reprovisioned then
    episode 0x18 (leBytes 4 c.keysNv.provGen.toNat) { c2 with keysNv := { c2.keysNv with reprovisioned := false } }
  else c2

/-- The switch as BOOT and HOLD run it: the committed section where it passes on its own, else the default (02 R49). -/
def bootSwitch (c : Channel) : Channel :=
  if c.boot.mode == .sealedMode then c
  else match switchAlone c (committedSlot c).bytes with
    | some w => installSwitch true w c
    | none => installSwitch false switchDefault c

/-- BOOT_B3_COMPLETE (19 R564, R566, R568, R580; 20 R592, R601, R609; 07 R236; 18 R552). `measures` are what BM2 to BM6
measure. A sealed channel derives no key. -/
def bootB3 (measures : List (List Byte)) (c : Channel) : Channel :=
  if !inPhase 3 c then c
  else
    let m := [2, 3, 4, 5, 6].foldl (fun c i => extendBm i (nth measures (i - 2) []) c) c
    let m1 := extendBm 7 (asciiBytes "B3 END") m
    let k := if c.boot.mode == .sealedMode then { m1 with keys := { m1.keys with bmLocked := true } } else restoreSlots (deriveAll m1)
    resetOwners (bootSwitch (pleatAtBoot (startEpisodes (ledgerAtB3 (setPhase 4 k)))))
def execBootB3Complete (ch : Chan) (measures : List (List Byte)) (s : State) : Host.Outcome State Fault Refusal := onChan ch (bootB3 measures) s

/-- Tile roles at the end of self-test (08 R241): the 32 lowest-numbered tiles that passed are placeable. -/
def roleTiles (failed : List Nat) : KMap Tile :=
  let pass := (List.range 34).filter (fun n => !failed.contains n)
  (List.range 34).map (fun n => (n, if failed.contains n then tileIdle .failed else if (pass.take 32).contains n then tileIdle .placeable else tileIdle .spare))

/-- A CAN port that fails its loopback is off: its controller takes no part until the next start (22 R641). -/
def canOff (n : Nat) (c : Channel) : Channel := testFail 5 n { c with can := kDel c.can n }

/-- BOOT_B4_COMPLETE (02 R52, R61; 22 R641; 12 R370; 20 R601). -/
def bootB4 (failed : List Nat) (bank : Option Nat) (clockFault lanesUp : Bool) (canFail : List Nat) (c : Channel) : Channel :=
  if !inPhase 4 c then c
  else
    let c0 := canFail.foldl (fun c n => canOff n c)
      { c with seam := { c.seam with presence := if lanesUp then 2 else c.seam.presence, out := [] }, disp := { c.disp with tiles := roleTiles failed } }
    let passed (ok : Bool) (c : Channel) : Channel := if ok then testPass c else c
    let c1 := passed canFail.isEmpty (if lanesUp then testPass c0 else testFail 4 0 c0)
    let c2 := if failed.isEmpty then testPass c1 else testFail 0 0 c1
    let c3 := match bank with
      | some b => testFail 1 b { c2 with disp := { c2.disp with banks := kPut c2.disp.banks b { bankIdle with failed := true } } }
      | none => testPass c2
    let c4 := if failed.isEmpty && bank.isNone then c3
      else episode 0x11 (leBytes 8 (failed.foldl (fun m n => m ||| 2 ^ n) 0) ++ [BitVec.ofNat 8 (bank.getD 0xFF)]) c3
    if clockFault then haltBoot 2 (testFail 3 0 c4)
    else if c4.boot.mode == .sealedMode then setPhase 0x20 c4
    else if 2 < failed.length ∨ bank.isSome then enterHold 9 c4
    else setPhase 5 c4
def execBootB4Complete (ch : Chan) (failed : List Nat) (bank : Option Nat) (clockFault lanesUp : Bool) (canFail : List Nat) (s : State) :
    Host.Outcome State Fault Refusal :=
  onChan ch (bootB4 failed bank clockFault lanesUp canFail) s

/-! ### B5 to B7 -/

/-- BOOT_B5_COMPLETE (02 R62, R63): the committed slot alone, checks 1 to 7. -/
def bootB5 (c : Channel) : Channel :=
  if !inBootPhase 5 c then c
  else
    let v := validateSlot c.slots.committed c
    if v.1.1 = 0 then setPhase 6 v.2 else enterHold v.1.1 (journalAdd 2 v.1.1 0xFF [] v.2)
def execBootB5Complete (ch : Chan) (s : State) : Host.Outcome State Fault Refusal := onChan ch bootB5 s

/-- BOOT_B6_COMPLETE (05 R181; 02 R63, check 8). -/
def bootB6 (c : Channel) : Channel :=
  if !inBootPhase 6 c then c
  else match (imageChecked c (committedSlot c).bytes).image with
    | none => enterHold 7 c
    | some m =>
      match loadImage m c with
      | .error e => enterHold 8 (journalAdd 2 8 0xFF [] (placerRefused e c))
      | .ok k => setPhase 7 k
def execBootB6Complete (ch : Chan) (s : State) : Host.Outcome State Fault Refusal := onChan ch bootB6 s

/-- Is the channel the preferred lone channel (12 R380)? -/
def preferredLone (c : Channel) : Bool := match c.id with | .a => c.boot.rolePrefN | .b => !c.boot.rolePrefN

/-- Has a channel come to the end of B7, or is it in B7 (12 R381)? -/
def atB7 (c : Channel) : Bool := c.boot.powered && (c.boot.phase == 7 || graphMode c.boot.mode)

/-- Is control granted at B7 (12 R381)? Only while the twin's HOLD_CTL is deasserted. -/
def grantedAtB7 (twin c : Channel) : Bool :=
  if c.seam.twinHold || (c.seam.presence == 2 && twin.boot.mode == .active) then false
  else if c.seam.presence = 2 then c.id == .a || !atB7 twin
  else preferredLone c

/-- A STANDBY channel that holds no converged state resynchronises from a stage (12 R392); without the lanes it waits for
them. -/
def startResync (stage : Nat) (c : Channel) : Channel :=
  let n := if c.seam.presence = 2 then stage else 0
  journalAdd 8 n 0xFF [] { c with seam := { c.seam with stage := n, stageAt := c.time.up, restarts := 0, resyncSleeve := none } }

/-- BOOT_B7_COMPLETE (12 R381; 02 R52, R59, R60). -/
def bootB7 (ms : Nat) (twin c : Channel) : Channel :=
  if !inBootPhase 7 c || !c.boot.admitted then c
  else
    let g := grantedAtB7 twin c
    let c1 := enterMode (if c.slots.intentOperate then .standby else .commission)
      (bootstatChange { c with boot := { c.boot with phase := 0x20, duration := BitVec.ofNat 32 ms, graphStartAt := p1After 1 c, holdReason := 0 } })
    if g then grantControl c1
    else if c1.boot.mode == .standby then startResync 1 { c1 with seam := { c1.seam with isolated := c.seam.presence == 1 } }
    else { c1 with seam := { c1.seam with isolated := c.seam.presence == 1 } }
def execBootB7Complete (ch : Chan) (ms : Nat) (s : State) : Host.Outcome State Fault Refusal :=
  match onChanTwin ch (bootB7 ms) s with
  | .next t => .next (noteServing t)
  | o => o

/-- Has the channel been without its twin for the lone-channel wait (12 R381)? -/
def loneWaitEnd (c : Channel) : Nat := c.seam.absentAt + entryNat c 0x2800 0x1E 1000 * 1000000

/-- May control be given to the channel at all: out of BOOT with graphs admitted, no control held, twin's line clear. -/
def mayHold (c : Channel) : Bool :=
  c.boot.powered && graphMode c.boot.mode && !c.seam.holdCtl && !c.seam.twinHold && c.seam.takeover.isNone

/-- LONE_CHANNEL_WAIT_EXPIRY (12 R381): the wait has passed. -/
def loneChannelWait (c : Channel) : Channel :=
  if mayHold c && c.seam.presence == 0 && !c.boot.granted then grantControl (upTo (loneWaitEnd c) c) else c
def execLoneChannelWaitExpiry (ch : Chan) (s : State) : Host.Outcome State Fault Refusal :=
  match onChan ch loneChannelWait s with
  | .next t => .next (noteServing t)
  | o => o

/-- WARM_UP_WINDOW_EXPIRY (02 R59): the window of OD 2000:0D has passed since graph start. -/
def warmUpWindow (c : Channel) : Channel :=
  if c.boot.graphsRun && c.boot.windowOpen then
    let c1 := advanceTo (c.boot.graphStartAt + entryNat c 0x2000 0x0D 100 * 1000000) c
    let c2 := { c1 with boot := { c1.boot with windowOpen := false } }
    if c2.boot.mode == .standby && c2.boot.granted && c2.seam.holdCtl then enterActive c2 else c2
  else c
def execWarmUpWindowExpiry (ch : Chan) (s : State) : Host.Outcome State Fault Refusal := onChan ch warmUpWindow s

/-- Does a channel qualify for a grant after B7 (12 R381, R382; log entry 27)? An isolated channel that is not preferred, and
one still in its lone-channel wait, does not. -/
def qualifies (c : Channel) : Bool :=
  mayHold c && !inTileRecovery c && !(c.seam.isolated && !preferredLone c) &&
    !(c.seam.presence == 0 && !preferredLone c && !c.boot.granted && decide (c.time.up < loneWaitEnd c))

/-- ROLE_ARBITRATION_GRANT (12 R382): in one P1 period channel A goes first. -/
def roleGrant (twin c : Channel) : Channel :=
  if qualifies c && !twin.seam.holdCtl && (c.id == .a || !qualifies twin) then grantControl c else c
def execRoleArbitrationGrant (ch : Chan) (s : State) : Host.Outcome State Fault Refusal :=
  match onChanTwin ch roleGrant s with
  | .next t => .next (noteServing t)
  | o => o

/-! ### Mode requests (02 R52 to R54, R68) -/

/-- The conditions of a mode request: path, mode, and no earlier one still being applied. -/
def modeGate (p : Path) (k : Channel → Channel) (c : Channel) : Channel :=
  writeGate p [2, 3, 4, 5] 0x2000 3 (fun c => if c.boot.pendingMode.isSome then refuse 0x0107 0x2000 3 p c else k c) c

/-- A request that both channels apply at one switch boundary (02 R53). -/
def pendMode (req t : Nat) (c : Channel) : Channel := { c with boot := { c.boot with pendingMode := some (req, t) } }

/-- A request for HOLD, COMMISSION or OPERATE; the last two are refused in HOLD (02 R52). -/
def modeRequest (req : Nat) (p : Path) : Channel → Channel :=
  modeGate p (fun c =>
    if req != 1 && c.boot.mode == .hold then refuse 0x0105 0x2000 3 p c
    else accept p (.mode req (p1After 1000000 c)) (pendMode req (p1After 1000000 c) c))
def execModeRequestHold (p : Path) (s : State) : Host.Outcome State Fault Refusal := onPath p (.modeRequestHold p) (modeRequest 1 p) s
def execModeRequestCommission (p : Path) (s : State) : Host.Outcome State Fault Refusal := onPath p (.modeRequestCommission p) (modeRequest 2 p) s
def execModeRequestOperate (p : Path) (s : State) : Host.Outcome State Fault Refusal := onPath p (.modeRequestOperate p) (modeRequest 3 p) s

/-- Is the twin a converged STANDBY channel (02 R52)? -/
def twinReady (twin c : Channel) : Bool := c.seam.presence == 2 && twin.boot.mode == .standby && twin.seam.stage == 5

/-- MODE_REQUEST_RESTART (02 R52 to R54; 11 R352): of the receiving channel alone; during a takeover it waits for the takeover's
end, and is then held against the mode that stands. -/
def modeRestart (p : Path) (twin : Channel) : Channel → Channel :=
  modeGate p (fun c =>
    if c.seam.takeover.isSome then pendMode 4 (nowNs c) (acceptOwn p c)
    else if c.boot.mode == .active && !twinReady twin c then refuse 0x0105 0x2000 3 p c
    else restartBoot 3 0 (retainFlushEvery (acceptOwn p c)))
def execModeRequestRestart (p : Path) (s : State) : Host.Outcome State Fault Refusal :=
  onPath p (.modeRequestRestart p) (modeRestart p (chanOf s (pathChan s p).twin)) s

/-- FORCE_RESTART: ACTIVE alone lists it (02 R52); during a takeover it waits for the takeover's end (R54). -/
def forceRestartC (p : Path) : Channel → Channel :=
  modeGate p (fun c => if c.seam.takeover.isSome then pendMode 0x84 (nowNs c) (acceptOwn p c)
    else if c.boot.mode == .active then restartBoot 3 0 (acceptOwn p c) else acceptOwn p c)
def execForceRestart (p : Path) (s : State) : Host.Outcome State Fault Refusal := onPath p (.forceRestart p) (forceRestartC p) s

/-- HOLD is entered on request: publication stops, sleeves are removed (02 R52; 11 R352). -/
def toHold (c : Channel) : Channel := enterHold 0x0A (dropControl (unloadImage (retainFlushEvery c)))

/-- COMMISSION is entered from STANDBY or ACTIVE: test marking begins, the lead channel's Cuff is open (02 R46, R52). -/
def toCommission (c : Channel) : Channel :=
  let c1 := enterMode .commission { c with slots := { c.slots with intentOperate := false } }
  if c1.seam.holdCtl && !c1.pub.cuff then openCuff c1 else c1

/-- STANDBY is entered from COMMISSION: test marking ends (02 R52, R59). A channel that holds control goes on to ACTIVE once
its warm-up window is over; the other one resynchronises unless it is converged. -/
def toStandby (c : Channel) : Channel :=
  let c1 := enterMode .standby { c with slots := { c.slots with intentOperate := true }, pub := { c.pub with cuff := false } }
  if c1.seam.holdCtl then (if c1.boot.graphsRun && !c1.boot.windowOpen then enterActive c1 else c1)
  else if c1.seam.stage = 5 then c1 else startResync 1 c1

/-- A pending request against the mode that stands (02 R52, R54). A channel that a clock fault struck in HOLD does not return to STANDBY
before it restarts (01 R34). -/
def applyMode (req : Nat) (twin c : Channel) : Channel :=
  match req, c.boot.mode with
  | 1, .commission => toHold c
  | 2, .standby => toCommission c
  | 2, .active => toCommission c
  | 3, .commission => if c.boot.clockFault then c else toStandby c
  | 4, .active => if twinReady twin c then restartBoot 3 0 (retainFlushEvery c) else c
  | 4, .hold => restartBoot 3 0 (retainFlushEvery c)
  | 4, .commission => restartBoot 3 0 (retainFlushEvery c)
  | 4, .standby => restartBoot 3 0 (retainFlushEvery c)
  | 0x84, .active => restartBoot 3 0 c
  | 5, _ => restartBoot 5 0 c
  | _, _ => c

/-- MODE_SWITCH_BOUNDARY (02 R53, R54, R70): after H where a takeover is in progress. -/
def modeSwitch (twin c : Channel) : Channel :=
  match c.boot.pendingMode, c.seam.takeover with
  | some (req, t), none => applyMode req twin (advanceTo t { c with boot := { c.boot with pendingMode := none } })
  | _, _ => c
def execModeSwitchBoundary (ch : Chan) (s : State) : Host.Outcome State Fault Refusal :=
  match onChanTwin ch modeSwitch s with
  | .next t => .next (noteServing t)
  | o => o

/-! ### Slots (02 R66 to R70; 21 R632) -/

/-- What an activation comes to: nothing under the hold-up check, a HOLD reason, or the channel reloaded. -/
inductive Activated where
  | refused (c : Channel)
  | failed (reason : Nat) (c : Channel)
  | loaded (c : Channel)

/-- Activates a slot: every check of R63, then the pointer under the hold-up check, then the reload (02 R66, R68). `intent`
is the start intent that goes with it. -/
def activateSlot (n : Nat) (intent : Bool) (c : Channel) : Activated :=
  let v := validateSlot n c
  match v.1.2 with
  | none => .failed v.1.1 v.2
  | some m =>
    match loadImage m v.2 with
    | .error e => .failed 8 (placerRefused e v.2)
    | .ok _ =>
      match commitCheck 0 0xFF energyKey v.2 with
      | (false, k) => .refused k
      | (true, k) =>
        match loadImage m k with
        | .error _ => .failed 8 k
        | .ok l =>
          .loaded (journalAdd 2 1 0xFF [] { l with
            slots := { l.slots with committed := n, intentOperate := intent }
            boot := { l.boot with holdReason := 0, graphStartAt := p1After 1 l } })

/-- A refused activation in HOLD or COMMISSION: HOLD with the reason found; nothing of the slot runs (02 R52, R66). -/
def activationHold (reason : Nat) (c : Channel) : Channel := enterHold reason (dropControl (unloadImage (journalAdd 2 reason 0xFF [] c)))

/-- After a reload in COMMISSION the channel that holds control keeps it, its Cuff open for test-marked frames. -/
def activationLoaded (c : Channel) : Channel := enterMode .commission { c with pub := { c.pub with cuff := c.seam.holdCtl } }

/-- An activation by the host, its write accepted (02 R52, R66). -/
def activateNow (n : Nat) (c : Channel) : Channel :=
  match activateSlot n false c with
  | .refused k => journalAdd 2 0 0xFF [] k
  | .failed r k => activationHold r k
  | .loaded k => activationLoaded k

/-- ACTIVATE_CONFIGURATION_SLOT (02 R66, R67): the staging slot's number; a refusal under the hold-up check is reported. -/
def activateC (p : Path) (n : Nat) : Channel → Channel :=
  writeGate p [2, 3] 0x2000 8 (fun c =>
    if 1 < n ∨ n = c.slots.committed then refuse 0x0105 0x2000 8 p c
    else
      let c0 := { c with boot := { c.boot with lastSlotWritten := n } }
      match activateSlot n false c0 with
      | .refused k => refuse 0x010C 0x2000 8 p (journalAdd 2 0 0xFF [] k)
      | .failed r k => activationHold r (accept p (.activate n) k)
      | .loaded k => activationLoaded (accept p (.activate n) k))
def execActivateConfigurationSlot (p : Path) (n : Nat) (s : State) : Host.Outcome State Fault Refusal :=
  onPath p (.activateConfigurationSlot p n) (activateC p n) s

/-- A firmware commit on one channel: pointer, episode, and the restart at the switch boundary (02 R70; 20 R601). -/
def commitFirmware (n t : Nat) (c : Channel) : Channel :=
  let e (x : Nat × Nat) : List Byte := leBytes 2 x.1 ++ leBytes 2 x.2
  pendMode 5 t (episode 0x17 (e (edition c) ++ e (fwEdition c n)) { c with slots := { c.slots with committedFw := n } })

/-- May the twin take part in a commit of slot `n`: runtime up, in HOLD or COMMISSION, no mode request being applied, its slot VALID and
of the same edition, its own hold-up check passed (02 R70; 00 R10; 21 R632; log entry 46)? -/
def twinCommitOk (n : Nat) (c twin : Channel) : Bool :=
  runtimeUp twin && twin.boot.pendingMode.isNone && decide ((fwSlot twin n).status = 1) && fwEdition twin n == fwEdition c n

/-- The commit on the twin, for which the twin's hold-up check passed before the lead channel accepted it (log entry 46). -/
def commitFirmwareTwin (n t : Nat) (c : Channel) : Channel := commitFirmware n t (commitCheck 0 0xFF energyKey c).2

/-- COMMIT_FIRMWARE_SLOT (02 R70; 21 R632): PF0 alone, both channels in HOLD or COMMISSION, the slot VALID on both with one edition; the
hold-up check passes on both, or the commit is refused on both. -/
def commitFirmwareC (p : Path) (n : Nat) (twin : Channel) : Channel → Channel :=
  pf0Gate p [2, 3] 0x2000 0x17 (decide (n ≤ 1)) (fun c =>
    if c.boot.pendingMode.isSome || twin.boot.pendingMode.isSome then refuse 0x0107 0x2000 0x17 p c
    else if !modeIn [2, 3] twin || c.seam.presence != 2 then refuse 0x0104 0x2000 0x17 p c
    else if n = c.slots.committedFw ∨ (fwSlot c n).status ≠ 1 ∨ !twinCommitOk n c twin then refuse 0x0105 0x2000 0x17 p c
    else
      match commitCheck 0 0xFF energyKey c with
      | (false, k) => refuse 0x010C 0x2000 0x17 p k
      | (true, k) =>
        if holdupOk twin.psu 0 energyKey then let t := p1After 1000000 k; acceptOwn p (commitFirmware n t k)
        else refuse 0x010C 0x2000 0x17 p k)

/-- What an accepted commit does on the twin in the same moment: the pointer moves on both channels or on neither (00 R10; log entry
46). -/
def commitBoth (n : Nat) (ch : Chan) (before t : State) : State :=
  if (chanOf before ch).slots.committedFw ≠ (chanOf t ch).slots.committedFw then
    match (chanOf t ch).boot.pendingMode with
    | some (_, at_) => withChan t ch.twin (commitFirmwareTwin n at_ (commitsEnded (chanOf t ch.twin)))
    | none => t
  else t
def execCommitFirmwareSlot (p : Path) (n : Nat) (s : State) : Host.Outcome State Fault Refusal :=
  match onPath p (.commitFirmwareSlot p n) (commitFirmwareC p n (chanOf s (pathChan s p).twin)) s with
  | .next t => .next (commitBoth n (pathChan s p) s t)
  | o => o

end Sys2Proof.Machine
end

