-- ==== Sys2Proof/Machine/Running.lean ====
section
/-! DEFINITION. The running configuration as an image: what a create package, an on-line change and a move are checked
against (08 R263; 11 R358; 16 R491). -/
namespace Sys2Proof.Machine

/-- A stream's record with the settings in effect. -/
def streamCfg (x : Stream) : StreamRec := { x.cfg with allowUs := x.allowUs, loss := x.loss, ret := x.ret }

/-- What the channel runs. The switch and the time section are the committed image's (16 R491). -/
def imageNow (c : Channel) : Image :=
  let base := parseImage false (committedSlot c).bytes
  { switch := base.bind (fun m => m.switch), sleeves := c.sleeves.map (fun x => x.2.cfg), sleeveRaw := [],
    streams := c.ingest.streams.map (fun x => streamCfg x.2), paths := c.paths.map (fun x => x.2.cfg),
    graphs := c.graphs.map (fun x => (x.1, x.2.cfg)), graphRaw := [],
    gpubs := c.pub.gpubs.map (fun x => x.2.cfg), spubs := c.pub.spubs.map (fun x => x.2.cfg),
    lse := c.lse.map (fun x => (x.1, x.2.prog)), lseRaw := [], keys := [], subs := c.pub.subs.map (fun x => x.2.cfg),
    can := ⟨c.can.map (fun x => (x.1, x.2.cfg)), c.can.flatMap (fun x => x.2.bufs.map (fun b => b.2.cfg))⟩,
    pleat := c.pleat.defs.map (fun x => x.2.cfg), time := base.bind (fun m => m.time), dict := [], revision := 0 }

/-- The bindings in effect. -/
def boundNow (c : Channel) : List (Nat × Nat × Nat) :=
  c.graphs.flatMap (fun g => g.2.insts.map (fun x => (g.1, x.1, x.2.tile)))

/-- The instances in effect as the Placer charges them. -/
def instsNow (c : Channel) (m : Image) : List PlInst :=
  chargeBanks m c.disp.items ((allPlInsts m).map (fun x => match (boundNow c).find? (fun b => b.1 == x.s && b.2.1 == x.i) with
    | some b => { x with tile := b.2.2 }
    | none => x))

/-- The placement in effect, reported anew (08 R259). -/
def reportPlacement (c : Channel) : Channel :=
  let m := imageNow c
  let l := instsNow c m
  notePlacement m ⟨l, c.disp.items, plEdges m l⟩ c

end Sys2Proof.Machine
end

