-- ==== Sys2Proof/Machine/Tiles.lean ====
section
/-! DEFINITION. Tile faults (08 R269 to R273): the spare that takes a failed tile's bindings, and what that makes of moves. -/
namespace Sys2Proof.Machine

/-- The instances of a failed tile restart on a spare (08 R272). -/
def rebind (old new : Nat) (c : Channel) : Channel :=
  { c with graphs := kMapVals c.graphs (fun _ g => { g with insts := kMapVals g.insts (fun i x =>
      if x.tile = old then
        match g.cfg.insts[i]? with
        | some r =>
          let y := instInit r x
          { y with tile := new, breakPend := true, fs := if y.fs = .running ∨ y.fs = .preempted then .ready else y.fs }
        | none => x
      else x) }) }

/-- The tile an instance is bound to. -/
def tileOf (c : Channel) (s i : Nat) : Nat := match (kGet c.graphs s).bind (fun g => kGet g.insts i) with | some x => x.tile | none => noTile

/-- The moves the Placer has still to make once a tile has failed and the spare `k` stands in for it (R269): one whose target failed is
planned again, to the spare; one whose source failed only where it makes room for a sleeve. -/
def replan (n k : Nat) (gone : List Move) (c : Channel) : Channel :=
  let dest (x : Nat) : Nat := if x = n then k else x
  let again := (gone.filter (fun m => m.target == n || m.plan)).map (fun m => (m.sleeve, m.inst, dest m.target))
  { c with disp := { c.disp with planned := again ++ c.disp.planned.map (fun m => (m.1, m.2.1, dest m.2.2)) } }

/-- A tile fault (08 R270 to R273) with its cause code of 20 R601: the tile fails, E31; a spare takes its bindings as an
in-place fault, with a report of its own (R259), or with none left the fault is restart-class. -/
def tileFault (n cause : Nat) (c : Channel) : Channel :=
  match kGet c.disp.tiles n with
  | none => c
  | some t =>
    if t.role == .failed then c
    else
      let c1 := putTile n ⟨.failed, []⟩ (raise 31 0xFF n cause (episode 0x14 [BitVec.ofNat 8 n, BitVec.ofNat 8 cause] (bump 0x2500 0x2E c)))
      match firstSpare c1 with
      | none => channelFault 6 c1
      | some k =>
        let hit (m : Move) : Bool := m.target == n || tileOf c1 m.sleeve m.inst == n
        let c2 := abandonMoves hit (channelFault 5 { c1 with disp := { c1.disp with tileFaultAt := some c1.time.up } })
        reportPlacement (readyUpdate (replan n k (c1.disp.moves.filter hit) (rebind n k (putTile k ⟨.placeable, []⟩ c2))))

/-- FIRING_NO_COMPLETION: twice the deadline has passed since release, a deadline miss; or, where `misaligned` says so, the firing made a
misaligned atomic operation and stops at it (07 R224; 08 R270). -/
def firingNoCompletionC (s i : Nat) (misaligned : Bool) (c : Channel) : Channel :=
  match kGet c.graphs s with
  | none => c
  | some g =>
    match instOf g i with
    | none => c
    | some (r, x) =>
      if x.fs = .running ∨ x.fs = .preempted then
        if misaligned then tileFault x.tile 1 c
        else
        let late := x.release + 2 * deadlineNs r.cls
        tileFault x.tile 3 (missCount s r (advanceTo (nowNs c + (late - c.time.up)) c))
      else c

end Sys2Proof.Machine
end

