-- ==== Sys2Proof/Machine/Moves.lean ====
section
/-! DEFINITION. Live re-placement, tile self-test, memory scrubbing and bank retention (01 R40 to R43; 07 R225 to R228; 08 R263
to R273; 22 R641). -/
namespace Sys2Proof.Machine

/-! ### Fences (06 R197 to R201) -/

/-- Does a fence match an instance's firing that waits in the ready list? -/
def fenceHits (f : Fence) (s i : Nat) (x : InstRt) : Bool :=
  x.fs == .ready && s == f.sleeve && (f.freeze || i == f.inst) && decide (f.instant ≤ x.instant)

/-- Would a READY entry be selected for its tile now (06 R194)? -/
def wouldRun (c : Channel) (s i n : Nat) : Bool :=
  match kGet c.disp.tiles n, readyOn c n with
  | some t, some e => e.1 == s && e.2.1 == i && t.role != .failed && (match topLevel c t with | none => true | some k => decide (levelOf e.2.2.1 < k.1))
  | _, _ => false

/-- Arms a fence (06 R197 to R200): READY entries it matches are removed, each a fence cancel; one released in this cycle, or that would have
been selected in it, is a race too. -/
def armFence (f : Fence) (c0 : Channel) : Channel :=
  let hit := instsIn c0 (fun _ x => x.fs == .ready) |>.filter (fun x => fenceHits f x.1 x.2.1 x.2.2.2)
  let c := c0
  hit.foldl (fun c x =>
    let c1 := bump 0x2500 0x14 (modInst x.1 x.2.1 (fun y => { y with fs := .fenced, fencedBy := if f.freeze then 1 else 2 }) c)
    if x.2.2.2.release = c.time.up ∨ wouldRun c0 x.1 x.2.1 x.2.2.2.tile then bump 0x2500 0x15 c1 else c1)
    { c with disp := { c.disp with fences := c.disp.fences ++ [f] } }

/-! ### Moves (08 R264 to R269) -/

/-- The instances with those in flight counted on both tiles (R266). -/
def withFlights (c : Channel) (m : Image) (l : List PlInst) : List PlInst :=
  chargeBanks m c.disp.items (l ++ c.disp.moves.filterMap (fun v => (plFind l v.sleeve v.inst).map (fun x => { x with tile := v.target })))

/-- t_fin of an instance, in the Placer's units: 0.10 µs and 2 ns for each word of its state (R265; 09 R278). -/
def finTransfer (x : PlInst) : Nat := 9000 + 180 * opStateWords x.r

/-- The transition check of a move among the instances `l` (R264, R266): with the instance charged on both tiles, every tile passes R242, R246
and R248, and its final transfer and its bound on the target end within its deadline. R249 does not depend on tiles. -/
def transitOk (c : Channel) (m : Image) (items : List PlItem) (l : List PlInst) (x : PlInst) (target : Nat) : Bool :=
  let both := chargeBanks m items (l ++ [{ x with tile := target }])
  (placeableTiles c).contains target && target != x.tile && (firstTileBreak both (placeableTiles c)).isNone &&
    (match both.getLast? with | some y => decide (finTransfer y + boundW (onTile both target) y ≤ y.d) | none => false)

/-- Does a move lower the highest tile load, which is its source's, by 5 points (R264)? -/
def lowersTop (c : Channel) (m : Image) (l : List PlInst) (x : PlInst) (target : Nat) : Bool :=
  let top := tileU (onTile l x.tile)
  let l1 := chargeBanks m c.disp.items (l.filter (fun z => !samePl z x) ++ [{ x with tile := target }])
  (placeableTiles c).all (fun k => decide (tileU (onTile l k) ≤ top) && decide (tileU (onTile l1 k) + perUnit / 20 ≤ top))

/-- May the Placer move an instance to a tile: the next move it has planned, or, after a deletion and with nothing planned or waiting, one
that lowers the highest load? -/
def moveOk (c : Channel) (x : PlInst) (target : Nat) : Bool :=
  let m := imageNow c
  let l := withFlights c m (instsNow c m)
  transitOk c m c.disp.items l x target &&
    (match c.disp.planned with
      | p :: _ => p == (x.s, x.i, target)
      | [] => c.disp.queued.isEmpty && c.disp.movesLeft != 0 && lowersTop c m l x target)

/-- An order in which moves pass the transition check one after the other, or the refusal TRANSITION (R253). -/
def orderMoves (c : Channel) (m : Image) (items : List PlItem) : Nat → List PlInst → List (PlInst × Nat) → Except PlRef (List (Nat × Nat × Nat))
  | _, _, [] => .ok []
  | 0, _, t :: _ => .error ⟨9, t.1.s, t.1.r.ident.toNat, t.2, 0, 0⟩
  | n + 1, l, t :: r =>
    match (t :: r).find? (fun u => transitOk c m items l u.1 u.2) with
    | none => .error ⟨9, t.1.s, t.1.r.ident.toNat, t.2, toNs (finTransfer t.1 + boundW (onTile l t.2 ++ [t.1]) t.1), toNs t.1.d⟩
    | some u =>
      let l1 := chargeBanks m items (l.map (fun z => if samePl z u.1 then { z with tile := u.2 } else z))
      match orderMoves c m items n l1 ((t :: r).filter (fun v => !samePl v.1 u.1)) with
      | .ok k => .ok ((u.1.s, u.1.i, u.2) :: k)
      | .error e => .error e

/-- Places a new sleeve beside what runs (R264): with nothing moved; where that fails, with every instance placed anew, and the moves that lead
there in an order that passes. Which moves are tried is the model's choice (log entry 49). -/
def placeBeside (c : Channel) (all : Image) : Except PlRef (Placement × List (Nat × Nat × Nat)) :=
  match placeImage c all (boundNow c) c.disp.items with
  | .ok p => .ok (p, [])
  | .error e =>
    match placeImage c all [] c.disp.items with
    | .error _ => .error e
    | .ok p =>
      let old (x : PlInst) : Option PlInst := ((boundNow c).find? (fun b => b.1 == x.s && b.2.1 == x.i)).map (fun b => { x with tile := b.2.2 })
      let now := chargeBanks all p.items (p.insts.filterMap old)
      let todo := now.filterMap (fun x => (plFind p.insts x.s x.i).bind (fun y => if y.tile = x.tile then none else some (x, y.tile)))
      match orderMoves c all p.items todo.length now todo with
      | .error t => .error t
      | .ok ms => .ok ({ p with insts := chargeBanks all p.items (p.insts.map (fun x => (old x).getD x)) }, ms)

/-- The switch boundary: the next of the class at least 2 µs away; P1 and EVENT take a P1 boundary (R265, step 4). -/
def switchBoundary (cls : Nat) (c : Channel) : Nat :=
  let t := nowNs c + 2000
  if cls < 4 then let f := nth boundaryRates cls 1000; instantOf f (numberAt f (t - 1) + 1) else (t + 999999) / 1000000 * 1000000

/-- MOVE_BEGIN (R264 to R267): steps 1 to 5. The copies run at level 6 (06 R190). -/
def moveBeginC (s i tile : Nat) (c : Channel) : Channel :=
  match plFind (instsNow c (imageNow c)) s i with
  | none => c
  | some x =>
    if !c.boot.graphsRun || decide (8 ≤ c.disp.moves.length) || !entryFree c 6 ||
        c.disp.moves.any (fun m => m.sleeve == s && m.inst == i) || !moveOk c x tile then c
    else
      let t := switchBoundary x.r.cls c
      let plan := !c.disp.planned.isEmpty
      armFence ⟨false, s, i, t, c.time.up⟩ (tileWork 6 { c with disp := { c.disp with
        moves := c.disp.moves ++ [⟨s, i, tile, t, false, plan⟩], planned := c.disp.planned.drop 1,
        movesLeft := if plan then c.disp.movesLeft else c.disp.movesLeft - 1 } })
def execMoveBegin (ch : Chan) (n i tile : Nat) (s : State) : Host.Outcome State Fault Refusal := onChan ch (moveBeginC n i tile) s

/-- The last instant before `t` at which an instance of a class can fire. -/
def instantBefore (c : Channel) (g : GraphRt) (i : Nat) (r : InstRec) (t : Nat) : Nat :=
  if r.cls < 4 then let f := max (rateOfInst c g i) 1; instantOf f (numberAt f (t - 1)) else if r.cls = 4 then t - 1000000 else t - 1

/-- Has every token that a waiting instance's triggers can carry for an instant before `t` been written: their horizons have passed the last
such instant, or the arrival jitter of the instance has passed since `t` (05 R160; 08 R245)? -/
def triggersPast (c : Channel) (g : GraphRt) (s i : Nat) (r : InstRec) (t : Nat) : Bool :=
  ((edgesInto g i).filter (fun e => edgeTrigger r e.2)).all (fun e => decide (instantBefore c g i r t ≤ horizonOf c g 17 e.2)) ||
    (match plFind (allPlInsts (imageNow c)) s i with | some x => decide (t + toNs x.j ≤ nowNs c) | none => true)

/-- Has every firing of an instance before an instant completed (R265, step 6; 06 R201)? -/
def firedUpTo (c : Channel) (s i t : Nat) : Bool :=
  match kGet c.graphs s with
  | none => true
  | some g =>
    match instOf g i with
    | none => true
    | some (r, x) =>
      match x.fs with
      | .waiting => (match firingInstant c g i r x with | some k => decide (t ≤ k) | none => triggersPast c g s i r t)
      | .fenced => true
      | _ => decide (t ≤ x.instant)

def setMoves (l : List Move) (c : Channel) : Channel := { c with disp := { c.disp with moves := l } }

/-- MOVE_FINAL_TRANSFER (R265, step 6): its time, at most t_fin, is a free value (log entry 2). -/
def moveFinalTransferC (s i : Nat) (c0 : Channel) : Channel :=
  match c0.disp.moves.find? (fun m => m.sleeve == s && m.inst == i && !m.transferred) with
  | none => c0
  | some m =>
    let c := advanceTo m.boundary c0
    if firedUpTo c s i m.boundary then
      let fin := match plFind (allPlInsts (imageNow c)) s i with | some x => toNs (finTransfer x) | none => 0
      let d := draw c
      highWater 0x2500 0x30 (d.1.toNat % (fin + 1))
        (setMoves (c.disp.moves.map (fun y => if y = m then { y with transferred := true } else y)) d.2)
    else c
def execMoveFinalTransfer (ch : Chan) (n i : Nat) (s : State) : Host.Outcome State Fault Refusal := onChan ch (moveFinalTransferC n i) s

/-- MOVE_BINDING_SWITCH (R265, step 7): with no move left to make, the re-placement is complete and reported (R259). -/
def moveBindingSwitchC (s i : Nat) (c : Channel) : Channel :=
  match c.disp.moves.find? (fun m => m.sleeve == s && m.inst == i && m.transferred) with
  | none => c
  | some m =>
    let c1 := modInst s i (fun y => { y with tile := m.target }) (setMoves (c.disp.moves.erase m) c)
    let c2 := disarmMove s i (bump 0x2500 0x25 c1)
    if c2.disp.planned.isEmpty then reportPlacement c2 else c2

/-! ### Tile self-test (22 R641; 08 R243, R270) -/

/-- TILE_SELFTEST_PASS: a pass is work of level 6 (06 R190); a failure is a tile fault. -/
def tileSelftestPassC (n : Nat) (ok : Bool) (c : Channel) : Channel :=
  match kGet c.disp.tiles n with
  | none => c
  | some t =>
    if !runtimeUp c || c.boot.mode == .boot || t.role == .failed || !entryFree c 6 then c
    else
      let c1 := if graphMode c.boot.mode then tileWork 6 c else c
      if ok then testPass c1 else tileFault n 2 (testFail 0 n c1)

/-! ### Bank retention (07 R225 to R227; 08 R258) -/

/-- A bank wakes: its stall, within 4 µs of the first request, is a free value (R226; log entry 2). The requests that wait for it are
served in the order of R218; it is active from then on. -/
def bankWake (b : Nat) (c : Channel) : Channel :=
  let x := bankGet c b
  let d := draw c
  let first := match bankNext x with | some t => min (nsOf t) c.time.up | none => c.time.up
  let c1 := upTo (first + d.1.toNat % 4001) d.2
  let t := cycleOf c1.time.up
  highWater 0x3000 3 (d.1.toNat % 4001) (bump 0x3000 2
    (bankServe (t + 2 * x.reqs.length) b (bankPut b { x with retained := false, waking := false, lastGrant := c1.time.up, free := t } c1)))

/-- BANK_WAKE_COMPLETE: a retained bank's wake ends (R226). -/
def bankWakeCompleteC (b : Nat) (c : Channel) : Channel :=
  if 64 ≤ b ∨ (bankGet c b).retained = false then c else bankWake b c
def execBankWakeComplete (ch : Chan) (b : Nat) (s : State) : Host.Outcome State Fault Refusal := onChan ch (bankWakeCompleteC b) s

/-- BANK_RETENTION_ENTRY: an empty bank, retention enabled, that has granted nothing for 1 µs (R227; 08 R258). A request that arrives
while the bank enters aborts the entry, and is served by a wake. -/
def bankRetentionEntryC (b : Nat) (c0 : Channel) : Channel :=
  let c := bankServe (cycleOf c0.time.up) b c0
  let x := bankGet c b
  if decide (64 ≤ b) || !c.boot.graphsRun || !c.disp.retention || x.failed || x.retained || c.disp.items.any (fun y => bankOf y.addr == b) then c
  else if x.reqs.isEmpty then bankPut b { x with retained := true } (upTo (x.lastGrant + 1000) c)
  else bankWake b c
def execBankRetentionEntry (ch : Chan) (b : Nat) (s : State) : Host.Outcome State Fault Refusal := onChan ch (bankRetentionEntryC b) s

/-- A scrub pass over the commons wakes one retained bank at a time; the bank then returns to retention (R228). -/
def scrubWakes (c : Channel) : Channel :=
  (c.disp.banks.filter (fun b => b.2.retained)).foldl (fun c b =>
    let c1 := bankWake b.1 c
    bankPut b.1 { bankGet c1 b.1 with retained := true } c1) c

end Sys2Proof.Machine
end

