-- ==== Sys2Proof/Machine/Sleeves.lean ====
section
/-! DEFINITION. The lifecycle of a sleeve (16 R487 to R503) and the on-line change of its LSE program (11 R358). -/
namespace Sys2Proof.Machine

def putSleeve (n : Nat) (x : Sleeve) (c : Channel) : Channel := { c with sleeves := kPut c.sleeves n x }

/-! ### On-line change (11 R358) -/

/-- Do the graph-port entries of a changed program, as sample readers, keep the minimum sample lags, and the rings as they stand the required
depths (11 R340; 08 R250, R251)? A program that does not is refused as a change that the placement does not carry (log entry 50). -/
def changeFits (m : Image) (n : Nat) (c : Channel) : Bool :=
  let l := instsNow c m
  (lagBreak ((plEdges m l).filter (fun e => e.sleeve == n && decide (0x80000000 ≤ e.num)))).isNone &&
    (depthBreak ((commonsList m l).map (fun x => x.2)) (c.disp.items.filter (fun x => x.kind == 2 && x.sleeve == n))).isNone

/-- The program of a sleeve's staged image in the running configuration, where it passes every check of R365; the result is
reported in OD 2700:03 to 2700:05. -/
def changeChecked (n : Nat) (L : Lse) (c : Channel) : Option LseProg × Channel :=
  let p := parseLse L.staged
  let m := imageNow c
  let m1 := { m with lse := m.lse.map (fun x => if x.1 = n then (n, p) else x), lseRaw := [(n, L.staged)] }
  match lseCheck m1 n L.staged p with
  | some f => (none, noteLse (some (f.1, n, f.2)) c)
  | none =>
    if lseChangeOk L.prog p && changeFits m1 n c then (some p, noteLse none c) else (none, noteLse (some (0x0A, n, 0)) c)

/-- The swap boundary: the first of the sleeve at least 2 ms away. -/
def swapBoundary (L : Lse) (c : Channel) : Nat := cycleCeil L (nowNs c + 2000000)

/-- APPLY_ONLINE_CHANGE: OD 2700:0F, on the lead channel alone. -/
def applyOnlineChangeC (p : Path) (n : Nat) (lead : Bool) : Channel → Channel :=
  writeGate p [3, 4, 5] 0x2700 0x0F (fun c =>
    if !lead then refuse 0x0109 0x2700 0x0F p c
    else if 64 ≤ n then refuse 0x0105 0x2700 0x0F p c
    else match kGet c.lse n with
      | none => refuse 0x0108 0x2700 0x0F p c
      | some L =>
        if L.swap.isSome then refuse 0x0107 0x2700 0x0F p c
        else match changeChecked n L c with
          | (none, c1) => acceptOwn p c1
          | (some g, c1) =>
            let t := swapBoundary L c1
            accept p (.swapLse n L.staged t) (putLse n { L with swap := some (g, t) } c1))
def execApplyOnlineChange (p : Path) (n : Nat) (s : State) : Host.Outcome State Fault Refusal :=
  onPath p (.applyOnlineChange p n) (applyOnlineChangeC p n (pathChan s p == leadChan s)) s

/-! ### The lifecycle request (16 R488, R489) -/

/-- The result entries (16 R507). -/
def lifeResult (code n : Nat) (c : Channel) : Channel := setRo 0x2B00 8 code (setRoFF 0x2B00 9 n c)

/-- A refused request: its result, and the abort for any other refusal. -/
def lifeRefuse (code : Nat) (p : Path) (n : Nat) (c : Channel) : Channel := refuse 0x010E 0x2B00 4 p (lifeResult code n c)

/-- PF0 alone, in COMMISSION, STANDBY and ACTIVE; no request of the sleeve still waits. -/
def lifeGate (p : Path) (n : Nat) (k : Channel → Channel) : Channel → Channel :=
  pf0Gate p [3, 4, 5] 0x2B00 4 (decide (n < 64)) (fun c =>
    match kGet c.sleeves n with
      | some s => if s.req.isSome || s.saving then (if s.saving && s.req.isNone then k c else refuse 0x0107 0x2B00 4 p c) else k c
      | none => if c.disp.queued.any (fun q => q.sleeve == n && q.action != 2) then refuse 0x0107 0x2B00 4 p c else k c)

/-- The first P1 boundary at least 1 ms away that is a cycle boundary of the sleeve's LSE (16 R488). -/
def lifeBoundary (n : Nat) (c : Channel) : Nat :=
  let step := match kGet c.lse n with | some L => Nat.lcm 1000000 (max (tcNs L) 1) | none => 1000000
  (nowNs c + 1000000 + step - 1) / step * step

/-- The request as it waits for its boundary. -/
def setReq (n : Nat) (r : LifeReq) (c : Channel) : Channel :=
  { c with sleeves := kMod c.sleeves n (fun s => { s with req := some r }) }

/-- An accepted lifecycle request: answered, counted, and mirrored as a lifecycle record (12 R371). -/
def acceptLife (p : Path) (n action arg t : Nat) (c : Channel) : Channel := post (.lifecycle n action arg t) (lifeResult 0 n (acceptOwn p c))

/-- A request that a state of R489 admits takes effect at its boundary. -/
def lifeSchedule (p : Path) (n action arg : Nat) (ok : Channel → Sleeve → Bool) (at_ : Sleeve → Channel → Nat) : Channel → Channel :=
  lifeGate p n (fun c =>
    match kGet c.sleeves n with
    | none => lifeRefuse 1 p n c
    | some s => if ok c s then let t := at_ s c; setReq n ⟨action, arg, t⟩ (acceptLife p n action arg t c) else lifeRefuse 1 p n c)

def atBoundary (n : Nat) (_ : Sleeve) (c : Channel) : Nat := lifeBoundary n c

/-- SLEEVE_DELETE: in STANDBY and ACTIVE only with behaviour off or FROZEN; while a save is built its boundary is set after (16
R489, R496). -/
def deleteOk (c : Channel) (s : Sleeve) : Bool :=
  (s.st == .running || s.st == .frozen) && (c.boot.mode == .commission || s.beh == 5 || s.st == .frozen)
def sleeveDeleteC (p : Path) (n : Nat) : Channel → Channel :=
  lifeSchedule p n 2 0 deleteOk (fun s c => if s.saving then 0 else lifeBoundary n c)
def execSleeveDelete (p : Path) (n : Nat) (s : State) : Host.Outcome State Fault Refusal := onPath p (.sleeveDelete p n) (sleeveDeleteC p n) s

def sleeveFreezeC (p : Path) (n : Nat) : Channel → Channel := lifeSchedule p n 3 0 (fun _ s => s.st == .running) (atBoundary n)
def execSleeveFreeze (p : Path) (n : Nat) (s : State) : Host.Outcome State Fault Refusal := onPath p (.sleeveFreeze p n) (sleeveFreezeC p n) s

def sleeveThawC (p : Path) (n : Nat) : Channel → Channel := lifeSchedule p n 4 0 (fun _ s => s.st == .frozen && !s.saving) (atBoundary n)
def execSleeveThaw (p : Path) (n : Nat) (s : State) : Host.Outcome State Fault Refusal := onPath p (.sleeveThaw p n) (sleeveThawC p n) s

/-- SLEEVE_BEHAVIOUR: a code of R501. -/
def sleeveBehaviourC (p : Path) (n beh : Nat) : Channel → Channel :=
  if inRange beh 1 5 then lifeSchedule p n 7 beh (fun _ _ => true) (atBoundary n)
  else lifeGate p n (refuse 0x0105 0x2B00 4 p)
def execSleeveBehaviour (p : Path) (n beh : Nat) (s : State) : Host.Outcome State Fault Refusal :=
  onPath p (.sleeveBehaviour p n beh) (sleeveBehaviourC p n beh) s

/-- SLEEVE_SAVE: the blob is built from the frozen sleeve, which does not change (16 R497). -/
def saveBegin (n : Nat) (c : Channel) : Channel := { c with sleeves := kMod c.sleeves n (fun s => { s with saving := true }) }
def sleeveSaveC (p : Path) (n : Nat) : Channel → Channel :=
  lifeGate p n (fun c =>
    match kGet c.sleeves n with
    | some s =>
      if s.st == .frozen && !s.saving then saveBegin n (acceptLife p n 5 0 0 c)
      else if s.saving then refuse 0x0107 0x2B00 4 p c else lifeRefuse 1 p n c
    | none => lifeRefuse 1 p n c)
def execSleeveSave (p : Path) (n : Nat) (s : State) : Host.Outcome State Fault Refusal := onPath p (.sleeveSave p n) (sleeveSaveC p n) s

/-! ### Admission of a package (16 R491) -/

/-- Do all records of a package belong to its sleeve (log entry 29)? -/
def packageOwn (n : Nat) (m : Image) : Bool :=
  (match m.sleeves with | [r] => r.num == n | _ => false) && m.graphs.all (fun g => g.1 == n) && m.lse.all (fun l => l.1 == n) &&
    decide (m.lse.length ≤ 1) && m.paths.all (fun x => x.owner == n) && m.gpubs.all (fun x => x.owner == n) && m.spubs.all (fun x => x.owner == n) &&
    m.subs.all (fun x => x.owner == n) && m.can.ports.isEmpty && m.can.bufs.all (fun x => x.owner == n) && m.pleat.all (fun x => x.owner == n) &&
    m.keys.all (fun r => u8 r 6 == n) && m.streams.all (fun x => takesStream m n x.num) &&
    m.dict.all (fun r =>
      let i := r.key / 256
      inRange i (0x4010 + n * 256) (0x40FF + n * 256) || m.streams.any (fun x => i == 0x8200 + x.num) || m.paths.any (fun x => i == 0x8400 + x.num) ||
        m.gpubs.any (fun x => i == 0x8C00 + x.num) || m.pleat.any (fun x => i == 0x9800 + x.num) ||
        ([0x2706, 0x2707, 0x2708].contains i && r.key % 256 == n + 1))

/-- Is every stream, path, publication, subscription, definition and buffer number of a package free? -/
def numbersFree (now m : Image) : Bool :=
  !m.streams.any (fun x => now.streams.any (fun y => y.num == x.num)) && !m.paths.any (fun x => now.paths.any (fun y => y.num == x.num)) &&
    !m.gpubs.any (fun x => now.gpubs.any (fun y => y.num == x.num)) && !m.spubs.any (fun x => now.spubs.any (fun y => y.num == x.num)) &&
    !m.subs.any (fun x => now.subs.any (fun y => y.num == x.num)) && !m.pleat.any (fun x => now.pleat.any (fun y => y.num == x.num)) &&
    !m.can.bufs.any (fun x => now.can.bufs.any (fun y => y.port == x.port && y.buf == x.buf))

/-- The running configuration with a package added. -/
def mergeImage (now m : Image) : Image :=
  { now with
    sleeves := now.sleeves ++ m.sleeves, sleeveRaw := m.sleeveRaw, streams := now.streams ++ m.streams, paths := now.paths ++ m.paths,
    graphs := now.graphs ++ m.graphs, graphRaw := m.graphRaw, gpubs := now.gpubs ++ m.gpubs, spubs := now.spubs ++ m.spubs,
    lse := now.lse ++ m.lse, lseRaw := m.lseRaw, keys := m.keys, subs := now.subs ++ m.subs,
    can := ⟨now.can.ports, now.can.bufs ++ m.can.bufs⟩, pleat := now.pleat ++ m.pleat, dict := m.dict }

/-- Instances, edges and source bindings in use. -/
def graphUse (m : Image) : Nat × Nat × Nat :=
  (sumOf (fun g => g.2.insts.length) m.graphs, sumOf (fun g => g.2.edges.length) m.graphs, sumOf (fun g => g.2.sources.length) m.graphs)

/-- The graph checks of a package, which holds exactly one graph image (05 R182; 16 R491). -/
def packageGraph (n : Nat) (now all m : Image) : Option GFail :=
  if m.graphRaw.isEmpty then some ⟨0x0B, n, 0, 0⟩
  else m.graphRaw.findSome? (fun x => graphCheck all (graphUse now) n x.2 (parseGraph x.2))

/-- Checks 3, 4 and 6 of R63 on a package, and its parse with its dictionary section's values. -/
def packageRead (n : Nat) (b : List Byte) (c : Channel) : Option Image :=
  if manifestReadable b && signatureOk c b && sectsIntact b && keysPass c b then
    match parseImage true b with
    | some m => if packageOwn n m then some { effImage m with can := m.can } else none
    | none => none
  else none

/-- Admits a package for sleeve `n`: the result code of a refusal, or the channel with the sleeve STARTING (16 R491; 08 R264). -/
def admitPackage (n : Nat) (b : List Byte) (c : Channel) : Except (Nat × Channel) Channel :=
  match packageRead n b c with
  | none => .error (2, c)
  | some m =>
    let now := imageNow c
    let all := mergeImage now m
    if !poolsOk all.sleeves then .error (3, c)
    else if !numbersFree now m then .error (4, c)
    else match packageGraph n now all m with
      | some e => .error (2, noteGraph (some e) c)
      | none =>
        match m.lseRaw.findSome? (fun x => (lseCheck all n x.2 (parseLse x.2)).map (fun f => (f.1, n, f.2))) with
        | some e => .error (2, noteLse (some e) (noteGraph none c))
        | none =>
          let c1 := noteLse none (noteGraph none c)
          if !(lseWantedOk all && sectionsOk c1 all) then .error (2, c1)
          else
            let c2 := loadRecords all m (loadDict false m c1)
            match placeBeside { c2 with graphs := c1.graphs } all with
            | .error e => .error (6, placerRefused e c1)
            | .ok p =>
              let c3 := if p.2.isEmpty then applyPlacement all p.1 c2
                else let y := bindPlacement p.1 c2; { y with disp := { y.disp with planned := p.2 } }
              .ok { loadKeys m.keys c3 with sleeves := kMod c2.sleeves n (fun s => { s with differs := true, pkg := b }) }

/-- The start boundary: the first P1 boundary at least 2 ms after admission (16 R491). -/
def startBoundary (c : Channel) : Nat := p1After 2000000 c

/-- The package or blob in OD 2B00:05. -/
def packageBytes (c : Channel) : List Byte := entryBytes c 0x2B00 5 []

/-- Has the Placer of a channel no move to make (08 R269)? `placersIdle` asks it of both channels. -/
def placerIdle (c : Channel) : Bool := c.disp.moves.isEmpty && c.disp.planned.isEmpty
def placersIdle (twin c : Channel) : Bool := placerIdle c && (c.seam.presence != 2 || placerIdle twin)

/-- An admission on the lead channel; the twin must admit the same (16 R491, R499). The request waits for the start boundary, or, where either
channel has moves to make first (08 R264), for their end. -/
def admitBoth (n action arg : Nat) (adm : Channel → Except (Nat × Channel) Channel) (twin c : Channel) : Except (Nat × Channel) Channel :=
  match adm c with
  | .error e => .error e
  | .ok c1 =>
    let go (wait : Bool) : Except (Nat × Channel) Channel :=
      if wait || !c1.disp.planned.isEmpty then .ok (post (.lifecycle n action arg 1) (setReq n ⟨action, arg, 0⟩ c1))
      else .ok (post (.lifecycle n action arg (startBoundary c1)) (setReq n ⟨action, arg, startBoundary c1⟩ c1))
    if c.seam.presence = 2 then
      match adm twin with
      | .error (k, _) => .error (k, c)
      | .ok t => go (!t.disp.planned.isEmpty)
    else go false

/-- What waits for the Placer's moves to end (08 R269). -/
def putQueued (q : PlWait) (c : Channel) : Channel := { c with disp := { c.disp with queued := c.disp.queued ++ [q] } }
def unqueue (n : Nat) (c : Channel) : Channel :=
  { c with disp := { c.disp with queued := c.disp.queued.filter (fun q => q.sleeve != n || q.action == 2) } }

/-- A create or restore request on the lead channel. While moves are in progress it is accepted and planned after them, its result then in OD
2B00:08 (08 R269; log entry 49). `adm` admits the package or blob in OD 2B00:05. -/
def lifeAdmit (p : Path) (n action arg : Nat) (adm : Channel → Except (Nat × Channel) Channel) (twin : Channel) : Channel → Channel :=
  lifeGate p n (fun c =>
    if kHas c.sleeves n then lifeRefuse 1 p n c
    else if placersIdle twin c then
      match admitBoth n action arg adm twin c with
      | .error (k, c1) => lifeRefuse k p n c1
      | .ok c1 => lifeResult 0 n (acceptOwn p c1)
    else post (.lifecycle n action arg 0) (putQueued ⟨action, n, arg, packageBytes c⟩ (acceptOwn p c)))

/-- Admission of the package held in OD 2B00:05. -/
def admitCreate (n : Nat) (c : Channel) : Except (Nat × Channel) Channel := admitPackage n (packageBytes c) c

/-- SLEEVE_CREATE. -/
def execSleeveCreate (p : Path) (n : Nat) (s : State) : Host.Outcome State Fault Refusal :=
  onPath p (.sleeveCreate p n) (lifeAdmit p n 1 0 (admitCreate n) (chanOf s (pathChan s p).twin)) s

/-! ### Save blobs (16 R497; 19 R588). The payload's layout is not given: its coding has no body (log entry 29) -/

opaque encodePayload : SavePayload → List Byte
opaque decodePayload : List Byte → Option SavePayload

def xorBytes (a b : List Byte) : List Byte := (a.zip b).map (fun x => x.1 ^^^ x.2)

/-- The wrapped content key for a target (19 R588): `ctx` is blob bytes 8 to 31. -/
def wrapFor (eph target key ctx : List Byte) : List Byte :=
  slice (publicOf eph) 1 48 ++ xorBytes key (derive (Config.ecdhShared eph target) "NRMIG" ctx 256)

/-- What a target recovers from its wrapped content key. -/
def unwrapAs (mig wrapped ctx : List Byte) : List Byte :=
  xorBytes (wrapped.drop 48) (derive (Config.ecdhShared mig (Config.pointEven (wrapped.take 48))) "NRMIG" ctx 256)

/-- The migration public keys of the targets: statements of OD 2B00:07, else the two channels of the module. -/
def saveTargets (twin c : Channel) : List (List Byte) :=
  let l := entryBytes c 0x2B00 7 []
  if l.isEmpty then
    (match c.id with | .a => [publicOf c.keys.mig, publicOf twin.keys.mig] | .b => [publicOf twin.keys.mig, publicOf c.keys.mig])
  else (List.range (min 4 (l.length / 696))).map (fun i => slice l (696 * i + 64) 97)

/-- What a sleeve's blob carries. -/
def payloadOfSleeve (n : Nat) (s : Sleeve) (c : Channel) : SavePayload :=
  { package := if s.pkg.isEmpty then Config.packageOf (committedSlot c).bytes n else s.pkg
    insts := (match kGet c.graphs n with
      | some g => g.insts.filterMap (fun x => (g.cfg.insts[x.1]?).map (fun r => (r.ident, x.2.st)))
      | none => [])
    lse := (kGet c.lse n).map (fun L => (L.r, L.forces))
    gpubs := (c.pub.gpubs.filter (fun p => p.2.cfg.owner == n)).map (fun p => (p.1, p.2.stNum, p.2.sqNum))
    spubs := (c.pub.spubs.filter (fun p => p.2.cfg.owner == n)).map (fun p => (p.1, p.2.lastSmp))
    subs := c.pub.subs.filter (fun p => p.2.cfg.owner == n)
    can := c.can.flatMap (fun p => (p.2.bufs.filter (fun b => b.2.cfg.owner == n)).map (fun b => (p.1, b.1, b.2.hist)))
    keys := c.keys.slots.filter (fun k => k.2.owner == n && k.2.st == 1 && inRange k.2.kind 1 3) }

def freezeInstant (n : Nat) (c : Channel) : Nat :=
  match c.disp.fences.find? (fun f => f.freeze && f.sleeve == n) with | some f => f.instant | none => 0

/-- The blob of a frozen sleeve. -/
def saveBlob (n : Nat) (s : Sleeve) (twin c0 : Channel) : List Byte × Channel :=
  let k := drawBytes 4 c0
  let v := drawBytes 2 k.2
  let t := saveTargets twin c0
  let body := encodePayload (payloadOfSleeve n s c0)
  let ctx := leBytes 2 (edition c0).1 ++ leBytes 2 (edition c0).2 ++ [BitVec.ofNat 8 n, 0, 0, 0] ++ leBytes 8 (freezeInstant n c0) ++
    leBytes 4 serialNumber.toNat ++ leBytes 4 body.length
  let w := t.foldl (fun (a : List Byte × Channel) x =>
    let d := draw a.2
    (a.1 ++ beBytes 48 (Config.sha384 x).toNat ++ wrapFor (Config.ephemeralKey d.1) x k.1 ctx, d.2)) ([], v.2)
  let aad := asciiBytes "NRSB" ++ leBytes 2 1 ++ leBytes 2 t.length ++ ctx ++ w.1
  (aad ++ v.1.take 12 ++ Config.gcmSeal k.1 (v.1.take 12) aad body, w.2)

/-- SAVE_BLOB_READY: the blob replaces the last one; a deletion that waits gets its boundary (16 R496, R497). -/
def saveBlobReadyC (n : Nat) (twin c : Channel) : Channel :=
  match kGet c.sleeves n with
  | none => c
  | some s =>
    if !s.saving then c
    else
      let b := saveBlob n s twin c
      let c1 := { b.2 with dict := { b.2.dict with domains := kPut b.2.dict.domains (od 0x2B00 6) b.1 } }
      putSleeve n { s with saving := false, req := s.req.map (fun r => { r with at_ := if r.at_ = 0 then lifeBoundary n c else r.at_ }) } c1
def execSaveBlobReady (ch : Chan) (n : Nat) (s : State) : Host.Outcome State Fault Refusal := onChanTwin ch (saveBlobReadyC n) s

/-- A blob opened by this channel (16 R499): magic, format, a target that matches, the tag, the running edition. -/
def openBlob (b : List Byte) (c : Channel) : Option (SavePayload × Nat) :=
  let t := leAt b 6 2
  let mine := beBytes 48 (Config.sha384 (publicOf c.keys.mig)).toNat
  if slice b 0 4 ≠ asciiBytes "NRSB" ∨ leAt b 4 2 ≠ 1 ∨ t < 1 ∨ 4 < t ∨ (leAt b 8 2, leAt b 10 2) ≠ edition c then none
  else match (List.range t).find? (fun i => slice b (32 + 128 * i) 48 == mine) with
    | none => none
    | some i =>
      let key := unwrapAs c.keys.mig (slice b (80 + 128 * i) 80) (slice b 8 24)
      let aad := b.take (32 + 128 * t)
      if b.length ≠ 44 + 128 * t + leAt b 28 4 + 16 then none
      else match Config.gcmOpen key (slice b (32 + 128 * t) 12) aad (b.drop (44 + 128 * t)) with
        | none => none
        | some body => (decodePayload body).map (fun p => (p, leAt b 24 4))

/-- Admission of a blob (16 R499): its package, then its keys; its state is loaded at the start boundary. -/
def admitBlob (n arg : Nat) (b : List Byte) (c : Channel) : Except (Nat × Channel) Channel :=
  match openBlob b c with
  | none => .error (5, c)
  | some (p, serial) =>
    match admitPackage n p.package c with
    | .error e => .error e
    | .ok c1 =>
      let c2 := p.keys.foldl (fun c k => loadSlot k.1 k.2 c) c1
      .ok (setRo (0x4000 + n * 256) 4 serial { c2 with sleeves := kMod c2.sleeves n (fun s => { s with restore := some (p, arg) }) })

/-- Admission of the blob held in OD 2B00:05. -/
def admitRestore (n arg : Nat) (c : Channel) : Except (Nat × Channel) Channel := admitBlob n arg (packageBytes c) c

/-- Admission by a request's action (16 R489). -/
def admitBy (action n arg : Nat) (b : List Byte) (c : Channel) : Except (Nat × Channel) Channel :=
  if action = 6 then admitBlob n arg b c else admitPackage n b c

/-- SLEEVE_RESTORE: argument 0 keeps the saved state, 1 resets it. -/
def sleeveRestoreC (p : Path) (n arg : Nat) (twin : Channel) : Channel → Channel :=
  if arg ≤ 1 then lifeAdmit p n 6 arg (admitRestore n arg) twin else lifeGate p n (refuse 0x0105 0x2B00 4 p)
def execSleeveRestore (p : Path) (r : RestoreReq) (s : State) : Host.Outcome State Fault Refusal :=
  onPath p (.sleeveRestore p r) (sleeveRestoreC p r.sleeve r.arg (chanOf s (pathChan s p).twin)) s

/-! ### After the Placer's moves (08 R264, R269) -/

/-- Does a sleeve wait for moves to end? -/
def awaitsMoves (x : Sleeve) : Bool := match x.req with | some r => (r.action == 1 || r.action == 6) && r.at_ == 0 | none => false

/-- Sleeves that waited for moves get the start boundary of 16 R491, once both channels have made theirs. -/
def settleStarts (twin c : Channel) : Channel :=
  if !placersIdle twin c then c
  else c.sleeves.foldl (fun c x =>
    match x.2.req with
    | some r =>
      if awaitsMoves x.2 && (c.seam.presence != 2 || kHas twin.sleeves x.1) then
        post (.lifecycle x.1 r.action r.arg (startBoundary c)) (setReq x.1 { r with at_ := startBoundary c } c)
      else c
    | none => c) c

/-- Requests that waited are planned in turn, each with its result. -/
def settleQueue : Nat → Channel → Channel → Channel
  | 0, _, c => c
  | k + 1, twin, c =>
    if !placersIdle twin c then c
    else match c.disp.queued.find? (fun q => q.action != 2) with
      | none => c
      | some q =>
        let c1 := unqueue q.sleeve c
        settleQueue k twin (match admitBoth q.sleeve q.action q.arg (admitBy q.action q.sleeve q.arg q.pkg) twin c1 with
          | .error (e, c2) => post (.lifecycle q.sleeve 0 0 0) (lifeResult e q.sleeve c2)
          | .ok c2 => lifeResult 0 q.sleeve c2)

/-- A deletion that waited lets the Placer move instances again (R264). -/
def settleDeletion (c : Channel) : Channel :=
  if placerIdle c && c.disp.queued.any (fun q => q.action == 2) then
    { c with disp := { c.disp with movesLeft := 64, queued := c.disp.queued.filter (fun q => q.action != 2) } }
  else c

/-- Does anything wait for a channel's moves? -/
def placerAwaited (c : Channel) : Bool := !c.disp.queued.isEmpty || c.sleeves.any (fun x => awaitsMoves x.2)

/-- What follows where moves have ended: on both channels for their deletions, on the lead channel for sleeves and requests. -/
def placerSettle (s : State) : State :=
  if placerAwaited s.a || placerAwaited s.b then
    let s1 := { s with a := settleDeletion s.a, b := settleDeletion s.b }
    let ch := leadChan s1
    withChan s1 ch (settleQueue 64 (chanOf s1 ch.twin) (settleStarts (chanOf s1 ch.twin) (chanOf s1 ch)))
  else s

/-- A command of one channel that may end the Placer's moves. -/
def onChanPlacer (ch : Chan) (f : Channel → Channel) (s : State) : Host.Outcome State Fault Refusal :=
  match onChan ch f s with
  | .next t => .next (placerSettle t)
  | o => o

def execMoveBindingSwitch (ch : Chan) (n i : Nat) (s : State) : Host.Outcome State Fault Refusal := onChanPlacer ch (moveBindingSwitchC n i) s
def execFiringNoCompletion (ch : Chan) (n : Nat) (x : StuckFiring) (s : State) : Host.Outcome State Fault Refusal :=
  onChanPlacer ch (firingNoCompletionC n x.inst x.misaligned) s
def execTileSelftestPass (ch : Chan) (n : Nat) (ok : Bool) (s : State) : Host.Outcome State Fault Refusal :=
  onChanPlacer ch (tileSelftestPassC n ok) s

/-! ### What a boundary does -/

/-- Takes the request of an action off the sleeve at its boundary (16 R488). -/
def atLife (n action : Nat) (f : Sleeve → LifeReq → Channel → Channel) (c : Channel) : Channel :=
  match kGet c.sleeves n with
  | none => c
  | some s =>
    match s.req with
    | none => c
    | some r =>
      if r.action ≠ action ∨ r.at_ = 0 then c
      else
        let c1 := advanceTo r.at_ (putSleeve n { s with req := none, lastBoundary := r.at_ } c)
        f { s with req := none, lastBoundary := r.at_ } r (raise 47 n action 0 (journalAdd 4 action n [] c1))

/-- Readers on streams and BYPASS paths see their next token as a history break (16 R495; 02 R71). -/
def breakReaders (n : Nat) (c : Channel) : Channel :=
  match kGet c.graphs n with
  | none => c
  | some g =>
    let hit (i : Nat) : Bool := (edgesInto g i).any (fun e => e.2.src && (match g.cfg.sources[e.2.prod]? with | some k => k.kind == 1 || k.kind == 2 | none => false) &&
      (match g.cfg.insts[i]? with | some r => edgeTrigger r e.2 | none => false))
    putGraph n { g with insts := kMapVals g.insts (fun i x => if hit i then { x with breakPend := true } else x) } c

/-- STREAM and PATH bindings resume at the first slot or output after `t` (16 R495). -/
def resumeReaders (n t : Nat) (c : Channel) : Channel :=
  match kGet c.graphs n with
  | none => c
  | some g =>
    let slot (s : Nat) : Nat := match kGet c.ingest.streams s with | some x => max x.next (numberAt x.cfg.rate t + 1) | none => 0
    let start (k : SourceRec) (old : Nat) : Nat :=
      if k.kind = 1 then slot k.a
      else if k.kind = 2 then (match kGet c.paths k.a with
        | some p => if p.cfg.preset = 0 then slot p.cfg.stream else (match p.ring.getLast? with | some o => o.n + 1 | none => old)
        | none => old)
      else old
    putGraph n { g with pos := ((List.range g.cfg.edges.length).zip g.cfg.edges).map (fun x =>
      (x.1, if x.2.src then (match g.cfg.sources[x.2.prod]? with | some k => start k (edgePos g x.1) | none => edgePos g x.1) else edgePos g x.1)) } c

/-- The paths of a sleeve stop holding slots, or resume after `t` with a history break (16 R494, R495). -/
def freezePaths (n : Nat) (c : Channel) : Channel :=
  { c with paths := kMapVals c.paths (fun _ p => if p.cfg.owner = n then { p with frozen := true } else p) }
def thawPaths (n t : Nat) (c : Channel) : Channel :=
  { c with paths := kMapVals c.paths (fun _ p =>
      if p.cfg.owner = n then
        { p with frozen := false, breakPending := true,
                 lastIn := (kGet c.ingest.streams p.cfg.stream).map (fun x => max (x.next - 1) (numberAt x.cfg.rate t)) }
      else p) }

/-- The last write of the cycle that ends at the boundary; nothing is latched (16 R494, R498). -/
def lseLastWrite (n t : Nat) (c : Channel) : Channel :=
  match kGet c.lse n with
  | none => c
  | some L =>
    if t < L.nextB then c
    else match L.st with
      | .running | .overrun =>
        if L.r.ended then lseWrite n t { L with overruns := if L.late then L.overruns else 0, late := false, nextB := t + tcNs L } c
        else lseOverrun n t L c
      | .faulted => if L.safePend then lseSafeWrite n t { L with nextB := t + tcNs L } c else c
      | .stopped => c

/-- A retain flush at a boundary, with the values as they then stand (11 R352). -/
def flushNow (n : Nat) (c : Channel) : Channel :=
  match kGet c.lse n with | some L => retainFlush n { L with snap := retainSnap L L.r } c | none => c

/-- The publications of a sleeve stop: their RETX entries and SV instants in progress go (16 R494). -/
def stopPubs (n : Nat) (c : Channel) : Channel :=
  let own (g : Nat) : Bool := match kGet c.pub.gpubs g with | some p => p.cfg.owner == n | none => false
  { c with
    disp := { c.disp with delay := c.disp.delay.filter (fun d => match d.kind with | .retx g => !own g | .horizon .. => true) }
    pub := { c.pub with spubs := kMapVals c.pub.spubs (fun _ p => if p.cfg.owner = n then { p with written := [] } else p) } }

/-- Each publication of a sleeve that has sent makes a state change (16 R495, R501). -/
def republish (n t : Nat) (c : Channel) : Channel :=
  c.pub.gpubs.foldl (fun c p => if p.2.cfg.owner = n ∧ p.2.first then stateChange p.1 t [] p.2 c else c) c

/-- FREEZE_BOUNDARY, in the order of R494. -/
def freezeActions (n : Nat) (s : Sleeve) (r : LifeReq) (c : Channel) : Channel :=
  let t := r.at_
  let c1 := flushNow n (lseLastWrite n t c)
  let c2 := freezePaths n (armFence ⟨true, n, 0, t, c.time.up⟩ c1)
  let c3 := pleatStopSleeve n t (canCancel n (stopPubs n c2))
  readyUpdate (putSleeve n { s with st := .frozen } c3)
def freezeBoundaryC (n : Nat) : Channel → Channel := atLife n 3 (freezeActions n)
def execFreezeBoundary (ch : Chan) (n : Nat) (s : State) : Host.Outcome State Fault Refusal := onChan ch (freezeBoundaryC n) s

/-- The freeze fence is disarmed: its firings are withdrawn to WAITING, tokens in place (06 R197). -/
def disarmFreeze (n t : Nat) (c : Channel) : Channel :=
  { c with
    disp := { c.disp with fences := c.disp.fences.filter (fun f => !(f.freeze && f.sleeve == n)) }
    graphs := kMapVals c.graphs (fun s g => if s = n then { g with insts := kMapVals g.insts (fun _ x =>
      let y := if x.fs = .fenced ∧ x.fencedBy = 1 then { x with fs := .waiting, release := 0 } else x
      { y with nextP1 := max y.nextP1 t }) } else g) }

/-- The LSE at thaw: variables as they were, timers from here on; swap and forces that fell due are made (16 R495, R496). -/
def lseThaw (n t : Nat) (c : Channel) : Channel :=
  match kGet c.lse n with
  | none => c
  | some L =>
    match L.st with
    | .running | .overrun =>
      lseBetween n t (putLse n { L with st := .running, overruns := 0, passed := 0, late := false, r := { L.r with lastExec := kMapVals L.r.lastExec (fun _ _ => t), ended := false } } c)
    | _ => putLse n { L with nextB := t } c

/-- THAW_BOUNDARY (16 R495). -/
def thawActions (n : Nat) (s : Sleeve) (r : LifeReq) (c : Channel) : Channel :=
  let t := r.at_
  let c1 := putSleeve n { s with st := .running } (breakReaders n (resumeReaders n t (thawPaths n t (disarmFreeze n t c))))
  readyUpdate (pleatThawSleeve n (republish n t (lseThaw n t c1)))
def thawBoundaryC (n : Nat) : Channel → Channel := atLife n 4 (thawActions n)
def execThawBoundary (ch : Chan) (n : Nat) (s : State) : Host.Outcome State Fault Refusal := onChan ch (thawBoundaryC n) s

/-- The instance states and publications that a restore loads over a started sleeve (16 R499). -/
def loadSaved (n : Nat) (p : SavePayload) (arg : Nat) (c : Channel) : Channel :=
  let g1 : KMap GraphRt := if arg = 0 then kMod c.graphs n (fun g => { g with insts := kMapVals g.insts (fun i x =>
      match (g.cfg.insts[i]?).bind (fun r => p.insts.find? (fun y => y.1 == r.ident)) with
      | some y => { x with st := y.2 }
      | none => x) }) else c.graphs
  let seed (L : Lse) : Lse :=
    match p.lse with
    | none => L
    | some (r, fs) =>
      if arg = 0 then { L with seed := some { r with lastExec := [], scanning := false, ended := false }, forces := fs }
      else { L with seed := some ((retainSnap L r).foldl (applyRec L.prog (retainSnap L r)) (L.prog.vars.foldl initVar lseRegsReset)) }
  { c with
    graphs := g1, lse := kMod c.lse n seed
    pub := { c.pub with
      gpubs := p.gpubs.foldl (fun m x => kMod m x.1 (fun (y : GPub) => { y with stNum := x.2.1 })) c.pub.gpubs
      spubs := p.spubs.foldl (fun m x => kMod m x.1 (fun (y : SPub) => { y with lastSmp := x.2 })) c.pub.spubs
      subs := p.subs.foldl (fun m x => kMod m x.1 (fun (y : GSub) => if arg = 0 then { x.2 with cfg := y.cfg } else y)) c.pub.subs }
    can := p.can.foldl (fun m x => kMod m x.1 (fun (q : CanPort) => { q with bufs := kMod q.bufs x.2.1 (fun b => { b with hist := x.2.2 }) })) c.can }

/-- A restore is a history break on every stream of the sleeve, those that other sleeves keep running included (02 R71; 03 R107). -/
def breakStreams (n : Nat) (c : Channel) : Channel :=
  { c with ingest := { c.ingest with streams := kMapVals c.ingest.streams (fun _ x =>
      if x.mask.getLsbD n && x.st != .inactive then streamBreak x else x) } }

/-- SLEEVE_START_BOUNDARY: the graph starts, the LSE waits for its first boundary, publications start (16 R487, R491, R493). -/
def startActions (n : Nat) (s : Sleeve) (r : LifeReq) (c : Channel) : Channel :=
  let t := r.at_
  let fresh (k : Nat) : Bool := match kGet c.ingest.streams k with | some x => x.st == .inactive | none => false
  let own (k : Nat) : Bool := k == n
  let c1 := startPubs t own (startPaths own (startStreams t fresh { (if s.restore.isSome then breakStreams n c else c) with
    lse := kMod c.lse n (fun L => { L with st := .stopped, nextB := cycleCeil L t }) }))
  let c2 := startReaders n (startGraph t n (putSleeve n { s with st := .running, restore := none } c1))
  let c3 := match s.restore with
    | some (p, arg) => breakReaders n (loadSaved n p arg c2)
    | none => c2
  let c4 := c3.pleat.defs.foldl (fun c d =>
    if d.2.cfg.owner = n ∧ entryNat c (defIndex d.1) 7 (if d.2.cfg.armStart then 1 else 0) ≠ 0 then startCapture d.1 c else c) c3
  injCheck (readyUpdate (simUpdate c4))
def sleeveStartBoundaryC (n : Nat) (c : Channel) : Channel :=
  match kGet c.sleeves n with
  | some s => if (s.req.map (fun r => r.action)) = some 6 then atLife n 6 (startActions n) c else atLife n 1 (startActions n) c
  | none => c
def execSleeveStartBoundary (ch : Chan) (n : Nat) (s : State) : Host.Outcome State Fault Refusal := onChan ch (sleeveStartBoundaryC n) s

/-- The ring of a VF is disabled and its events are off (16 R498; 15 R453). -/
def disableVf (f : Nat) (c : Channel) : Channel :=
  { c with host := { c.host with
      fns := kMod c.host.fns f (fun r => { r with even := [] })
      rings := kMod c.host.rings f (fun r => { r with rxEn := false, txEn := false, rxIdle := true, txIdle := true }) } }

/-- What belongs to a sleeve is taken away; a stream that no other sleeve takes goes with it (16 R498; log entry 29). -/
def removeSleeve (n : Nat) (c : Channel) : Channel :=
  let m := imageNow c
  let mask (x : Stream) : U64 := x.mask &&& ~~~(1#64 <<< n)
  let streams := (c.ingest.streams.filter (fun x => x.2.mask == 0 || mask x.2 != 0)).map (fun x => (x.1, { x.2 with mask := mask x.2 }))
  let paths := c.paths.filter (fun p => p.2.cfg.owner != n)
  let gpubs := c.pub.gpubs.filter (fun p => p.2.cfg.owner != n)
  let keepItem (x : PlItem) : Bool :=
    if x.kind = 0 then kHas streams x.key else if x.kind = 1 then kHas paths x.key else x.sleeve != n
  { c with
    ingest := { c.ingest with streams := streams }
    paths := paths, graphs := kDel c.graphs n, lse := kDel c.lse n, sleeves := kDel c.sleeves n
    pub := { c.pub with
      trips := c.pub.trips.filter (fun t => tripOwner m t.1 != some n), gpubs := gpubs, spubs := c.pub.spubs.filter (fun p => p.2.cfg.owner != n),
      subs := c.pub.subs.filter (fun p => p.2.cfg.owner != n), jobs := c.pub.jobs.filter (fun j => j.sv || kHas gpubs j.num) }
    can := kMapVals c.can (fun _ p => { p with bufs := p.bufs.filter (fun b => b.2.cfg.owner != n) })
    pleat := { c.pleat with defs := c.pleat.defs.filter (fun d => d.2.cfg.owner != n) }
    disp := { c.disp with
      delay := c.disp.delay.filter (fun d => match d.kind with | .retx g => kHas gpubs g | .horizon s _ => s != n)
      parked := c.disp.parked.filter (fun x => x.1 != n), fences := c.disp.fences.filter (fun f => f.sleeve != n)
      tiles := kMapVals c.disp.tiles (fun _ t => { t with stack := t.stack.filter (fun x => x.1 != n) })
      items := c.disp.items.filter keepItem }
    dict := { c.dict with
      initial := c.dict.initial.filter (fun x => !inRange (x.1 / 256) (0x4010 + n * 256) (0x40FF + n * 256))
      decls := c.dict.decls.filter (fun x => !inRange (x.1 / 256) (0x4010 + n * 256) (0x40FF + n * 256))
      pendingW := c.dict.pendingW.filter (fun w => !inRange (w.key / 256) (0x4010 + n * 256) (0x40FF + n * 256))
      domains := kDel c.dict.domains (od (0x4001 + n * 256) 3) }
    seam := { c.seam with items := c.seam.items.filter (fun x => x.sleeve != n), realign := kDel c.seam.realign n } }

/-- DELETION_BOUNDARY (16 R498; 08 R264, R269). -/
def deleteActions (n : Nat) (_ : Sleeve) (r : LifeReq) (c : Channel) : Channel :=
  let c1 := flushNow n (lseLastWrite n r.at_ c)
  let c2 := pleatStopSleeve n r.at_ (canCancel n (stopPubs n c1))
  let c3 := disableVf (n + 1) (invalidateSleeve n (abandonMoves (fun m => m.sleeve == n) c2))
  let c4 := keepOverlay c.dict.decls (removeSleeve n c3)
  let c5 := retainBanks { c4 with disp := { c4.disp with planned := c4.disp.planned.filter (fun m => m.1 != n) } }
  readyUpdate (reportPlacement (simUpdate (settleDeletion (putQueued ⟨2, n, 0, []⟩ c5))))
def deletionBoundaryC (n : Nat) : Channel → Channel := atLife n 2 (deleteActions n)
def execDeletionBoundary (ch : Chan) (n : Nat) (s : State) : Host.Outcome State Fault Refusal := onChanPlacer ch (deletionBoundaryC n) s

/-- BEHAVIOUR_BOUNDARY (16 R501 to R503). Leaving test in STANDBY or ACTIVE releases every force; leaving off makes each
publication's state change. -/
def behaviourActions (n : Nat) (s : Sleeve) (r : LifeReq) (c : Channel) : Channel :=
  let c1 := putSleeve n { s with beh := r.arg } c
  let leaves := behTest s.beh && !behTest r.arg
  let forced := match kGet c.lse n with | some L => L.forces.length | none => 0
  let c2 := if leaves && (c.boot.mode == .standby || c.boot.mode == .active) && decide (0 < forced) then
      raiseLimited 45 n n forced n { c1 with lse := kMod c1.lse n (fun L => { L with forces := [] }) }
    else c1
  let c3 := if leaves then { c2 with pub := { c2.pub with subs := kMapVals c2.pub.subs (fun _ x => if x.cfg.owner = n then { x with simSeen := false } else x) } } else c2
  let c4 := if s.beh = 5 ∧ r.arg ≠ 5 ∧ s.st = .running then republish n r.at_ c3 else c3
  injCheck (readyUpdate (simUpdate c4))
def behaviourBoundaryC (n : Nat) : Channel → Channel := atLife n 7 (behaviourActions n)
def execBehaviourBoundary (ch : Chan) (n : Nat) (s : State) : Host.Outcome State Fault Refusal := onChan ch (behaviourBoundaryC n) s

end Sys2Proof.Machine
end

