-- ==== Sys2Proof/Machine/Settings.lean ====
section
/-! DEFINITION. What an accepted write to an entry does: the conditions of its owning rule, and the instant at which it takes
effect (21 R616 to R623; 03 R111, R114; 04 R137 to R140; 05 R165; 06 R191; 11 R366; 17 R510; 18 R559). -/
namespace Sys2Proof.Machine

/-- Does a HOST source or an LSE host entry name the entry (05 R162; 11 R339)? -/
def hostBound (c : Channel) (key : Nat) : Bool :=
  c.graphs.any (fun g => g.2.cfg.sources.any (fun x => x.kind == 6 && x.a == key)) ||
    c.lse.any (fun l => l.2.prog.ins.any (fun e => e.kind == 4 && e.refA == key))

/-- Bit rates of a port in kbit/s (17 R510); 0 where the data phase does not switch. -/
def nominalRate (code : Nat) : Nat := nth [0, 125, 250, 500, 1000] code 0
def dataRate (code : Nat) : Nat := if code = 0 then 0 else nth [1000, 2000, 4000, 5000, 8000] (code - 0x11) 0
def ratesFit (nominal data : Nat) : Bool := data == 0 || decide (nominalRate nominal ≤ dataRate data)

/-- The running configuration with the paths and recordings as their entries will leave them. -/
def imageEntered (c : Channel) : Image :=
  let m := imageNow c
  { m with
    paths := c.paths.map (fun x => pathEntries c x.1 x.2.cfg)
    pleat := c.pleat.defs.map (fun x =>
      let i := defIndex x.1
      { x.2.cfg with n := entryNat c i 8 x.2.cfg.n, p := entryNat c i 9 x.2.cfg.p, mask := entryBytes c i 0x0A x.2.cfg.mask }) }

/-- May a path take its new settings (04 R121, R127, R137, R140)? The token rate stays. -/
def pathTakes (c : Channel) (n : Nat) : Bool :=
  match kGet c.paths n with
  | none => false
  | some x =>
    let r := pathEntries c n x.cfg
    let rate := rateOf c x.cfg.stream
    pathsOk (imageEntered c) && presetFactor r.preset rate == presetFactor x.cfg.preset rate &&
      (r.preset != 0 || r.shifts.all (fun s => s == 15))

/-- The conditions that the owning rule places on a write of `v`, its own range apart. -/
def ruleAbort (c : Channel) (index sub : Nat) (v : List Byte) : Option Nat :=
  let after := setOver index sub v c
  let range (ok : Bool) : Option Nat := if ok then none else some 0x0105
  if !configured c index sub then some 0x0108
  else if index = 0x2501 then
    range (decide (sumOf (fun k => entryNat after 0x2501 (k + 1) (nth [512, 512, 512, 256, 256, 512, 256, 128] k 0)) (List.range 8) ≤ 4096))
  else if inRange index 0x8200 0x83FF && sub == 5 then
    range (match kGet c.ingest.streams (index - 0x8200) with
      | some x => decide (allowOf { x.cfg with allowUs := leNat v } * x.cfg.rate * 4 ≤ 2 ^ x.cfg.log2D * 1000000)
      | none => false)
  else if inRange index 0x8400 0x8BFF && sub != 0x18 then range (pathTakes after (index - 0x8400))
  else if inRange index 0x2C11 0x2C14 && (sub == 5 || sub == 6) then
    range (match kGet c.can (index - 0x2C10) with
      | some p => let r := canEntries after (index - 0x2C10) p.cfg; ratesFit r.nominal r.data
      | none => true)
  else if inRange index 0x9800 0x987F then range (pleatOk (imageEntered after))
  else if inRange index 0x3120 0x3140 then (if (injGet c (index - 0x3120)).armed then some 0x0107 else none)
  else if index = 0x2710 then (if leads c then none else some 0x0109)
  else if index = 0x2B00 ∧ sub = 7 then range (v.length % 696 == 0)
  else none

/-- Do writes to the index take effect at a 5 ms instant (03 R114; 04 R138)? -/
def fiveMsIndex (index : Nat) : Bool := inRange index 0x8200 0x8BFF

/-- The instant at which a write takes effect, where its rule names one. -/
def effectInstant (c : Channel) (index sub : Nat) : Option Nat :=
  if fiveMsIndex index then (if c.boot.graphsRun then some (fiveMsAfter c) else none)
  else if hostBound c (od index sub) then some (p1After 1000000 c)
  else none

/-- The pending change of a stream or path taken anew. -/
def repend (index : Nat) (c : Channel) : Channel :=
  if inRange index 0x8200 0x83FF then streamRepend (index - 0x8200) c
  else if inRange index 0x8400 0x8BFF then pathRepend (index - 0x8400) c
  else c

/-- A write that waits for its instant. -/
def scheduleSetting (index sub t : Nat) (v : List Byte) (c : Channel) : Channel :=
  if fiveMsIndex index then repend index (pendWrite (od index sub) t v (setOver index sub v c))
  else pendWrite (od index sub) t v c

/-- The settings of the LSE programs as the entries now stand (11 R366). -/
def lseTake (c : Channel) : Channel := { c with lse := kMapVals c.lse (fun n L => lseSettings c n L.prog L) }

/-- A write that takes effect as it is accepted, or that its owner reads at the moment its own rule names. -/
def putSetting (index sub : Nat) (v : List Byte) (c : Channel) : Channel :=
  if index = 0x2710 then { c with lse := kMod c.lse (sub - 1) (fun L => { L with staged := v }) }
  else
    let c1 := setOver index sub v c
    if inRange index 0x2706 0x2708 then lseTake c1 else c1

/-- An accepted write to an entry: answered, and mirrored where the path reaches both channels. -/
def acceptSetting (p : Path) (index sub : Nat) (v : List Byte) (c : Channel) : Channel :=
  match effectInstant c index sub with
  | some t => scheduleSetting index sub t v (accept p (.effectAt (od index sub) v t) c)
  | none => putSetting index sub v (accept p (.write (od index sub) v) c)

/-! ### Clearing the overlay (21 R621) -/

/-- An entry returns to its value of R619 at the instant of its own rule. -/
def restoreEntry (c : Channel) (key : Nat) : Channel :=
  let index := key / 256
  let sub := key % 256
  match effectInstant c index sub, kGet c.dict.initial key with
  | some t, some v => repend index (pendWrite key t v c)
  | _, _ => c

/-- Clears the overlay of the keys that are to go. -/
def clearOverlay (goes : Nat → Bool) (c : Channel) : Channel :=
  let gone := (c.dict.overlay.filter (fun x => goes x.1)).map (fun x => x.1)
  lseTake (gone.foldl restoreEntry { c with dict := { c.dict with overlay := c.dict.overlay.filter (fun x => !goes x.1) } })

def communicationKey (key : Nat) : Bool := inRange (key / 256) 0x1000 0x1FFF

/-- What a restore does: the whole overlay, or that of indices 1000 to 1FFF. -/
def restoreNow (all : Bool) (c : Channel) : Channel := clearOverlay (fun k => all || communicationKey k) c

/-- RESTORE_ALL and RESTORE_COMMUNICATION: the word "load". -/
def restoreC (p : Path) (all : Bool) (v : U32) : Channel → Channel :=
  let sub := if all then 1 else 2
  writeGate p [2, 3] 0x1011 sub (fun c =>
    if v.toNat ≠ 0x64616F6C then refuse 0x0105 0x1011 sub p c else restoreNow all (accept p (.restore all) c))
def execRestoreAll (p : Path) (v : U32) (s : State) : Host.Outcome State Fault Refusal := onPath p (.restoreAll p v) (restoreC p true v) s
def execRestoreCommunication (p : Path) (v : U32) (s : State) : Host.Outcome State Fault Refusal :=
  onPath p (.restoreCommunication p v) (restoreC p false v) s

/-! ### Images in the slots that are not committed (02 R63 to R65, R70; 21 R630 to R632) -/

/-- The slot that a session on OD 2000:11 or 2000:14 writes. -/
def imageSlot (fw : Bool) (c : Channel) : Slot :=
  if fw then fwSlot c (1 - c.slots.committedFw) else stagingSlot c
def putImageSlot (fw : Bool) (x : Slot) (c : Channel) : Channel :=
  if fw then (if c.slots.committedFw = 0 then { c with slots := { c.slots with fw1 := x } } else { c with slots := { c.slots with fw0 := x } })
  else setSlot (1 - c.slots.committed) x c

/-- A slot's status as a session leaves it, with the Journal record of a configuration slot (20 R608). -/
def imageStatus (fw : Bool) (st : Nat) (c : Channel) : Channel :=
  let c1 := putImageSlot fw { imageSlot fw c with status := st } c
  if fw then c1 else journalAdd 2 st 0xFF [] c1

/-- A segment as it arrives in flash: FIRST starts the slot anew. -/
def imageSegment (fw first : Bool) (data : List Byte) (c : Channel) : Channel :=
  let x := imageSlot fw c
  if first then imageStatus fw 6 (putImageSlot fw { x with bytes := data, status := 6 } c)
  else putImageSlot fw { x with bytes := x.bytes ++ data } c

/-- LAST completes the session: checks 1 to 5 of R63, or the Quinium signature. -/
def imageComplete (fw : Bool) (c : Channel) : Channel :=
  let b := (imageSlot fw c).bytes
  imageStatus fw (if fw then (if Config.firmwareSigned b then 1 else 2) else (imageIntact c b).1) c

/-- A session that ends without LAST leaves the slot INCOMPLETE (21 R631). -/
def imageBroken (fw : Bool) (c : Channel) : Channel := imageStatus fw 4 c

/-- A segment forwarded by the twin, under this channel's own checks (21 R630 to R632): one that arrives under PWARN, or a LAST
that falls short of the total, leaves the slot INCOMPLETE. -/
def imageForwarded (fw first last : Bool) (total : Nat) (data : List Byte) (c : Channel) : Channel :=
  if !first && (imageSlot fw c).status != 6 then c
  else if c.psu.pwarn then slotWriteRefused (imageBroken fw c)
  else
    let c1 := imageSegment fw first data c
    if !last then c1
    else if (imageSlot fw c1).bytes.length = total then imageComplete fw c1 else imageBroken fw c1

end Sys2Proof.Machine
end

