-- ==== Sys2Proof/Machine/Snapshot.lean ====
section
/-! DEFINITION. Counter snapshots (22 R643 to R645). -/
namespace Sys2Proof.Machine

/-- A snapshot is scheduled at `t`; one that waits is replaced (22 R643, R644). -/
def snapshotSet (t : U64) (c : Channel) : Channel :=
  setOver 0x3100 1 (leBytes 8 t.toNat) { c with diag := { c.diag with snapT := some t, snapBase := t, snapStepped := false } }

/-- SNAPSHOT_SCHEDULE: OD 3100:01; T lies at least 1 ms after the acknowledgement (22 R643). -/
def snapshotScheduleC (p : Path) (t : U64) : Channel → Channel :=
  writeGate p [2, 3, 4, 5] 0x3100 1 (fun c =>
    if t.toNat < nowNs c + 1000000 then refuse 0x0105 0x3100 1 p c else snapshotSet t (accept p (.snapshot t) c))
def execSnapshotSchedule (p : Path) (t : U64) (s : State) : Host.Outcome State Fault Refusal :=
  onPath p (.snapshotSchedule p t) (snapshotScheduleC p t) s

def latestBank (c : Channel) : Option SnapBank :=
  match c.diag.latestBank with | some 0 => c.diag.bank0 | some _ => c.diag.bank1 | none => none

/-- The next instant T + k × period that is still to come; none for a one-shot (22 R643). -/
def snapNext (c : Channel) : Option U64 :=
  let p := entryNat c 0x3100 2 0
  if p = 0 then none else some (BitVec.ofNat 64 (c.diag.snapBase.toNat + ((nowNs c - c.diag.snapBase.toNat) / p + 1) * p))

/-- SNAPSHOT_LATCH (22 R643 to R645): every counter in one cycle, into the bank that does not hold the latest snapshot. -/
def snapshotLatchC (c0 : Channel) : Channel :=
  match c0.diag.snapT with
  | none => c0
  | some t =>
    if !runtimeUp c0 then c0
    else
      let c := advanceTo t.toNat c0
      let gen := match latestBank c with | some b => b.gen + 1 | none => 1
      let b : SnapBank :=
        { gen := gen, t := t, latch := BitVec.ofNat 64 (nowNs c), servo := BitVec.ofNat 8 (servoCode c.time.servo),
          stepped := c.diag.snapStepped, unlocked := c.time.servo != .locked, vals := c.ctr }
      { c with diag := { c.diag with
          copying := some (if c.diag.latestBank = some 0 then 1 else 0, b), snapT := snapNext c, snapStepped := false } }
def execSnapshotLatch (ch : Chan) (s : State) : Host.Outcome State Fault Refusal := onChan ch snapshotLatchC s

/-- SNAPSHOT_COPY_COMPLETE: the bank is the latest one; E29 (22 R643). -/
def snapshotCopyCompleteC (c : Channel) : Channel :=
  match c.diag.copying with
  | none => c
  | some (k, b) =>
    raise 29 0xFF 0 0 (bump 0x3100 4 { c with diag := { c.diag with
      copying := none, latestBank := some k, bank0 := if k = 0 then some b else c.diag.bank0,
      bank1 := if k = 0 then c.diag.bank1 else some b } })
def execSnapshotCopyComplete (ch : Chan) (s : State) : Host.Outcome State Fault Refusal := onChan ch snapshotCopyCompleteC s

end Sys2Proof.Machine
end

