-- ==== Sys2Proof/Machine/Params.lean ====
section
/-! DEFINITION. The operations on the dictionary, through a mailbox or a service port (15 R461; 21 R616 to R632). -/
namespace Sys2Proof.Machine

/-! ### Gates and answers -/

/-- Has a VF no sleeve (15 R457, R461)? -/
def noSleeve (p : Path) (c : Channel) : Bool := match p with | .vf n => !kHas c.sleeves (n - 1) | _ => false

/-- The bytes a function's buffer holds (07 R229; 21 R624): its area without the owner word. -/
def bufSize (p : Path) : Nat := match p with | .pf0 => 524280 | .vf _ => 53240 | _ => 262136

/-- The data that fit one response; a service port's transfer is not cut (21 R624, R627). -/
def dataMost (p : Path) : Nat := match p with | .svc _ _ => 2147483648 | _ => bufSize p - 24

/-- The conditions of every access to an entry: path in use, sleeve, index, subindex, path admitted (21 R616, R617, R629). -/
def entryGate (p : Path) (index sub : Nat) (k : OdRow → Channel → Channel) (c : Channel) : Channel :=
  if !pathLive p c then c
  else if noSleeve p c then answer p 2 [] c
  else if !indexExists c index then refuse 0x0101 index sub p c
  else match rowOf c index sub with
    | none => refuse 0x0102 index sub p c
    | some r => if !reaches p index then refuse 0x0109 index sub p c else k r c

/-- A mailbox response given a body made from what an operation answered. -/
def rebody (p : Path) (f : List Byte → List Byte) (before after : Channel) : Channel :=
  if before.host.mail.any (fun m => m.fn == pathFn p && !m.ready) then
    { after with host := { after.host with mail := after.host.mail.map (fun m =>
        if m.fn = pathFn p ∧ m.status = 0 then { m with body := f m.body } else m) } }
  else after

/-- The heads of the responses of R624. -/
def readHead (index sub ty total off len : Nat) : List Byte :=
  leBytes 2 index ++ [BitVec.ofNat 8 sub, BitVec.ofNat 8 ty] ++ leBytes 4 total ++ leBytes 4 off ++ leBytes 4 len
def writeHead (index sub received : Nat) : List Byte := leBytes 2 index ++ [BitVec.ofNat 8 sub, 0] ++ leBytes 4 received

/-! ### READ (21 R624, R626) -/

/-- The path's copy of a DOMAIN replaced. -/
def setCopy (p : Path) (key : Nat) (v : List Byte) (c : Channel) : Channel :=
  { c with dict := { c.dict with copies := ⟨p, key, v⟩ :: c.dict.copies.filter (fun x => x.path != p) } }
def dropCopy (p : Path) (c : Channel) : Channel := { c with dict := { c.dict with copies := c.dict.copies.filter (fun x => x.path != p) } }
def copyOf (p : Path) (key : Nat) (c : Channel) : Option (List Byte) :=
  (c.dict.copies.find? (fun x => x.path == p && x.key == key)).map (fun x => x.data)

/-- The response that returns a part of a value; a transfer of a service port holds its copy to the end (21 R627). -/
def returnPart (p : Path) (index sub ty off most : Nat) (v : List Byte) (c : Channel) : Channel :=
  let d := slice v off (min most (dataMost p))
  let c1 := answer p 0 (readHead index sub ty v.length off d.length ++ d) c
  match p with
  | .svc _ _ => if off + d.length < v.length then setCopy p (od index sub) v c1 else dropCopy p c1
  | _ => c1

/-- The value a DOMAIN has at offset 0; COMTRADE export builds its file (18 R557). -/
def domainRead (p : Path) (index sub off most : Nat) (v : Option (List Byte)) (c : Channel) : Channel :=
  match v with
  | none => refuse 0x0108 index sub p c
  | some v =>
    if 16777216 < v.length then returnPart p index sub 0x0F off most v c
    else if off = 0 then returnPart p index sub 0x0F 0 most v (setCopy p (od index sub) v c)
    else match copyOf p (od index sub) c with
      | some w => returnPart p index sub 0x0F off most w c
      | none => refuse 0x010A index sub p c

/-- READ: offset and maximum length apply to any entry; a write-only entry reads zero, a write-only DOMAIN no bytes (00 R12). -/
def readC (br : Bridge) (p : Path) (index sub off most : Nat) : Channel → Channel :=
  entryGate p index sub (fun r c =>
    if r.access = 3 then returnPart p index sub r.ty off most (zeroBytes (typeSize r.ty)) c
    else if index = 0x3100 ∧ sub = 0x10 then
      rebody p (fun b => readHead index sub r.ty 4 off (slice b off most).length ++ slice b off most) c (armingCodeReadC p c)
    else if index = 0x2D00 ∧ sub = 0x15 then
      (if off = 0 then
        rebody p (fun b => readHead index sub r.ty b.length 0 (slice b 0 (min most (dataMost p))).length ++ slice b 0 (min most (dataMost p))) c
          (comtradeExportC p c)
       else match copyOf p (od index sub) c with
         | some w => returnPart p index sub r.ty off most w c
         | none => refuse 0x010A index sub p c)
    else if r.ty = 0x0F then domainRead p index sub off most (valueOf br c r index sub) c
    else match valueOf br c r index sub with
      | none => refuse 0x0108 index sub p c
      | some v => returnPart p index sub r.ty off most v (if freeEntry index sub then (draw c).2 else c))
def execDictRead (p : Path) (tag : U32) (index sub off most : Nat) (s : State) : Host.Outcome State Fault Refusal :=
  onPath p (.dictRead p tag index sub off most) (readC s.bridge p index sub off most) s

/-- READ_COPY_LAPSE: 10 s after the path's last READ (21 R626). -/
def execReadCopyLapse (ch : Chan) (p : Path) (s : State) : Host.Outcome State Fault Refusal := onChan ch (dropCopy p) s

/-! ### WRITE (21 R616 to R619, R624, R625) -/

/-- A lifecycle request written to OD 2B00:04 (16 R489, R507). -/
def lifeWrite (p : Path) (n action arg : Nat) (twin : Channel) : Channel → Channel :=
  match action with
  | 1 => lifeAdmit p n 1 0 (admitCreate n) twin
  | 2 => sleeveDeleteC p n
  | 3 => sleeveFreezeC p n
  | 4 => sleeveThawC p n
  | 5 => sleeveSaveC p n
  | 6 => if arg ≤ 1 then lifeAdmit p n 6 arg (admitRestore n arg) twin else refuse 0x0105 0x2B00 4 p
  | 7 => sleeveBehaviourC p n arg
  | _ => refuse 0x0105 0x2B00 4 p

/-- A force command written to OD 2700:12 (11 R356, R366). -/
def forceWrite (p : Path) (v : List Byte) : Channel → Channel :=
  let w (o : Nat) : U32 := BitVec.ofNat 32 (leAt v o 4)
  let a := leAt v 1 1
  if a = 1 ∨ a = 2 then forceCmd p (leAt v 0 1) (a == 1) ⟨w 4, w 8, w 12, w 16⟩ else refuse 0x0105 0x2700 0x12 p

/-- A mode request written to OD 2000:03 (02 R52, R81). -/
def modeWrite (p : Path) (v : Nat) (twin : Channel) : Channel → Channel :=
  if v = 4 then modeRestart p twin else if v = 0x84 then forceRestartC p else modeRequest v p

/-- An entry that is a command of its own, with the whole value written; none where the entry holds a setting. `lead` tells
whether the channel leads. -/
def commandWrite (p : Path) (lead : Bool) (index sub : Nat) (v : List Byte) (twin : Channel) : Option (Channel → Channel) :=
  let n := leNat v
  if index = 0x2000 ∧ sub = 0x03 then some (modeWrite p n twin)
  else if index = 0x2000 ∧ sub = 0x08 then some (activateC p n)
  else if index = 0x2000 ∧ sub = 0x17 then some (commitFirmwareC p n twin)
  else if index = 0x1011 then some (restoreC p (sub == 1) (BitVec.ofNat 32 n))
  else if index = 0x2700 ∧ sub = 0x0F then some (applyOnlineChangeC p n lead)
  else if index = 0x2700 ∧ sub = 0x11 then some (lseRestartC p n)
  else if index = 0x2700 ∧ sub = 0x12 then some (forceWrite p v)
  else if index = 0x2B00 ∧ sub = 0x04 then some (lifeWrite p (leAt v 0 1) (leAt v 1 1) (leAt v 2 1) twin)
  else if inRange index 0x2C11 0x2C14 && sub == 0x0B then
    some (if n = 1 then recoveryRequestC p (index - 0x2C10) else refuse 0x0105 index sub p)
  else if inRange index 0x2C11 0x2C14 && sub == 0x0C then some (internalLoopbackC p (index - 0x2C10) (n == 1))
  else if index = 0x2D00 ∧ sub = 0x0F then some (manualTriggerC p n)
  else if index = 0x2D00 ∧ sub = 0x16 then some (deleteStoreRecordC p n)
  else if index = 0x2E00 ∧ sub = 0x0C then
    some (if inRange (leAt v 0 1) 1 5 then keyCommand (leAt v 0 1) p v else refuse 0x0105 index sub p)
  else if index = 0x2E00 ∧ sub = 0x0E then some (attestationRequestC p v)
  else if index = 0x2E00 ∧ sub = 0x10 then some (reProvisioningC p v)
  else if index = 0x2E00 ∧ sub = 0x13 then some (certificateInstallC p v)
  else if index = 0x3100 ∧ sub = 0x01 then some (snapshotScheduleC p (BitVec.ofNat 64 n))
  else if inRange index 0x3120 0x3140 && sub == 8 then
    some (if n = 0 then injectorDisarmC p (index - 0x3120) else injectorArmC p (index - 0x3120) (BitVec.ofNat 32 n))
  else if inRange index 0x2220 0x2223 && sub == 1 then
    some (if n = 1 then pgArmC p (index - 0x2220) else if n = 0 then pgDisarmC p (index - 0x2220) else refuse 0x0105 index sub p)
  else if inRange index 0x9800 0x987F && sub == 7 then some (definitionWrite p (index - 0x9800) (n == 1))
  else none

/-- The whole value of an entry has arrived: type, size and range, then the conditions of its rule (21 R616). -/
def writeValue (p : Path) (lead : Bool) (r : OdRow) (index sub : Nat) (v : List Byte) (twin c : Channel) : Channel :=
  match valueAbort r index sub v with
  | some e => refuse e index sub p c
  | none =>
    match commandWrite p lead index sub v twin with
    | some f => f c
    | none =>
      match ruleAbort c index sub v with
      | some e => refuse e index sub p c
      | none => acceptSetting p index sub v c

def isImageKey (index sub : Nat) : Bool := index == 0x2000 && (sub == 0x11 || sub == 0x14)

/-- The sessions of the dictionary with one put, or taken, by path and key. -/
def dropSession (p : Path) (key : Nat) (c : Channel) : Channel :=
  { c with dict := { c.dict with sessions := c.dict.sessions.filter (fun x => !(x.path == p && x.key == key)) } }
def putSession (x : WSession) (c : Channel) : Channel :=
  let c1 := dropSession x.path x.key c
  { c1 with dict := { c1.dict with sessions := c1.dict.sessions ++ [x] } }
def sessionOf (p : Path) (key : Nat) (c : Channel) : Option WSession := c.dict.sessions.find? (fun x => x.path == p && x.key == key)

/-- A session ends without its value: the entry stays, an image slot is INCOMPLETE, the twin's with it (21 R625, R630, R631). -/
def endSession (p : Path) (index sub : Nat) (c : Channel) : Channel :=
  match sessionOf p (od index sub) c with
  | none => c
  | some x =>
    let c1 := dropSession p (od index sub) c
    if isImageKey index sub && !x.timedOut then
      let c2 := imageBroken (sub == 0x14) c1
      if pathBoth p then post (.hostCmd (.segment (od index sub) false true 0 (x.data.length + 1) [])) c2 else c2
    else c1

/-- A refusal that ends the session. -/
def endRefuse (code index sub : Nat) (p : Path) (c : Channel) : Channel := refuse code index sub p (endSession p index sub c)

/-- A segment of a session that fits: taken, and with LAST the value takes effect. -/
def takeSegment (p : Path) (lead first last : Bool) (r : OdRow) (index sub : Nat) (x : WSession) (data : List Byte) (twin c : Channel) : Channel :=
  let key := od index sub
  let v := x.data ++ data
  let c1 := if isImageKey index sub then imageSegment (sub == 0x14) first data c else c
  if !last then
    let c2 := if isImageKey index sub && pathBoth p then post (.hostCmd (.segment key first false x.data.length x.total data)) c1 else c1
    answer p 0 [] (putSession { x with data := v } c2)
  else
    let c2 := dropSession p key c1
    if isImageKey index sub then
      accept p (.segment key first true x.data.length x.total data) (imageComplete (sub == 0x14) c2)
    else writeValue p lead r index sub v twin c2

/-- A segment of an image that arrives under PWARN: STORE_REFUSED, and the slot is INCOMPLETE (02 R65; 21 R631). -/
def pwarnSegment (p : Path) (index sub : Nat) (c : Channel) : Channel :=
  refuse 0x010C index sub p (slotWriteRefused <| imageBroken (sub == 0x14) (endSession p index sub c))

/-- A segment of a DOMAIN (21 R625). -/
def writeSegment (p : Path) (lead first last : Bool) (r : OdRow) (index sub off total : Nat) (data : List Byte) (twin c : Channel) : Channel :=
  let key := od index sub
  let go (x : WSession) (c : Channel) : Channel :=
    if off ≠ x.data.length ∨ total ≠ x.total then endRefuse 0x010A index sub p c
    else if x.total < x.data.length + data.length ∨ (last ∧ x.data.length + data.length < x.total) then endRefuse 0x0106 index sub p c
    else takeSegment p lead first last r index sub x data twin c
  let stopped := isImageKey index sub && c.psu.pwarn
  if first then
    if stopped then pwarnSegment p index sub c
    else if c.dict.sessions.any (fun x => x.key == key && x.path != p && !x.timedOut) then refuse 0x0107 index sub p c
    else if r.maxLen < total then endRefuse 0x0106 index sub p c
    else go ⟨key, p, total, [], false⟩ c
  else
    match sessionOf p key c with
    | none => refuse 0x010A index sub p c
    | some x => if x.timedOut then refuse 0x010B index sub p (dropSession p key c) else if stopped then pwarnSegment p index sub c else go x c

/-- Is the firmware session of R632 admitted: PF0, and both channels in HOLD or COMMISSION? -/
def firmwareAbort (p : Path) (index sub : Nat) (twin : Channel) : Option Nat :=
  if index = 0x2000 ∧ sub = 0x14 then
    (if p != .pf0 then some 0x0109 else if !twin.boot.powered || !modeIn [2, 3] twin then some 0x0104 else none)
  else none

/-- WRITE: access code, mode, then the segment or the value. More data than the buffer holds are answered with LENGTH (15 R461; 21
R624). -/
def writeC (p : Path) (lead : Bool) (index sub : Nat) (first last : Bool) (off total : Nat) (data : List Byte) (twin : Channel) : Channel → Channel :=
  entryGate p index sub (fun r c =>
    if r.access = 1 ∨ r.access = 4 then refuse 0x0103 index sub p c
    else if !r.mask.testBit (modeCode c.boot.mode - 1) then refuse 0x0104 index sub p c
    else if dataMost p < data.length then answer p 3 [] c
    else match firmwareAbort p index sub twin with
      | some e => refuse e index sub p c
      | none =>
        rebody p (fun _ => writeHead index sub (off + data.length)) c
          (if r.ty = 0x0F then writeSegment p lead first last r index sub off total data twin c
           else if !first || !last || off != 0 then refuse 0x010A index sub p c
           else if total ≠ data.length then refuse 0x0106 index sub p c
           else writeValue p lead r index sub data twin c))
def execDictWrite (p : Path) (tag : U32) (index sub : Nat) (first last : Bool) (off total : Nat) (data : List Byte) (s : State) : Host.Outcome State Fault Refusal :=
  onPath p (.dictWrite p tag index sub first last off total data)
    (writeC p (pathChan s p == leadChan s) index sub first last off total data (chanOf s (pathChan s p).twin)) s

/-- WRITE_SESSION_TIMEOUT: the session ends as timed out; an image slot is INCOMPLETE then (21 R625, R631). -/
def writeSessionTimeoutC (p : Path) (key : Nat) (c : Channel) : Channel :=
  match sessionOf p key c with
  | none => c
  | some x =>
    if x.timedOut then c
    else putSession { x with timedOut := true, data := [] } (endSession p (key / 256) (key % 256) c)
def execWriteSessionTimeout (ch : Chan) (p : Path) (key : Nat) (s : State) : Host.Outcome State Fault Refusal :=
  onChan ch (writeSessionTimeoutC p key) s

/-! ### DESCRIBE, ABORT and ECHO -/

/-- The default as 8 bytes; 0 for STR and DOMAIN. -/
def describeBody (r : OdRow) (index sub : Nat) : List Byte :=
  [BitVec.ofNat 8 r.ty, BitVec.ofNat 8 r.access, BitVec.ofNat 8 r.mask, 0] ++ leBytes 4 r.maxLen ++
    leBytes 8 (if r.ty = 0x0F ∨ r.ty = 0x09 then 0 else dfltOf r index sub)

def describeC (p : Path) (index sub : Nat) : Channel → Channel :=
  entryGate p index sub (fun r c => answer p 0 (describeBody r index sub) c)
def execDictDescribe (p : Path) (tag : U32) (index sub : Nat) (s : State) : Host.Outcome State Fault Refusal :=
  onPath p (.dictDescribe p tag index sub) (describeC p index sub) s

def abortC (p : Path) (index sub : Nat) : Channel → Channel :=
  entryGate p index sub (fun _ c => answer p 0 [] (endSession p index sub c))
def execDictAbort (p : Path) (tag : U32) (index sub : Nat) (s : State) : Host.Outcome State Fault Refusal :=
  onPath p (.dictAbort p tag index sub) (abortC p index sub) s

/-- ECHO, an operation of the mailboxes alone: a body that its buffer cannot hold is answered with LENGTH (15 R461). -/
def echoC (p : Path) (body : List Byte) (c : Channel) : Channel :=
  match p with
  | .svc _ _ => c
  | _ =>
    if !pathLive p c then c
    else if noSleeve p c then answer p 2 [] c
    else if bufSize p < 8 + body.length then answer p 3 [] c
    else answer p 0 body c
def execEcho (p : Path) (tag : U32) (body : List Byte) (s : State) : Host.Outcome State Fault Refusal := onPath p (.echo p tag body) (echoC p body) s

/-! ### The service ports (17 R527; 21 R627, R628) -/

/-- Is a port's server in reach: service flag set and the port in normal mode, not bus-off? -/
def serviceUp (c : Channel) (n : Nat) : Bool :=
  runtimeUp c && (match kGet c.can n with | some p => p.cfg.service && canMode c p == 1 && !p.busOff | none => false)

/-- Is a transfer of a port in progress? -/
def transferring (p : Path) (c : Channel) : Bool := c.dict.sessions.any (fun x => x.path == p && !x.timedOut) || c.dict.copies.any (fun x => x.path == p)

/-- USDO_DOWNLOAD: a segment's offset is what has arrived so far. -/
def usdoDownloadC (n : Nat) (lead : Bool) (index sub : Nat) (first last : Bool) (total : Nat) (data : List Byte) (twin c : Channel) : Channel :=
  let p := Path.svc c.id n
  if !serviceUp c n then c
  else if first && transferring p c then refuse 0x0107 index sub p c
  else
    let off := if first then 0 else match sessionOf p (od index sub) c with | some x => x.data.length | none => 0
    writeC p lead index sub first last off total data twin c
def execUsdoDownload (ch : Chan) (n index sub : Nat) (first last : Bool) (total : Nat) (data : List Byte) (s : State) : Host.Outcome State Fault Refusal :=
  onChanTwin ch (usdoDownloadC n (ch == leadChan s) index sub first last total data) s

/-- USDO_UPLOAD: a request, or the next segment of the transfer in progress. -/
def usdoUploadC (br : Bridge) (n index sub off most : Nat) (c : Channel) : Channel :=
  let p := Path.svc c.id n
  if !serviceUp c n then c
  else if off = 0 && transferring p c then refuse 0x0107 index sub p c
  else if off ≠ 0 then
    match copyOf p (od index sub) c with
    | some v => returnPart p index sub 0x0F off most v c
    | none => refuse 0x010A index sub p c
  else readC br p index sub 0 most c
def execUsdoUpload (ch : Chan) (n index sub off most : Nat) (s : State) : Host.Outcome State Fault Refusal :=
  onChan ch (usdoUploadC s.bridge n index sub off most) s

/-- USDO_TIMEOUT: the transfer in progress ends with TIMEOUT. -/
def usdoTimeoutC (n : Nat) (c : Channel) : Channel :=
  let p := Path.svc c.id n
  match c.dict.sessions.find? (fun x => x.path == p && !x.timedOut) with
  | some x => refuse 0x010B (x.key / 256) (x.key % 256) p (endSession p (x.key / 256) (x.key % 256) c)
  | none =>
    match c.dict.copies.find? (fun x => x.path == p) with
    | some x => refuse 0x010B (x.key / 256) (x.key % 256) p (dropCopy p c)
    | none => c
def execUsdoTimeout (ch : Chan) (n : Nat) (s : State) : Host.Outcome State Fault Refusal := onChan ch (usdoTimeoutC n) s

/-- HEARTBEAT: state byte 0x05 on 0x700 + node ID; a period of 0 sends none (21 R627, R628). -/
def heartbeatC (n : Nat) (c : Channel) : Channel :=
  match kGet c.can n with
  | none => c
  | some p =>
    if serviceUp c n && entryNat c 0x1017 0 1000 != 0 then
      emit (.can n { id := 0x700 + nodeOf c p.cfg, ext := false, fd := true, brs := p.cfg.data != 0, rtr := false, esi := false, data := [5] }) c
    else c
def execHeartbeat (ch : Chan) (n : Nat) (s : State) : Host.Outcome State Fault Refusal := onChan ch (heartbeatC n) s

end Sys2Proof.Machine
end

