-- ==== Sys2Proof/Machine/HostPort.lean ====
section
/-! DEFINITION. The Host Window and its mailboxes (07 R229 to R239; 15 R461), and the registers and resets of the host bridge
(15 R449 to R460; 22 R640). -/
namespace Sys2Proof.Machine

/-- Are a channel's host registers and window in reach: from phase B1 on (15 R455)? -/
def hostUp (c : Channel) : Bool := c.boot.powered && decide (1 ≤ c.boot.phase ∧ c.boot.phase ≠ 16)

/-- An access through a function of the bridge; a service port has none. -/
def onFn (p : Path) (k : Nat → Channel → Channel) (c : Channel) : Channel :=
  match p with
  | .svc _ _ => c
  | _ => if hostUp c then k (pathFn p) c else c

/-! ### Mailboxes -/

/-- Is an operation one that a mailbox knows (15 R461; 21 R624)? -/
def knownOp (op : Nat) : Bool := [1, 0x0101, 0x0102, 0x0103, 0x0104].contains op

def dropMail (f : Nat) (c : Channel) : Channel := { c with host := { c.host with mail := c.host.mail.filter (fun m => m.fn != f) } }

/-- A request as the module takes it: its header, and the answers that need no operation (15 R461). -/
def mailTaken (f w : Nat) (c : Channel) : MailReq :=
  let head := winRead c (areaBase f + 8) 8
  let op := leAt head 0 2
  let st : Option Nat :=
    if areaSize f - 8 < lenOf w ∨ lenOf w < 8 then some 3
    else if 1 ≤ f ∧ f ≤ 64 ∧ !kHas c.sleeves (f - 1) then some 2
    else if !knownOp op then some 1 else none
  { fn := f, tag := BitVec.ofNat 32 (leAt head 4 4), op := op, status := st.getD 0, body := [], seq := seqOf w, ready := st.isSome }

/-- A protocol error (07 R239). -/
def protocolError (f w : Nat) (c : Channel) : Channel :=
  mailboxEvent f (bump 0x3000 0x0C (writeOwner f (ownerWord 1 (seqOf w) 0) (dropMail f c)))

/-- A 64-bit Swap on an owner word: the request is handed over, or a protocol error; a Swap that leaves it with the host hands
nothing over (07 R237, R239; 12 R371). A word that did not have OWNER = HOST is a protocol error whatever the new one is. SEQ is one up on
the word's (07 R235). -/
def handOver (f old w : Nat) (c : Channel) : Channel :=
  if !runtimeUp c then c
  else if ownerOf old ≠ 1 then protocolError f w c
  else if ownerOf w = 1 then c
  else if ownerOf w ≠ 2 ∨ seqOf w ≠ (seqOf old + 1) % 65536 then protocolError f w c
  else
    let c1 := dropMail f c
    let c2 := { c1 with host := { c1.host with mail := c1.host.mail ++ [mailTaken f w c] } }
    if f ≤ 64 then post (.hostCmd (.request f (seqOf w))) c2 else c2

/-- MAILBOX_RESPONSE: the response into the buffer, the owner word swapped back, the mailbox event (07 R238). The module writes only while
OWNER is MODULE: an owner word that is no longer as the host handed it over is a protocol error (R239; log entry 48). -/
def mailboxResponseC (p : Path) (c : Channel) : Channel :=
  match c.host.mail.find? (fun m => m.fn == pathFn p && m.ready) with
  | none => c
  | some m =>
    let f := m.fn
    let w := readOwner f c
    if ownerOf w ≠ 2 ∨ seqOf w ≠ m.seq then protocolError f w c
    else
    let c1 := winWrite (areaBase f + 8) (leBytes 2 m.op ++ leBytes 2 m.status ++ leBytes 4 m.tag.toNat ++ m.body) (dropMail f c)
    mailboxEvent f (bump 0x3000 6 (writeOwner f (ownerWord 1 m.seq (8 + m.body.length)) c1))
def execMailboxResponse (p : Path) (s : State) : Host.Outcome State Fault Refusal := onPath p (.mailboxResponse p) (mailboxResponseC p) s

/-! ### Accesses to the Host Window -/

/-- An AtomicOp: Unsupported Request outside the area or at another size, Completer Abort off its alignment (07 R222, R224, R229,
R237). A plain internal read of the word in the same bank cycle, which `hit` tells of, replays (R220, R223). `k` is what follows, with the
old and the new word. -/
def atomicC (p : Path) (off size : Nat) (hit : Bool) (f : Nat → Nat) (k : Nat → Nat → Nat → Channel → Channel) : Channel → Channel :=
  onFn p (fun fn c =>
    if (size ≠ 4 ∧ size ≠ 8) ∨ areaSize fn < off + size then emit (.unsupported fn) c
    else if off % size ≠ 0 then emit (.completerAbort fn) c
    else
      let a := areaBase fn + off
      let old := leNat (winRead c a size)
      let new := f old % 256 ^ size
      k fn old new (emit (.completion fn 0 (leBytes size old)) (bumpN 0x3000 5 (b01 hit) (bump 0x3000 6 (winWrite a (leBytes size new) c)))))

def atomicSwapC (p : Path) (off size : Nat) (v : U64) (hit : Bool) : Channel → Channel :=
  atomicC p off size hit (fun _ => v.toNat) (fun fn old new c => if off = 0 ∧ size = 8 then handOver fn old new c else c)
def execHostAtomicSwap (p : Path) (off size : Nat) (x : AtomicArg) (s : State) : Host.Outcome State Fault Refusal :=
  onPath p (.hostAtomicSwap p off size x) (atomicSwapC p off size x.v x.hit) s

def atomicFetchaddC (p : Path) (off size : Nat) (v : U64) (hit : Bool) : Channel → Channel :=
  atomicC p off size hit (fun old => old + v.toNat) (fun _ _ _ c => c)
def execHostAtomicFetchadd (p : Path) (off size : Nat) (x : AtomicArg) (s : State) : Host.Outcome State Fault Refusal :=
  onPath p (.hostAtomicFetchadd p off size x) (atomicFetchaddC p off size x.v x.hit) s

/-- HOST_ATOMIC_CAS is not executed (07 R237). -/
def atomicCasC (p : Path) : Channel → Channel := onFn p (fun fn c => emit (.unsupported fn) c)
def execHostAtomicCas (p : Path) (off size : Nat) (cmp v : U64) (s : State) : Host.Outcome State Fault Refusal :=
  onPath p (.hostAtomicCas p off size cmp v) (atomicCasC p) s

/-- A collision at a word of the window (07 R231, R232). -/
def collide (f a : Nat) (c : Channel) : Channel :=
  let r := fnGet c f
  let c1 := fnPut f { r with hwstat := r.hwstat ||| (if r.hwstat.getLsbD 0 then 2 else 1), hwcoll := BitVec.ofNat 32 (a / 8 * 8) } (bump 0x3000 0x0A c)
  let c2 := if c1.host.hbusy then c1 else emit (.hbusy true) (bump 0x3000 0x0B c1)
  { c2 with host := { c2.host with hbusy := true, hbusyEnd := c2.time.up + 1000 } }

/-- A completion's data with the 8 bytes of word `w` undefined, given the word the read finds instead. -/
def spoilWord (off w : Nat) (v : U64) (d : List Byte) : List Byte :=
  (List.range d.length).zip d |>.map (fun x => if (off + x.1) / 8 = w then BitVec.ofNat 8 (v.toNat / 256 ^ ((off + x.1) % 8)) else x.2)

/-- HOST_WINDOW_READ; `hit` is the word of the area that an internal write meets in the same bank cycle (07 R231). -/
def windowReadC (p : Path) (off len : Nat) (hit : Option Nat) : Channel → Channel :=
  onFn p (fun f c =>
    if areaSize f < off + len then emit (.unsupported f) c
    else
      let d := winRead c (areaBase f + off) len
      match hit with
      | some w =>
        if off / 8 ≤ w ∧ w * 8 < off + len then
          let x := draw c
          emit (.completion f 0 (spoilWord off w x.1 d)) (collide f (areaBase f + 8 * w) x.2)
        else emit (.completion f 0 d) c
      | none => emit (.completion f 0 d) c)
def execHostWindowRead (p : Path) (off len : Nat) (hit : Option Nat) (s : State) : Host.Outcome State Fault Refusal :=
  onPath p (.hostWindowRead p off len hit) (windowReadC p off len hit) s

/-- HOST_WINDOW_WRITE takes effect; an internal reader of word `hit` replays (07 R220, R230). -/
def windowWriteC (p : Path) (off : Nat) (data : List Byte) (hit : Option Nat) : Channel → Channel :=
  onFn p (fun f c =>
    if areaSize f < off + data.length then emit (.unsupported f) c
    else
      let c1 := winWrite (areaBase f + off) data c
      match hit with
      | some w => if off / 8 ≤ w ∧ w * 8 < off + data.length then bump 0x3000 5 c1 else c1
      | none => c1)
def execHostWindowWrite (p : Path) (off : Nat) (data : List Byte) (hit : Option Nat) (s : State) : Host.Outcome State Fault Refusal :=
  onPath p (.hostWindowWrite p off data hit) (windowWriteC p off data hit) s

/-- HBUSY_PULSE_END: 1 µs after the latest collision. -/
def hbusyPulseEndC (c : Channel) : Channel :=
  if c.host.hbusy then
    let c1 := upTo c.host.hbusyEnd c
    emit (.hbusy false) { c1 with host := { c1.host with hbusy := false } }
  else c
def execHbusyPulseEnd (ch : Chan) (s : State) : Host.Outcome State Fault Refusal := onChan ch hbusyPulseEndC s

/-! ### BAR0 registers (15 R455 to R460) -/

/-- A ring right after reset; the values the spec does not give are 0 (log entry 26). -/
def ringReset (r : Nat) : Ring :=
  { txBase := 0, txSize := 0, txTail := 0, txHead := 0, txWb := 0, rxBase := 0, rxSize := 0, rxTail := 0, rxHead := 0, rxBuf := 0, rxWb := 0,
    itr := 0, bcast := r == 0, rxEn := false, txEn := false, tailErr := false, txDmaErr := false, rxIdle := true, txIdle := true,
    resumed := false, maxFrame := 1518, txIntPend := false, rxIntPend := false, txIntAt := 0, rxIntAt := 0,
    txSeq := 0, rxSeq := 0 }
def ringGet (c : Channel) (r : Nat) : Ring := (kGet c.host.rings r).getD (ringReset r)
def ringPut (r : Nat) (x : Ring) (c : Channel) : Channel := { c with host := { c.host with rings := kPut c.host.rings r x } }

/-- RINGCTL as it reads. -/
def ringCtl (x : Ring) : U32 := BitVec.ofNat 32 (x.itr * 4194304 + b01 x.bcast * 4 + b01 x.rxEn * 2 + b01 x.txEn)

/-- Sources that a function's EVEN may enable (15 R484). -/
def evenMask (f g : Nat) : U32 :=
  if 1 ≤ f ∧ f ≤ 64 then (List.range 32).foldl (fun m i => if sleeveVisible (32 * g + i) then m ||| (1#32 <<< i) else m) 0 else BitVec.allOnes 32

def ringSizeOk (v : Nat) : Bool := [64, 128, 256, 512, 1024, 2048, 4096].contains v

/-- A write to RINGCTL: a VF without a sleeve cannot enable its ring (15 R457, R459). -/
def putRingCtl (r : Nat) (w : U32) (c : Channel) : Channel :=
  let x := ringGet c r
  let may := r == 0 || kHas c.sleeves (r - 1)
  let tx := w.getLsbD 0 && (x.txEn || may)
  let rx := w.getLsbD 1 && (x.rxEn || may)
  ringPut r { x with itr := min (w.toNat / 4194304) 1000, bcast := w.getLsbD 2, txEn := tx, rxEn := rx, txIdle := !tx && !kHas c.host.sends r,
                     rxIdle := !rx } c

/-- The 32-bit registers of a ring. Bases, sizes and MAXFRAME change only while their side is disabled; a value outside its range
is ignored (log entry 26). -/
def putRing32 (r off : Nat) (w : U32) (c : Channel) : Channel :=
  let x := ringGet c r
  let n := w.toNat
  if off = 0x1008 then (if !x.txEn && ringSizeOk n then ringPut r { x with txSize := n } c else c)
  else if off = 0x100C then ringPut r (if n < x.txSize then { x with txTail := n } else { x with tailErr := true }) c
  else if off = 0x1028 then (if !x.rxEn && ringSizeOk n then ringPut r { x with rxSize := n } c else c)
  else if off = 0x102C then ringPut r (if n < x.rxSize then { x with rxTail := n } else { x with tailErr := true }) c
  else if off = 0x1034 then (if !x.rxEn && n % 256 == 0 && inRange n 256 16384 then ringPut r { x with rxBuf := n } c else c)
  else if off = 0x1040 then putRingCtl r w c
  else if off = 0x1044 then
    ringPut r { x with tailErr := x.tailErr && !w.getLsbD 4, txDmaErr := x.txDmaErr && !w.getLsbD 3, resumed := x.resumed && !w.getLsbD 0 } c
  else if off = 0x1048 then (if !x.txEn && inRange n 64 2048 then ringPut r { x with maxFrame := n } c else c)
  else c

/-- The 64-bit registers of a ring, as their high half is written. -/
def putRing64 (r off : Nat) (v : U64) (c : Channel) : Channel :=
  let x := ringGet c r
  let a (n : Nat) : U64 := BitVec.ofNat 64 (v.toNat / n * n)
  if off = 0x1000 then (if x.txEn then c else ringPut r { x with txBase := a 128 } c)
  else if off = 0x1018 then (if x.txEn then c else ringPut r { x with txWb := a 8 } c)
  else if off = 0x1020 then (if x.rxEn then c else ringPut r { x with rxBase := a 128 } c)
  else if off = 0x1038 then (if x.rxEn then c else ringPut r { x with rxWb := a 8 } c)
  else c

def wideRegs : List Nat := [0x1000, 0x1018, 0x1020, 0x1038]

/-- A 32-bit write to a register of function `f`. FSTAT is the bridge's. -/
def reg32 (f off : Nat) (w : U32) (c : Channel) : Channel :=
  let r := fnGet c f
  if off % 4 ≠ 0 then c
  else if off = 0x0008 then fnPut f { r with hwstat := r.hwstat &&& ~~~(w &&& 3) } c
  else if inRange off 0x20 0x2C then fnPut f { r with even := zPut r.even ((off - 0x20) / 4) (w &&& evenMask f ((off - 0x20) / 4)) } c
  else if inRange off 0x30 0x3C then fnPut f { r with pend := zPut r.pend ((off - 0x30) / 4) (zGet r.pend ((off - 0x30) / 4) &&& ~~~w) } c
  else if inRange off 0x100 0x17C then
    fnPut f { r with vec := (List.range 4).foldl (fun m i => zPut m (off - 0x100 + i) (w.extractLsb' (8 * i) 8)) r.vec } c
  else if 65 ≤ f then c
  else if wideRegs.contains off then fnPut f { r with latch := zPut r.latch off w } c
  else if wideRegs.contains (off - 4) && decide (4 ≤ off) then putRing64 f (off - 4) (BitVec.ofNat 64 (w.toNat * 4294967296 + (zGet r.latch (off - 4)).toNat)) c
  else putRing32 f off w c

/-- A write to BAR0 as it takes effect on a channel. -/
def regApply (f off size : Nat) (v : U64) (c : Channel) : Channel :=
  if size = 8 then reg32 f (off + 4) (v.extractLsb' 32 32) (reg32 f off (v.setWidth 32) c)
  else if size = 4 then reg32 f off (v.setWidth 32) c else c

/-- A write that the lead channel accepts for PF0 or a VF is a host command (12 R371; 15 R460; 20 R608). -/
def regTaken (f off size : Nat) (v : U64) (c : Channel) : Channel :=
  if f ≤ 64 then post (.hostCmd (.reg f off size v)) (if runtimeUp c then journalAdd 3 f 0xFF [] c else c) else c

/-- REGISTER_WRITE, and each register write that has a row of its own. -/
def registerWriteC (p : Path) (off size : Nat) (v : U64) : Channel → Channel := onFn p (fun f c => regTaken f off size v (regApply f off size v c))

/-- FSTAT.TAKEOVER of a function cleared (15 R457): a bit of the shared bridge. -/
def clearTakeover (p : Path) (s : State) : State :=
  if bridgeCarries s p then
    match p with
    | .pf0 => { s with bridge := { s.bridge with takeover := s.bridge.takeover &&& ~~~1#65 } }
    | .vf n => { s with bridge := { s.bridge with takeover := s.bridge.takeover &&& ~~~(1#65 <<< n) } }
    | _ => s
  else s

/-- Does a write to BAR0 clear FSTAT.TAKEOVER? -/
def writesTakeover (off size : Nat) (v : U64) : Bool := (off == 4 && v.getLsbD 3) || (off == 0 && size == 8 && v.getLsbD 35)

def execRegisterWrite (p : Path) (off size : Nat) (v : U64) (s : State) : Host.Outcome State Fault Refusal :=
  onPath p (.registerWrite p off size v) (registerWriteC p off size v) (if writesTakeover off size v && !bridgeHolds s then clearTakeover p s else s)

/-- HWSTAT_W1C; `again` tells of a new collision in the same bank cycle, which leaves the bits set (07 R233). -/
def execHwstatW1c (p : Path) (mask : U32) (again : Bool) (s : State) : Host.Outcome State Fault Refusal :=
  onPath p (.hwstatW1c p mask again) (registerWriteC p 8 4 (if again then 0 else mask.setWidth 64)) s

def execFstatW1c (p : Path) (mask : U32) (s : State) : Host.Outcome State Fault Refusal :=
  onPath p (.fstatW1c p mask) (registerWriteC p 4 4 (mask.setWidth 64)) (if mask.getLsbD 3 && !bridgeHolds s then clearTakeover p s else s)

/-- EVPEND_W1C; `raised` are the bits whose sources raise in the same cycle: they stay (22 R640). -/
def evpendW1cC (p : Path) (grp : Nat) (mask raised : U32) : Channel → Channel :=
  if 4 ≤ grp then (fun c => c) else registerWriteC p (0x30 + 4 * grp) 4 ((mask &&& ~~~raised).setWidth 64)
def execEvpendW1c (p : Path) (grp : Nat) (mask raised : U32) (s : State) : Host.Outcome State Fault Refusal :=
  onPath p (.evpendW1c p grp mask raised) (evpendW1cC p grp mask raised) s

def execRingstatW1c (p : Path) (mask : U32) (s : State) : Host.Outcome State Fault Refusal :=
  onPath p (.ringstatW1c p mask) (registerWriteC p 0x1044 4 (mask.setWidth 64)) s

/-- A bit of RINGCTL set or cleared, the rest as it stands. -/
def ringBit (p : Path) (bit : Nat) (on : Bool) (c : Channel) : Channel :=
  let w := ringCtl (ringGet c (pathFn p))
  let m := 1#32 <<< bit
  registerWriteC p 0x1040 4 ((if on then w ||| m else w &&& ~~~m).setWidth 64) c
def execTxEnable (p : Path) (s : State) : Host.Outcome State Fault Refusal := onPath p (.txEnable p) (ringBit p 0 true) s
def execTxDisable (p : Path) (s : State) : Host.Outcome State Fault Refusal := onPath p (.txDisable p) (ringBit p 0 false) s
def execRxEnable (p : Path) (s : State) : Host.Outcome State Fault Refusal := onPath p (.rxEnable p) (ringBit p 1 true) s
def execRxDisable (p : Path) (s : State) : Host.Outcome State Fault Refusal := onPath p (.rxDisable p) (ringBit p 1 false) s

def execTxtailWrite (p : Path) (v : Nat) (s : State) : Host.Outcome State Fault Refusal :=
  onPath p (.txtailWrite p v) (registerWriteC p 0x100C 4 (BitVec.ofNat 64 v)) s
def execRxtailWrite (p : Path) (v : Nat) (s : State) : Host.Outcome State Fault Refusal :=
  onPath p (.rxtailWrite p v) (registerWriteC p 0x102C 4 (BitVec.ofNat 64 v)) s

/-! ### The bridge itself -/

/-- A ring is disabled with its function: a send in progress ends there, with no completion (log entry 26). -/
def disableRing (r : Nat) (c : Channel) : Channel :=
  let x := ringGet c r
  let c1 := { c with host := { c.host with sends := kDel c.host.sends r } }
  if kHas c.host.rings r then ringPut r { x with txEn := false, rxEn := false, txIdle := true, rxIdle := true } c1 else c1
def disableVfRings (c : Channel) : Channel := (List.range 64).foldl (fun c n => disableRing (n + 1) c) c
def clearEven (f : Nat) (c : Channel) : Channel := fnPut f { fnGet c f with even := [] } c

/-- Both channels hold the settings of PF0 and the VFs. -/
def onHostBoth (f : Channel → Channel) (s : State) : State :=
  let g (c : Channel) : Channel := if hostUp c then f c else c
  { s with a := g s.a, b := g s.b }

/-- FUNCTION_LEVEL_RESET (15 R453). -/
def flrNow (p : Path) (s : State) : State :=
  match p with
  | .pf0 =>
    let s1 := { s with bridge := { s.bridge with vfEnable := false } }
    onHostBoth (fun c => disableVfRings (disableRing 0 c)) s1
  | .vf n => onHostBoth (fun c => clearEven n (disableRing n c)) s
  | .pf1 => { s with a := if hostUp s.a then clearEven 65 s.a else s.a }
  | .pf2 => { s with b := if hostUp s.b then clearEven 65 s.b else s.b }
  | .svc _ _ => s
def execFunctionLevelReset (p : Path) (s : State) : Host.Outcome State Fault Refusal :=
  if !bridgeCarries s p then .next s
  else if pathBoth p && bridgeHolds s then .next (holdRequest (.functionLevelReset p) s)
  else .next (flrNow p s)

/-- PERST_ASSERTED resets the bridge alone: the link is down, VFs are disabled, what was held is lost (15 R449). -/
def execPerstAsserted (s : State) : Host.Outcome State Fault Refusal :=
  .next { s with bridge := { s.bridge with perst := true, speed := 0, width := 0, vfEnable := false, numVfs := 0, takeover := 0, held := [] } }

/-- LINK_TRAINED: to a speed code of OD 2A00:02 and a width (15 R449). -/
def execLinkTrained (speed width : Nat) (s : State) : Host.Outcome State Fault Refusal :=
  let up := s.supply.st == .normal || s.supply.st == .warning
  if up && !s.bridge.failed && inRange speed 1 4 && [1, 2, 4].contains width then
    .next { s with bridge := { s.bridge with perst := false, speed := speed, width := width } }
  else .next s

/-- HOST_BRIDGE_FAILURE: host access is lost until the module restarts (01 R20). -/
def execHostBridgeFailure (s : State) : Host.Outcome State Fault Refusal :=
  .next { s with bridge := { s.bridge with failed := true, speed := 0, width := 0, held := [] } }

/-- VF_ENABLE_WRITE: NumVFs changes only while VF Enable is clear; clearing it disables every VF and its ring (15 R450, R453). -/
def execVfEnableWrite (enable : Bool) (n : Nat) (s : State) : Host.Outcome State Fault Refusal :=
  if !bridgeCarries s .pf0 then .next s
  else if enable then
    (if s.bridge.vfEnable || !inRange n 1 64 then .next s else .next { s with bridge := { s.bridge with vfEnable := true, numVfs := n } })
  else .next (onHostBoth disableVfRings { s with bridge := { s.bridge with vfEnable := false } })

end Sys2Proof.Machine
end

