-- ==== Sys2Proof/Machine/HostMac.lean ====
section
/-! DEFINITION. The host MAC: sends, segments, spoof checks, reception and ring interrupts (15 R464 to R483; 16 R504). -/
namespace Sys2Proof.Machine

/-! ### Descriptors (15 R466 to R468) -/

def dKind (d : List Byte) : Nat := leAt d 15 1
def dFlags (d : List Byte) : Nat := leAt d 12 1
def dLen (d : List Byte) : Nat := leAt d 8 4

/-- A context descriptor's fields: MSS, header length, L3 and L4 offsets, L3 type, payload length. -/
structure TxContext where
  mss : Nat
  header : Nat
  l3 : Nat
  l4 : Nat
  v6 : Bool
  payload : Nat
  deriving DecidableEq, Repr

def contextOf (d : List Byte) : TxContext :=
  { mss := leAt d 0 2, header := leAt d 2 2, l3 := leAt d 4 1, l4 := leAt d 5 1, v6 := leAt d 6 1 == 1, payload := leAt d 8 4 }

def contextOk (d : List Byte) : Bool :=
  let x := contextOf d
  inRange x.mss 64 1980 && inRange x.header 54 256 && inRange x.l3 14 22 && leAt d 6 1 ≤ 1 && leAt d 7 1 == 0 && leAt d 12 3 == 0

def dataDescOk (seg : Bool) (d : List Byte) : Bool :=
  dKind d == 1 && leAt d 14 1 == 0 && dFlags d < 16 && (dFlags d).testBit 1 == seg && inRange (dLen d) 1 262144

/-- The context of a send that carries SEG. -/
def sendContext (l : List (List Byte)) : Option TxContext :=
  match l with
  | d :: _ => if dKind d = 2 then some (contextOf d) else none
  | [] => none

/-- The data descriptors of a send. -/
def dataDescs (l : List (List Byte)) : List (List Byte) := match sendContext l with | some _ => l.drop 1 | none => l

/-- EOP closes the last data descriptor and no other. -/
def eopOk : List (List Byte) → Bool
  | [] => false
  | [d] => (dFlags d).testBit 0
  | d :: r => !(dFlags d).testBit 0 && eopOk r

/-- Is a send MALFORMED (15 R468)? -/
def malformed (maxFrame : Nat) (l : List (List Byte)) : Bool :=
  let ds := dataDescs l
  let total := sumOf dLen ds
  let ok := decide (l.length ≤ 32 ∧ total ≤ 262144) && eopOk ds &&
    (match sendContext l with
     | some x => contextOk (l.headD []) && ds.all (dataDescOk true) && decide (x.header + x.mss + 4 ≤ maxFrame) && total == x.header + x.payload
     | none => ds.all (dataDescOk false) && decide (total + 4 ≤ maxFrame))
  !ok

/-- How many frames a send is (15 R475). -/
def frameCount (l : List (List Byte)) : Nat := match sendContext l with | some x => cdiv x.payload (max x.mss 1) | none => 1

/-! ### Segments and checksums (15 R466, R475) -/

def be16 (l : List Byte) (o : Nat) : Nat := leNat (slice l o 2).reverse
def be32 (l : List Byte) (o : Nat) : Nat := leNat (slice l o 4).reverse

/-- Bytes put at a place of a list. -/
def putBytes (l : List Byte) (o : Nat) (v : List Byte) : List Byte := l.take o ++ v ++ l.drop (o + v.length)

/-- Sum of the 16-bit words of a list, an odd last byte padded. -/
def sumWords : List Byte → Nat
  | [] => 0
  | [a] => a.toNat * 256
  | a :: b :: r => a.toNat * 256 + b.toNat + sumWords r

def fold16 (n : Nat) : Nat := let a := n % 65536 + n / 65536; let b := a % 65536 + a / 65536; b % 65536 + b / 65536
/-- The internet checksum of a sum of words. -/
def checksum (n : Nat) : List Byte := beBytes 2 (65535 - fold16 n)

/-- The IPv4 header checksum inserted at L3 offset `o`. -/
def putIpSum (o : Nat) (l : List Byte) : List Byte :=
  let n := leAt l o 1 % 16 * 4
  let z := putBytes l (o + 10) [0, 0]
  putBytes z (o + 10) (checksum (sumWords (slice z o n)))

/-- The TCP or UDP checksum inserted, over the pseudo-header and what follows L4 offset `o4`. -/
def putL4Sum (v6 : Bool) (proto o o4 : Nat) (l : List Byte) : List Byte :=
  let at_ := o4 + (if proto = 17 then 6 else 16)
  let z := putBytes l at_ [0, 0]
  let addrs := if v6 then slice z (o + 8) 32 else slice z (o + 12) 8
  putBytes z at_ (checksum (sumWords addrs + proto + (z.drop o4).length + sumWords (z.drop o4)))

/-- Segment `k` of `n` of a SEG send's bytes after its Ethernet header; `l2` is that header's length. -/
def segmentBytes (x : TxContext) (flags l2 n k : Nat) (l : List Byte) : List Byte :=
  let head := l.take (x.header - l2)
  let data := slice l (x.header - l2 + k * x.mss) (min x.mss (x.payload - k * x.mss))
  let o := x.l3 - l2
  let o4 := x.l4 - l2
  let h1 := if x.v6 then putBytes head (o + 4) (beBytes 2 (x.header - x.l3 - 40 + data.length))
    else putBytes (putBytes head (o + 2) (beBytes 2 (x.header - x.l3 + data.length))) (o + 4) (beBytes 2 ((be16 head (o + 4) + k) % 65536))
  let h2 := putBytes h1 (o4 + 4) (beBytes 4 ((be32 head (o4 + 4) + k * x.mss) % 4294967296))
  let fl := leAt head (o4 + 13) 1
  let keep := (if k + 1 = n then 255 else 246) &&& (if k = 0 then 255 else 127)
  let h3 := putBytes h2 (o4 + 13) [BitVec.ofNat 8 (fl &&& keep)]
  let all := (if flags.testBit 2 && !x.v6 then putIpSum o h3 else h3) ++ data
  if flags.testBit 3 then putL4Sum x.v6 6 o o4 all else all

/-- The checksums of a send without SEG, found from its ethertype. -/
def plainSums (flags ether : Nat) (l : List Byte) : List Byte :=
  if ether = 0x0800 then
    let a := if flags.testBit 2 then putIpSum 0 l else l
    if flags.testBit 3 then putL4Sum false (leAt l 9 1) 0 (leAt l 0 1 % 16 * 4) a else a
  else if ether = 0x86DD then (if flags.testBit 3 then putL4Sum true (leAt l 6 1) 0 40 l else l)
  else l

/-- Frame `k` of a send whose frame, header and data is `f`. -/
def sendFrame (l : List (List Byte)) (k : Nat) (f : Frame) : Frame :=
  let flags := dFlags ((dataDescs l).headD [])
  let l2 := match f.vlan with | some _ => 18 | none => 14
  match f.body with
  | .other e pay =>
    (match sendContext l with
     | some x =>
       let b := segmentBytes x flags l2 (frameCount l) k pay
       { f with body := .other e b, len := max 64 (l2 + b.length + 4), head := (f.head.take l2 ++ b).take 128 }
     | none =>
       let b := plainSums flags e pay
       { f with body := .other e b, head := (f.head.take l2 ++ b).take 128 })
  | _ => f

/-! ### Spoof checks (16 R504) -/

def idOf (f : Frame) : List Byte := match f.body with | .sv _ _ _ (a :: _) => a.svID | .goose g => g.goID | _ => []

/-- Is an ethertype permitted to a sleeve (15 R477; 16 R504)? -/
def etherPermitted (s : SleeveRec) (e : Nat) : Bool :=
  if s.ethertypes.isEmpty then [0x0800, 0x0806, 0x86DD].contains e else s.ethertypes.contains e

def etherBarred (e : Nat) : Bool := [0x8808, 0x88F7, 0x88FB].contains e

/-- The first check that a frame of a sleeve fails: its cause. -/
def spoofCause (s : SleeveRec) (f : Frame) : Option Nat :=
  let e := etherOf f
  if !(decide (s.macBase.toNat ≤ f.src.toNat ∧ f.src.toNat < s.macBase.toNat + 2 ^ s.macLog2)) then some 1
  else if (match f.vlan with | some t => !(s.vlans.contains t.vid && decide (t.pcp ≤ s.maxPcp)) | none => false) then some 2
  else if etherBarred e || !etherPermitted s e then some 3
  else if (match f.body with
    | .goose g => !inRange g.appid s.gooseLo s.gooseHi
    | .sv a _ _ _ => !inRange a s.svLo s.svHi
    | _ => false) then some 4
  else if (e == 0x88B8 || e == 0x88BA) && !isPrefix s.idPrefix (idOf f) then some 5
  else none

/-- The checks of a frame of a ring (15 R471): what goes on, or none with the violation counted. -/
def spoofCheck (r : Nat) (f : Frame) (c : Channel) : Option Frame × Channel :=
  if r = 0 then
    let g := { f with src := hostMac c, head := if f.head.length < 12 then f.head else putBytes f.head 6 (beBytes 6 (hostMac c).toNat) }
    if etherBarred (etherOf g) then (none, bump 0x9600 3 c) else (some g, c)
  else
    match kGet c.sleeves (r - 1) with
    | none => (none, bump (0x9600 + r) 3 c)
    | some s => match spoofCause s.cfg f with
      | some k => (none, spoof k (r - 1) r (bump (0x9600 + r) 3 c))
      | none => (some f, c)

/-! ### Transmission (15 R470 to R475) -/

/-- Has a ring work: a send in progress, or one that is ready while TXEN is set? -/
def txWork (c : Channel) (r : Nat) : Bool :=
  let x := ringGet c r
  kHas c.host.sends r || (x.txEn && x.txTail != x.txHead)

/-- The ring whose turn it is, in round robin after the one served last. -/
def txTurn (c : Channel) : Option Nat := ((List.range 65).map (fun i => (c.host.rr + 1 + i) % 65)).find? (txWork c)

/-- Has port 15's staging buffer, or in VOQ mode its partition, room for the whole frame (15 R472; 14 R428, R434)? -/
def port15Room (c : Channel) (f : Frame) : Bool :=
  if c.sw.cfg.voq then !partitionFull c 15 (cellsOf f) else !stagingFull c 15 f.len

def worst (a b : Nat) : Nat := max a b
def setRr (r : Nat) (c : Channel) : Channel := { c with host := { c.host with rr := r } }

/-- A write-back word: the head below, above it a sequence number that goes up by one with every write (15 R464; log entry 26). -/
def wbWord (head seq : Nat) : Nat := head + seq % 4294967296 * 4294967296

/-- A head written back to host memory: the word, and the ring's vector due (15 R464, R483). -/
def writeBackTx (r n : Nat) (c : Channel) : Channel :=
  let x := ringGet c r
  let h := (x.txHead + n) % max x.txSize 1
  emit (.hostWrite x.txWb (leBytes 8 (wbWord h (x.txSeq + 1)))) (ringPut r { x with txHead := h, txSeq := x.txSeq + 1, txIntPend := true, txIdle := !x.txEn } c)
def writeBackRx (r n : Nat) (c : Channel) : Channel :=
  let x := ringGet c r
  let h := (x.rxHead + n) % max x.rxSize 1
  emit (.hostWrite x.rxWb (leBytes 8 (wbWord h (x.rxSeq + 1)))) (ringPut r { x with rxHead := h, rxSeq := x.rxSeq + 1, rxIntPend := true } c)

/-- Host memory as a write-back leaves it (15 R465). -/
def noteTx (r : Nat) (before after : Channel) (t : State) : State :=
  let x := ringGet after r
  if (ringGet before r).txSeq = x.txSeq then t else { t with bridge := { t.bridge with wbTx := kPut t.bridge.wbTx r (wbWord x.txHead x.txSeq) } }
def noteRx (r : Nat) (before after : Channel) (t : State) : State :=
  let x := ringGet after r
  if (ringGet before r).rxSeq = x.rxSeq then t else { t with bridge := { t.bridge with wbRx := kPut t.bridge.wbRx r (wbWord x.rxHead x.rxSeq) } }

/-- A send completes with its status in the EOP descriptor. -/
def endSend (r status : Nat) (l : List (List Byte)) (c : Channel) : Channel :=
  let n := max 1 l.length
  let x := ringGet c r
  let eop := x.txBase.toNat + 16 * ((x.txHead + n - 1) % max x.txSize 1) + 13
  let c1 := { c with host := { c.host with sends := kDel c.host.sends r } }
  let c2 := writeBackTx r n (emit (.hostWrite (BitVec.ofNat 64 eop) [BitVec.ofNat 8 status]) c1)
  bump 0x2A00 8 (bump (0x9600 + r) 1 c2)

/-- A send that ends on a failed read (15 R473). -/
def dmaError (r : Nat) (l : List (List Byte)) (c : Channel) : Channel :=
  let c1 := ringPut r { ringGet c r with txDmaErr := true } (bump 0x2A00 0x0C (bump (0x9600 + r) 4 c))
  endSend r 3 l (raise 69 (if r = 0 then 0xFF else r - 1) r 0 c1)

/-- One turn of a ring: a frame or segment of its send. -/
def txFrameC (r : Nat) (d : TxFetch) (c0 : Channel) : Channel :=
  if !runtimeUp c0 || txTurn c0 != some r then c0
  else
    let c := setRr r c0
    let l := d.descs
    if !d.readOk then dmaError r l c
    else if malformed (ringGet c r).maxFrame l then endSend r 2 l (bump 0x2A00 0x0B (bump (0x9600 + r) 4 c))
    else
      let n := frameCount l
      let p := (kGet c.host.sends r).getD (0, 0)
      let next (st : Nat) (c : Channel) : Channel :=
        if n ≤ p.1 + 1 then endSend r (worst p.2 st) l (if (sendContext l).isSome then bump 0x2A00 0x0A c else c)
        else { c with host := { c.host with sends := kPut c.host.sends r (p.1 + 1, worst p.2 st) } }
      match spoofCheck r (sendFrame l p.1 d.frame) c with
      | (none, c1) => next 1 c1
      | (some f, c1) =>
        if !port15Room c1 f then bump 0x2A00 0x0D c1
        else next 0 (bump 0x2A00 9 (bump (0x9600 + r) 2 (fabricIn 15 (stampNow c1) f (bump 0x920F 2 c1))))
def execHostTxFrame (p : Path) (d : TxFetch) (s : State) : Host.Outcome State Fault Refusal :=
  match p with
  | .pf0 | .vf _ =>
    match onPath p (.hostTxFrame p d) (txFrameC (pathFn p) d) s with
    | .next t =>
      .next (noteTx (pathFn p) (chanOf s (pathChan s p)) (chanOf t (pathChan s p)) t)
    | o => o
  | _ => .next s

/-! ### Reception (15 R476 to R480) -/

/-- The descriptor of buffer `i` of a frame's `n` (15 R469). -/
def rxDesc (f : QFrame) (len buf n i : Nat) : List Byte :=
  (if i = 0 then leBytes 8 (f.ts / 65536) else zeroBytes 8) ++ leBytes 2 (min buf (len - i * buf)) ++
    [BitVec.ofNat 8 (b01 (i == 0) + 2 * b01 (i + 1 == n) + 4 * b01 f.frame.vlan.isSome), BitVec.ofNat 8 f.inPort] ++ zeroBytes 4

/-- Descriptors between RXHEAD and RXTAIL. -/
def rxFree (x : Ring) : Nat := (x.rxTail + x.rxSize - x.rxHead) % max x.rxSize 1

/-- Writes a frame into its reserved descriptors (15 R469, R478). -/
def rxWrite (r : Nat) (f : QFrame) (need : Nat) (bufs : List U64) (c : Channel) : Channel :=
  let x := ringGet c r
  let c1 := (List.range need).foldl (fun c i =>
    emit (.hostWrite (BitVec.ofNat 64 (x.rxBase.toNat + 16 * ((x.rxHead + i) % max x.rxSize 1))) (rxDesc f (f.frame.len - 4) x.rxBuf need i)) c)
    (emit (.rxFrame r f.frame (bufs.take need)) c)
  highWater 0x2A00 0x17 ((stampNow c1 - f.ts) / 65536) (writeBackRx r need (bump 0x2A00 0x0E (bump (0x9600 + r) 5 c1)))

/-- The next frame of a ring: checks 6 to 8 of R477, then written. -/
def rxFrameC (r : Nat) (d : RxFetch) (c0 : Channel) : Channel :=
  match c0.sw.hostIn.find? (fun x => x.1 == r) with
  | none => c0
  | some (_, f) =>
    let c := { c0 with sw := { c0.sw with hostIn := c0.sw.hostIn.erase (r, f) } }
    let x := ringGet c r
    let need := cdiv (f.frame.len - 4) (max x.rxBuf 1)
    let barred := r != 0 && (match kGet c.sleeves (r - 1) with | some s => !etherPermitted s.cfg (etherOf f.frame) | none => true)
    if !x.rxEn then bump 0x2A00 0x14 (bump (0x9600 + r) 7 c)
    else if barred then bump 0x2A00 0x15 (bump (0x9600 + r) 6 c)
    else if x.rxBuf = 0 ∨ rxFree x < need then
      raiseLimited 68 (if r = 0 then 0xFF else r - 1) r 0 r (bump 0x2A00 0x16 (bump (0x9600 + r) 8 c))
    else if !d.readOk then raise 69 (if r = 0 then 0xFF else r - 1) r 0 (ringPut r { x with txDmaErr := true } c)
    else rxWrite r f need d.bufs c
def execHostRxFrame (ch : Chan) (r : Nat) (d : RxFetch) (s : State) : Host.Outcome State Fault Refusal :=
  if s.bridge.failed || s.bridge.speed == 0 then .next s
  else match onChan ch (rxFrameC r d) s with
    | .next t => .next (noteRx r (chanOf s ch) (chanOf t ch) t)
    | o => o

/-- RING_INTERRUPT: after a write-back, at the earliest an ITR interval after the last one (15 R459, R483). -/
def ringInterruptC (r : Nat) (rx : Bool) (c : Channel) : Channel :=
  let x := ringGet c r
  if rx then
    (if x.rxIntPend then
      let c1 := upTo x.rxIntAt c
      emit (.msix r 2) (ringPut r { x with rxIntPend := false, rxIntAt := c1.time.up + x.itr * 1000 } c1)
     else c)
  else if x.txIntPend then
    let c1 := upTo x.txIntAt c
    emit (.msix r 1) (ringPut r { x with txIntPend := false, txIntAt := c1.time.up + x.itr * 1000 } c1)
  else c
def execRingInterrupt (p : Path) (rx : Bool) (s : State) : Host.Outcome State Fault Refusal :=
  match p with
  | .pf0 | .vf _ => onPath p (.ringInterrupt p rx) (ringInterruptC (pathFn p) rx) s
  | _ => .next s

end Sys2Proof.Machine
end

