-- ==== Sys2Proof/Machine/Memory.lean ====
section
/-! DEFINITION. ECC errors: where a scrub pass or an access finds them, and what follows by memory (01 R40 to R43; 07 R228; 18 R547;
22 R641); with the commands whose accesses may find one. Memories: 0 scratchpads, 1 commons, 2 Host Window, 3 Yoke buffer, 4 Pleat DRAM
ring, 5 mirror capture ring, 6 the rest of LPDDR5, 7 MRAM, 8 flash (log entry 28). -/
namespace Sys2Proof.Machine

/-- The memory code of a MEMORY_UE episode: the row of R41. -/
def ueRow (memory : Nat) : Nat := nth [0, 1, 1, 2, 3, 3, 4, 5, 6] memory 4

/-- A memory's corrected-error counter: OD 3000:08 and 3000:09 for the commons and the Host Window; the others no entry shows (R40). -/
def countCorrected (memory n : Nat) (c : Channel) : Channel :=
  bumpN 0x3000 (if memory = 1 then 8 else if memory = 2 then 9 else 0x80 + memory) n c

/-- The frames of the output queues, in order of port, queue and place. -/
def queuedFrames (c : Channel) : List (Nat × Nat × QFrame) :=
  queuedPorts.flatMap (fun p => (List.range 8).flatMap (fun q => (queueOf (portGet c p) q).map (fun f => (p, q, f))))

/-- A queued frame with a damaged word is dropped and counted (R41). -/
def dropQueued (x : Nat × Nat × QFrame) (c : Channel) : Channel :=
  let s := portGet c x.1
  bump 0x2900 0x0A (portPut x.1 { s with queues := kPut s.queues x.2.1 ((queueOf s x.2.1).erase x.2.2) } c)

/-! ### The Pleat DRAM ring (R41; 18 R547, R548) -/

/-- A segment header with DAMAGED set, and its CRC anew. -/
def damagedHeader (h : List Byte) : List Byte :=
  let a := h.take 12 ++ [nth h 12 0 ||| 2] ++ slice h 13 79
  a ++ leBytes 4 (crc32 (a ++ [0, 0, 0, 0] ++ h.drop 96)).toNat ++ h.drop 96

/-- Does a closed segment hold a row of a definition? -/
def holdsRow (d row : Nat) (s : Segment) : Bool := s.dfn == d && decide (s.first ≤ row ∧ row < s.first + s.rows.length)

def damageSeg (d row : Nat) (s : Segment) : Segment :=
  if holdsRow d row s then { s with damaged := true, header := damagedHeader s.header } else s

/-- A damaged row of a definition's ring: the row is marked, and a segment with it is DAMAGED at its close; one that is closed
already is DAMAGED now, and counted. -/
def damageRow (d row : Nat) (c : Channel) : Channel :=
  match kGet c.pleat.defs d with
  | none => c
  | some x =>
    let hit := (c.pleat.segs ++ c.pleat.queue ++ c.pleat.writing.toList).any (fun s => holdsRow d row s && !s.damaged)
    let c1 := putDef d { x with ring := x.ring.map (fun r => if r.n = row then { r with damaged := true } else r) }
      { c with pleat := { c.pleat with segs := c.pleat.segs.map (damageSeg d row), queue := c.pleat.queue.map (damageSeg d row),
                                        writing := c.pleat.writing.map (damageSeg d row) } }
    if hit then raiseLimited 52 x.cfg.owner d 0 d (bump 0x2D00 8 c1) else c1

/-- A damaged capture record is marked and counted; no entry shows the count (R41; 14 R443). -/
def damageCapture (seq : Nat) (c : Channel) : Channel :=
  bumpN 0x3000 0x90 ((c.sw.capture.filter (fun r => r.seq.toNat == seq && !r.damaged)).length)
    { c with sw := { c.sw with capture := c.sw.capture.map (fun r => if r.seq.toNat = seq then { r with damaged := true } else r) } }

/-! ### MRAM and flash: the read fails, and the record or section fails its CRC (R41) -/

/-- A record of MRAM fails: `part` 0 and 1 header copies of the Ledger, 2 an episode, 3 a histogram, 4 an extremes record, 5 and 6 a
sleeve's retain copies, 7 and 8 a slot's journal cells (11 R351; 19 R578; 20 R595 to R599). -/
def mramFails (part n : Nat) (c : Channel) : Channel :=
  let l := c.ledgerNv
  let at_ {α : Type} (m : KMap α) (f : α → α) : KMap α := match kGet m n with | some x => kPut m n (f x) | none => m
  let cell (x : KeyCell) : KeyCell := { x with crcOk := false }
  match part with
  | 0 => { c with ledgerNv := { l with hdrA := { l.hdrA with valid := false } } }
  | 1 => { c with ledgerNv := { l with hdrB := { l.hdrB with valid := false } } }
  | 2 => { c with ledgerNv := { l with log := at_ l.log (fun e => { e with crcOk := false }) } }
  | 3 => { c with ledgerNv := { l with hists := at_ l.hists (fun h => { h with crcOk := false }) } }
  | 4 => { c with ledgerNv := { l with exts := at_ l.exts (fun h => { h with crcOk := false }) } }
  | 5 => { c with retain := at_ c.retain (fun r => { r with a := spoilCopy r.a }) }
  | 6 => { c with retain := at_ c.retain (fun r => { r with b := spoilCopy r.b }) }
  | 7 => { c with keysNv := { c.keysNv with cellsA := at_ c.keysNv.cellsA cell } }
  | 8 => { c with keysNv := { c.keysNv with cellsB := at_ c.keysNv.cellsB cell } }
  | _ => c

/-- A byte of flash fails: `part` 0 and 1 configuration slots, 2 and 3 firmware slots, 4 a record of the Pleat store, by its place. The
byte no longer reads as written, so the CRC-32 over it fails (02 R63; 18 R552). -/
def flashFails (part n : Nat) (c : Channel) : Channel :=
  let s := c.slots
  let spoil (x : Slot) : Slot := { x with bytes := x.bytes.modify n (fun b => b ^^^ 0xFF) }
  match part with
  | 0 => { c with slots := { s with cfg0 := spoil s.cfg0 } }
  | 1 => { c with slots := { s with cfg1 := spoil s.cfg1 } }
  | 2 => { c with slots := { s with fw0 := spoil s.fw0 } }
  | 3 => { c with slots := { s with fw1 := spoil s.fw1 } }
  | 4 => { c with pleat := { c.pleat with store := c.pleat.store.modify n (fun r => { r with header := r.header.modify 92 (fun b => b ^^^ 0xFF) }) } }
  | _ => c

/-! ### Uncorrectable errors (R41) -/

/-- What an uncorrectable error does where it is found; the fault it asks for is raised after. -/
def memoryError (memory : Nat) (c : Channel) (e : Nat × Option (Nat × Nat × QFrame)) : Channel :=
  let a := e.1
  let c1 := episode 0x15 (BitVec.ofNat 8 (ueRow memory) :: leBytes 8 a) c
  if memory = 3 then (match e.2 with | some x => dropQueued x c1 | none => bump 0x2900 0x0A c1)
  else if memory = 4 then damageRow (a / 2 ^ 32) (a % 2 ^ 32) c1
  else if memory = 5 then damageCapture a c1
  else if memory = 7 then mramFails (a / 2 ^ 32) (a % 2 ^ 32) c1
  else if memory = 8 then flashFails (a / 2 ^ 32) (a % 2 ^ 32) c1
  else c1

/-- Is one of the frames an express or protection frame: of queue 7 or 6 (R41; 14 R422)? -/
def hitsExpress (c : Channel) (bad : List Nat) : Bool :=
  bad.any (fun a => match (queuedFrames c)[a]? with | some x => decide (6 ≤ x.2.1) | none => false)

/-- The faults that uncorrectable errors raise. -/
def scrubFaults (memory : Nat) (express : Bool) (bad : List Nat) (c : Channel) : Channel :=
  if bad.isEmpty then c
  else if memory = 0 then ((bad.map (fun a => a / 262144)).eraseDups).foldl (fun c n => if c.boot.mode == .boot then c else tileFault n 0 c) c
  else if memory = 1 ∨ memory = 2 ∨ memory = 6 then channelFault 2 c
  else if memory = 3 ∧ express then channelFault 3 c
  else c

/-- The places of a memory found uncorrectable: what each does, then the faults. -/
def uncorrectable (memory : Nat) (bad : List Nat) (c : Channel) : Channel :=
  scrubFaults memory (hitsExpress c bad) bad ((bad.map (fun a => (a, (queuedFrames c)[a]?))).foldl (memoryError memory) c)

/-- SCRUB_PASS: `corrected` single-bit errors, and the places found uncorrectable. A pass over the commons wakes every
retained bank in turn (07 R228). MRAM and flash are not scrubbed: with them the command is a read that finds the errors. -/
def scrubPassC (memory corrected : Nat) (bad : List Nat) (c : Channel) : Channel :=
  if decide (8 < memory) || !c.boot.powered || (decide (memory < 7) && (!runtimeUp c || c.boot.mode == .boot)) then c
  else
    let c1 := countCorrected memory corrected (if memory = 1 then scrubWakes c else c)
    let c2 := if 7 ≤ memory then c1 else if bad.isEmpty then testPass c1 else testFail 2 memory c1
    uncorrectable memory bad c2
def execScrubPass (ch : Chan) (memory corrected : Nat) (bad : List Nat) (s : State) : Host.Outcome State Fault Refusal :=
  onChan ch (scrubPassC memory corrected bad) s

/-! ### Commands whose accesses may find an error (R40, R41) -/

/-- The errors that a command's accesses find, in their order. -/
def memErrs (l : List MemErr) (c : Channel) : Channel :=
  l.foldl (fun c e => match e.bad with | none => countCorrected e.memory 1 c | some a => uncorrectable e.memory [a] c) c

/-- FRAME_RECEIVED; an error it finds counts against the queues as it leaves them. -/
def execFrameReceived (ch : Chan) (p : Nat) (f : Frame) (x : Arrival) (s : State) : Host.Outcome State Fault Refusal :=
  onChan ch (fun c => memErrs x.errs (frameReceivedC p f x.agoNs x.fragments c)) s

/-- INGEST_FRAME_SERVICE. -/
def execIngestFrameService (x : Turn) (s : State) : Host.Outcome State Fault Refusal :=
  onChan x.ch (fun c => memErrs x.errs (ingestFrameServiceC c)) s

/-- PLEAT_ROW_CAPTURE; an error it finds stands before the row enters the ring, so that a segment the row closes is DAMAGED. -/
def execPleatRowCapture (x : Turn) (d : Nat) (s : State) : Host.Outcome State Fault Refusal :=
  onChan x.ch (fun c => pleatRowCaptureC d (memErrs x.errs c)) s

end Sys2Proof.Machine
end

