-- ==== Sys2Proof/Machine/Mirror.lean ====
section
/-! DEFINITION. Mirror records as they arrive, and what each does on the receiving channel (12 R370 to R375, R383; 16 R491; 19 R576). -/
namespace Sys2Proof.Machine

/-! ### Arrival (12 R370, R371) -/

/-- The head of the twin's outgoing records taken off. -/
def shiftOut (c : Channel) : Channel := { c with seam := { c.seam with out := c.seam.out.drop 1 } }

/-- A record of a kind arrives: it is the oldest one the twin has posted, the lanes are up. One that fails its CRC, or that the
Seam injector spoils, is resent: it stays with the sender, which counts it (R370; 22 R647). -/
def recv {α : Type} (ch : Chan) (ok : Bool) (pick : MRec → Option α) (f : α → Channel → Channel → Channel) (s : State) :
    Host.Outcome State Fault Refusal :=
  let twin := chanOf s ch.twin
  let c := chanOf s ch
  match twin.seam.out.head?.bind pick with
  | none => .next s
  | some x =>
    if c.seam.presence != 2 || !c.boot.powered then .next s
    else
      let d := injRecord twin
      if !ok || d.1 then .next (withChan s ch.twin (bump 0x2800 0x16 d.2))
      else
        let t := shiftOut d.2
        let c1 := bump 0x2800 0x15 { commitsEnded c with boot := { c.boot with twinMode := BitVec.ofNat 8 (modeCode twin.boot.mode) } }
        .next (withChan (withChan s ch.twin t) ch (f x t c1))

/-! ### Host commands (12 R371) -/

/-- A change to a sleeve's program at a boundary, as the record carries it. -/
def lseMod (n : Nat) (f : Lse → Lse) (c : Channel) : Channel := { c with lse := kMod c.lse n f }

/-- What an accepted command does on the receiving channel, at the boundary the record names. DESIGN CHOICE (log entry 45): 02 R67 is
silent on an activation that reaches a channel whose pointer already names the slot; it is skipped there. -/
def hostCmdIn (m : HostCmd) (c : Channel) : Channel :=
  match m with
  | .write key v => putSetting (key / 256) (key % 256) v c
  | .effectAt key v t => scheduleSetting (key / 256) (key % 256) t v c
  | .segment key first last _ total data => imageForwarded (key % 256 == 0x14) first last total data c
  | .mode req t => pendMode req t c
  | .activate n => if modeIn [2, 3] c && decide (n ≤ 1) && n != c.slots.committed then activateNow n c else c
  | .restore all => restoreNow all c
  | .reg f off size v => regApply f off size v c
  | .request f seq => { c with seam := { c.seam with lastReq := kPut c.seam.lastReq f seq } }
  | .swapLse n image t => lseMod n (fun L => { L with swap := some (parseLse image, t) }) c
  | .restartLse n => lseMod n (fun L => if L.st = .faulted then { L with restartPend := true } else L) c
  | .force n on ident v v1 v2 t => pendForce n ⟨on, ⟨ident, v, v1, v2⟩, t⟩ c
  | .manual d t => { c with pleat := { c.pleat with manual := c.pleat.manual ++ [(d, t)] } }
  | .defArm d on => if kHas c.pleat.defs d then setArmed d on c else c
  | .snapshot t => snapshotSet t c
  | .armCode code => { c with diag := { c.diag with armCode := some code, armFrom := .pf0, armReadAt := c.time.up } }
  | .injArm i code => if codeOk .pf0 code c && injAllowed c i && !(injGet c i).armed then injArm i c else c
  | .injDisarm i => injEnd i 0 c
  | .pg g arm => if arm then (if pgSetOk c g then pgArmNow g c else c) else pgDisarmNow g c
  | .canRecovery n => recoverPort n c
  | .canLoopback n on => setLoop n on c
  | .deleteRec n => deleteRecord n c
  | .attest b => { c with keys := { c.keys with request := some b } }
  | .reprovision _ => c
  | .certificate b =>
    if certificateOk b c then { c with keysNv := { c.keysNv with cert := b } } else c

/-- A channel that is sealed, or whose runtime does not run, applies none. -/
def applies (c : Channel) : Bool := runtimeUp c && c.boot.mode != .sealedMode

/-- HOST_COMMAND_RECORD. -/
def execHostCommandRecord (ch : Chan) (ok : Bool) (s : State) : Host.Outcome State Fault Refusal :=
  recv ch ok (fun r => match r with | .hostCmd m => some m | _ => none) (fun m _ c => if applies c then hostCmdIn m c else c) s

/-- A lifecycle request as the lead channel accepted it: this channel admits the package or blob for itself (16 R488, R491, R499). Of a create
or restore request, boundary 0 says that it waits for moves, 1 that it is admitted and its start waits for moves; action 0 that a request that
waited was refused (08 R264, R269; log entry 49). -/
def lifecycleIn (n action arg t : Nat) (c : Channel) : Channel :=
  if action = 0 then unqueue n c
  else if action = 1 ∨ action = 6 then
    (match kGet c.sleeves n with
      | some x => if awaitsMoves x && decide (1 < t) then setReq n ⟨action, arg, t⟩ c else c
      | none =>
        if t = 0 then putQueued ⟨action, n, arg, packageBytes c⟩ (unqueue n c)
        else
          let b := match c.disp.queued.find? (fun q => q.sleeve == n && q.action != 2) with | some q => q.pkg | none => packageBytes c
          match admitBy action n arg b (unqueue n c) with
          | .ok c1 => setReq n ⟨action, arg, if t = 1 then 0 else t⟩ c1
          | .error _ => unqueue n c)
  else if action = 5 then saveBegin n c
  else setReq n ⟨action, arg, t⟩ c

/-- SLEEVE_LIFECYCLE_RECORD. -/
def execSleeveLifecycleRecord (ch : Chan) (ok : Bool) (s : State) : Host.Outcome State Fault Refusal :=
  recv ch ok (fun r => match r with | .lifecycle n a g t => some (n, a, g, t) | _ => none)
    (fun x _ c => if applies c then lifecycleIn x.1 x.2.1 x.2.2.1 x.2.2.2 c else c) s

/-- A key command waits for the same P1 boundary (19 R576). -/
def keyChangeIn (k : PendKey) (c : Channel) : Channel := { c with keys := { c.keys with pend := c.keys.pend ++ [k] } }

/-- KEY_SLOT_CHANGE_RECORD. -/
def execKeySlotChangeRecord (ch : Chan) (ok : Bool) (s : State) : Host.Outcome State Fault Refusal :=
  recv ch ok (fun r => match r with | .keyChange cmd b t => some (⟨cmd, b, t⟩ : PendKey) | _ => none)
    (fun k _ c => if applies c then keyChangeIn k c else c) s

/-! ### Confirmations (12 R371, R383) -/

/-- A frame that a channel handed over: SV or GOOSE, publication, stNum and sqNum, smpCnt. -/
abbrev Handed := Bool × Nat × U32 × U32 × Nat

/-- Does `b` follow `a`, or equal it, in a counter that wraps at `w`? -/
def sameOrLater (w a b : Nat) : Bool := decide (((b + w - a % w) % w) * 2 < w)

/-- The wrap of an SV publication's smpCnt (03 R85). -/
def smpWrap (c : Channel) (n : Nat) : Nat := match kGet c.pub.spubs n with | some p => smpW p.cfg.rate | none => 65536

/-- Does a handed-over frame confirm a copy: the same publication, at the same or a later stNum and sqNum, or smpCnt? -/
def confirms (c : Channel) (h : Handed) (b : BuiltFrame) : Bool :=
  h.1 == b.sv && h.2.1 == b.num &&
    (if b.sv then sameOrLater (max (smpWrap c b.num) 1) b.smp h.2.2.2.2
     else if h.2.2.1 = b.stNum then decide (b.sqNum.toNat ≤ h.2.2.2.1.toNat)
     else sameOrLater 4294967296 b.stNum.toNat h.2.2.1.toNat)

/-- The copies a frame confirms are released. -/
def releaseCopies (h : Handed) (c : Channel) : Channel :=
  { c with seam := { c.seam with store := c.seam.store.filter (fun b => !confirms c h b) } }

/-- CONFIRMATION_RECORD. -/
def execConfirmationRecord (ch : Chan) (ok : Bool) (s : State) : Host.Outcome State Fault Refusal :=
  recv ch ok (fun r => match r with | .confirm sv n st sq smp => some (sv, n, st, sq, smp) | _ => none) (fun h _ c => releaseCopies h c) s

/-- CAN_OUTCOME_RECORD: a channel that holds control takes no outcome from its twin (12 R388; 17 R522). -/
def execCanOutcomeRecord (ch : Chan) (ok : Bool) (s : State) : Host.Outcome State Fault Refusal :=
  recv ch ok (fun r => match r with | .canOutcome p b st t => some (p, b, st, t) | _ => none)
    (fun x _ c => if c.seam.holdCtl then c else canOutcomeIn x.1 x.2.1 x.2.2.1 x.2.2.2 c) s

/-! ### Digests and alignment (12 R372, R375) -/

/-- DIGEST_RECORD. -/
def execDigestRecord (ch : Chan) (ok : Bool) (s : State) : Host.Outcome State Fault Refusal :=
  recv ch ok (fun r => match r with | .digest d => some d | _ => none) (fun d _ c => twinDigest d c) s

/-- RETAIN_DIGEST_RECORD. -/
def execRetainDigestRecord (ch : Chan) (ok : Bool) (s : State) : Host.Outcome State Fault Refusal :=
  recv ch ok (fun r => match r with | .retainDigest n t v => some (n, t, v) | _ => none)
    (fun x t c => twinDigest (retainDigestOf x.1 x.2.1 x.2.2 (comparing t) t.time.up) c) s

/-- The alignment offset in ps as measured: in OD 2800:12 in ns. A standby that exceeds ±1 µs at 100 consecutive P1 boundaries is no
longer converged: it goes back to stage 4 (log entry 31). -/
def alignIn (ps : Int) (c : Channel) : Channel :=
  let ns := Int.tdiv ps 1000
  let run := if 1000000 < ps.natAbs then c.seam.alignRun + 1 else 0
  let c1 := highWater 0x2800 0x13 ns.natAbs { c with seam := { c.seam with align := ns, alignRun := run } }
  if decide (100 ≤ run) && c.boot.mode == .standby then
    let c2 := if c1.seam.stage = 5 then { c1 with seam := { c1.seam with stage := 4, stageAt := c1.time.up, convAt := c1.time.up } } else c1
    raiseLimited 11 0xFF 0 ns.natAbs 0 c2
  else c1

/-- ALIGNMENT_RECORD. -/
def execAlignmentRecord (ch : Chan) (ok : Bool) (ps : Int) (s : State) : Host.Outcome State Fault Refusal :=
  recv ch ok (fun r => match r with | .alignment t => some t | _ => none) (fun _ _ c => alignIn ps c) s

end Sys2Proof.Machine
end

