-- ==== Sys2Proof/Machine/Resync.lean ====
section
/-! DEFINITION. The lanes, self-diagnosis and resynchronisation (12 R369, R370, R376 to R378, R392, R393; 21 R620). -/
namespace Sys2Proof.Machine

/-! ### Presence of the twin (12 R369, R370, R383) -/

/-- IDLE_RECORD_SEND. -/
def idleRecordSendC (c : Channel) : Channel := if c.boot.powered && c.seam.presence == 2 then emit .idleRecord c else c
def execIdleRecordSend (ch : Chan) (s : State) : Host.Outcome State Fault Refusal := onChan ch idleRecordSendC s

/-- The newest copy of each publication of a store, in build order. -/
def newestCopies : List BuiltFrame → List BuiltFrame
  | [] => []
  | x :: r => if r.any (fun y => y.sv == x.sv && y.num == x.num) then newestCopies r else x :: newestCopies r

/-- The lanes go down: E6; a whole resynchronisation waits for them to return (log entry 30). -/
def dropLanes (c : Channel) : Channel :=
  raiseLimited 6 0xFF 0 0 0 (bump 0x2800 0x17
    { c with
      boot := { c.boot with twinMode := 0xFF }
      seam := { c.seam with
        presence := 1, out := [], store := newestCopies c.seam.store, stage := if 1 ≤ c.seam.stage ∧ c.seam.stage ≤ 4 then 0 else c.seam.stage, transferAt := 0 } })

/-- LANES_DOWN. -/
def lanesDownC (c : Channel) : Channel := if c.boot.powered && c.seam.presence == 2 then dropLanes c else c
def execLanesDown (ch : Chan) (s : State) : Host.Outcome State Fault Refusal := onChan ch lanesDownC s

/-- LANES_TRAINED: a STANDBY channel that holds neither control nor a converged state begins to resynchronise. -/
def lanesTrainedC (twin c : Channel) : Channel :=
  if runtimeUp c && runtimeUp twin && twin.seam.alive && c.seam.presence == 1 then
    let c1 := testPass { c with seam := { c.seam with presence := 2, out := [], isolated := false } }
    if c1.boot.mode == .standby && c1.seam.stage == 0 && !c1.seam.holdCtl then startResync 1 c1 else c1
  else c
def execLanesTrained (ch : Chan) (s : State) : Host.Outcome State Fault Refusal := onChanTwin ch lanesTrainedC s

/-- TWIN_ABSENT: E5. -/
def twinAbsentC (twin c : Channel) : Channel :=
  if (twin.boot.powered && twin.seam.alive) || !c.boot.powered || c.seam.presence == 0 then c
  else
    let c1 := if c.seam.presence = 2 then dropLanes c else c
    raiseLimited 5 0xFF 0 0 0 { c1 with
      boot := { c1.boot with twinMode := 0xFF }
      seam := { c1.seam with presence := 0, absentAt := c1.time.up, out := [] } }
def execTwinAbsent (ch : Chan) (s : State) : Host.Outcome State Fault Refusal := onChanTwin ch twinAbsentC s

/-- SEAM_ALIVE_RESUMED: lines only, until the lanes are trained. -/
def seamAliveResumedC (twin c : Channel) : Channel :=
  if twin.boot.powered && twin.seam.alive && c.boot.powered && c.seam.presence == 0 then { c with seam := { c.seam with presence := 1 } } else c
def execSeamAliveResumed (ch : Chan) (s : State) : Host.Outcome State Fault Refusal := onChanTwin ch seamAliveResumedC s

/-! ### Resynchronisation (12 R392) -/

/-- Enters a stage, with its Journal record (20 R608). -/
def toStage (n : Nat) (c : Channel) : Channel :=
  journalAdd 8 n 0xFF [] { c with seam := { c.seam with stage := n, stageAt := c.time.up } }

/-- Stage 3 begins: the transfer boundary is agreed. -/
def toTransfer (c : Channel) : Channel :=
  let c1 := toStage 3 c
  { c1 with seam := { c1.seam with transferAt := p1After 2000000 c } }

/-- Stage 4 begins: digests are to match from here on. -/
def toConvergence (c : Channel) : Channel :=
  let c1 := toStage 4 c
  { c1 with seam := { c1.seam with convAt := c.time.up } }

/-- The resynchronisation of one sleeve, or of all from stage 3, on a channel that does not hold control; one of the whole channel
that is in stages 1 to 3 covers it. While another sleeve is resynchronised, the two become one of the whole channel (log entry 53). -/
def sleeveResync (n : Nat) (c : Channel) : Channel :=
  if c.seam.holdCtl || c.seam.presence != 2 || (1 ≤ c.seam.stage && c.seam.stage ≤ 3 && c.seam.resyncSleeve.isNone) then c
  else
    let whole := 64 ≤ n || (c.seam.stage == 4 && c.seam.resyncSleeve.isNone) ||
      (inRange c.seam.stage 3 4 && c.seam.resyncSleeve != some n && c.seam.resyncSleeve.isSome)
    toTransfer { c with seam := { c.seam with restarts := 0, resyncSleeve := if whole then none else some n } }

/-- Is a manifest digest the same as another's (02 R62; 12 R392)? -/
def sameManifest (a b : Channel) : Bool :=
  let x := signedBytes (committedSlot a).bytes
  let y := signedBytes (committedSlot b).bytes
  x == y || Config.sha384 x == Config.sha384 y

/-- The twin's overlay replaces the channel's own; what it sets is in effect (21 R620). -/
def takeOverlay (twin c : Channel) : Channel :=
  let c1 := lseTake { c with dict := { c.dict with overlay := twin.dict.overlay } }
  { c1 with
    ingest := { c1.ingest with streams := kMapVals c1.ingest.streams (fun n x => { x with
      allowUs := entryNat c1 (0x8200 + n) 5 x.cfg.allowUs, loss := entryNat c1 (0x8200 + n) 6 x.cfg.loss, ret := entryNat c1 (0x8200 + n) 7 x.cfg.ret }) }
    paths := kMapVals c1.paths (fun n x =>
      let r := pathEntries c1 n x.cfg
      if r = x.cfg then x else { x with cfg := r, breakPending := true }) }

/-- Is every instance warm, and every subscribed stream VALID (R392, stage 2)? -/
def warmedUp (c : Channel) : Bool :=
  c.boot.graphsRun && c.graphs.all (fun g => graphWarm g.2) && c.ingest.streams.all (fun x => x.2.mask == 0 || x.2.st == .valid)

/-- May a channel resynchronise: STANDBY, or in COMMISSION the one that is not the lead channel, which realigns (R378)? -/
def resyncs (c : Channel) : Bool := (c.boot.mode == .standby || c.boot.mode == .commission) && !c.seam.holdCtl

/-- RESYNC_STAGE_COMPLETE: the end of stages 1 to 3. -/
def resyncStageCompleteC (twin c : Channel) : Channel :=
  if !resyncs c || c.seam.presence != 2 then c
  else match c.seam.stage with
    | 1 => if sameManifest twin c then toStage 2 (takeOverlay twin c) else c
    | 2 => if warmedUp c then toTransfer c else c
    | 3 => if c.seam.transferAt = 0 then toConvergence c else c
    | _ => c
def execResyncStageComplete (ch : Chan) (s : State) : Host.Outcome State Fault Refusal := onChanTwin ch resyncStageCompleteC s

/-- The longest a stage may take, in ns. -/
def stageMax (n : Nat) : Nat := nth [0, 60000000000, 10000000000, 100000000, 10000000000] n 0

/-- RESYNC_STAGE_TIMEOUT: back to stage 2; the third restart of one resynchronisation is RESYNC_FAILED. -/
def resyncStageTimeoutC (c : Channel) : Channel :=
  if !resyncs c || !inRange c.seam.stage 1 4 then c
  else
    let c1 := bump 0x2800 0x20 (upTo (c.seam.stageAt + stageMax c.seam.stage) c)
    let c2 := { c1 with seam := { c1.seam with restarts := c1.seam.restarts + 1, resyncSleeve := none, transferAt := 0 } }
    if 3 ≤ c2.seam.restarts then channelFault 10 c2 else toStage 2 c2
def execResyncStageTimeout (ch : Chan) (s : State) : Host.Outcome State Fault Refusal := onChan ch resyncStageTimeoutC s

/-- CONVERGENCE_REACHED: every class has matched for the convergence time; E7. -/
def convergenceReachedC (c : Channel) : Channel :=
  if !resyncs c || c.seam.stage != 4 then c
  else
    let c1 := toStage 5 (upTo (c.seam.convAt + entryNat c 0x2800 0x1F 1000 * 1000000) c)
    raiseLimited 7 0xFF 0 0 0 { c1 with seam := { c1.seam with resyncSleeve := none, fault := none, restarts := 0 } }
def execConvergenceReached (ch : Chan) (s : State) : Host.Outcome State Fault Refusal := onChan ch convergenceReachedC s

/-- RESYNC_IMAGE_RECEIVED: the twin's committed image in the staging slot, activated with the twin's start intent; a refused one
ends in HOLD (02 R52, R66; 21 R631). -/
def resyncImageReceivedC (twin c : Channel) : Channel :=
  if c.boot.mode != .standby || c.seam.holdCtl || c.seam.presence != 2 || c.seam.stage != 1 || sameManifest twin c then c
  else
    let n := 1 - c.slots.committed
    let b := (committedSlot twin).bytes
    if c.psu.pwarn then imageStatus false 4 (setSlot n ⟨b, 6⟩ c)
    else
      let c1 := imageStatus false (imageIntact c b).1 (setSlot n ⟨b, 6⟩ c)
      match activateSlot n twin.slots.intentOperate c1 with
      | .refused k => k
      | .failed r k => let h := activationHold r k; { h with seam := { h.seam with stage := 0 } }
      | .loaded k => k
def execResyncImageReceived (ch : Chan) (s : State) : Host.Outcome State Fault Refusal := onChanTwin ch resyncImageReceivedC s

/-! ### The mirror set (12 R393) -/

/-- Has an instance no trigger port? -/
def noTrigger (r : InstRec) : Bool := !r.ins.any (fun p => p.flag)

/-- The sleeves a resynchronisation covers: one, or all. -/
def covers (only : Option Nat) (n : Nat) : Bool := match only with | some k => n == k | none => true

def slotMirror (k : KeySlot) : KeyMirror :=
  { st := k.st, kind := k.kind, rights := k.rights, owner := k.owner, parent := k.parent, ident := k.ident, gen := k.gen, label := k.label, wrapped := k.wrapped }

/-- The mirror set of the channel holding control; anchors stay out, and key slots belong to the whole set alone (log entry 31). -/
def mirrorSetOf (only : Option Nat) (c : Channel) : MirrorSet :=
  { sleeve := only
    lse := c.lse.filter (fun x => covers only x.1)
    therm := (c.graphs.filter (fun g => covers only g.1)).flatMap (fun g => g.2.insts.filterMap (fun x =>
      match g.2.cfg.insts[x.1]? with | some r => if noTrigger r then some (g.1, x.1, x.2.st) else none | none => none))
    gpubs := c.pub.gpubs.filter (fun p => covers only p.2.cfg.owner)
    ladders := c.disp.delay.filter (fun e => match e.kind with
      | .retx g => (match kGet c.pub.gpubs g with | some p => covers only p.cfg.owner | none => false)
      | .horizon _ _ => false)
    spubs := (c.pub.spubs.filter (fun p => covers only p.2.cfg.owner)).map (fun p => (p.1, p.2.lastSmp))
    subs := c.pub.subs.filter (fun x => covers only x.2.cfg.owner)
    canStatus := c.can.flatMap (fun p => (p.2.bufs.filter (fun b => covers only b.2.cfg.owner)).map (fun b => (p.1 * 64 + b.1, (p.1, b.1, nth b.2.words 1 0))))
    slots := if only.isSome then [] else (c.keys.slots.filter (fun k => k.2.kind != 4)).map (fun k => (k.1, slotMirror k.2)) }

/-- TRANSFER_BOUNDARY on the channel that supplies the set, between its write and its latch. -/
def transferBoundaryC (twin c : Channel) : Channel :=
  if leads c && c.seam.presence == 2 && twin.seam.stage == 3 && twin.seam.transferAt != 0 then
    let c1 := advanceTo twin.seam.transferAt c
    post (.mirrorSet (mirrorSetOf twin.seam.resyncSleeve c1)) c1
  else c
def execTransferBoundary (ch : Chan) (s : State) : Host.Outcome State Fault Refusal := onChanTwin ch transferBoundaryC s

/-- The key of a slot of the set: unwrapped from the channel's own record, or derived anew from its own parent (19 R575, R576). -/
def mirrorKey (m : KMap KeyMirror) (c : Channel) : Nat → Nat → Option (List Byte)
  | 0, _ => none
  | fuel + 1, s =>
    match kGet m s with
    | none => none
    | some k =>
      if k.st = 0 then none
      else if !k.wrapped.isEmpty then (ownRec c (recs160 8 k.wrapped)).bind (fun r => unwrapRec r c)
      else
        let root := if k.parent = 0xFFFE then some (sleeveRoot c k.owner) else mirrorKey m c fuel k.parent
        root.map (fun r => derivedFrom r k.label s k.gen)

/-- A slot of the set loaded, with its commit where it changes anything. -/
def loadMirrorSlot (m : KMap KeyMirror) (s : Nat) (k : KeyMirror) (c : Channel) : Channel :=
  let old := slotAt c s
  let new : KeySlot :=
    { st := k.st, uncommitted := false, kind := k.kind, rights := k.rights, ident := k.ident, owner := k.owner, parent := k.parent, gen := k.gen,
      key := (mirrorKey m c 513 s).getD [], label := k.label, wrapped := k.wrapped }
  if old = new then c else commitSlot s (slotPut s new c)

/-- The key slots of the set; a slot the set does not hold is EMPTY, an anchor stays. -/
def loadMirrorKeys (m : KMap KeyMirror) (c : Channel) : Channel :=
  let gone := (c.keys.slots.filter (fun k => k.2.kind != 4 && k.2.st != 0 && !kHas m k.1)).map (fun k => k.1)
  m.foldl (fun c x => loadMirrorSlot m x.1 x.2 c) (gone.foldl (fun c s => commitSlot s (invalidateSlot s c)) c)

/-- A publication's counters and ladder step. -/
def loadGPub (x : Nat × GPub) (m : KMap GPub) : KMap GPub :=
  kMod m x.1 (fun p => { p with stNum := x.2.stNum, sqNum := x.2.sqNum, interval := x.2.interval, t1 := x.2.t1, t0 := x.2.t0, first := x.2.first, t := x.2.t })

/-- The set loaded before the latch (R393). -/
def loadMirror (m : MirrorSet) (c : Channel) : Channel :=
  let ours (e : DelayEntry) : Bool := match e.kind with | .retx g => kHas m.gpubs g | .horizon _ _ => false
  let c1 := { c with
    lse := m.lse.foldl (fun t x => kMod t x.1 (fun L => { x.2 with staged := L.staged, snap := L.snap, retainAt := L.retainAt })) c.lse
    graphs := m.therm.foldl (fun t x => kMod t x.1 (fun g => { g with insts := kMod g.insts x.2.1 (fun y => { y with st := x.2.2 }) })) c.graphs
    pub := { c.pub with
      gpubs := m.gpubs.foldl (fun t x => loadGPub x t) c.pub.gpubs
      spubs := m.spubs.foldl (fun t x => kMod t x.1 (fun p => { p with lastSmp := x.2 })) c.pub.spubs
      subs := m.subs.foldl (fun t x => kMod t x.1 (fun y => { x.2 with cfg := y.cfg })) c.pub.subs }
    can := m.canStatus.foldl (fun t x => kMod t x.2.1 (fun p => { p with bufs := kMod p.bufs x.2.2.1 (fun b => { b with words := setNth b.words 1 x.2.2.2 }) })) c.can
    disp := { c.disp with delay := m.ladders.foldl (fun l e => delayInsert e l) (c.disp.delay.filter (fun e => !ours e)) }
    seam := { c.seam with transferAt := 0 } }
  if m.sleeve.isSome then c1 else loadMirrorKeys m.slots c1

/-- MIRROR_SET_RECORD: at the transfer boundary of stage 3. -/
def execMirrorSetRecord (ch : Chan) (ok : Bool) (s : State) : Host.Outcome State Fault Refusal :=
  recv ch ok (fun r => match r with | .mirrorSet m => some m | _ => none)
    (fun m _ c => if c.seam.stage = 3 ∧ c.seam.transferAt ≠ 0 then readyUpdate (loadMirror m (advanceTo c.seam.transferAt c)) else c) s

/-! ### Triggered self-diagnosis and realignment (12 R376 to R378) -/

/-- A finding of a channel's own tests: a tile, or 64 and up a bank. -/
def finding (c : Channel) (f : Nat) : Channel :=
  if f < 34 then tileFault f 2 (testFail 6 f c)
  else if 64 ≤ f then uncorrectable 1 [(f - 64) * 524288] (testFail 6 f c)
  else c

/-- The sleeves FAULTED on one channel and RUNNING on the other. -/
def lseBehind (here there : Channel) : List Nat :=
  (here.lse.filter (fun x => x.2.st == .faulted && (match kGet there.lse x.1 with | some L => L.st == .running | none => false))).map (fun x => x.1)

/-- An unresolved disagreement; the third of a standby within 60 s is REPEATED_DIVERGENCE. -/
def unresolvedNow (n : Nat) (c : Channel) : Channel :=
  let c1 := bump 0x2800 0x0D c
  if c1.seam.holdCtl then c1
  else
    let l := (c1.time.up :: c1.seam.unresolved).filter (fun t => decide (c1.time.up ≤ t + 60000000000))
    let c2 := { c1 with seam := { c1.seam with unresolved := l } }
    if 3 ≤ l.length ∧ c2.boot.mode = .standby then channelFault 9 c2 else sleeveResync n c2

/-- SELF_DIAGNOSIS_COMPLETE of the oldest: the channel's own findings and those its twin has posted. -/
def selfDiagnosisCompleteC (own other : List Nat) (twin c : Channel) : Channel :=
  match c.seam.diagnosing with
  | [] => c
  | (n, _) :: r =>
    let c1 := { c with seam := { c.seam with diagnosing := r } }
    if !own.isEmpty then own.foldl finding c1
    else match lseBehind c1 twin with
      | k :: _ => if c1.seam.holdCtl then channelFault 8 (testPass c1) else sleeveResync k (testPass c1)
      | [] =>
        if !other.isEmpty || !(lseBehind twin c1).isEmpty then testPass c1 else unresolvedNow n (testPass c1)
def execSelfDiagnosisComplete (ch : Chan) (own twin : List Nat) (s : State) : Host.Outcome State Fault Refusal :=
  onChanTwin ch (selfDiagnosisCompleteC own twin) s

/-- REALIGNMENT_BOUNDARY of a sleeve. -/
def realignmentBoundaryC (n : Nat) (c : Channel) : Channel :=
  match kGet c.seam.realign n with
  | none => c
  | some t =>
    let c1 := bump 0x2800 0x22 (advanceTo t c)
    sleeveResync n { c1 with seam := { c1.seam with realign := kDel c1.seam.realign n } }
def execRealignmentBoundary (ch : Chan) (n : Nat) (s : State) : Host.Outcome State Fault Refusal := onChan ch (realignmentBoundaryC n) s

end Sys2Proof.Machine
end

