-- ==== Sys2Proof/Machine/Takeover.lean ====
section
/-! DEFINITION. HOLD_CTL as the twin sees it, and the takeover from the relinquish instant d to the sending of the Cuff store (12 R368,
R384 to R390; 15 R462, R465). -/
namespace Sys2Proof.Machine

/-! ### HOLD_CTL (12 R368, R369) -/

/-- HOLD_CTL_CONTENTION: channel B deasserts and does not take control. -/
def yieldControl (twin c : Channel) : Channel :=
  if c.id == .b && c.seam.holdCtl && twin.seam.holdCtl then
    let c1 := dropControl c
    if c1.boot.mode == .active then startResync 1 (enterMode .standby c1)
    else if c1.boot.mode == .standby then startResync 1 c1 else c1
  else c
def execHoldCtlContention (ch : Chan) (s : State) : Host.Outcome State Fault Refusal :=
  match onChanTwin ch yieldControl s with
  | .next t => .next (noteServing t)
  | o => o

/-- TWIN_HOLD_CTL_ASSERTED. -/
def twinHoldCtlAssertedC (twin c : Channel) : Channel :=
  if c.boot.powered && twin.boot.powered && twin.seam.holdCtl then { c with seam := { c.seam with twinHold := true } } else c
def execTwinHoldCtlAsserted (ch : Chan) (s : State) : Host.Outcome State Fault Refusal := onChanTwin ch twinHoldCtlAssertedC s

/-- The fastest class in use among the instances of a channel; P1 where none is (12 R385). -/
def fastestClass (c : Channel) : Nat := c.graphs.foldl (fun m g => g.2.cfg.insts.foldl (fun m r => min m r.cls) m) 4

/-- The handover boundary H: the first boundary of the fastest class at or after d. -/
def handoverAt (c : Channel) : Nat :=
  let f := nth boundaryRates (fastestClass c) 1000
  instantOf f (numberAt f (nowNs c - 1) + 1)

/-- Does the twin's relinquish pass control to this channel: it is STANDBY, or both are in COMMISSION (12 R385, R391)? -/
def takesOver (c : Channel) : Bool :=
  !c.seam.holdCtl && (c.boot.mode == .standby || (c.boot.mode == .commission && c.boot.twinMode == 3))

/-- TWIN_HOLD_CTL_DEASSERTED: the present instant is d; the channel asserts its own HOLD_CTL (12 R368, R385). -/
def twinHoldCtlDeassertedC (twin c : Channel) : Channel :=
  if !c.boot.powered || !c.seam.twinHold || (twin.boot.powered && twin.seam.holdCtl) then c
  else
    let c1 := { c with seam := { c.seam with twinHold := false } }
    if takesOver c1 then { c1 with seam := { c1.seam with holdCtl := true, takeover := some ⟨nowNs c1, handoverAt c1, false, none⟩ } } else c1
def execTwinHoldCtlDeasserted (ch : Chan) (s : State) : Host.Outcome State Fault Refusal := onChanTwin ch twinHoldCtlDeassertedC s

/-! ### The store at the opening (12 R386) -/

/-- Removes the copies FINAL confirms, sends the rest in build order, and lets the frames held pass. -/
def finishTakeover (l : List Handed) (c : Channel) : Channel :=
  let rest := c.seam.store.filter (fun b => !l.any (fun h => confirms c h b))
  bumpN 0x2800 0x1A rest.length
    { c with pub := { c.pub with waiting := rest ++ c.pub.waiting }, seam := { c.seam with store := [], takeover := none } }

/-- FINAL, or that it has not come, as it is known to a takeover: kept until the Cuff opens. -/
def finalKnown (l : List Handed) (c : Channel) : Channel :=
  match c.seam.takeover with
  | none => c
  | some t => if t.opened then finishTakeover l c else { c with seam := { c.seam with takeover := some { t with final := some l } } }

/-- FINAL_RECORD; while the channel still sees the twin's HOLD_CTL asserted, the record waits. -/
def execFinalRecord (ch : Chan) (ok : Bool) (s : State) : Host.Outcome State Fault Refusal :=
  if (chanOf s ch).seam.takeover.isNone && (chanOf s ch).seam.twinHold then .next s
  else recv ch ok (fun r => match r with | .final l => some l | _ => none) (fun l _ c => finalKnown l c) s

/-- FINAL_TIMEOUT: d + 1 µs has passed without FINAL. -/
def finalTimeoutC (c : Channel) : Channel :=
  match c.seam.takeover with
  | some t => if t.final.isNone then finalKnown [] (bump 0x2800 0x1C (advanceTo (t.d + 1000) c)) else c
  | none => c
def execFinalTimeout (ch : Chan) (s : State) : Host.Outcome State Fault Refusal := onChan ch finalTimeoutC s

/-- NON_POSTED_TAKEOVER_ABORT: the bridge completes a request that the old channel has not completed by d + 1 µs (15 R462). -/
def nonPostedTakeoverAbortC (f : Nat) (c : Channel) : Channel :=
  match c.seam.takeover with
  | some t => if f ≤ 64 then emit (.completerAbort f) (bump 0x2A00 7 (advanceTo (t.d + 1000) c)) else c
  | none => c
def execNonPostedTakeoverAbort (ch : Chan) (f _tag : Nat) (s : State) : Host.Outcome State Fault Refusal := onChan ch (nonPostedTakeoverAbortC f) s

/-! ### At H (12 R385, R388, R390; 15 R462, R465) -/

/-- Each PF0 and VF owner word, and the mailbox event. -/
def handBack (c : Channel) : Channel :=
  (List.range 65).foldl (fun c f => mailboxEvent f (writeOwner f (ownerWord 1 ((kGet c.seam.lastReq f).getD 0) 0) (dropMail f c))) c

/-- Each enabled ring goes on from the heads written back in host memory. -/
def resumeRing (br : Bridge) (c : Channel) (x : Nat × Ring) : Channel :=
  if x.2.txEn || x.2.rxEn then
    let tx := (kGet br.wbTx x.1).getD 0
    let rx := (kGet br.wbRx x.1).getD 0
    let y := { x.2 with
      txHead := tx % 4294967296, txSeq := tx / 4294967296, rxHead := rx % 4294967296, rxSeq := rx / 4294967296, resumed := true }
    bump (0x9600 + x.1) 9 (bump 0x2A00 0x18 (ringPut x.1 y { c with host := { c.host with sends := kDel c.host.sends x.1 } }))
  else c

/-- The Cuff opens at H: control is gained. -/
def cuffOpened (br : Bridge) (t : Takeover) (c0 : Channel) : Channel :=
  let c := advanceTo t.h c0
  let c1 := if c.seam.stage = 5 then c else bump 0x2800 0x1D c
  let c2 := { c1 with
    pub := { c1.pub with cuff := true }
    boot := { c1.boot with granted := true }
    seam := { c1.seam with stage := 0, fault := none, resyncSleeve := none, transferAt := 0, superviseDue := true, takeover := some { t with opened := true } } }
  let c3 := canTakeover (if c2.boot.mode = .standby then enterMode .active c2 else c2)
  let c4 := setRo 0x2800 8 (t.h - t.d) (setRo 0x2800 7 t.h (bump 0x2800 5 c3))
  let c5 := raiseLimited 3 0xFF 0 0 0 (episode 3 ([0, 0, 0, 0] ++ leBytes 8 t.h ++ leBytes 4 (t.h - t.d)) (journalAdd 8 0 0xFF [] c4))
  let c6 := c5.host.rings.foldl (resumeRing br) (handBack c5)
  match t.final with
  | some l => finishTakeover l c6
  | none => c6

/-- A request that the bridge held, as it reaches the new serving channel. -/
def heldMeaning (i : Instr) (s : State) : Host.Outcome State Fault Refusal :=
  match i with
  | .modeRequestHold x0 => execModeRequestHold x0 s
  | .modeRequestCommission x0 => execModeRequestCommission x0 s
  | .modeRequestOperate x0 => execModeRequestOperate x0 s
  | .modeRequestRestart x0 => execModeRequestRestart x0 s
  | .forceRestart x0 => execForceRestart x0 s
  | .activateConfigurationSlot x0 x1 => execActivateConfigurationSlot x0 x1 s
  | .commitFirmwareSlot x0 x1 => execCommitFirmwareSlot x0 x1 s
  | .restoreAll x0 x1 => execRestoreAll x0 x1 s
  | .restoreCommunication x0 x1 => execRestoreCommunication x0 x1 s
  | .echo x0 x1 x2 => execEcho x0 x1 x2 s
  | .dictRead x0 x1 x2 x3 x4 x5 => execDictRead x0 x1 x2 x3 x4 x5 s
  | .dictWrite x0 x1 x2 x3 x4 x5 x6 x7 x8 => execDictWrite x0 x1 x2 x3 x4 x5 x6 x7 x8 s
  | .dictDescribe x0 x1 x2 x3 => execDictDescribe x0 x1 x2 x3 s
  | .dictAbort x0 x1 x2 x3 => execDictAbort x0 x1 x2 x3 s
  | .mailboxResponse x0 => execMailboxResponse x0 s
  | .hostAtomicSwap x0 x1 x2 x3 => execHostAtomicSwap x0 x1 x2 x3 s
  | .hostAtomicFetchadd x0 x1 x2 x3 => execHostAtomicFetchadd x0 x1 x2 x3 s
  | .hostAtomicCas x0 x1 x2 x3 x4 => execHostAtomicCas x0 x1 x2 x3 x4 s
  | .hostWindowRead x0 x1 x2 x3 => execHostWindowRead x0 x1 x2 x3 s
  | .hostWindowWrite x0 x1 x2 x3 => execHostWindowWrite x0 x1 x2 x3 s
  | .hwstatW1c x0 x1 x2 => execHwstatW1c x0 x1 x2 s
  | .fstatW1c x0 x1 => execFstatW1c x0 x1 s
  | .evpendW1c x0 x1 x2 x3 => execEvpendW1c x0 x1 x2 x3 s
  | .ringstatW1c x0 x1 => execRingstatW1c x0 x1 s
  | .registerWrite x0 x1 x2 x3 => execRegisterWrite x0 x1 x2 x3 s
  | .functionLevelReset x0 => execFunctionLevelReset x0 s
  | .txEnable x0 => execTxEnable x0 s
  | .txDisable x0 => execTxDisable x0 s
  | .rxEnable x0 => execRxEnable x0 s
  | .rxDisable x0 => execRxDisable x0 s
  | .txtailWrite x0 x1 => execTxtailWrite x0 x1 s
  | .rxtailWrite x0 x1 => execRxtailWrite x0 x1 s
  | .hostTxFrame x0 x1 => execHostTxFrame x0 x1 s
  | .ringInterrupt x0 x1 => execRingInterrupt x0 x1 s
  | .applyOnlineChange x0 x1 => execApplyOnlineChange x0 x1 s
  | .lseRestart x0 x1 => execLseRestart x0 x1 s
  | .forceSet x0 x1 x2 x3 x4 x5 => execForceSet x0 x1 x2 x3 x4 x5 s
  | .forceRelease x0 x1 x2 => execForceRelease x0 x1 x2 s
  | .sleeveCreate x0 x1 => execSleeveCreate x0 x1 s
  | .sleeveDelete x0 x1 => execSleeveDelete x0 x1 s
  | .sleeveFreeze x0 x1 => execSleeveFreeze x0 x1 s
  | .sleeveThaw x0 x1 => execSleeveThaw x0 x1 s
  | .sleeveSave x0 x1 => execSleeveSave x0 x1 s
  | .sleeveRestore x0 x1 => execSleeveRestore x0 x1 s
  | .sleeveBehaviour x0 x1 x2 => execSleeveBehaviour x0 x1 x2 s
  | .pgArm x0 x1 => execPgArm x0 x1 s
  | .pgDisarm x0 x1 => execPgDisarm x0 x1 s
  | .recoveryRequest x0 x1 => execRecoveryRequest x0 x1 s
  | .internalLoopback x0 x1 x2 => execInternalLoopback x0 x1 x2 s
  | .manualTrigger x0 x1 => execManualTrigger x0 x1 s
  | .definitionArm x0 x1 => execDefinitionArm x0 x1 s
  | .definitionDisarm x0 x1 => execDefinitionDisarm x0 x1 s
  | .deleteStoreRecord x0 x1 => execDeleteStoreRecord x0 x1 s
  | .comtradeExport x0 => execComtradeExport x0 s
  | .importAnchor x0 x1 => execImportAnchor x0 x1 s
  | .importWrapped x0 x1 => execImportWrapped x0 x1 s
  | .keyInvalidate x0 x1 => execKeyInvalidate x0 x1 s
  | .keyDerive x0 x1 => execKeyDerive x0 x1 s
  | .keyReDerive x0 x1 => execKeyReDerive x0 x1 s
  | .attestationRequest x0 x1 => execAttestationRequest x0 x1 s
  | .reProvisioning x0 x1 => execReProvisioning x0 x1 s
  | .certificateInstall x0 x1 => execCertificateInstall x0 x1 s
  | .snapshotSchedule x0 x1 => execSnapshotSchedule x0 x1 s
  | .armingCodeRead x0 => execArmingCodeRead x0 s
  | .injectorArm x0 x1 x2 => execInjectorArm x0 x1 x2 s
  | .injectorDisarm x0 x1 => execInjectorDisarm x0 x1 s
  | _ => .next s

/-- How long a request was held (15 R462). -/
def noteHold (ch : Chan) (at_ : Nat) (s : State) : State :=
  withChan s ch (highWater 0x2A00 6 ((chanOf s ch).time.up - at_) (chanOf s ch))

def runHeld (ch : Chan) : List (Instr × Nat) → State → State
  | [], s => s
  | (i, t) :: r, s =>
    match heldMeaning i (noteHold ch t s) with
    | .next s1 => runHeld ch r s1
    | _ => runHeld ch r s

/-- CUFF_OPEN, with FSTAT.TAKEOVER of PF0 and every VF; what the bridge held goes to the new serving channel in arrival order. A
channel that sees its twin's HOLD_CTL asserted does not open its Cuff (12 R368). -/
def execCuffOpen (ch : Chan) (s : State) : Host.Outcome State Fault Refusal :=
  let c := chanOf s ch
  match c.seam.takeover with
  | none => .next s
  | some t =>
    if t.opened || c.seam.twinHold || !(c.boot.mode == .standby || c.boot.mode == .commission) then .next s
    else
      let s1 := withChan s ch (cuffOpened s.bridge t (commitsEnded c))
      .next (runHeld ch s.bridge.held { s1 with bridge := { s1.bridge with serving := some ch, takeover := BitVec.allOnes 65, held := [] } })

/-- TAKEOVER_SUPERVISION. -/
def takeoverSupervisionC (c : Channel) : Channel :=
  if c.seam.superviseDue then
    let c1 := c.sw.cfg.groups.foldl (fun c g => supervise g.1 g.2 c) c
    { c1 with seam := { c1.seam with superviseDue := false } }
  else c
def execTakeoverSupervision (ch : Chan) (s : State) : Host.Outcome State Fault Refusal := onChan ch takeoverSupervisionC s

end Sys2Proof.Machine
end

