-- ==== Sys2Proof/Machine/Dispatch.lean ====
section
/-! DEFINITION. The meaning of each command: one arm per constructor, each a direct call of its meaning. -/
namespace Sys2Proof.Machine

/-- The effect of a command on everything but the queue. -/
def exec (i : Instr) (s : State) : Host.Outcome State Fault Refusal :=
  match i with
  | .modeRequestHold x0 => Sys2Proof.Machine.execModeRequestHold x0 s
  | .modeRequestCommission x0 => Sys2Proof.Machine.execModeRequestCommission x0 s
  | .modeRequestOperate x0 => Sys2Proof.Machine.execModeRequestOperate x0 s
  | .modeRequestRestart x0 => Sys2Proof.Machine.execModeRequestRestart x0 s
  | .forceRestart x0 => Sys2Proof.Machine.execForceRestart x0 s
  | .activateConfigurationSlot x0 x1 => Sys2Proof.Machine.execActivateConfigurationSlot x0 x1 s
  | .commitFirmwareSlot x0 x1 => Sys2Proof.Machine.execCommitFirmwareSlot x0 x1 s
  | .restoreAll x0 x1 => Sys2Proof.Machine.execRestoreAll x0 x1 s
  | .restoreCommunication x0 x1 => Sys2Proof.Machine.execRestoreCommunication x0 x1 s
  | .echo x0 x1 x2 => Sys2Proof.Machine.execEcho x0 x1 x2 s
  | .dictRead x0 x1 x2 x3 x4 x5 => Sys2Proof.Machine.execDictRead x0 x1 x2 x3 x4 x5 s
  | .dictWrite x0 x1 x2 x3 x4 x5 x6 x7 x8 => Sys2Proof.Machine.execDictWrite x0 x1 x2 x3 x4 x5 x6 x7 x8 s
  | .dictDescribe x0 x1 x2 x3 => Sys2Proof.Machine.execDictDescribe x0 x1 x2 x3 s
  | .dictAbort x0 x1 x2 x3 => Sys2Proof.Machine.execDictAbort x0 x1 x2 x3 s
  | .writeSessionTimeout x0 x1 x2 => Sys2Proof.Machine.execWriteSessionTimeout x0 x1 x2 s
  | .readCopyLapse x0 x1 => Sys2Proof.Machine.execReadCopyLapse x0 x1 s
  | .mailboxResponse x0 => Sys2Proof.Machine.execMailboxResponse x0 s
  | .hostAtomicSwap x0 x1 x2 x3 => Sys2Proof.Machine.execHostAtomicSwap x0 x1 x2 x3 s
  | .hostAtomicFetchadd x0 x1 x2 x3 => Sys2Proof.Machine.execHostAtomicFetchadd x0 x1 x2 x3 s
  | .hostAtomicCas x0 x1 x2 x3 x4 => Sys2Proof.Machine.execHostAtomicCas x0 x1 x2 x3 x4 s
  | .hostWindowRead x0 x1 x2 x3 => Sys2Proof.Machine.execHostWindowRead x0 x1 x2 x3 s
  | .hostWindowWrite x0 x1 x2 x3 => Sys2Proof.Machine.execHostWindowWrite x0 x1 x2 x3 s
  | .hwstatW1c x0 x1 x2 => Sys2Proof.Machine.execHwstatW1c x0 x1 x2 s
  | .fstatW1c x0 x1 => Sys2Proof.Machine.execFstatW1c x0 x1 s
  | .evpendW1c x0 x1 x2 x3 => Sys2Proof.Machine.execEvpendW1c x0 x1 x2 x3 s
  | .ringstatW1c x0 x1 => Sys2Proof.Machine.execRingstatW1c x0 x1 s
  | .registerWrite x0 x1 x2 x3 => Sys2Proof.Machine.execRegisterWrite x0 x1 x2 x3 s
  | .functionLevelReset x0 => Sys2Proof.Machine.execFunctionLevelReset x0 s
  | .txEnable x0 => Sys2Proof.Machine.execTxEnable x0 s
  | .txDisable x0 => Sys2Proof.Machine.execTxDisable x0 s
  | .rxEnable x0 => Sys2Proof.Machine.execRxEnable x0 s
  | .rxDisable x0 => Sys2Proof.Machine.execRxDisable x0 s
  | .txtailWrite x0 x1 => Sys2Proof.Machine.execTxtailWrite x0 x1 s
  | .rxtailWrite x0 x1 => Sys2Proof.Machine.execRxtailWrite x0 x1 s
  | .hostTxFrame x0 x1 => Sys2Proof.Machine.execHostTxFrame x0 x1 s
  | .ringInterrupt x0 x1 => Sys2Proof.Machine.execRingInterrupt x0 x1 s
  | .applyOnlineChange x0 x1 => Sys2Proof.Machine.execApplyOnlineChange x0 x1 s
  | .lseRestart x0 x1 => Sys2Proof.Machine.execLseRestart x0 x1 s
  | .forceSet x0 x1 x2 x3 x4 x5 => Sys2Proof.Machine.execForceSet x0 x1 x2 x3 x4 x5 s
  | .forceRelease x0 x1 x2 => Sys2Proof.Machine.execForceRelease x0 x1 x2 s
  | .sleeveCreate x0 x1 => Sys2Proof.Machine.execSleeveCreate x0 x1 s
  | .sleeveDelete x0 x1 => Sys2Proof.Machine.execSleeveDelete x0 x1 s
  | .sleeveFreeze x0 x1 => Sys2Proof.Machine.execSleeveFreeze x0 x1 s
  | .sleeveThaw x0 x1 => Sys2Proof.Machine.execSleeveThaw x0 x1 s
  | .sleeveSave x0 x1 => Sys2Proof.Machine.execSleeveSave x0 x1 s
  | .sleeveRestore x0 x1 => Sys2Proof.Machine.execSleeveRestore x0 x1 s
  | .sleeveBehaviour x0 x1 x2 => Sys2Proof.Machine.execSleeveBehaviour x0 x1 x2 s
  | .pgArm x0 x1 => Sys2Proof.Machine.execPgArm x0 x1 s
  | .pgDisarm x0 x1 => Sys2Proof.Machine.execPgDisarm x0 x1 s
  | .recoveryRequest x0 x1 => Sys2Proof.Machine.execRecoveryRequest x0 x1 s
  | .internalLoopback x0 x1 x2 => Sys2Proof.Machine.execInternalLoopback x0 x1 x2 s
  | .manualTrigger x0 x1 => Sys2Proof.Machine.execManualTrigger x0 x1 s
  | .definitionArm x0 x1 => Sys2Proof.Machine.execDefinitionArm x0 x1 s
  | .definitionDisarm x0 x1 => Sys2Proof.Machine.execDefinitionDisarm x0 x1 s
  | .deleteStoreRecord x0 x1 => Sys2Proof.Machine.execDeleteStoreRecord x0 x1 s
  | .comtradeExport x0 => Sys2Proof.Machine.execComtradeExport x0 s
  | .importAnchor x0 x1 => Sys2Proof.Machine.execImportAnchor x0 x1 s
  | .importWrapped x0 x1 => Sys2Proof.Machine.execImportWrapped x0 x1 s
  | .keyInvalidate x0 x1 => Sys2Proof.Machine.execKeyInvalidate x0 x1 s
  | .keyDerive x0 x1 => Sys2Proof.Machine.execKeyDerive x0 x1 s
  | .keyReDerive x0 x1 => Sys2Proof.Machine.execKeyReDerive x0 x1 s
  | .attestationRequest x0 x1 => Sys2Proof.Machine.execAttestationRequest x0 x1 s
  | .reProvisioning x0 x1 => Sys2Proof.Machine.execReProvisioning x0 x1 s
  | .certificateInstall x0 x1 => Sys2Proof.Machine.execCertificateInstall x0 x1 s
  | .snapshotSchedule x0 x1 => Sys2Proof.Machine.execSnapshotSchedule x0 x1 s
  | .armingCodeRead x0 => Sys2Proof.Machine.execArmingCodeRead x0 s
  | .injectorArm x0 x1 x2 => Sys2Proof.Machine.execInjectorArm x0 x1 x2 s
  | .injectorDisarm x0 x1 => Sys2Proof.Machine.execInjectorDisarm x0 x1 s
  | .vinApplied x0 => Sys2Proof.Machine.execVinApplied x0 s
  | .pwarnAsserted x0 => Sys2Proof.Machine.execPwarnAsserted x0 s
  | .pwarnCleared x0 x1 => Sys2Proof.Machine.execPwarnCleared x0 x1 s
  | .liningBusBelowReset x0 => Sys2Proof.Machine.execLiningBusBelowReset x0 s
  | .resetReleased x0 => Sys2Proof.Machine.execResetReleased x0 s
  | .supplyOff x0 => Sys2Proof.Machine.execSupplyOff x0 s
  | .holdupConnect x0 => Sys2Proof.Machine.execHoldupConnect x0 s
  | .holdupDisconnect x0 => Sys2Proof.Machine.execHoldupDisconnect x0 s
  | .liningCharged x0 x1 => Sys2Proof.Machine.execLiningCharged x0 x1 s
  | .liningLeavesCharged x0 => Sys2Proof.Machine.execLiningLeavesCharged x0 s
  | .fuseOpen x0 x1 x2 => Sys2Proof.Machine.execFuseOpen x0 x1 x2 s
  | .temperatureCrossing x0 x1 => Sys2Proof.Machine.execTemperatureCrossing x0 x1 s
  | .histogramSample x0 x1 x2 => Sys2Proof.Machine.execHistogramSample x0 x1 x2 s
  | .mantleMeshBreach x0 => Sys2Proof.Machine.execMantleMeshBreach x0 s
  | .tamperNAsserted x0 x1 => Sys2Proof.Machine.execTamperNAsserted x0 x1 s
  | .clockMonitorFault x0 x1 => Sys2Proof.Machine.execClockMonitorFault x0 x1 s
  | .runtimeRestart x0 => Sys2Proof.Machine.execRuntimeRestart x0 s
  | .bootB1Complete x0 x1 x2 x3 x4 => Sys2Proof.Machine.execBootB1Complete x0 x1 x2 x3 x4 s
  | .bootB2Complete x0 => Sys2Proof.Machine.execBootB2Complete x0 s
  | .bootB3Complete x0 x1 => Sys2Proof.Machine.execBootB3Complete x0 x1 s
  | .bootB4Complete x0 x1 x2 x3 x4 x5 => Sys2Proof.Machine.execBootB4Complete x0 x1 x2 x3 x4 x5 s
  | .bootB5Complete x0 => Sys2Proof.Machine.execBootB5Complete x0 s
  | .bootB6Complete x0 => Sys2Proof.Machine.execBootB6Complete x0 s
  | .bootB7Complete x0 x1 => Sys2Proof.Machine.execBootB7Complete x0 x1 s
  | .loneChannelWaitExpiry x0 => Sys2Proof.Machine.execLoneChannelWaitExpiry x0 s
  | .graphStart x0 => Sys2Proof.Machine.execGraphStart x0 s
  | .warmUpWindowExpiry x0 => Sys2Proof.Machine.execWarmUpWindowExpiry x0 s
  | .roleArbitrationGrant x0 => Sys2Proof.Machine.execRoleArbitrationGrant x0 s
  | .holdCtlContention x0 => Sys2Proof.Machine.execHoldCtlContention x0 s
  | .twinAbsent x0 => Sys2Proof.Machine.execTwinAbsent x0 s
  | .twinHoldCtlDeasserted x0 => Sys2Proof.Machine.execTwinHoldCtlDeasserted x0 s
  | .cuffOpen x0 => Sys2Proof.Machine.execCuffOpen x0 s
  | .takeoverSupervision x0 => Sys2Proof.Machine.execTakeoverSupervision x0 s
  | .finalTimeout x0 => Sys2Proof.Machine.execFinalTimeout x0 s
  | .nonPostedTakeoverAbort x0 x1 x2 => Sys2Proof.Machine.execNonPostedTakeoverAbort x0 x1 x2 s
  | .hostCommandRecord x0 x1 => Sys2Proof.Machine.execHostCommandRecord x0 x1 s
  | .sleeveLifecycleRecord x0 x1 => Sys2Proof.Machine.execSleeveLifecycleRecord x0 x1 s
  | .keySlotChangeRecord x0 x1 => Sys2Proof.Machine.execKeySlotChangeRecord x0 x1 s
  | .confirmationRecord x0 x1 => Sys2Proof.Machine.execConfirmationRecord x0 x1 s
  | .canOutcomeRecord x0 x1 => Sys2Proof.Machine.execCanOutcomeRecord x0 x1 s
  | .finalRecord x0 x1 => Sys2Proof.Machine.execFinalRecord x0 x1 s
  | .digestRecord x0 x1 => Sys2Proof.Machine.execDigestRecord x0 x1 s
  | .digestUnmatched x0 => Sys2Proof.Machine.execDigestUnmatched x0 s
  | .alignmentRecord x0 x1 x2 => Sys2Proof.Machine.execAlignmentRecord x0 x1 x2 s
  | .retainDigestRecord x0 x1 => Sys2Proof.Machine.execRetainDigestRecord x0 x1 s
  | .mirrorSetRecord x0 x1 => Sys2Proof.Machine.execMirrorSetRecord x0 x1 s
  | .idleRecordSend x0 => Sys2Proof.Machine.execIdleRecordSend x0 s
  | .lanesDown x0 => Sys2Proof.Machine.execLanesDown x0 s
  | .lanesTrained x0 => Sys2Proof.Machine.execLanesTrained x0 s
  | .selfDiagnosisComplete x0 x1 x2 => Sys2Proof.Machine.execSelfDiagnosisComplete x0 x1 x2 s
  | .realignmentBoundary x0 x1 => Sys2Proof.Machine.execRealignmentBoundary x0 x1 s
  | .resyncStageComplete x0 => Sys2Proof.Machine.execResyncStageComplete x0 s
  | .resyncStageTimeout x0 => Sys2Proof.Machine.execResyncStageTimeout x0 s
  | .transferBoundary x0 => Sys2Proof.Machine.execTransferBoundary x0 s
  | .convergenceReached x0 => Sys2Proof.Machine.execConvergenceReached x0 s
  | .modeSwitchBoundary x0 => Sys2Proof.Machine.execModeSwitchBoundary x0 s
  | .hbusyPulseEnd x0 => Sys2Proof.Machine.execHbusyPulseEnd x0 s
  | .perstAsserted => Sys2Proof.Machine.execPerstAsserted s
  | .linkTrained x0 x1 => Sys2Proof.Machine.execLinkTrained x0 x1 s
  | .hostRxFrame x0 x1 x2 => Sys2Proof.Machine.execHostRxFrame x0 x1 x2 s
  | .frameReceived x0 x1 x2 x3 => Sys2Proof.Machine.execFrameReceived x0 x1 x2 x3 s
  | .egressFrameStart x0 x1 => Sys2Proof.Machine.execEgressFrameStart x0 x1 s
  | .publisherHandover x0 => Sys2Proof.Machine.execPublisherHandover x0 s
  | .pauseReceived x0 x1 x2 => Sys2Proof.Machine.execPauseReceived x0 x1 x2 s
  | .pauseExpiry x0 x1 => Sys2Proof.Machine.execPauseExpiry x0 x1 s
  | .portDown x0 x1 => Sys2Proof.Machine.execPortDown x0 x1 s
  | .portUp x0 x1 => Sys2Proof.Machine.execPortUp x0 x1 s
  | .preemptionVerifyComplete x0 x1 x2 => Sys2Proof.Machine.execPreemptionVerifyComplete x0 x1 x2 s
  | .lifeCheckInterval x0 x1 => Sys2Proof.Machine.execLifeCheckInterval x0 x1 s
  | .nodeForget x0 x1 x2 => Sys2Proof.Machine.execNodeForget x0 x1 x2 s
  | .entryForget x0 x1 x2 x3 => Sys2Proof.Machine.execEntryForget x0 x1 x2 x3 s
  | .learnedEntryAgeOut x0 x1 x2 => Sys2Proof.Machine.execLearnedEntryAgeOut x0 x1 x2 s
  | .ingestFrameService x0 => Sys2Proof.Machine.execIngestFrameService x0 s
  | .slotCloseMissing x0 x1 => Sys2Proof.Machine.execSlotCloseMissing x0 x1 s
  | .heldSlotWrite x0 x1 => Sys2Proof.Machine.execHeldSlotWrite x0 x1 s
  | .subscriptionChangeApply x0 x1 => Sys2Proof.Machine.execSubscriptionChangeApply x0 x1 s
  | .pathCompute x0 x1 => Sys2Proof.Machine.execPathCompute x0 x1 s
  | .conditioningChangeApply x0 x1 => Sys2Proof.Machine.execConditioningChangeApply x0 x1 s
  | .hostWriteEffect x0 x1 x2 => Sys2Proof.Machine.execHostWriteEffect x0 x1 x2 s
  | .sampleBoundary x0 x1 => Sys2Proof.Machine.execSampleBoundary x0 x1 s
  | .firingRelease x0 x1 x2 => Sys2Proof.Machine.execFiringRelease x0 x1 x2 s
  | .heldEntryGranted x0 x1 => Sys2Proof.Machine.execHeldEntryGranted x0 x1 s
  | .firingDispatch x0 x1 => Sys2Proof.Machine.execFiringDispatch x0 x1 s
  | .firingResume x0 x1 => Sys2Proof.Machine.execFiringResume x0 x1 s
  | .firingNoCompletion x0 x1 x2 => Sys2Proof.Machine.execFiringNoCompletion x0 x1 x2 s
  | .opPhasor x0 x1 x2 => Sys2Proof.Machine.execOpPhasor x0 x1 x2 s
  | .opSeq x0 x1 x2 => Sys2Proof.Machine.execOpSeq x0 x1 x2 s
  | .opOci x0 x1 x2 => Sys2Proof.Machine.execOpOci x0 x1 x2 s
  | .opOct x0 x1 x2 => Sys2Proof.Machine.execOpOct x0 x1 x2 s
  | .opDir x0 x1 x2 => Sys2Proof.Machine.execOpDir x0 x1 x2 s
  | .opDiff x0 x1 x2 => Sys2Proof.Machine.execOpDiff x0 x1 x2 s
  | .opUvov x0 x1 x2 => Sys2Proof.Machine.execOpUvov x0 x1 x2 s
  | .opFreq x0 x1 x2 => Sys2Proof.Machine.execOpFreq x0 x1 x2 s
  | .opRpw x0 x1 x2 => Sys2Proof.Machine.execOpRpw x0 x1 x2 s
  | .opSync x0 x1 x2 => Sys2Proof.Machine.execOpSync x0 x1 x2 s
  | .opBf x0 x1 x2 => Sys2Proof.Machine.execOpBf x0 x1 x2 s
  | .opTherm x0 x1 x2 => Sys2Proof.Machine.execOpTherm x0 x1 x2 s
  | .opIef x0 x1 x2 => Sys2Proof.Machine.execOpIef x0 x1 x2 s
  | .opDcoc x0 x1 x2 => Sys2Proof.Machine.execOpDcoc x0 x1 x2 s
  | .opDcdi x0 x1 x2 => Sys2Proof.Machine.execOpDcdi x0 x1 x2 s
  | .opDcsi x0 x1 x2 => Sys2Proof.Machine.execOpDcsi x0 x1 x2 s
  | .opSum x0 x1 x2 => Sys2Proof.Machine.execOpSum x0 x1 x2 s
  | .opScale x0 x1 x2 => Sys2Proof.Machine.execOpScale x0 x1 x2 s
  | .opDelay x0 x1 x2 => Sys2Proof.Machine.execOpDelay x0 x1 x2 s
  | .opCmp x0 x1 x2 => Sys2Proof.Machine.execOpCmp x0 x1 x2 s
  | .opHold x0 x1 x2 => Sys2Proof.Machine.execOpHold x0 x1 x2 s
  | .opTrip x0 x1 x2 => Sys2Proof.Machine.execOpTrip x0 x1 x2 s
  | .opPub x0 x1 x2 => Sys2Proof.Machine.execOpPub x0 x1 x2 s
  | .opCap x0 x1 x2 => Sys2Proof.Machine.execOpCap x0 x1 x2 s
  | .publisherFrameBuild x0 => Sys2Proof.Machine.execPublisherFrameBuild x0 s
  | .firstGooseFrame x0 x1 => Sys2Proof.Machine.execFirstGooseFrame x0 x1 s
  | .svSendDeadline x0 x1 => Sys2Proof.Machine.execSvSendDeadline x0 x1 s
  | .tick x0 => Sys2Proof.Machine.execTick x0 s
  | .retxDue x0 x1 => Sys2Proof.Machine.execRetxDue x0 x1 s
  | .horizonDue x0 x1 x2 => Sys2Proof.Machine.execHorizonDue x0 x1 x2 s
  | .delayFullRecheck x0 => Sys2Proof.Machine.execDelayFullRecheck x0 s
  | .gooseMessageReceived x0 x1 => Sys2Proof.Machine.execGooseMessageReceived x0 x1 s
  | .talExpiry x0 x1 => Sys2Proof.Machine.execTalExpiry x0 x1 s
  | .gooseStateDeliver x0 x1 => Sys2Proof.Machine.execGooseStateDeliver x0 x1 s
  | .lseCycleBoundary x0 => Sys2Proof.Machine.execLseCycleBoundary x0 s
  | .lseOverrunCeiling x0 x1 => Sys2Proof.Machine.execLseOverrunCeiling x0 x1 s
  | .lseNop x0 x1 x2 => Sys2Proof.Machine.execLseNop x0 x1 x2 s
  | .lseLd x0 x1 x2 => Sys2Proof.Machine.execLseLd x0 x1 x2 s
  | .lseLdn x0 x1 x2 => Sys2Proof.Machine.execLseLdn x0 x1 x2 s
  | .lseAnd x0 x1 x2 => Sys2Proof.Machine.execLseAnd x0 x1 x2 s
  | .lseAndn x0 x1 x2 => Sys2Proof.Machine.execLseAndn x0 x1 x2 s
  | .lseOr x0 x1 x2 => Sys2Proof.Machine.execLseOr x0 x1 x2 s
  | .lseOrn x0 x1 x2 => Sys2Proof.Machine.execLseOrn x0 x1 x2 s
  | .lseXor x0 x1 x2 => Sys2Proof.Machine.execLseXor x0 x1 x2 s
  | .lseNot x0 x1 x2 => Sys2Proof.Machine.execLseNot x0 x1 x2 s
  | .lseSt x0 x1 x2 => Sys2Proof.Machine.execLseSt x0 x1 x2 s
  | .lseStn x0 x1 x2 => Sys2Proof.Machine.execLseStn x0 x1 x2 s
  | .lseSet x0 x1 x2 => Sys2Proof.Machine.execLseSet x0 x1 x2 s
  | .lseRst x0 x1 x2 => Sys2Proof.Machine.execLseRst x0 x1 x2 s
  | .lseRe x0 x1 x2 => Sys2Proof.Machine.execLseRe x0 x1 x2 s
  | .lseFe x0 x1 x2 => Sys2Proof.Machine.execLseFe x0 x1 x2 s
  | .lseApush x0 x1 x2 => Sys2Proof.Machine.execLseApush x0 x1 x2 s
  | .lseOpush x0 x1 x2 => Sys2Proof.Machine.execLseOpush x0 x1 x2 s
  | .lsePop x0 x1 x2 => Sys2Proof.Machine.execLsePop x0 x1 x2 s
  | .lseLdw x0 x1 x2 => Sys2Proof.Machine.execLseLdw x0 x1 x2 s
  | .lseLdi x0 x1 x2 => Sys2Proof.Machine.execLseLdi x0 x1 x2 s
  | .lseStw x0 x1 x2 => Sys2Proof.Machine.execLseStw x0 x1 x2 s
  | .lseAddw x0 x1 x2 => Sys2Proof.Machine.execLseAddw x0 x1 x2 s
  | .lseSubw x0 x1 x2 => Sys2Proof.Machine.execLseSubw x0 x1 x2 s
  | .lseMulw x0 x1 x2 => Sys2Proof.Machine.execLseMulw x0 x1 x2 s
  | .lseCeq x0 x1 x2 => Sys2Proof.Machine.execLseCeq x0 x1 x2 s
  | .lseCgt x0 x1 x2 => Sys2Proof.Machine.execLseCgt x0 x1 x2 s
  | .lseClt x0 x1 x2 => Sys2Proof.Machine.execLseClt x0 x1 x2 s
  | .lseMovc x0 x1 x2 => Sys2Proof.Machine.execLseMovc x0 x1 x2 s
  | .lseTon x0 x1 x2 => Sys2Proof.Machine.execLseTon x0 x1 x2 s
  | .lseTof x0 x1 x2 => Sys2Proof.Machine.execLseTof x0 x1 x2 s
  | .lseTp x0 x1 x2 => Sys2Proof.Machine.execLseTp x0 x1 x2 s
  | .lseCtu x0 x1 x2 => Sys2Proof.Machine.execLseCtu x0 x1 x2 s
  | .lseCtd x0 x1 x2 => Sys2Proof.Machine.execLseCtd x0 x1 x2 s
  | .lseCrst x0 x1 x2 => Sys2Proof.Machine.execLseCrst x0 x1 x2 s
  | .lseCldp x0 x1 x2 => Sys2Proof.Machine.execLseCldp x0 x1 x2 s
  | .lseJmp x0 x1 x2 => Sys2Proof.Machine.execLseJmp x0 x1 x2 s
  | .lseJc x0 x1 x2 => Sys2Proof.Machine.execLseJc x0 x1 x2 s
  | .lseJcn x0 x1 x2 => Sys2Proof.Machine.execLseJcn x0 x1 x2 s
  | .lseEnd x0 x1 x2 => Sys2Proof.Machine.execLseEnd x0 x1 x2 s
  | .lseQv x0 x1 x2 => Sys2Proof.Machine.execLseQv x0 x1 x2 s
  | .lseQg x0 x1 x2 => Sys2Proof.Machine.execLseQg x0 x1 x2 s
  | .onlineChangeSwap x0 x1 => Sys2Proof.Machine.execOnlineChangeSwap x0 x1 s
  | .forceEffect x0 x1 => Sys2Proof.Machine.execForceEffect x0 x1 s
  | .retainInterval x0 x1 => Sys2Proof.Machine.execRetainInterval x0 x1 s
  | .retainFlushRetry x0 x1 => Sys2Proof.Machine.execRetainFlushRetry x0 x1 s
  | .sleeveStartBoundary x0 x1 => Sys2Proof.Machine.execSleeveStartBoundary x0 x1 s
  | .freezeBoundary x0 x1 => Sys2Proof.Machine.execFreezeBoundary x0 x1 s
  | .thawBoundary x0 x1 => Sys2Proof.Machine.execThawBoundary x0 x1 s
  | .deletionBoundary x0 x1 => Sys2Proof.Machine.execDeletionBoundary x0 x1 s
  | .behaviourBoundary x0 x1 => Sys2Proof.Machine.execBehaviourBoundary x0 x1 s
  | .saveBlobReady x0 x1 => Sys2Proof.Machine.execSaveBlobReady x0 x1 s
  | .moveBegin x0 x1 x2 x3 => Sys2Proof.Machine.execMoveBegin x0 x1 x2 x3 s
  | .moveFinalTransfer x0 x1 x2 => Sys2Proof.Machine.execMoveFinalTransfer x0 x1 x2 s
  | .moveBindingSwitch x0 x1 x2 => Sys2Proof.Machine.execMoveBindingSwitch x0 x1 x2 s
  | .tileSelftestPass x0 x1 x2 => Sys2Proof.Machine.execTileSelftestPass x0 x1 x2 s
  | .scrubPass x0 x1 x2 x3 => Sys2Proof.Machine.execScrubPass x0 x1 x2 x3 s
  | .bankWakeComplete x0 x1 => Sys2Proof.Machine.execBankWakeComplete x0 x1 s
  | .bankRetentionEntry x0 x1 => Sys2Proof.Machine.execBankRetentionEntry x0 x1 s
  | .syncReceived x0 x1 x2 x3 => Sys2Proof.Machine.execSyncReceived x0 x1 x2 x3 s
  | .followUpReceived x0 x1 x2 => Sys2Proof.Machine.execFollowUpReceived x0 x1 x2 s
  | .followUpMatchTimeout x0 x1 => Sys2Proof.Machine.execFollowUpMatchTimeout x0 x1 s
  | .announceReceived x0 x1 x2 => Sys2Proof.Machine.execAnnounceReceived x0 x1 x2 s
  | .announceReceiptTimeout x0 => Sys2Proof.Machine.execAnnounceReceiptTimeout x0 s
  | .pdelayReqReceived x0 x1 x2 x3 => Sys2Proof.Machine.execPdelayReqReceived x0 x1 x2 x3 s
  | .pdelayRespReceived x0 x1 x2 x3 => Sys2Proof.Machine.execPdelayRespReceived x0 x1 x2 x3 s
  | .pdelayInterval x0 x1 => Sys2Proof.Machine.execPdelayInterval x0 x1 s
  | .holdoverLimit x0 => Sys2Proof.Machine.execHoldoverLimit x0 s
  | .pulseActiveEdge x0 x1 => Sys2Proof.Machine.execPulseActiveEdge x0 x1 s
  | .pulseInactiveEdge x0 x1 => Sys2Proof.Machine.execPulseInactiveEdge x0 x1 s
  | .canFrameReceived x0 x1 x2 => Sys2Proof.Machine.execCanFrameReceived x0 x1 x2 s
  | .canSourceCopy x0 x1 => Sys2Proof.Machine.execCanSourceCopy x0 x1 s
  | .canLockTimeout x0 x1 => Sys2Proof.Machine.execCanLockTimeout x0 x1 s
  | .canAttemptStart x0 x1 => Sys2Proof.Machine.execCanAttemptStart x0 x1 s
  | .canAttemptEnd x0 x1 x2 => Sys2Proof.Machine.execCanAttemptEnd x0 x1 x2 s
  | .busOffRecovery x0 x1 => Sys2Proof.Machine.execBusOffRecovery x0 x1 s
  | .canPortReinit x0 x1 => Sys2Proof.Machine.execCanPortReinit x0 x1 s
  | .usdoDownload x0 x1 x2 x3 x4 x5 x6 x7 => Sys2Proof.Machine.execUsdoDownload x0 x1 x2 x3 x4 x5 x6 x7 s
  | .usdoUpload x0 x1 x2 x3 x4 x5 => Sys2Proof.Machine.execUsdoUpload x0 x1 x2 x3 x4 x5 s
  | .usdoTimeout x0 x1 => Sys2Proof.Machine.execUsdoTimeout x0 x1 s
  | .nmtCommand x0 x1 x2 => Sys2Proof.Machine.execNmtCommand x0 x1 x2 s
  | .heartbeat x0 x1 => Sys2Proof.Machine.execHeartbeat x0 x1 s
  | .pleatRowCapture x0 x1 => Sys2Proof.Machine.execPleatRowCapture x0 x1 s
  | .rearmComplete x0 x1 => Sys2Proof.Machine.execRearmComplete x0 x1 s
  | .manualTriggerInstant x0 => Sys2Proof.Machine.execManualTriggerInstant x0 s
  | .storeWriteStart x0 => Sys2Proof.Machine.execStoreWriteStart x0 s
  | .storeWriteComplete x0 => Sys2Proof.Machine.execStoreWriteComplete x0 s
  | .keyCommandEffect x0 => Sys2Proof.Machine.execKeyCommandEffect x0 s
  | .keyCommitRetry x0 => Sys2Proof.Machine.execKeyCommitRetry x0 s
  | .attestationStatementReady x0 => Sys2Proof.Machine.execAttestationStatementReady x0 s
  | .ledgerBatch x0 => Sys2Proof.Machine.execLedgerBatch x0 s
  | .ledgerBatchRetry x0 => Sys2Proof.Machine.execLedgerBatchRetry x0 s
  | .snapshotLatch x0 => Sys2Proof.Machine.execSnapshotLatch x0 s
  | .snapshotCopyComplete x0 => Sys2Proof.Machine.execSnapshotCopyComplete x0 s
  | .injectorDurationExpiry x0 x1 => Sys2Proof.Machine.execInjectorDurationExpiry x0 x1 s
  | .seamAliveResumed x0 => Sys2Proof.Machine.execSeamAliveResumed x0 s
  | .twinHoldCtlAsserted x0 => Sys2Proof.Machine.execTwinHoldCtlAsserted x0 s
  | .hostBridgeFailure => Sys2Proof.Machine.execHostBridgeFailure s
  | .resyncImageReceived x0 => Sys2Proof.Machine.execResyncImageReceived x0 s
  | .syncInterval x0 => Sys2Proof.Machine.execSyncInterval x0 s
  | .announceInterval x0 => Sys2Proof.Machine.execAnnounceInterval x0 s
  | .canReceiveError x0 x1 x2 => Sys2Proof.Machine.execCanReceiveError x0 x1 x2 s
  | .vfEnableWrite x0 x1 => Sys2Proof.Machine.execVfEnableWrite x0 x1 s
  | .vinDipInClearingWindow x0 => Sys2Proof.Machine.execVinDipInClearingWindow x0 s

end Sys2Proof.Machine
end

