-- ==== Sys2Proof/Safety.lean ====
section
/-! DEFINITION. What counts as a safe state of the block, in the terms the statements use. -/
namespace Sys2Proof

open Machine

/-- A command is carried out: the block answers with a next state, which has what `P` says. -/
def Does (i : Instr) (s : State) (P : State → Prop) : Prop := ∃ t, exec i s = .next t ∧ P t

/-- One channel alone may differ between two states. -/
def onlyChan (ch : Chan) (s t : State) : Prop :=
  chanOf t ch.twin = chanOf s ch.twin ∧ t.supply = s.supply ∧ t.bridge = s.bridge ∧ t.fuseA = s.fuseA ∧ t.fuseB = s.fuseB ∧
    t.pending = s.pending

/-- A path's request reaches its channel now: the bridge carries it and does not hold it for a takeover (15 R449, R450, R462). -/
def PathReady (s : State) (p : Path) : Prop := bridgeCarries s p = true ∧ (pathBoth p && bridgeHolds s) = false

/-- The channel that a path reaches. -/
def atPath (s : State) (p : Path) : Channel := chanOf s (pathChan s p)

/-- The first conditions of a write through a path: the path is in use, reaches the entry, and the mode is listed (21 R616, R617). -/
def WriteReady (s : State) (p : Path) (modes : List Nat) (index : Nat) : Prop :=
  PathReady s p ∧ pathLive p (atPath s p) = true ∧ reaches p index = true ∧ modeIn modes (atPath s p) = true

/-- An access to an entry through a path finds the entry's row (21 R616, R617, R629). -/
def EntryReady (s : State) (p : Path) (index sub : Nat) (r : OdRow) : Prop :=
  PathReady s p ∧ pathLive p (atPath s p) = true ∧ noSleeve p (atPath s p) = false ∧ indexExists (atPath s p) index = true ∧
    rowOf (atPath s p) index sub = some r ∧ reaches p index = true

/-- PWARN and the active discharge are as the supply state has them (23 R658, R659). -/
def supplyOk (p : Supply) : Bool :=
  match p.st with
  | .off => !p.pwarn
  | .normal => !p.pwarn && !p.discharge
  | .warning => p.pwarn && !p.discharge
  | .reset => p.pwarn && p.discharge && p.linState == .discharged

/-- The host bridge: a link speed and width of OD 2A00, at most 64 VFs, and one at least where VF Enable is set; a bridge that has
failed carries no link and holds no request (01 R20; 15 R449, R450, R485). -/
def bridgeOk (b : Bridge) : Bool :=
  decide (b.speed ≤ 4) && [0, 1, 2, 4].contains b.width && decide (b.numVfs ≤ 64) && (!b.vfEnable || b.numVfs != 0) &&
    (!b.failed || (b.speed == 0 && b.width == 0 && b.held.isEmpty))

/-- The invariant of the block that every step keeps. -/
def Inv (s : State) : Prop := supplyOk s.supply = true ∧ bridgeOk s.bridge = true

/-- The Host Window in canonical form: addresses strictly rising, and no entry equal to what an unlisted byte reads as (07 R229). -/
def windowOk (c : Channel) : Bool := zWf c.host.window

/-- At most one channel has its Cuff open and holds control (12 R368). -/
def oneOpen (s : State) : Bool := !(s.a.pub.cuff && s.b.pub.cuff && s.a.seam.holdCtl && s.b.seam.holdCtl)

/-! ### What the statements say with -/

/-- The commands by which a record of a kind arrives. -/
def recordCommand (ch : Chan) (ok : Bool) (ps : Int) : MRec → Instr
  | .hostCmd _ => .hostCommandRecord ch ok
  | .lifecycle _ _ _ _ => .sleeveLifecycleRecord ch ok
  | .keyChange _ _ _ => .keySlotChangeRecord ch ok
  | .confirm _ _ _ _ _ => .confirmationRecord ch ok
  | .canOutcome _ _ _ _ => .canOutcomeRecord ch ok
  | .final _ => .finalRecord ch ok
  | .digest _ => .digestRecord ch ok
  | .alignment _ => .alignmentRecord ch ok ps
  | .retainDigest _ _ _ => .retainDigestRecord ch ok
  | .mirrorSet _ => .mirrorSetRecord ch ok

/-- A mirror record of the twin reaches the channel: it is the oldest one posted, and nothing spoils or delays it. -/
def RecordReady (s : State) (ch : Chan) (r : MRec) (rest : List MRec) : Prop :=
  (chanOf s ch.twin).seam.out = r :: rest ∧ (chanOf s ch).seam.presence = 2 ∧ (chanOf s ch).boot.powered = true ∧
    (injGet (chanOf s ch.twin) 12).armed = false ∧ ((chanOf s ch).seam.takeover ≠ none ∨ (chanOf s ch).seam.twinHold = false)

/-- A function's request reaches the Host Window or the registers of its channel (15 R449, R455). -/
def FnReady (s : State) (p : Path) : Prop := PathReady s p ∧ (∀ ch n, p ≠ .svc ch n) ∧ hostUp (atPath s p) = true

/-- An instance that waits has the conditions of its next firing: its graph has started, nothing to discard, an instant, room on every output, and every
producer far enough (05 R154; 06 R186). -/
def ReleaseReady (s : State) (ch : Chan) (n i t : Nat) (g : GraphRt) (r : InstRec) (x : InstRt) : Prop :=
  graphStarted (chanOf s ch) n = true ∧ kGet (chanOf s ch).graphs n = some g ∧ instOf g i = some (r, x) ∧ x.fs = .waiting ∧
    alignLoop (chanOf s ch) i r 512 (g, 0, false) = (g, 0, false) ∧ firingInstant (chanOf s ch) (trimAll g) i r x = some t ∧
    roomOut (trimAll g) i r = true ∧ horizonMisses (chanOf s ch) (trimAll g) i r t = []

/-- The run-time part of an instance of a channel. -/
def instAt (c : Channel) (n i : Nat) : Option InstRt := (kGet c.graphs n).bind (fun g => kGet g.insts i)

/-- A firing's tokens, its instance as it computes (anew after a history break), and what its operator gives (05 R155 to R158; 09 R283). -/
def firingTokens (c : Channel) (g : GraphRt) (i : Nat) (r : InstRec) (x : InstRt) : List (Bool × Nat × Token) := takenTokens c g i r x.instant
def firingInst (c : Channel) (g : GraphRt) (i : Nat) (r : InstRec) (x : InstRt) : InstRt :=
  if x.breakPend || (firingTokens c g i r x).any (fun k => k.1 && k.2.2.histBreak) then instInit r x else x
def firingOut (f : OpEnv → OpState → List OpIn → OpOut) (c : Channel) (g : GraphRt) (i : Nat) (r : InstRec) (x : InstRt) : OpOut :=
  f { par := r.params, rate := rateOfInst c g i, cls := r.cls, instant := x.instant, inits := r.init } (firingInst c g i r x).st
    (opInputs r (firingInst c g i r x) (firingTokens c g i r x))

/-- A running firing of an operator completes: the instance waits again with the state the operator computed, and the newest token of each
output is what the operator gave, or its initial value while the instance is not warm (05 R151, R155, R158). -/
def OpDoes (cmd : Chan → Nat → Nat → Instr) (op : Nat) (f : OpEnv → OpState → List OpIn → OpOut) : Prop :=
  ∀ s ch n i g r x, kGet (chanOf s ch).graphs n = some g → instOf g i = some (r, x) → r.op = op → x.fs = .running →
    Does (cmd ch n i) s (fun t => onlyChan ch s t ∧ ∃ h y, kGet (chanOf t ch).graphs n = some h ∧ kGet h.insts i = some y ∧ y.fs = .waiting ∧
      y.done = x.instant ∧ y.st = (firingOut f (chanOf s ch) g i r x).st ∧
      ∀ p < r.outs.length, (ringOf h (ringKey false i p)).newest.map (fun k => k.pay) =
        some (if opWarm r.op r.params ≤ (firingInst (chanOf s ch) g i r x).warm
          then nth (firingOut f (chanOf s ch) g i r x).outs p [0] else nth r.init p [0]))

/-- A firing of another operator, or one that does not run, is not completed by an operator's command. -/
def OpIdle (cmd : Chan → Nat → Nat → Instr) (op : Nat) : Prop :=
  ∀ s ch n i g r x, kGet (chanOf s ch).graphs n = some g → instOf g i = some (r, x) → (r.op ≠ op ∨ x.fs ≠ .running) →
    Does (cmd ch n i) s (fun t => chanOf t ch = commitsEnded (chanOf s ch) ∧ onlyChan ch s t)

/-- An instruction of the Logic Scan Engine, fetched in the scan that runs first, gives the registers that `res` says, and nothing else
of its channel and nothing of the rest changes (11 R336, R346). -/
def LseDoes (cmd : Chan → Nat → Nat → Instr) (op : Nat) (res : Lse → Nat → LseRegs) : Prop :=
  ∀ s ch n a L, kGet (chanOf s ch).lse n = some L → scanFirst (chanOf s ch) n L = true →
    nth L.prog.code L.r.ip 0 = BitVec.ofNat 32 (op * 16777216 + a) →
    Does (cmd ch n a) s (fun t => kGet (chanOf t ch).lse n = some { L with r := res L a } ∧
      (∀ m, m ≠ n → kGet (chanOf t ch).lse m = kGet (chanOf s ch).lse m) ∧
      chanOf t ch = { commitsEnded (chanOf s ch) with lse := (chanOf t ch).lse } ∧ onlyChan ch s t)

/-- A word that is not the next instruction of the scan that runs first is not executed (11 R336). -/
def LseIdle (cmd : Chan → Nat → Nat → Instr) (op : Nat) : Prop :=
  ∀ s ch n a L, kGet (chanOf s ch).lse n = some L →
    (scanFirst (chanOf s ch) n L = false ∨ nth L.prog.code L.r.ip 0 ≠ BitVec.ofNat 32 (op * 16777216 + a)) →
    Does (cmd ch n a) s (fun t => chanOf t ch = commitsEnded (chanOf s ch) ∧ onlyChan ch s t)

/-- The word that an instruction of saturated arithmetic leaves in W (11 R346). -/
def LseSaturates (cmd : Chan → Nat → Nat → Instr) (op : Nat) (f : Int → Int → Int) : Prop :=
  ∀ s ch n a L, kGet (chanOf s ch).lse n = some L → scanFirst (chanOf s ch) n L = true →
    nth L.prog.code L.r.ip 0 = BitVec.ofNat 32 (op * 16777216 + a) →
    Does (cmd ch n a) s (fun t => ∃ w : U32, kGet (chanOf t ch).lse n = some { L with r := { L.r with w := w, ip := L.r.ip + 1 } } ∧
      (let x := f L.r.w.toInt (lseWord L L.r a).toInt
       (-2147483648 ≤ x ∧ x ≤ 2147483647 → w.toInt = x) ∧ (x < -2147483648 → w.toInt = -2147483648) ∧ (2147483647 < x → w.toInt = 2147483647)) ∧
      onlyChan ch s t)

/-- A forced timer or counter keeps its words, and B takes the Q of its forced status word (11 R357). -/
def BlockForced (cmd : Chan → Nat → Nat → Instr) (op : Nat) : Prop :=
  ∀ s ch n a L f, kGet (chanOf s ch).lse n = some L → scanFirst (chanOf s ch) n L = true →
    nth L.prog.code L.r.ip 0 = BitVec.ofNat 32 (op * 16777216 + a) → forceAt L true (a + 1) ≠ none → forceAt L true (a + 2) = some f →
    Does (cmd ch n a) s (fun t => ∃ r : LseRegs, kGet (chanOf t ch).lse n = some { L with r := r } ∧ r.b = f.getLsbD 0 ∧
      r.words = L.r.words ∧ r.ip = L.r.ip + 1 ∧ onlyChan ch s t)

/-- What a timer or a counter at word `a` leaves, none of its words forced: the second word, the status word with Q and IN, B = Q, and
the cycle as that of its last execution (11 R347, R348). -/
def BlockDoes (cmd : Chan → Nat → Nat → Instr) (op : Nat) (second : Lse → Nat → Int) (q : Lse → Nat → Bool) : Prop :=
  ∀ s ch n a L, kGet (chanOf s ch).lse n = some L → scanFirst (chanOf s ch) n L = true →
    nth L.prog.code L.r.ip 0 = BitVec.ofNat 32 (op * 16777216 + a) → forceAt L true (a + 1) = none → forceAt L true (a + 2) = none →
    Does (cmd ch n a) s (fun t => ∃ r : LseRegs, kGet (chanOf t ch).lse n = some { L with r := r } ∧ r.b = q L a ∧
      zGet r.words (a + 1) = BitVec.ofInt 32 (second L a) ∧ (zGet r.words (a + 2)).getLsbD 0 = q L a ∧
      (zGet r.words (a + 2)).getLsbD 1 = L.r.b ∧ kGet r.lastExec a = some L.r.s ∧
      (∀ x, x ≠ a + 1 → x ≠ a + 2 → zGet r.words x = zGet L.r.words x) ∧
      r = { L.r with b := r.b, words := r.words, lastExec := r.lastExec, ip := L.r.ip + 1 } ∧ onlyChan ch s t)

/-- Δ in µs: from the start boundary of the cycle of the block's last execution to that of this one, and 0 at the first (11 R347). -/
def elapsedUs (L : Lse) (a : Nat) : Int :=
  match kGet L.r.lastExec a with
  | some t => ((L.r.s - t) / 1000 : Nat)
  | none => 0

/-- ET of TON after the instruction, by IN before and now (the table of 11 R347). -/
def tonEt (L : Lse) (a : Nat) : Int :=
  if L.r.b then (if blockIn L a L.r then min (lseWord L L.r a).toInt ((lseWord L L.r (a + 1)).toInt + elapsedUs L a) else 0)
  else if blockIn L a L.r then 0 else (lseWord L L.r (a + 1)).toInt

/-- ET of TOF after the instruction. -/
def tofEt (L : Lse) (a : Nat) : Int :=
  if L.r.b || blockIn L a L.r then 0 else min (lseWord L L.r a).toInt ((lseWord L L.r (a + 1)).toInt + elapsedUs L a)

/-- ET of TP after the instruction: its Q says that it is timing. -/
def tpEt (L : Lse) (a : Nat) : Int :=
  if blockQ L a L.r then min (lseWord L L.r a).toInt ((lseWord L L.r (a + 1)).toInt + elapsedUs L a)
  else if blockRise L a L.r then 0 else (lseWord L L.r (a + 1)).toInt

/-- CV of a counter after the instruction: a change of B from 0 to 1 since the last execution counts by `d`, saturating (11 R348). -/
def countCv (d : Int) (L : Lse) (a : Nat) : Int :=
  if kHas L.r.lastExec a = true ∧ L.r.b = true ∧ blockIn L a L.r = false then
    max (-2147483648) (min 2147483647 ((lseWord L L.r (a + 1)).toInt + d))
  else (lseWord L L.r (a + 1)).toInt

/-- What RE and FE leave: the edge bit takes B, an edge is the change against what it held, and at its first evaluation it holds B (11 R349). -/
def EdgeDoes (cmd : Chan → Nat → Nat → Instr) (op : Nat) (q : Bool → Bool → Bool) : Prop :=
  ∀ s ch n a L, kGet (chanOf s ch).lse n = some L → scanFirst (chanOf s ch) n L = true →
    nth L.prog.code L.r.ip 0 = BitVec.ofNat 32 (op * 16777216 + a) → forceAt L false a = none →
    Does (cmd ch n a) s (fun t => ∃ r : LseRegs, kGet (chanOf t ch).lse n = some { L with r := r } ∧
      r.b = (if a ∈ L.r.edgeSeen then q L.r.b (zGet L.r.bits a != 0) else false) ∧
      zGet r.bits a = (if L.r.b then 1 else 0) ∧ a ∈ r.edgeSeen ∧ (∀ x, x ≠ a → zGet r.bits x = zGet L.r.bits x) ∧
      (∀ x, x ≠ a → (x ∈ r.edgeSeen ↔ x ∈ L.r.edgeSeen)) ∧
      r = { L.r with b := r.b, bits := r.bits, edgeSeen := r.edgeSeen, ip := L.r.ip + 1 } ∧ onlyChan ch s t)

/-- The sleeve's lifecycle request of an action, whose boundary stands and which no save holds back (16 R491, R493). -/
def LifeDue (c : Channel) (n action : Nat) (S : Sleeve) (r : LifeReq) : Prop :=
  kGet c.sleeves n = some S ∧ S.req = some r ∧ r.action = action ∧ r.at_ ≠ 0 ∧ S.saving = false

/-- The offset that a Sync tells (13 R403, R404): its receive timestamp less the master time at the port. -/
def syncOffset (c : Channel) (p : Nat) (m : PtpMsg) (rx : Nat) : Int :=
  (rx : Int) - (m.origin + m.correction / 65536 + (ptpGet c p).delay + asymmetry c p)

/-- A one-step Sync of the selected master on the selected path, which stays the best one (13 R404, R405). -/
def SyncReady (s : State) (ch : Chan) (p : Nat) (m : PtpMsg) (g : Master) : Prop :=
  counterRuns (chanOf s ch) = true ∧ linkUp (chanOf s ch) p = true ∧ m.domain = entryNat (chanOf s ch) 0x2200 0x20 0 ∧ m.twoStep = false ∧
    (chanOf s ch).time.gm = some g ∧ g.msg.srcClock = m.srcClock ∧ (chanOf s ch).time.selPort = p ∧ bestPath (chanOf s ch) = p

/-- A queue of a port has taken one more frame, a PTP message (13 R403; 14 R422). -/
def PtpQueued (s t : State) (ch : Chan) (p q : Nat) (m : PtpMsg) : Prop :=
  ∃ f : QFrame, queueOf (portGet (chanOf t ch) p) q = queueOf (portGet (chanOf s ch) p) q ++ [f] ∧ f.frame.body = .ptp m ∧
    f.frame.src = hostMac (chanOf s ch)

/-- A service port's server is in reach, no transfer of it is in progress, and the access finds the entry's row (17 R527; 21 R627). -/
def SvcReady (c : Channel) (n index sub : Nat) (r : OdRow) : Prop :=
  serviceUp c n = true ∧ transferring (.svc c.id n) c = false ∧ pathLive (.svc c.id n) c = true ∧ indexExists c index = true ∧
    rowOf c index sub = some r ∧ reaches (.svc c.id n) index = true

/-- A key command of a path is taken, in the modes listed and with a body of its length, and waits for its boundary (19 R576). -/
def KeyPends (cmd : List Byte → Instr) (p : Path) (code : Nat) (modes : List Nat) (len : Nat) : Prop :=
  ∀ s b, PathReady s p → pathLive p (atPath s p) = true → modeIn modes (atPath s p) = true → b.length = len → kSlot b < 512 →
    Does (cmd b) s (fun t => (chanOf t (pathChan s p)).keys.pend =
      (atPath s p).keys.pend ++ [⟨code, b, p1After 1000000 (atPath s p)⟩])

/-- What zeroisation leaves of a channel (19 R582, R583). -/
def zeroised (c : Channel) : Prop :=
  c.boot.mode = .sealedMode ∧ c.keys.slots = [] ∧ c.keys.dbk = [] ∧ c.keys.bbr = [] ∧ c.keysNv.nonce = [] ∧ c.keysNv.sealedMarker = true ∧
    c.pub.cuff = false ∧ c.seam.holdCtl = false ∧ c.graphs = [] ∧ c.boot.graphsRun = false ∧ c.sw.cfg = switchDefault

/-- The channel of a command that is an event of one channel alone; none for the records of the Seam, the requests of the host and the events
of the whole module. -/
def ownChannel (i : Instr) : Option Chan :=
  match i with
  | .writeSessionTimeout ch _ _ | .readCopyLapse ch _ | .temperatureCrossing ch _ | .histogramSample ch _ _ | .mantleMeshBreach ch
  | .tamperNAsserted ch _ | .clockMonitorFault ch _ | .runtimeRestart ch | .bootB1Complete ch _ _ _ _ | .bootB2Complete ch
  | .bootB3Complete ch _ | .bootB4Complete ch _ _ _ _ _ | .bootB5Complete ch | .bootB6Complete ch | .graphStart ch
  | .warmUpWindowExpiry ch | .twinAbsent ch | .twinHoldCtlDeasserted ch | .takeoverSupervision ch | .finalTimeout ch
  | .nonPostedTakeoverAbort ch _ _ | .digestUnmatched ch | .idleRecordSend ch | .lanesDown ch | .lanesTrained ch
  | .selfDiagnosisComplete ch _ _ | .realignmentBoundary ch _ | .resyncStageComplete ch | .resyncStageTimeout ch | .transferBoundary ch
  | .convergenceReached ch | .hbusyPulseEnd ch | .frameReceived ch _ _ _ | .egressFrameStart ch _ | .publisherHandover ch
  | .pauseReceived ch _ _ | .pauseExpiry ch _ | .portDown ch _ | .portUp ch _ | .preemptionVerifyComplete ch _ _
  | .lifeCheckInterval ch _ | .nodeForget ch _ _ | .entryForget ch _ _ _ | .learnedEntryAgeOut ch _ _ | .ingestFrameService ⟨ch, _⟩
  | .slotCloseMissing ch _ | .heldSlotWrite ch _ | .subscriptionChangeApply ch _ | .pathCompute ch _ | .conditioningChangeApply ch _
  | .hostWriteEffect ch _ _ | .sampleBoundary ch _ | .firingRelease ch _ _ | .heldEntryGranted ch _ | .firingDispatch ch _
  | .firingResume ch _ | .opPhasor ch _ _ | .opSeq ch _ _ | .opOci ch _ _ | .opOct ch _ _ | .opDir ch _ _
  | .opDiff ch _ _ | .opUvov ch _ _ | .opFreq ch _ _ | .opRpw ch _ _ | .opSync ch _ _ | .opBf ch _ _ | .opTherm ch _ _ | .opIef ch _ _
  | .opDcoc ch _ _ | .opDcdi ch _ _ | .opDcsi ch _ _ | .opSum ch _ _ | .opScale ch _ _ | .opDelay ch _ _ | .opCmp ch _ _ | .opHold ch _ _
  | .opTrip ch _ _ | .opPub ch _ _ | .opCap ch _ _ | .publisherFrameBuild ch | .firstGooseFrame ch _ | .svSendDeadline ch _ | .tick ch
  | .retxDue ch _ | .horizonDue ch _ _ | .delayFullRecheck ch | .gooseMessageReceived ch _ | .talExpiry ch _ | .gooseStateDeliver ch _
  | .lseCycleBoundary ch | .lseOverrunCeiling ch _ | .lseNop ch _ _ | .lseLd ch _ _ | .lseLdn ch _ _ | .lseAnd ch _ _ | .lseAndn ch _ _
  | .lseOr ch _ _ | .lseOrn ch _ _ | .lseXor ch _ _ | .lseNot ch _ _ | .lseSt ch _ _ | .lseStn ch _ _ | .lseSet ch _ _ | .lseRst ch _ _
  | .lseRe ch _ _ | .lseFe ch _ _ | .lseApush ch _ _ | .lseOpush ch _ _ | .lsePop ch _ _ | .lseLdw ch _ _ | .lseLdi ch _ _
  | .lseStw ch _ _ | .lseAddw ch _ _ | .lseSubw ch _ _ | .lseMulw ch _ _ | .lseCeq ch _ _ | .lseCgt ch _ _ | .lseClt ch _ _
  | .lseMovc ch _ _ | .lseTon ch _ _ | .lseTof ch _ _ | .lseTp ch _ _ | .lseCtu ch _ _ | .lseCtd ch _ _ | .lseCrst ch _ _
  | .lseCldp ch _ _ | .lseJmp ch _ _ | .lseJc ch _ _ | .lseJcn ch _ _ | .lseEnd ch _ _ | .lseQv ch _ _ | .lseQg ch _ _
  | .onlineChangeSwap ch _ | .forceEffect ch _ | .retainInterval ch _ | .retainFlushRetry ch _ | .sleeveStartBoundary ch _
  | .freezeBoundary ch _ | .thawBoundary ch _ | .behaviourBoundary ch _ | .saveBlobReady ch _
  | .moveBegin ch _ _ _ | .moveFinalTransfer ch _ _ | .scrubPass ch _ _ _
  | .bankWakeComplete ch _ | .bankRetentionEntry ch _ | .syncReceived ch _ _ _ | .followUpReceived ch _ _ | .followUpMatchTimeout ch _
  | .announceReceived ch _ _ | .announceReceiptTimeout ch | .pdelayReqReceived ch _ _ _ | .pdelayRespReceived ch _ _ _
  | .pdelayInterval ch _ | .holdoverLimit ch | .pulseActiveEdge ch _ | .pulseInactiveEdge ch _ | .canFrameReceived ch _ _
  | .canSourceCopy ch _ | .canLockTimeout ch _ | .canAttemptStart ch _ | .canAttemptEnd ch _ _ | .busOffRecovery ch _
  | .canPortReinit ch _ | .usdoDownload ch _ _ _ _ _ _ _ | .usdoUpload ch _ _ _ _ _ | .usdoTimeout ch _ | .nmtCommand ch _ _
  | .heartbeat ch _ | .pleatRowCapture ⟨ch, _⟩ _ | .rearmComplete ch _ | .manualTriggerInstant ch | .storeWriteStart ch
  | .storeWriteComplete ch | .keyCommandEffect ch | .keyCommitRetry ch | .attestationStatementReady ch | .ledgerBatch ch
  | .ledgerBatchRetry ch | .snapshotLatch ch | .snapshotCopyComplete ch | .injectorDurationExpiry ch _ | .seamAliveResumed ch
  | .twinHoldCtlAsserted ch | .resyncImageReceived ch | .syncInterval ch | .announceInterval ch | .canReceiveError ch _ _ => some ch
  | .firingNoCompletion _ _ _ | .deletionBoundary _ _ | .moveBindingSwitch _ _ _ | .tileSelftestPass _ _ _
  | .modeRequestHold _ | .modeRequestCommission _ | .modeRequestOperate _ | .modeRequestRestart _ | .forceRestart _
  | .activateConfigurationSlot _ _ | .commitFirmwareSlot _ _ | .restoreAll _ _ | .restoreCommunication _ _ | .echo _ _ _
  | .dictRead _ _ _ _ _ _ | .dictWrite _ _ _ _ _ _ _ _ _ | .dictDescribe _ _ _ _ | .dictAbort _ _ _ _ | .mailboxResponse _
  | .hostAtomicSwap _ _ _ _ | .hostAtomicFetchadd _ _ _ _ | .hostAtomicCas _ _ _ _ _ | .hostWindowRead _ _ _ _ | .hostWindowWrite _ _ _ _
  | .hwstatW1c _ _ _ | .fstatW1c _ _ | .evpendW1c _ _ _ _ | .ringstatW1c _ _ | .registerWrite _ _ _ _ | .functionLevelReset _
  | .txEnable _ | .txDisable _ | .rxEnable _ | .rxDisable _ | .txtailWrite _ _ | .rxtailWrite _ _ | .hostTxFrame _ _ | .ringInterrupt _ _
  | .applyOnlineChange _ _ | .lseRestart _ _ | .forceSet _ _ _ _ _ _ | .forceRelease _ _ _ | .sleeveCreate _ _ | .sleeveDelete _ _
  | .sleeveFreeze _ _ | .sleeveThaw _ _ | .sleeveSave _ _ | .sleeveRestore _ _ | .sleeveBehaviour _ _ _ | .pgArm _ _ | .pgDisarm _ _
  | .recoveryRequest _ _ | .internalLoopback _ _ _ | .manualTrigger _ _ | .definitionArm _ _ | .definitionDisarm _ _
  | .deleteStoreRecord _ _ | .comtradeExport _ | .importAnchor _ _ | .importWrapped _ _ | .keyInvalidate _ _ | .keyDerive _ _
  | .keyReDerive _ _ | .attestationRequest _ _ | .reProvisioning _ _ | .certificateInstall _ _ | .snapshotSchedule _ _
  | .armingCodeRead _ | .injectorArm _ _ _ | .injectorDisarm _ _ | .vinApplied _ | .pwarnAsserted _ | .pwarnCleared _ _
  | .liningBusBelowReset _ | .resetReleased _ | .supplyOff _ | .holdupConnect _ | .holdupDisconnect _ | .liningCharged _ _
  | .liningLeavesCharged _ | .fuseOpen _ _ _ | .bootB7Complete _ _ | .loneChannelWaitExpiry _ | .roleArbitrationGrant _
  | .holdCtlContention _ | .cuffOpen _ | .hostCommandRecord _ _ | .sleeveLifecycleRecord _ _ | .keySlotChangeRecord _ _
  | .confirmationRecord _ _ | .canOutcomeRecord _ _ | .finalRecord _ _ | .digestRecord _ _ | .alignmentRecord _ _ _
  | .retainDigestRecord _ _ | .mirrorSetRecord _ _ | .modeSwitchBoundary _ | .perstAsserted | .linkTrained _ _ | .hostRxFrame _ _ _
  | .hostBridgeFailure | .vfEnableWrite _ _ | .vinDipInClearingWindow _ => none

/-- The channel of a command that may end a channel's moves; the Placer then plans what has waited, on both channels (08 R264, R269). -/
def placerCommand (i : Instr) : Option Chan :=
  match i with
  | .firingNoCompletion ch _ _ | .deletionBoundary ch _ | .moveBindingSwitch ch _ _ | .tileSelftestPass ch _ _ => some ch
  | _ => none

/-- Nothing waits for the Placer on either channel. -/
def placerQuiet (s : State) : Prop := placerAwaited s.a = false ∧ placerAwaited s.b = false

/-- The channel of a PTP message, interval or pulse edge. -/
def timeCommand (i : Instr) : Option Chan :=
  match i with
  | .syncReceived ch _ _ _ | .followUpReceived ch _ _ | .followUpMatchTimeout ch _ | .announceReceived ch _ _
  | .announceReceiptTimeout ch | .pdelayReqReceived ch _ _ _ | .pdelayRespReceived ch _ _ _ | .pdelayInterval ch _ | .holdoverLimit ch
  | .pulseActiveEdge ch _ | .pulseInactiveEdge ch _ | .syncInterval ch | .announceInterval ch => some ch
  | _ => none

/-- The channel of an event at a CAN port. -/
def canCommand (i : Instr) : Option Chan :=
  match i with
  | .canFrameReceived ch _ _ | .canSourceCopy ch _ | .canLockTimeout ch _ | .canAttemptStart ch _ | .canAttemptEnd ch _ _
  | .busOffRecovery ch _ | .canPortReinit ch _ | .nmtCommand ch _ _ | .heartbeat ch _ | .canReceiveError ch _ _ => some ch
  | _ => none

/-- The channel of an interval or a timeout of the switch. -/
def tableCommand (i : Instr) : Option Chan :=
  match i with
  | .pauseReceived ch _ _ | .pauseExpiry ch _ | .preemptionVerifyComplete ch _ _ | .lifeCheckInterval ch _ | .nodeForget ch _ _
  | .entryForget ch _ _ _ | .learnedEntryAgeOut ch _ _ => some ch
  | _ => none

/-- The channel of a command of the Ledger, the Pleat, the snapshots and the injectors. -/
def recordCommandOf (i : Instr) : Option Chan :=
  match i with
  | .histogramSample ch _ _ | .pleatRowCapture ⟨ch, []⟩ _ | .rearmComplete ch _ | .manualTriggerInstant ch | .storeWriteStart ch
  | .storeWriteComplete ch | .ledgerBatch ch | .ledgerBatchRetry ch | .snapshotLatch ch | .snapshotCopyComplete ch
  | .injectorDurationExpiry ch _ => some ch
  | _ => none

end Sys2Proof
end

