-- ==== Sys2Proof/Certificates/Slice0/Obligations.lean ====
section
/-! DEFINITION. The statements for the provers, in the order of OBLIGATIONS.json. `Does i s P` says that the command is carried out and that
the next state has what `P` says; `onlyChan` is the frame of a command of one channel. -/
open Sys2Proof Sys2Proof.Machine

/-- The step takes the command at the front of the queue and carries it out on the state with the queue's rest. -/
def Obligations.step_runs_front_command : Prop :=
  ∀ (s : State) (i : Instr) (rest : List Instr), step { s with pending := i :: rest } = exec i { s with pending := rest }

/-- 02 R50; 13 R395: with no command waiting, a cycle of the fabric clock goes by on each channel whose counter runs; that the idle step
is this cycle is the model's choice (log entry 1). -/
def Obligations.idle_step_is_a_fabric_cycle : Prop :=
  ∀ s : State, s.pending = [] → ∃ t, step s = .next t ∧ t.pending = [] ∧ t.supply = s.supply ∧ t.bridge = s.bridge ∧
    t.fuseA = s.fuseA ∧ t.fuseB = s.fuseB ∧
    ∀ ch, (counterRuns (chanOf s ch) = true →
        (chanOf t ch).time.ctr = (chanOf s ch).time.ctr + BitVec.ofInt 96 (6871947674 + (chanOf s ch).time.adj)) ∧
      (counterRuns (chanOf s ch) = false → chanOf t ch = chanOf s ch) ∧
      chanOf t ch = { chanOf s ch with time := (chanOf t ch).time }

/-- Every command, in every state, is answered with a next state, and takes no other command off the queue. -/
def Obligations.every_command_answers : Prop :=
  ∀ (i : Instr) (s : State), ∃ t, exec i s = .next t ∧ t.pending = s.pending

/-- 01 R18; 02 R46, R81; 12 R368; 13 R405; 19 R569; 22 R642; 23 R659: the block before its supply is applied. -/
def Obligations.reset_state : Prop :=
  State.reset.supply.st = .off ∧ State.reset.supply.pwarn = false ∧ State.reset.fuseA = true ∧ State.reset.fuseB = true ∧
  State.reset.pending = [] ∧
  ∀ ch, (chanOf State.reset ch).boot.powered = false ∧ (chanOf State.reset ch).boot.mode = .boot ∧
    (chanOf State.reset ch).boot.graphsRun = false ∧ (chanOf State.reset ch).graphs = [] ∧ (chanOf State.reset ch).ctr = [] ∧
    (chanOf State.reset ch).time.servo = .freerun ∧ (chanOf State.reset ch).pub.cuff = false ∧ (chanOf State.reset ch).seam.holdCtl = false ∧
    (chanOf State.reset ch).keys.slots = [] ∧ windowOk (chanOf State.reset ch) = true

/-- The invariant holds at reset. -/
def Obligations.invariant_at_reset : Prop :=
 Inv State.reset

/-- 15 R449, R450, R485; 23 R658, R659: every step keeps the supply and the host bridge as their tables allow them. -/
def Obligations.every_step_keeps_the_invariant : Prop :=
  ∀ s t : State, Inv s → step s = .next t → Inv t

/-- 23 R654: an open fuse stays open over every step, but for VIN applied to a module whose supply is off. -/
def Obligations.open_fuse_stays_open : Prop :=
  ∀ (s t : State), step s = .next t → ((s.fuseA = false ∧ t.fuseA = true) ∨ (s.fuseB = false ∧ t.fuseB = true)) →
    s.supply.st = .off ∧ ∃ x rest, s.pending = .vinApplied x :: rest

/-- 12 R367 to R369; 15 R449; 08 R269: what happens at one channel reaches neither its twin, nor the supply, the fuses and the host bridge,
but through the commands that are records of the Seam, requests of the host or events of the whole module; a command that may end moves
reaches the twin only where something waits for the Placer. -/
def Obligations.one_channel_events_stay_on_it : Prop :=
  (∀ (i : Instr) (ch : Chan) (s t : State), ownChannel i = some ch → exec i s = .next t → onlyChan ch s t) ∧
  (∀ (i : Instr) (ch : Chan) (s t : State), placerCommand i = some ch → placerQuiet s → exec i s = .next t → onlyChan ch s t)

/-- What the time and CAN commands leave unchanged of their channel (13; 17). -/
def Obligations.frame_of_time_and_can_commands : Prop :=
  (∀ (i : Instr) (ch : Chan) (s t : State), timeCommand i = some ch → exec i s = .next t →
    (let c := chanOf s ch
     let d := chanOf t ch
     d.boot = c.boot ∧ d.slots = c.slots ∧ d.paths = c.paths ∧ d.disp = c.disp ∧ d.pub = c.pub ∧ d.retain = c.retain ∧ d.seam = c.seam ∧
       d.sleeves = c.sleeves ∧ d.can = c.can ∧ d.keysNv = c.keysNv ∧ d.keys = c.keys ∧ d.ledgerNv = c.ledgerNv ∧ d.psu = c.psu)) ∧
  (∀ (i : Instr) (ch : Chan) (s t : State), canCommand i = some ch → exec i s = .next t →
    (let c := chanOf s ch
     let d := chanOf t ch
     d.boot = c.boot ∧ d.slots = c.slots ∧ d.time = c.time ∧ d.gens = c.gens ∧ d.sw = c.sw ∧ d.ingest = c.ingest ∧ d.paths = c.paths ∧
       d.disp = { c.disp with banks := d.disp.banks } ∧ d.pub = c.pub ∧ d.lse = c.lse ∧ d.retain = c.retain ∧ d.sleeves = c.sleeves ∧
       d.pleat = c.pleat ∧ d.keysNv = c.keysNv ∧ d.keys = c.keys ∧ d.ledgerNv = c.ledgerNv ∧ d.psu = c.psu))

/-- What the ageing of the switch's tables, and the Ledger, Pleat and snapshot commands, leave unchanged of their channel (14; 18; 20; 22). -/
def Obligations.frame_of_switch_and_record_commands : Prop :=
  (∀ (i : Instr) (ch : Chan) (s t : State), tableCommand i = some ch → exec i s = .next t →
    (let c := chanOf s ch
     let d := chanOf t ch
     d.boot = c.boot ∧ d.slots = c.slots ∧ d.gens = c.gens ∧ d.ingest = c.ingest ∧ d.paths = c.paths ∧ d.graphs = c.graphs ∧ d.disp = c.disp ∧
       d.pub = c.pub ∧ d.lse = c.lse ∧ d.retain = c.retain ∧ d.seam = c.seam ∧ d.sleeves = c.sleeves ∧ d.can = c.can ∧
       d.pleat = c.pleat ∧ d.keysNv = c.keysNv ∧ d.keys = c.keys ∧ d.ledgerNv = c.ledgerNv ∧ d.psu = c.psu)) ∧
  (∀ (i : Instr) (ch : Chan) (s t : State), recordCommandOf i = some ch → exec i s = .next t →
    (let c := chanOf s ch
     let d := chanOf t ch
     d.boot = c.boot ∧ d.slots = c.slots ∧ d.gens = c.gens ∧ d.sw = c.sw ∧ d.ingest = c.ingest ∧ d.paths = c.paths ∧ d.graphs = c.graphs ∧
       d.disp = c.disp ∧ d.pub = c.pub ∧ d.lse = c.lse ∧ d.retain = c.retain ∧ d.seam = c.seam ∧ d.sleeves = c.sleeves ∧ d.can = c.can ∧
       d.keysNv = c.keysNv ∧ d.keys = c.keys ∧ d.psu = c.psu))

/-- 23 R659: every transition of the supply state, with PWARN and the active discharge as it leaves them. -/
def Obligations.supply_transitions : Prop :=
  (∀ s x, s.supply.st = .off → 16500 ≤ max x.pa x.pb →
    Does (.vinApplied x) s (fun t => t.supply.st = .normal ∧ t.supply.pwarn = false ∧ t.supply.discharge = false ∧
      t.a.boot.powered = true ∧ t.b.boot.powered = true ∧ t.fuseA = true ∧ t.fuseB = true)) ∧
  (∀ s x, s.supply.st = .normal → max x.pa x.pb < 15500 →
    Does (.pwarnAsserted x) s (fun t => t.supply.st = .warning ∧ t.supply.pwarn = true)) ∧
  (∀ s x us, s.supply.st = .warning → 16500 ≤ max x.pa x.pb →
    Does (.pwarnCleared x us) s (fun t => t.supply.st = .normal ∧ t.supply.pwarn = false)) ∧
  (∀ s x, s.supply.st = .warning → x.lining < 12000 →
    Does (.liningBusBelowReset x) s (fun t => t.supply.st = .reset ∧ t.supply.discharge = true ∧
      t.a.boot.powered = false ∧ t.b.boot.powered = false)) ∧
  (∀ s x, s.supply.st = .reset → 16500 ≤ max x.pa x.pb →
    Does (.resetReleased x) s (fun t => t.supply.st = .normal ∧
      (s.fuseA = true → t.a.boot.powered = true ∧ t.a.boot.cause = 2) ∧
      (s.fuseB = true → t.b.boot.powered = true ∧ t.b.boot.cause = 2))) ∧
  (∀ s x, s.supply.st = .reset → x.pa < 5000 → x.pb < 5000 →
    Does (.supplyOff x) s (fun t => t.supply.st = .off ∧ t.a.boot.powered = false ∧ t.b.boot.powered = false))

/-- 01 R18; 23 R654, R656, R657, R661: the states of the Lining, and a fuse that opens: its channel loses power, the other runs on, and what is non-volatile stays. -/
def Obligations.lining_and_fuses : Prop :=
  (∀ s x, s.supply.st = .normal ∨ s.supply.st = .warning → max x.pa x.pb < 14500 →
    Does (.holdupConnect x) s (fun t => t.supply.linState = .holdup ∧ t.supply.st = s.supply.st)) ∧
  (∀ s x, s.supply.linState = .holdup → 15000 < max x.pa x.pb →
    Does (.holdupDisconnect x) s (fun t => t.supply.linState = if 41000 ≤ x.lining then .charged else .charging)) ∧
  (∀ s x cap, s.supply.linState = .charging → 41000 ≤ x.lining →
    Does (.liningCharged x cap) s (fun t => t.supply.linState = .charged ∧ t.supply.capUF = cap ∧
      t.supply.degraded = (s.supply.degraded || decide (cap < 4400)))) ∧
  (∀ s x, s.supply.linState = .charged → x.lining < 38000 →
    Does (.liningLeavesCharged x) s (fun t => t.supply.linState = .charging)) ∧
  (∀ s x, s.supply.st = .warning → s.supply.pwarn = true →
    Does (.vinDipInClearingWindow x) s (fun t => t.supply.st = .warning ∧ t.supply.pwarn = true ∧
      t.supply.lowLining = min s.supply.lowLining x.lining)) ∧
  (∀ s ch mA us, (match ch with | .a => s.fuseA | .b => s.fuseB) = true → (6000 < mA ∧ 5000 ≤ us) ∨ 12000 < mA →
    Does (.fuseOpen ch mA us) s (fun t => (match ch with | .a => t.fuseA | .b => t.fuseB) = false ∧
      (match ch with | .a => t.fuseB = s.fuseB | .b => t.fuseA = s.fuseA) ∧ (chanOf t ch).boot.powered = false ∧
      chanOf t ch.twin = chanOf s ch.twin ∧ (chanOf t ch).retain = (chanOf s ch).retain ∧ (chanOf t ch).keysNv = (chanOf s ch).keysNv ∧
      (chanOf t ch).ledgerNv = (chanOf s ch).ledgerNv ∧ t.supply = s.supply ∧ t.bridge = s.bridge ∧ t.pending = s.pending))

/-- 01 R24, R33, R34; 02 R51, R52, R58; 12 R369, R379: a clock fault or a Runtime restart where graphs run ends in a restart through BOOT,
without control and without graphs, and phase L is skipped while the Lining is CHARGED alone. A clock fault halts BOOT, and in HOLD and
SEALED keeps the mode. That a Runtime restart in HOLD, SEALED or BOOT keeps the restart cause, and that it begins BOOT anew, is the model's
choice (log entry 45). A temperature sample is kept. -/
def Obligations.channel_restarts : Prop :=
  (∀ s ch k, (chanOf s ch).boot.powered = true → (chanOf s ch).boot.halt = none → graphMode (chanOf s ch).boot.mode = true →
    Does (.clockMonitorFault ch k) s (fun t => (chanOf t ch).boot.mode = .boot ∧
      (chanOf t ch).boot.phase = (if (chanOf s ch).psu.linState = .charged then 1 else 16) ∧
      (chanOf t ch).boot.cause = 4 ∧ (chanOf t ch).seam.holdCtl = false ∧ (chanOf t ch).pub.cuff = false ∧
      (chanOf t ch).seam.alive = false ∧ (chanOf t ch).boot.graphsRun = false)) ∧
  (∀ s ch k, (chanOf s ch).boot.powered = true → (chanOf s ch).boot.halt = none →
    ((chanOf s ch).boot.mode = .hold ∨ (chanOf s ch).boot.mode = .sealedMode) →
    Does (.clockMonitorFault ch k) s (fun t => (chanOf t ch).boot.mode = (chanOf s ch).boot.mode ∧ (chanOf t ch).boot.clockFault = true ∧
      (chanOf t ch).seam.alive = false ∧ onlyChan ch s t)) ∧
  (∀ s ch k, (chanOf s ch).boot.powered = true → (chanOf s ch).boot.halt = none → (chanOf s ch).boot.mode = .boot →
    Does (.clockMonitorFault ch k) s (fun t => (chanOf t ch).boot.mode = .boot ∧ (chanOf t ch).boot.halt = some 2 ∧
      (chanOf t ch).boot.phase = (chanOf s ch).boot.phase ∧ (chanOf t ch).seam.alive = false ∧ onlyChan ch s t)) ∧
  (∀ s ch, runtimeUp (chanOf s ch) = true →
    Does (.runtimeRestart ch) s (fun t => (chanOf t ch).boot.mode = .boot ∧
      (chanOf t ch).boot.phase = (if (chanOf s ch).psu.linState = .charged then 1 else 16) ∧
      (chanOf t ch).boot.cause = (if graphMode (chanOf s ch).boot.mode then 4 else (chanOf s ch).boot.cause) ∧
      (chanOf t ch).seam.holdCtl = false ∧ (chanOf t ch).seam.alive = false ∧ (chanOf t ch).boot.graphsRun = false)) ∧
  (∀ s ch c, Does (.temperatureCrossing ch c) s (fun t => (chanOf t ch).temp = c ∧ onlyChan ch s t))

/-- 02 R52, R56, R69; 19 R562; 22 R641: what ends each phase of start-up from B1 to B4, and what halts it. -/
def Obligations.boot_phases_b1_to_b4 : Prop :=
  (∀ s ch prefN sid rom, inPhase 1 (chanOf s ch) = true → (chanOf s ch).keysNv.sealedMarker = false →
    Does (.bootB1Complete ch true prefN sid rom) s (fun t => (chanOf t ch).boot.phase = 2 ∧ (chanOf t ch).seam.alive = true ∧
      (chanOf t ch).boot.slotId = sid % 32 ∧ (chanOf t ch).boot.mode = (chanOf s ch).boot.mode ∧
      (chanOf t ch).time.ctr = (if (chanOf s ch.twin).boot.powered && (chanOf s ch.twin).time.servo == .locked
        then (chanOf s ch.twin).time.ctr else 0))) ∧
  (∀ s ch prefN sid rom, inPhase 1 (chanOf s ch) = true →
    Does (.bootB1Complete ch false prefN sid rom) s (fun t => (chanOf t ch).boot.halt = some 3 ∧ (chanOf t ch).boot.phase = 1)) ∧
  (∀ s ch prefN sid rom, inPhase 1 (chanOf s ch) = true → (chanOf s ch).keysNv.sealedMarker = true →
    Does (.bootB1Complete ch true prefN sid rom) s (fun t => (chanOf t ch).boot.mode = .sealedMode)) ∧
  (∀ s ch, inPhase 2 (chanOf s ch) = true → fwVerifies (chanOf s ch) (chanOf s ch).slots.committedFw = true →
    Does (.bootB2Complete ch) s (fun t => (chanOf t ch).boot.phase = 3 ∧ (chanOf t ch).slots.running = (chanOf s ch).slots.committedFw)) ∧
  (∀ s ch, inPhase 2 (chanOf s ch) = true → (∀ n, fwVerifies (chanOf s ch) n = false) →
    Does (.bootB2Complete ch) s (fun t => (chanOf t ch).boot.halt = some 1 ∧ (chanOf t ch).boot.phase = 2)) ∧
  (∀ s ch ms, inPhase 3 (chanOf s ch) = true →
    Does (.bootB3Complete ch ms) s (fun t => (chanOf t ch).boot.phase = 4 ∧ (chanOf t ch).keys.bmLocked = true)) ∧
  (∀ s ch up, inPhase 4 (chanOf s ch) = true → (chanOf s ch).boot.mode = .boot →
    Does (.bootB4Complete ch [] none false up []) s (fun t => (chanOf t ch).boot.phase = 5 ∧ (chanOf t ch).boot.mode = .boot ∧
      (chanOf t ch).seam.presence = if up then 2 else (chanOf s ch).seam.presence)) ∧
  (∀ s ch l bank up canF, inPhase 4 (chanOf s ch) = true → (chanOf s ch).boot.mode = .boot → 2 < l.length →
    Does (.bootB4Complete ch l bank false up canF) s (fun t => (chanOf t ch).boot.mode = .hold ∧ (chanOf t ch).boot.holdReason = 9)) ∧
  (∀ s ch l bank up canF, inPhase 4 (chanOf s ch) = true →
    Does (.bootB4Complete ch l bank true up canF) s (fun t => (chanOf t ch).boot.halt = some 2 ∧ (chanOf t ch).boot.phase = 4))

/-- 02 R52, R54, R62, R63; 05 R181; 12 R381: what ends phases B5 to B7, and which HOLD reason a refused image leads to; a channel that a
tamper event sealed meanwhile stays SEALED. -/
def Obligations.boot_phases_b5_to_b7 : Prop :=
  (∀ s ch, inBootPhase 5 (chanOf s ch) = true →
    Does (.bootB5Complete ch) s (fun t =>
      let r := (validateSlot (chanOf s ch).slots.committed (commitsEnded (chanOf s ch))).1.1
      if r = 0 then (chanOf t ch).boot.phase = 6 ∧ (chanOf t ch).boot.mode = (chanOf s ch).boot.mode
      else (chanOf t ch).boot.mode = .hold ∧ (chanOf t ch).boot.holdReason = r)) ∧
  (∀ s ch, inBootPhase 6 (chanOf s ch) = true →
    Does (.bootB6Complete ch) s (fun t =>
      match (imageChecked (commitsEnded (chanOf s ch)) (committedSlot (chanOf s ch)).bytes).image with
      | none => (chanOf t ch).boot.mode = .hold ∧ (chanOf t ch).boot.holdReason = 7
      | some m => match loadImage m (commitsEnded (chanOf s ch)) with
        | .error _ => (chanOf t ch).boot.mode = .hold ∧ (chanOf t ch).boot.holdReason = 8
        | .ok _ => (chanOf t ch).boot.phase = 7)) ∧
  (∀ s ch ms, (chanOf s ch).boot.mode = .sealedMode →
    Does (.bootB5Complete ch) s (fun t => chanOf t ch = commitsEnded (chanOf s ch)) ∧
    Does (.bootB6Complete ch) s (fun t => chanOf t ch = commitsEnded (chanOf s ch)) ∧
    Does (.bootB7Complete ch ms) s (fun t => chanOf t ch = commitsEnded (chanOf s ch))) ∧
  (∀ s ch ms, inBootPhase 7 (chanOf s ch) = true → (chanOf s ch).boot.admitted = true →
    Does (.bootB7Complete ch ms) s (fun t => (chanOf t ch).boot.phase = 0x20 ∧ (chanOf t ch).boot.duration = BitVec.ofNat 32 ms ∧
      (chanOf t ch).boot.holdReason = 0 ∧ graphMode (chanOf t ch).boot.mode = true ∧ t.bridge.serving = some (leadChan t) ∧
      ((chanOf t ch).boot.granted = ((chanOf s ch).boot.granted || grantedAtB7 (chanOf s ch.twin) (commitsEnded (chanOf s ch))))))

/-- 02 R52, R59; 12 R381, R382: graphs start, the warm-up window ends, and control is granted. -/
def Obligations.start_and_grant : Prop :=
  (∀ s ch, graphMode (chanOf s ch).boot.mode = true → (chanOf s ch).boot.graphsRun = false → (chanOf s ch).boot.admitted = true →
    Does (.graphStart ch) s (fun t => (chanOf t ch).boot.graphsRun = true ∧ onlyChan ch s t)) ∧
  (∀ s ch, (chanOf s ch).boot.graphsRun = true → (chanOf s ch).boot.windowOpen = true →
    Does (.warmUpWindowExpiry ch) s (fun t => (chanOf t ch).boot.windowOpen = false ∧ onlyChan ch s t ∧
      ((chanOf s ch).boot.mode = .standby → (chanOf s ch).boot.granted = true → (chanOf s ch).seam.holdCtl = true →
        (chanOf t ch).boot.mode = .active ∧ (chanOf t ch).pub.cuff = true))) ∧
  (∀ s ch, mayHold (chanOf s ch) = true → (chanOf s ch).seam.presence = 0 → (chanOf s ch).boot.granted = false →
    Does (.loneChannelWaitExpiry ch) s (fun t => (chanOf t ch).seam.holdCtl = true ∧ (chanOf t ch).boot.granted = true ∧
      chanOf t ch.twin = chanOf s ch.twin)) ∧
  (∀ s ch, qualifies (chanOf s ch) = true → (chanOf s ch.twin).seam.holdCtl = false →
    ((chanOf s ch).id = .a ∨ qualifies (chanOf s ch.twin) = false) →
    Does (.roleArbitrationGrant ch) s (fun t => (chanOf t ch).seam.holdCtl = true ∧ (chanOf t ch).boot.granted = true ∧
      chanOf t ch.twin = chanOf s ch.twin))

/-- 02 R52 to R54: a request for HOLD, COMMISSION or OPERATE is accepted and waits for its switch boundary, where it is held against the
mode that stands; a restart is of the receiving channel alone and at once, but during a takeover waits for its end. -/
def Obligations.mode_requests : Prop :=
  (∀ s p, WriteReady s p [2, 3, 4, 5] 0x2000 → (atPath s p).boot.pendingMode = none →
    Does (.modeRequestHold p) s (fun t => (chanOf t (pathChan s p)).boot.pendingMode = some (1, p1After 1000000 (atPath s p)) ∧
      (chanOf t (pathChan s p)).boot.mode = (atPath s p).boot.mode ∧ t.supply = s.supply ∧ t.pending = s.pending)) ∧
  (∀ s p, WriteReady s p [3, 4, 5] 0x2000 → (atPath s p).boot.pendingMode = none →
    Does (.modeRequestCommission p) s (fun t => (chanOf t (pathChan s p)).boot.pendingMode = some (2, p1After 1000000 (atPath s p)) ∧
      (chanOf t (pathChan s p)).boot.mode = (atPath s p).boot.mode ∧ t.supply = s.supply ∧ t.pending = s.pending)) ∧
  (∀ s p, WriteReady s p [3, 4, 5] 0x2000 → (atPath s p).boot.pendingMode = none →
    Does (.modeRequestOperate p) s (fun t => (chanOf t (pathChan s p)).boot.pendingMode = some (3, p1After 1000000 (atPath s p)) ∧
      (chanOf t (pathChan s p)).boot.mode = (atPath s p).boot.mode ∧ t.supply = s.supply ∧ t.pending = s.pending)) ∧
  (∀ s p, WriteReady s p [2] 0x2000 → (atPath s p).boot.pendingMode = none →
    Does (.modeRequestCommission p) s (fun t => (chanOf t (pathChan s p)).boot.pendingMode = none ∧
      (chanOf t (pathChan s p)).boot.mode = .hold) ∧
    Does (.modeRequestOperate p) s (fun t => (chanOf t (pathChan s p)).boot.pendingMode = none ∧
      (chanOf t (pathChan s p)).boot.mode = .hold)) ∧
  (∀ s p, WriteReady s p [2, 3, 4, 5] 0x2000 → (atPath s p).boot.pendingMode = none → (atPath s p).seam.takeover = none →
    ((atPath s p).boot.mode ≠ .active ∨ twinReady (chanOf s (pathChan s p).twin) (atPath s p) = true) →
    Does (.modeRequestRestart p) s (fun t => (chanOf t (pathChan s p)).boot.mode = .boot ∧ (chanOf t (pathChan s p)).boot.cause = 3 ∧
      (chanOf t (pathChan s p)).boot.phase = (if (atPath s p).psu.linState = .charged then 1 else 16) ∧
      (chanOf t (pathChan s p)).seam.holdCtl = false ∧ (chanOf t (pathChan s p)).boot.graphsRun = false ∧
      chanOf t (pathChan s p).twin = chanOf s (pathChan s p).twin)) ∧
  (∀ s p, WriteReady s p [5] 0x2000 → (atPath s p).boot.pendingMode = none → (atPath s p).seam.takeover = none →
    twinReady (chanOf s (pathChan s p).twin) (atPath s p) = false →
    Does (.modeRequestRestart p) s (fun t => (chanOf t (pathChan s p)).boot.mode = .active ∧
      (chanOf t (pathChan s p)).seam = (atPath s p).seam)) ∧
  (∀ s p, WriteReady s p [2, 3, 4, 5] 0x2000 → (atPath s p).boot.pendingMode = none → (atPath s p).seam.takeover = none →
    (atPath s p).boot.mode = .active →
    Does (.forceRestart p) s (fun t => (chanOf t (pathChan s p)).boot.mode = .boot ∧ (chanOf t (pathChan s p)).boot.cause = 3 ∧
      (chanOf t (pathChan s p)).seam.holdCtl = false ∧ chanOf t (pathChan s p).twin = chanOf s (pathChan s p).twin)) ∧
  (∀ s p h, WriteReady s p [2, 3, 4, 5] 0x2000 → (atPath s p).boot.pendingMode = none → (atPath s p).seam.takeover = some h →
    Does (.modeRequestRestart p) s (fun t => (chanOf t (pathChan s p)).boot.pendingMode = some (4, nowNs (atPath s p)) ∧
      (chanOf t (pathChan s p)).boot.mode = (atPath s p).boot.mode) ∧
    Does (.forceRestart p) s (fun t => (chanOf t (pathChan s p)).boot.pendingMode = some (0x84, nowNs (atPath s p)) ∧
      (chanOf t (pathChan s p)).boot.mode = (atPath s p).boot.mode)) ∧
  (∀ s ch t0, ((chanOf s ch).boot.pendingMode = some (4, t0) ∧ (chanOf s ch).boot.mode = .standby) ∨
      (chanOf s ch).boot.pendingMode = some (0x84, t0) ∧ (chanOf s ch).boot.mode = .active →
    (chanOf s ch).seam.takeover = none →
    Does (.modeSwitchBoundary ch) s (fun t => (chanOf t ch).boot.mode = .boot ∧ (chanOf t ch).boot.cause = 3)) ∧
  (∀ s ch t0, (chanOf s ch).boot.pendingMode = some (5, t0) → (chanOf s ch).seam.takeover = none →
    ((chanOf s ch).boot.mode = .hold ∨ (chanOf s ch).boot.mode = .commission) →
    Does (.modeSwitchBoundary ch) s (fun t => (chanOf t ch).boot.mode = .boot ∧ (chanOf t ch).boot.cause = 5)) ∧
  (∀ s ch t0, (chanOf s ch).boot.pendingMode = some (1, t0) → (chanOf s ch).seam.takeover = none → (chanOf s ch).boot.mode = .commission →
    Does (.modeSwitchBoundary ch) s (fun t => (chanOf t ch).boot.mode = .hold ∧ (chanOf t ch).boot.holdReason = 0x0A ∧
      (chanOf t ch).pub.cuff = false ∧ (chanOf t ch).graphs = [] ∧ (chanOf t ch).sleeves = [])) ∧
  (∀ s ch t0, (chanOf s ch).boot.pendingMode = some (2, t0) → (chanOf s ch).seam.takeover = none →
    ((chanOf s ch).boot.mode = .standby ∨ (chanOf s ch).boot.mode = .active) →
    Does (.modeSwitchBoundary ch) s (fun t => (chanOf t ch).boot.mode = .commission ∧ (chanOf t ch).slots.intentOperate = false ∧
      (chanOf t ch).boot.pendingMode = none ∧ ((chanOf s ch).seam.holdCtl = true → (chanOf t ch).pub.cuff = true))) ∧
  (∀ s ch t0, (chanOf s ch).boot.pendingMode = some (3, t0) → (chanOf s ch).seam.takeover = none →
    (chanOf s ch).boot.mode = .commission → (chanOf s ch).seam.holdCtl = false → (chanOf s ch).boot.clockFault = false →
    Does (.modeSwitchBoundary ch) s (fun t => (chanOf t ch).boot.mode = .standby ∧ (chanOf t ch).slots.intentOperate = true ∧
      (chanOf t ch).boot.pendingMode = none ∧ (chanOf t ch).pub.cuff = false))

/-- 00 R10; 02 R52, R66, R70; 21 R621: the pointers move with a slot's activation or a firmware commit, the latter on both channels or on
neither, and "load" clears the overlay. That a firmware edition that differs refuses the commit is the model's choice (log entry 46). -/
def Obligations.slots_and_restores : Prop :=
  (∀ s p n, WriteReady s p [2, 3] 0x2000 → s.bridge.held = [] → n ≤ 1 → n ≠ (atPath s p).slots.committed →
    Does (.activateConfigurationSlot p n) s (fun t =>
      let c := commitsEnded (atPath s p)
      match activateSlot n false { c with boot := { c.boot with lastSlotWritten := n } } with
      | .loaded _ => (chanOf t (pathChan s p)).slots.committed = n ∧ (chanOf t (pathChan s p)).slots.intentOperate = false ∧
          (chanOf t (pathChan s p)).boot.mode = .commission
      | .failed r _ => (chanOf t (pathChan s p)).boot.mode = .hold ∧ (chanOf t (pathChan s p)).boot.holdReason = r
      | .refused _ => (chanOf t (pathChan s p)).slots.committed = (atPath s p).slots.committed)) ∧
  (∀ s n, WriteReady s .pf0 [2, 3] 0x2000 → (atPath s .pf0).boot.pendingMode = none →
    modeIn [2, 3] (chanOf s (pathChan s .pf0).twin) = true → (atPath s .pf0).seam.presence = 2 → n ≤ 1 →
    n ≠ (atPath s .pf0).slots.committedFw → (fwSlot (atPath s .pf0) n).status = 1 →
    twinCommitOk n (atPath s .pf0) (chanOf s (pathChan s .pf0).twin) = true → holdupOk (atPath s .pf0).psu 0 energyKey = true →
    holdupOk (chanOf s (pathChan s .pf0).twin).psu 0 energyKey = true →
    Does (.commitFirmwareSlot .pf0 n) s (fun t => (chanOf t (pathChan s .pf0)).slots.committedFw = n ∧
      (chanOf t (pathChan s .pf0)).boot.pendingMode = some (5, p1After 1000000 (atPath s .pf0)) ∧
      (chanOf t (pathChan s .pf0).twin).slots.committedFw = n ∧
      (chanOf t (pathChan s .pf0).twin).boot.pendingMode = some (5, p1After 1000000 (atPath s .pf0)))) ∧
  (∀ s n, WriteReady s .pf0 [2, 3] 0x2000 → (atPath s .pf0).slots.committedFw ≠ n →
    (modeIn [2, 3] (chanOf s (pathChan s .pf0).twin) = false ∨ (atPath s .pf0).seam.presence ≠ 2 ∨
      twinCommitOk n (atPath s .pf0) (chanOf s (pathChan s .pf0).twin) = false ∨
      holdupOk (chanOf s (pathChan s .pf0).twin).psu 0 energyKey = false) →
    Does (.commitFirmwareSlot .pf0 n) s (fun t => (chanOf t (pathChan s .pf0)).slots.committedFw = (atPath s .pf0).slots.committedFw ∧
      chanOf t (pathChan s .pf0).twin = chanOf s (pathChan s .pf0).twin)) ∧
  (∀ s p, WriteReady s p [2, 3] 0x1011 →
    Does (.restoreAll p 0x64616F6C#32) s (fun t => (chanOf t (pathChan s p)).dict.overlay = [])) ∧
  (∀ s p, WriteReady s p [2, 3] 0x1011 →
    Does (.restoreCommunication p 0x64616F6C#32) s (fun t => (chanOf t (pathChan s p)).dict.overlay =
      (atPath s p).dict.overlay.filter (fun x => !(decide (0x1000 ≤ x.1 / 256 ∧ x.1 / 256 ≤ 0x1FFF)))))

/-- 21 R616, R624 to R626, R629; 15 R461: what the operations on the dictionary answer and hold. -/
def Obligations.dictionary_operations : Prop :=
  (∀ s p tag body, PathReady s p → pathLive p (atPath s p) = true → (∀ ch n, p ≠ .svc ch n) → noSleeve p (atPath s p) = false →
    8 + body.length ≤ bufSize p →
    Does (.echo p tag body) s (fun t => (chanOf t (pathChan s p)).emitted = (atPath s p).emitted ++ [.completion (pathFn p) 0 body])) ∧
  (∀ s p tag index sub off most r v, EntryReady s p index sub r → s.bridge.held = [] → r.access ≠ 3 → r.ty ≠ 0x0F →
    ¬(index = 0x3100 ∧ sub = 0x10) → ¬(index = 0x2D00 ∧ sub = 0x15) → ¬(index = 0x2100 ∧ sub = 0x14) →
    valueOf s.bridge (commitsEnded (atPath s p)) r index sub = some v →
    Does (.dictRead p tag index sub off most) s (fun t => (chanOf t (pathChan s p)).emitted = (atPath s p).emitted ++
      [.completion (pathFn p) 0 (readHead index sub r.ty v.length off (slice v off (min most (dataMost p))).length ++
        slice v off (min most (dataMost p)))])) ∧
  (∀ s p tag index sub off most r, EntryReady s p index sub r → r.access = 3 →
    Does (.dictRead p tag index sub off most) s (fun t => (chanOf t (pathChan s p)).emitted = (atPath s p).emitted ++
      [.completion (pathFn p) 0 (readHead index sub r.ty (typeSize r.ty) off
          (slice (zeroBytes (typeSize r.ty)) off (min most (dataMost p))).length ++
        slice (zeroBytes (typeSize r.ty)) off (min most (dataMost p)))])) ∧
  (∀ s p tag index sub most r v, EntryReady s p index sub r → s.bridge.held = [] → r.access ≠ 3 → r.ty = 0x0F →
    ¬(index = 0x3100 ∧ sub = 0x10) → ¬(index = 0x2D00 ∧ sub = 0x15) →
    valueOf s.bridge (commitsEnded (atPath s p)) r index sub = some v → v.length ≤ 16777216 →
    Does (.dictRead p tag index sub 0 most) s (fun t => (chanOf t (pathChan s p)).emitted = (atPath s p).emitted ++
        [.completion (pathFn p) 0 (readHead index sub 0x0F v.length 0 (slice v 0 (min most (dataMost p))).length ++
          slice v 0 (min most (dataMost p)))] ∧
      ((∀ ch n, p ≠ .svc ch n) → copyOf p (od index sub) (chanOf t (pathChan s p)) = some v))) ∧
  (∀ s p tag index sub data r, EntryReady s p index sub r → r.access ≠ 1 → r.access ≠ 4 → r.ty ≠ 0x0F →
    r.mask.testBit (modeCode (atPath s p).boot.mode - 1) = true → data.length ≤ dataMost p → valueAbort r index sub data = none →
    commandWrite p (pathChan s p == leadChan s) index sub data (chanOf s (pathChan s p).twin) = none →
    ruleAbort (commitsEnded (atPath s p)) index sub data = none → effectInstant (commitsEnded (atPath s p)) index sub = none → index ≠ 0x2710 →
    Does (.dictWrite p tag index sub true true 0 data.length data) s (fun t =>
      kGet (chanOf t (pathChan s p)).dict.overlay (od index sub) = some data ∧
      zGet (chanOf t (pathChan s p)).ctr (od 0x2000 0x1B) = zGet (atPath s p).ctr (od 0x2000 0x1B) + 1)) ∧
  (∀ s p tag index sub data r, EntryReady s p index sub r → r.access = 1 →
    Does (.dictWrite p tag index sub true true 0 data.length data) s (fun t =>
      (chanOf t (pathChan s p)).dict.overlay = (atPath s p).dict.overlay ∧
      zGet (chanOf t (pathChan s p)).ctr (od 0x2000 0x1C) = zGet (atPath s p).ctr (od 0x2000 0x1C) + 1)) ∧
  (∀ s p tag index sub total data r, EntryReady s p index sub r → r.access ≠ 1 → r.access ≠ 4 → r.ty = 0x0F → data.length ≤ dataMost p →
    isImageKey index sub = false → r.mask.testBit (modeCode (atPath s p).boot.mode - 1) = true →
    (atPath s p).dict.sessions.any (fun x => x.key == od index sub && x.path != p && !x.timedOut) = false →
    total ≤ r.maxLen → data.length ≤ total →
    Does (.dictWrite p tag index sub true false 0 total data) s (fun t =>
      sessionOf p (od index sub) (chanOf t (pathChan s p)) = some ⟨od index sub, p, total, data, false⟩)) ∧
  (∀ s p tag index sub r, EntryReady s p index sub r →
    Does (.dictDescribe p tag index sub) s (fun t => (chanOf t (pathChan s p)).emitted = (atPath s p).emitted ++
      [.completion (pathFn p) 0 (describeBody r index sub)])) ∧
  (∀ s p tag index sub r, EntryReady s p index sub r →
    Does (.dictAbort p tag index sub) s (fun t => sessionOf p (od index sub) (chanOf t (pathChan s p)) = none)) ∧
  (∀ s ch p key x, sessionOf p key (chanOf s ch) = some x → x.timedOut = false →
    Does (.writeSessionTimeout ch p key) s (fun t =>
      sessionOf p key (chanOf t ch) = some { x with timedOut := true, data := [] } ∧ chanOf t ch.twin = chanOf s ch.twin)) ∧
  (∀ s ch p, Does (.readCopyLapse ch p) s (fun t => (∀ x ∈ (chanOf t ch).dict.copies, x.path ≠ p) ∧
    (∀ x ∈ (chanOf s ch).dict.copies, x.path ≠ p → x ∈ (chanOf t ch).dict.copies) ∧ onlyChan ch s t))

/-- 11 R354 to R357: what an on-line change, a restart, and the forces of a program ask for; each waits for its boundary. -/
def Obligations.lse_host_commands : Prop :=
  (∀ s p n L, WriteReady s p [3, 4, 5] 0x2700 → s.bridge.held = [] → pathChan s p = leadChan s → n < 64 →
    kGet (atPath s p).lse n = some L → L.swap = none →
    Does (.applyOnlineChange p n) s (fun t => match changeChecked n L (commitsEnded (atPath s p)) with
      | (none, _) => kGet (chanOf t (pathChan s p)).lse n = some L
      | (some g, c1) => kGet (chanOf t (pathChan s p)).lse n = some { L with swap := some (g, swapBoundary L c1) })) ∧
  (∀ s p n L, WriteReady s p [3, 4, 5] 0x2700 → kGet (atPath s p).lse n = some L → L.st = .faulted →
    Does (.lseRestart p n) s (fun t => kGet (chanOf t (pathChan s p)).lse n = some { L with restartPend := true })) ∧
  (∀ s p n L id v v1 v2, WriteReady s p [3, 4, 5] 0x2700 → leads (atPath s p) = true → kGet (atPath s p).lse n = some L →
    (progAt L (cycleCeil L (nowNs (atPath s p) + 1000000))).vars.any (fun x => x.ident == id) = true →
    ((atPath s p).boot.mode = .commission ∨ inTest (atPath s p) n = true) → (forcedBut L id).length < 256 →
    Does (.forceSet p n id v v1 v2) s (fun t => kGet (chanOf t (pathChan s p)).lse n = some { L with
      pendForces := L.pendForces.filter (fun x => x.f.ident != id) ++ [⟨true, ⟨id, v, v1, v2⟩, cycleCeil L (nowNs (atPath s p) + 1000000)⟩] })) ∧
  (∀ s p n L id v v1 v2, WriteReady s p [3, 4, 5] 0x2700 → kGet (atPath s p).lse n = some L →
    (leads (atPath s p) = false ∨ (progAt L (cycleCeil L (nowNs (atPath s p) + 1000000))).vars.any (fun x => x.ident == id) = false ∨
      ((atPath s p).boot.mode ≠ .commission ∧ inTest (atPath s p) n = false) ∨ 256 ≤ (forcedBut L id).length) →
    Does (.forceSet p n id v v1 v2) s (fun t => (chanOf t (pathChan s p)).lse = (atPath s p).lse)) ∧
  (∀ s p n L id, WriteReady s p [3, 4, 5] 0x2700 → leads (atPath s p) = true → kGet (atPath s p).lse n = some L →
    (progAt L (cycleCeil L (nowNs (atPath s p) + 1000000))).vars.any (fun x => x.ident == id) = true →
    Does (.forceRelease p n id) s (fun t => kGet (chanOf t (pathChan s p)).lse n = some { L with
      pendForces := L.pendForces.filter (fun x => x.f.ident != id) ++ [⟨false, ⟨id, 0, 0, 0⟩, cycleCeil L (nowNs (atPath s p) + 1000000)⟩] }))

/-- 16 R488 to R500; 08 R264, R269: an accepted lifecycle request waits for its boundary; a save blob begins at once; a creation or a restore
whose package the lead channel and, with the lanes up, its twin admit waits for the start boundary, or for the Placer's moves to end; while
moves are in progress it is queued. That a queued request is accepted at once is the model's choice (log entry 49). -/
def Obligations.sleeve_requests : Prop :=
  (∀ s n x, WriteReady s .pf0 [3, 4, 5] 0x2B00 → n < 64 → kGet (atPath s .pf0).sleeves n = some x → x.req = none → x.saving = false →
    x.st = .running → Does (.sleeveFreeze .pf0 n) s (fun t =>
      kGet (chanOf t (pathChan s .pf0)).sleeves n = some { x with req := some ⟨3, 0, lifeBoundary n (atPath s .pf0)⟩ })) ∧
  (∀ s n x, WriteReady s .pf0 [3, 4, 5] 0x2B00 → n < 64 → kGet (atPath s .pf0).sleeves n = some x → x.req = none → x.saving = false →
    x.st = .frozen → Does (.sleeveThaw .pf0 n) s (fun t =>
      kGet (chanOf t (pathChan s .pf0)).sleeves n = some { x with req := some ⟨4, 0, lifeBoundary n (atPath s .pf0)⟩ })) ∧
  (∀ s n x, WriteReady s .pf0 [3, 4, 5] 0x2B00 → n < 64 → kGet (atPath s .pf0).sleeves n = some x → x.req = none → x.saving = false →
    deleteOk (atPath s .pf0) x = true →
    Does (.sleeveDelete .pf0 n) s (fun t =>
      kGet (chanOf t (pathChan s .pf0)).sleeves n = some { x with req := some ⟨2, 0, lifeBoundary n (atPath s .pf0)⟩ })) ∧
  (∀ s n x beh, WriteReady s .pf0 [3, 4, 5] 0x2B00 → n < 64 → kGet (atPath s .pf0).sleeves n = some x → x.req = none → x.saving = false →
    1 ≤ beh → beh ≤ 5 →
    Does (.sleeveBehaviour .pf0 n beh) s (fun t =>
      kGet (chanOf t (pathChan s .pf0)).sleeves n = some { x with req := some ⟨7, beh, lifeBoundary n (atPath s .pf0)⟩ })) ∧
  (∀ s n x, WriteReady s .pf0 [3, 4, 5] 0x2B00 → n < 64 → kGet (atPath s .pf0).sleeves n = some x → x.req = none → x.saving = false →
    x.st = .frozen → Does (.sleeveSave .pf0 n) s (fun t => kGet (chanOf t (pathChan s .pf0)).sleeves n = some { x with saving := true })) ∧
  (∀ s n, WriteReady s .pf0 [3, 4, 5] 0x2B00 → s.bridge.held = [] → n < 64 → kGet (atPath s .pf0).sleeves n = none →
    (atPath s .pf0).seam.presence ≠ 2 → placerIdle (atPath s .pf0) = true → (atPath s .pf0).disp.queued = [] →
    Does (.sleeveCreate .pf0 n) s (fun t => match admitCreate n (commitsEnded (atPath s .pf0)) with
      | .ok c1 => (chanOf t (pathChan s .pf0)).sleeves = kMod c1.sleeves n (fun x => { x with
          req := some ⟨1, 0, if c1.disp.planned.isEmpty then startBoundary c1 else 0⟩ })
      | .error (_, c1) => (chanOf t (pathChan s .pf0)).sleeves = c1.sleeves)) ∧
  (∀ s n, WriteReady s .pf0 [3, 4, 5] 0x2B00 → s.bridge.held = [] → n < 64 → kGet (atPath s .pf0).sleeves n = none →
    (atPath s .pf0).seam.presence = 2 → placerIdle (atPath s .pf0) = true → placerIdle (chanOf s (pathChan s .pf0).twin) = true →
    (atPath s .pf0).disp.queued = [] →
    Does (.sleeveCreate .pf0 n) s (fun t => match admitCreate n (commitsEnded (atPath s .pf0)), admitCreate n (chanOf s (pathChan s .pf0).twin) with
      | .ok c1, .ok d1 => (chanOf t (pathChan s .pf0)).sleeves = kMod c1.sleeves n (fun x => { x with
          req := some ⟨1, 0, if c1.disp.planned.isEmpty && d1.disp.planned.isEmpty then startBoundary c1 else 0⟩ })
      | .ok _, .error _ => (chanOf t (pathChan s .pf0)).sleeves = (atPath s .pf0).sleeves
      | .error (_, c1), _ => (chanOf t (pathChan s .pf0)).sleeves = c1.sleeves)) ∧
  (∀ s n, WriteReady s .pf0 [3, 4, 5] 0x2B00 → n < 64 → kGet (atPath s .pf0).sleeves n = none → placerIdle (atPath s .pf0) = false →
    (atPath s .pf0).disp.queued = [] →
    Does (.sleeveCreate .pf0 n) s (fun t => (chanOf t (pathChan s .pf0)).disp.queued = [⟨1, n, 0, packageBytes (atPath s .pf0)⟩] ∧
      (chanOf t (pathChan s .pf0)).sleeves = (atPath s .pf0).sleeves)) ∧
  (∀ s n arg, WriteReady s .pf0 [3, 4, 5] 0x2B00 → s.bridge.held = [] → n < 64 → arg ≤ 1 → kGet (atPath s .pf0).sleeves n = none →
    (atPath s .pf0).seam.presence ≠ 2 → placerIdle (atPath s .pf0) = true → (atPath s .pf0).disp.queued = [] →
    Does (.sleeveRestore .pf0 ⟨n, arg⟩) s (fun t => match admitRestore n arg (commitsEnded (atPath s .pf0)) with
      | .ok c1 => (chanOf t (pathChan s .pf0)).sleeves = kMod c1.sleeves n (fun x => { x with
          req := some ⟨6, arg, if c1.disp.planned.isEmpty then startBoundary c1 else 0⟩ })
      | .error (_, c1) => (chanOf t (pathChan s .pf0)).sleeves = c1.sleeves)) ∧
  (∀ s n arg, WriteReady s .pf0 [3, 4, 5] 0x2B00 → s.bridge.held = [] → n < 64 → arg ≤ 1 → kGet (atPath s .pf0).sleeves n = none →
    (atPath s .pf0).seam.presence = 2 → placerIdle (atPath s .pf0) = true → placerIdle (chanOf s (pathChan s .pf0).twin) = true →
    (atPath s .pf0).disp.queued = [] →
    Does (.sleeveRestore .pf0 ⟨n, arg⟩) s (fun t => match admitRestore n arg (commitsEnded (atPath s .pf0)), admitRestore n arg (chanOf s (pathChan s .pf0).twin) with
      | .ok c1, .ok d1 => (chanOf t (pathChan s .pf0)).sleeves = kMod c1.sleeves n (fun x => { x with
          req := some ⟨6, arg, if c1.disp.planned.isEmpty && d1.disp.planned.isEmpty then startBoundary c1 else 0⟩ })
      | .ok _, .error _ => (chanOf t (pathChan s .pf0)).sleeves = (atPath s .pf0).sleeves
      | .error (_, c1), _ => (chanOf t (pathChan s .pf0)).sleeves = c1.sleeves)) ∧
  (∀ s n arg, WriteReady s .pf0 [3, 4, 5] 0x2B00 → n < 64 → arg ≤ 1 → kGet (atPath s .pf0).sleeves n = none → placerIdle (atPath s .pf0) = false →
    (atPath s .pf0).disp.queued = [] →
    Does (.sleeveRestore .pf0 ⟨n, arg⟩) s (fun t => (chanOf t (pathChan s .pf0)).disp.queued = [⟨6, n, arg, packageBytes (atPath s .pf0)⟩] ∧
      (chanOf t (pathChan s .pf0)).sleeves = (atPath s .pf0).sleeves))

/-- 13 R411, R412; 17 R524, R526; 18 R541, R543, R554: pulse generators, CAN ports and recordings as the host sets them. -/
def Obligations.unit_commands : Prop :=
  (∀ s p g, g < 4 → WriteReady s p [2, 3, 4, 5] (0x2220 + g) → s.bridge.held = [] → pgSetOk (commitsEnded (atPath s p)) g = true →
    (pgGet (atPath s p) g).inPulse = false → (pgEntries (atPath s p) g).period = 0 →
    Does (.pgArm p g) s (fun t => let x := pgGet (chanOf t (pathChan s p)) g
      x.set = pgEntries (atPath s p) g ∧
        (if (pgEntries (atPath s p) g).start < nowNs (atPath s p) + 2000 then x.armed = false ∧ x.status = 4 else x.armed = true ∧ x.status = 1))) ∧
  (∀ s p g, g < 4 → WriteReady s p [2, 3, 4, 5] (0x2220 + g) →
    Does (.pgDisarm p g) s (fun t => let x := pgGet (chanOf t (pathChan s p)) g
      if (pgGet (atPath s p) g).inPulse then x.disarmAfter = true else x.armed = false ∧ x.status = 0)) ∧
  (∀ s p n c, WriteReady s p [2, 3, 4, 5] (0x2C10 + n) → kGet (atPath s p).can n = some c → c.busOff = true → c.cfg.hostRec = true →
    Does (.recoveryRequest p n) s (fun t => kGet (chanOf t (pathChan s p)).can n = some { c with recovering := true })) ∧
  (∀ s p n c on, WriteReady s p [2, 3] (0x2C10 + n) → kGet (atPath s p).can n = some c →
    Does (.internalLoopback p n on) s (fun t => kGet (chanOf t (pathChan s p)).can n = some { c with loop := on })) ∧
  (∀ s d, WriteReady s .pf0 [3, 4, 5] 0x2D00 → d < 128 → kHas (atPath s .pf0).pleat.defs d = true →
    Does (.manualTrigger .pf0 d) s (fun t => (chanOf t (pathChan s .pf0)).pleat.manual =
      (atPath s .pf0).pleat.manual ++ [(d, p1After 1000000 (atPath s .pf0))])) ∧
  (∀ s p d x, WriteReady s p [3, 4, 5] (0x9800 + d) → kGet (atPath s p).pleat.defs d = some x → x.st = .stopped →
    Does (.definitionArm p d) s (fun t => (kGet (chanOf t (pathChan s p)).pleat.defs d).map (fun y => (y.st, y.ring)) = some (.armed, []) ∧
      entryBytes (chanOf t (pathChan s p)) (0x9800 + d) 7 [] = [1])) ∧
  (∀ s p d x, WriteReady s p [3, 4, 5] (0x9800 + d) → kGet (atPath s p).pleat.defs d = some x →
    Does (.definitionDisarm p d) s (fun t => (∀ y, kGet (chanOf t (pathChan s p)).pleat.defs d = some y → y.st = .stopped) ∧
      entryBytes (chanOf t (pathChan s p)) (0x9800 + d) 7 [] = [0])) ∧
  (∀ s p n, WriteReady s p [2, 3, 4, 5] 0x2D00 → (atPath s p).pleat.store.any (fun x => x.num.toNat == n) = true →
    Does (.deleteStoreRecord p n) s (fun t => (chanOf t (pathChan s p)).pleat.store =
      (atPath s p).pleat.store.filter (fun x => x.num.toNat != n))) ∧
  (∀ s p x sigs, PathReady s p → pathLive p (atPath s p) = true → reaches p 0x2D00 = true → selected (atPath s p) = some x →
    sigs = (kGet (atPath s p).pleat.defs x.dfn).elim [] (fun y => y.cfg.sigs) →
    (entryNat (atPath s p) 0x2D00 0x14 1 ≠ 0 ∨ ∀ y ∈ sigs, y.ty ≠ 4 ∧ y.ty ≠ 3) →
    Does (.comtradeExport p) s (fun t => copyOf p (od 0x2D00 0x15) (chanOf t (pathChan s p)) =
      some (encodeCff (cffOf (commitsEnded (atPath s p)) (entryNat (atPath s p) 0x2D00 0x14 1) x sigs)))) ∧
  (∀ s p x y, PathReady s p → pathLive p (atPath s p) = true → reaches p 0x2D00 = true → selected (atPath s p) = some x →
    entryNat (atPath s p) 0x2D00 0x14 1 = 0 → kGet (atPath s p).pleat.defs x.dfn = some y → (∃ g ∈ y.cfg.sigs, g.ty = 4 ∨ g.ty = 3) →
    Does (.comtradeExport p) s (fun t => (chanOf t (pathChan s p)).dict.copies = (atPath s p).dict.copies))

/-- 19 R570 to R576, R585 to R590; 22 R643, R648, R649: key commands wait for their boundary; requests, certificates, snapshots and the
arming of injectors. -/
def Obligations.key_and_diagnostic_commands : Prop :=
  KeyPends (.importAnchor .pf0) .pf0 1 [2, 3] 209 ∧ KeyPends (.importAnchor .pf1) .pf1 1 [2, 3] 209 ∧
  KeyPends (.importAnchor .pf2) .pf2 1 [2, 3] 209 ∧ (∀ ch n, KeyPends (.importAnchor (.svc ch n)) (.svc ch n) 1 [2, 3] 209) ∧
  KeyPends (.importWrapped .pf0) .pf0 2 [3, 4, 5] 336 ∧ KeyPends (.keyInvalidate .pf0) .pf0 3 [2, 3, 4, 5] 16 ∧
  KeyPends (.keyDerive .pf0) .pf0 4 [3, 4, 5] 32 ∧ KeyPends (.keyReDerive .pf0) .pf0 5 [3, 4, 5] 16 ∧
  (∀ s p b, PathReady s p → pathLive p (atPath s p) = true → (∀ n, p ≠ .vf n) → modeIn [2, 3, 4, 5] (atPath s p) = true →
    b.length = 36 → (leAt b 0 1 = 1 ∨ leAt b 0 1 = 2 ∨ (leAt b 0 1 = 3 ∧ leAt b 2 2 < 512)) →
    Does (.attestationRequest p b) s (fun t => (chanOf t (pathChan s p)).keys.request = some b)) ∧
  (∀ s p b, (p = .pf1 ∨ p = .pf2 ∨ ∃ ch n, p = .svc ch n) → PathReady s p → pathLive p (atPath s p) = true →
    (atPath s p).boot.mode = .sealedMode → b.length = 108 → leAt b 0 4 = serialNumber.toNat →
    nth b 4 0 = chanByte (atPath s p) → (atPath s p).keysNv.provGen.toNat < leAt b 8 4 →
    Does (.reProvisioning p b) s (fun t => let c := chanOf t (pathChan s p)
      if Config.ecdsaVerify Config.provisioningKey (b.take 12) (b.drop 12) then c.boot.mode = .boot ∧ c.boot.cause = 6 ∧
        c.keysNv.sealedMarker = false ∧ c.keysNv.provGen = BitVec.ofNat 32 (leAt b 8 4)
      else c.boot.mode = .sealedMode ∧ c.keysNv = (atPath s p).keysNv)) ∧
  (∀ s p b, (∀ n, p ≠ .vf n) → PathReady s p → pathLive p (atPath s p) = true → (atPath s p).boot.mode = .hold →
    Does (.certificateInstall p b) s (fun t => (chanOf t (pathChan s p)).keysNv.cert =
      if certificateOk b (atPath s p) then b else (atPath s p).keysNv.cert)) ∧
  (∀ s p v, WriteReady s p [2, 3, 4, 5] 0x3100 → nowNs (atPath s p) + 1000000 ≤ v.toNat →
    Does (.snapshotSchedule p v) s (fun t => (chanOf t (pathChan s p)).diag.snapT = some v)) ∧
  (∀ s p, (∀ n, p ≠ .vf n) → PathReady s p → pathLive p (atPath s p) = true →
    Does (.armingCodeRead p) s (fun t => ∃ code, (chanOf t (pathChan s p)).diag.armCode = some code ∧
      (chanOf t (pathChan s p)).diag.armFrom = p ∧ (chanOf t (pathChan s p)).diag.armReadAt = (atPath s p).time.up ∧
      (chanOf t (pathChan s p)).emitted = (atPath s p).emitted ++ [.completion (pathFn p) 0 (leBytes 4 code.toNat)])) ∧
  (∀ s p i code, (∀ n, p ≠ .vf n) → PathReady s p → pathLive p (atPath s p) = true → i < 33 →
    codeOk p code (atPath s p) = true → injAllowed (atPath s p) i = true → (injGet (atPath s p) i).armed = false →
    Does (.injectorArm p i code) s (fun t => (injGet (chanOf t (pathChan s p)) i).armed = true ∧
      (injGet (chanOf t (pathChan s p)) i).status = 1)) ∧
  (∀ s p i, (∀ n, p ≠ .vf n) → PathReady s p → pathLive p (atPath s p) = true → i < 33 → modeIn [3, 4, 5] (atPath s p) = true →
    (injGet (atPath s p) i).armed = true →
    Does (.injectorDisarm p i) s (fun t => (injGet (chanOf t (pathChan s p)) i).armed = false ∧
      (injGet (chanOf t (pathChan s p)) i).status = 0))

/-- 12 R368 to R370, R383 to R390: HOLD_CTL as each channel sees it, the stages of a takeover, and the lines and lanes of the twin. -/
def Obligations.takeover_and_presence : Prop :=
  (∀ s, s.a.seam.holdCtl = true → s.b.seam.holdCtl = true →
    Does (.holdCtlContention .b) s (fun t => t.b.seam.holdCtl = false ∧ t.b.pub.cuff = false ∧ t.b.boot.granted = false ∧ t.a = s.a)) ∧
  (∀ s ch, (chanOf s ch).boot.powered = true → (chanOf s ch.twin).boot.powered = true → (chanOf s ch.twin).seam.holdCtl = true →
    Does (.twinHoldCtlAsserted ch) s (fun t => (chanOf t ch).seam.twinHold = true ∧ onlyChan ch s t)) ∧
  (∀ s ch, (chanOf s ch).boot.powered = true → (chanOf s ch).seam.twinHold = true → (chanOf s ch.twin).seam.holdCtl = false →
    (chanOf s ch).seam.holdCtl = false → (chanOf s ch).boot.mode = .standby →
    Does (.twinHoldCtlDeasserted ch) s (fun t => (chanOf t ch).seam.twinHold = false ∧ (chanOf t ch).seam.holdCtl = true ∧
      (chanOf t ch).seam.takeover = some ⟨nowNs (chanOf s ch), handoverAt (chanOf s ch), false, none⟩ ∧ onlyChan ch s t)) ∧
  (∀ s ch, (chanOf s ch).boot.powered = true → (chanOf s ch).seam.twinHold = true → (chanOf s ch.twin).seam.holdCtl = false →
    takesOver (chanOf s ch) = false →
    Does (.twinHoldCtlDeasserted ch) s (fun t => (chanOf t ch).seam = { (chanOf s ch).seam with twinHold := false } ∧ onlyChan ch s t)) ∧
  (∀ s ch h, (chanOf s ch).seam.takeover = some h → h.opened = false → (chanOf s ch).seam.twinHold = true →
    Does (.cuffOpen ch) s (fun t => t = s)) ∧
  (∀ s ch h, (chanOf s ch).seam.takeover = some h → h.opened = false → (chanOf s ch).seam.twinHold = false →
    ((chanOf s ch).boot.mode = .standby ∨ (chanOf s ch).boot.mode = .commission) → s.bridge.held = [] →
    Does (.cuffOpen ch) s (fun t => (chanOf t ch).pub.cuff = true ∧
      (chanOf t ch).boot.mode = (if (chanOf s ch).boot.mode = .standby then .active else .commission) ∧ (chanOf t ch).seam.stage = 0 ∧
      (chanOf t ch).seam.superviseDue = true ∧ t.bridge.serving = some ch ∧ t.bridge.takeover = BitVec.allOnes 65 ∧
      chanOf t ch.twin = chanOf s ch.twin)) ∧
  (∀ s ch h, (chanOf s ch).seam.takeover = some h → h.opened = false → h.final = none →
    Does (.finalTimeout ch) s (fun t => (chanOf t ch).seam.takeover = some { h with final := some [] } ∧
      (chanOf t ch).seam.store = (chanOf s ch).seam.store ∧ onlyChan ch s t)) ∧
  (∀ s ch h, (chanOf s ch).seam.takeover = some h → h.opened = true → h.final = none →
    Does (.finalTimeout ch) s (fun t => (chanOf t ch).seam.takeover = none ∧ (chanOf t ch).seam.store = [] ∧
      (chanOf t ch).pub.waiting = (chanOf s ch).seam.store ++ (chanOf s ch).pub.waiting)) ∧
  (∀ s ch h f tag, (chanOf s ch).seam.takeover = some h → f ≤ 64 →
    Does (.nonPostedTakeoverAbort ch f tag) s (fun t =>
      (chanOf t ch).emitted = (chanOf s ch).emitted ++ [.completerAbort f] ∧ (chanOf t ch).seam = (chanOf s ch).seam)) ∧
  (∀ s ch, (chanOf s ch).seam.superviseDue = true →
    Does (.takeoverSupervision ch) s (fun t => (chanOf t ch).seam.superviseDue = false ∧ onlyChan ch s t)) ∧
  (∀ s ch, (chanOf s ch.twin).boot.powered = false → (chanOf s ch).boot.powered = true → (chanOf s ch).seam.presence ≠ 0 →
    Does (.twinAbsent ch) s (fun t => (chanOf t ch).seam.presence = 0 ∧ (chanOf t ch).boot.twinMode = 0xFF#8 ∧
      (chanOf t ch).seam.out = [] ∧ (chanOf t ch).seam.absentAt = (chanOf s ch).time.up ∧
      (chanOf t ch).boot.mode = (chanOf s ch).boot.mode ∧ onlyChan ch s t)) ∧
  (∀ s ch, (chanOf s ch.twin).boot.powered = true → (chanOf s ch.twin).seam.alive = true → (chanOf s ch).boot.powered = true →
    (chanOf s ch).seam.presence = 0 →
    Does (.seamAliveResumed ch) s (fun t => (chanOf t ch).seam.presence = 1 ∧ onlyChan ch s t)) ∧
  (∀ s ch, (chanOf s ch).boot.powered = true → (chanOf s ch).seam.presence = 2 →
    Does (.lanesDown ch) s (fun t => (chanOf t ch).seam.presence = 1 ∧ (chanOf t ch).boot.twinMode = 0xFF#8 ∧
      (chanOf t ch).seam.out = [] ∧ (chanOf t ch).seam.store = newestCopies (chanOf s ch).seam.store ∧
      (chanOf t ch).boot.mode = (chanOf s ch).boot.mode ∧ onlyChan ch s t)) ∧
  (∀ s ch, runtimeUp (chanOf s ch) = true → runtimeUp (chanOf s ch.twin) = true → (chanOf s ch.twin).seam.alive = true →
    (chanOf s ch).seam.presence = 1 →
    Does (.lanesTrained ch) s (fun t => (chanOf t ch).seam.presence = 2 ∧ (chanOf t ch).seam.out = [] ∧ onlyChan ch s t ∧
      ((chanOf s ch).boot.mode = .standby → (chanOf s ch).seam.stage = 0 → (chanOf s ch).seam.holdCtl = false → (chanOf t ch).seam.stage = 1))) ∧
  (∀ s ch, (chanOf s ch).boot.powered = true → (chanOf s ch).seam.presence = 2 →
    Does (.idleRecordSend ch) s (fun t => (chanOf t ch).emitted = (chanOf s ch).emitted ++ [.idleRecord] ∧ onlyChan ch s t))

/-- 12 R370, R371, R374, R375, R383, R387, R393; 16 R491; 17 R522; 19 R576: each record leaves its sender in turn as it arrives intact, and does to its receiver what its kind says. -/
def Obligations.twin_records : Prop :=
  (∀ s ch r rest ps, RecordReady s ch r rest →
    Does (recordCommand ch true ps r) s (fun t => (chanOf t ch.twin).seam.out = rest ∧ t.supply = s.supply ∧ t.bridge = s.bridge)) ∧
  (∀ s ch r rest ps, RecordReady s ch r rest →
    Does (recordCommand ch false ps r) s (fun t => (chanOf t ch.twin).seam.out = r :: rest ∧ chanOf t ch = chanOf s ch ∧
      zGet (chanOf t ch.twin).ctr (od 0x2800 0x16) = zGet (chanOf s ch.twin).ctr (od 0x2800 0x16) + 1)) ∧
  (∀ s ch rest d at_, RecordReady s ch (.hostCmd (.manual d at_)) rest → applies (chanOf s ch) = true →
    Does (.hostCommandRecord ch true) s (fun t => (chanOf t ch).pleat.manual = (chanOf s ch).pleat.manual ++ [(d, at_)])) ∧
  (∀ s ch rest req at_, RecordReady s ch (.hostCmd (.mode req at_)) rest → applies (chanOf s ch) = false →
    Does (.hostCommandRecord ch true) s (fun t => (chanOf t ch).boot.pendingMode = (chanOf s ch).boot.pendingMode)) ∧
  (∀ s ch rest n x at_, RecordReady s ch (.lifecycle n 3 0 at_) rest → applies (chanOf s ch) = true → kGet (chanOf s ch).sleeves n = some x →
    Does (.sleeveLifecycleRecord ch true) s (fun t => kGet (chanOf t ch).sleeves n = some { x with req := some ⟨3, 0, at_⟩ })) ∧
  (∀ s ch rest cmd b at_, RecordReady s ch (.keyChange cmd b at_) rest → applies (chanOf s ch) = true →
    Does (.keySlotChangeRecord ch true) s (fun t => (chanOf t ch).keys.pend = (chanOf s ch).keys.pend ++ [⟨cmd, b, at_⟩])) ∧
  (∀ s ch rest sv n st sq smp, RecordReady s ch (.confirm sv n st sq smp) rest →
    Does (.confirmationRecord ch true) s (fun t => (chanOf t ch).seam.store =
      (chanOf s ch).seam.store.filter (fun b => !confirms (chanOf s ch) (sv, n, st, sq, smp) b))) ∧
  (∀ s ch rest p b st k, RecordReady s ch (.canOutcome p b st k) rest → (chanOf s ch).seam.holdCtl = true →
    Does (.canOutcomeRecord ch true) s (fun t => (chanOf t ch).can = (chanOf s ch).can)) ∧
  (∀ s ch rest l h, RecordReady s ch (.final l) rest → (chanOf s ch).seam.takeover = some h → h.opened = false →
    Does (.finalRecord ch true) s (fun t => (chanOf t ch).seam.takeover = some { h with final := some l })) ∧
  (∀ s ch rest d mine, RecordReady s ch (.digest d) rest → (chanOf s ch).seam.digests.find? (fun x => sameDigest d x) = some mine → mine.v = d.v →
    Does (.digestRecord ch true) s (fun t => (chanOf t ch).seam.digests = (chanOf s ch).seam.digests.filter (fun x => !sameDigest d x) ∧
      (chanOf t ch).seam.diagnosing = (chanOf s ch).seam.diagnosing)) ∧
  (∀ s ch rest d mine, RecordReady s ch (.digest d) rest → (chanOf s ch).seam.digests.find? (fun x => sameDigest d x) = some mine → mine.v ≠ d.v →
    mine.out = true → mine.fit = true → d.fit = true →
    Does (.digestRecord ch true) s (fun t => (chanOf t ch).seam.digests = (chanOf s ch).seam.digests.filter (fun x => !sameDigest d x) ∧
      zGet (chanOf t ch).ctr (od 0x2800 0x0A) = zGet (chanOf s ch).ctr (od 0x2800 0x0A) + 1)) ∧
  (∀ s ch rest d, RecordReady s ch (.digest d) rest → (chanOf s ch).seam.digests.find? (fun x => sameDigest d x) = none →
    Does (.digestRecord ch true) s (fun t => (chanOf t ch).seam.twinDigests = (d :: (chanOf s ch).seam.twinDigests).take 4096)) ∧
  (∀ s ch rest at_ ps, RecordReady s ch (.alignment at_) rest →
    Does (.alignmentRecord ch true ps) s (fun t => (chanOf t ch).seam.align = Int.tdiv ps 1000 ∧ (chanOf t ch).seam.holdCtl = (chanOf s ch).seam.holdCtl)) ∧
  (∀ s ch rest n at_ v, RecordReady s ch (.retainDigest n at_ v) rest → (chanOf s ch).seam.digests = [] →
    Does (.retainDigestRecord ch true) s (fun t => (chanOf t ch).seam.twinDigests = (retainDigestOf n at_ v (comparing (chanOf s ch.twin)) (chanOf s ch.twin).time.up ::
      (chanOf s ch).seam.twinDigests).take 4096)) ∧
  (∀ s ch rest m, RecordReady s ch (.mirrorSet m) rest → (chanOf s ch).seam.stage = 3 → (chanOf s ch).seam.transferAt ≠ 0 →
    Does (.mirrorSetRecord ch true) s (fun t => (chanOf t ch).seam.transferAt = 0 ∧ (chanOf t ch).seam.stage = 3)) ∧
  (∀ s ch d r, (chanOf s ch).seam.digests = d :: r →
    Does (.digestUnmatched ch) s (fun t => (chanOf t ch).seam.digests = r ∧ onlyChan ch s t))

/-- 12 R376 to R378, R392; 21 R620: the stages of a resynchronisation, realignment, and self-diagnosis. -/
def Obligations.resynchronisation : Prop :=
  (∀ s ch, resyncs (chanOf s ch) = true → (chanOf s ch).seam.presence = 2 →
    (chanOf s ch).seam.stage = 1 → signedBytes (committedSlot (chanOf s ch.twin)).bytes = signedBytes (committedSlot (chanOf s ch)).bytes →
    Does (.resyncStageComplete ch) s (fun t => (chanOf t ch).seam.stage = 2 ∧
      (chanOf t ch).dict.overlay = (chanOf s ch.twin).dict.overlay ∧ onlyChan ch s t)) ∧
  (∀ s ch, resyncs (chanOf s ch) = true → (chanOf s ch).seam.presence = 2 →
    (chanOf s ch).seam.stage = 2 → warmedUp (chanOf s ch) = true →
    Does (.resyncStageComplete ch) s (fun t => (chanOf t ch).seam.stage = 3 ∧ (chanOf t ch).seam.transferAt = p1After 2000000 (chanOf s ch) ∧ onlyChan ch s t)) ∧
  (∀ s ch, resyncs (chanOf s ch) = true → (chanOf s ch).seam.presence = 2 →
    (chanOf s ch).seam.stage = 3 → (chanOf s ch).seam.transferAt = 0 →
    Does (.resyncStageComplete ch) s (fun t => (chanOf t ch).seam.stage = 4 ∧ (chanOf t ch).seam.convAt = (chanOf s ch).time.up ∧ onlyChan ch s t)) ∧
  (∀ s ch, resyncs (chanOf s ch) = true → 1 ≤ (chanOf s ch).seam.stage →
    (chanOf s ch).seam.stage ≤ 4 → (chanOf s ch).seam.restarts < 2 →
    Does (.resyncStageTimeout ch) s (fun t => (chanOf t ch).seam.stage = 2 ∧ (chanOf t ch).seam.restarts = (chanOf s ch).seam.restarts + 1 ∧
      (chanOf t ch).boot.mode = (chanOf s ch).boot.mode ∧ onlyChan ch s t)) ∧
  (∀ s ch, resyncs (chanOf s ch) = true → 1 ≤ (chanOf s ch).seam.stage →
    (chanOf s ch).seam.stage ≤ 4 → 2 ≤ (chanOf s ch).seam.restarts →
    Does (.resyncStageTimeout ch) s (fun t => (chanOf t ch).boot.mode = .boot ∧ (chanOf t ch).boot.cause = 4)) ∧
  (∀ s ch, resyncs (chanOf s ch) = true → (chanOf s ch).seam.stage = 4 →
    Does (.convergenceReached ch) s (fun t => (chanOf t ch).seam.stage = 5 ∧ (chanOf t ch).seam.restarts = 0 ∧
      (chanOf t ch).seam.fault = none ∧ onlyChan ch s t)) ∧
  (∀ s ch, leads (chanOf s ch) = true → (chanOf s ch).seam.presence = 2 → (chanOf s ch.twin).seam.stage = 3 →
    (chanOf s ch.twin).seam.transferAt ≠ 0 →
    Does (.transferBoundary ch) s (fun t => (chanOf t ch).seam.out = (chanOf s ch).seam.out ++
      [.mirrorSet (mirrorSetOf (chanOf s ch.twin).seam.resyncSleeve (chanOf s ch))] ∧ onlyChan ch s t)) ∧
  (∀ s ch, (chanOf s ch).boot.mode = .standby → (chanOf s ch).seam.holdCtl = false → (chanOf s ch).seam.presence = 2 →
    (chanOf s ch).seam.stage = 1 → (chanOf s ch).psu.pwarn = true →
    Does (.resyncImageReceived ch) s (fun t => if sameManifest (chanOf s ch.twin) (chanOf s ch) then (chanOf t ch).slots = (chanOf s ch).slots
      else slotOf (chanOf t ch) (1 - (chanOf s ch).slots.committed) = ⟨(committedSlot (chanOf s ch.twin)).bytes, 4⟩)) ∧
  (∀ s ch, (chanOf s ch).boot.mode = .standby → (chanOf s ch).seam.holdCtl = false → (chanOf s ch).seam.presence = 2 →
    (chanOf s ch).seam.stage = 1 → (chanOf s ch).psu.pwarn = false →
    Does (.resyncImageReceived ch) s (fun t =>
      let n := 1 - (chanOf s ch).slots.committed
      let b := (committedSlot (chanOf s ch.twin)).bytes
      let c := commitsEnded (chanOf s ch)
      if sameManifest (chanOf s ch.twin) (chanOf s ch) then (chanOf t ch).slots = (chanOf s ch).slots
      else match activateSlot n (chanOf s ch.twin).slots.intentOperate (imageStatus false (imageIntact c b).1 (setSlot n ⟨b, 6⟩ c)) with
        | .loaded _ => (chanOf t ch).slots.committed = n ∧ (chanOf t ch).slots.intentOperate = (chanOf s ch.twin).slots.intentOperate
        | .failed r _ => (chanOf t ch).boot.mode = .hold ∧ (chanOf t ch).boot.holdReason = r ∧ (chanOf t ch).seam.stage = 0
        | .refused _ => (chanOf t ch).slots.committed = (chanOf s ch).slots.committed)) ∧
  (∀ s ch n k, kGet (chanOf s ch).seam.realign n = some k →
    Does (.realignmentBoundary ch n) s (fun t => kGet (chanOf t ch).seam.realign n = none ∧ onlyChan ch s t)) ∧
  (∀ s ch d r l other, (chanOf s ch).seam.diagnosing = d :: r →
    Does (.selfDiagnosisComplete ch [] (l :: other)) s (fun t => (chanOf t ch).seam.diagnosing = r ∧
      (lseBehind (chanOf s ch) (chanOf s ch.twin) = [] → (chanOf t ch).boot.mode = (chanOf s ch).boot.mode))) ∧
  (∀ s ch d r, (chanOf s ch).seam.diagnosing = d :: r → lseBehind (chanOf s ch) (chanOf s ch.twin) = [] →
    lseBehind (chanOf s ch.twin) (chanOf s ch) = [] →
    Does (.selfDiagnosisComplete ch [] []) s (fun t =>
      zGet (chanOf t ch).ctr (od 0x2800 0x0D) = zGet (chanOf s ch).ctr (od 0x2800 0x0D) + 1 ∧
      ((chanOf s ch).seam.holdCtl = true → (chanOf t ch).boot.mode = (chanOf s ch).boot.mode ∧ (chanOf t ch).seam.diagnosing = r)))

/-- 07 R220, R222 to R224, R229 to R231, R235 to R239; 15 R461, R483: the accesses to the Host Window, its owner words, and the mailbox
response. That a response which finds the owner word changed is a protocol error is the model's choice (log entry 48). -/
def Obligations.host_window_accesses : Prop :=
  (∀ s p off len, FnReady s p → off + len ≤ areaSize (pathFn p) →
    Does (.hostWindowRead p off len none) s (fun t => (chanOf t (pathChan s p)).emitted = (atPath s p).emitted ++
      [.completion (pathFn p) 0 (winRead (atPath s p) (areaBase (pathFn p) + off) len)] ∧
      (chanOf t (pathChan s p)).host.window = (atPath s p).host.window)) ∧
  (∀ s p off len w, FnReady s p → off + len ≤ areaSize (pathFn p) → off / 8 ≤ w → w * 8 < off + len →
    (fnGet (atPath s p) (pathFn p)).hwstat = 0 → (atPath s p).host.hbusy = false →
    Does (.hostWindowRead p off len (some w)) s (fun t => let c := chanOf t (pathChan s p)
      c.host.hbusy = true ∧ c.host.hbusyEnd = (atPath s p).time.up + 1000 ∧ (fnGet c (pathFn p)).hwstat = 1 ∧
      (fnGet c (pathFn p)).hwcoll = BitVec.ofNat 32 ((areaBase (pathFn p) + 8 * w) / 8 * 8) ∧ c.host.window = (atPath s p).host.window)) ∧
  (∀ s p off data, FnReady s p → off + data.length ≤ areaSize (pathFn p) →
    Does (.hostWindowWrite p off data none) s (fun t => let c := chanOf t (pathChan s p)
      winRead c (areaBase (pathFn p) + off) data.length = data ∧
      ∀ a, (a < areaBase (pathFn p) + off ∨ areaBase (pathFn p) + off + data.length ≤ a) → winRead c a 1 = winRead (atPath s p) a 1)) ∧
  (∀ s p off data len hit, FnReady s p → areaSize (pathFn p) < off + data.length → areaSize (pathFn p) < off + len →
    Does (.hostWindowWrite p off data hit) s (fun t => (chanOf t (pathChan s p)).host.window = (atPath s p).host.window ∧
      (chanOf t (pathChan s p)).emitted = (atPath s p).emitted ++ [.unsupported (pathFn p)]) ∧
    Does (.hostWindowRead p off len hit) s (fun t => (chanOf t (pathChan s p)).emitted = (atPath s p).emitted ++ [.unsupported (pathFn p)])) ∧
  (∀ s p off size v hit, FnReady s p → size = 4 ∨ size = 8 → off % size = 0 → (off ≠ 0 ∨ size = 4) → off + size ≤ areaSize (pathFn p) →
    Does (.hostAtomicSwap p off size ⟨v, hit⟩) s (fun t => let c := chanOf t (pathChan s p); let a := areaBase (pathFn p) + off
      winRead c a size = leBytes size (v.toNat % 256 ^ size) ∧
      zGet c.ctr (od 0x3000 6) = zGet (atPath s p).ctr (od 0x3000 6) + 1 ∧
      zGet c.ctr (od 0x3000 5) = zGet (atPath s p).ctr (od 0x3000 5) + (if hit then 1 else 0) ∧
      c.emitted = (atPath s p).emitted ++ [.completion (pathFn p) 0 (leBytes size (leNat (winRead (atPath s p) a size)))] ∧
      ∀ b, (b < a ∨ a + size ≤ b) → winRead c b 1 = winRead (atPath s p) b 1)) ∧
  (∀ s p off size v hit, FnReady s p → size = 4 ∨ size = 8 → off % size = 0 → off + size ≤ areaSize (pathFn p) →
    Does (.hostAtomicFetchadd p off size ⟨v, hit⟩) s (fun t => let c := chanOf t (pathChan s p); let a := areaBase (pathFn p) + off
      winRead c a size = leBytes size ((leNat (winRead (atPath s p) a size) + v.toNat) % 256 ^ size) ∧
      c.emitted = (atPath s p).emitted ++ [.completion (pathFn p) 0 (leBytes size (leNat (winRead (atPath s p) a size)))] ∧
      ∀ b, (b < a ∨ a + size ≤ b) → winRead c b 1 = winRead (atPath s p) b 1)) ∧
  (∀ s p off size v hit, FnReady s p → size = 4 ∨ size = 8 → off % size ≠ 0 → off + size ≤ areaSize (pathFn p) →
    Does (.hostAtomicSwap p off size ⟨v, hit⟩) s (fun t => (chanOf t (pathChan s p)).host = (atPath s p).host ∧
      (chanOf t (pathChan s p)).emitted = (atPath s p).emitted ++ [.completerAbort (pathFn p)]) ∧
    Does (.hostAtomicFetchadd p off size ⟨v, hit⟩) s (fun t => (chanOf t (pathChan s p)).host = (atPath s p).host ∧
      (chanOf t (pathChan s p)).emitted = (atPath s p).emitted ++ [.completerAbort (pathFn p)])) ∧
  (∀ s p off size v hit, FnReady s p → (size ≠ 4 ∧ size ≠ 8) ∨ areaSize (pathFn p) < off + size →
    Does (.hostAtomicSwap p off size ⟨v, hit⟩) s (fun t => (chanOf t (pathChan s p)).host = (atPath s p).host ∧
      (chanOf t (pathChan s p)).emitted = (atPath s p).emitted ++ [.unsupported (pathFn p)]) ∧
    Does (.hostAtomicFetchadd p off size ⟨v, hit⟩) s (fun t => (chanOf t (pathChan s p)).host = (atPath s p).host ∧
      (chanOf t (pathChan s p)).emitted = (atPath s p).emitted ++ [.unsupported (pathFn p)])) ∧
  (∀ s p off size cmp v, FnReady s p →
    Does (.hostAtomicCas p off size cmp v) s (fun t => (chanOf t (pathChan s p)).host = (atPath s p).host ∧
      (chanOf t (pathChan s p)).emitted = (atPath s p).emitted ++ [.unsupported (pathFn p)])) ∧
  (∀ s p v hit, FnReady s p → runtimeUp (atPath s p) = true → ownerOf (readOwner (pathFn p) (atPath s p)) = 1 → ownerOf v.toNat = 2 →
    seqOf v.toNat = (seqOf (readOwner (pathFn p) (atPath s p)) + 1) % 65536 →
    Does (.hostAtomicSwap p 0 8 ⟨v, hit⟩) s (fun t => let c := chanOf t (pathChan s p)
      readOwner (pathFn p) c = v.toNat ∧
      (∃ m ∈ c.host.mail, m.fn = pathFn p ∧ m.seq = seqOf v.toNat ∧ m.op = leAt (winRead (atPath s p) (areaBase (pathFn p) + 8) 8) 0 2))) ∧
  (∀ s p v hit, FnReady s p → runtimeUp (atPath s p) = true → ownerOf (readOwner (pathFn p) (atPath s p)) ≠ 1 ∨
      (ownerOf v.toNat = 2 ∧ seqOf v.toNat ≠ (seqOf (readOwner (pathFn p) (atPath s p)) + 1) % 65536) →
    Does (.hostAtomicSwap p 0 8 ⟨v, hit⟩) s (fun t => let c := chanOf t (pathChan s p)
      readOwner (pathFn p) c = ownerWord 1 (seqOf v.toNat) 0 ∧ (∀ m ∈ c.host.mail, m.fn ≠ pathFn p) ∧
        zGet c.ctr (od 0x3000 0x0C) = zGet (atPath s p).ctr (od 0x3000 0x0C) + 1)) ∧
  (∀ s p v hit, FnReady s p → runtimeUp (atPath s p) = true → ownerOf (readOwner (pathFn p) (atPath s p)) = 1 → ownerOf v.toNat = 1 →
    Does (.hostAtomicSwap p 0 8 ⟨v, hit⟩) s (fun t => let c := chanOf t (pathChan s p)
      readOwner (pathFn p) c = v.toNat ∧ c.host.mail = (atPath s p).host.mail)) ∧
  (∀ s p m, PathReady s p → (atPath s p).host.mail.find? (fun m => m.fn == pathFn p && m.ready) = some m →
    (ownerOf (readOwner (pathFn p) (atPath s p)) ≠ 2 ∨ seqOf (readOwner (pathFn p) (atPath s p)) ≠ m.seq) →
    Does (.mailboxResponse p) s (fun t => let c := chanOf t (pathChan s p)
      readOwner (pathFn p) c = ownerWord 1 (seqOf (readOwner (pathFn p) (atPath s p))) 0 ∧ (∀ x ∈ c.host.mail, x.fn ≠ pathFn p) ∧
        zGet c.ctr (od 0x3000 0x0C) = zGet (atPath s p).ctr (od 0x3000 0x0C) + 1)) ∧
  (∀ s p m, PathReady s p → (atPath s p).host.mail.find? (fun m => m.fn == pathFn p && m.ready) = some m →
    ownerOf (readOwner (pathFn p) (atPath s p)) = 2 → seqOf (readOwner (pathFn p) (atPath s p)) = m.seq →
    Does (.mailboxResponse p) s (fun t => let c := chanOf t (pathChan s p)
      readOwner (pathFn p) c = ownerWord 1 m.seq (8 + m.body.length) ∧
      winRead c (areaBase (pathFn p) + 8) 8 = leBytes 2 m.op ++ leBytes 2 m.status ++ leBytes 4 m.tag.toNat ∧
      (∀ x ∈ c.host.mail, x.fn ≠ pathFn p) ∧ c.emitted = (atPath s p).emitted ++ [.msix (pathFn p) 0])) ∧
  (∀ s ch, (chanOf s ch).host.hbusy = true →
    Does (.hbusyPulseEnd ch) s (fun t => (chanOf t ch).host.hbusy = false ∧
      (chanOf t ch).emitted = (chanOf s ch).emitted ++ [.hbusy false] ∧ onlyChan ch s t))

/-- 15 R453, R455 to R460, R464, R483; 22 R640: the registers of BAR0. -/
def Obligations.bar0_registers : Prop :=
  (∀ s p mask, FnReady s p → Does (.hwstatW1c p mask false) s (fun t =>
    (fnGet (chanOf t (pathChan s p)) (pathFn p)).hwstat = (fnGet (atPath s p) (pathFn p)).hwstat &&& ~~~(mask &&& 3))) ∧
  (∀ s p mask, FnReady s p → Does (.hwstatW1c p mask true) s (fun t =>
    (fnGet (chanOf t (pathChan s p)) (pathFn p)).hwstat = (fnGet (atPath s p) (pathFn p)).hwstat)) ∧
  (∀ s mask, FnReady s .pf0 → mask.getLsbD 3 = true → Does (.fstatW1c .pf0 mask) s (fun t =>
    t.bridge.takeover = s.bridge.takeover &&& ~~~1#65)) ∧
  (∀ s n mask, FnReady s (.vf n) → mask.getLsbD 3 = true → Does (.fstatW1c (.vf n) mask) s (fun t =>
    t.bridge.takeover.getLsbD n = false ∧ ∀ k, k ≠ n → t.bridge.takeover.getLsbD k = s.bridge.takeover.getLsbD k)) ∧
  (∀ s p g mask raised, FnReady s p → g < 4 → Does (.evpendW1c p g mask raised) s (fun t =>
    zGet (fnGet (chanOf t (pathChan s p)) (pathFn p)).pend g = zGet (fnGet (atPath s p) (pathFn p)).pend g &&& ~~~(mask &&& ~~~raised))) ∧
  (∀ s p mask, FnReady s p → pathFn p < 65 → Does (.ringstatW1c p mask) s (fun t =>
    let x := ringGet (atPath s p) (pathFn p); let y := ringGet (chanOf t (pathChan s p)) (pathFn p)
    y.tailErr = (x.tailErr && !mask.getLsbD 4) ∧ y.txDmaErr = (x.txDmaErr && !mask.getLsbD 3) ∧ y.resumed = (x.resumed && !mask.getLsbD 0))) ∧
  (∀ s p g v, FnReady s p → g < 4 → Does (.registerWrite p (0x20 + 4 * g) 4 v) s (fun t =>
    zGet (fnGet (chanOf t (pathChan s p)) (pathFn p)).even g = v.setWidth 32 &&& evenMask (pathFn p) g)) ∧
  (∀ s p v, FnReady s p → pathFn p < 65 → (ringGet (atPath s p) (pathFn p)).txEn = false →
    Does (.registerWrite p 0x1000 8 v) s (fun t =>
      (ringGet (chanOf t (pathChan s p)) (pathFn p)).txBase = BitVec.ofNat 64 (v.toNat / 128 * 128))) ∧
  (∀ s p v, FnReady s p → pathFn p < 65 → (ringGet (atPath s p) (pathFn p)).txEn = true →
    Does (.registerWrite p 0x1000 8 v) s (fun t =>
      (ringGet (chanOf t (pathChan s p)) (pathFn p)).txBase = (ringGet (atPath s p) (pathFn p)).txBase)) ∧
  (∀ s p, FnReady s p → pathFn p < 65 → (pathFn p = 0 ∨ kHas (atPath s p).sleeves (pathFn p - 1) = true) →
    Does (.txEnable p) s (fun t => (ringGet (chanOf t (pathChan s p)) (pathFn p)).txEn = true ∧
      (ringGet (chanOf t (pathChan s p)) (pathFn p)).rxEn = (ringGet (atPath s p) (pathFn p)).rxEn) ∧
    Does (.rxEnable p) s (fun t => (ringGet (chanOf t (pathChan s p)) (pathFn p)).rxEn = true ∧
      (ringGet (chanOf t (pathChan s p)) (pathFn p)).txEn = (ringGet (atPath s p) (pathFn p)).txEn)) ∧
  (∀ s p, FnReady s p → pathFn p < 65 →
    Does (.txDisable p) s (fun t => (ringGet (chanOf t (pathChan s p)) (pathFn p)).txEn = false ∧
      (ringGet (chanOf t (pathChan s p)) (pathFn p)).rxEn = (ringGet (atPath s p) (pathFn p)).rxEn) ∧
    Does (.rxDisable p) s (fun t => (ringGet (chanOf t (pathChan s p)) (pathFn p)).rxEn = false ∧
      (ringGet (chanOf t (pathChan s p)) (pathFn p)).txEn = (ringGet (atPath s p) (pathFn p)).txEn)) ∧
  (∀ s n, FnReady s (.vf n) → pathFn (.vf n) < 65 → kHas (atPath s (.vf n)).sleeves (n - 1) = false →
    (ringGet (atPath s (.vf n)) n).txEn = false → (ringGet (atPath s (.vf n)) n).rxEn = false →
    Does (.txEnable (.vf n)) s (fun t => (ringGet (chanOf t (pathChan s (.vf n))) n).txEn = false) ∧
    Does (.rxEnable (.vf n)) s (fun t => (ringGet (chanOf t (pathChan s (.vf n))) n).rxEn = false)) ∧
  (∀ s p v, FnReady s p → pathFn p < 65 → v < 4294967296 → Does (.txtailWrite p v) s (fun t =>
    let x := ringGet (atPath s p) (pathFn p); let y := ringGet (chanOf t (pathChan s p)) (pathFn p)
    if v < x.txSize then y.txTail = v ∧ y.tailErr = x.tailErr else y.txTail = x.txTail ∧ y.tailErr = true)) ∧
  (∀ s p v, FnReady s p → pathFn p < 65 → v < 4294967296 → Does (.rxtailWrite p v) s (fun t =>
    let x := ringGet (atPath s p) (pathFn p); let y := ringGet (chanOf t (pathChan s p)) (pathFn p)
    if v < x.rxSize then y.rxTail = v ∧ y.tailErr = x.tailErr else y.rxTail = x.rxTail ∧ y.tailErr = true)) ∧
  (∀ s, PathReady s .pf0 → hostUp s.a = true → kHas s.a.host.rings 0 = true →
    Does (.functionLevelReset .pf0) s (fun t => t.bridge.vfEnable = false ∧ (ringGet t.a 0).txEn = false ∧ (ringGet t.a 0).rxEn = false)) ∧
  (∀ s n, PathReady s (.vf n) → hostUp s.a = true → kHas s.a.host.rings n = true →
    Does (.functionLevelReset (.vf n)) s (fun t => t.bridge = s.bridge ∧ (fnGet t.a n).even = [] ∧ (ringGet t.a n).txEn = false ∧
      (ringGet t.a n).rxEn = false))

/-- 01 R20; 15 R449, R450, R453: the link, PERST, the bridge's failure and VF Enable. -/
def Obligations.host_bridge_states : Prop :=
  (∀ s, Does .perstAsserted s (fun t => t.bridge.speed = 0 ∧ t.bridge.vfEnable = false ∧ t.bridge.numVfs = 0 ∧ t.bridge.held = [] ∧
    t.a = s.a ∧ t.b = s.b ∧ t.supply = s.supply)) ∧
  (∀ s speed width, (s.supply.st = .normal ∨ s.supply.st = .warning) → s.bridge.failed = false → 1 ≤ speed → speed ≤ 4 →
    (width = 1 ∨ width = 2 ∨ width = 4) →
    Does (.linkTrained speed width) s (fun t => t.bridge = { s.bridge with perst := false, speed := speed, width := width } ∧ t.a = s.a ∧ t.b = s.b)) ∧
  (∀ s, s.bridge.failed = true → ∀ speed width, Does (.linkTrained speed width) s (fun t => t = s)) ∧
  (∀ s, Does .hostBridgeFailure s (fun t => t.bridge.failed = true ∧ t.bridge.speed = 0 ∧ t.bridge.held = [] ∧ t.a = s.a ∧ t.b = s.b)) ∧
  (∀ s n, bridgeCarries s .pf0 = true → s.bridge.vfEnable = false → 1 ≤ n → n ≤ 64 →
    Does (.vfEnableWrite true n) s (fun t => t.bridge = { s.bridge with vfEnable := true, numVfs := n } ∧ t.a = s.a ∧ t.b = s.b)) ∧
  (∀ s n, bridgeCarries s .pf0 = true → s.bridge.vfEnable = true →
    Does (.vfEnableWrite true n) s (fun t => t = s)) ∧
  (∀ s n, bridgeCarries s .pf0 = true → hostUp s.a = true →
    Does (.vfEnableWrite false n) s (fun t => t.bridge.vfEnable = false ∧
      ∀ k, 1 ≤ k → k ≤ 64 → kHas s.a.host.rings k = true → (ringGet t.a k).txEn = false ∧ (ringGet t.a k).rxEn = false))

/-- 15 R464 to R483: sends, received frames and the vectors of a ring. -/
def Obligations.host_rings : Prop :=
  (∀ s d, FnReady s .pf0 → runtimeUp (atPath s .pf0) = true → txTurn (atPath s .pf0) = some 0 → d.readOk = true →
    malformed (ringGet (atPath s .pf0) 0).maxFrame d.descs = true →
    Does (.hostTxFrame .pf0 d) s (fun t => let x := ringGet (atPath s .pf0) 0; let y := ringGet (chanOf t (pathChan s .pf0)) 0
      y.txHead = (x.txHead + max 1 d.descs.length) % max x.txSize 1 ∧ y.txIntPend = true ∧
        kHas (chanOf t (pathChan s .pf0)).host.sends 0 = false)) ∧
  (∀ s d, FnReady s .pf0 → runtimeUp (atPath s .pf0) = true → txTurn (atPath s .pf0) = some 0 → d.readOk = false →
    Does (.hostTxFrame .pf0 d) s (fun t => let x := ringGet (atPath s .pf0) 0; let y := ringGet (chanOf t (pathChan s .pf0)) 0
      y.txHead = (x.txHead + max 1 d.descs.length) % max x.txSize 1 ∧ y.txDmaErr = true)) ∧
  (∀ s d, FnReady s .pf0 → runtimeUp (atPath s .pf0) = true → txTurn (atPath s .pf0) = some 0 → d.readOk = true →
    malformed (ringGet (atPath s .pf0) 0).maxFrame d.descs = false → frameCount d.descs = 1 →
    port15Room (commitsEnded (atPath s .pf0)) (sendFrame d.descs 0 d.frame) = true → etherBarred (etherOf (sendFrame d.descs 0 d.frame)) = false → kHas (atPath s .pf0).host.sends 0 = false →
    Does (.hostTxFrame .pf0 d) s (fun t => let x := ringGet (atPath s .pf0) 0; let y := ringGet (chanOf t (pathChan s .pf0)) 0
      y.txHead = (x.txHead + max 1 d.descs.length) % max x.txSize 1 ∧ y.txIntPend = true ∧
        kGet t.bridge.wbTx 0 = some (wbWord y.txHead y.txSeq) ∧ y.txSeq = x.txSeq + 1)) ∧
  (∀ s d, FnReady s .pf0 → runtimeUp (atPath s .pf0) = true → txTurn (atPath s .pf0) = some 0 → d.readOk = true →
    malformed (ringGet (atPath s .pf0) 0).maxFrame d.descs = false → port15Room (commitsEnded (atPath s .pf0)) (sendFrame d.descs 0 d.frame) = false →
    etherBarred (etherOf (sendFrame d.descs 0 d.frame)) = false → kHas (atPath s .pf0).host.sends 0 = false →
    Does (.hostTxFrame .pf0 d) s (fun t => ringGet (chanOf t (pathChan s .pf0)) 0 = ringGet (atPath s .pf0) 0 ∧
      zGet (chanOf t (pathChan s .pf0)).ctr (od 0x2A00 0x0D) = zGet (atPath s .pf0).ctr (od 0x2A00 0x0D) + 1)) ∧
  (∀ s n d x k, FnReady s (.vf n) → runtimeUp (atPath s (.vf n)) = true → txTurn (atPath s (.vf n)) = some n → d.readOk = true → 0 < n →
    malformed (ringGet (atPath s (.vf n)) n).maxFrame d.descs = false → kGet (atPath s (.vf n)).sleeves (n - 1) = some x →
    kHas (atPath s (.vf n)).host.sends n = false → spoofCause x.cfg (sendFrame d.descs 0 d.frame) = some k →
    Does (.hostTxFrame (.vf n) d) s (fun t => zGet (chanOf t (pathChan s (.vf n))).ctr (od (0x9600 + n) 3) =
      zGet (atPath s (.vf n)).ctr (od (0x9600 + n) 3) + 1 ∧ (chanOf t (pathChan s (.vf n))).sw = (atPath s (.vf n)).sw)) ∧
  (∀ s n d x, FnReady s (.vf n) → runtimeUp (atPath s (.vf n)) = true → txTurn (atPath s (.vf n)) = some n → d.readOk = true → 0 < n →
    malformed (ringGet (atPath s (.vf n)) n).maxFrame d.descs = false → kGet (atPath s (.vf n)).sleeves (n - 1) = some x →
    kHas (atPath s (.vf n)).host.sends n = false → spoofCause x.cfg (sendFrame d.descs 0 d.frame) = none → frameCount d.descs = 1 →
    port15Room (commitsEnded (atPath s (.vf n))) (sendFrame d.descs 0 d.frame) = true →
    Does (.hostTxFrame (.vf n) d) s (fun t => let x := ringGet (atPath s (.vf n)) n; let y := ringGet (chanOf t (pathChan s (.vf n))) n
      y.txHead = (x.txHead + max 1 d.descs.length) % max x.txSize 1 ∧ y.txIntPend = true)) ∧
  (∀ s ch r d f, s.bridge.failed = false → s.bridge.speed ≠ 0 → (chanOf s ch).sw.hostIn.find? (fun x => x.1 == r) = some (r, f) →
    (ringGet (chanOf s ch) r).rxEn = true →
    (r = 0 ∨ ∃ x, kGet (chanOf s ch).sleeves (r - 1) = some x ∧ etherPermitted x.cfg (etherOf f.frame) = true) → (ringGet (chanOf s ch) r).rxBuf ≠ 0 →
    cdiv (f.frame.len - 4) (ringGet (chanOf s ch) r).rxBuf ≤ rxFree (ringGet (chanOf s ch) r) → d.readOk = true →
    Does (.hostRxFrame ch r d) s (fun t => let x := ringGet (chanOf s ch) r; let y := ringGet (chanOf t ch) r
      y.rxHead = (x.rxHead + cdiv (f.frame.len - 4) x.rxBuf) % max x.rxSize 1 ∧ y.rxIntPend = true ∧
        (chanOf t ch).sw.hostIn = (chanOf s ch).sw.hostIn.erase (r, f) ∧ chanOf t ch.twin = chanOf s ch.twin)) ∧
  (∀ s ch r d f, s.bridge.failed = false → s.bridge.speed ≠ 0 → (chanOf s ch).sw.hostIn.find? (fun x => x.1 == r) = some (r, f) →
    (ringGet (chanOf s ch) r).rxEn = false →
    Does (.hostRxFrame ch r d) s (fun t => ringGet (chanOf t ch) r = ringGet (chanOf s ch) r ∧
      (chanOf t ch).sw.hostIn = (chanOf s ch).sw.hostIn.erase (r, f))) ∧
  (∀ s, FnReady s .pf0 → (ringGet (atPath s .pf0) 0).txIntPend = true →
    Does (.ringInterrupt .pf0 false) s (fun t => (ringGet (chanOf t (pathChan s .pf0)) 0).txIntPend = false ∧
      (chanOf t (pathChan s .pf0)).emitted = (atPath s .pf0).emitted ++ [.msix 0 1])) ∧
  (∀ s n, FnReady s (.vf n) → (ringGet (atPath s (.vf n)) n).rxIntPend = true →
    Does (.ringInterrupt (.vf n) true) s (fun t => (ringGet (chanOf t (pathChan s (.vf n))) n).rxIntPend = false ∧
      (chanOf t (pathChan s (.vf n))).emitted = (atPath s (.vf n)).emitted ++ [.msix n 2]))

/-- 14 R422, R430; 15 R481: a frame at a front port is counted, and goes into the fabric where it is good and of a permitted length; a
PAUSE frame goes no further. -/
def Obligations.frames_at_front_ports : Prop :=
  (∀ s ch p f ago frags, (chanOf s ch).boot.powered = true → 2 ≤ (chanOf s ch).boot.phase → (chanOf s ch).boot.phase ≠ 16 → 1 ≤ p → p ≤ 12 →
    linkUp (chanOf s ch) p = true → (injGet (chanOf s ch) (p - 1)).armed = false → f.good = true → f.len ≤ (portCfg (chanOf s ch) p).maxFrame →
    (∀ q, f.body ≠ .pause q) →
    Does (.frameReceived ch p f ⟨ago, frags, []⟩) s (fun t => onlyChan ch s t ∧
      chanOf t ch = fabricIn p (stampNow (chanOf s ch) - ago * 65536) f
        (bump (0x9200 + p) 2 (bumpN (0x9200 + p) 0x0B frags (commitsEnded (chanOf s ch)))))) ∧
  (∀ s ch p f ago frags, (chanOf s ch).boot.powered = true → 2 ≤ (chanOf s ch).boot.phase → (chanOf s ch).boot.phase ≠ 16 → 1 ≤ p → p ≤ 12 →
    linkUp (chanOf s ch) p = true → (injGet (chanOf s ch) (p - 1)).armed = false → f.good = false →
    Does (.frameReceived ch p f ⟨ago, frags, []⟩) s (fun t => onlyChan ch s t ∧ (chanOf t ch).ingest = (chanOf s ch).ingest ∧
      (chanOf t ch).sw.ports = (chanOf s ch).sw.ports ∧
      zGet (chanOf t ch).ctr (od (0x9200 + p) 4) = zGet (chanOf s ch).ctr (od (0x9200 + p) 4) + 1)) ∧
  (∀ s ch p f ago frags q, (chanOf s ch).boot.powered = true → 2 ≤ (chanOf s ch).boot.phase → (chanOf s ch).boot.phase ≠ 16 → 1 ≤ p → p ≤ 12 →
    linkUp (chanOf s ch) p = true → (injGet (chanOf s ch) (p - 1)).armed = false → f.good = true → f.len ≤ (portCfg (chanOf s ch) p).maxFrame →
    f.body = .pause q →
    Does (.frameReceived ch p f ⟨ago, frags, []⟩) s (fun t => onlyChan ch s t ∧ (chanOf t ch).sw = (chanOf s ch).sw ∧
      zGet (chanOf t ch).ctr (od (0x9200 + p) 2) = zGet (chanOf s ch).ctr (od (0x9200 + p) 2) + 1)) ∧
  (∀ s ch p f ago frags, linkUp (chanOf s ch) p = false →
    Does (.frameReceived ch p f ⟨ago, frags, []⟩) s (fun t => chanOf t ch = commitsEnded (chanOf s ch))) ∧
  (∀ c p ts f, p ≤ 12 → 1 ≤ p → (match kGet c.sw.cfg.vlans (vidOf c p f) with | some v => v.1 | none => 0).testBit (p - 1) = false →
    (fabricIn p ts f c).sw.ports = c.sw.ports ∧ (fabricIn p ts f c).ingest = c.ingest ∧
      zGet (fabricIn p ts f c).ctr (od 0x2900 8) = zGet c.ctr (od 0x2900 8) + 1)

/-- 14 R419, R432, R441; 10 R322, R323; 15 R482: what a port sends next, PAUSE, and the link. -/
def Obligations.switch_egress_and_links : Prop :=
  (∀ s ch p f rest, p ∈ queuedPorts → p ≠ 15 → linkUp (chanOf s ch) p = true → (chanOf s ch).sw.cfg.voq = false →
    queueOf (portGet (chanOf s ch) p) 7 = f :: rest →
    Does (.egressFrameStart ch p) s (fun t => (portGet (chanOf t ch) p).tx = some (7, f) ∧
      queueOf (portGet (chanOf t ch) p) 7 = rest ∧ onlyChan ch s t)) ∧
  (∀ s ch p f rest, p ∈ queuedPorts → p ≠ 15 → linkUp (chanOf s ch) p = true → (chanOf s ch).sw.cfg.voq = false →
    queueOf (portGet (chanOf s ch) p) 7 = [] → (portGet (chanOf s ch) p).preempted = none →
    queueOf (portGet (chanOf s ch) p) 6 = f :: rest →
    Does (.egressFrameStart ch p) s (fun t => (portGet (chanOf t ch) p).tx = some (6, f) ∧
      queueOf (portGet (chanOf t ch) p) 6 = rest ∧ onlyChan ch s t)) ∧
  (∀ s ch p, p ∈ queuedPorts → p ≠ 15 → linkUp (chanOf s ch) p = true → queueOf (portGet (chanOf s ch) p) 7 = [] →
    (portGet (chanOf s ch) p).preempted = none → queueOf (portGet (chanOf s ch) p) 6 = [] →
    (chanOf s ch).time.up < (portGet (chanOf s ch) p).pausedTo →
    Does (.egressFrameStart ch p) s (fun t => portGet (chanOf t ch) p = { portGet (chanOf s ch) p with tx := none } ∧
      (chanOf t ch).emitted = (chanOf s ch).emitted)) ∧
  (∀ s ch b, (chanOf s ch).pub.waiting = [b] → (chanOf s ch).pub.cuff = false → (chanOf s ch).seam.holdCtl = false →
    (chanOf s ch).seam.presence = 2 → (chanOf s ch).seam.store.length < 4096 →
    Does (.publisherHandover ch) s (fun t => (chanOf t ch).pub.waiting = [] ∧ (chanOf t ch).seam.store = (chanOf s ch).seam.store ++ [b] ∧
      (chanOf t ch).sw = (chanOf s ch).sw ∧ onlyChan ch s t)) ∧
  (∀ s ch b, (chanOf s ch).pub.waiting = [b] → (chanOf s ch).pub.cuff = true → holdsForFinal (chanOf s ch) = true →
    Does (.publisherHandover ch) s (fun t => chanOf t ch = commitsEnded (chanOf s ch))) ∧
  (∀ s ch b, (chanOf s ch).pub.waiting = [b] → (chanOf s ch).pub.cuff = true → holdsForFinal (chanOf s ch) = false →
    Does (.publisherHandover ch) s (fun t =>
      let c1 := { commitsEnded (chanOf s ch) with pub := { (chanOf s ch).pub with waiting := [] } }
      let k := ingressClass 14 (!b.protection) b.frame c1
      if (if (chanOf s ch).sw.cfg.voq then partitionRoom k.2 14 (cellsOf b.frame * (route k.2 14 b.frame).length)
          else (route k.2 14 b.frame).all (fun o => admits k.2 o k.1.1 (cellsOf b.frame))) then (chanOf t ch).pub.waiting = []
      else (chanOf t ch).pub.waiting = [b] ∧
        zGet (chanOf t ch).ctr (od 0x2900 9) = zGet (chanOf s ch).ctr (od 0x2900 9) + 1)) ∧
  (∀ s ch p quanta, 1 ≤ p → p ≤ 12 → linkUp (chanOf s ch) p = true → entryNat (chanOf s ch) 0x2A20 p (if p ≤ 8 then 0 else 1) = 1 →
    Does (.pauseReceived ch p quanta) s (fun t => (portGet (chanOf t ch) p).pausedAt = (chanOf s ch).time.up ∧
      (portGet (chanOf t ch) p).pausedTo = (chanOf s ch).time.up + (if isTenGig p then quanta * 512 / 10 else quanta * 512) ∧
      (portGet (chanOf t ch) p).queues = (portGet (chanOf s ch) p).queues ∧ onlyChan ch s t)) ∧
  (∀ s ch p quanta, 1 ≤ p → p ≤ 12 → linkUp (chanOf s ch) p = true → entryNat (chanOf s ch) 0x2A20 p (if p ≤ 8 then 0 else 1) ≠ 1 →
    Does (.pauseReceived ch p quanta) s (fun t => (chanOf t ch).sw = (chanOf s ch).sw ∧
      zGet (chanOf t ch).ctr (od 0x2A21 p) = zGet (chanOf s ch).ctr (od 0x2A21 p) + 1)) ∧
  (∀ s ch p, (portGet (chanOf s ch) p).pausedAt < (portGet (chanOf s ch) p).pausedTo →
    Does (.pauseExpiry ch p) s (fun t => (portGet (chanOf t ch) p).pausedTo = 0 ∧ onlyChan ch s t)) ∧
  (∀ s ch p, 1 ≤ p → p ≤ 12 → (portGet (chanOf s ch) p).up = true →
    Does (.portDown ch p) s (fun t => (portGet (chanOf t ch) p).up = false ∧ (portGet (chanOf t ch) p).queues = [] ∧
      (portGet (chanOf t ch) p).tx = none ∧ onlyChan ch s t)) ∧
  (∀ s ch p, 1 ≤ p → p ≤ 12 → (chanOf s ch).boot.powered = true → (portGet (chanOf s ch) p).up = false →
    Does (.portUp ch p) s (fun t => portGet (chanOf t ch) p =
      { portGet (chanOf s ch) p with up := true, preempt := if preemptOn (chanOf s ch) p then 1 else 0 } ∧ onlyChan ch s t)) ∧
  (∀ s ch p ok, (portGet (chanOf s ch) p).preempt = 1 →
    Does (.preemptionVerifyComplete ch p ok) s (fun t => (portGet (chanOf t ch) p).preempt = (if ok then 2 else 3) ∧ onlyChan ch s t))

/-- 14 R427, R438, R440: supervision frames, and the entries that age out of the switch's tables. -/
def Obligations.switch_tables : Prop :=
  (∀ s ch g r, kGet (chanOf s ch).sw.cfg.groups g = some r →
    Does (.lifeCheckInterval ch g) s (fun t => (groupSt (chanOf t ch) g).supSeq = ((groupSt (chanOf s ch) g).supSeq + 1) % 65536 ∧
      (groupSt (chanOf t ch) g).nodes = (groupSt (chanOf s ch) g).nodes ∧ (groupSt (chanOf t ch) g).lifeAt = (chanOf t ch).time.up ∧
      (groupSt (chanOf s ch) g).lifeAt + (if r.lifeMs = 0 then 2000 else r.lifeMs) * 1000000 ≤ (chanOf t ch).time.up ∧ onlyChan ch s t)) ∧
  (∀ s ch g r mac n, kGet (chanOf s ch).sw.cfg.groups g = some r → n ∈ (groupSt (chanOf s ch) g).nodes → n.1 = mac →
    Does (.nodeForget ch g mac) s (fun t => (groupSt (chanOf t ch) g).nodes = (groupSt (chanOf s ch) g).nodes.filter (fun n => n.1 != mac) ∧
      onlyChan ch s t)) ∧
  (∀ s ch g r mac seq e, kGet (chanOf s ch).sw.cfg.groups g = some r → (groupSt (chanOf s ch) g).delivered = [e] →
    (groupSt (chanOf s ch) g).ringSent = [] → e.mac = mac → e.seq = seq →
    Does (.entryForget ch g mac seq) s (fun t => (groupSt (chanOf t ch) g).delivered = [] ∧
      e.at_ + forgetNs r ≤ (chanOf t ch).time.up ∧ onlyChan ch s t)) ∧
  (∀ s ch mac vid l, (chanOf s ch).sw.learned.find? (fun l => l.mac == mac && l.vid == vid) = some l →
    Does (.learnedEntryAgeOut ch mac vid) s (fun t => (chanOf t ch).sw.learned = (chanOf s ch).sw.learned.erase l ∧ onlyChan ch s t))

/-- 03 R86, R87, R97 to R99, R103, R107, R114: how a stream takes its samples, misses them, and loses its standing. -/
def Obligations.sampled_value_ingest : Prop :=
  (∀ s ch f rest x a k d app, (chanOf s ch).ingest.f96 = f :: rest → kGet (chanOf s ch).ingest.streams f.stream = some x → x.st ≠ .inactive →
    f.frame.body = .sv app false true [a] → f.part = 0 → f.held = false → f.anyWritten = false →
    frameCause (chanOf s ch) x false true f.frame.src [a] = none → asduFate (chanOf s ch) f.stream x f.arrival a = .write k d → k = openSlot x →
    Does (.ingestFrameService ⟨ch, []⟩) s (fun t => (chanOf t ch).ingest.f96 = rest ∧
      ∃ y, kGet (chanOf t ch).ingest.streams f.stream = some y ∧ y.next = k + 1 ∧ y.missRun = 0 ∧ y.breakPending = false ∧
        (x.st = .valid → y.st = .valid) ∧ (x.st = .returning → y.st = if returnCount x ≤ x.retRun + 1 then .valid else .returning) ∧ (x.st = .waiting ∨ x.st = .lost → y.st = .returning ∧ y.retRun = 1) ∧
        ∃ z ∈ y.ring, z.n = k ∧ z.missing = false ∧ z.histBreak = x.breakPending ∧ z.delay = d)) ∧
  (∀ s ch f rest x a app sim, (chanOf s ch).ingest.f96 = f :: rest → kGet (chanOf s ch).ingest.streams f.stream = some x →
    f.frame.body = .sv app sim true [a] → f.part = 0 → f.held = false → (chanOf s ch).time.firstLocked = false →
    Does (.ingestFrameService ⟨ch, []⟩) s (fun t => (chanOf t ch).ingest.f96 = rest ∧ kGet (chanOf t ch).ingest.streams f.stream = some x ∧
      zGet (chanOf t ch).ctr (od (stIndex f.stream) 0x10) = zGet (chanOf s ch).ctr (od (stIndex f.stream) 0x10) + 1)) ∧
  (∀ s ch n x, kGet (chanOf s ch).ingest.streams n = some x → x.st = .valid → x.closed = [] → x.missRun + 1 < lossCount x →
    Does (.slotCloseMissing ch n) s (fun t => ∃ y, kGet (chanOf t ch).ingest.streams n = some y ∧ y.st = .valid ∧
      y.missRun = x.missRun + 1 ∧ openSlot y = openSlot x + 1)) ∧
  (∀ s ch n x, kGet (chanOf s ch).ingest.streams n = some x → x.st = .valid → x.closed = [] → lossCount x ≤ x.missRun + 1 →
    Does (.slotCloseMissing ch n) s (fun t => ∃ y, kGet (chanOf t ch).ingest.streams n = some y ∧ y.st = .lost ∧
      y.missRun = 0 ∧ y.breakPending = true ∧ openSlot y = openSlot x + 1)) ∧
  (∀ s ch n x, kGet (chanOf s ch).ingest.streams n = some x → x.st = .returning → x.closed = [] →
    Does (.slotCloseMissing ch n) s (fun t => ∃ y, kGet (chanOf t ch).ingest.streams n = some y ∧ y.st = .lost ∧ y.retRun = 0)) ∧
  (∀ s ch n x k b, kGet (chanOf s ch).ingest.streams n = some x → x.closed = [(k, b)] →
    slotRoom (chanOf s ch) n k x = true →
    Does (.heldSlotWrite ch n) s (fun t => ∃ y, kGet (chanOf t ch).ingest.streams n = some y ∧ y.closed = [] ∧ y.next = k + 1 ∧
      ∃ tok, { missingSlot x k b with tok := tok } ∈ y.ring)) ∧
  (∀ s ch n x a l r, kGet (chanOf s ch).ingest.streams n = some x → x.pend = some (a, l, r) → (a ≠ x.allowUs ∨ l ≠ x.loss ∨ r ≠ x.ret) →
    Does (.subscriptionChangeApply ch n) s (fun t => ∃ y, kGet (chanOf t ch).ingest.streams n = some y ∧ y.allowUs = a ∧ y.loss = l ∧ y.ret = r ∧
      y.st = .waiting ∧ y.breakPending = true)) ∧
  (∀ s ch n x a l r, kGet (chanOf s ch).ingest.streams n = some x → x.pend = some (a, l, r) → a = x.allowUs → l = x.loss → r = x.ret →
    Does (.subscriptionChangeApply ch n) s (fun t => ∃ y, kGet (chanOf t ch).ingest.streams n = some y ∧ y.st = x.st ∧
      y.breakPending = x.breakPending ∧ y.allowUs = a ∧ y.loss = l ∧ y.ret = r))

/-- 04 R130 to R138; 05 R165; 13 R410; 21 R618: conditioning paths, the writes that wait for an instant, and the boundaries of the classes. -/
def Obligations.conditioning_and_boundaries : Prop :=
  (∀ s ch p x st z rest, kGet (chanOf s ch).paths p = some x → x.pend = none → kGet (chanOf s ch).ingest.streams x.cfg.stream = some st →
    slotsLeft st x = z :: rest → (engineNext (commitsEnded (chanOf s ch))).map (fun j => j.2.2) = some p →
    Does (.pathCompute ch p) s (fun t => ∃ y, kGet (chanOf t ch).paths p = some y ∧ y.lastIn = some z.n ∧ y.cfg = x.cfg ∧
      (z.n % presetFactor x.cfg.preset st.cfg.rate ≠ 0 → y.ring = x.ring) ∧
      (z.n % presetFactor x.cfg.preset st.cfg.rate = 0 → (y.ring.getLast?).map (fun o => o.n) = some (z.n / presetFactor x.cfg.preset st.cfg.rate)))) ∧
  (∀ s ch p x r st, kGet (chanOf s ch).paths p = some x → x.pend = some r → kGet (chanOf s ch).ingest.streams x.cfg.stream = some st →
    changeDue st x = true → Does (.conditioningChangeApply ch p) s (fun t => ∃ y, kGet (chanOf t ch).paths p = some y ∧ y.cfg = r ∧
      ({ r with satEvent := x.cfg.satEvent } ≠ x.cfg → r.preset ≠ 0 → y.breakPending = true))) ∧
  (∀ s ch i sub w, (chanOf s ch).dict.pendingW = [w] → w.key = od i sub →
    Does (.hostWriteEffect ch i sub) s (fun t => (chanOf t ch).dict.pendingW = [] ∧
      kGet (chanOf t ch).dict.overlay (od i sub) = some w.data ∧ onlyChan ch s t)) ∧
  (∀ s ch cls, counterRuns (chanOf s ch) = true → cls ≤ 4 → kGet (chanOf s ch).time.lastBoundary cls = none →
    Does (.sampleBoundary ch cls) s (fun t => kGet (chanOf t ch).time.lastBoundary cls =
      some (numberAt (nth boundaryRates cls 1000) (nowNs (chanOf s ch) - 1) + 1) ∧ (cls ≠ 4 → (chanOf t ch).graphs = (chanOf s ch).graphs) ∧ onlyChan ch s t)) ∧
  (∀ s ch cls b, counterRuns (chanOf s ch) = true → cls ≤ 4 → kGet (chanOf s ch).time.lastBoundary cls = some b →
    Does (.sampleBoundary ch cls) s (fun t => ∃ n, kGet (chanOf t ch).time.lastBoundary cls = some n ∧ b < n))

/-- 05 R154; 06 R186 to R200: a firing is released, or fenced, or completed by the dispatcher itself. -/
def Obligations.firing_release : Prop :=
  (∀ s ch n i t g r x, ReleaseReady s ch n i t g r x → fenceFor (chanOf s ch) n i t = none → entryFree (chanOf s ch) (levelOf r) = true →
    (opRule r.op ≠ 0 ∨ (takenTokens (chanOf s ch) (trimAll g) i r t).any (fun k => tokBad k.2.2) = false) →
    Does (.firingRelease ch n i) s (fun u => instAt (chanOf u ch) n i =
      some { x with instant := t, release := (chanOf s ch).time.up, waited := false, fs := .ready })) ∧
  (∀ s ch n i t g r x, ReleaseReady s ch n i t g r x → fenceFor (chanOf s ch) n i t = none → entryFree (chanOf s ch) (levelOf r) = false →
    (opRule r.op ≠ 0 ∨ (takenTokens (chanOf s ch) (trimAll g) i r t).any (fun k => tokBad k.2.2) = false) →
    Does (.firingRelease ch n i) s (fun u => instAt (chanOf u ch) n i =
      some { x with instant := t, release := (chanOf s ch).time.up, waited := false, fs := .held })) ∧
  (∀ s ch n i t g r x f, ReleaseReady s ch n i t g r x → fenceFor (chanOf s ch) n i t = some f →
    Does (.firingRelease ch n i) s (fun u => (instAt (chanOf u ch) n i).map (fun y => (y.fs, y.fencedBy)) =
      some (.fenced, if f.freeze then 1 else 2))) ∧
  (∀ s ch n i t g r x, ReleaseReady s ch n i t g r x → fenceFor (chanOf s ch) n i t = none → opRule r.op = 0 →
    (takenTokens (chanOf s ch) (trimAll g) i r t).any (fun k => tokBad k.2.2) = true →
    Does (.firingRelease ch n i) s (fun u => (instAt (chanOf u ch) n i).map (fun y => (y.fs, y.done)) = some (.waiting, t))) ∧
  (∀ s ch l n i r x g, firstEntry (instsIn (chanOf s ch) (isHeld l)) = some (n, i, r, x) → kGet (chanOf s ch).graphs n = some g →
    inUse (chanOf s ch) l < nth (chanOf s ch).disp.resv l 0 → fenceFor (chanOf s ch) n i x.instant = none →
    Does (.heldEntryGranted ch l) s (fun u => instAt (chanOf u ch) n i = some { x with fs := .ready } ∧ onlyChan ch s u))

/-- 06 R187, R192 to R195, R204 to R210; 08 R270, R272; 10 R316: a tile's firings, a firing that never completes, ticks, and the entries of the delay list. -/
def Obligations.dispatch_and_ticks : Prop :=
  (∀ s ch k tl n i r x y g, kGet (chanOf s ch).disp.tiles k = some tl → tl.role ≠ .failed → tl.stack = [] →
    firstEntry (instsIn (chanOf s ch) (fun _ x => x.fs == .ready && x.tile == k)) = some (n, i, r, x) →
    kGet (chanOf s ch).graphs n = some g → kGet g.insts i = some y →
    Does (.firingDispatch ch k) s (fun u => instAt (chanOf u ch) n i = some { y with fs := .running, startAt := (chanOf s ch).time.up } ∧
      kGet (chanOf u ch).disp.tiles k = some { tl with stack := [(n, i)] } ∧ onlyChan ch s u)) ∧
  (∀ s ch k tl n i r x m j q, kGet (chanOf s ch).disp.tiles k = some tl → tl.role ≠ .failed →
    firstEntry (instsIn (chanOf s ch) (fun _ x => x.fs == .ready && x.tile == k)) = some (n, i, r, x) →
    topLevel (chanOf s ch) tl = some (q, m, j) → levelOf r < q → (m, j) ≠ (n, i) → topRuns (chanOf s ch) m j = true →
    Does (.firingDispatch ch k) s (fun u => (instAt (chanOf u ch) m j).map (fun y => y.fs) = some .preempted ∧
      zGet (chanOf u ch).ctr (od 0x2500 0x18) = zGet (chanOf s ch).ctr (od 0x2500 0x18) + 1 ∧
      kGet (chanOf u ch).disp.tiles k = some { tl with stack := (n, i) :: tl.stack })) ∧
  (∀ s ch k tl n i r x m j q, kGet (chanOf s ch).disp.tiles k = some tl → tl.role ≠ .failed →
    firstEntry (instsIn (chanOf s ch) (fun _ x => x.fs == .ready && x.tile == k)) = some (n, i, r, x) →
    topLevel (chanOf s ch) tl = some (q, m, j) → levelOf r < q → (m, j) ≠ (n, i) → topRuns (chanOf s ch) m j = false →
    Does (.firingDispatch ch k) s (fun u => instAt (chanOf u ch) m j = instAt (chanOf s ch) m j ∧
      zGet (chanOf u ch).ctr (od 0x2500 0x18) = zGet (chanOf s ch).ctr (od 0x2500 0x18) ∧
      kGet (chanOf u ch).disp.tiles k = some { tl with stack := (n, i) :: tl.stack })) ∧
  (∀ s ch k tl n i r x q, kGet (chanOf s ch).disp.tiles k = some tl →
    firstEntry (instsIn (chanOf s ch) (fun _ x => x.fs == .ready && x.tile == k)) = some (n, i, r, x) →
    topLevel (chanOf s ch) tl = some q → q.1 ≤ levelOf r →
    Does (.firingDispatch ch k) s (fun u => chanOf u ch = commitsEnded (chanOf s ch))) ∧
  (∀ s ch k tl l n i y, kGet (chanOf s ch).disp.tiles k = some tl → topLevel (chanOf s ch) tl = some (l, n, i) →
    instsIn (chanOf s ch) (fun r x => x.fs == .ready && x.tile == k && decide (levelOf r < l)) = [] →
    instAt (chanOf s ch) n i = some y → y.fs = .preempted →
    Does (.firingResume ch k) s (fun u => instAt (chanOf u ch) n i = some { y with fs := .running } ∧ onlyChan ch s u)) ∧
  (∀ s ch n i mis g r x tl k, kGet (chanOf s ch).graphs n = some g → instOf g i = some (r, x) → (x.fs = .running ∨ x.fs = .preempted) →
    kWf (chanOf s ch).disp.tiles = true → kGet (chanOf s ch).disp.tiles x.tile = some tl → tl.role = .placeable →
    firstSpare (chanOf s ch) = some k → placerQuiet s →
    Does (.firingNoCompletion ch n ⟨i, mis⟩) s (fun u => kGet (chanOf u ch).disp.tiles x.tile = some ⟨.failed, []⟩ ∧
      kGet (chanOf u ch).disp.tiles k = some ⟨.placeable, []⟩)) ∧
  (∀ s ch n i mis g r x tl, kGet (chanOf s ch).graphs n = some g → instOf g i = some (r, x) → (x.fs = .running ∨ x.fs = .preempted) →
    kGet (chanOf s ch).disp.tiles x.tile = some tl → tl.role = .placeable → (∀ y ∈ (chanOf s ch).disp.tiles, y.2.role ≠ .spare) →
    graphMode (chanOf s ch).boot.mode = true → placerQuiet s →
    Does (.firingNoCompletion ch n ⟨i, mis⟩) s (fun u => (chanOf u ch).boot.mode = .boot ∧ (chanOf u ch).boot.cause = 4)) ∧
  (∀ s ch, (chanOf s ch).boot.graphsRun = true → (chanOf s ch).disp.delay = [] →
    Does (.tick ch) s (fun t => (chanOf t ch).time.lastTick = max ((chanOf s ch).time.lastTick + 1) (nowNs (chanOf s ch) / 1000) ∧
      (chanOf t ch).disp = (chanOf s ch).disp ∧ onlyChan ch s t)) ∧
  (∀ s ch g p e, (chanOf s ch).disp.delay = [e] → e.kind = .retx g → kGet (chanOf s ch).pub.gpubs g = some p →
    tickCount (tickTo e.due (commitsEnded (chanOf s ch))) < 624 →
    Does (.retxDue ch g) s (fun t => (kGet (chanOf t ch).pub.gpubs g).map (fun q => (q.stNum, q.sqNum, q.interval)) =
        some (p.stNum, nextCount p.sqNum, min (p.interval * pubG p) p.t0) ∧
      (chanOf t ch).disp.delay = [⟨.retx g, e.due + min (p.interval * pubG p) p.t0, false⟩] ∧
      (chanOf t ch).pub.jobs.length = (chanOf s ch).pub.jobs.length + 1 ∧ onlyChan ch s t)) ∧
  (∀ s ch n i e g r x, (chanOf s ch).disp.delay = [e] → e.kind = .horizon n i → kGet (chanOf s ch).graphs n = some g → instOf g i = some (r, x) →
    x.fs ≠ .waiting → tickCount (tickTo e.due (commitsEnded (chanOf s ch))) < 625 → Does (.horizonDue ch n i) s (fun t => (chanOf t ch).disp.delay = [] ∧ (chanOf t ch).graphs = (chanOf s ch).graphs)) ∧
  (∀ s ch n i rest, (chanOf s ch).disp.parked = (n, i) :: rest →
    (instsIn (chanOf s ch) (fun _ x => x.fs == .waiting)).any (fun x => x.1 == n && x.2.1 == i) = false →
    Does (.delayFullRecheck ch) s (fun t => (chanOf t ch).disp.parked = rest ∧ (chanOf t ch).graphs = (chanOf s ch).graphs ∧
      zGet (chanOf t ch).ctr (od 0x2500 0x1C) = zGet (chanOf s ch).ctr (od 0x2500 0x1C))) ∧
  (∀ s ch n i rest, (chanOf s ch).disp.parked = (n, i) :: rest →
    (instsIn (chanOf s ch) (fun _ x => x.fs == .waiting)).any (fun x => x.1 == n && x.2.1 == i) = true →
    Does (.delayFullRecheck ch) s (fun t => onlyChan ch s t ∧
      zGet (chanOf t ch).ctr (od 0x2500 0x1C) = zGet (chanOf s ch).ctr (od 0x2500 0x1C) + 1))

/-- 05 R151, R155, R158; 09 R281 to R308: a running firing completes. The instance waits again with the state its operator computed, and the
newest token of each of its outputs is what the operator gave, or its initial value while the instance is not warm. -/
def Obligations.operators_complete : Prop :=
  OpDoes .opPhasor 0x0101 phasorOp ∧ OpDoes .opSeq 0x0102 seqOp ∧ OpDoes .opOci 0x0103 ociOp ∧
  OpDoes .opOct 0x0104 octOp ∧ OpDoes .opDir 0x0105 dirOp ∧ OpDoes .opDiff 0x0106 diffOp ∧
  OpDoes .opUvov 0x0107 uvovOp ∧ OpDoes .opFreq 0x0108 freqOp ∧ OpDoes .opRpw 0x0109 rpwOp ∧
  OpDoes .opSync 0x010A syncOp ∧ OpDoes .opBf 0x010B bfOp ∧ OpDoes .opTherm 0x010C thermOp ∧
  OpDoes .opIef 0x010D iefOp ∧ OpDoes .opDcoc 0x0201 dcocOp ∧ OpDoes .opDcdi 0x0202 dcdiOp ∧
  OpDoes .opDcsi 0x0203 dcsiOp ∧ OpDoes .opSum 0x0301 sumOp ∧ OpDoes .opScale 0x0302 scaleOp ∧
  OpDoes .opDelay 0x0303 delayOp ∧ OpDoes .opCmp 0x0304 cmpOp ∧ OpDoes .opHold 0x0305 holdOp ∧
  OpDoes .opTrip 0x0306 tripOp ∧ OpDoes .opPub 0x0307 pubOp ∧ OpDoes .opCap 0x0308 capOp ∧
  OpIdle .opPhasor 0x0101 ∧ OpIdle .opSeq 0x0102 ∧ OpIdle .opOci 0x0103 ∧ OpIdle .opOct 0x0104 ∧ OpIdle .opDir 0x0105 ∧
  OpIdle .opDiff 0x0106 ∧ OpIdle .opUvov 0x0107 ∧ OpIdle .opFreq 0x0108 ∧ OpIdle .opRpw 0x0109 ∧ OpIdle .opSync 0x010A ∧
  OpIdle .opBf 0x010B ∧ OpIdle .opTherm 0x010C ∧ OpIdle .opIef 0x010D ∧ OpIdle .opDcoc 0x0201 ∧ OpIdle .opDcdi 0x0202 ∧
  OpIdle .opDcsi 0x0203 ∧ OpIdle .opSum 0x0301 ∧ OpIdle .opScale 0x0302 ∧ OpIdle .opDelay 0x0303 ∧ OpIdle .opCmp 0x0304 ∧
  OpIdle .opHold 0x0305 ∧ OpIdle .opTrip 0x0306 ∧ OpIdle .opPub 0x0307 ∧ OpIdle .opCap 0x0308

/-- 10 R315 to R318, R320, R322, R325, R326: publications and subscriptions. -/
def Obligations.publication_and_subscription : Prop :=
  (∀ s ch g p, kGet (chanOf s ch).pub.gpubs g = some p → p.first = false → sleeveRuns (chanOf s ch) p.cfg.owner = true →
    (chanOf s ch).boot.graphsRun = true → (chanOf s ch).disp.delay = [] →
    Does (.firstGooseFrame ch g) s (fun t => (kGet (chanOf t ch).pub.gpubs g).map (fun q => (q.first, q.stNum, q.sqNum, q.t)) =
        some (true, nextCount p.stNum, 0, BitVec.ofNat 64 p.firstAt) ∧ p.firstAt ≤ nowNs (chanOf t ch) ∧
      (chanOf t ch).disp.delay = [⟨.retx g, ceilUs p.firstAt + pubT1 (chanOf s ch) p, false⟩] ∧
      (chanOf t ch).pub.jobs.length = (chanOf s ch).pub.jobs.length + 1 ∧ onlyChan ch s t)) ∧
  (∀ s ch j p, (chanOf s ch).pub.jobs = [j] → j.sv = false → kGet (chanOf s ch).pub.gpubs j.num = some p → p.cfg.alg = 0 →
    j.behaviour ≠ 5 → sleeveFrozen (chanOf s ch) p.cfg.owner = false → (chanOf s ch).pub.cuff = true →
    Does (.publisherFrameBuild ch) s (fun t => (chanOf t ch).pub.jobs = [] ∧
      ∃ b, (chanOf t ch).pub.waiting = (chanOf s ch).pub.waiting ++ [b] ∧ b.frame.body = .goose (gooseOf p j (chanOf s ch)) ∧
        b.frame.dst = p.cfg.dst ∧ b.frame.src = p.srcMac ∧ b.frame.sec = none ∧ b.stNum = j.build.stNum ∧ b.sqNum = j.build.sqNum)) ∧
  (∀ s ch j p, (chanOf s ch).pub.jobs = [j] → j.sv = false → kGet (chanOf s ch).pub.gpubs j.num = some p → p.cfg.alg = 0 →
    j.behaviour = 5 → Does (.publisherFrameBuild ch) s (fun t => (chanOf t ch).pub.jobs = [] ∧
      (chanOf t ch).pub.waiting = (chanOf s ch).pub.waiting ∧ (chanOf t ch).seam.store = (chanOf s ch).seam.store)) ∧
  (∀ s ch j p, (chanOf s ch).pub.jobs = [j] → j.sv = false → kGet (chanOf s ch).pub.gpubs j.num = some p → p.cfg.alg = 0 →
    j.behaviour ≠ 5 → sleeveFrozen (chanOf s ch) p.cfg.owner = false → (chanOf s ch).pub.cuff = false →
    Does (.publisherFrameBuild ch) s (fun t => (chanOf t ch).pub.jobs = [] ∧ (chanOf t ch).pub.waiting = (chanOf s ch).pub.waiting ∧
      zGet (chanOf t ch).ctr (od 0x2600 6) = zGet (chanOf s ch).ctr (od 0x2600 6) + 1)) ∧
  (∀ s ch g p, kGet (chanOf s ch).pub.spubs g = some p → (chanOf s ch).boot.graphsRun = true → p.cfg.rate ≠ 0 → p.sentUpTo ≠ 0 →
    Does (.svSendDeadline ch g) s (fun t => (kGet (chanOf t ch).pub.spubs g).map (fun q => q.sentUpTo) = some (p.sentUpTo + 1) ∧
      ∃ j, (chanOf t ch).pub.jobs = (chanOf s ch).pub.jobs ++ [j] ∧ j.sv = true ∧ j.smp = smpCntOf p.cfg.rate (p.sentUpTo + 1) ∧
        j.svVals = ((kGet p.written (p.sentUpTo + 1)).getD (p.cfg.writers.map (fun _ => none))).map (fun v => v.getD (0, qInvalid ||| qFailure)))) ∧
  (∀ s ch n m x, (chanOf s ch).ingest.goose = [(n, m)] → kGet (chanOf s ch).pub.subs n = some x → (chanOf s ch).boot.graphsRun = true →
    gooseFormatOk x.cfg m = true → m.confRev = x.cfg.confRev → gooseTestOk (chanOf s ch) x m = true → x.prev = [] → x.stNum = none →
    Does (.gooseMessageReceived ch n) s (fun t => (chanOf t ch).ingest.goose = [] ∧
      ∃ y, kGet (chanOf t ch).pub.subs n = some y ∧ y.st = .valid ∧ y.stNum = some m.stNum ∧ y.sqNum = m.sqNum ∧
        y.talAt = some (ceilUs (nowNs (chanOf s ch)) + m.talMs * 1000) ∧ (y.latest.map (fun l => (l.vals, l.valid)) = some (m.members.map gooseMember, true)))) ∧
  (∀ s ch n m x, (chanOf s ch).ingest.goose = [(n, m)] → kGet (chanOf s ch).pub.subs n = some x → (chanOf s ch).boot.graphsRun = true →
    (gooseFormatOk x.cfg m = false ∨ m.confRev ≠ x.cfg.confRev) → x.waiting = none →
    Does (.gooseMessageReceived ch n) s (fun t => (chanOf t ch).ingest.goose = [] ∧ kGet (chanOf t ch).pub.subs n = some x ∧
      zGet (chanOf t ch).ctr (od (0x8E00 + n) 7) = zGet (chanOf s ch).ctr (od (0x8E00 + n) 7) + 1)) ∧
  (∀ s ch n x t0, kGet (chanOf s ch).pub.subs n = some x → x.st = .valid → x.talAt = some t0 →
    Does (.talExpiry ch n) s (fun t => ∃ y, kGet (chanOf t ch).pub.subs n = some y ∧ y.st = .expired ∧ y.talAt = none ∧
      y.latest.map (fun l => (l.q, l.valid)) = some (qInvalid, false))) ∧
  (∀ s ch n x st g, kGet (chanOf s ch).pub.subs n = some x → x.waiting = some st → kGet (chanOf s ch).graphs x.cfg.owner = some g →
    (gooseBindings g n).all (fun b => sourceRoom g b.1) = true →
    Does (.gooseStateDeliver ch n) s (fun t => (kGet (chanOf t ch).pub.subs n).map (fun y => y.waiting) = some none ∧ onlyChan ch s t)) ∧
  (∀ s ch n x st g, kGet (chanOf s ch).pub.subs n = some x → x.waiting = some st → kGet (chanOf s ch).graphs x.cfg.owner = some g →
    (gooseBindings g n).all (fun b => sourceRoom g b.1) = false →
    Does (.gooseStateDeliver ch n) s (fun t => chanOf t ch = commitsEnded (chanOf s ch)))

/-- 11 R346, R349: the bit instructions, the branch stack, the jumps, the quality tests, and the edges. -/
def Obligations.lse_bit_instructions : Prop :=
  LseDoes .lseNop 0x00 (fun L _ => { L.r with ip := L.r.ip + 1 }) ∧
  LseDoes .lseLd 0x01 (fun L a => { L.r with b := lseBit L L.r a, ip := L.r.ip + 1 }) ∧
  LseDoes .lseLdn 0x02 (fun L a => { L.r with b := !lseBit L L.r a, ip := L.r.ip + 1 }) ∧
  LseDoes .lseAnd 0x03 (fun L a => { L.r with b := L.r.b && lseBit L L.r a, ip := L.r.ip + 1 }) ∧
  LseDoes .lseAndn 0x04 (fun L a => { L.r with b := L.r.b && !lseBit L L.r a, ip := L.r.ip + 1 }) ∧
  LseDoes .lseOr 0x05 (fun L a => { L.r with b := L.r.b || lseBit L L.r a, ip := L.r.ip + 1 }) ∧
  LseDoes .lseOrn 0x06 (fun L a => { L.r with b := L.r.b || !lseBit L L.r a, ip := L.r.ip + 1 }) ∧
  LseDoes .lseXor 0x07 (fun L a => { L.r with b := L.r.b ^^ lseBit L L.r a, ip := L.r.ip + 1 }) ∧
  LseDoes .lseNot 0x08 (fun L _ => { L.r with b := !L.r.b, ip := L.r.ip + 1 }) ∧
  LseDoes .lseSt 0x09 (fun L a => { lseSetBit L a L.r.b L.r with ip := L.r.ip + 1 }) ∧
  LseDoes .lseStn 0x0A (fun L a => { lseSetBit L a (!L.r.b) L.r with ip := L.r.ip + 1 }) ∧
  LseDoes .lseSet 0x0B (fun L a => { (if L.r.b then lseSetBit L a true L.r else L.r) with ip := L.r.ip + 1 }) ∧
  LseDoes .lseRst 0x0C (fun L a => { (if L.r.b then lseSetBit L a false L.r else L.r) with ip := L.r.ip + 1 }) ∧
  LseDoes .lseApush 0x10 (fun L _ => { L.r with stack := (L.r.b, true) :: L.r.stack, b := true, ip := L.r.ip + 1 }) ∧
  LseDoes .lseOpush 0x11 (fun L _ => { L.r with stack := (L.r.b, false) :: L.r.stack, b := false, ip := L.r.ip + 1 }) ∧
  LseDoes .lsePop 0x12 (fun L _ => match L.r.stack with
    | [] => { L.r with ip := L.r.ip + 1 }
    | (x, true) :: rest => { L.r with stack := rest, b := x && L.r.b, ip := L.r.ip + 1 }
    | (x, false) :: rest => { L.r with stack := rest, b := x || L.r.b, ip := L.r.ip + 1 }) ∧
  LseDoes .lseJmp 0x40 (fun L a => { L.r with ip := a }) ∧
  LseDoes .lseJc 0x41 (fun L a => { L.r with ip := if L.r.b then a else L.r.ip + 1 }) ∧
  LseDoes .lseJcn 0x42 (fun L a => { L.r with ip := if L.r.b then L.r.ip + 1 else a }) ∧
  LseDoes .lseQv 0x51 (fun L a => { L.r with b := L.r.b && (entryValidity L a != 1 && entryValidity L a != 2), ip := L.r.ip + 1 }) ∧
  LseDoes .lseQg 0x52 (fun L a => { L.r with b := L.r.b && entryValidity L a == 0, ip := L.r.ip + 1 }) ∧
  LseIdle .lseLd 0x01 ∧ LseIdle .lseSt 0x09 ∧ LseIdle .lseJmp 0x40 ∧
  EdgeDoes .lseRe 0x0D (fun b m => b && !m) ∧ EdgeDoes .lseFe 0x0E (fun b m => !b && m)

/-- 11 R346: the word instructions; sums, differences and products are the exact ones, held to the range of I32. -/
def Obligations.lse_word_instructions : Prop :=
  LseDoes .lseLdw 0x20 (fun L a => { L.r with w := lseWord L L.r a, ip := L.r.ip + 1 }) ∧
  LseDoes .lseLdi 0x21 (fun L a => { L.r with w := (BitVec.ofNat 24 a).signExtend 32, ip := L.r.ip + 1 }) ∧
  LseDoes .lseStw 0x22 (fun L a => { lseSetWord L a L.r.w L.r with ip := L.r.ip + 1 }) ∧
  LseDoes .lseCeq 0x26 (fun L a => { L.r with b := decide (L.r.w.toInt = (lseWord L L.r a).toInt), ip := L.r.ip + 1 }) ∧
  LseDoes .lseCgt 0x27 (fun L a => { L.r with b := decide ((lseWord L L.r a).toInt < L.r.w.toInt), ip := L.r.ip + 1 }) ∧
  LseDoes .lseClt 0x28 (fun L a => { L.r with b := decide (L.r.w.toInt < (lseWord L L.r a).toInt), ip := L.r.ip + 1 }) ∧
  LseDoes .lseMovc 0x29 (fun L a => { (if L.r.b then lseSetWord L a L.r.w L.r else L.r) with ip := L.r.ip + 1 }) ∧
  LseDoes .lseCrst 0x36 (fun L a => { (if L.r.b then lseSetWord L (a + 1) 0 L.r else L.r) with ip := L.r.ip + 1 }) ∧
  LseDoes .lseCldp 0x37 (fun L a => { (if L.r.b then lseSetWord L (a + 1) (lseWord L L.r a) L.r else L.r) with ip := L.r.ip + 1 }) ∧
  LseIdle .lseStw 0x22 ∧
  LseSaturates .lseAddw 0x23 (fun w x => w + x) ∧ LseSaturates .lseSubw 0x24 (fun w x => w - x) ∧
  LseSaturates .lseMulw 0x25 (fun w x => w * x)

/-- 11 R347, R357: the three timers, and a forced one; a jump, which skips a block, leaves its words and its last execution as they are. -/
def Obligations.lse_timers : Prop :=
  BlockDoes .lseTon 0x30 tonEt (fun L a => L.r.b && decide ((lseWord L L.r a).toInt ≤ tonEt L a)) ∧
  BlockDoes .lseTof 0x31 tofEt (fun L a => L.r.b || ((blockIn L a L.r || blockQ L a L.r) && decide (tofEt L a < (lseWord L L.r a).toInt))) ∧
  BlockDoes .lseTp 0x32 tpEt (fun L a => (blockQ L a L.r || blockRise L a L.r) && decide (tpEt L a < (lseWord L L.r a).toInt)) ∧
  LseDoes .lseJmp 0x40 (fun L a => { L.r with ip := a }) ∧
  BlockForced .lseTon 0x30 ∧ BlockForced .lseTof 0x31 ∧ BlockForced .lseTp 0x32

/-- 11 R348, R357: the two counters, and a forced one. -/
def Obligations.lse_counters : Prop :=
  BlockDoes .lseCtu 0x34 (countCv 1) (fun L a => decide ((lseWord L L.r a).toInt ≤ countCv 1 L a)) ∧
  BlockDoes .lseCtd 0x35 (countCv (-1)) (fun L a => decide (countCv (-1) L a ≤ 0)) ∧
  BlockForced .lseCtu 0x34 ∧ BlockForced .lseCtd 0x35

/-- 11 R334, R336, R346, R354: END, a boundary with the scan ended, one passed in a scan, a first scan, and the overrun ceiling. -/
def Obligations.lse_cycles : Prop :=
  (∀ s ch n a L, kGet (chanOf s ch).lse n = some L → scanFirst (chanOf s ch) n L = true →
    nth L.prog.code L.r.ip 0 = BitVec.ofNat 32 (0x4F * 16777216 + a) →
    Does (.lseEnd ch n a) s (fun t => kGet (chanOf t ch).lse n = some { L with
        r := { L.r with ended := true, scanning := false }, st := .running, late := L.st == .overrun, passed := 0, firstScan := false } ∧
      zGet (chanOf t ch).ctr (od 0x2702 (n + 1)) = zGet (chanOf s ch).ctr (od 0x2702 (n + 1)) + 1 ∧
      zGet (chanOf t ch).ctr (od 0x2700 8) =
        zGet (chanOf s ch).ctr (od 0x2700 8) + BitVec.ofNat 64 (if L.st = .overrun then L.passed else 0))) ∧
  (∀ s ch n L, lseLive (chanOf s ch) = [(n, L)] → L.st = .running → L.r.ended = true →
    Does (.lseCycleBoundary ch) s (fun t => (kGet (chanOf t ch).lse n).map
        (fun M => (M.st, M.r.scanning, M.r.ended, M.r.ip, M.r.stack)) = some (.running, true, false, 0, []) ∧
      (kGet (chanOf t ch).lse n).map (fun M => (M.r.s, M.nextB)) = some (L.nextB, L.nextB + (kGet (chanOf t ch).lse n).elim 0 tcNs) ∧ onlyChan ch s t)) ∧
  (∀ s ch n L, lseLive (chanOf s ch) = [(n, L)] → (L.st = .running ∨ L.st = .overrun) → L.r.ended = false → L.overruns < L.allow →
    Does (.lseCycleBoundary ch) s (fun t => kGet (chanOf t ch).lse n = some { L with
        overruns := L.overruns + 1, passed := L.passed + 1, st := .overrun, nextB := L.nextB + tcNs L,
        overSince := if L.st = .overrun then L.overSince else L.nextB } ∧
      zGet (chanOf t ch).ctr (od 0x2700 7) = zGet (chanOf s ch).ctr (od 0x2700 7) + 1)) ∧
  (∀ s ch n L, lseLive (chanOf s ch) = [(n, L)] → (L.st = .running ∨ L.st = .overrun) → L.r.ended = false → L.allow ≤ L.overruns →
    Does (.lseCycleBoundary ch) s (fun t => (kGet (chanOf t ch).lse n).map (fun M => (M.st, M.safePend, M.r.scanning)) = some (.faulted, true, false) ∧
      zGet (chanOf t ch).ctr (od 0x2700 9) = zGet (chanOf s ch).ctr (od 0x2700 9) + 1)) ∧
  (∀ s ch n L, lseLive (chanOf s ch) = [(n, L)] → L.st = .stopped →
    Does (.lseCycleBoundary ch) s (fun t => (kGet (chanOf t ch).lse n).map
        (fun M => (M.st, M.firstScan, M.r.scanning, M.r.ip, M.r.s)) = some (.running, true, true, 0, L.nextB) ∧ onlyChan ch s t)) ∧
  (∀ s ch n L, lseLive (chanOf s ch) = [(n, L)] → L.st = .faulted → L.swap = none → L.restartPend = false →
    Does (.lseCycleBoundary ch) s (fun t => (kGet (chanOf t ch).lse n).map (fun M => (M.st, M.safePend, M.nextB)) =
        some (.faulted, false, L.nextB + tcNs L) ∧ onlyChan ch s t)) ∧
  (∀ s ch n L, lseLive (chanOf s ch) = [(n, L)] → L.st = .faulted → L.swap = none → L.restartPend = true →
    Does (.lseCycleBoundary ch) s (fun t => (kGet (chanOf t ch).lse n).map
        (fun M => (M.st, M.safePend, M.restartPend, M.r.scanning, M.r.s)) = some (.running, false, false, true, L.nextB) ∧ onlyChan ch s t)) ∧
  (∀ s ch n L, kGet (chanOf s ch).lse n = some L → L.st = .overrun → L.r.scanning = true →
    Does (.lseOverrunCeiling ch n) s (fun t => (kGet (chanOf t ch).lse n).map (fun M => (M.st, M.safePend, M.r.scanning, M.r.ended)) =
        some (.faulted, true, false, false) ∧
      zGet (chanOf t ch).ctr (od 0x2700 9) = zGet (chanOf s ch).ctr (od 0x2700 9) + 1))

/-- 11 R351, R352, R356, R358: retain flushes under the hold-up check, an on-line change, and forces at their boundary. -/
def Obligations.retain_forces_and_online_change : Prop :=
  (∀ s ch n L, kGet (chanOf s ch).lse n = some L → (chanOf s ch).psu.pwarn = false → (chanOf s ch).boot.graphsRun = true →
    L.st ≠ .stopped → retainChanged n L (chanOf s ch) = true → holdupOk (chanOf s ch).psu 0 (energyRetain L.snap.length) = true →
    Does (.retainInterval ch n) s (fun t =>
      kGet (chanOf t ch).retain n = some (retainWrite L.snap ((kGet (chanOf s ch).retain n).getD retainNone)) ∧
      kGet (chanOf t ch).lse n = some { L with flushDue := false, retainAt := (chanOf t ch).time.up } ∧
      L.retainAt + L.retainMs * 1000000 ≤ (chanOf t ch).time.up ∧
      zGet (chanOf t ch).ctr (od 0x2700 0x0B) = zGet (chanOf s ch).ctr (od 0x2700 0x0B) + 1 ∧ onlyChan ch s t)) ∧
  (∀ s ch n L, kGet (chanOf s ch).lse n = some L → (chanOf s ch).psu.pwarn = false → (chanOf s ch).boot.graphsRun = true →
    L.st ≠ .stopped → retainChanged n L (chanOf s ch) = true → holdupOk (chanOf s ch).psu 0 (energyRetain L.snap.length) = false →
    Does (.retainInterval ch n) s (fun t => kGet (chanOf t ch).retain n = kGet (chanOf s ch).retain n ∧
      kGet (chanOf t ch).lse n = some { L with flushDue := true, retainAt := (chanOf t ch).time.up } ∧
      zGet (chanOf t ch).ctr (od 0x2700 0x0C) = zGet (chanOf s ch).ctr (od 0x2700 0x0C) + 1)) ∧
  (∀ s ch n L, kGet (chanOf s ch).lse n = some L → (chanOf s ch).psu.pwarn = true →
    Does (.retainInterval ch n) s (fun t => chanOf t ch = commitsEnded (chanOf s ch))) ∧
  (∀ s ch n L, kGet (chanOf s ch).lse n = some L → L.flushDue = true → holdupOk (chanOf s ch).psu 0 (energyRetain L.snap.length) = true →
    Does (.retainFlushRetry ch n) s (fun t =>
      kGet (chanOf t ch).retain n = some (retainWrite L.snap ((kGet (chanOf s ch).retain n).getD retainNone)) ∧
      kGet (chanOf t ch).lse n = some { L with flushDue := false })) ∧
  (∀ s ch n L p b, kGet (lseLive (chanOf s ch)) n = some L → L.st = .running → L.r.ended = true → L.swap = some (p, b) → b ≤ L.nextB →
    Does (.onlineChangeSwap ch n) s (fun t =>
      (kGet (chanOf t ch).lse n).map (fun M => (M.prog, M.differs, M.swap)) = some (p, true, none) ∧ onlyChan ch s t)) ∧
  (∀ s ch n L p b, kGet (lseLive (chanOf s ch)) n = some L → L.st = .faulted → L.swap = some (p, b) → b ≤ L.nextB →
    Does (.onlineChangeSwap ch n) s (fun t =>
      (kGet (chanOf t ch).lse n).map (fun M => (M.prog, M.differs, M.swap, M.st, M.r.scanning)) = some (p, true, none, .running, true) ∧
      onlyChan ch s t)) ∧
  (∀ s ch n L f, kGet (lseLive (chanOf s ch)) n = some L → (L.st = .stopped ∨ L.st = .faulted) → L.pendForces = [f] → f.set = true →
    L.prog.vars.any (fun v => v.ident == f.f.ident) = true → (L.forces.filter (fun x => x.ident != f.f.ident)).length < 256 →
    Does (.forceEffect ch n) s (fun t => (kGet (chanOf t ch).lse n).map (fun M => (M.forces, M.pendForces)) =
      some (L.forces.filter (fun x => x.ident != f.f.ident) ++ [f.f], []))) ∧
  (∀ s ch n L f, kGet (lseLive (chanOf s ch)) n = some L → (L.st = .stopped ∨ L.st = .faulted) → L.pendForces = [f] → f.set = false →
    L.prog.vars.any (fun v => v.ident == f.f.ident) = true →
    Does (.forceEffect ch n) s (fun t => (kGet (chanOf t ch).lse n).map (fun M => (M.forces, M.pendForces)) =
      some (L.forces.filter (fun x => x.ident != f.f.ident), []))) ∧
  (∀ s ch n L f, kGet (lseLive (chanOf s ch)) n = some L → (L.st = .stopped ∨ L.st = .faulted) → L.pendForces = [f] →
    L.prog.vars.any (fun v => v.ident == f.f.ident) = false →
    Does (.forceEffect ch n) s (fun t => (kGet (chanOf t ch).lse n).map (fun M => (M.forces, M.pendForces)) = some (L.forces, [])))

/-- 16 R491 to R503: what each lifecycle boundary does to its sleeve. -/
def Obligations.sleeve_boundaries : Prop :=
  (∀ s ch n S r, (LifeDue (chanOf s ch) n 1 S r ∨ LifeDue (chanOf s ch) n 6 S r) →
    Does (.sleeveStartBoundary ch n) s (fun t => kGet (chanOf t ch).sleeves n =
        some { S with req := none, lastBoundary := r.at_, st := .running, restore := none } ∧ onlyChan ch s t)) ∧
  (∀ s ch n S r, LifeDue (chanOf s ch) n 3 S r →
    Does (.freezeBoundary ch n) s (fun t => kGet (chanOf t ch).sleeves n = some { S with req := none, lastBoundary := r.at_, st := .frozen } ∧
      (chanOf t ch).disp.fences.any (fun f => f.freeze && f.sleeve == n && f.instant == r.at_) = true ∧ onlyChan ch s t)) ∧
  (∀ s ch n S r, LifeDue (chanOf s ch) n 4 S r →
    Does (.thawBoundary ch n) s (fun t => kGet (chanOf t ch).sleeves n = some { S with req := none, lastBoundary := r.at_, st := .running } ∧
      (chanOf t ch).disp.fences.any (fun f => f.freeze && f.sleeve == n) = false ∧ onlyChan ch s t)) ∧
  (∀ s ch n S r, LifeDue (chanOf s ch) n 2 S r → placerQuiet s →
    Does (.deletionBoundary ch n) s (fun t => kGet (chanOf t ch).sleeves n = none ∧ kGet (chanOf t ch).graphs n = none ∧
      kGet (chanOf t ch).lse n = none ∧ (∀ q ∈ (chanOf t ch).paths, q.2.cfg.owner ≠ n) ∧ onlyChan ch s t)) ∧
  (∀ s ch n S r, LifeDue (chanOf s ch) n 7 S r →
    Does (.behaviourBoundary ch n) s (fun t => kGet (chanOf t ch).sleeves n = some { S with req := none, lastBoundary := r.at_, beh := r.arg } ∧
      onlyChan ch s t)) ∧
  (∀ s ch n S, kGet (chanOf s ch).sleeves n = some S → S.req = none →
    Does (.freezeBoundary ch n) s (fun t => chanOf t ch = commitsEnded (chanOf s ch)) ∧
    Does (.thawBoundary ch n) s (fun t => chanOf t ch = commitsEnded (chanOf s ch)) ∧
    (placerQuiet s → Does (.deletionBoundary ch n) s (fun t => chanOf t ch = commitsEnded (chanOf s ch))) ∧
    Does (.behaviourBoundary ch n) s (fun t => chanOf t ch = commitsEnded (chanOf s ch)) ∧
    Does (.sleeveStartBoundary ch n) s (fun t => chanOf t ch = commitsEnded (chanOf s ch))) ∧
  (∀ s ch n S, kGet (chanOf s ch).sleeves n = some S → S.saving = true →
    Does (.saveBlobReady ch n) s (fun t => kGet (chanOf t ch).sleeves n = some { S with
        saving := false
        req := S.req.map (fun r => { r with at_ := if r.at_ = 0 then lifeBoundary n (chanOf s ch) else r.at_ }) } ∧
      kHas (chanOf t ch).dict.domains (od 0x2B00 6) = true ∧ onlyChan ch s t))

/-- 01 R40 to R43; 06 R190; 07 R219, R226 to R228; 08 R264 to R266, R274; 22 R641: moves, tile tests, scrub passes and reads of MRAM and
flash, the retention of banks, and a read that meets a write of its word. -/
def Obligations.moves_and_memories : Prop :=
  (∀ s ch n i tile x, plFind (instsNow (chanOf s ch) (imageNow (chanOf s ch))) n i = some x → (chanOf s ch).boot.graphsRun = true →
    (chanOf s ch).disp.planned = [] → (chanOf s ch).disp.moves.length < 8 → entryFree (chanOf s ch) 6 = true →
    (∀ m ∈ (chanOf s ch).disp.moves, ¬(m.sleeve = n ∧ m.inst = i)) → moveOk (chanOf s ch) x tile = true →
    Does (.moveBegin ch n i tile) s (fun t =>
      (chanOf t ch).disp.moves = (chanOf s ch).disp.moves ++ [⟨n, i, tile, switchBoundary x.r.cls (chanOf s ch), false, false⟩] ∧
      (chanOf t ch).disp.movesLeft = (chanOf s ch).disp.movesLeft - 1 ∧
      placerState (chanOf t ch) = (if inTileRecovery (chanOf s ch) then 3 else 2) ∧
      (chanOf t ch).disp.fences = (chanOf s ch).disp.fences ++
        [⟨false, n, i, switchBoundary x.r.cls (chanOf s ch), (chanOf s ch).time.up⟩] ∧ onlyChan ch s t)) ∧
  (∀ s ch n i tile x rest, plFind (instsNow (chanOf s ch) (imageNow (chanOf s ch))) n i = some x → (chanOf s ch).boot.graphsRun = true →
    (chanOf s ch).disp.planned = (n, i, tile) :: rest → (chanOf s ch).disp.moves.length < 8 → entryFree (chanOf s ch) 6 = true →
    (∀ m ∈ (chanOf s ch).disp.moves, ¬(m.sleeve = n ∧ m.inst = i)) → moveOk (chanOf s ch) x tile = true →
    Does (.moveBegin ch n i tile) s (fun t =>
      (chanOf t ch).disp.moves = (chanOf s ch).disp.moves ++ [⟨n, i, tile, switchBoundary x.r.cls (chanOf s ch), false, true⟩] ∧
      (chanOf t ch).disp.planned = rest ∧ (chanOf t ch).disp.movesLeft = (chanOf s ch).disp.movesLeft ∧ onlyChan ch s t)) ∧
  (∀ s ch n i tile, 8 ≤ (chanOf s ch).disp.moves.length →
    Does (.moveBegin ch n i tile) s (fun t => chanOf t ch = commitsEnded (chanOf s ch))) ∧
  (∀ s ch n i m, (chanOf s ch).disp.moves.find? (fun m => m.sleeve == n && m.inst == i && !m.transferred) = some m →
    firedUpTo (advanceTo m.boundary (commitsEnded (chanOf s ch))) n i m.boundary = true →
    Does (.moveFinalTransfer ch n i) s (fun t =>
      (chanOf t ch).disp.moves = (chanOf s ch).disp.moves.map (fun y => if y = m then { y with transferred := true } else y) ∧ onlyChan ch s t)) ∧
  (∀ s ch n i m y, (chanOf s ch).disp.moves.find? (fun m => m.sleeve == n && m.inst == i && m.transferred) = some m →
    instAt (chanOf s ch) n i = some y → placerQuiet s →
    Does (.moveBindingSwitch ch n i) s (fun t => (instAt (chanOf t ch) n i).map (fun z => z.tile) = some m.target ∧
      (chanOf t ch).disp.moves = (chanOf s ch).disp.moves.erase m ∧
      zGet (chanOf t ch).ctr (od 0x2500 0x25) = zGet (chanOf s ch).ctr (od 0x2500 0x25) + 1 ∧ onlyChan ch s t)) ∧
  (∀ s ch k tl, kGet (chanOf s ch).disp.tiles k = some tl → tl.role ≠ .failed → runtimeUp (chanOf s ch) = true → (chanOf s ch).boot.mode ≠ .boot →
    entryFree (chanOf s ch) 6 = true → placerQuiet s →
    Does (.tileSelftestPass ch k true) s (fun t => zGet (chanOf t ch).ctr (od 0x3100 0x0A) = zGet (chanOf s ch).ctr (od 0x3100 0x0A) + 1 ∧
      (chanOf t ch).disp = (chanOf s ch).disp ∧ onlyChan ch s t)) ∧
  (∀ s ch k tl j, kWf (chanOf s ch).disp.tiles = true → kGet (chanOf s ch).disp.tiles k = some tl → tl.role = .placeable →
    firstSpare (chanOf s ch) = some j → runtimeUp (chanOf s ch) = true → (chanOf s ch).boot.mode ≠ .boot → entryFree (chanOf s ch) 6 = true →
    placerQuiet s →
    Does (.tileSelftestPass ch k false) s (fun t => kGet (chanOf t ch).disp.tiles k = some ⟨.failed, []⟩ ∧
      kGet (chanOf t ch).disp.tiles j = some ⟨.placeable, []⟩)) ∧
  (∀ s ch m k, m ≤ 6 → runtimeUp (chanOf s ch) = true → (chanOf s ch).boot.mode ≠ .boot →
    Does (.scrubPass ch m k []) s (fun t => zGet (chanOf t ch).ctr (od 0x3100 0x0A) = zGet (chanOf s ch).ctr (od 0x3100 0x0A) + 1 ∧
      zGet (chanOf t ch).ctr (od 0x3000 8) = zGet (chanOf s ch).ctr (od 0x3000 8) + BitVec.ofNat 64 (if m = 1 then k else 0) ∧
      zGet (chanOf t ch).ctr (od 0x3000 9) = zGet (chanOf s ch).ctr (od 0x3000 9) + BitVec.ofNat 64 (if m = 2 then k else 0) ∧ onlyChan ch s t)) ∧
  (∀ s ch k d row x, row < 2 ^ 32 → kGet (chanOf s ch).pleat.defs d = some x → runtimeUp (chanOf s ch) = true → (chanOf s ch).boot.mode ≠ .boot →
    Does (.scrubPass ch 4 k [d * 2 ^ 32 + row]) s (fun t =>
      (kGet (chanOf t ch).pleat.defs d).map (fun y => y.ring) = some (x.ring.map (fun r => if r.n = row then { r with damaged := true } else r)) ∧
      zGet (chanOf t ch).ctr (od 0x3100 0x0B) = zGet (chanOf s ch).ctr (od 0x3100 0x0B) + 1)) ∧
  (∀ s ch n x, n < 2 ^ 32 → (chanOf s ch).boot.powered = true → kGet (chanOf s ch).keysNv.cellsA n = some x →
    Does (.scrubPass ch 7 0 [7 * 2 ^ 32 + n]) s (fun t => kGet (chanOf t ch).keysNv.cellsA n = some { x with crcOk := false } ∧ onlyChan ch s t)) ∧
  (∀ s ch n, n < 2 ^ 32 → (chanOf s ch).boot.powered = true →
    Does (.scrubPass ch 8 0 [n]) s (fun t => (chanOf t ch).slots.cfg0.bytes = (chanOf s ch).slots.cfg0.bytes.modify n (fun b => b ^^^ 0xFF) ∧
      onlyChan ch s t)) ∧
  (∀ s ch b, b < 64 → (bankGet (chanOf s ch) b).retained = true →
    Does (.bankWakeComplete ch b) s (fun t => (bankGet (chanOf t ch) b).retained = false ∧ (bankGet (chanOf t ch) b).waking = false ∧
      ((bankGet (chanOf s ch) b).reqs = [] → (bankGet (chanOf t ch) b).words = (bankGet (chanOf s ch) b).words) ∧
      zGet (chanOf t ch).ctr (od 0x3000 2) = zGet (chanOf s ch).ctr (od 0x3000 2) + 1 ∧ onlyChan ch s t)) ∧
  (∀ s ch b, b < 64 → (chanOf s ch).boot.graphsRun = true → (chanOf s ch).disp.retention = true → (bankGet (chanOf s ch) b).failed = false →
    (bankGet (chanOf s ch) b).retained = false → (∀ y ∈ (chanOf s ch).disp.items, bankOf y.addr ≠ b) → (bankGet (chanOf s ch) b).reqs = [] →
    Does (.bankRetentionEntry ch b) s (fun t => bankGet (chanOf t ch) b = { bankGet (chanOf s ch) b with retained := true } ∧
      (bankGet (chanOf s ch) b).lastGrant + 1000 ≤ (chanOf t ch).time.up ∧ onlyChan ch s t)) ∧
  (∀ s ch b r, b < 64 → (chanOf s ch).boot.graphsRun = true → (chanOf s ch).disp.retention = true → (bankGet (chanOf s ch) b).failed = false →
    (bankGet (chanOf s ch) b).retained = false → (∀ y ∈ (chanOf s ch).disp.items, bankOf y.addr ≠ b) → (bankGet (chanOf s ch) b).reqs = [r] →
    cycleOf (chanOf s ch).time.up ≤ r.since →
    Does (.bankRetentionEntry ch b) s (fun t => (bankGet (chanOf t ch) b).retained = false ∧
      zGet (chanOf t ch).ctr (od 0x3000 2) = zGet (chanOf s ch).ctr (od 0x3000 2) + 1 ∧ onlyChan ch s t)) ∧
  (∀ s ch b, (∃ y ∈ (chanOf s ch).disp.items, bankOf y.addr = b) →
    Does (.bankRetentionEntry ch b) s (fun t => (bankGet (chanOf t ch) b).retained = (bankGet (chanOf s ch) b).retained ∧ onlyChan ch s t)) ∧
  (∀ b t x y m v, b.reqs = [x, y] → x.since ≤ t → y.since ≤ t → x.word = y.word → x.op = .read → y.op = .write m v →
    (bankCycle t b).1.reqs = [x] ∧ (bankCycle t b).2.busy = 1 ∧
      zGet (bankCycle t b).1.words y.word = (zGet b.words y.word &&& ~~~m) ||| (v &&& m))

/-- 13 R405: the rows of the servo table that a Sync on the selected path drives. -/
def Obligations.servo_on_sync : Prop :=
  (∀ s ch p m rx g, SyncReady s ch p m g → (chanOf s ch).time.servo = .locked →
    (syncOffset (chanOf s ch) p m rx).natAbs ≤ lockThreshold (chanOf s ch) →
    Does (.syncReceived ch p m rx) s (fun t => (chanOf t ch).time.servo = .locked ∧ (chanOf t ch).time.outRun = 0 ∧
      (chanOf t ch).time.offset = syncOffset (chanOf s ch) p m rx ∧ (chanOf t ch).time.ctr = (chanOf s ch).time.ctr ∧ onlyChan ch s t)) ∧
  (∀ s ch p m rx g, SyncReady s ch p m g → (chanOf s ch).time.servo = .locked →
    lockThreshold (chanOf s ch) < (syncOffset (chanOf s ch) p m rx).natAbs → 3 ≤ (chanOf s ch).time.outRun →
    Does (.syncReceived ch p m rx) s (fun t => (chanOf t ch).time.servo = .holdover ∧
      (chanOf t ch).time.holdAt = (chanOf s ch).time.up ∧ (chanOf t ch).time.ctr = (chanOf s ch).time.ctr)) ∧
  (∀ s ch p m rx g, SyncReady s ch p m g → (chanOf s ch).time.servo = .locked →
    lockThreshold (chanOf s ch) < (syncOffset (chanOf s ch) p m rx).natAbs → (chanOf s ch).time.outRun < 3 →
    Does (.syncReceived ch p m rx) s (fun t => (chanOf t ch).time.servo = .locked ∧
      (chanOf t ch).time.outRun = (chanOf s ch).time.outRun + 1)) ∧
  (∀ s ch p m rx g, SyncReady s ch p m g → (chanOf s ch).time.servo = .holdover → g.msg.clockClass ≤ 7 →
    (syncOffset (chanOf s ch) p m rx).natAbs ≤ lockThreshold (chanOf s ch) → 1 ≤ (chanOf s ch).time.inRun →
    Does (.syncReceived ch p m rx) s (fun t => (chanOf t ch).time.servo = .locked ∧ (chanOf t ch).time.limitPassed = false ∧
      (chanOf t ch).time.ctr = (chanOf s ch).time.ctr)) ∧
  (∀ s ch p m rx g, SyncReady s ch p m g → (chanOf s ch).time.servo = .holdover → g.msg.clockClass ≤ 7 →
    (syncOffset (chanOf s ch) p m rx).natAbs ≤ lockThreshold (chanOf s ch) → (chanOf s ch).time.inRun = 0 →
    Does (.syncReceived ch p m rx) s (fun t => (chanOf t ch).time.servo = .holdover ∧ (chanOf t ch).time.inRun = 1)) ∧
  (∀ s ch p m rx g, SyncReady s ch p m g → (chanOf s ch).time.servo = .holdover → g.msg.clockClass ≤ 7 →
    lockThreshold (chanOf s ch) < (syncOffset (chanOf s ch) p m rx).natAbs →
    (entryNat (chanOf s ch) 0x2200 0x2B 1 = 0 ∨
      (syncOffset (chanOf s ch) p m rx).natAbs ≤ entryNat (chanOf s ch) 0x2200 0x2A 100000) →
    Does (.syncReceived ch p m rx) s (fun t => (chanOf t ch).time.servo = .holdover ∧ (chanOf t ch).time.ctr = (chanOf s ch).time.ctr ∧
      (chanOf t ch).time.inRun = 0)) ∧
  (∀ s ch p m rx g, SyncReady s ch p m g → (chanOf s ch).time.servo = .holdover → g.msg.clockClass ≤ 7 →
    lockThreshold (chanOf s ch) < (syncOffset (chanOf s ch) p m rx).natAbs →
    entryNat (chanOf s ch) 0x2200 0x2B 1 ≠ 0 → entryNat (chanOf s ch) 0x2200 0x2A 100000 < (syncOffset (chanOf s ch) p m rx).natAbs →
    0 ≤ (nowNs (chanOf s ch) : Int) - syncOffset (chanOf s ch) p m rx →
    (nowNs (chanOf s ch) : Int) - syncOffset (chanOf s ch) p m rx < 2 ^ 64 →
    Does (.syncReceived ch p m rx) s (fun t => (chanOf t ch).time.servo = .holdover ∧
      (nowNs (chanOf t ch) : Int) = (nowNs (chanOf s ch) : Int) - syncOffset (chanOf s ch) p m rx ∧
      zGet (chanOf t ch).ctr (od 0x2200 0x0D) = zGet (chanOf s ch).ctr (od 0x2200 0x0D) + 1)) ∧
  (∀ s ch p m rx g o k d e, SyncReady s ch p m g → (chanOf s ch).time.servo = .locking → (chanOf s ch).time.lastOffset = some (o, k) →
    (chanOf s ch).time.slope = some (d, e) → (ptpGet (chanOf s ch) p).delayKnown = true →
    (syncOffset (chanOf s ch) p m rx -
      (o + d * ((((rx : Int) - syncOffset (chanOf s ch) p m rx).toNat : Int) - k) / (max e 1 : Nat))).natAbs ≤ 1000 →
    Does (.syncReceived ch p m rx) s (fun t => (chanOf t ch).time.servo = .locked ∧ (chanOf t ch).time.firstLocked = true ∧
      zGet (chanOf t ch).ctr (od 0x2200 0x0D) = zGet (chanOf s ch).ctr (od 0x2200 0x0D) + 1))

/-- 13 R400, R401, R405, R408: two-step Syncs, Follow_Ups, Announces, the lost master, and the holdover limit. -/
def Obligations.ptp_messages : Prop :=
  (∀ s ch p m rx, counterRuns (chanOf s ch) = true → linkUp (chanOf s ch) p = true → m.domain = entryNat (chanOf s ch) 0x2200 0x20 0 →
    m.twoStep = true → (ptpGet (chanOf s ch) p).syncs.length < 16 →
    Does (.syncReceived ch p m rx) s (fun t => ptpGet (chanOf t ch) p = { ptpGet (chanOf s ch) p with
        syncs := (ptpGet (chanOf s ch) p).syncs ++ [⟨m, rx, ((ptpGet (chanOf s ch) p).delay + asymmetry (chanOf s ch) p) * 65536, []⟩] } ∧
      zGet (chanOf t ch).ctr (od 0x2218 p) = zGet (chanOf s ch).ctr (od 0x2218 p) + 1 ∧
      (chanOf t ch).time.servo = (chanOf s ch).time.servo ∧ onlyChan ch s t)) ∧
  (∀ s ch p m h g, counterRuns (chanOf s ch) = true → linkUp (chanOf s ch) p = true →
    (ptpGet (chanOf s ch) p).syncs.find? (fun h => h.msg.seqId == m.seqId && h.msg.srcClock == m.srcClock && h.msg.srcPort == m.srcPort) = some h →
    nowNs (chanOf s ch) ≤ h.rx + 10000000 → (chanOf s ch).time.gm = some g → g.msg.srcClock = m.srcClock →
    Does (.followUpReceived ch p m) s (fun t => (ptpGet (chanOf t ch) p).syncs = (ptpGet (chanOf s ch) p).syncs.erase h ∧
      (ptpGet (chanOf t ch) p).offset = syncOffset (chanOf s ch) p { m with correction := h.msg.correction + m.correction } h.rx ∧
      onlyChan ch s t)) ∧
  (∀ s ch p m h, counterRuns (chanOf s ch) = true → linkUp (chanOf s ch) p = true →
    (ptpGet (chanOf s ch) p).syncs.find? (fun h => h.msg.seqId == m.seqId && h.msg.srcClock == m.srcClock && h.msg.srcPort == m.srcPort) = h →
    (∀ x, h = some x → x.rx + 10000000 < nowNs (chanOf s ch)) →
    Does (.followUpReceived ch p m) s (fun t => (chanOf t ch).sw = (chanOf s ch).sw ∧
      zGet (chanOf t ch).ctr (od 0x2200 0x12) = zGet (chanOf s ch).ctr (od 0x2200 0x12) + 1)) ∧
  (∀ s ch p h r, (ptpGet (chanOf s ch) p).syncs = h :: r →
    Does (.followUpMatchTimeout ch p) s (fun t => ptpGet (chanOf t ch) p = { ptpGet (chanOf s ch) p with syncs := r } ∧ onlyChan ch s t)) ∧
  (∀ s ch p m o, counterRuns (chanOf s ch) = true → linkUp (chanOf s ch) p = true → m.domain = entryNat (chanOf s ch) 0x2200 0x20 0 →
    m.srcClock ≠ clockId (chanOf s ch) → m.steps < 255 → (chanOf s ch).time.masters = [o] → o.port = p → o.msg.srcClock = m.srcClock →
    o.msg.srcPort = m.srcPort → (chanOf s ch).time.up ≤ o.heard + 4 * announceNs (chanOf s ch) → masterCapable (chanOf s ch) = false →
    (chanOf s ch).time.gm = none → (chanOf s ch).time.servo = .freerun →
    Does (.announceReceived ch p m) s (fun t => (chanOf t ch).time.servo = .locking ∧
      (chanOf t ch).time.gm = some ⟨p, m, (chanOf s ch).time.up, some o.heard⟩ ∧
      (chanOf t ch).time.masters = [⟨p, m, (chanOf s ch).time.up, some o.heard⟩] ∧ (chanOf t ch).time.ctr = (chanOf s ch).time.ctr)) ∧
  (∀ s ch g, (chanOf s ch).time.gm = some g → (∀ x ∈ (chanOf s ch).time.masters, x.msg.srcClock = g.msg.srcClock) →
    Does (.announceReceiptTimeout ch) s (fun t => (chanOf t ch).time.gm = none ∧ (chanOf t ch).time.selPort = 0 ∧
      ((chanOf s ch).time.servo = .locked → (chanOf t ch).time.servo = .holdover) ∧
      ((chanOf s ch).time.servo = .locking → (chanOf t ch).time.servo = .freerun) ∧ onlyChan ch s t)) ∧
  (∀ s ch, (chanOf s ch).time.servo = .holdover → (chanOf s ch).time.limitPassed = false →
    Does (.holdoverLimit ch) s (fun t => (chanOf t ch).time.limitPassed = true ∧ (chanOf t ch).time.servo = .holdover ∧
      (chanOf s ch).time.holdAt + entryNat (chanOf s ch) 0x2200 0x2D 14400 * 1000000000 ≤ (chanOf t ch).time.up ∧ onlyChan ch s t)) ∧
  (∀ s ch, (chanOf s ch).time.servo ≠ .holdover → Does (.holdoverLimit ch) s (fun t => chanOf t ch = commitsEnded (chanOf s ch)))

/-- 13 R399, R400, R403: peer delay, and the messages of a channel that is master. -/
def Obligations.peer_delay_and_master : Prop :=
  (∀ s ch p m rx, counterRuns (chanOf s ch) = true → linkUp (chanOf s ch) p = true → ptpOn (chanOf s ch) p = true → 1 ≤ p → p ≤ 12 →
    Does (.pdelayReqReceived ch p m rx) s (fun t => PtpQueued s t ch p 7
      { ptpMsg (chanOf s ch) p 3 m.seqId with correction := m.correction, reqClock := m.srcClock, reqPort := m.srcPort } ∧ onlyChan ch s t)) ∧
  (∀ s ch p m rx, ptpOn (chanOf s ch) p = false →
    Does (.pdelayReqReceived ch p m rx) s (fun t => chanOf t ch = commitsEnded (chanOf s ch))) ∧
  (∀ s ch p m rx, counterRuns (chanOf s ch) = true → (ptpGet (chanOf s ch) p).awaiting = true → m.seqId = (ptpGet (chanOf s ch) p).reqSeq →
    m.reqClock = clockId (chanOf s ch) → m.reqPort = p → m.msgType ≠ 10 → m.twoStep = false →
    Does (.pdelayRespReceived ch p m rx) s (fun t => ptpGet (chanOf t ch) p = { ptpGet (chanOf s ch) p with
        delay := (((rx : Int) - (ptpGet (chanOf s ch) p).reqAt - m.correction / 65536) / 2).toNat, delayKnown := true, missedRun := 0
        unusable := false, awaiting := false, respPend := none } ∧ onlyChan ch s t)) ∧
  (∀ s ch p m rx, counterRuns (chanOf s ch) = true → (ptpGet (chanOf s ch) p).awaiting = true → m.seqId = (ptpGet (chanOf s ch) p).reqSeq →
    m.reqClock = clockId (chanOf s ch) → m.reqPort = p → m.msgType ≠ 10 → m.twoStep = true →
    Does (.pdelayRespReceived ch p m rx) s (fun t => ptpGet (chanOf t ch) p =
        { ptpGet (chanOf s ch) p with respPend := some (rx, m.origin) } ∧ onlyChan ch s t)) ∧
  (∀ s ch p, counterRuns (chanOf s ch) = true → linkUp (chanOf s ch) p = true → ptpOn (chanOf s ch) p = true → 1 ≤ p → p ≤ 12 →
    Does (.pdelayInterval ch p) s (fun t =>
      (let x := ptpGet (chanOf s ch) p
       let run := if x.awaiting then x.missedRun + 1 else 0
       ptpGet (chanOf t ch) p = { x with
         missedRun := run, unusable := x.unusable || decide (3 ≤ run), awaiting := true
         reqSeq := (x.reqSeq + 1) % 65536, reqAt := nowNs (chanOf s ch), respPend := none } ∧
       PtpQueued s t ch p 7 (ptpMsg (chanOf s ch) p 2 ((x.reqSeq + 1) % 65536)) ∧
       zGet (chanOf t ch).ctr (od 0x2212 p) = zGet (chanOf s ch).ctr (od 0x2212 p) + (if x.awaiting then 1 else 0)) ∧ onlyChan ch s t)) ∧
  (∀ s ch, actsAsMaster (chanOf s ch) = true →
    Does (.syncInterval ch) s (fun t => (chanOf t ch).time.syncSeq = ((chanOf s ch).time.syncSeq + 1) % 65536 ∧
      (∀ p, 1 ≤ p → p ≤ 12 → linkUp (chanOf s ch) p = true → ptpOn (chanOf s ch) p = true → PtpQueued s t ch p 7
        { ptpMsg (chanOf s ch) p 0 (chanOf s ch).time.syncSeq with origin := nowNs (chanOf s ch) }) ∧ onlyChan ch s t)) ∧
  (∀ s ch, actsAsMaster (chanOf s ch) = true →
    Does (.announceInterval ch) s (fun t => (chanOf t ch).time.annSeq = ((chanOf s ch).time.annSeq + 1) % 65536 ∧
      (∀ p, 1 ≤ p → p ≤ 12 → linkUp (chanOf s ch) p = true → ptpOn (chanOf s ch) p = true → PtpQueued s t ch p 6
        { ptpMsg (chanOf s ch) p 11 (chanOf s ch).time.annSeq with origin := nowNs (chanOf s ch) }) ∧ onlyChan ch s t)) ∧
  (∀ s ch, actsAsMaster (chanOf s ch) = false →
    Does (.syncInterval ch) s (fun t => chanOf t ch = commitsEnded (chanOf s ch)) ∧
    Does (.announceInterval ch) s (fun t => chanOf t ch = commitsEnded (chanOf s ch)))

/-- 13 R411 to R413: the edges of a pulse generator. -/
def Obligations.pulse_edges : Prop :=
  (∀ s ch g, g < 4 → (pgGet (chanOf s ch) g).armed = true → (pgGet (chanOf s ch) g).inPulse = false → pgDone (pgGet (chanOf s ch) g) = false →
    pgGate (chanOf s ch) (pgGet (chanOf s ch) g).set.gate = true →
    Does (.pulseActiveEdge ch g) s (fun t =>
      (let x := pgGet (chanOf s ch) g
       pgGet (chanOf t ch) g = { x with
         nextK := x.nextK + 1, inPulse := true, pulseEnd := x.set.start + x.nextK * x.set.period + x.set.width
         status := 2, level := !x.set.low } ∧
       (x.set.output ≠ 0 → Emission.pulse x.set.output (!x.set.low) ∈ (chanOf t ch).emitted)) ∧
      zGet (chanOf t ch).ctr (od (0x2220 + g) 0x0B) = zGet (chanOf s ch).ctr (od (0x2220 + g) 0x0B) + 1 ∧ onlyChan ch s t)) ∧
  (∀ s ch g, g < 4 → (pgGet (chanOf s ch) g).armed = true → (pgGet (chanOf s ch) g).inPulse = false → pgDone (pgGet (chanOf s ch) g) = false →
    pgGate (chanOf s ch) (pgGet (chanOf s ch) g).set.gate = false →
    Does (.pulseActiveEdge ch g) s (fun t => (pgGet (chanOf t ch) g).nextK = (pgGet (chanOf s ch) g).nextK + 1 ∧
      (pgGet (chanOf t ch) g).inPulse = false ∧ (pgGet (chanOf t ch) g).level = (pgGet (chanOf s ch) g).level ∧
      zGet (chanOf t ch).ctr (od (0x2220 + g) 0x0C) = zGet (chanOf s ch).ctr (od (0x2220 + g) 0x0C) + 1 ∧ onlyChan ch s t)) ∧
  (∀ s ch g, (pgGet (chanOf s ch) g).inPulse = true → (pgGet (chanOf s ch) g).reload = none →
    Does (.pulseInactiveEdge ch g) s (fun t =>
      (let x := pgGet (chanOf s ch) g
       (pgGet (chanOf t ch) g).inPulse = false ∧ (pgGet (chanOf t ch) g).level = x.set.low ∧
       (x.disarmAfter = true → (pgGet (chanOf t ch) g).armed = false ∧ (pgGet (chanOf t ch) g).status = 0) ∧
       (x.disarmAfter = false → pgDone x = true → (pgGet (chanOf t ch) g).armed = false ∧ (pgGet (chanOf t ch) g).status = 3) ∧
       (x.disarmAfter = false → pgDone x = false → (pgGet (chanOf t ch) g).armed = x.armed) ∧
       (x.set.output ≠ 0 → Emission.pulse x.set.output x.set.low ∈ (chanOf t ch).emitted)) ∧ onlyChan ch s t)) ∧
  (∀ s ch g r, (pgGet (chanOf s ch) g).inPulse = true → (pgGet (chanOf s ch) g).reload = some r →
    Does (.pulseInactiveEdge ch g) s (fun t => (pgGet (chanOf t ch) g).inPulse = false ∧ (pgGet (chanOf t ch) g).set = r ∧
      (pgGet (chanOf t ch) g).reload = none ∧ onlyChan ch s t)) ∧
  (∀ s ch g, (pgGet (chanOf s ch) g).inPulse = false →
    Does (.pulseInactiveEdge ch g) s (fun t => chanOf t ch = commitsEnded (chanOf s ch)))

/-- 17 R513, R514, R520 to R526: attempts and their ends, error counters and bus-off. -/
def Obligations.can_transmission : Prop :=
  (∀ s ch n p b x, kGet (chanOf s ch).can n = some p → p.cur = none → p.busOff = false → leads (chanOf s ch) = true →
    (canMode (chanOf s ch) p = 1 ∨ canMode (chanOf s ch) p = 3) → canNext p = some b → kGet p.bufs b = some x → x.locked = none →
    Does (.canAttemptStart ch ⟨n, false⟩) s (fun t => kGet (chanOf t ch).can n = some { p with
        cur := some (b, wordsFrame x.words), bufs := kPut p.bufs b { x with pend := false } } ∧
      zGet (chanOf t ch).ctr (od (canIndex n) 0x0F) = zGet (chanOf s ch).ctr (od (canIndex n) 0x0F) + 1 ∧
      zGet (chanOf t ch).ctr (od (bufIndex n b) 6) = zGet (chanOf s ch).ctr (od (bufIndex n b) 6) + 1 ∧ onlyChan ch s t)) ∧
  (∀ s ch n p b x, kGet (chanOf s ch).can n = some p → p.cur = none → p.busOff = false → leads (chanOf s ch) = true →
    (canMode (chanOf s ch) p = 1 ∨ canMode (chanOf s ch) p = 3) → canNext p = some b → kGet p.bufs b = some x → x.locked ≠ some 1 →
    Does (.canAttemptStart ch ⟨n, true⟩) s (fun t => kGet (chanOf t ch).can n = some { p with
      bufs := kPut p.bufs b { x with locked := some 0 } } ∧ onlyChan ch s t)) ∧
  (∀ s ch n stall p b x, kGet (chanOf s ch).can n = some p → canNext p = some b → kGet p.bufs b = some x → x.locked = some 1 →
    Does (.canAttemptStart ch ⟨n, stall⟩) s (fun t => chanOf t ch = commitsEnded (chanOf s ch))) ∧
  (∀ s ch n stall, leads (chanOf s ch) = false → Does (.canAttemptStart ch ⟨n, stall⟩) s (fun t => chanOf t ch = commitsEnded (chanOf s ch))) ∧
  (∀ s ch n p b f x, kGet (chanOf s ch).can n = some p → p.cur = some (b, f) → kGet p.bufs b = some x → p.loop = false → p.tec ≤ 255 →
    Does (.canAttemptEnd ch n 2) s (fun t => (kGet (chanOf t ch).can n).map (fun q => (q.cur, q.tec, q.rec_, q.busOff)) =
        some (none, p.tec - 1, p.rec_, p.busOff) ∧
      ((kGet (chanOf t ch).can n).bind (fun q => kGet q.bufs b)).map (fun y => y.hist.head?) =
        some (some (canTick (chanOf s ch), 2)) ∧
      Emission.can n f ∈ (chanOf t ch).emitted ∧
      zGet (chanOf t ch).ctr (od (canIndex n) 0x10) = zGet (chanOf s ch).ctr (od (canIndex n) 0x10) + 1 ∧ onlyChan ch s t)) ∧
  (∀ s ch n p b f x, kGet (chanOf s ch).can n = some p → p.cur = some (b, f) → kGet p.bufs b = some x → p.loop = false → p.busOff = false →
    247 < p.tec → p.tec ≤ 255 →
    Does (.canAttemptEnd ch n 5) s (fun t => (kGet (chanOf t ch).can n).map (fun q => (q.cur, q.tec, q.busOff)) = some (none, 256, true) ∧
      (∀ q k y, kGet (chanOf t ch).can n = some q → kGet q.bufs k = some y → y.pend = false) ∧
      zGet (chanOf t ch).ctr (od (canIndex n) 0x15) = zGet (chanOf s ch).ctr (od (canIndex n) 0x15) + 1)) ∧
  (∀ s ch n p, kGet (chanOf s ch).can n = some p → p.busOff = true → (p.cfg.hostRec = false ∨ p.recovering = true) →
    Does (.busOffRecovery ch n) s (fun t => kGet (chanOf t ch).can n =
      some { p with busOff := false, recovering := false, tec := 0, rec_ := 0 } ∧ onlyChan ch s t)) ∧
  (∀ s ch n p, kGet (chanOf s ch).can n = some p → p.cfg.hostRec = true → p.recovering = false →
    Does (.busOffRecovery ch n) s (fun t => chanOf t ch = commitsEnded (chanOf s ch))) ∧
  (∀ s ch n p, kGet (chanOf s ch).can n = some p → canEntries (chanOf s ch) n p.cfg ≠ p.cfg → p.cur = none →
    Does (.canPortReinit ch n) s (fun t => kGet (chanOf t ch).can n = some { p with
      cfg := canEntries (chanOf s ch) n p.cfg, tec := 0, rec_ := 0, busOff := false, recovering := false } ∧ onlyChan ch s t)) ∧
  (∀ s ch n p d, kGet (chanOf s ch).can n = some p → canMode (chanOf s ch) p = 1 → p.busOff = false → p.tec ≤ 255 →
    Does (.canReceiveError ch n d) s (fun t => kGet (chanOf t ch).can n = some { p with rec_ := p.rec_ + (if d then 8 else 1) } ∧ onlyChan ch s t)) ∧
  (∀ s ch n code, Does (.nmtCommand ch n code) s (fun t => chanOf t ch = commitsEnded (chanOf s ch) ∧ onlyChan ch s t))

/-- 17 R511, R516 to R518, R524: reception, source copies and locks. -/
def Obligations.can_reception : Prop :=
  (∀ s ch n p f b x, kGet (chanOf s ch).can n = some p → canMode (chanOf s ch) p = 1 →
    (injGet (chanOf s ch) (12 + n)).armed = false → p.tec ≤ 255 → p.bufs = [(b, x)] → bufMatches f x = true →
    f.rtr = false → x.locked = none → x.fresh = false →
    Does (.canFrameReceived ch n f) s (fun t =>
      ((kGet (chanOf t ch).can n).bind (fun q => kGet q.bufs b)).map (fun y => y.words) = some (frameWords f (canTick (chanOf s ch))) ∧
      (∀ q, kGet (chanOf t ch).can n = some q → (127 < p.rec_ → 119 ≤ q.rec_ ∧ q.rec_ ≤ 127) ∧ (p.rec_ ≤ 127 → q.rec_ = p.rec_ - 1)) ∧
      zGet (chanOf t ch).ctr (od (canIndex n) 0x0D) = zGet (chanOf s ch).ctr (od (canIndex n) 0x0D) + 1 ∧
      zGet (chanOf t ch).ctr (od (canIndex n) 0x0E) = zGet (chanOf s ch).ctr (od (canIndex n) 0x0E) ∧ onlyChan ch s t)) ∧
  (∀ s ch n p f, kGet (chanOf s ch).can n = some p → canMode (chanOf s ch) p = 2 →
    (injGet (chanOf s ch) (12 + n)).armed = false → (∀ y ∈ p.bufs, bufMatches f y.2 = false) →
    Does (.canFrameReceived ch n f) s (fun t => (chanOf t ch).can = (chanOf s ch).can ∧
      zGet (chanOf t ch).ctr (od (canIndex n) 0x0D) = zGet (chanOf s ch).ctr (od (canIndex n) 0x0D) + 1 ∧
      zGet (chanOf t ch).ctr (od (canIndex n) 0x0E) = zGet (chanOf s ch).ctr (od (canIndex n) 0x0E) + 1)) ∧
  (∀ s ch n p f, kGet (chanOf s ch).can n = some p → (canMode (chanOf s ch) p = 0 ∨ canMode (chanOf s ch) p = 3) →
    (injGet (chanOf s ch) (12 + n)).armed = false →
    Does (.canFrameReceived ch n f) s (fun t => chanOf t ch = commitsEnded (chanOf s ch))) ∧
  (∀ s ch i p x g n k, kGet (chanOf s ch).can (i / 64 + 1) = some p → kGet p.bufs (i % 64) = some x →
    canBinding (chanOf s ch) (i / 64 + 1) (i % 64) = some (n, k) → kGet (chanOf s ch).graphs n = some g → x.fresh = true → x.shadow = none →
    x.locked = none → sourceRoom g k = true →
    Does (.canSourceCopy ch ⟨i, false⟩) s (fun t => (∃ tok : Token, tok.pay = x.words.take 18 ∧
        kGet (chanOf t ch).graphs n = some (pushTok (ringKey true k 0) tok g)) ∧
      ((kGet (chanOf t ch).can (i / 64 + 1)).bind (fun q => kGet q.bufs (i % 64))) = some { x with fresh := false } ∧ onlyChan ch s t)) ∧
  (∀ s ch i stall p x, kGet (chanOf s ch).can (i / 64 + 1) = some p → kGet p.bufs (i % 64) = some x →
    (x.locked = some 0 ∨ x.locked = none ∧ x.fresh = false) →
    Does (.canSourceCopy ch ⟨i, stall⟩) s (fun t => chanOf t ch = commitsEnded (chanOf s ch))) ∧
  (∀ s ch i p x, kGet (chanOf s ch).can (i / 64 + 1) = some p → kGet p.bufs (i % 64) = some x → x.locked = none → x.fresh = true →
    canBinding (chanOf s ch) (i / 64 + 1) (i % 64) ≠ none →
    Does (.canSourceCopy ch ⟨i, true⟩) s (fun t => kGet (chanOf t ch).can (i / 64 + 1) =
      some { p with bufs := kPut p.bufs (i % 64) { x with locked := some 1 } } ∧ (chanOf t ch).graphs = (chanOf s ch).graphs ∧ onlyChan ch s t)) ∧
  (∀ s ch i p x, kGet (chanOf s ch).can (i / 64 + 1) = some p → kGet p.bufs (i % 64) = some x → x.locked ≠ none → x.shadow = none →
    x.waiting = [] →
    Does (.canLockTimeout ch i) s (fun t =>
      ((kGet (chanOf t ch).can (i / 64 + 1)).bind (fun q => kGet q.bufs (i % 64))) = some { x with locked := none } ∧
      zGet (chanOf t ch).ctr (od (canIndex (i / 64 + 1)) 0x16) = zGet (chanOf s ch).ctr (od (canIndex (i / 64 + 1)) 0x16) + 1 ∧ onlyChan ch s t)) ∧
  (∀ s ch i p x w, kGet (chanOf s ch).can (i / 64 + 1) = some p → kGet p.bufs (i % 64) = some x → x.locked ≠ none → x.shadow = some w →
    x.waiting = [] → canBinding (chanOf s ch) (i / 64 + 1) (i % 64) = none →
    Does (.canLockTimeout ch i) s (fun t =>
      ((kGet (chanOf t ch).can (i / 64 + 1)).bind (fun q => kGet q.bufs (i % 64))) =
        some { x with words := w, fresh := false, shadow := none, locked := none } ∧
      zGet (chanOf t ch).ctr (od (canIndex (i / 64 + 1)) 0x16) = zGet (chanOf s ch).ctr (od (canIndex (i / 64 + 1)) 0x16) + 1 ∧ onlyChan ch s t))

/-- 17 R527; 21 R627, R628: the service ports' transfers, their timeout, and the heartbeat. -/
def Obligations.service_port_transfers : Prop :=
  (∀ s ch n index sub most r v, SvcReady (chanOf s ch) n index sub r → r.access ≠ 3 → r.ty ≠ 0x0F → ¬(index = 0x3100 ∧ sub = 0x10) →
    ¬(index = 0x2D00 ∧ sub = 0x15) → ¬(index = 0x2100 ∧ sub = 0x14) → valueOf s.bridge (commitsEnded (chanOf s ch)) r index sub = some v →
    Does (.usdoUpload ch n index sub 0 most) s (fun t => (chanOf t ch).emitted = (chanOf s ch).emitted ++
      [.completion 66 0 (readHead index sub r.ty v.length 0 (slice v 0 (min most 2147483648)).length ++ slice v 0 (min most 2147483648))] ∧
      onlyChan ch s t)) ∧
  (∀ s ch n index sub total data r, SvcReady (chanOf s ch) n index sub r → r.access ≠ 1 → r.access ≠ 4 → r.ty = 0x0F →
    isImageKey index sub = false → r.mask.testBit (modeCode (chanOf s ch).boot.mode - 1) = true →
    (chanOf s ch).dict.sessions.any (fun x => x.key == od index sub && x.path != .svc (chanOf s ch).id n && !x.timedOut) = false →
    total ≤ r.maxLen → data.length ≤ total → data.length ≤ 2147483648 →
    Does (.usdoDownload ch n index sub true false total data) s (fun t => sessionOf (.svc (chanOf s ch).id n) (od index sub) (chanOf t ch) =
      some ⟨od index sub, .svc (chanOf s ch).id n, total, data, false⟩)) ∧
  (∀ s ch n index sub first last total data, serviceUp (chanOf s ch) n = false →
    Does (.usdoDownload ch n index sub first last total data) s (fun t => chanOf t ch = commitsEnded (chanOf s ch))) ∧
  (∀ s ch n x, (chanOf s ch).dict.sessions.find? (fun x => x.path == .svc (chanOf s ch).id n && !x.timedOut) = some x →
    Does (.usdoTimeout ch n) s (fun t => sessionOf (.svc (chanOf s ch).id n) x.key (chanOf t ch) = none ∧
      (chanOf t ch).emitted = (chanOf s ch).emitted ++ [.completion 66 0x010B []] ∧ onlyChan ch s t)) ∧
  (∀ s ch n p, kGet (chanOf s ch).can n = some p → serviceUp (chanOf s ch) n = true → entryNat (chanOf s ch) 0x1017 0 1000 ≠ 0 →
    Does (.heartbeat ch n) s (fun t => (chanOf t ch).emitted = (chanOf s ch).emitted ++
      [.can n ⟨0x700 + nodeOf (chanOf s ch) p.cfg, false, true, p.cfg.data != 0, false, false, [5]⟩] ∧ onlyChan ch s t)) ∧
  (∀ s ch n, entryNat (chanOf s ch) 0x1017 0 1000 = 0 →
    Does (.heartbeat ch n) s (fun t => chanOf t ch = commitsEnded (chanOf s ch)))

/-- 18 R535, R536, R540 to R545, R552 to R554: rows, segments, triggers and the store. -/
def Obligations.pleat_recording : Prop :=
  (∀ s ch d x, kGet (chanOf s ch).pleat.defs d = some x → x.st ≠ .stopped →
    (fillRow (chanOf s ch) x.cfg.owner (instantOf x.cfg.rate x.next) x.cfg.sigs x.row).all (fun v => v.isSome) = false →
    Does (.pleatRowCapture ⟨ch, []⟩ d) s (fun t => kGet (chanOf t ch).pleat.defs d =
      some { x with row := fillRow (chanOf s ch) x.cfg.owner (instantOf x.cfg.rate x.next) x.cfg.sigs x.row } ∧ onlyChan ch s t)) ∧
  (∀ s ch d x, kGet (chanOf s ch).pleat.defs d = some x → x.st ≠ .stopped → x.opened = none →
    (fillRow (chanOf s ch) x.cfg.owner (instantOf x.cfg.rate x.next) x.cfg.sigs x.row).all (fun v => v.isSome) = true →
    Does (.pleatRowCapture ⟨ch, []⟩ d) s (fun t => (kGet (chanOf t ch).pleat.defs d).map (fun y => (y.next, y.row, y.st)) = some (x.next + 1, [], x.st) ∧
      (∀ y, kGet (chanOf t ch).pleat.defs d = some y → y.ring.length ≤ ringRows x.cfg - pinnedRows (chanOf s ch) d) ∧
      zGet (chanOf t ch).ctr (od (defIndex d) 6) = zGet (chanOf s ch).ctr (od (defIndex d) 6) + 1 ∧ onlyChan ch s t)) ∧
  (∀ s ch d x o, kGet (chanOf s ch).pleat.defs d = some x → x.st = .recording → x.opened = some o → o.last ≤ x.next →
    (fillRow (chanOf s ch) x.cfg.owner (instantOf x.cfg.rate x.next) x.cfg.sigs x.row).all (fun v => v.isSome) = true →
    Does (.pleatRowCapture ⟨ch, []⟩ d) s (fun t => (kGet (chanOf t ch).pleat.defs d).map (fun y => (y.next, y.st, y.opened)) =
        some (x.next + 1, .rearming, none) ∧
      zGet (chanOf t ch).ctr (od 0x2D00 5) = zGet (chanOf s ch).ctr (od 0x2D00 5) + 1)) ∧
  (∀ s ch d x, kGet (chanOf s ch).pleat.defs d = some x → x.st = .rearming → x.heldTrig = [] →
    Does (.rearmComplete ch d) s (fun t => kGet (chanOf t ch).pleat.defs d = some { x with st := .armed } ∧ onlyChan ch s t)) ∧
  (∀ s ch d b rest x, (chanOf s ch).pleat.manual = (d, b) :: rest → kGet (chanOf s ch).pleat.defs d = some x → x.st = .armed →
    pinnedRows (chanOf s ch) d + 2 * x.cfg.n ≤ ringRows x.cfg → x.next ≤ numberAt x.cfg.rate b + x.cfg.n - x.cfg.p - 1 →
    Does (.manualTriggerInstant ch) s (fun t => (chanOf t ch).pleat.manual = rest ∧
      (kGet (chanOf t ch).pleat.defs d).map (fun y => (y.st, y.opened.map (fun o => (o.trigSrc, o.trigInstant, o.trigRow)))) =
        some (.recording, some (0x8000, b, numberAt x.cfg.rate b)) ∧ onlyChan ch s t)) ∧
  (∀ s ch d b rest x, (chanOf s ch).pleat.manual = (d, b) :: rest → kGet (chanOf s ch).pleat.defs d = some x → x.st = .armed →
    ringRows x.cfg < pinnedRows (chanOf s ch) d + 2 * x.cfg.n →
    Does (.manualTriggerInstant ch) s (fun t => kGet (chanOf t ch).pleat.defs d = some x ∧
      zGet (chanOf t ch).ctr (od 0x2D00 7) = zGet (chanOf s ch).ctr (od 0x2D00 7) + 1)) ∧
  (∀ s ch x rest, (chanOf s ch).pleat.queue = x :: rest → (chanOf s ch).pleat.writing = none → (chanOf s ch).psu.pwarn = false →
    runtimeUp (chanOf s ch) = true → storeUsed (chanOf s ch).pleat.store + storeBlocks x ≤ storeCapacity →
    Does (.storeWriteStart ch) s (fun t => (chanOf t ch).pleat = { (chanOf s ch).pleat with queue := rest, writing := some x } ∧ onlyChan ch s t)) ∧
  (∀ s ch, (chanOf s ch).psu.pwarn = true → Does (.storeWriteStart ch) s (fun t => chanOf t ch = commitsEnded (chanOf s ch))) ∧
  (∀ s ch x, (chanOf s ch).pleat.writing = some x →
    Does (.storeWriteComplete ch) s (fun t => (chanOf t ch).pleat = { (chanOf s ch).pleat with
      writing := none, store := (chanOf s ch).pleat.store ++ [x], segs := (chanOf s ch).pleat.segs ++ [x] } ∧ onlyChan ch s t))

/-- 18 R546: an armed definition opens a segment at a trigger only if, with that segment pinned, the unpinned part of the ring would still
hold N rows; otherwise the trigger is counted as NO_ROOM and the definition stays ARMED. Every trigger source reaches a definition through
`triggerDef`; a manual trigger does so at its instant. -/
def Obligations.pleat_segment_needs_room : Prop :=
  (∀ (c : Channel) d src b x, kGet c.pleat.defs d = some x → x.st = .armed →
    (x.cfg.n ≤ (ringRows x.cfg : Int) - pinnedRows c d - x.cfg.n → ∃ y, kGet (triggerDef d src b c).pleat.defs d = some y ∧ y.st ≠ .armed ∧
      zGet (triggerDef d src b c).ctr (od 0x2D00 7) = zGet c.ctr (od 0x2D00 7)) ∧
    ((ringRows x.cfg : Int) - pinnedRows c d - x.cfg.n < x.cfg.n → kGet (triggerDef d src b c).pleat.defs d = some x ∧
      zGet (triggerDef d src b c).ctr (od 0x2D00 7) = zGet c.ctr (od 0x2D00 7) + 1 ∧
      zGet (triggerDef d src b c).ctr (od (defIndex d) 5) = zGet c.ctr (od (defIndex d) 5) + 1)) ∧
  (∀ s ch d b rest, (chanOf s ch).pleat.manual = (d, b) :: rest →
    Does (.manualTriggerInstant ch) s (fun t =>
      chanOf t ch = triggerDef d 0x8000 b (advanceTo b { commitsEnded (chanOf s ch) with pleat := { (chanOf s ch).pleat with manual := rest } })))

/-- 19 R573, R576, R578, R579: key commands at their boundary, and the retry of commits. -/
def Obligations.key_commands_take_effect : Prop :=
  (∀ s ch k rest, (chanOf s ch).keys.pend = k :: rest → k.cmd = 3 → (slotAt (chanOf s ch) (kSlot k.body)).st ≠ 0 →
    holdupOk (chanOf s ch).psu 0 energyKey = true →
    Does (.keyCommandEffect ch) s (fun t => (chanOf t ch).keys.pend = rest ∧ (chanOf t ch).keys.result = 0 ∧
      slotAt (chanOf t ch) (kSlot k.body) = { keySlotEmpty with
        gen := (slotAt (chanOf s ch) (kSlot k.body)).gen, owner := (slotAt (chanOf s ch) (kSlot k.body)).owner, uncommitted := false } ∧
      zGet (chanOf t ch).ctr (od 0x2E00 4) = zGet (chanOf s ch).ctr (od 0x2E00 4) + 1 ∧ onlyChan ch s t)) ∧
  (∀ s ch k rest, (chanOf s ch).keys.pend = k :: rest → k.cmd = 3 → (slotAt (chanOf s ch) (kSlot k.body)).st = 0 →
    Does (.keyCommandEffect ch) s (fun t => (chanOf t ch).keys = { (chanOf s ch).keys with pend := rest, result := 2 })) ∧
  (∀ s ch k rest, (chanOf s ch).keys.pend = k :: rest → k.cmd = 4 → kRights k.body &&& 0x60 = kRights k.body →
    parentOk (chanOf s ch) (kParent k.body) = true → kParent k.body < 512 → (slotAt (chanOf s ch) (kSlot k.body)).st = 0 →
    holdupOk (chanOf s ch).psu 0 energyKey = true →
    Does (.keyCommandEffect ch) s (fun t => (chanOf t ch).keys.pend = rest ∧ (chanOf t ch).keys.result = 0 ∧
      (let old := slotAt (chanOf s ch) (kSlot k.body)
       let owner := (slotAt (chanOf s ch) (kParent k.body)).owner
       slotAt (chanOf t ch) (kSlot k.body) = { keySlotEmpty with
         kind := 5, rights := BitVec.ofNat 32 (kRights k.body), owner := owner, parent := kParent k.body, st := 1, gen := old.gen
         key := derivedKey (chanOf s ch) (kParent k.body) owner (kSlot k.body) old.gen ((kBody k.body).take 16)
         label := (kBody k.body).take 16, uncommitted := false }))) ∧
  (∀ s ch k rest, (chanOf s ch).keys.pend = k :: rest → k.cmd = 4 → kRights k.body &&& 0x60 ≠ kRights k.body →
    Does (.keyCommandEffect ch) s (fun t => (chanOf t ch).keys = { (chanOf s ch).keys with pend := rest, result := 3 })) ∧
  (∀ s ch k x, (chanOf s ch).keys.slots.filter (fun p => p.2.uncommitted) = [(k, x)] → holdupOk (chanOf s ch).psu 0 energyKey = true →
    Does (.keyCommitRetry ch) s (fun t => (slotAt (chanOf t ch) k).uncommitted = false ∧
      zGet (chanOf t ch).ctr (od 0x2E00 4) = zGet (chanOf s ch).ctr (od 0x2E00 4) + 1 ∧ onlyChan ch s t)) ∧
  (∀ s ch, holdupOk (chanOf s ch).psu 0 energyKey = false →
    Does (.keyCommitRetry ch) s (fun t => chanOf t ch = commitsEnded (chanOf s ch))) ∧
  (∀ s ch b, (chanOf s ch).keys.request = some b →
    Does (.attestationStatementReady ch) s (fun t => (chanOf t ch).keys = { (chanOf s ch).keys with
      request := none, statement := statementFor b (chanOf s ch) } ∧ onlyChan ch s t))

/-- 19 R582, R583: the two tamper sources; a pulse under 1 µs, and a channel without power, are none. -/
def Obligations.zeroisation : Prop :=
  (∀ s ch, (chanOf s ch).boot.powered = true →
    Does (.mantleMeshBreach ch) s (fun t => zeroised (chanOf t ch) ∧ (chanOf t ch).keysNv.cellsA = (chanOf s ch).keysNv.cellsA ∧ onlyChan ch s t)) ∧
  (∀ s ch ns, (chanOf s ch).boot.powered = true → 1000 ≤ ns → Does (.tamperNAsserted ch ns) s (fun t => zeroised (chanOf t ch) ∧ onlyChan ch s t)) ∧
  (∀ s ch ns, ns < 1000 → Does (.tamperNAsserted ch ns) s (fun t => chanOf t ch = commitsEnded (chanOf s ch))) ∧
  (∀ s ch ns, (chanOf s ch).boot.powered = false →
    Does (.mantleMeshBreach ch) s (fun t => chanOf t ch = commitsEnded (chanOf s ch)) ∧
    Does (.tamperNAsserted ch ns) s (fun t => chanOf t ch = commitsEnded (chanOf s ch)))

/-- 20 R595 to R598, R604 to R606, R609; 22 R643 to R645, R649: samples, batches, the header a batch leaves in force, snapshots, and an injector's duration. -/
def Obligations.ledger_and_snapshots : Prop :=
  (∀ s ch q v, histSampled (chanOf s ch) q = true →
    Does (.histogramSample ch q v) s (fun t =>
      zGet (chanOf t ch).ledger.accBins (q * 64 + histBin q v) = zGet (chanOf s ch).ledger.accBins (q * 64 + histBin q v) + 1 ∧
      kGet (chanOf t ch).ledger.accExt q = some (match kGet (chanOf s ch).ledger.accExt q with
        | none => (f32OfRat v 1000, f32OfRat v 1000, ledgerTime (chanOf s ch), ledgerTime (chanOf s ch))
        | some (lo, hi, tl, th) =>
          (if f32Lt (f32OfRat v 1000) lo then f32OfRat v 1000 else lo, if f32Lt hi (f32OfRat v 1000) then f32OfRat v 1000 else hi,
            if f32Lt (f32OfRat v 1000) lo then ledgerTime (chanOf s ch) else tl, if f32Lt hi (f32OfRat v 1000) then ledgerTime (chanOf s ch) else th)) ∧
      (chanOf t ch).ledgerNv = (chanOf s ch).ledgerNv ∧ onlyChan ch s t)) ∧
  (∀ s ch f, ledgerRuns (chanOf s ch) = true → (chanOf s ch).psu.pwarn = false → (chanOf s ch).ledger.refused = false →
    (chanOf s ch).ledger.queue = [] → holdupOk (chanOf s ch).psu 0 energyBatch = true → headerInForce (chanOf s ch).ledgerNv = some f →
    f.writes.toNat + 1 < 2 ^ 32 →
    Does (.ledgerBatch ch) s (fun t => headerInForce (chanOf t ch).ledgerNv = some { f with
        writes := f.writes + 1, time := ledgerTime (chanOf s ch), ceiling := (chanOf s ch).journal.next + 16777216 } ∧
      (chanOf t ch).ledgerNv.log = (chanOf s ch).ledgerNv.log ∧ (chanOf t ch).ledger.accBins = [] ∧
      zGet (chanOf t ch).ctr (od 0x2F00 9) = zGet (chanOf s ch).ctr (od 0x2F00 9) + 1 ∧ onlyChan ch s t)) ∧
  (∀ s ch, ledgerRuns (chanOf s ch) = true → (chanOf s ch).psu.pwarn = false → (chanOf s ch).ledger.refused = false →
    (chanOf s ch).ledger.queue = [] → holdupOk (chanOf s ch).psu 0 energyBatch = true → headerInForce (chanOf s ch).ledgerNv = none →
    Does (.ledgerBatch ch) s (fun t => (chanOf t ch).ledgerNv.hdrA.valid = true ∧ (chanOf t ch).ledgerNv.hdrA.writes = 1 ∧
      (chanOf t ch).ledgerNv.hdrB = (chanOf s ch).ledgerNv.hdrB)) ∧
  (∀ s ch, ledgerRuns (chanOf s ch) = true → (chanOf s ch).psu.pwarn = false → (chanOf s ch).ledger.refused = false →
    holdupOk (chanOf s ch).psu 0 energyBatch = false →
    Does (.ledgerBatch ch) s (fun t => (chanOf t ch).ledgerNv = (chanOf s ch).ledgerNv ∧ (chanOf t ch).ledger.refused = true ∧
      zGet (chanOf t ch).ctr (od 0x2F00 0x0A) = zGet (chanOf s ch).ctr (od 0x2F00 0x0A) + 1)) ∧
  (∀ s ch, (chanOf s ch).psu.pwarn = true → (chanOf s ch).ledger.queue = [] →
    Does (.ledgerBatch ch) s (fun t => chanOf t ch = commitsEnded (chanOf s ch))) ∧
  (∀ s ch, ledgerRuns (chanOf s ch) = true → (chanOf s ch).ledger.refused = true → holdupOk (chanOf s ch).psu 0 energyBatch = true →
    Does (.ledgerBatchRetry ch) s (fun t => (chanOf t ch).ledger.refused = false ∧ (chanOf t ch).ledger.queue = [] ∧
      zGet (chanOf t ch).ctr (od 0x2F00 9) = zGet (chanOf s ch).ctr (od 0x2F00 9) + 1 ∧ onlyChan ch s t)) ∧
  (∀ s ch, holdupOk (chanOf s ch).psu 0 energyBatch = false →
    Does (.ledgerBatchRetry ch) s (fun t => chanOf t ch = commitsEnded (chanOf s ch))) ∧
  (∀ s ch k, runtimeUp (chanOf s ch) = true → (chanOf s ch).diag.snapT = some k →
    Does (.snapshotLatch ch) s (fun t => (chanOf t ch).ctr = (chanOf s ch).ctr ∧ (chanOf t ch).diag.snapStepped = false ∧
      (chanOf t ch).diag.copying.map (fun x => (x.1, x.2.t, x.2.vals, x.2.stepped)) =
        some (if (chanOf s ch).diag.latestBank = some 0 then 1 else 0, k, (chanOf s ch).ctr, (chanOf s ch).diag.snapStepped) ∧ onlyChan ch s t)) ∧
  (∀ s ch, (chanOf s ch).diag.snapT = none → Does (.snapshotLatch ch) s (fun t => chanOf t ch = commitsEnded (chanOf s ch))) ∧
  (∀ s ch k b, (chanOf s ch).diag.copying = some (k, b) →
    Does (.snapshotCopyComplete ch) s (fun t => (chanOf t ch).diag.latestBank = some k ∧ (chanOf t ch).diag.copying = none ∧
      (if k = 0 then (chanOf t ch).diag.bank0 = some b ∧ (chanOf t ch).diag.bank1 = (chanOf s ch).diag.bank1
       else (chanOf t ch).diag.bank1 = some b ∧ (chanOf t ch).diag.bank0 = (chanOf s ch).diag.bank0) ∧
      zGet (chanOf t ch).ctr (od 0x3100 4) = zGet (chanOf s ch).ctr (od 0x3100 4) + 1)) ∧
  (∀ s ch i, (injGet (chanOf s ch) i).armed = true →
    Does (.injectorDurationExpiry ch i) s (fun t => (injGet (chanOf t ch) i).armed = false ∧ (injGet (chanOf t ch) i).status = 2 ∧
      (injGet (chanOf s ch) i).since + entryNat (chanOf s ch) (injIndex i) 7 60 * 1000000000 ≤ (chanOf t ch).time.up ∧ onlyChan ch s t)) ∧
  (∀ s ch i, (injGet (chanOf s ch) i).armed = false →
    Does (.injectorDurationExpiry ch i) s (fun t => chanOf t ch = commitsEnded (chanOf s ch)))

/-- 04 R122: at the default shift of 15 no coefficient set takes the accumulator or the output of a stage into saturation, whatever the
INT32 inputs: for every stage of a plan and every phase of its bank. -/
def Obligations.no_stage_saturates_at_the_default_shift : Prop :=
  ∀ (g : Stage) (phase i : Nat) (x : Nat → Int × Bool), (∀ j, -2147483648 ≤ (x j).1 ∧ (x j).1 ≤ 2147483647) →
    (stageCalc 15 (convolve x i 0 (taps g phase)).1).2 = (false, false)
end

