-- ==== Sys2Proof/Laws/Maps.lean ====
section
/-! SUPPORT. Laws of the sparse tables: reads after writes, and the canonical form that every write keeps. -/
namespace Sys2Proof.Machine

theorem kGet_kPut_same {α : Type} (m : KMap α) (k : Nat) (v : α) : kGet (kPut m k v) k = some v := by
  induction m with
  | nil => simp [kPut, kGet]
  | cons p r ih =>
    obtain ⟨i, w⟩ := p
    unfold kPut
    split
    · simp [kGet]
    · split
      · simp [kGet]
      · rename_i h1 h2
        simp [kGet, ih, Ne.symm h2]

theorem kGet_kPut_other {α : Type} (m : KMap α) (k j : Nat) (v : α) (h : j ≠ k) : kGet (kPut m k v) j = kGet m j := by
  induction m with
  | nil => simp [kPut, kGet, Ne.symm h]
  | cons p r ih =>
    obtain ⟨i, w⟩ := p
    unfold kPut
    split
    · simp [kGet, Ne.symm h]
    · split
      · rename_i h1 h2
        subst h2
        simp [kGet, Ne.symm h]
      · simp [kGet, ih]

theorem kRisingFrom_mono {α : Type} (m : KMap α) {a b : Nat} (h : a ≤ b) (hb : kRisingFrom b m = true) : kRisingFrom a m = true := by
  cases m with
  | nil => rfl
  | cons p r =>
    obtain ⟨i, w⟩ := p
    simp [kRisingFrom] at hb ⊢
    exact ⟨by omega, hb.2⟩

theorem kRisingFrom_kPut {α : Type} (m : KMap α) (lo k : Nat) (v : α) (hk : lo ≤ k) (h : kRisingFrom lo m = true) :
    kRisingFrom lo (kPut m k v) = true := by
  induction m generalizing lo with
  | nil => simp [kPut, kRisingFrom, hk]
  | cons p r ih =>
    obtain ⟨i, w⟩ := p
    simp [kRisingFrom] at h
    unfold kPut
    split
    · rename_i h1
      simp [kRisingFrom, hk, h.2]
      omega
    · split
      · rename_i h1 h2
        subst h2
        simp [kRisingFrom, h.1, h.2]
      · rename_i h1 h2
        simp [kRisingFrom, h.1]
        exact ih (i + 1) (by omega) h.2

theorem kRisingFrom_filter {α : Type} (m : KMap α) (lo : Nat) (p : Nat × α → Bool) (h : kRisingFrom lo m = true) :
    kRisingFrom lo (m.filter p) = true := by
  induction m generalizing lo with
  | nil => rfl
  | cons q r ih =>
    obtain ⟨i, w⟩ := q
    simp [kRisingFrom] at h
    have hr := ih (i + 1) h.2
    by_cases hp : p (i, w) = true
    · simp [hp, kRisingFrom, h.1, hr]
    · simp [hp]
      exact kRisingFrom_mono _ (by omega) hr

theorem kWf_kPut {α : Type} (m : KMap α) (k : Nat) (v : α) (h : kWf m = true) : kWf (kPut m k v) = true :=
  kRisingFrom_kPut m 0 k v (Nat.zero_le k) h

theorem kWf_kDel {α : Type} (m : KMap α) (k : Nat) (h : kWf m = true) : kWf (kDel m k) = true :=
  kRisingFrom_filter m 0 _ h

theorem mem_kPut {α : Type} (m : KMap α) (k : Nat) (v : α) (q : Nat × α) (h : q ∈ kPut m k v) : q = (k, v) ∨ q ∈ m := by
  induction m with
  | nil => simpa [kPut] using h
  | cons p r ih =>
    obtain ⟨i, w⟩ := p
    unfold kPut at h
    split at h
    · simpa using h
    · split at h
      · simp at h ⊢
        tauto
      · simp at h ⊢
        rcases h with h | h
        · exact .inr (.inl h)
        · rcases ih h with h | h
          · exact .inl h
          · exact .inr (.inr h)

/-- Writing a word keeps the canonical form of a table of words. -/
theorem zWf_zPut {w : Nat} (m : KMap (BitVec w)) (k : Nat) (v : BitVec w) (h : zWf m = true) : zWf (zPut m k v) = true := by
  simp only [zWf, Bool.and_eq_true, List.all_eq_true] at h ⊢
  unfold zPut
  split
  · exact ⟨kWf_kDel m k h.1, fun q hq => h.2 q (List.mem_of_mem_filter hq)⟩
  · rename_i hv
    refine ⟨kWf_kPut m k v h.1, fun q hq => ?_⟩
    rcases mem_kPut m k v q hq with rfl | hq
    · simpa using hv
    · exact h.2 q hq

theorem zWf_zAdd {w : Nat} (m : KMap (BitVec w)) (k n : Nat) (h : zWf m = true) : zWf (zAdd m k n) = true := zWf_zPut m k _ h

theorem kGet_kDel_same {α : Type} (m : KMap α) (k : Nat) : kGet (kDel m k) k = none := by
  induction m with
  | nil => rfl
  | cons p r ih =>
    obtain ⟨i, w⟩ := p
    by_cases h : i = k
    · simpa [kDel, List.filter_cons, h] using ih
    · simpa [kDel, List.filter_cons, h, kGet] using ih

theorem kGet_kDel_other {α : Type} (m : KMap α) (k j : Nat) (h : j ≠ k) : kGet (kDel m k) j = kGet m j := by
  induction m with
  | nil => rfl
  | cons p r ih =>
    obtain ⟨i, w⟩ := p
    by_cases hi : i = k
    · subst hi
      simpa [kDel, List.filter_cons, kGet, Ne.symm h] using ih
    · have : kGet (kDel ((i, w) :: r) k) j = if i = j then some w else kGet (kDel r k) j := by
        simp [kDel, hi, kGet]
      rw [this, ih]
      rfl

@[simp] theorem zGet_zPut_same {w : Nat} (m : KMap (BitVec w)) (k : Nat) (v : BitVec w) : zGet (zPut m k v) k = v := by
  unfold zPut zGet
  split
  · rename_i h
    simp [kGet_kDel_same, h]
  · simp [kGet_kPut_same]

theorem zGet_zPut_other {w : Nat} (m : KMap (BitVec w)) (k j : Nat) (v : BitVec w) (h : j ≠ k) : zGet (zPut m k v) j = zGet m j := by
  unfold zPut zGet
  split
  · rw [kGet_kDel_other m k j h]
  · rw [kGet_kPut_other m k j v h]

@[simp] theorem zGet_zAdd_same {w : Nat} (m : KMap (BitVec w)) (k n : Nat) : zGet (zAdd m k n) k = zGet m k + BitVec.ofNat w n := by
  simp [zAdd]

theorem zGet_zAdd_other {w : Nat} (m : KMap (BitVec w)) (k j n : Nat) (h : j ≠ k) : zGet (zAdd m k n) j = zGet m j :=
  zGet_zPut_other m k j _ h

end Sys2Proof.Machine
end

