-- ==== Sys2Proof/Laws/Ops.lean ====
section
/-! SUPPORT. What each shared operation of Machine/Ops.lean leaves alone, field by field. -/
namespace Sys2Proof.Machine

/-- A fold of steps that each keep a field keeps it. -/
theorem foldl_keeps {α β : Type} {g : Channel → β} {f : Channel → α → Channel} (h : ∀ c x, g (f c x) = g c) (l : List α) (c : Channel) :
    g (l.foldl f c) = g c := by
  induction l generalizing c with
  | nil => rfl
  | cons x r ih => exact (ih (f c x)).trans (h c x)

/-- All that `bumpN` changes. -/
theorem bumpN_frame (i sub n : Nat) (c : Channel) : bumpN i sub n c = { c with ctr := (bumpN i sub n c).ctr } := rfl
@[simp] theorem bumpN_id (i sub n : Nat) (c : Channel) : (bumpN i sub n c).id = c.id := rfl
@[simp] theorem bumpN_boot (i sub n : Nat) (c : Channel) : (bumpN i sub n c).boot = c.boot := rfl
@[simp] theorem bumpN_slots (i sub n : Nat) (c : Channel) : (bumpN i sub n c).slots = c.slots := rfl
@[simp] theorem bumpN_time (i sub n : Nat) (c : Channel) : (bumpN i sub n c).time = c.time := rfl
@[simp] theorem bumpN_gens (i sub n : Nat) (c : Channel) : (bumpN i sub n c).gens = c.gens := rfl
@[simp] theorem bumpN_sw (i sub n : Nat) (c : Channel) : (bumpN i sub n c).sw = c.sw := rfl
@[simp] theorem bumpN_ingest (i sub n : Nat) (c : Channel) : (bumpN i sub n c).ingest = c.ingest := rfl
@[simp] theorem bumpN_paths (i sub n : Nat) (c : Channel) : (bumpN i sub n c).paths = c.paths := rfl
@[simp] theorem bumpN_graphs (i sub n : Nat) (c : Channel) : (bumpN i sub n c).graphs = c.graphs := rfl
@[simp] theorem bumpN_disp (i sub n : Nat) (c : Channel) : (bumpN i sub n c).disp = c.disp := rfl
@[simp] theorem bumpN_pub (i sub n : Nat) (c : Channel) : (bumpN i sub n c).pub = c.pub := rfl
@[simp] theorem bumpN_lse (i sub n : Nat) (c : Channel) : (bumpN i sub n c).lse = c.lse := rfl
@[simp] theorem bumpN_retain (i sub n : Nat) (c : Channel) : (bumpN i sub n c).retain = c.retain := rfl
@[simp] theorem bumpN_host (i sub n : Nat) (c : Channel) : (bumpN i sub n c).host = c.host := rfl
@[simp] theorem bumpN_seam (i sub n : Nat) (c : Channel) : (bumpN i sub n c).seam = c.seam := rfl
@[simp] theorem bumpN_sleeves (i sub n : Nat) (c : Channel) : (bumpN i sub n c).sleeves = c.sleeves := rfl
@[simp] theorem bumpN_can (i sub n : Nat) (c : Channel) : (bumpN i sub n c).can = c.can := rfl
@[simp] theorem bumpN_pleat (i sub n : Nat) (c : Channel) : (bumpN i sub n c).pleat = c.pleat := rfl
@[simp] theorem bumpN_keysNv (i sub n : Nat) (c : Channel) : (bumpN i sub n c).keysNv = c.keysNv := rfl
@[simp] theorem bumpN_keys (i sub n : Nat) (c : Channel) : (bumpN i sub n c).keys = c.keys := rfl
@[simp] theorem bumpN_journal (i sub n : Nat) (c : Channel) : (bumpN i sub n c).journal = c.journal := rfl
@[simp] theorem bumpN_ledgerNv (i sub n : Nat) (c : Channel) : (bumpN i sub n c).ledgerNv = c.ledgerNv := rfl
@[simp] theorem bumpN_ledger (i sub n : Nat) (c : Channel) : (bumpN i sub n c).ledger = c.ledger := rfl
@[simp] theorem bumpN_dict (i sub n : Nat) (c : Channel) : (bumpN i sub n c).dict = c.dict := rfl
@[simp] theorem bumpN_diag (i sub n : Nat) (c : Channel) : (bumpN i sub n c).diag = c.diag := rfl
@[simp] theorem bumpN_psu (i sub n : Nat) (c : Channel) : (bumpN i sub n c).psu = c.psu := rfl
@[simp] theorem bumpN_epUJ (i sub n : Nat) (c : Channel) : (bumpN i sub n c).epUJ = c.epUJ := rfl
@[simp] theorem bumpN_temp (i sub n : Nat) (c : Channel) : (bumpN i sub n c).temp = c.temp := rfl
@[simp] theorem bumpN_tempOut (i sub n : Nat) (c : Channel) : (bumpN i sub n c).tempOut = c.tempOut := rfl
@[simp] theorem bumpN_emitted (i sub n : Nat) (c : Channel) : (bumpN i sub n c).emitted = c.emitted := rfl
@[simp] theorem bumpN_free (i sub n : Nat) (c : Channel) : (bumpN i sub n c).free = c.free := rfl

/-- All that `bump` changes. -/
theorem bump_frame (i sub : Nat) (c : Channel) : bump i sub c = { c with ctr := (bump i sub c).ctr } := rfl
@[simp] theorem bump_id (i sub : Nat) (c : Channel) : (bump i sub c).id = c.id := rfl
@[simp] theorem bump_boot (i sub : Nat) (c : Channel) : (bump i sub c).boot = c.boot := rfl
@[simp] theorem bump_slots (i sub : Nat) (c : Channel) : (bump i sub c).slots = c.slots := rfl
@[simp] theorem bump_time (i sub : Nat) (c : Channel) : (bump i sub c).time = c.time := rfl
@[simp] theorem bump_gens (i sub : Nat) (c : Channel) : (bump i sub c).gens = c.gens := rfl
@[simp] theorem bump_sw (i sub : Nat) (c : Channel) : (bump i sub c).sw = c.sw := rfl
@[simp] theorem bump_ingest (i sub : Nat) (c : Channel) : (bump i sub c).ingest = c.ingest := rfl
@[simp] theorem bump_paths (i sub : Nat) (c : Channel) : (bump i sub c).paths = c.paths := rfl
@[simp] theorem bump_graphs (i sub : Nat) (c : Channel) : (bump i sub c).graphs = c.graphs := rfl
@[simp] theorem bump_disp (i sub : Nat) (c : Channel) : (bump i sub c).disp = c.disp := rfl
@[simp] theorem bump_pub (i sub : Nat) (c : Channel) : (bump i sub c).pub = c.pub := rfl
@[simp] theorem bump_lse (i sub : Nat) (c : Channel) : (bump i sub c).lse = c.lse := rfl
@[simp] theorem bump_retain (i sub : Nat) (c : Channel) : (bump i sub c).retain = c.retain := rfl
@[simp] theorem bump_host (i sub : Nat) (c : Channel) : (bump i sub c).host = c.host := rfl
@[simp] theorem bump_seam (i sub : Nat) (c : Channel) : (bump i sub c).seam = c.seam := rfl
@[simp] theorem bump_sleeves (i sub : Nat) (c : Channel) : (bump i sub c).sleeves = c.sleeves := rfl
@[simp] theorem bump_can (i sub : Nat) (c : Channel) : (bump i sub c).can = c.can := rfl
@[simp] theorem bump_pleat (i sub : Nat) (c : Channel) : (bump i sub c).pleat = c.pleat := rfl
@[simp] theorem bump_keysNv (i sub : Nat) (c : Channel) : (bump i sub c).keysNv = c.keysNv := rfl
@[simp] theorem bump_keys (i sub : Nat) (c : Channel) : (bump i sub c).keys = c.keys := rfl
@[simp] theorem bump_journal (i sub : Nat) (c : Channel) : (bump i sub c).journal = c.journal := rfl
@[simp] theorem bump_ledgerNv (i sub : Nat) (c : Channel) : (bump i sub c).ledgerNv = c.ledgerNv := rfl
@[simp] theorem bump_ledger (i sub : Nat) (c : Channel) : (bump i sub c).ledger = c.ledger := rfl
@[simp] theorem bump_dict (i sub : Nat) (c : Channel) : (bump i sub c).dict = c.dict := rfl
@[simp] theorem bump_diag (i sub : Nat) (c : Channel) : (bump i sub c).diag = c.diag := rfl
@[simp] theorem bump_psu (i sub : Nat) (c : Channel) : (bump i sub c).psu = c.psu := rfl
@[simp] theorem bump_epUJ (i sub : Nat) (c : Channel) : (bump i sub c).epUJ = c.epUJ := rfl
@[simp] theorem bump_temp (i sub : Nat) (c : Channel) : (bump i sub c).temp = c.temp := rfl
@[simp] theorem bump_tempOut (i sub : Nat) (c : Channel) : (bump i sub c).tempOut = c.tempOut := rfl
@[simp] theorem bump_emitted (i sub : Nat) (c : Channel) : (bump i sub c).emitted = c.emitted := rfl
@[simp] theorem bump_free (i sub : Nat) (c : Channel) : (bump i sub c).free = c.free := rfl

/-- All that `setRo` changes. -/
theorem setRo_frame (i sub v : Nat) (c : Channel) : setRo i sub v c = { c with dict := (setRo i sub v c).dict } := rfl
@[simp] theorem setRo_id (i sub v : Nat) (c : Channel) : (setRo i sub v c).id = c.id := rfl
@[simp] theorem setRo_boot (i sub v : Nat) (c : Channel) : (setRo i sub v c).boot = c.boot := rfl
@[simp] theorem setRo_slots (i sub v : Nat) (c : Channel) : (setRo i sub v c).slots = c.slots := rfl
@[simp] theorem setRo_time (i sub v : Nat) (c : Channel) : (setRo i sub v c).time = c.time := rfl
@[simp] theorem setRo_gens (i sub v : Nat) (c : Channel) : (setRo i sub v c).gens = c.gens := rfl
@[simp] theorem setRo_sw (i sub v : Nat) (c : Channel) : (setRo i sub v c).sw = c.sw := rfl
@[simp] theorem setRo_ingest (i sub v : Nat) (c : Channel) : (setRo i sub v c).ingest = c.ingest := rfl
@[simp] theorem setRo_paths (i sub v : Nat) (c : Channel) : (setRo i sub v c).paths = c.paths := rfl
@[simp] theorem setRo_graphs (i sub v : Nat) (c : Channel) : (setRo i sub v c).graphs = c.graphs := rfl
@[simp] theorem setRo_disp (i sub v : Nat) (c : Channel) : (setRo i sub v c).disp = c.disp := rfl
@[simp] theorem setRo_pub (i sub v : Nat) (c : Channel) : (setRo i sub v c).pub = c.pub := rfl
@[simp] theorem setRo_lse (i sub v : Nat) (c : Channel) : (setRo i sub v c).lse = c.lse := rfl
@[simp] theorem setRo_retain (i sub v : Nat) (c : Channel) : (setRo i sub v c).retain = c.retain := rfl
@[simp] theorem setRo_host (i sub v : Nat) (c : Channel) : (setRo i sub v c).host = c.host := rfl
@[simp] theorem setRo_seam (i sub v : Nat) (c : Channel) : (setRo i sub v c).seam = c.seam := rfl
@[simp] theorem setRo_sleeves (i sub v : Nat) (c : Channel) : (setRo i sub v c).sleeves = c.sleeves := rfl
@[simp] theorem setRo_can (i sub v : Nat) (c : Channel) : (setRo i sub v c).can = c.can := rfl
@[simp] theorem setRo_pleat (i sub v : Nat) (c : Channel) : (setRo i sub v c).pleat = c.pleat := rfl
@[simp] theorem setRo_keysNv (i sub v : Nat) (c : Channel) : (setRo i sub v c).keysNv = c.keysNv := rfl
@[simp] theorem setRo_keys (i sub v : Nat) (c : Channel) : (setRo i sub v c).keys = c.keys := rfl
@[simp] theorem setRo_journal (i sub v : Nat) (c : Channel) : (setRo i sub v c).journal = c.journal := rfl
@[simp] theorem setRo_ledgerNv (i sub v : Nat) (c : Channel) : (setRo i sub v c).ledgerNv = c.ledgerNv := rfl
@[simp] theorem setRo_ledger (i sub v : Nat) (c : Channel) : (setRo i sub v c).ledger = c.ledger := rfl
@[simp] theorem setRo_ctr (i sub v : Nat) (c : Channel) : (setRo i sub v c).ctr = c.ctr := rfl
@[simp] theorem setRo_diag (i sub v : Nat) (c : Channel) : (setRo i sub v c).diag = c.diag := rfl
@[simp] theorem setRo_psu (i sub v : Nat) (c : Channel) : (setRo i sub v c).psu = c.psu := rfl
@[simp] theorem setRo_epUJ (i sub v : Nat) (c : Channel) : (setRo i sub v c).epUJ = c.epUJ := rfl
@[simp] theorem setRo_temp (i sub v : Nat) (c : Channel) : (setRo i sub v c).temp = c.temp := rfl
@[simp] theorem setRo_tempOut (i sub v : Nat) (c : Channel) : (setRo i sub v c).tempOut = c.tempOut := rfl
@[simp] theorem setRo_emitted (i sub v : Nat) (c : Channel) : (setRo i sub v c).emitted = c.emitted := rfl
@[simp] theorem setRo_free (i sub v : Nat) (c : Channel) : (setRo i sub v c).free = c.free := rfl

/-- All that `setRoFF` changes. -/
theorem setRoFF_frame (i sub v : Nat) (c : Channel) : setRoFF i sub v c = { c with dict := (setRoFF i sub v c).dict } := rfl
@[simp] theorem setRoFF_id (i sub v : Nat) (c : Channel) : (setRoFF i sub v c).id = c.id := rfl
@[simp] theorem setRoFF_boot (i sub v : Nat) (c : Channel) : (setRoFF i sub v c).boot = c.boot := rfl
@[simp] theorem setRoFF_slots (i sub v : Nat) (c : Channel) : (setRoFF i sub v c).slots = c.slots := rfl
@[simp] theorem setRoFF_time (i sub v : Nat) (c : Channel) : (setRoFF i sub v c).time = c.time := rfl
@[simp] theorem setRoFF_gens (i sub v : Nat) (c : Channel) : (setRoFF i sub v c).gens = c.gens := rfl
@[simp] theorem setRoFF_sw (i sub v : Nat) (c : Channel) : (setRoFF i sub v c).sw = c.sw := rfl
@[simp] theorem setRoFF_ingest (i sub v : Nat) (c : Channel) : (setRoFF i sub v c).ingest = c.ingest := rfl
@[simp] theorem setRoFF_paths (i sub v : Nat) (c : Channel) : (setRoFF i sub v c).paths = c.paths := rfl
@[simp] theorem setRoFF_graphs (i sub v : Nat) (c : Channel) : (setRoFF i sub v c).graphs = c.graphs := rfl
@[simp] theorem setRoFF_disp (i sub v : Nat) (c : Channel) : (setRoFF i sub v c).disp = c.disp := rfl
@[simp] theorem setRoFF_pub (i sub v : Nat) (c : Channel) : (setRoFF i sub v c).pub = c.pub := rfl
@[simp] theorem setRoFF_lse (i sub v : Nat) (c : Channel) : (setRoFF i sub v c).lse = c.lse := rfl
@[simp] theorem setRoFF_retain (i sub v : Nat) (c : Channel) : (setRoFF i sub v c).retain = c.retain := rfl
@[simp] theorem setRoFF_host (i sub v : Nat) (c : Channel) : (setRoFF i sub v c).host = c.host := rfl
@[simp] theorem setRoFF_seam (i sub v : Nat) (c : Channel) : (setRoFF i sub v c).seam = c.seam := rfl
@[simp] theorem setRoFF_sleeves (i sub v : Nat) (c : Channel) : (setRoFF i sub v c).sleeves = c.sleeves := rfl
@[simp] theorem setRoFF_can (i sub v : Nat) (c : Channel) : (setRoFF i sub v c).can = c.can := rfl
@[simp] theorem setRoFF_pleat (i sub v : Nat) (c : Channel) : (setRoFF i sub v c).pleat = c.pleat := rfl
@[simp] theorem setRoFF_keysNv (i sub v : Nat) (c : Channel) : (setRoFF i sub v c).keysNv = c.keysNv := rfl
@[simp] theorem setRoFF_keys (i sub v : Nat) (c : Channel) : (setRoFF i sub v c).keys = c.keys := rfl
@[simp] theorem setRoFF_journal (i sub v : Nat) (c : Channel) : (setRoFF i sub v c).journal = c.journal := rfl
@[simp] theorem setRoFF_ledgerNv (i sub v : Nat) (c : Channel) : (setRoFF i sub v c).ledgerNv = c.ledgerNv := rfl
@[simp] theorem setRoFF_ledger (i sub v : Nat) (c : Channel) : (setRoFF i sub v c).ledger = c.ledger := rfl
@[simp] theorem setRoFF_ctr (i sub v : Nat) (c : Channel) : (setRoFF i sub v c).ctr = c.ctr := rfl
@[simp] theorem setRoFF_diag (i sub v : Nat) (c : Channel) : (setRoFF i sub v c).diag = c.diag := rfl
@[simp] theorem setRoFF_psu (i sub v : Nat) (c : Channel) : (setRoFF i sub v c).psu = c.psu := rfl
@[simp] theorem setRoFF_epUJ (i sub v : Nat) (c : Channel) : (setRoFF i sub v c).epUJ = c.epUJ := rfl
@[simp] theorem setRoFF_temp (i sub v : Nat) (c : Channel) : (setRoFF i sub v c).temp = c.temp := rfl
@[simp] theorem setRoFF_tempOut (i sub v : Nat) (c : Channel) : (setRoFF i sub v c).tempOut = c.tempOut := rfl
@[simp] theorem setRoFF_emitted (i sub v : Nat) (c : Channel) : (setRoFF i sub v c).emitted = c.emitted := rfl
@[simp] theorem setRoFF_free (i sub v : Nat) (c : Channel) : (setRoFF i sub v c).free = c.free := rfl

/-- All that `highWater` changes. -/
theorem highWater_frame (i sub v : Nat) (c : Channel) : highWater i sub v c = { c with dict := (highWater i sub v c).dict } := by
  unfold highWater
  split <;> rfl
@[simp] theorem highWater_id (i sub v : Nat) (c : Channel) : (highWater i sub v c).id = c.id := (congrArg Channel.id (highWater_frame i sub v c)).trans rfl
@[simp] theorem highWater_boot (i sub v : Nat) (c : Channel) : (highWater i sub v c).boot = c.boot := (congrArg Channel.boot (highWater_frame i sub v c)).trans rfl
@[simp] theorem highWater_slots (i sub v : Nat) (c : Channel) : (highWater i sub v c).slots = c.slots := (congrArg Channel.slots (highWater_frame i sub v c)).trans rfl
@[simp] theorem highWater_time (i sub v : Nat) (c : Channel) : (highWater i sub v c).time = c.time := (congrArg Channel.time (highWater_frame i sub v c)).trans rfl
@[simp] theorem highWater_gens (i sub v : Nat) (c : Channel) : (highWater i sub v c).gens = c.gens := (congrArg Channel.gens (highWater_frame i sub v c)).trans rfl
@[simp] theorem highWater_sw (i sub v : Nat) (c : Channel) : (highWater i sub v c).sw = c.sw := (congrArg Channel.sw (highWater_frame i sub v c)).trans rfl
@[simp] theorem highWater_ingest (i sub v : Nat) (c : Channel) : (highWater i sub v c).ingest = c.ingest := (congrArg Channel.ingest (highWater_frame i sub v c)).trans rfl
@[simp] theorem highWater_paths (i sub v : Nat) (c : Channel) : (highWater i sub v c).paths = c.paths := (congrArg Channel.paths (highWater_frame i sub v c)).trans rfl
@[simp] theorem highWater_graphs (i sub v : Nat) (c : Channel) : (highWater i sub v c).graphs = c.graphs := (congrArg Channel.graphs (highWater_frame i sub v c)).trans rfl
@[simp] theorem highWater_disp (i sub v : Nat) (c : Channel) : (highWater i sub v c).disp = c.disp := (congrArg Channel.disp (highWater_frame i sub v c)).trans rfl
@[simp] theorem highWater_pub (i sub v : Nat) (c : Channel) : (highWater i sub v c).pub = c.pub := (congrArg Channel.pub (highWater_frame i sub v c)).trans rfl
@[simp] theorem highWater_lse (i sub v : Nat) (c : Channel) : (highWater i sub v c).lse = c.lse := (congrArg Channel.lse (highWater_frame i sub v c)).trans rfl
@[simp] theorem highWater_retain (i sub v : Nat) (c : Channel) : (highWater i sub v c).retain = c.retain := (congrArg Channel.retain (highWater_frame i sub v c)).trans rfl
@[simp] theorem highWater_host (i sub v : Nat) (c : Channel) : (highWater i sub v c).host = c.host := (congrArg Channel.host (highWater_frame i sub v c)).trans rfl
@[simp] theorem highWater_seam (i sub v : Nat) (c : Channel) : (highWater i sub v c).seam = c.seam := (congrArg Channel.seam (highWater_frame i sub v c)).trans rfl
@[simp] theorem highWater_sleeves (i sub v : Nat) (c : Channel) : (highWater i sub v c).sleeves = c.sleeves := (congrArg Channel.sleeves (highWater_frame i sub v c)).trans rfl
@[simp] theorem highWater_can (i sub v : Nat) (c : Channel) : (highWater i sub v c).can = c.can := (congrArg Channel.can (highWater_frame i sub v c)).trans rfl
@[simp] theorem highWater_pleat (i sub v : Nat) (c : Channel) : (highWater i sub v c).pleat = c.pleat := (congrArg Channel.pleat (highWater_frame i sub v c)).trans rfl
@[simp] theorem highWater_keysNv (i sub v : Nat) (c : Channel) : (highWater i sub v c).keysNv = c.keysNv := (congrArg Channel.keysNv (highWater_frame i sub v c)).trans rfl
@[simp] theorem highWater_keys (i sub v : Nat) (c : Channel) : (highWater i sub v c).keys = c.keys := (congrArg Channel.keys (highWater_frame i sub v c)).trans rfl
@[simp] theorem highWater_journal (i sub v : Nat) (c : Channel) : (highWater i sub v c).journal = c.journal := (congrArg Channel.journal (highWater_frame i sub v c)).trans rfl
@[simp] theorem highWater_ledgerNv (i sub v : Nat) (c : Channel) : (highWater i sub v c).ledgerNv = c.ledgerNv := (congrArg Channel.ledgerNv (highWater_frame i sub v c)).trans rfl
@[simp] theorem highWater_ledger (i sub v : Nat) (c : Channel) : (highWater i sub v c).ledger = c.ledger := (congrArg Channel.ledger (highWater_frame i sub v c)).trans rfl
@[simp] theorem highWater_ctr (i sub v : Nat) (c : Channel) : (highWater i sub v c).ctr = c.ctr := (congrArg Channel.ctr (highWater_frame i sub v c)).trans rfl
@[simp] theorem highWater_diag (i sub v : Nat) (c : Channel) : (highWater i sub v c).diag = c.diag := (congrArg Channel.diag (highWater_frame i sub v c)).trans rfl
@[simp] theorem highWater_psu (i sub v : Nat) (c : Channel) : (highWater i sub v c).psu = c.psu := (congrArg Channel.psu (highWater_frame i sub v c)).trans rfl
@[simp] theorem highWater_epUJ (i sub v : Nat) (c : Channel) : (highWater i sub v c).epUJ = c.epUJ := (congrArg Channel.epUJ (highWater_frame i sub v c)).trans rfl
@[simp] theorem highWater_temp (i sub v : Nat) (c : Channel) : (highWater i sub v c).temp = c.temp := (congrArg Channel.temp (highWater_frame i sub v c)).trans rfl
@[simp] theorem highWater_tempOut (i sub v : Nat) (c : Channel) : (highWater i sub v c).tempOut = c.tempOut := (congrArg Channel.tempOut (highWater_frame i sub v c)).trans rfl
@[simp] theorem highWater_emitted (i sub v : Nat) (c : Channel) : (highWater i sub v c).emitted = c.emitted := (congrArg Channel.emitted (highWater_frame i sub v c)).trans rfl
@[simp] theorem highWater_free (i sub v : Nat) (c : Channel) : (highWater i sub v c).free = c.free := (congrArg Channel.free (highWater_frame i sub v c)).trans rfl

/-- All that `emit` changes. -/
theorem emit_frame (e : Emission) (c : Channel) : emit e c = { c with emitted := (emit e c).emitted } := rfl
@[simp] theorem emit_id (e : Emission) (c : Channel) : (emit e c).id = c.id := rfl
@[simp] theorem emit_boot (e : Emission) (c : Channel) : (emit e c).boot = c.boot := rfl
@[simp] theorem emit_slots (e : Emission) (c : Channel) : (emit e c).slots = c.slots := rfl
@[simp] theorem emit_time (e : Emission) (c : Channel) : (emit e c).time = c.time := rfl
@[simp] theorem emit_gens (e : Emission) (c : Channel) : (emit e c).gens = c.gens := rfl
@[simp] theorem emit_sw (e : Emission) (c : Channel) : (emit e c).sw = c.sw := rfl
@[simp] theorem emit_ingest (e : Emission) (c : Channel) : (emit e c).ingest = c.ingest := rfl
@[simp] theorem emit_paths (e : Emission) (c : Channel) : (emit e c).paths = c.paths := rfl
@[simp] theorem emit_graphs (e : Emission) (c : Channel) : (emit e c).graphs = c.graphs := rfl
@[simp] theorem emit_disp (e : Emission) (c : Channel) : (emit e c).disp = c.disp := rfl
@[simp] theorem emit_pub (e : Emission) (c : Channel) : (emit e c).pub = c.pub := rfl
@[simp] theorem emit_lse (e : Emission) (c : Channel) : (emit e c).lse = c.lse := rfl
@[simp] theorem emit_retain (e : Emission) (c : Channel) : (emit e c).retain = c.retain := rfl
@[simp] theorem emit_host (e : Emission) (c : Channel) : (emit e c).host = c.host := rfl
@[simp] theorem emit_seam (e : Emission) (c : Channel) : (emit e c).seam = c.seam := rfl
@[simp] theorem emit_sleeves (e : Emission) (c : Channel) : (emit e c).sleeves = c.sleeves := rfl
@[simp] theorem emit_can (e : Emission) (c : Channel) : (emit e c).can = c.can := rfl
@[simp] theorem emit_pleat (e : Emission) (c : Channel) : (emit e c).pleat = c.pleat := rfl
@[simp] theorem emit_keysNv (e : Emission) (c : Channel) : (emit e c).keysNv = c.keysNv := rfl
@[simp] theorem emit_keys (e : Emission) (c : Channel) : (emit e c).keys = c.keys := rfl
@[simp] theorem emit_journal (e : Emission) (c : Channel) : (emit e c).journal = c.journal := rfl
@[simp] theorem emit_ledgerNv (e : Emission) (c : Channel) : (emit e c).ledgerNv = c.ledgerNv := rfl
@[simp] theorem emit_ledger (e : Emission) (c : Channel) : (emit e c).ledger = c.ledger := rfl
@[simp] theorem emit_dict (e : Emission) (c : Channel) : (emit e c).dict = c.dict := rfl
@[simp] theorem emit_ctr (e : Emission) (c : Channel) : (emit e c).ctr = c.ctr := rfl
@[simp] theorem emit_diag (e : Emission) (c : Channel) : (emit e c).diag = c.diag := rfl
@[simp] theorem emit_psu (e : Emission) (c : Channel) : (emit e c).psu = c.psu := rfl
@[simp] theorem emit_epUJ (e : Emission) (c : Channel) : (emit e c).epUJ = c.epUJ := rfl
@[simp] theorem emit_temp (e : Emission) (c : Channel) : (emit e c).temp = c.temp := rfl
@[simp] theorem emit_tempOut (e : Emission) (c : Channel) : (emit e c).tempOut = c.tempOut := rfl
@[simp] theorem emit_free (e : Emission) (c : Channel) : (emit e c).free = c.free := rfl

/-- All that `commitsEnded` changes. -/
theorem commitsEnded_frame (c : Channel) : commitsEnded c = { c with epUJ := (commitsEnded c).epUJ } := rfl
@[simp] theorem commitsEnded_id (c : Channel) : (commitsEnded c).id = c.id := rfl
@[simp] theorem commitsEnded_boot (c : Channel) : (commitsEnded c).boot = c.boot := rfl
@[simp] theorem commitsEnded_slots (c : Channel) : (commitsEnded c).slots = c.slots := rfl
@[simp] theorem commitsEnded_time (c : Channel) : (commitsEnded c).time = c.time := rfl
@[simp] theorem commitsEnded_gens (c : Channel) : (commitsEnded c).gens = c.gens := rfl
@[simp] theorem commitsEnded_sw (c : Channel) : (commitsEnded c).sw = c.sw := rfl
@[simp] theorem commitsEnded_ingest (c : Channel) : (commitsEnded c).ingest = c.ingest := rfl
@[simp] theorem commitsEnded_paths (c : Channel) : (commitsEnded c).paths = c.paths := rfl
@[simp] theorem commitsEnded_graphs (c : Channel) : (commitsEnded c).graphs = c.graphs := rfl
@[simp] theorem commitsEnded_disp (c : Channel) : (commitsEnded c).disp = c.disp := rfl
@[simp] theorem commitsEnded_pub (c : Channel) : (commitsEnded c).pub = c.pub := rfl
@[simp] theorem commitsEnded_lse (c : Channel) : (commitsEnded c).lse = c.lse := rfl
@[simp] theorem commitsEnded_retain (c : Channel) : (commitsEnded c).retain = c.retain := rfl
@[simp] theorem commitsEnded_host (c : Channel) : (commitsEnded c).host = c.host := rfl
@[simp] theorem commitsEnded_seam (c : Channel) : (commitsEnded c).seam = c.seam := rfl
@[simp] theorem commitsEnded_sleeves (c : Channel) : (commitsEnded c).sleeves = c.sleeves := rfl
@[simp] theorem commitsEnded_can (c : Channel) : (commitsEnded c).can = c.can := rfl
@[simp] theorem commitsEnded_pleat (c : Channel) : (commitsEnded c).pleat = c.pleat := rfl
@[simp] theorem commitsEnded_keysNv (c : Channel) : (commitsEnded c).keysNv = c.keysNv := rfl
@[simp] theorem commitsEnded_keys (c : Channel) : (commitsEnded c).keys = c.keys := rfl
@[simp] theorem commitsEnded_journal (c : Channel) : (commitsEnded c).journal = c.journal := rfl
@[simp] theorem commitsEnded_ledgerNv (c : Channel) : (commitsEnded c).ledgerNv = c.ledgerNv := rfl
@[simp] theorem commitsEnded_ledger (c : Channel) : (commitsEnded c).ledger = c.ledger := rfl
@[simp] theorem commitsEnded_dict (c : Channel) : (commitsEnded c).dict = c.dict := rfl
@[simp] theorem commitsEnded_ctr (c : Channel) : (commitsEnded c).ctr = c.ctr := rfl
@[simp] theorem commitsEnded_diag (c : Channel) : (commitsEnded c).diag = c.diag := rfl
@[simp] theorem commitsEnded_psu (c : Channel) : (commitsEnded c).psu = c.psu := rfl
@[simp] theorem commitsEnded_temp (c : Channel) : (commitsEnded c).temp = c.temp := rfl
@[simp] theorem commitsEnded_tempOut (c : Channel) : (commitsEnded c).tempOut = c.tempOut := rfl
@[simp] theorem commitsEnded_emitted (c : Channel) : (commitsEnded c).emitted = c.emitted := rfl
@[simp] theorem commitsEnded_free (c : Channel) : (commitsEnded c).free = c.free := rfl

/-- All that `fnPut` changes. -/
theorem fnPut_frame (f : Nat) (r : FnRegs) (c : Channel) : fnPut f r c = { c with host := (fnPut f r c).host } := rfl
@[simp] theorem fnPut_id (f : Nat) (r : FnRegs) (c : Channel) : (fnPut f r c).id = c.id := rfl
@[simp] theorem fnPut_boot (f : Nat) (r : FnRegs) (c : Channel) : (fnPut f r c).boot = c.boot := rfl
@[simp] theorem fnPut_slots (f : Nat) (r : FnRegs) (c : Channel) : (fnPut f r c).slots = c.slots := rfl
@[simp] theorem fnPut_time (f : Nat) (r : FnRegs) (c : Channel) : (fnPut f r c).time = c.time := rfl
@[simp] theorem fnPut_gens (f : Nat) (r : FnRegs) (c : Channel) : (fnPut f r c).gens = c.gens := rfl
@[simp] theorem fnPut_sw (f : Nat) (r : FnRegs) (c : Channel) : (fnPut f r c).sw = c.sw := rfl
@[simp] theorem fnPut_ingest (f : Nat) (r : FnRegs) (c : Channel) : (fnPut f r c).ingest = c.ingest := rfl
@[simp] theorem fnPut_paths (f : Nat) (r : FnRegs) (c : Channel) : (fnPut f r c).paths = c.paths := rfl
@[simp] theorem fnPut_graphs (f : Nat) (r : FnRegs) (c : Channel) : (fnPut f r c).graphs = c.graphs := rfl
@[simp] theorem fnPut_disp (f : Nat) (r : FnRegs) (c : Channel) : (fnPut f r c).disp = c.disp := rfl
@[simp] theorem fnPut_pub (f : Nat) (r : FnRegs) (c : Channel) : (fnPut f r c).pub = c.pub := rfl
@[simp] theorem fnPut_lse (f : Nat) (r : FnRegs) (c : Channel) : (fnPut f r c).lse = c.lse := rfl
@[simp] theorem fnPut_retain (f : Nat) (r : FnRegs) (c : Channel) : (fnPut f r c).retain = c.retain := rfl
@[simp] theorem fnPut_seam (f : Nat) (r : FnRegs) (c : Channel) : (fnPut f r c).seam = c.seam := rfl
@[simp] theorem fnPut_sleeves (f : Nat) (r : FnRegs) (c : Channel) : (fnPut f r c).sleeves = c.sleeves := rfl
@[simp] theorem fnPut_can (f : Nat) (r : FnRegs) (c : Channel) : (fnPut f r c).can = c.can := rfl
@[simp] theorem fnPut_pleat (f : Nat) (r : FnRegs) (c : Channel) : (fnPut f r c).pleat = c.pleat := rfl
@[simp] theorem fnPut_keysNv (f : Nat) (r : FnRegs) (c : Channel) : (fnPut f r c).keysNv = c.keysNv := rfl
@[simp] theorem fnPut_keys (f : Nat) (r : FnRegs) (c : Channel) : (fnPut f r c).keys = c.keys := rfl
@[simp] theorem fnPut_journal (f : Nat) (r : FnRegs) (c : Channel) : (fnPut f r c).journal = c.journal := rfl
@[simp] theorem fnPut_ledgerNv (f : Nat) (r : FnRegs) (c : Channel) : (fnPut f r c).ledgerNv = c.ledgerNv := rfl
@[simp] theorem fnPut_ledger (f : Nat) (r : FnRegs) (c : Channel) : (fnPut f r c).ledger = c.ledger := rfl
@[simp] theorem fnPut_dict (f : Nat) (r : FnRegs) (c : Channel) : (fnPut f r c).dict = c.dict := rfl
@[simp] theorem fnPut_ctr (f : Nat) (r : FnRegs) (c : Channel) : (fnPut f r c).ctr = c.ctr := rfl
@[simp] theorem fnPut_diag (f : Nat) (r : FnRegs) (c : Channel) : (fnPut f r c).diag = c.diag := rfl
@[simp] theorem fnPut_psu (f : Nat) (r : FnRegs) (c : Channel) : (fnPut f r c).psu = c.psu := rfl
@[simp] theorem fnPut_epUJ (f : Nat) (r : FnRegs) (c : Channel) : (fnPut f r c).epUJ = c.epUJ := rfl
@[simp] theorem fnPut_temp (f : Nat) (r : FnRegs) (c : Channel) : (fnPut f r c).temp = c.temp := rfl
@[simp] theorem fnPut_tempOut (f : Nat) (r : FnRegs) (c : Channel) : (fnPut f r c).tempOut = c.tempOut := rfl
@[simp] theorem fnPut_emitted (f : Nat) (r : FnRegs) (c : Channel) : (fnPut f r c).emitted = c.emitted := rfl
@[simp] theorem fnPut_free (f : Nat) (r : FnRegs) (c : Channel) : (fnPut f r c).free = c.free := rfl

/-- All that `journalStore` changes. -/
theorem journalStore_frame (r : JRec) (c : Channel) : journalStore r c = { c with journal := (journalStore r c).journal, ctr := (journalStore r c).ctr } := by
  unfold journalStore
  split <;> rfl
@[simp] theorem journalStore_id (r : JRec) (c : Channel) : (journalStore r c).id = c.id := (congrArg Channel.id (journalStore_frame r c)).trans rfl
@[simp] theorem journalStore_boot (r : JRec) (c : Channel) : (journalStore r c).boot = c.boot := (congrArg Channel.boot (journalStore_frame r c)).trans rfl
@[simp] theorem journalStore_slots (r : JRec) (c : Channel) : (journalStore r c).slots = c.slots := (congrArg Channel.slots (journalStore_frame r c)).trans rfl
@[simp] theorem journalStore_time (r : JRec) (c : Channel) : (journalStore r c).time = c.time := (congrArg Channel.time (journalStore_frame r c)).trans rfl
@[simp] theorem journalStore_gens (r : JRec) (c : Channel) : (journalStore r c).gens = c.gens := (congrArg Channel.gens (journalStore_frame r c)).trans rfl
@[simp] theorem journalStore_sw (r : JRec) (c : Channel) : (journalStore r c).sw = c.sw := (congrArg Channel.sw (journalStore_frame r c)).trans rfl
@[simp] theorem journalStore_ingest (r : JRec) (c : Channel) : (journalStore r c).ingest = c.ingest := (congrArg Channel.ingest (journalStore_frame r c)).trans rfl
@[simp] theorem journalStore_paths (r : JRec) (c : Channel) : (journalStore r c).paths = c.paths := (congrArg Channel.paths (journalStore_frame r c)).trans rfl
@[simp] theorem journalStore_graphs (r : JRec) (c : Channel) : (journalStore r c).graphs = c.graphs := (congrArg Channel.graphs (journalStore_frame r c)).trans rfl
@[simp] theorem journalStore_disp (r : JRec) (c : Channel) : (journalStore r c).disp = c.disp := (congrArg Channel.disp (journalStore_frame r c)).trans rfl
@[simp] theorem journalStore_pub (r : JRec) (c : Channel) : (journalStore r c).pub = c.pub := (congrArg Channel.pub (journalStore_frame r c)).trans rfl
@[simp] theorem journalStore_lse (r : JRec) (c : Channel) : (journalStore r c).lse = c.lse := (congrArg Channel.lse (journalStore_frame r c)).trans rfl
@[simp] theorem journalStore_retain (r : JRec) (c : Channel) : (journalStore r c).retain = c.retain := (congrArg Channel.retain (journalStore_frame r c)).trans rfl
@[simp] theorem journalStore_host (r : JRec) (c : Channel) : (journalStore r c).host = c.host := (congrArg Channel.host (journalStore_frame r c)).trans rfl
@[simp] theorem journalStore_seam (r : JRec) (c : Channel) : (journalStore r c).seam = c.seam := (congrArg Channel.seam (journalStore_frame r c)).trans rfl
@[simp] theorem journalStore_sleeves (r : JRec) (c : Channel) : (journalStore r c).sleeves = c.sleeves := (congrArg Channel.sleeves (journalStore_frame r c)).trans rfl
@[simp] theorem journalStore_can (r : JRec) (c : Channel) : (journalStore r c).can = c.can := (congrArg Channel.can (journalStore_frame r c)).trans rfl
@[simp] theorem journalStore_pleat (r : JRec) (c : Channel) : (journalStore r c).pleat = c.pleat := (congrArg Channel.pleat (journalStore_frame r c)).trans rfl
@[simp] theorem journalStore_keysNv (r : JRec) (c : Channel) : (journalStore r c).keysNv = c.keysNv := (congrArg Channel.keysNv (journalStore_frame r c)).trans rfl
@[simp] theorem journalStore_keys (r : JRec) (c : Channel) : (journalStore r c).keys = c.keys := (congrArg Channel.keys (journalStore_frame r c)).trans rfl
@[simp] theorem journalStore_ledgerNv (r : JRec) (c : Channel) : (journalStore r c).ledgerNv = c.ledgerNv := (congrArg Channel.ledgerNv (journalStore_frame r c)).trans rfl
@[simp] theorem journalStore_ledger (r : JRec) (c : Channel) : (journalStore r c).ledger = c.ledger := (congrArg Channel.ledger (journalStore_frame r c)).trans rfl
@[simp] theorem journalStore_dict (r : JRec) (c : Channel) : (journalStore r c).dict = c.dict := (congrArg Channel.dict (journalStore_frame r c)).trans rfl
@[simp] theorem journalStore_diag (r : JRec) (c : Channel) : (journalStore r c).diag = c.diag := (congrArg Channel.diag (journalStore_frame r c)).trans rfl
@[simp] theorem journalStore_psu (r : JRec) (c : Channel) : (journalStore r c).psu = c.psu := (congrArg Channel.psu (journalStore_frame r c)).trans rfl
@[simp] theorem journalStore_epUJ (r : JRec) (c : Channel) : (journalStore r c).epUJ = c.epUJ := (congrArg Channel.epUJ (journalStore_frame r c)).trans rfl
@[simp] theorem journalStore_temp (r : JRec) (c : Channel) : (journalStore r c).temp = c.temp := (congrArg Channel.temp (journalStore_frame r c)).trans rfl
@[simp] theorem journalStore_tempOut (r : JRec) (c : Channel) : (journalStore r c).tempOut = c.tempOut := (congrArg Channel.tempOut (journalStore_frame r c)).trans rfl
@[simp] theorem journalStore_emitted (r : JRec) (c : Channel) : (journalStore r c).emitted = c.emitted := (congrArg Channel.emitted (journalStore_frame r c)).trans rfl
@[simp] theorem journalStore_free (r : JRec) (c : Channel) : (journalStore r c).free = c.free := (congrArg Channel.free (journalStore_frame r c)).trans rfl

/-- All that `journalDrain` changes. -/
theorem journalDrain_frame (l : List JRec) (c : Channel) : journalDrain l c = { c with journal := (journalDrain l c).journal, ctr := (journalDrain l c).ctr } := by
  induction l generalizing c with
  | nil => rfl
  | cons r rest ih =>
    unfold journalDrain
    split
    · rw [ih, journalStore_frame]
    · rfl
@[simp] theorem journalDrain_id (l : List JRec) (c : Channel) : (journalDrain l c).id = c.id := (congrArg Channel.id (journalDrain_frame l c)).trans rfl
@[simp] theorem journalDrain_boot (l : List JRec) (c : Channel) : (journalDrain l c).boot = c.boot := (congrArg Channel.boot (journalDrain_frame l c)).trans rfl
@[simp] theorem journalDrain_slots (l : List JRec) (c : Channel) : (journalDrain l c).slots = c.slots := (congrArg Channel.slots (journalDrain_frame l c)).trans rfl
@[simp] theorem journalDrain_time (l : List JRec) (c : Channel) : (journalDrain l c).time = c.time := (congrArg Channel.time (journalDrain_frame l c)).trans rfl
@[simp] theorem journalDrain_gens (l : List JRec) (c : Channel) : (journalDrain l c).gens = c.gens := (congrArg Channel.gens (journalDrain_frame l c)).trans rfl
@[simp] theorem journalDrain_sw (l : List JRec) (c : Channel) : (journalDrain l c).sw = c.sw := (congrArg Channel.sw (journalDrain_frame l c)).trans rfl
@[simp] theorem journalDrain_ingest (l : List JRec) (c : Channel) : (journalDrain l c).ingest = c.ingest := (congrArg Channel.ingest (journalDrain_frame l c)).trans rfl
@[simp] theorem journalDrain_paths (l : List JRec) (c : Channel) : (journalDrain l c).paths = c.paths := (congrArg Channel.paths (journalDrain_frame l c)).trans rfl
@[simp] theorem journalDrain_graphs (l : List JRec) (c : Channel) : (journalDrain l c).graphs = c.graphs := (congrArg Channel.graphs (journalDrain_frame l c)).trans rfl
@[simp] theorem journalDrain_disp (l : List JRec) (c : Channel) : (journalDrain l c).disp = c.disp := (congrArg Channel.disp (journalDrain_frame l c)).trans rfl
@[simp] theorem journalDrain_pub (l : List JRec) (c : Channel) : (journalDrain l c).pub = c.pub := (congrArg Channel.pub (journalDrain_frame l c)).trans rfl
@[simp] theorem journalDrain_lse (l : List JRec) (c : Channel) : (journalDrain l c).lse = c.lse := (congrArg Channel.lse (journalDrain_frame l c)).trans rfl
@[simp] theorem journalDrain_retain (l : List JRec) (c : Channel) : (journalDrain l c).retain = c.retain := (congrArg Channel.retain (journalDrain_frame l c)).trans rfl
@[simp] theorem journalDrain_host (l : List JRec) (c : Channel) : (journalDrain l c).host = c.host := (congrArg Channel.host (journalDrain_frame l c)).trans rfl
@[simp] theorem journalDrain_seam (l : List JRec) (c : Channel) : (journalDrain l c).seam = c.seam := (congrArg Channel.seam (journalDrain_frame l c)).trans rfl
@[simp] theorem journalDrain_sleeves (l : List JRec) (c : Channel) : (journalDrain l c).sleeves = c.sleeves := (congrArg Channel.sleeves (journalDrain_frame l c)).trans rfl
@[simp] theorem journalDrain_can (l : List JRec) (c : Channel) : (journalDrain l c).can = c.can := (congrArg Channel.can (journalDrain_frame l c)).trans rfl
@[simp] theorem journalDrain_pleat (l : List JRec) (c : Channel) : (journalDrain l c).pleat = c.pleat := (congrArg Channel.pleat (journalDrain_frame l c)).trans rfl
@[simp] theorem journalDrain_keysNv (l : List JRec) (c : Channel) : (journalDrain l c).keysNv = c.keysNv := (congrArg Channel.keysNv (journalDrain_frame l c)).trans rfl
@[simp] theorem journalDrain_keys (l : List JRec) (c : Channel) : (journalDrain l c).keys = c.keys := (congrArg Channel.keys (journalDrain_frame l c)).trans rfl
@[simp] theorem journalDrain_ledgerNv (l : List JRec) (c : Channel) : (journalDrain l c).ledgerNv = c.ledgerNv := (congrArg Channel.ledgerNv (journalDrain_frame l c)).trans rfl
@[simp] theorem journalDrain_ledger (l : List JRec) (c : Channel) : (journalDrain l c).ledger = c.ledger := (congrArg Channel.ledger (journalDrain_frame l c)).trans rfl
@[simp] theorem journalDrain_dict (l : List JRec) (c : Channel) : (journalDrain l c).dict = c.dict := (congrArg Channel.dict (journalDrain_frame l c)).trans rfl
@[simp] theorem journalDrain_diag (l : List JRec) (c : Channel) : (journalDrain l c).diag = c.diag := (congrArg Channel.diag (journalDrain_frame l c)).trans rfl
@[simp] theorem journalDrain_psu (l : List JRec) (c : Channel) : (journalDrain l c).psu = c.psu := (congrArg Channel.psu (journalDrain_frame l c)).trans rfl
@[simp] theorem journalDrain_epUJ (l : List JRec) (c : Channel) : (journalDrain l c).epUJ = c.epUJ := (congrArg Channel.epUJ (journalDrain_frame l c)).trans rfl
@[simp] theorem journalDrain_temp (l : List JRec) (c : Channel) : (journalDrain l c).temp = c.temp := (congrArg Channel.temp (journalDrain_frame l c)).trans rfl
@[simp] theorem journalDrain_tempOut (l : List JRec) (c : Channel) : (journalDrain l c).tempOut = c.tempOut := (congrArg Channel.tempOut (journalDrain_frame l c)).trans rfl
@[simp] theorem journalDrain_emitted (l : List JRec) (c : Channel) : (journalDrain l c).emitted = c.emitted := (congrArg Channel.emitted (journalDrain_frame l c)).trans rfl
@[simp] theorem journalDrain_free (l : List JRec) (c : Channel) : (journalDrain l c).free = c.free := (congrArg Channel.free (journalDrain_frame l c)).trans rfl

/-- All that `journalAdd` changes. -/
theorem journalAdd_frame (k n sl : Nat) (body : List Byte) (c : Channel) : journalAdd k n sl body c = { c with journal := (journalAdd k n sl body c).journal, ctr := (journalAdd k n sl body c).ctr } := journalDrain_frame _ c
@[simp] theorem journalAdd_id (k n sl : Nat) (body : List Byte) (c : Channel) : (journalAdd k n sl body c).id = c.id := (congrArg Channel.id (journalAdd_frame k n sl body c)).trans rfl
@[simp] theorem journalAdd_boot (k n sl : Nat) (body : List Byte) (c : Channel) : (journalAdd k n sl body c).boot = c.boot := (congrArg Channel.boot (journalAdd_frame k n sl body c)).trans rfl
@[simp] theorem journalAdd_slots (k n sl : Nat) (body : List Byte) (c : Channel) : (journalAdd k n sl body c).slots = c.slots := (congrArg Channel.slots (journalAdd_frame k n sl body c)).trans rfl
@[simp] theorem journalAdd_time (k n sl : Nat) (body : List Byte) (c : Channel) : (journalAdd k n sl body c).time = c.time := (congrArg Channel.time (journalAdd_frame k n sl body c)).trans rfl
@[simp] theorem journalAdd_gens (k n sl : Nat) (body : List Byte) (c : Channel) : (journalAdd k n sl body c).gens = c.gens := (congrArg Channel.gens (journalAdd_frame k n sl body c)).trans rfl
@[simp] theorem journalAdd_sw (k n sl : Nat) (body : List Byte) (c : Channel) : (journalAdd k n sl body c).sw = c.sw := (congrArg Channel.sw (journalAdd_frame k n sl body c)).trans rfl
@[simp] theorem journalAdd_ingest (k n sl : Nat) (body : List Byte) (c : Channel) : (journalAdd k n sl body c).ingest = c.ingest := (congrArg Channel.ingest (journalAdd_frame k n sl body c)).trans rfl
@[simp] theorem journalAdd_paths (k n sl : Nat) (body : List Byte) (c : Channel) : (journalAdd k n sl body c).paths = c.paths := (congrArg Channel.paths (journalAdd_frame k n sl body c)).trans rfl
@[simp] theorem journalAdd_graphs (k n sl : Nat) (body : List Byte) (c : Channel) : (journalAdd k n sl body c).graphs = c.graphs := (congrArg Channel.graphs (journalAdd_frame k n sl body c)).trans rfl
@[simp] theorem journalAdd_disp (k n sl : Nat) (body : List Byte) (c : Channel) : (journalAdd k n sl body c).disp = c.disp := (congrArg Channel.disp (journalAdd_frame k n sl body c)).trans rfl
@[simp] theorem journalAdd_pub (k n sl : Nat) (body : List Byte) (c : Channel) : (journalAdd k n sl body c).pub = c.pub := (congrArg Channel.pub (journalAdd_frame k n sl body c)).trans rfl
@[simp] theorem journalAdd_lse (k n sl : Nat) (body : List Byte) (c : Channel) : (journalAdd k n sl body c).lse = c.lse := (congrArg Channel.lse (journalAdd_frame k n sl body c)).trans rfl
@[simp] theorem journalAdd_retain (k n sl : Nat) (body : List Byte) (c : Channel) : (journalAdd k n sl body c).retain = c.retain := (congrArg Channel.retain (journalAdd_frame k n sl body c)).trans rfl
@[simp] theorem journalAdd_host (k n sl : Nat) (body : List Byte) (c : Channel) : (journalAdd k n sl body c).host = c.host := (congrArg Channel.host (journalAdd_frame k n sl body c)).trans rfl
@[simp] theorem journalAdd_seam (k n sl : Nat) (body : List Byte) (c : Channel) : (journalAdd k n sl body c).seam = c.seam := (congrArg Channel.seam (journalAdd_frame k n sl body c)).trans rfl
@[simp] theorem journalAdd_sleeves (k n sl : Nat) (body : List Byte) (c : Channel) : (journalAdd k n sl body c).sleeves = c.sleeves := (congrArg Channel.sleeves (journalAdd_frame k n sl body c)).trans rfl
@[simp] theorem journalAdd_can (k n sl : Nat) (body : List Byte) (c : Channel) : (journalAdd k n sl body c).can = c.can := (congrArg Channel.can (journalAdd_frame k n sl body c)).trans rfl
@[simp] theorem journalAdd_pleat (k n sl : Nat) (body : List Byte) (c : Channel) : (journalAdd k n sl body c).pleat = c.pleat := (congrArg Channel.pleat (journalAdd_frame k n sl body c)).trans rfl
@[simp] theorem journalAdd_keysNv (k n sl : Nat) (body : List Byte) (c : Channel) : (journalAdd k n sl body c).keysNv = c.keysNv := (congrArg Channel.keysNv (journalAdd_frame k n sl body c)).trans rfl
@[simp] theorem journalAdd_keys (k n sl : Nat) (body : List Byte) (c : Channel) : (journalAdd k n sl body c).keys = c.keys := (congrArg Channel.keys (journalAdd_frame k n sl body c)).trans rfl
@[simp] theorem journalAdd_ledgerNv (k n sl : Nat) (body : List Byte) (c : Channel) : (journalAdd k n sl body c).ledgerNv = c.ledgerNv := (congrArg Channel.ledgerNv (journalAdd_frame k n sl body c)).trans rfl
@[simp] theorem journalAdd_ledger (k n sl : Nat) (body : List Byte) (c : Channel) : (journalAdd k n sl body c).ledger = c.ledger := (congrArg Channel.ledger (journalAdd_frame k n sl body c)).trans rfl
@[simp] theorem journalAdd_dict (k n sl : Nat) (body : List Byte) (c : Channel) : (journalAdd k n sl body c).dict = c.dict := (congrArg Channel.dict (journalAdd_frame k n sl body c)).trans rfl
@[simp] theorem journalAdd_diag (k n sl : Nat) (body : List Byte) (c : Channel) : (journalAdd k n sl body c).diag = c.diag := (congrArg Channel.diag (journalAdd_frame k n sl body c)).trans rfl
@[simp] theorem journalAdd_psu (k n sl : Nat) (body : List Byte) (c : Channel) : (journalAdd k n sl body c).psu = c.psu := (congrArg Channel.psu (journalAdd_frame k n sl body c)).trans rfl
@[simp] theorem journalAdd_epUJ (k n sl : Nat) (body : List Byte) (c : Channel) : (journalAdd k n sl body c).epUJ = c.epUJ := (congrArg Channel.epUJ (journalAdd_frame k n sl body c)).trans rfl
@[simp] theorem journalAdd_temp (k n sl : Nat) (body : List Byte) (c : Channel) : (journalAdd k n sl body c).temp = c.temp := (congrArg Channel.temp (journalAdd_frame k n sl body c)).trans rfl
@[simp] theorem journalAdd_tempOut (k n sl : Nat) (body : List Byte) (c : Channel) : (journalAdd k n sl body c).tempOut = c.tempOut := (congrArg Channel.tempOut (journalAdd_frame k n sl body c)).trans rfl
@[simp] theorem journalAdd_emitted (k n sl : Nat) (body : List Byte) (c : Channel) : (journalAdd k n sl body c).emitted = c.emitted := (congrArg Channel.emitted (journalAdd_frame k n sl body c)).trans rfl
@[simp] theorem journalAdd_free (k n sl : Nat) (body : List Byte) (c : Channel) : (journalAdd k n sl body c).free = c.free := (congrArg Channel.free (journalAdd_frame k n sl body c)).trans rfl

/-- All that `pendOn` changes. -/
theorem pendOn_frame (src f : Nat) (c : Channel) : pendOn src f c = { c with host := (pendOn src f c).host, emitted := (pendOn src f c).emitted } := by
  unfold pendOn
  simp only []
  split <;> rfl
@[simp] theorem pendOn_id (src f : Nat) (c : Channel) : (pendOn src f c).id = c.id := (congrArg Channel.id (pendOn_frame src f c)).trans rfl
@[simp] theorem pendOn_boot (src f : Nat) (c : Channel) : (pendOn src f c).boot = c.boot := (congrArg Channel.boot (pendOn_frame src f c)).trans rfl
@[simp] theorem pendOn_slots (src f : Nat) (c : Channel) : (pendOn src f c).slots = c.slots := (congrArg Channel.slots (pendOn_frame src f c)).trans rfl
@[simp] theorem pendOn_time (src f : Nat) (c : Channel) : (pendOn src f c).time = c.time := (congrArg Channel.time (pendOn_frame src f c)).trans rfl
@[simp] theorem pendOn_gens (src f : Nat) (c : Channel) : (pendOn src f c).gens = c.gens := (congrArg Channel.gens (pendOn_frame src f c)).trans rfl
@[simp] theorem pendOn_sw (src f : Nat) (c : Channel) : (pendOn src f c).sw = c.sw := (congrArg Channel.sw (pendOn_frame src f c)).trans rfl
@[simp] theorem pendOn_ingest (src f : Nat) (c : Channel) : (pendOn src f c).ingest = c.ingest := (congrArg Channel.ingest (pendOn_frame src f c)).trans rfl
@[simp] theorem pendOn_paths (src f : Nat) (c : Channel) : (pendOn src f c).paths = c.paths := (congrArg Channel.paths (pendOn_frame src f c)).trans rfl
@[simp] theorem pendOn_graphs (src f : Nat) (c : Channel) : (pendOn src f c).graphs = c.graphs := (congrArg Channel.graphs (pendOn_frame src f c)).trans rfl
@[simp] theorem pendOn_disp (src f : Nat) (c : Channel) : (pendOn src f c).disp = c.disp := (congrArg Channel.disp (pendOn_frame src f c)).trans rfl
@[simp] theorem pendOn_pub (src f : Nat) (c : Channel) : (pendOn src f c).pub = c.pub := (congrArg Channel.pub (pendOn_frame src f c)).trans rfl
@[simp] theorem pendOn_lse (src f : Nat) (c : Channel) : (pendOn src f c).lse = c.lse := (congrArg Channel.lse (pendOn_frame src f c)).trans rfl
@[simp] theorem pendOn_retain (src f : Nat) (c : Channel) : (pendOn src f c).retain = c.retain := (congrArg Channel.retain (pendOn_frame src f c)).trans rfl
@[simp] theorem pendOn_seam (src f : Nat) (c : Channel) : (pendOn src f c).seam = c.seam := (congrArg Channel.seam (pendOn_frame src f c)).trans rfl
@[simp] theorem pendOn_sleeves (src f : Nat) (c : Channel) : (pendOn src f c).sleeves = c.sleeves := (congrArg Channel.sleeves (pendOn_frame src f c)).trans rfl
@[simp] theorem pendOn_can (src f : Nat) (c : Channel) : (pendOn src f c).can = c.can := (congrArg Channel.can (pendOn_frame src f c)).trans rfl
@[simp] theorem pendOn_pleat (src f : Nat) (c : Channel) : (pendOn src f c).pleat = c.pleat := (congrArg Channel.pleat (pendOn_frame src f c)).trans rfl
@[simp] theorem pendOn_keysNv (src f : Nat) (c : Channel) : (pendOn src f c).keysNv = c.keysNv := (congrArg Channel.keysNv (pendOn_frame src f c)).trans rfl
@[simp] theorem pendOn_keys (src f : Nat) (c : Channel) : (pendOn src f c).keys = c.keys := (congrArg Channel.keys (pendOn_frame src f c)).trans rfl
@[simp] theorem pendOn_journal (src f : Nat) (c : Channel) : (pendOn src f c).journal = c.journal := (congrArg Channel.journal (pendOn_frame src f c)).trans rfl
@[simp] theorem pendOn_ledgerNv (src f : Nat) (c : Channel) : (pendOn src f c).ledgerNv = c.ledgerNv := (congrArg Channel.ledgerNv (pendOn_frame src f c)).trans rfl
@[simp] theorem pendOn_ledger (src f : Nat) (c : Channel) : (pendOn src f c).ledger = c.ledger := (congrArg Channel.ledger (pendOn_frame src f c)).trans rfl
@[simp] theorem pendOn_dict (src f : Nat) (c : Channel) : (pendOn src f c).dict = c.dict := (congrArg Channel.dict (pendOn_frame src f c)).trans rfl
@[simp] theorem pendOn_ctr (src f : Nat) (c : Channel) : (pendOn src f c).ctr = c.ctr := (congrArg Channel.ctr (pendOn_frame src f c)).trans rfl
@[simp] theorem pendOn_diag (src f : Nat) (c : Channel) : (pendOn src f c).diag = c.diag := (congrArg Channel.diag (pendOn_frame src f c)).trans rfl
@[simp] theorem pendOn_psu (src f : Nat) (c : Channel) : (pendOn src f c).psu = c.psu := (congrArg Channel.psu (pendOn_frame src f c)).trans rfl
@[simp] theorem pendOn_epUJ (src f : Nat) (c : Channel) : (pendOn src f c).epUJ = c.epUJ := (congrArg Channel.epUJ (pendOn_frame src f c)).trans rfl
@[simp] theorem pendOn_temp (src f : Nat) (c : Channel) : (pendOn src f c).temp = c.temp := (congrArg Channel.temp (pendOn_frame src f c)).trans rfl
@[simp] theorem pendOn_tempOut (src f : Nat) (c : Channel) : (pendOn src f c).tempOut = c.tempOut := (congrArg Channel.tempOut (pendOn_frame src f c)).trans rfl
@[simp] theorem pendOn_free (src f : Nat) (c : Channel) : (pendOn src f c).free = c.free := (congrArg Channel.free (pendOn_frame src f c)).trans rfl

/-- All that `advanceTo` changes. -/
theorem advanceTo_frame (t : Nat) (c : Channel) : advanceTo t c = { c with time := (advanceTo t c).time } := by
  unfold advanceTo
  split <;> rfl
@[simp] theorem advanceTo_id (t : Nat) (c : Channel) : (advanceTo t c).id = c.id := (congrArg Channel.id (advanceTo_frame t c)).trans rfl
@[simp] theorem advanceTo_boot (t : Nat) (c : Channel) : (advanceTo t c).boot = c.boot := (congrArg Channel.boot (advanceTo_frame t c)).trans rfl
@[simp] theorem advanceTo_slots (t : Nat) (c : Channel) : (advanceTo t c).slots = c.slots := (congrArg Channel.slots (advanceTo_frame t c)).trans rfl
@[simp] theorem advanceTo_gens (t : Nat) (c : Channel) : (advanceTo t c).gens = c.gens := (congrArg Channel.gens (advanceTo_frame t c)).trans rfl
@[simp] theorem advanceTo_sw (t : Nat) (c : Channel) : (advanceTo t c).sw = c.sw := (congrArg Channel.sw (advanceTo_frame t c)).trans rfl
@[simp] theorem advanceTo_ingest (t : Nat) (c : Channel) : (advanceTo t c).ingest = c.ingest := (congrArg Channel.ingest (advanceTo_frame t c)).trans rfl
@[simp] theorem advanceTo_paths (t : Nat) (c : Channel) : (advanceTo t c).paths = c.paths := (congrArg Channel.paths (advanceTo_frame t c)).trans rfl
@[simp] theorem advanceTo_graphs (t : Nat) (c : Channel) : (advanceTo t c).graphs = c.graphs := (congrArg Channel.graphs (advanceTo_frame t c)).trans rfl
@[simp] theorem advanceTo_disp (t : Nat) (c : Channel) : (advanceTo t c).disp = c.disp := (congrArg Channel.disp (advanceTo_frame t c)).trans rfl
@[simp] theorem advanceTo_pub (t : Nat) (c : Channel) : (advanceTo t c).pub = c.pub := (congrArg Channel.pub (advanceTo_frame t c)).trans rfl
@[simp] theorem advanceTo_lse (t : Nat) (c : Channel) : (advanceTo t c).lse = c.lse := (congrArg Channel.lse (advanceTo_frame t c)).trans rfl
@[simp] theorem advanceTo_retain (t : Nat) (c : Channel) : (advanceTo t c).retain = c.retain := (congrArg Channel.retain (advanceTo_frame t c)).trans rfl
@[simp] theorem advanceTo_host (t : Nat) (c : Channel) : (advanceTo t c).host = c.host := (congrArg Channel.host (advanceTo_frame t c)).trans rfl
@[simp] theorem advanceTo_seam (t : Nat) (c : Channel) : (advanceTo t c).seam = c.seam := (congrArg Channel.seam (advanceTo_frame t c)).trans rfl
@[simp] theorem advanceTo_sleeves (t : Nat) (c : Channel) : (advanceTo t c).sleeves = c.sleeves := (congrArg Channel.sleeves (advanceTo_frame t c)).trans rfl
@[simp] theorem advanceTo_can (t : Nat) (c : Channel) : (advanceTo t c).can = c.can := (congrArg Channel.can (advanceTo_frame t c)).trans rfl
@[simp] theorem advanceTo_pleat (t : Nat) (c : Channel) : (advanceTo t c).pleat = c.pleat := (congrArg Channel.pleat (advanceTo_frame t c)).trans rfl
@[simp] theorem advanceTo_keysNv (t : Nat) (c : Channel) : (advanceTo t c).keysNv = c.keysNv := (congrArg Channel.keysNv (advanceTo_frame t c)).trans rfl
@[simp] theorem advanceTo_keys (t : Nat) (c : Channel) : (advanceTo t c).keys = c.keys := (congrArg Channel.keys (advanceTo_frame t c)).trans rfl
@[simp] theorem advanceTo_journal (t : Nat) (c : Channel) : (advanceTo t c).journal = c.journal := (congrArg Channel.journal (advanceTo_frame t c)).trans rfl
@[simp] theorem advanceTo_ledgerNv (t : Nat) (c : Channel) : (advanceTo t c).ledgerNv = c.ledgerNv := (congrArg Channel.ledgerNv (advanceTo_frame t c)).trans rfl
@[simp] theorem advanceTo_ledger (t : Nat) (c : Channel) : (advanceTo t c).ledger = c.ledger := (congrArg Channel.ledger (advanceTo_frame t c)).trans rfl
@[simp] theorem advanceTo_dict (t : Nat) (c : Channel) : (advanceTo t c).dict = c.dict := (congrArg Channel.dict (advanceTo_frame t c)).trans rfl
@[simp] theorem advanceTo_ctr (t : Nat) (c : Channel) : (advanceTo t c).ctr = c.ctr := (congrArg Channel.ctr (advanceTo_frame t c)).trans rfl
@[simp] theorem advanceTo_diag (t : Nat) (c : Channel) : (advanceTo t c).diag = c.diag := (congrArg Channel.diag (advanceTo_frame t c)).trans rfl
@[simp] theorem advanceTo_psu (t : Nat) (c : Channel) : (advanceTo t c).psu = c.psu := (congrArg Channel.psu (advanceTo_frame t c)).trans rfl
@[simp] theorem advanceTo_epUJ (t : Nat) (c : Channel) : (advanceTo t c).epUJ = c.epUJ := (congrArg Channel.epUJ (advanceTo_frame t c)).trans rfl
@[simp] theorem advanceTo_temp (t : Nat) (c : Channel) : (advanceTo t c).temp = c.temp := (congrArg Channel.temp (advanceTo_frame t c)).trans rfl
@[simp] theorem advanceTo_tempOut (t : Nat) (c : Channel) : (advanceTo t c).tempOut = c.tempOut := (congrArg Channel.tempOut (advanceTo_frame t c)).trans rfl
@[simp] theorem advanceTo_emitted (t : Nat) (c : Channel) : (advanceTo t c).emitted = c.emitted := (congrArg Channel.emitted (advanceTo_frame t c)).trans rfl
@[simp] theorem advanceTo_free (t : Nat) (c : Channel) : (advanceTo t c).free = c.free := (congrArg Channel.free (advanceTo_frame t c)).trans rfl

@[simp] theorem raiseNow_id (src sl obj v : Nat) (c : Channel) : (raiseNow src sl obj v c).id = c.id := by unfold raiseNow; simp only []; split <;> simp
@[simp] theorem raiseNow_boot (src sl obj v : Nat) (c : Channel) : (raiseNow src sl obj v c).boot = c.boot := by unfold raiseNow; simp only []; split <;> simp
@[simp] theorem raiseNow_slots (src sl obj v : Nat) (c : Channel) : (raiseNow src sl obj v c).slots = c.slots := by unfold raiseNow; simp only []; split <;> simp
@[simp] theorem raiseNow_time (src sl obj v : Nat) (c : Channel) : (raiseNow src sl obj v c).time = c.time := by unfold raiseNow; simp only []; split <;> simp
@[simp] theorem raiseNow_gens (src sl obj v : Nat) (c : Channel) : (raiseNow src sl obj v c).gens = c.gens := by unfold raiseNow; simp only []; split <;> simp
@[simp] theorem raiseNow_sw (src sl obj v : Nat) (c : Channel) : (raiseNow src sl obj v c).sw = c.sw := by unfold raiseNow; simp only []; split <;> simp
@[simp] theorem raiseNow_ingest (src sl obj v : Nat) (c : Channel) : (raiseNow src sl obj v c).ingest = c.ingest := by unfold raiseNow; simp only []; split <;> simp
@[simp] theorem raiseNow_paths (src sl obj v : Nat) (c : Channel) : (raiseNow src sl obj v c).paths = c.paths := by unfold raiseNow; simp only []; split <;> simp
@[simp] theorem raiseNow_graphs (src sl obj v : Nat) (c : Channel) : (raiseNow src sl obj v c).graphs = c.graphs := by unfold raiseNow; simp only []; split <;> simp
@[simp] theorem raiseNow_disp (src sl obj v : Nat) (c : Channel) : (raiseNow src sl obj v c).disp = c.disp := by unfold raiseNow; simp only []; split <;> simp
@[simp] theorem raiseNow_pub (src sl obj v : Nat) (c : Channel) : (raiseNow src sl obj v c).pub = c.pub := by unfold raiseNow; simp only []; split <;> simp
@[simp] theorem raiseNow_lse (src sl obj v : Nat) (c : Channel) : (raiseNow src sl obj v c).lse = c.lse := by unfold raiseNow; simp only []; split <;> simp
@[simp] theorem raiseNow_retain (src sl obj v : Nat) (c : Channel) : (raiseNow src sl obj v c).retain = c.retain := by unfold raiseNow; simp only []; split <;> simp
@[simp] theorem raiseNow_seam (src sl obj v : Nat) (c : Channel) : (raiseNow src sl obj v c).seam = c.seam := by unfold raiseNow; simp only []; split <;> simp
@[simp] theorem raiseNow_sleeves (src sl obj v : Nat) (c : Channel) : (raiseNow src sl obj v c).sleeves = c.sleeves := by unfold raiseNow; simp only []; split <;> simp
@[simp] theorem raiseNow_can (src sl obj v : Nat) (c : Channel) : (raiseNow src sl obj v c).can = c.can := by unfold raiseNow; simp only []; split <;> simp
@[simp] theorem raiseNow_pleat (src sl obj v : Nat) (c : Channel) : (raiseNow src sl obj v c).pleat = c.pleat := by unfold raiseNow; simp only []; split <;> simp
@[simp] theorem raiseNow_keysNv (src sl obj v : Nat) (c : Channel) : (raiseNow src sl obj v c).keysNv = c.keysNv := by unfold raiseNow; simp only []; split <;> simp
@[simp] theorem raiseNow_keys (src sl obj v : Nat) (c : Channel) : (raiseNow src sl obj v c).keys = c.keys := by unfold raiseNow; simp only []; split <;> simp
@[simp] theorem raiseNow_ledgerNv (src sl obj v : Nat) (c : Channel) : (raiseNow src sl obj v c).ledgerNv = c.ledgerNv := by unfold raiseNow; simp only []; split <;> simp
@[simp] theorem raiseNow_ledger (src sl obj v : Nat) (c : Channel) : (raiseNow src sl obj v c).ledger = c.ledger := by unfold raiseNow; simp only []; split <;> simp
@[simp] theorem raiseNow_dict (src sl obj v : Nat) (c : Channel) : (raiseNow src sl obj v c).dict = c.dict := by unfold raiseNow; simp only []; split <;> simp
@[simp] theorem raiseNow_diag (src sl obj v : Nat) (c : Channel) : (raiseNow src sl obj v c).diag = c.diag := by unfold raiseNow; simp only []; split <;> simp
@[simp] theorem raiseNow_psu (src sl obj v : Nat) (c : Channel) : (raiseNow src sl obj v c).psu = c.psu := by unfold raiseNow; simp only []; split <;> simp
@[simp] theorem raiseNow_epUJ (src sl obj v : Nat) (c : Channel) : (raiseNow src sl obj v c).epUJ = c.epUJ := by unfold raiseNow; simp only []; split <;> simp
@[simp] theorem raiseNow_temp (src sl obj v : Nat) (c : Channel) : (raiseNow src sl obj v c).temp = c.temp := by unfold raiseNow; simp only []; split <;> simp
@[simp] theorem raiseNow_tempOut (src sl obj v : Nat) (c : Channel) : (raiseNow src sl obj v c).tempOut = c.tempOut := by unfold raiseNow; simp only []; split <;> simp
@[simp] theorem raiseNow_free (src sl obj v : Nat) (c : Channel) : (raiseNow src sl obj v c).free = c.free := by unfold raiseNow; simp only []; split <;> simp

@[simp] theorem raise_id (src sl obj v : Nat) (c : Channel) : (raise src sl obj v c).id = c.id := raiseNow_id src sl obj v c
@[simp] theorem raise_boot (src sl obj v : Nat) (c : Channel) : (raise src sl obj v c).boot = c.boot := raiseNow_boot src sl obj v c
@[simp] theorem raise_slots (src sl obj v : Nat) (c : Channel) : (raise src sl obj v c).slots = c.slots := raiseNow_slots src sl obj v c
@[simp] theorem raise_time (src sl obj v : Nat) (c : Channel) : (raise src sl obj v c).time = c.time := raiseNow_time src sl obj v c
@[simp] theorem raise_gens (src sl obj v : Nat) (c : Channel) : (raise src sl obj v c).gens = c.gens := raiseNow_gens src sl obj v c
@[simp] theorem raise_sw (src sl obj v : Nat) (c : Channel) : (raise src sl obj v c).sw = c.sw := raiseNow_sw src sl obj v c
@[simp] theorem raise_ingest (src sl obj v : Nat) (c : Channel) : (raise src sl obj v c).ingest = c.ingest := raiseNow_ingest src sl obj v c
@[simp] theorem raise_paths (src sl obj v : Nat) (c : Channel) : (raise src sl obj v c).paths = c.paths := raiseNow_paths src sl obj v c
@[simp] theorem raise_graphs (src sl obj v : Nat) (c : Channel) : (raise src sl obj v c).graphs = c.graphs := raiseNow_graphs src sl obj v c
@[simp] theorem raise_disp (src sl obj v : Nat) (c : Channel) : (raise src sl obj v c).disp = c.disp := raiseNow_disp src sl obj v c
@[simp] theorem raise_pub (src sl obj v : Nat) (c : Channel) : (raise src sl obj v c).pub = c.pub := raiseNow_pub src sl obj v c
@[simp] theorem raise_lse (src sl obj v : Nat) (c : Channel) : (raise src sl obj v c).lse = c.lse := raiseNow_lse src sl obj v c
@[simp] theorem raise_retain (src sl obj v : Nat) (c : Channel) : (raise src sl obj v c).retain = c.retain := raiseNow_retain src sl obj v c
@[simp] theorem raise_seam (src sl obj v : Nat) (c : Channel) : (raise src sl obj v c).seam = c.seam := raiseNow_seam src sl obj v c
@[simp] theorem raise_sleeves (src sl obj v : Nat) (c : Channel) : (raise src sl obj v c).sleeves = c.sleeves := raiseNow_sleeves src sl obj v c
@[simp] theorem raise_can (src sl obj v : Nat) (c : Channel) : (raise src sl obj v c).can = c.can := raiseNow_can src sl obj v c
@[simp] theorem raise_pleat (src sl obj v : Nat) (c : Channel) : (raise src sl obj v c).pleat = c.pleat := raiseNow_pleat src sl obj v c
@[simp] theorem raise_keysNv (src sl obj v : Nat) (c : Channel) : (raise src sl obj v c).keysNv = c.keysNv := raiseNow_keysNv src sl obj v c
@[simp] theorem raise_keys (src sl obj v : Nat) (c : Channel) : (raise src sl obj v c).keys = c.keys := raiseNow_keys src sl obj v c
@[simp] theorem raise_ledgerNv (src sl obj v : Nat) (c : Channel) : (raise src sl obj v c).ledgerNv = c.ledgerNv := raiseNow_ledgerNv src sl obj v c
@[simp] theorem raise_ledger (src sl obj v : Nat) (c : Channel) : (raise src sl obj v c).ledger = c.ledger := raiseNow_ledger src sl obj v c
@[simp] theorem raise_dict (src sl obj v : Nat) (c : Channel) : (raise src sl obj v c).dict = c.dict := raiseNow_dict src sl obj v c
@[simp] theorem raise_diag (src sl obj v : Nat) (c : Channel) : (raise src sl obj v c).diag = c.diag := raiseNow_diag src sl obj v c
@[simp] theorem raise_psu (src sl obj v : Nat) (c : Channel) : (raise src sl obj v c).psu = c.psu := raiseNow_psu src sl obj v c
@[simp] theorem raise_epUJ (src sl obj v : Nat) (c : Channel) : (raise src sl obj v c).epUJ = c.epUJ := raiseNow_epUJ src sl obj v c
@[simp] theorem raise_temp (src sl obj v : Nat) (c : Channel) : (raise src sl obj v c).temp = c.temp := raiseNow_temp src sl obj v c
@[simp] theorem raise_tempOut (src sl obj v : Nat) (c : Channel) : (raise src sl obj v c).tempOut = c.tempOut := raiseNow_tempOut src sl obj v c
@[simp] theorem raise_free (src sl obj v : Nat) (c : Channel) : (raise src sl obj v c).free = c.free := raiseNow_free src sl obj v c

@[simp] theorem raiseLimited_id (src sl obj v key : Nat) (c : Channel) : (raiseLimited src sl obj v key c).id = c.id := by unfold raiseLimited; simp only []; split <;> simp
@[simp] theorem raiseLimited_boot (src sl obj v key : Nat) (c : Channel) : (raiseLimited src sl obj v key c).boot = c.boot := by unfold raiseLimited; simp only []; split <;> simp
@[simp] theorem raiseLimited_slots (src sl obj v key : Nat) (c : Channel) : (raiseLimited src sl obj v key c).slots = c.slots := by unfold raiseLimited; simp only []; split <;> simp
@[simp] theorem raiseLimited_time (src sl obj v key : Nat) (c : Channel) : (raiseLimited src sl obj v key c).time = c.time := by unfold raiseLimited; simp only []; split <;> simp
@[simp] theorem raiseLimited_gens (src sl obj v key : Nat) (c : Channel) : (raiseLimited src sl obj v key c).gens = c.gens := by unfold raiseLimited; simp only []; split <;> simp
@[simp] theorem raiseLimited_sw (src sl obj v key : Nat) (c : Channel) : (raiseLimited src sl obj v key c).sw = c.sw := by unfold raiseLimited; simp only []; split <;> simp
@[simp] theorem raiseLimited_ingest (src sl obj v key : Nat) (c : Channel) : (raiseLimited src sl obj v key c).ingest = c.ingest := by unfold raiseLimited; simp only []; split <;> simp
@[simp] theorem raiseLimited_paths (src sl obj v key : Nat) (c : Channel) : (raiseLimited src sl obj v key c).paths = c.paths := by unfold raiseLimited; simp only []; split <;> simp
@[simp] theorem raiseLimited_graphs (src sl obj v key : Nat) (c : Channel) : (raiseLimited src sl obj v key c).graphs = c.graphs := by unfold raiseLimited; simp only []; split <;> simp
@[simp] theorem raiseLimited_disp (src sl obj v key : Nat) (c : Channel) : (raiseLimited src sl obj v key c).disp = c.disp := by unfold raiseLimited; simp only []; split <;> simp
@[simp] theorem raiseLimited_pub (src sl obj v key : Nat) (c : Channel) : (raiseLimited src sl obj v key c).pub = c.pub := by unfold raiseLimited; simp only []; split <;> simp
@[simp] theorem raiseLimited_lse (src sl obj v key : Nat) (c : Channel) : (raiseLimited src sl obj v key c).lse = c.lse := by unfold raiseLimited; simp only []; split <;> simp
@[simp] theorem raiseLimited_retain (src sl obj v key : Nat) (c : Channel) : (raiseLimited src sl obj v key c).retain = c.retain := by unfold raiseLimited; simp only []; split <;> simp
@[simp] theorem raiseLimited_seam (src sl obj v key : Nat) (c : Channel) : (raiseLimited src sl obj v key c).seam = c.seam := by unfold raiseLimited; simp only []; split <;> simp
@[simp] theorem raiseLimited_sleeves (src sl obj v key : Nat) (c : Channel) : (raiseLimited src sl obj v key c).sleeves = c.sleeves := by unfold raiseLimited; simp only []; split <;> simp
@[simp] theorem raiseLimited_can (src sl obj v key : Nat) (c : Channel) : (raiseLimited src sl obj v key c).can = c.can := by unfold raiseLimited; simp only []; split <;> simp
@[simp] theorem raiseLimited_pleat (src sl obj v key : Nat) (c : Channel) : (raiseLimited src sl obj v key c).pleat = c.pleat := by unfold raiseLimited; simp only []; split <;> simp
@[simp] theorem raiseLimited_keysNv (src sl obj v key : Nat) (c : Channel) : (raiseLimited src sl obj v key c).keysNv = c.keysNv := by unfold raiseLimited; simp only []; split <;> simp
@[simp] theorem raiseLimited_keys (src sl obj v key : Nat) (c : Channel) : (raiseLimited src sl obj v key c).keys = c.keys := by unfold raiseLimited; simp only []; split <;> simp
@[simp] theorem raiseLimited_ledgerNv (src sl obj v key : Nat) (c : Channel) : (raiseLimited src sl obj v key c).ledgerNv = c.ledgerNv := by unfold raiseLimited; simp only []; split <;> simp
@[simp] theorem raiseLimited_ledger (src sl obj v key : Nat) (c : Channel) : (raiseLimited src sl obj v key c).ledger = c.ledger := by unfold raiseLimited; simp only []; split <;> simp
@[simp] theorem raiseLimited_dict (src sl obj v key : Nat) (c : Channel) : (raiseLimited src sl obj v key c).dict = c.dict := by unfold raiseLimited; simp only []; split <;> simp
@[simp] theorem raiseLimited_psu (src sl obj v key : Nat) (c : Channel) : (raiseLimited src sl obj v key c).psu = c.psu := by unfold raiseLimited; simp only []; split <;> simp
@[simp] theorem raiseLimited_epUJ (src sl obj v key : Nat) (c : Channel) : (raiseLimited src sl obj v key c).epUJ = c.epUJ := by unfold raiseLimited; simp only []; split <;> simp
@[simp] theorem raiseLimited_temp (src sl obj v key : Nat) (c : Channel) : (raiseLimited src sl obj v key c).temp = c.temp := by unfold raiseLimited; simp only []; split <;> simp
@[simp] theorem raiseLimited_tempOut (src sl obj v key : Nat) (c : Channel) : (raiseLimited src sl obj v key c).tempOut = c.tempOut := by unfold raiseLimited; simp only []; split <;> simp
@[simp] theorem raiseLimited_free (src sl obj v key : Nat) (c : Channel) : (raiseLimited src sl obj v key c).free = c.free := by unfold raiseLimited; simp only []; split <;> simp

@[simp] theorem episode_id (src : Nat) (d : List Byte) (c : Channel) : (episode src d c).id = c.id := by unfold episode; simp only []; split_ifs <;> simp
@[simp] theorem episode_boot (src : Nat) (d : List Byte) (c : Channel) : (episode src d c).boot = c.boot := by unfold episode; simp only []; split_ifs <;> simp
@[simp] theorem episode_slots (src : Nat) (d : List Byte) (c : Channel) : (episode src d c).slots = c.slots := by unfold episode; simp only []; split_ifs <;> simp
@[simp] theorem episode_time (src : Nat) (d : List Byte) (c : Channel) : (episode src d c).time = c.time := by unfold episode; simp only []; split_ifs <;> simp
@[simp] theorem episode_gens (src : Nat) (d : List Byte) (c : Channel) : (episode src d c).gens = c.gens := by unfold episode; simp only []; split_ifs <;> simp
@[simp] theorem episode_sw (src : Nat) (d : List Byte) (c : Channel) : (episode src d c).sw = c.sw := by unfold episode; simp only []; split_ifs <;> simp
@[simp] theorem episode_ingest (src : Nat) (d : List Byte) (c : Channel) : (episode src d c).ingest = c.ingest := by unfold episode; simp only []; split_ifs <;> simp
@[simp] theorem episode_paths (src : Nat) (d : List Byte) (c : Channel) : (episode src d c).paths = c.paths := by unfold episode; simp only []; split_ifs <;> simp
@[simp] theorem episode_graphs (src : Nat) (d : List Byte) (c : Channel) : (episode src d c).graphs = c.graphs := by unfold episode; simp only []; split_ifs <;> simp
@[simp] theorem episode_disp (src : Nat) (d : List Byte) (c : Channel) : (episode src d c).disp = c.disp := by unfold episode; simp only []; split_ifs <;> simp
@[simp] theorem episode_pub (src : Nat) (d : List Byte) (c : Channel) : (episode src d c).pub = c.pub := by unfold episode; simp only []; split_ifs <;> simp
@[simp] theorem episode_lse (src : Nat) (d : List Byte) (c : Channel) : (episode src d c).lse = c.lse := by unfold episode; simp only []; split_ifs <;> simp
@[simp] theorem episode_retain (src : Nat) (d : List Byte) (c : Channel) : (episode src d c).retain = c.retain := by unfold episode; simp only []; split_ifs <;> simp
@[simp] theorem episode_seam (src : Nat) (d : List Byte) (c : Channel) : (episode src d c).seam = c.seam := by unfold episode; simp only []; split_ifs <;> simp
@[simp] theorem episode_sleeves (src : Nat) (d : List Byte) (c : Channel) : (episode src d c).sleeves = c.sleeves := by unfold episode; simp only []; split_ifs <;> simp
@[simp] theorem episode_can (src : Nat) (d : List Byte) (c : Channel) : (episode src d c).can = c.can := by unfold episode; simp only []; split_ifs <;> simp
@[simp] theorem episode_pleat (src : Nat) (d : List Byte) (c : Channel) : (episode src d c).pleat = c.pleat := by unfold episode; simp only []; split_ifs <;> simp
@[simp] theorem episode_keysNv (src : Nat) (d : List Byte) (c : Channel) : (episode src d c).keysNv = c.keysNv := by unfold episode; simp only []; split_ifs <;> simp
@[simp] theorem episode_keys (src : Nat) (d : List Byte) (c : Channel) : (episode src d c).keys = c.keys := by unfold episode; simp only []; split_ifs <;> simp
@[simp] theorem episode_ledgerNv (src : Nat) (d : List Byte) (c : Channel) : (episode src d c).ledgerNv = c.ledgerNv := by unfold episode; simp only []; split_ifs <;> simp
@[simp] theorem episode_dict (src : Nat) (d : List Byte) (c : Channel) : (episode src d c).dict = c.dict := by unfold episode; simp only []; split_ifs <;> simp
@[simp] theorem episode_psu (src : Nat) (d : List Byte) (c : Channel) : (episode src d c).psu = c.psu := by unfold episode; simp only []; split_ifs <;> simp
@[simp] theorem episode_epUJ (src : Nat) (d : List Byte) (c : Channel) : (episode src d c).epUJ = c.epUJ := by unfold episode; simp only []; split_ifs <;> simp
@[simp] theorem episode_temp (src : Nat) (d : List Byte) (c : Channel) : (episode src d c).temp = c.temp := by unfold episode; simp only []; split_ifs <;> simp
@[simp] theorem episode_tempOut (src : Nat) (d : List Byte) (c : Channel) : (episode src d c).tempOut = c.tempOut := by unfold episode; simp only []; split_ifs <;> simp
@[simp] theorem episode_free (src : Nat) (d : List Byte) (c : Channel) : (episode src d c).free = c.free := by unfold episode; simp only []; split_ifs <;> simp

@[simp] theorem injEnd_id (i st : Nat) (c : Channel) : (injEnd i st c).id = c.id := by unfold injEnd; split <;> first | rfl | (simp only []; split <;> simp)
@[simp] theorem injEnd_boot (i st : Nat) (c : Channel) : (injEnd i st c).boot = c.boot := by unfold injEnd; split <;> first | rfl | (simp only []; split <;> simp)
@[simp] theorem injEnd_slots (i st : Nat) (c : Channel) : (injEnd i st c).slots = c.slots := by unfold injEnd; split <;> first | rfl | (simp only []; split <;> simp)
@[simp] theorem injEnd_time (i st : Nat) (c : Channel) : (injEnd i st c).time = c.time := by unfold injEnd; split <;> first | rfl | (simp only []; split <;> simp)
@[simp] theorem injEnd_gens (i st : Nat) (c : Channel) : (injEnd i st c).gens = c.gens := by unfold injEnd; split <;> first | rfl | (simp only []; split <;> simp)
@[simp] theorem injEnd_sw (i st : Nat) (c : Channel) : (injEnd i st c).sw = c.sw := by unfold injEnd; split <;> first | rfl | (simp only []; split <;> simp)
@[simp] theorem injEnd_ingest (i st : Nat) (c : Channel) : (injEnd i st c).ingest = c.ingest := by unfold injEnd; split <;> first | rfl | (simp only []; split <;> simp)
@[simp] theorem injEnd_paths (i st : Nat) (c : Channel) : (injEnd i st c).paths = c.paths := by unfold injEnd; split <;> first | rfl | (simp only []; split <;> simp)
@[simp] theorem injEnd_graphs (i st : Nat) (c : Channel) : (injEnd i st c).graphs = c.graphs := by unfold injEnd; split <;> first | rfl | (simp only []; split <;> simp)
@[simp] theorem injEnd_disp (i st : Nat) (c : Channel) : (injEnd i st c).disp = c.disp := by unfold injEnd; split <;> first | rfl | (simp only []; split <;> simp)
@[simp] theorem injEnd_pub (i st : Nat) (c : Channel) : (injEnd i st c).pub = c.pub := by unfold injEnd; split <;> first | rfl | (simp only []; split <;> simp)
@[simp] theorem injEnd_lse (i st : Nat) (c : Channel) : (injEnd i st c).lse = c.lse := by unfold injEnd; split <;> first | rfl | (simp only []; split <;> simp)
@[simp] theorem injEnd_retain (i st : Nat) (c : Channel) : (injEnd i st c).retain = c.retain := by unfold injEnd; split <;> first | rfl | (simp only []; split <;> simp)
@[simp] theorem injEnd_seam (i st : Nat) (c : Channel) : (injEnd i st c).seam = c.seam := by unfold injEnd; split <;> first | rfl | (simp only []; split <;> simp)
@[simp] theorem injEnd_sleeves (i st : Nat) (c : Channel) : (injEnd i st c).sleeves = c.sleeves := by unfold injEnd; split <;> first | rfl | (simp only []; split <;> simp)
@[simp] theorem injEnd_can (i st : Nat) (c : Channel) : (injEnd i st c).can = c.can := by unfold injEnd; split <;> first | rfl | (simp only []; split <;> simp)
@[simp] theorem injEnd_pleat (i st : Nat) (c : Channel) : (injEnd i st c).pleat = c.pleat := by unfold injEnd; split <;> first | rfl | (simp only []; split <;> simp)
@[simp] theorem injEnd_keysNv (i st : Nat) (c : Channel) : (injEnd i st c).keysNv = c.keysNv := by unfold injEnd; split <;> first | rfl | (simp only []; split <;> simp)
@[simp] theorem injEnd_keys (i st : Nat) (c : Channel) : (injEnd i st c).keys = c.keys := by unfold injEnd; split <;> first | rfl | (simp only []; split <;> simp)
@[simp] theorem injEnd_ledgerNv (i st : Nat) (c : Channel) : (injEnd i st c).ledgerNv = c.ledgerNv := by unfold injEnd; split <;> first | rfl | (simp only []; split <;> simp)
@[simp] theorem injEnd_ledger (i st : Nat) (c : Channel) : (injEnd i st c).ledger = c.ledger := by unfold injEnd; split <;> first | rfl | (simp only []; split <;> simp)
@[simp] theorem injEnd_dict (i st : Nat) (c : Channel) : (injEnd i st c).dict = c.dict := by unfold injEnd; split <;> first | rfl | (simp only []; split <;> simp)
@[simp] theorem injEnd_psu (i st : Nat) (c : Channel) : (injEnd i st c).psu = c.psu := by unfold injEnd; split <;> first | rfl | (simp only []; split <;> simp)
@[simp] theorem injEnd_epUJ (i st : Nat) (c : Channel) : (injEnd i st c).epUJ = c.epUJ := by unfold injEnd; split <;> first | rfl | (simp only []; split <;> simp)
@[simp] theorem injEnd_temp (i st : Nat) (c : Channel) : (injEnd i st c).temp = c.temp := by unfold injEnd; split <;> first | rfl | (simp only []; split <;> simp)
@[simp] theorem injEnd_tempOut (i st : Nat) (c : Channel) : (injEnd i st c).tempOut = c.tempOut := by unfold injEnd; split <;> first | rfl | (simp only []; split <;> simp)
@[simp] theorem injEnd_free (i st : Nat) (c : Channel) : (injEnd i st c).free = c.free := by unfold injEnd; split <;> first | rfl | (simp only []; split <;> simp)

@[simp] theorem injCheck_id (c : Channel) : (injCheck c).id = c.id := foldl_keeps (g := Channel.id) (fun c x => by split <;> simp) _ _
@[simp] theorem injCheck_boot (c : Channel) : (injCheck c).boot = c.boot := foldl_keeps (g := Channel.boot) (fun c x => by split <;> simp) _ _
@[simp] theorem injCheck_slots (c : Channel) : (injCheck c).slots = c.slots := foldl_keeps (g := Channel.slots) (fun c x => by split <;> simp) _ _
@[simp] theorem injCheck_time (c : Channel) : (injCheck c).time = c.time := foldl_keeps (g := Channel.time) (fun c x => by split <;> simp) _ _
@[simp] theorem injCheck_gens (c : Channel) : (injCheck c).gens = c.gens := foldl_keeps (g := Channel.gens) (fun c x => by split <;> simp) _ _
@[simp] theorem injCheck_sw (c : Channel) : (injCheck c).sw = c.sw := foldl_keeps (g := Channel.sw) (fun c x => by split <;> simp) _ _
@[simp] theorem injCheck_ingest (c : Channel) : (injCheck c).ingest = c.ingest := foldl_keeps (g := Channel.ingest) (fun c x => by split <;> simp) _ _
@[simp] theorem injCheck_paths (c : Channel) : (injCheck c).paths = c.paths := foldl_keeps (g := Channel.paths) (fun c x => by split <;> simp) _ _
@[simp] theorem injCheck_graphs (c : Channel) : (injCheck c).graphs = c.graphs := foldl_keeps (g := Channel.graphs) (fun c x => by split <;> simp) _ _
@[simp] theorem injCheck_disp (c : Channel) : (injCheck c).disp = c.disp := foldl_keeps (g := Channel.disp) (fun c x => by split <;> simp) _ _
@[simp] theorem injCheck_pub (c : Channel) : (injCheck c).pub = c.pub := foldl_keeps (g := Channel.pub) (fun c x => by split <;> simp) _ _
@[simp] theorem injCheck_lse (c : Channel) : (injCheck c).lse = c.lse := foldl_keeps (g := Channel.lse) (fun c x => by split <;> simp) _ _
@[simp] theorem injCheck_retain (c : Channel) : (injCheck c).retain = c.retain := foldl_keeps (g := Channel.retain) (fun c x => by split <;> simp) _ _
@[simp] theorem injCheck_seam (c : Channel) : (injCheck c).seam = c.seam := foldl_keeps (g := Channel.seam) (fun c x => by split <;> simp) _ _
@[simp] theorem injCheck_sleeves (c : Channel) : (injCheck c).sleeves = c.sleeves := foldl_keeps (g := Channel.sleeves) (fun c x => by split <;> simp) _ _
@[simp] theorem injCheck_can (c : Channel) : (injCheck c).can = c.can := foldl_keeps (g := Channel.can) (fun c x => by split <;> simp) _ _
@[simp] theorem injCheck_pleat (c : Channel) : (injCheck c).pleat = c.pleat := foldl_keeps (g := Channel.pleat) (fun c x => by split <;> simp) _ _
@[simp] theorem injCheck_keysNv (c : Channel) : (injCheck c).keysNv = c.keysNv := foldl_keeps (g := Channel.keysNv) (fun c x => by split <;> simp) _ _
@[simp] theorem injCheck_keys (c : Channel) : (injCheck c).keys = c.keys := foldl_keeps (g := Channel.keys) (fun c x => by split <;> simp) _ _
@[simp] theorem injCheck_ledgerNv (c : Channel) : (injCheck c).ledgerNv = c.ledgerNv := foldl_keeps (g := Channel.ledgerNv) (fun c x => by split <;> simp) _ _
@[simp] theorem injCheck_ledger (c : Channel) : (injCheck c).ledger = c.ledger := foldl_keeps (g := Channel.ledger) (fun c x => by split <;> simp) _ _
@[simp] theorem injCheck_dict (c : Channel) : (injCheck c).dict = c.dict := foldl_keeps (g := Channel.dict) (fun c x => by split <;> simp) _ _
@[simp] theorem injCheck_psu (c : Channel) : (injCheck c).psu = c.psu := foldl_keeps (g := Channel.psu) (fun c x => by split <;> simp) _ _
@[simp] theorem injCheck_epUJ (c : Channel) : (injCheck c).epUJ = c.epUJ := foldl_keeps (g := Channel.epUJ) (fun c x => by split <;> simp) _ _
@[simp] theorem injCheck_temp (c : Channel) : (injCheck c).temp = c.temp := foldl_keeps (g := Channel.temp) (fun c x => by split <;> simp) _ _
@[simp] theorem injCheck_tempOut (c : Channel) : (injCheck c).tempOut = c.tempOut := foldl_keeps (g := Channel.tempOut) (fun c x => by split <;> simp) _ _
@[simp] theorem injCheck_free (c : Channel) : (injCheck c).free = c.free := foldl_keeps (g := Channel.free) (fun c x => by split <;> simp) _ _

@[simp] theorem injEndAll_id (c : Channel) : (injEndAll c).id = c.id := foldl_keeps (g := Channel.id) (fun c x => by simp) _ _
@[simp] theorem injEndAll_boot (c : Channel) : (injEndAll c).boot = c.boot := foldl_keeps (g := Channel.boot) (fun c x => by simp) _ _
@[simp] theorem injEndAll_slots (c : Channel) : (injEndAll c).slots = c.slots := foldl_keeps (g := Channel.slots) (fun c x => by simp) _ _
@[simp] theorem injEndAll_time (c : Channel) : (injEndAll c).time = c.time := foldl_keeps (g := Channel.time) (fun c x => by simp) _ _
@[simp] theorem injEndAll_gens (c : Channel) : (injEndAll c).gens = c.gens := foldl_keeps (g := Channel.gens) (fun c x => by simp) _ _
@[simp] theorem injEndAll_sw (c : Channel) : (injEndAll c).sw = c.sw := foldl_keeps (g := Channel.sw) (fun c x => by simp) _ _
@[simp] theorem injEndAll_ingest (c : Channel) : (injEndAll c).ingest = c.ingest := foldl_keeps (g := Channel.ingest) (fun c x => by simp) _ _
@[simp] theorem injEndAll_paths (c : Channel) : (injEndAll c).paths = c.paths := foldl_keeps (g := Channel.paths) (fun c x => by simp) _ _
@[simp] theorem injEndAll_graphs (c : Channel) : (injEndAll c).graphs = c.graphs := foldl_keeps (g := Channel.graphs) (fun c x => by simp) _ _
@[simp] theorem injEndAll_disp (c : Channel) : (injEndAll c).disp = c.disp := foldl_keeps (g := Channel.disp) (fun c x => by simp) _ _
@[simp] theorem injEndAll_pub (c : Channel) : (injEndAll c).pub = c.pub := foldl_keeps (g := Channel.pub) (fun c x => by simp) _ _
@[simp] theorem injEndAll_lse (c : Channel) : (injEndAll c).lse = c.lse := foldl_keeps (g := Channel.lse) (fun c x => by simp) _ _
@[simp] theorem injEndAll_retain (c : Channel) : (injEndAll c).retain = c.retain := foldl_keeps (g := Channel.retain) (fun c x => by simp) _ _
@[simp] theorem injEndAll_seam (c : Channel) : (injEndAll c).seam = c.seam := foldl_keeps (g := Channel.seam) (fun c x => by simp) _ _
@[simp] theorem injEndAll_sleeves (c : Channel) : (injEndAll c).sleeves = c.sleeves := foldl_keeps (g := Channel.sleeves) (fun c x => by simp) _ _
@[simp] theorem injEndAll_can (c : Channel) : (injEndAll c).can = c.can := foldl_keeps (g := Channel.can) (fun c x => by simp) _ _
@[simp] theorem injEndAll_pleat (c : Channel) : (injEndAll c).pleat = c.pleat := foldl_keeps (g := Channel.pleat) (fun c x => by simp) _ _
@[simp] theorem injEndAll_keysNv (c : Channel) : (injEndAll c).keysNv = c.keysNv := foldl_keeps (g := Channel.keysNv) (fun c x => by simp) _ _
@[simp] theorem injEndAll_keys (c : Channel) : (injEndAll c).keys = c.keys := foldl_keeps (g := Channel.keys) (fun c x => by simp) _ _
@[simp] theorem injEndAll_ledgerNv (c : Channel) : (injEndAll c).ledgerNv = c.ledgerNv := foldl_keeps (g := Channel.ledgerNv) (fun c x => by simp) _ _
@[simp] theorem injEndAll_ledger (c : Channel) : (injEndAll c).ledger = c.ledger := foldl_keeps (g := Channel.ledger) (fun c x => by simp) _ _
@[simp] theorem injEndAll_dict (c : Channel) : (injEndAll c).dict = c.dict := foldl_keeps (g := Channel.dict) (fun c x => by simp) _ _
@[simp] theorem injEndAll_psu (c : Channel) : (injEndAll c).psu = c.psu := foldl_keeps (g := Channel.psu) (fun c x => by simp) _ _
@[simp] theorem injEndAll_epUJ (c : Channel) : (injEndAll c).epUJ = c.epUJ := foldl_keeps (g := Channel.epUJ) (fun c x => by simp) _ _
@[simp] theorem injEndAll_temp (c : Channel) : (injEndAll c).temp = c.temp := foldl_keeps (g := Channel.temp) (fun c x => by simp) _ _
@[simp] theorem injEndAll_tempOut (c : Channel) : (injEndAll c).tempOut = c.tempOut := foldl_keeps (g := Channel.tempOut) (fun c x => by simp) _ _
@[simp] theorem injEndAll_free (c : Channel) : (injEndAll c).free = c.free := foldl_keeps (g := Channel.free) (fun c x => by simp) _ _

@[simp] theorem enterMode_id (m : Mode) (c : Channel) : (enterMode m c).id = c.id := by unfold enterMode; split <;> simp
@[simp] theorem enterMode_slots (m : Mode) (c : Channel) : (enterMode m c).slots = c.slots := by unfold enterMode; split <;> simp
@[simp] theorem enterMode_time (m : Mode) (c : Channel) : (enterMode m c).time = c.time := by unfold enterMode; split <;> simp
@[simp] theorem enterMode_gens (m : Mode) (c : Channel) : (enterMode m c).gens = c.gens := by unfold enterMode; split <;> simp
@[simp] theorem enterMode_sw (m : Mode) (c : Channel) : (enterMode m c).sw = c.sw := by unfold enterMode; split <;> simp
@[simp] theorem enterMode_ingest (m : Mode) (c : Channel) : (enterMode m c).ingest = c.ingest := by unfold enterMode; split <;> simp
@[simp] theorem enterMode_paths (m : Mode) (c : Channel) : (enterMode m c).paths = c.paths := by unfold enterMode; split <;> simp
@[simp] theorem enterMode_graphs (m : Mode) (c : Channel) : (enterMode m c).graphs = c.graphs := by unfold enterMode; split <;> simp
@[simp] theorem enterMode_disp (m : Mode) (c : Channel) : (enterMode m c).disp = c.disp := by unfold enterMode; split <;> simp
@[simp] theorem enterMode_pub (m : Mode) (c : Channel) : (enterMode m c).pub = c.pub := by unfold enterMode; split <;> simp
@[simp] theorem enterMode_lse (m : Mode) (c : Channel) : (enterMode m c).lse = c.lse := by unfold enterMode; split <;> simp
@[simp] theorem enterMode_retain (m : Mode) (c : Channel) : (enterMode m c).retain = c.retain := by unfold enterMode; split <;> simp
@[simp] theorem enterMode_seam (m : Mode) (c : Channel) : (enterMode m c).seam = c.seam := by unfold enterMode; split <;> simp
@[simp] theorem enterMode_sleeves (m : Mode) (c : Channel) : (enterMode m c).sleeves = c.sleeves := by unfold enterMode; split <;> simp
@[simp] theorem enterMode_pleat (m : Mode) (c : Channel) : (enterMode m c).pleat = c.pleat := by unfold enterMode; split <;> simp
@[simp] theorem enterMode_keysNv (m : Mode) (c : Channel) : (enterMode m c).keysNv = c.keysNv := by unfold enterMode; split <;> simp
@[simp] theorem enterMode_keys (m : Mode) (c : Channel) : (enterMode m c).keys = c.keys := by unfold enterMode; split <;> simp
@[simp] theorem enterMode_ledgerNv (m : Mode) (c : Channel) : (enterMode m c).ledgerNv = c.ledgerNv := by unfold enterMode; split <;> simp
@[simp] theorem enterMode_ledger (m : Mode) (c : Channel) : (enterMode m c).ledger = c.ledger := by unfold enterMode; split <;> simp
@[simp] theorem enterMode_dict (m : Mode) (c : Channel) : (enterMode m c).dict = c.dict := by unfold enterMode; split <;> simp
@[simp] theorem enterMode_psu (m : Mode) (c : Channel) : (enterMode m c).psu = c.psu := by unfold enterMode; split <;> simp
@[simp] theorem enterMode_epUJ (m : Mode) (c : Channel) : (enterMode m c).epUJ = c.epUJ := by unfold enterMode; split <;> simp
@[simp] theorem enterMode_temp (m : Mode) (c : Channel) : (enterMode m c).temp = c.temp := by unfold enterMode; split <;> simp
@[simp] theorem enterMode_tempOut (m : Mode) (c : Channel) : (enterMode m c).tempOut = c.tempOut := by unfold enterMode; split <;> simp
@[simp] theorem enterMode_free (m : Mode) (c : Channel) : (enterMode m c).free = c.free := by unfold enterMode; split <;> simp

@[simp] theorem enterMode_boot (m : Mode) (c : Channel) : (enterMode m c).boot = { c.boot with mode := m } := by
  unfold enterMode
  split
  · rename_i h
    subst h
    rfl
  · simp

end Sys2Proof.Machine
end

