-- ==== Sys2Proof/Laws/Roles.lean ====
section
/-! SUPPORT. What the shared operations on roles, answers and readiness leave alone, field by field. -/
namespace Sys2Proof.Machine

@[simp] theorem post_id (r : MRec) (c : Channel) : (post r c).id = c.id := by unfold post; split <;> simp
@[simp] theorem post_boot (r : MRec) (c : Channel) : (post r c).boot = c.boot := by unfold post; split <;> simp
@[simp] theorem post_slots (r : MRec) (c : Channel) : (post r c).slots = c.slots := by unfold post; split <;> simp
@[simp] theorem post_time (r : MRec) (c : Channel) : (post r c).time = c.time := by unfold post; split <;> simp
@[simp] theorem post_gens (r : MRec) (c : Channel) : (post r c).gens = c.gens := by unfold post; split <;> simp
@[simp] theorem post_sw (r : MRec) (c : Channel) : (post r c).sw = c.sw := by unfold post; split <;> simp
@[simp] theorem post_ingest (r : MRec) (c : Channel) : (post r c).ingest = c.ingest := by unfold post; split <;> simp
@[simp] theorem post_paths (r : MRec) (c : Channel) : (post r c).paths = c.paths := by unfold post; split <;> simp
@[simp] theorem post_graphs (r : MRec) (c : Channel) : (post r c).graphs = c.graphs := by unfold post; split <;> simp
@[simp] theorem post_disp (r : MRec) (c : Channel) : (post r c).disp = c.disp := by unfold post; split <;> simp
@[simp] theorem post_pub (r : MRec) (c : Channel) : (post r c).pub = c.pub := by unfold post; split <;> simp
@[simp] theorem post_lse (r : MRec) (c : Channel) : (post r c).lse = c.lse := by unfold post; split <;> simp
@[simp] theorem post_retain (r : MRec) (c : Channel) : (post r c).retain = c.retain := by unfold post; split <;> simp
@[simp] theorem post_host (r : MRec) (c : Channel) : (post r c).host = c.host := by unfold post; split <;> simp
@[simp] theorem post_sleeves (r : MRec) (c : Channel) : (post r c).sleeves = c.sleeves := by unfold post; split <;> simp
@[simp] theorem post_can (r : MRec) (c : Channel) : (post r c).can = c.can := by unfold post; split <;> simp
@[simp] theorem post_pleat (r : MRec) (c : Channel) : (post r c).pleat = c.pleat := by unfold post; split <;> simp
@[simp] theorem post_keysNv (r : MRec) (c : Channel) : (post r c).keysNv = c.keysNv := by unfold post; split <;> simp
@[simp] theorem post_keys (r : MRec) (c : Channel) : (post r c).keys = c.keys := by unfold post; split <;> simp
@[simp] theorem post_journal (r : MRec) (c : Channel) : (post r c).journal = c.journal := by unfold post; split <;> simp
@[simp] theorem post_ledgerNv (r : MRec) (c : Channel) : (post r c).ledgerNv = c.ledgerNv := by unfold post; split <;> simp
@[simp] theorem post_ledger (r : MRec) (c : Channel) : (post r c).ledger = c.ledger := by unfold post; split <;> simp
@[simp] theorem post_dict (r : MRec) (c : Channel) : (post r c).dict = c.dict := by unfold post; split <;> simp
@[simp] theorem post_diag (r : MRec) (c : Channel) : (post r c).diag = c.diag := by unfold post; split <;> simp
@[simp] theorem post_psu (r : MRec) (c : Channel) : (post r c).psu = c.psu := by unfold post; split <;> simp
@[simp] theorem post_epUJ (r : MRec) (c : Channel) : (post r c).epUJ = c.epUJ := by unfold post; split <;> simp
@[simp] theorem post_temp (r : MRec) (c : Channel) : (post r c).temp = c.temp := by unfold post; split <;> simp
@[simp] theorem post_tempOut (r : MRec) (c : Channel) : (post r c).tempOut = c.tempOut := by unfold post; split <;> simp
@[simp] theorem post_emitted (r : MRec) (c : Channel) : (post r c).emitted = c.emitted := by unfold post; split <;> simp
@[simp] theorem post_free (r : MRec) (c : Channel) : (post r c).free = c.free := by unfold post; split <;> simp

@[simp] theorem dropControl_id (c : Channel) : (dropControl c).id = c.id := rfl
@[simp] theorem dropControl_slots (c : Channel) : (dropControl c).slots = c.slots := rfl
@[simp] theorem dropControl_time (c : Channel) : (dropControl c).time = c.time := rfl
@[simp] theorem dropControl_gens (c : Channel) : (dropControl c).gens = c.gens := rfl
@[simp] theorem dropControl_sw (c : Channel) : (dropControl c).sw = c.sw := rfl
@[simp] theorem dropControl_ingest (c : Channel) : (dropControl c).ingest = c.ingest := rfl
@[simp] theorem dropControl_paths (c : Channel) : (dropControl c).paths = c.paths := rfl
@[simp] theorem dropControl_graphs (c : Channel) : (dropControl c).graphs = c.graphs := rfl
@[simp] theorem dropControl_disp (c : Channel) : (dropControl c).disp = c.disp := rfl
@[simp] theorem dropControl_lse (c : Channel) : (dropControl c).lse = c.lse := rfl
@[simp] theorem dropControl_retain (c : Channel) : (dropControl c).retain = c.retain := rfl
@[simp] theorem dropControl_host (c : Channel) : (dropControl c).host = c.host := rfl
@[simp] theorem dropControl_sleeves (c : Channel) : (dropControl c).sleeves = c.sleeves := rfl
@[simp] theorem dropControl_can (c : Channel) : (dropControl c).can = c.can := rfl
@[simp] theorem dropControl_pleat (c : Channel) : (dropControl c).pleat = c.pleat := rfl
@[simp] theorem dropControl_keysNv (c : Channel) : (dropControl c).keysNv = c.keysNv := rfl
@[simp] theorem dropControl_keys (c : Channel) : (dropControl c).keys = c.keys := rfl
@[simp] theorem dropControl_journal (c : Channel) : (dropControl c).journal = c.journal := rfl
@[simp] theorem dropControl_ledgerNv (c : Channel) : (dropControl c).ledgerNv = c.ledgerNv := rfl
@[simp] theorem dropControl_ledger (c : Channel) : (dropControl c).ledger = c.ledger := rfl
@[simp] theorem dropControl_dict (c : Channel) : (dropControl c).dict = c.dict := rfl
@[simp] theorem dropControl_ctr (c : Channel) : (dropControl c).ctr = c.ctr := rfl
@[simp] theorem dropControl_diag (c : Channel) : (dropControl c).diag = c.diag := rfl
@[simp] theorem dropControl_psu (c : Channel) : (dropControl c).psu = c.psu := rfl
@[simp] theorem dropControl_epUJ (c : Channel) : (dropControl c).epUJ = c.epUJ := rfl
@[simp] theorem dropControl_temp (c : Channel) : (dropControl c).temp = c.temp := rfl
@[simp] theorem dropControl_tempOut (c : Channel) : (dropControl c).tempOut = c.tempOut := rfl
@[simp] theorem dropControl_emitted (c : Channel) : (dropControl c).emitted = c.emitted := rfl
@[simp] theorem dropControl_free (c : Channel) : (dropControl c).free = c.free := rfl

@[simp] theorem relinquish_id (code : Nat) (c : Channel) : (relinquish code c).id = c.id := by unfold relinquish; split <;> simp
@[simp] theorem relinquish_slots (code : Nat) (c : Channel) : (relinquish code c).slots = c.slots := by unfold relinquish; split <;> simp
@[simp] theorem relinquish_time (code : Nat) (c : Channel) : (relinquish code c).time = c.time := by unfold relinquish; split <;> simp
@[simp] theorem relinquish_gens (code : Nat) (c : Channel) : (relinquish code c).gens = c.gens := by unfold relinquish; split <;> simp
@[simp] theorem relinquish_sw (code : Nat) (c : Channel) : (relinquish code c).sw = c.sw := by unfold relinquish; split <;> simp
@[simp] theorem relinquish_ingest (code : Nat) (c : Channel) : (relinquish code c).ingest = c.ingest := by unfold relinquish; split <;> simp
@[simp] theorem relinquish_paths (code : Nat) (c : Channel) : (relinquish code c).paths = c.paths := by unfold relinquish; split <;> simp
@[simp] theorem relinquish_graphs (code : Nat) (c : Channel) : (relinquish code c).graphs = c.graphs := by unfold relinquish; split <;> simp
@[simp] theorem relinquish_disp (code : Nat) (c : Channel) : (relinquish code c).disp = c.disp := by unfold relinquish; split <;> simp
@[simp] theorem relinquish_lse (code : Nat) (c : Channel) : (relinquish code c).lse = c.lse := by unfold relinquish; split <;> simp
@[simp] theorem relinquish_retain (code : Nat) (c : Channel) : (relinquish code c).retain = c.retain := by unfold relinquish; split <;> simp
@[simp] theorem relinquish_sleeves (code : Nat) (c : Channel) : (relinquish code c).sleeves = c.sleeves := by unfold relinquish; split <;> simp
@[simp] theorem relinquish_can (code : Nat) (c : Channel) : (relinquish code c).can = c.can := by unfold relinquish; split <;> simp
@[simp] theorem relinquish_pleat (code : Nat) (c : Channel) : (relinquish code c).pleat = c.pleat := by unfold relinquish; split <;> simp
@[simp] theorem relinquish_keysNv (code : Nat) (c : Channel) : (relinquish code c).keysNv = c.keysNv := by unfold relinquish; split <;> simp
@[simp] theorem relinquish_keys (code : Nat) (c : Channel) : (relinquish code c).keys = c.keys := by unfold relinquish; split <;> simp
@[simp] theorem relinquish_ledgerNv (code : Nat) (c : Channel) : (relinquish code c).ledgerNv = c.ledgerNv := by unfold relinquish; split <;> simp
@[simp] theorem relinquish_dict (code : Nat) (c : Channel) : (relinquish code c).dict = c.dict := by unfold relinquish; split <;> simp
@[simp] theorem relinquish_psu (code : Nat) (c : Channel) : (relinquish code c).psu = c.psu := by unfold relinquish; split <;> simp
@[simp] theorem relinquish_epUJ (code : Nat) (c : Channel) : (relinquish code c).epUJ = c.epUJ := by unfold relinquish; split <;> simp
@[simp] theorem relinquish_temp (code : Nat) (c : Channel) : (relinquish code c).temp = c.temp := by unfold relinquish; split <;> simp
@[simp] theorem relinquish_tempOut (code : Nat) (c : Channel) : (relinquish code c).tempOut = c.tempOut := by unfold relinquish; split <;> simp
@[simp] theorem relinquish_free (code : Nat) (c : Channel) : (relinquish code c).free = c.free := by unfold relinquish; split <;> simp

@[simp] theorem answer_id (p : Path) (st : Nat) (d : List Byte) (c : Channel) : (answer p st d c).id = c.id := rfl
@[simp] theorem answer_boot (p : Path) (st : Nat) (d : List Byte) (c : Channel) : (answer p st d c).boot = c.boot := rfl
@[simp] theorem answer_slots (p : Path) (st : Nat) (d : List Byte) (c : Channel) : (answer p st d c).slots = c.slots := rfl
@[simp] theorem answer_time (p : Path) (st : Nat) (d : List Byte) (c : Channel) : (answer p st d c).time = c.time := rfl
@[simp] theorem answer_gens (p : Path) (st : Nat) (d : List Byte) (c : Channel) : (answer p st d c).gens = c.gens := rfl
@[simp] theorem answer_sw (p : Path) (st : Nat) (d : List Byte) (c : Channel) : (answer p st d c).sw = c.sw := rfl
@[simp] theorem answer_ingest (p : Path) (st : Nat) (d : List Byte) (c : Channel) : (answer p st d c).ingest = c.ingest := rfl
@[simp] theorem answer_paths (p : Path) (st : Nat) (d : List Byte) (c : Channel) : (answer p st d c).paths = c.paths := rfl
@[simp] theorem answer_graphs (p : Path) (st : Nat) (d : List Byte) (c : Channel) : (answer p st d c).graphs = c.graphs := rfl
@[simp] theorem answer_disp (p : Path) (st : Nat) (d : List Byte) (c : Channel) : (answer p st d c).disp = c.disp := rfl
@[simp] theorem answer_pub (p : Path) (st : Nat) (d : List Byte) (c : Channel) : (answer p st d c).pub = c.pub := rfl
@[simp] theorem answer_lse (p : Path) (st : Nat) (d : List Byte) (c : Channel) : (answer p st d c).lse = c.lse := rfl
@[simp] theorem answer_retain (p : Path) (st : Nat) (d : List Byte) (c : Channel) : (answer p st d c).retain = c.retain := rfl
@[simp] theorem answer_seam (p : Path) (st : Nat) (d : List Byte) (c : Channel) : (answer p st d c).seam = c.seam := rfl
@[simp] theorem answer_sleeves (p : Path) (st : Nat) (d : List Byte) (c : Channel) : (answer p st d c).sleeves = c.sleeves := rfl
@[simp] theorem answer_can (p : Path) (st : Nat) (d : List Byte) (c : Channel) : (answer p st d c).can = c.can := rfl
@[simp] theorem answer_pleat (p : Path) (st : Nat) (d : List Byte) (c : Channel) : (answer p st d c).pleat = c.pleat := rfl
@[simp] theorem answer_keysNv (p : Path) (st : Nat) (d : List Byte) (c : Channel) : (answer p st d c).keysNv = c.keysNv := rfl
@[simp] theorem answer_keys (p : Path) (st : Nat) (d : List Byte) (c : Channel) : (answer p st d c).keys = c.keys := rfl
@[simp] theorem answer_journal (p : Path) (st : Nat) (d : List Byte) (c : Channel) : (answer p st d c).journal = c.journal := rfl
@[simp] theorem answer_ledgerNv (p : Path) (st : Nat) (d : List Byte) (c : Channel) : (answer p st d c).ledgerNv = c.ledgerNv := rfl
@[simp] theorem answer_ledger (p : Path) (st : Nat) (d : List Byte) (c : Channel) : (answer p st d c).ledger = c.ledger := rfl
@[simp] theorem answer_dict (p : Path) (st : Nat) (d : List Byte) (c : Channel) : (answer p st d c).dict = c.dict := rfl
@[simp] theorem answer_ctr (p : Path) (st : Nat) (d : List Byte) (c : Channel) : (answer p st d c).ctr = c.ctr := rfl
@[simp] theorem answer_diag (p : Path) (st : Nat) (d : List Byte) (c : Channel) : (answer p st d c).diag = c.diag := rfl
@[simp] theorem answer_psu (p : Path) (st : Nat) (d : List Byte) (c : Channel) : (answer p st d c).psu = c.psu := rfl
@[simp] theorem answer_epUJ (p : Path) (st : Nat) (d : List Byte) (c : Channel) : (answer p st d c).epUJ = c.epUJ := rfl
@[simp] theorem answer_temp (p : Path) (st : Nat) (d : List Byte) (c : Channel) : (answer p st d c).temp = c.temp := rfl
@[simp] theorem answer_tempOut (p : Path) (st : Nat) (d : List Byte) (c : Channel) : (answer p st d c).tempOut = c.tempOut := rfl
@[simp] theorem answer_free (p : Path) (st : Nat) (d : List Byte) (c : Channel) : (answer p st d c).free = c.free := rfl

@[simp] theorem refuse_id (e i sub : Nat) (p : Path) (c : Channel) : (refuse e i sub p c).id = c.id := by simp [refuse]
@[simp] theorem refuse_boot (e i sub : Nat) (p : Path) (c : Channel) : (refuse e i sub p c).boot = c.boot := by simp [refuse]
@[simp] theorem refuse_slots (e i sub : Nat) (p : Path) (c : Channel) : (refuse e i sub p c).slots = c.slots := by simp [refuse]
@[simp] theorem refuse_time (e i sub : Nat) (p : Path) (c : Channel) : (refuse e i sub p c).time = c.time := by simp [refuse]
@[simp] theorem refuse_gens (e i sub : Nat) (p : Path) (c : Channel) : (refuse e i sub p c).gens = c.gens := by simp [refuse]
@[simp] theorem refuse_sw (e i sub : Nat) (p : Path) (c : Channel) : (refuse e i sub p c).sw = c.sw := by simp [refuse]
@[simp] theorem refuse_ingest (e i sub : Nat) (p : Path) (c : Channel) : (refuse e i sub p c).ingest = c.ingest := by simp [refuse]
@[simp] theorem refuse_paths (e i sub : Nat) (p : Path) (c : Channel) : (refuse e i sub p c).paths = c.paths := by simp [refuse]
@[simp] theorem refuse_graphs (e i sub : Nat) (p : Path) (c : Channel) : (refuse e i sub p c).graphs = c.graphs := by simp [refuse]
@[simp] theorem refuse_disp (e i sub : Nat) (p : Path) (c : Channel) : (refuse e i sub p c).disp = c.disp := by simp [refuse]
@[simp] theorem refuse_pub (e i sub : Nat) (p : Path) (c : Channel) : (refuse e i sub p c).pub = c.pub := by simp [refuse]
@[simp] theorem refuse_lse (e i sub : Nat) (p : Path) (c : Channel) : (refuse e i sub p c).lse = c.lse := by simp [refuse]
@[simp] theorem refuse_retain (e i sub : Nat) (p : Path) (c : Channel) : (refuse e i sub p c).retain = c.retain := by simp [refuse]
@[simp] theorem refuse_seam (e i sub : Nat) (p : Path) (c : Channel) : (refuse e i sub p c).seam = c.seam := by simp [refuse]
@[simp] theorem refuse_sleeves (e i sub : Nat) (p : Path) (c : Channel) : (refuse e i sub p c).sleeves = c.sleeves := by simp [refuse]
@[simp] theorem refuse_can (e i sub : Nat) (p : Path) (c : Channel) : (refuse e i sub p c).can = c.can := by simp [refuse]
@[simp] theorem refuse_pleat (e i sub : Nat) (p : Path) (c : Channel) : (refuse e i sub p c).pleat = c.pleat := by simp [refuse]
@[simp] theorem refuse_keysNv (e i sub : Nat) (p : Path) (c : Channel) : (refuse e i sub p c).keysNv = c.keysNv := by simp [refuse]
@[simp] theorem refuse_keys (e i sub : Nat) (p : Path) (c : Channel) : (refuse e i sub p c).keys = c.keys := by simp [refuse]
@[simp] theorem refuse_journal (e i sub : Nat) (p : Path) (c : Channel) : (refuse e i sub p c).journal = c.journal := by simp [refuse]
@[simp] theorem refuse_ledgerNv (e i sub : Nat) (p : Path) (c : Channel) : (refuse e i sub p c).ledgerNv = c.ledgerNv := by simp [refuse]
@[simp] theorem refuse_ledger (e i sub : Nat) (p : Path) (c : Channel) : (refuse e i sub p c).ledger = c.ledger := by simp [refuse]
@[simp] theorem refuse_diag (e i sub : Nat) (p : Path) (c : Channel) : (refuse e i sub p c).diag = c.diag := by simp [refuse]
@[simp] theorem refuse_psu (e i sub : Nat) (p : Path) (c : Channel) : (refuse e i sub p c).psu = c.psu := by simp [refuse]
@[simp] theorem refuse_epUJ (e i sub : Nat) (p : Path) (c : Channel) : (refuse e i sub p c).epUJ = c.epUJ := by simp [refuse]
@[simp] theorem refuse_temp (e i sub : Nat) (p : Path) (c : Channel) : (refuse e i sub p c).temp = c.temp := by simp [refuse]
@[simp] theorem refuse_tempOut (e i sub : Nat) (p : Path) (c : Channel) : (refuse e i sub p c).tempOut = c.tempOut := by simp [refuse]
@[simp] theorem refuse_free (e i sub : Nat) (p : Path) (c : Channel) : (refuse e i sub p c).free = c.free := by simp [refuse]

@[simp] theorem taken_id (p : Path) (m : HostCmd) (c : Channel) : (taken p m c).id = c.id := by simp only [taken]; split <;> simp
@[simp] theorem taken_boot (p : Path) (m : HostCmd) (c : Channel) : (taken p m c).boot = c.boot := by simp only [taken]; split <;> simp
@[simp] theorem taken_slots (p : Path) (m : HostCmd) (c : Channel) : (taken p m c).slots = c.slots := by simp only [taken]; split <;> simp
@[simp] theorem taken_time (p : Path) (m : HostCmd) (c : Channel) : (taken p m c).time = c.time := by simp only [taken]; split <;> simp
@[simp] theorem taken_gens (p : Path) (m : HostCmd) (c : Channel) : (taken p m c).gens = c.gens := by simp only [taken]; split <;> simp
@[simp] theorem taken_sw (p : Path) (m : HostCmd) (c : Channel) : (taken p m c).sw = c.sw := by simp only [taken]; split <;> simp
@[simp] theorem taken_ingest (p : Path) (m : HostCmd) (c : Channel) : (taken p m c).ingest = c.ingest := by simp only [taken]; split <;> simp
@[simp] theorem taken_paths (p : Path) (m : HostCmd) (c : Channel) : (taken p m c).paths = c.paths := by simp only [taken]; split <;> simp
@[simp] theorem taken_graphs (p : Path) (m : HostCmd) (c : Channel) : (taken p m c).graphs = c.graphs := by simp only [taken]; split <;> simp
@[simp] theorem taken_disp (p : Path) (m : HostCmd) (c : Channel) : (taken p m c).disp = c.disp := by simp only [taken]; split <;> simp
@[simp] theorem taken_pub (p : Path) (m : HostCmd) (c : Channel) : (taken p m c).pub = c.pub := by simp only [taken]; split <;> simp
@[simp] theorem taken_lse (p : Path) (m : HostCmd) (c : Channel) : (taken p m c).lse = c.lse := by simp only [taken]; split <;> simp
@[simp] theorem taken_retain (p : Path) (m : HostCmd) (c : Channel) : (taken p m c).retain = c.retain := by simp only [taken]; split <;> simp
@[simp] theorem taken_host (p : Path) (m : HostCmd) (c : Channel) : (taken p m c).host = c.host := by simp only [taken]; split <;> simp
@[simp] theorem taken_sleeves (p : Path) (m : HostCmd) (c : Channel) : (taken p m c).sleeves = c.sleeves := by simp only [taken]; split <;> simp
@[simp] theorem taken_can (p : Path) (m : HostCmd) (c : Channel) : (taken p m c).can = c.can := by simp only [taken]; split <;> simp
@[simp] theorem taken_pleat (p : Path) (m : HostCmd) (c : Channel) : (taken p m c).pleat = c.pleat := by simp only [taken]; split <;> simp
@[simp] theorem taken_keysNv (p : Path) (m : HostCmd) (c : Channel) : (taken p m c).keysNv = c.keysNv := by simp only [taken]; split <;> simp
@[simp] theorem taken_keys (p : Path) (m : HostCmd) (c : Channel) : (taken p m c).keys = c.keys := by simp only [taken]; split <;> simp
@[simp] theorem taken_ledgerNv (p : Path) (m : HostCmd) (c : Channel) : (taken p m c).ledgerNv = c.ledgerNv := by simp only [taken]; split <;> simp
@[simp] theorem taken_ledger (p : Path) (m : HostCmd) (c : Channel) : (taken p m c).ledger = c.ledger := by simp only [taken]; split <;> simp
@[simp] theorem taken_dict (p : Path) (m : HostCmd) (c : Channel) : (taken p m c).dict = c.dict := by simp only [taken]; split <;> simp
@[simp] theorem taken_diag (p : Path) (m : HostCmd) (c : Channel) : (taken p m c).diag = c.diag := by simp only [taken]; split <;> simp
@[simp] theorem taken_psu (p : Path) (m : HostCmd) (c : Channel) : (taken p m c).psu = c.psu := by simp only [taken]; split <;> simp
@[simp] theorem taken_epUJ (p : Path) (m : HostCmd) (c : Channel) : (taken p m c).epUJ = c.epUJ := by simp only [taken]; split <;> simp
@[simp] theorem taken_temp (p : Path) (m : HostCmd) (c : Channel) : (taken p m c).temp = c.temp := by simp only [taken]; split <;> simp
@[simp] theorem taken_tempOut (p : Path) (m : HostCmd) (c : Channel) : (taken p m c).tempOut = c.tempOut := by simp only [taken]; split <;> simp
@[simp] theorem taken_emitted (p : Path) (m : HostCmd) (c : Channel) : (taken p m c).emitted = c.emitted := by simp only [taken]; split <;> simp
@[simp] theorem taken_free (p : Path) (m : HostCmd) (c : Channel) : (taken p m c).free = c.free := by simp only [taken]; split <;> simp

@[simp] theorem accept_id (p : Path) (m : HostCmd) (c : Channel) : (accept p m c).id = c.id := by simp [accept]
@[simp] theorem accept_boot (p : Path) (m : HostCmd) (c : Channel) : (accept p m c).boot = c.boot := by simp [accept]
@[simp] theorem accept_slots (p : Path) (m : HostCmd) (c : Channel) : (accept p m c).slots = c.slots := by simp [accept]
@[simp] theorem accept_time (p : Path) (m : HostCmd) (c : Channel) : (accept p m c).time = c.time := by simp [accept]
@[simp] theorem accept_gens (p : Path) (m : HostCmd) (c : Channel) : (accept p m c).gens = c.gens := by simp [accept]
@[simp] theorem accept_sw (p : Path) (m : HostCmd) (c : Channel) : (accept p m c).sw = c.sw := by simp [accept]
@[simp] theorem accept_ingest (p : Path) (m : HostCmd) (c : Channel) : (accept p m c).ingest = c.ingest := by simp [accept]
@[simp] theorem accept_paths (p : Path) (m : HostCmd) (c : Channel) : (accept p m c).paths = c.paths := by simp [accept]
@[simp] theorem accept_graphs (p : Path) (m : HostCmd) (c : Channel) : (accept p m c).graphs = c.graphs := by simp [accept]
@[simp] theorem accept_disp (p : Path) (m : HostCmd) (c : Channel) : (accept p m c).disp = c.disp := by simp [accept]
@[simp] theorem accept_pub (p : Path) (m : HostCmd) (c : Channel) : (accept p m c).pub = c.pub := by simp [accept]
@[simp] theorem accept_lse (p : Path) (m : HostCmd) (c : Channel) : (accept p m c).lse = c.lse := by simp [accept]
@[simp] theorem accept_retain (p : Path) (m : HostCmd) (c : Channel) : (accept p m c).retain = c.retain := by simp [accept]
@[simp] theorem accept_sleeves (p : Path) (m : HostCmd) (c : Channel) : (accept p m c).sleeves = c.sleeves := by simp [accept]
@[simp] theorem accept_can (p : Path) (m : HostCmd) (c : Channel) : (accept p m c).can = c.can := by simp [accept]
@[simp] theorem accept_pleat (p : Path) (m : HostCmd) (c : Channel) : (accept p m c).pleat = c.pleat := by simp [accept]
@[simp] theorem accept_keysNv (p : Path) (m : HostCmd) (c : Channel) : (accept p m c).keysNv = c.keysNv := by simp [accept]
@[simp] theorem accept_keys (p : Path) (m : HostCmd) (c : Channel) : (accept p m c).keys = c.keys := by simp [accept]
@[simp] theorem accept_ledgerNv (p : Path) (m : HostCmd) (c : Channel) : (accept p m c).ledgerNv = c.ledgerNv := by simp [accept]
@[simp] theorem accept_ledger (p : Path) (m : HostCmd) (c : Channel) : (accept p m c).ledger = c.ledger := by simp [accept]
@[simp] theorem accept_dict (p : Path) (m : HostCmd) (c : Channel) : (accept p m c).dict = c.dict := by simp [accept]
@[simp] theorem accept_diag (p : Path) (m : HostCmd) (c : Channel) : (accept p m c).diag = c.diag := by simp [accept]
@[simp] theorem accept_psu (p : Path) (m : HostCmd) (c : Channel) : (accept p m c).psu = c.psu := by simp [accept]
@[simp] theorem accept_epUJ (p : Path) (m : HostCmd) (c : Channel) : (accept p m c).epUJ = c.epUJ := by simp [accept]
@[simp] theorem accept_temp (p : Path) (m : HostCmd) (c : Channel) : (accept p m c).temp = c.temp := by simp [accept]
@[simp] theorem accept_tempOut (p : Path) (m : HostCmd) (c : Channel) : (accept p m c).tempOut = c.tempOut := by simp [accept]
@[simp] theorem accept_free (p : Path) (m : HostCmd) (c : Channel) : (accept p m c).free = c.free := by simp [accept]

@[simp] theorem acceptOwn_id (p : Path) (c : Channel) : (acceptOwn p c).id = c.id := by simp [acceptOwn]
@[simp] theorem acceptOwn_boot (p : Path) (c : Channel) : (acceptOwn p c).boot = c.boot := by simp [acceptOwn]
@[simp] theorem acceptOwn_slots (p : Path) (c : Channel) : (acceptOwn p c).slots = c.slots := by simp [acceptOwn]
@[simp] theorem acceptOwn_time (p : Path) (c : Channel) : (acceptOwn p c).time = c.time := by simp [acceptOwn]
@[simp] theorem acceptOwn_gens (p : Path) (c : Channel) : (acceptOwn p c).gens = c.gens := by simp [acceptOwn]
@[simp] theorem acceptOwn_sw (p : Path) (c : Channel) : (acceptOwn p c).sw = c.sw := by simp [acceptOwn]
@[simp] theorem acceptOwn_ingest (p : Path) (c : Channel) : (acceptOwn p c).ingest = c.ingest := by simp [acceptOwn]
@[simp] theorem acceptOwn_paths (p : Path) (c : Channel) : (acceptOwn p c).paths = c.paths := by simp [acceptOwn]
@[simp] theorem acceptOwn_graphs (p : Path) (c : Channel) : (acceptOwn p c).graphs = c.graphs := by simp [acceptOwn]
@[simp] theorem acceptOwn_disp (p : Path) (c : Channel) : (acceptOwn p c).disp = c.disp := by simp [acceptOwn]
@[simp] theorem acceptOwn_pub (p : Path) (c : Channel) : (acceptOwn p c).pub = c.pub := by simp [acceptOwn]
@[simp] theorem acceptOwn_lse (p : Path) (c : Channel) : (acceptOwn p c).lse = c.lse := by simp [acceptOwn]
@[simp] theorem acceptOwn_retain (p : Path) (c : Channel) : (acceptOwn p c).retain = c.retain := by simp [acceptOwn]
@[simp] theorem acceptOwn_seam (p : Path) (c : Channel) : (acceptOwn p c).seam = c.seam := by simp [acceptOwn]
@[simp] theorem acceptOwn_sleeves (p : Path) (c : Channel) : (acceptOwn p c).sleeves = c.sleeves := by simp [acceptOwn]
@[simp] theorem acceptOwn_can (p : Path) (c : Channel) : (acceptOwn p c).can = c.can := by simp [acceptOwn]
@[simp] theorem acceptOwn_pleat (p : Path) (c : Channel) : (acceptOwn p c).pleat = c.pleat := by simp [acceptOwn]
@[simp] theorem acceptOwn_keysNv (p : Path) (c : Channel) : (acceptOwn p c).keysNv = c.keysNv := by simp [acceptOwn]
@[simp] theorem acceptOwn_keys (p : Path) (c : Channel) : (acceptOwn p c).keys = c.keys := by simp [acceptOwn]
@[simp] theorem acceptOwn_ledgerNv (p : Path) (c : Channel) : (acceptOwn p c).ledgerNv = c.ledgerNv := by simp [acceptOwn]
@[simp] theorem acceptOwn_ledger (p : Path) (c : Channel) : (acceptOwn p c).ledger = c.ledger := by simp [acceptOwn]
@[simp] theorem acceptOwn_dict (p : Path) (c : Channel) : (acceptOwn p c).dict = c.dict := by simp [acceptOwn]
@[simp] theorem acceptOwn_diag (p : Path) (c : Channel) : (acceptOwn p c).diag = c.diag := by simp [acceptOwn]
@[simp] theorem acceptOwn_psu (p : Path) (c : Channel) : (acceptOwn p c).psu = c.psu := by simp [acceptOwn]
@[simp] theorem acceptOwn_epUJ (p : Path) (c : Channel) : (acceptOwn p c).epUJ = c.epUJ := by simp [acceptOwn]
@[simp] theorem acceptOwn_temp (p : Path) (c : Channel) : (acceptOwn p c).temp = c.temp := by simp [acceptOwn]
@[simp] theorem acceptOwn_tempOut (p : Path) (c : Channel) : (acceptOwn p c).tempOut = c.tempOut := by simp [acceptOwn]
@[simp] theorem acceptOwn_free (p : Path) (c : Channel) : (acceptOwn p c).free = c.free := by simp [acceptOwn]

@[simp] theorem openCuff_id (c : Channel) : (openCuff c).id = c.id := rfl
@[simp] theorem openCuff_boot (c : Channel) : (openCuff c).boot = c.boot := rfl
@[simp] theorem openCuff_slots (c : Channel) : (openCuff c).slots = c.slots := rfl
@[simp] theorem openCuff_time (c : Channel) : (openCuff c).time = c.time := rfl
@[simp] theorem openCuff_gens (c : Channel) : (openCuff c).gens = c.gens := rfl
@[simp] theorem openCuff_sw (c : Channel) : (openCuff c).sw = c.sw := rfl
@[simp] theorem openCuff_ingest (c : Channel) : (openCuff c).ingest = c.ingest := rfl
@[simp] theorem openCuff_paths (c : Channel) : (openCuff c).paths = c.paths := rfl
@[simp] theorem openCuff_graphs (c : Channel) : (openCuff c).graphs = c.graphs := rfl
@[simp] theorem openCuff_disp (c : Channel) : (openCuff c).disp = c.disp := rfl
@[simp] theorem openCuff_lse (c : Channel) : (openCuff c).lse = c.lse := rfl
@[simp] theorem openCuff_retain (c : Channel) : (openCuff c).retain = c.retain := rfl
@[simp] theorem openCuff_host (c : Channel) : (openCuff c).host = c.host := rfl
@[simp] theorem openCuff_sleeves (c : Channel) : (openCuff c).sleeves = c.sleeves := rfl
@[simp] theorem openCuff_can (c : Channel) : (openCuff c).can = c.can := rfl
@[simp] theorem openCuff_pleat (c : Channel) : (openCuff c).pleat = c.pleat := rfl
@[simp] theorem openCuff_keysNv (c : Channel) : (openCuff c).keysNv = c.keysNv := rfl
@[simp] theorem openCuff_keys (c : Channel) : (openCuff c).keys = c.keys := rfl
@[simp] theorem openCuff_journal (c : Channel) : (openCuff c).journal = c.journal := rfl
@[simp] theorem openCuff_ledgerNv (c : Channel) : (openCuff c).ledgerNv = c.ledgerNv := rfl
@[simp] theorem openCuff_ledger (c : Channel) : (openCuff c).ledger = c.ledger := rfl
@[simp] theorem openCuff_dict (c : Channel) : (openCuff c).dict = c.dict := rfl
@[simp] theorem openCuff_ctr (c : Channel) : (openCuff c).ctr = c.ctr := rfl
@[simp] theorem openCuff_diag (c : Channel) : (openCuff c).diag = c.diag := rfl
@[simp] theorem openCuff_psu (c : Channel) : (openCuff c).psu = c.psu := rfl
@[simp] theorem openCuff_epUJ (c : Channel) : (openCuff c).epUJ = c.epUJ := rfl
@[simp] theorem openCuff_temp (c : Channel) : (openCuff c).temp = c.temp := rfl
@[simp] theorem openCuff_tempOut (c : Channel) : (openCuff c).tempOut = c.tempOut := rfl
@[simp] theorem openCuff_emitted (c : Channel) : (openCuff c).emitted = c.emitted := rfl
@[simp] theorem openCuff_free (c : Channel) : (openCuff c).free = c.free := rfl

@[simp] theorem enterActive_id (c : Channel) : (enterActive c).id = c.id := by simp [enterActive]
@[simp] theorem enterActive_slots (c : Channel) : (enterActive c).slots = c.slots := by simp [enterActive]
@[simp] theorem enterActive_time (c : Channel) : (enterActive c).time = c.time := by simp [enterActive]
@[simp] theorem enterActive_gens (c : Channel) : (enterActive c).gens = c.gens := by simp [enterActive]
@[simp] theorem enterActive_sw (c : Channel) : (enterActive c).sw = c.sw := by simp [enterActive]
@[simp] theorem enterActive_ingest (c : Channel) : (enterActive c).ingest = c.ingest := by simp [enterActive]
@[simp] theorem enterActive_paths (c : Channel) : (enterActive c).paths = c.paths := by simp [enterActive]
@[simp] theorem enterActive_graphs (c : Channel) : (enterActive c).graphs = c.graphs := by simp [enterActive]
@[simp] theorem enterActive_disp (c : Channel) : (enterActive c).disp = c.disp := by simp [enterActive]
@[simp] theorem enterActive_lse (c : Channel) : (enterActive c).lse = c.lse := by simp [enterActive]
@[simp] theorem enterActive_retain (c : Channel) : (enterActive c).retain = c.retain := by simp [enterActive]
@[simp] theorem enterActive_sleeves (c : Channel) : (enterActive c).sleeves = c.sleeves := by simp [enterActive]
@[simp] theorem enterActive_pleat (c : Channel) : (enterActive c).pleat = c.pleat := by simp [enterActive]
@[simp] theorem enterActive_keysNv (c : Channel) : (enterActive c).keysNv = c.keysNv := by simp [enterActive]
@[simp] theorem enterActive_keys (c : Channel) : (enterActive c).keys = c.keys := by simp [enterActive]
@[simp] theorem enterActive_ledgerNv (c : Channel) : (enterActive c).ledgerNv = c.ledgerNv := by simp [enterActive]
@[simp] theorem enterActive_ledger (c : Channel) : (enterActive c).ledger = c.ledger := by simp [enterActive]
@[simp] theorem enterActive_dict (c : Channel) : (enterActive c).dict = c.dict := by simp [enterActive]
@[simp] theorem enterActive_psu (c : Channel) : (enterActive c).psu = c.psu := by simp [enterActive]
@[simp] theorem enterActive_epUJ (c : Channel) : (enterActive c).epUJ = c.epUJ := by simp [enterActive]
@[simp] theorem enterActive_temp (c : Channel) : (enterActive c).temp = c.temp := by simp [enterActive]
@[simp] theorem enterActive_tempOut (c : Channel) : (enterActive c).tempOut = c.tempOut := by simp [enterActive]
@[simp] theorem enterActive_free (c : Channel) : (enterActive c).free = c.free := by simp [enterActive]

@[simp] theorem trimStore_id (c : Channel) : (trimStore c).id = c.id := by simp [trimStore]
@[simp] theorem trimStore_boot (c : Channel) : (trimStore c).boot = c.boot := by simp [trimStore]
@[simp] theorem trimStore_slots (c : Channel) : (trimStore c).slots = c.slots := by simp [trimStore]
@[simp] theorem trimStore_time (c : Channel) : (trimStore c).time = c.time := by simp [trimStore]
@[simp] theorem trimStore_gens (c : Channel) : (trimStore c).gens = c.gens := by simp [trimStore]
@[simp] theorem trimStore_sw (c : Channel) : (trimStore c).sw = c.sw := by simp [trimStore]
@[simp] theorem trimStore_ingest (c : Channel) : (trimStore c).ingest = c.ingest := by simp [trimStore]
@[simp] theorem trimStore_paths (c : Channel) : (trimStore c).paths = c.paths := by simp [trimStore]
@[simp] theorem trimStore_graphs (c : Channel) : (trimStore c).graphs = c.graphs := by simp [trimStore]
@[simp] theorem trimStore_disp (c : Channel) : (trimStore c).disp = c.disp := by simp [trimStore]
@[simp] theorem trimStore_pub (c : Channel) : (trimStore c).pub = c.pub := by simp [trimStore]
@[simp] theorem trimStore_lse (c : Channel) : (trimStore c).lse = c.lse := by simp [trimStore]
@[simp] theorem trimStore_retain (c : Channel) : (trimStore c).retain = c.retain := by simp [trimStore]
@[simp] theorem trimStore_host (c : Channel) : (trimStore c).host = c.host := by simp [trimStore]
@[simp] theorem trimStore_sleeves (c : Channel) : (trimStore c).sleeves = c.sleeves := by simp [trimStore]
@[simp] theorem trimStore_can (c : Channel) : (trimStore c).can = c.can := by simp [trimStore]
@[simp] theorem trimStore_pleat (c : Channel) : (trimStore c).pleat = c.pleat := by simp [trimStore]
@[simp] theorem trimStore_keysNv (c : Channel) : (trimStore c).keysNv = c.keysNv := by simp [trimStore]
@[simp] theorem trimStore_keys (c : Channel) : (trimStore c).keys = c.keys := by simp [trimStore]
@[simp] theorem trimStore_journal (c : Channel) : (trimStore c).journal = c.journal := by simp [trimStore]
@[simp] theorem trimStore_ledgerNv (c : Channel) : (trimStore c).ledgerNv = c.ledgerNv := by simp [trimStore]
@[simp] theorem trimStore_ledger (c : Channel) : (trimStore c).ledger = c.ledger := by simp [trimStore]
@[simp] theorem trimStore_dict (c : Channel) : (trimStore c).dict = c.dict := by simp [trimStore]
@[simp] theorem trimStore_diag (c : Channel) : (trimStore c).diag = c.diag := by simp [trimStore]
@[simp] theorem trimStore_psu (c : Channel) : (trimStore c).psu = c.psu := by simp [trimStore]
@[simp] theorem trimStore_epUJ (c : Channel) : (trimStore c).epUJ = c.epUJ := by simp [trimStore]
@[simp] theorem trimStore_temp (c : Channel) : (trimStore c).temp = c.temp := by simp [trimStore]
@[simp] theorem trimStore_tempOut (c : Channel) : (trimStore c).tempOut = c.tempOut := by simp [trimStore]
@[simp] theorem trimStore_emitted (c : Channel) : (trimStore c).emitted = c.emitted := by simp [trimStore]
@[simp] theorem trimStore_free (c : Channel) : (trimStore c).free = c.free := by simp [trimStore]

@[simp] theorem grantControl_id (c : Channel) : (grantControl c).id = c.id := by unfold grantControl; simp only []; split <;> first | (simp; done) | (split <;> simp)
@[simp] theorem grantControl_slots (c : Channel) : (grantControl c).slots = c.slots := by unfold grantControl; simp only []; split <;> first | (simp; done) | (split <;> simp)
@[simp] theorem grantControl_time (c : Channel) : (grantControl c).time = c.time := by unfold grantControl; simp only []; split <;> first | (simp; done) | (split <;> simp)
@[simp] theorem grantControl_gens (c : Channel) : (grantControl c).gens = c.gens := by unfold grantControl; simp only []; split <;> first | (simp; done) | (split <;> simp)
@[simp] theorem grantControl_sw (c : Channel) : (grantControl c).sw = c.sw := by unfold grantControl; simp only []; split <;> first | (simp; done) | (split <;> simp)
@[simp] theorem grantControl_ingest (c : Channel) : (grantControl c).ingest = c.ingest := by unfold grantControl; simp only []; split <;> first | (simp; done) | (split <;> simp)
@[simp] theorem grantControl_paths (c : Channel) : (grantControl c).paths = c.paths := by unfold grantControl; simp only []; split <;> first | (simp; done) | (split <;> simp)
@[simp] theorem grantControl_graphs (c : Channel) : (grantControl c).graphs = c.graphs := by unfold grantControl; simp only []; split <;> first | (simp; done) | (split <;> simp)
@[simp] theorem grantControl_disp (c : Channel) : (grantControl c).disp = c.disp := by unfold grantControl; simp only []; split <;> first | (simp; done) | (split <;> simp)
@[simp] theorem grantControl_lse (c : Channel) : (grantControl c).lse = c.lse := by unfold grantControl; simp only []; split <;> first | (simp; done) | (split <;> simp)
@[simp] theorem grantControl_retain (c : Channel) : (grantControl c).retain = c.retain := by unfold grantControl; simp only []; split <;> first | (simp; done) | (split <;> simp)
@[simp] theorem grantControl_sleeves (c : Channel) : (grantControl c).sleeves = c.sleeves := by unfold grantControl; simp only []; split <;> first | (simp; done) | (split <;> simp)
@[simp] theorem grantControl_pleat (c : Channel) : (grantControl c).pleat = c.pleat := by unfold grantControl; simp only []; split <;> first | (simp; done) | (split <;> simp)
@[simp] theorem grantControl_keysNv (c : Channel) : (grantControl c).keysNv = c.keysNv := by unfold grantControl; simp only []; split <;> first | (simp; done) | (split <;> simp)
@[simp] theorem grantControl_keys (c : Channel) : (grantControl c).keys = c.keys := by unfold grantControl; simp only []; split <;> first | (simp; done) | (split <;> simp)
@[simp] theorem grantControl_ledgerNv (c : Channel) : (grantControl c).ledgerNv = c.ledgerNv := by unfold grantControl; simp only []; split <;> first | (simp; done) | (split <;> simp)
@[simp] theorem grantControl_ledger (c : Channel) : (grantControl c).ledger = c.ledger := by unfold grantControl; simp only []; split <;> first | (simp; done) | (split <;> simp)
@[simp] theorem grantControl_dict (c : Channel) : (grantControl c).dict = c.dict := by unfold grantControl; simp only []; split <;> first | (simp; done) | (split <;> simp)
@[simp] theorem grantControl_psu (c : Channel) : (grantControl c).psu = c.psu := by unfold grantControl; simp only []; split <;> first | (simp; done) | (split <;> simp)
@[simp] theorem grantControl_epUJ (c : Channel) : (grantControl c).epUJ = c.epUJ := by unfold grantControl; simp only []; split <;> first | (simp; done) | (split <;> simp)
@[simp] theorem grantControl_temp (c : Channel) : (grantControl c).temp = c.temp := by unfold grantControl; simp only []; split <;> first | (simp; done) | (split <;> simp)
@[simp] theorem grantControl_tempOut (c : Channel) : (grantControl c).tempOut = c.tempOut := by unfold grantControl; simp only []; split <;> first | (simp; done) | (split <;> simp)
@[simp] theorem grantControl_free (c : Channel) : (grantControl c).free = c.free := by unfold grantControl; simp only []; split <;> first | (simp; done) | (split <;> simp)

@[simp] theorem readyUpdate_id (c : Channel) : (readyUpdate c).id = c.id := by
  have h : ∀ (l : List Nat) (m : U64) (c : Channel), (l.foldl (fun c n => raise 46 n n (bit16 0 (m.getLsbD n)) c) c).id = c.id :=
    fun l m c => foldl_keeps (g := Channel.id) (fun c x => by simp) l c
  unfold readyUpdate
  simp only []
  split <;> simp [h]
@[simp] theorem readyUpdate_slots (c : Channel) : (readyUpdate c).slots = c.slots := by
  have h : ∀ (l : List Nat) (m : U64) (c : Channel), (l.foldl (fun c n => raise 46 n n (bit16 0 (m.getLsbD n)) c) c).slots = c.slots :=
    fun l m c => foldl_keeps (g := Channel.slots) (fun c x => by simp) l c
  unfold readyUpdate
  simp only []
  split <;> simp [h]
@[simp] theorem readyUpdate_time (c : Channel) : (readyUpdate c).time = c.time := by
  have h : ∀ (l : List Nat) (m : U64) (c : Channel), (l.foldl (fun c n => raise 46 n n (bit16 0 (m.getLsbD n)) c) c).time = c.time :=
    fun l m c => foldl_keeps (g := Channel.time) (fun c x => by simp) l c
  unfold readyUpdate
  simp only []
  split <;> simp [h]
@[simp] theorem readyUpdate_gens (c : Channel) : (readyUpdate c).gens = c.gens := by
  have h : ∀ (l : List Nat) (m : U64) (c : Channel), (l.foldl (fun c n => raise 46 n n (bit16 0 (m.getLsbD n)) c) c).gens = c.gens :=
    fun l m c => foldl_keeps (g := Channel.gens) (fun c x => by simp) l c
  unfold readyUpdate
  simp only []
  split <;> simp [h]
@[simp] theorem readyUpdate_sw (c : Channel) : (readyUpdate c).sw = c.sw := by
  have h : ∀ (l : List Nat) (m : U64) (c : Channel), (l.foldl (fun c n => raise 46 n n (bit16 0 (m.getLsbD n)) c) c).sw = c.sw :=
    fun l m c => foldl_keeps (g := Channel.sw) (fun c x => by simp) l c
  unfold readyUpdate
  simp only []
  split <;> simp [h]
@[simp] theorem readyUpdate_ingest (c : Channel) : (readyUpdate c).ingest = c.ingest := by
  have h : ∀ (l : List Nat) (m : U64) (c : Channel), (l.foldl (fun c n => raise 46 n n (bit16 0 (m.getLsbD n)) c) c).ingest = c.ingest :=
    fun l m c => foldl_keeps (g := Channel.ingest) (fun c x => by simp) l c
  unfold readyUpdate
  simp only []
  split <;> simp [h]
@[simp] theorem readyUpdate_paths (c : Channel) : (readyUpdate c).paths = c.paths := by
  have h : ∀ (l : List Nat) (m : U64) (c : Channel), (l.foldl (fun c n => raise 46 n n (bit16 0 (m.getLsbD n)) c) c).paths = c.paths :=
    fun l m c => foldl_keeps (g := Channel.paths) (fun c x => by simp) l c
  unfold readyUpdate
  simp only []
  split <;> simp [h]
@[simp] theorem readyUpdate_graphs (c : Channel) : (readyUpdate c).graphs = c.graphs := by
  have h : ∀ (l : List Nat) (m : U64) (c : Channel), (l.foldl (fun c n => raise 46 n n (bit16 0 (m.getLsbD n)) c) c).graphs = c.graphs :=
    fun l m c => foldl_keeps (g := Channel.graphs) (fun c x => by simp) l c
  unfold readyUpdate
  simp only []
  split <;> simp [h]
@[simp] theorem readyUpdate_disp (c : Channel) : (readyUpdate c).disp = c.disp := by
  have h : ∀ (l : List Nat) (m : U64) (c : Channel), (l.foldl (fun c n => raise 46 n n (bit16 0 (m.getLsbD n)) c) c).disp = c.disp :=
    fun l m c => foldl_keeps (g := Channel.disp) (fun c x => by simp) l c
  unfold readyUpdate
  simp only []
  split <;> simp [h]
@[simp] theorem readyUpdate_lse (c : Channel) : (readyUpdate c).lse = c.lse := by
  have h : ∀ (l : List Nat) (m : U64) (c : Channel), (l.foldl (fun c n => raise 46 n n (bit16 0 (m.getLsbD n)) c) c).lse = c.lse :=
    fun l m c => foldl_keeps (g := Channel.lse) (fun c x => by simp) l c
  unfold readyUpdate
  simp only []
  split <;> simp [h]
@[simp] theorem readyUpdate_retain (c : Channel) : (readyUpdate c).retain = c.retain := by
  have h : ∀ (l : List Nat) (m : U64) (c : Channel), (l.foldl (fun c n => raise 46 n n (bit16 0 (m.getLsbD n)) c) c).retain = c.retain :=
    fun l m c => foldl_keeps (g := Channel.retain) (fun c x => by simp) l c
  unfold readyUpdate
  simp only []
  split <;> simp [h]
@[simp] theorem readyUpdate_sleeves (c : Channel) : (readyUpdate c).sleeves = c.sleeves := by
  have h : ∀ (l : List Nat) (m : U64) (c : Channel), (l.foldl (fun c n => raise 46 n n (bit16 0 (m.getLsbD n)) c) c).sleeves = c.sleeves :=
    fun l m c => foldl_keeps (g := Channel.sleeves) (fun c x => by simp) l c
  unfold readyUpdate
  simp only []
  split <;> simp [h]
@[simp] theorem readyUpdate_pleat (c : Channel) : (readyUpdate c).pleat = c.pleat := by
  have h : ∀ (l : List Nat) (m : U64) (c : Channel), (l.foldl (fun c n => raise 46 n n (bit16 0 (m.getLsbD n)) c) c).pleat = c.pleat :=
    fun l m c => foldl_keeps (g := Channel.pleat) (fun c x => by simp) l c
  unfold readyUpdate
  simp only []
  split <;> simp [h]
@[simp] theorem readyUpdate_keysNv (c : Channel) : (readyUpdate c).keysNv = c.keysNv := by
  have h : ∀ (l : List Nat) (m : U64) (c : Channel), (l.foldl (fun c n => raise 46 n n (bit16 0 (m.getLsbD n)) c) c).keysNv = c.keysNv :=
    fun l m c => foldl_keeps (g := Channel.keysNv) (fun c x => by simp) l c
  unfold readyUpdate
  simp only []
  split <;> simp [h]
@[simp] theorem readyUpdate_keys (c : Channel) : (readyUpdate c).keys = c.keys := by
  have h : ∀ (l : List Nat) (m : U64) (c : Channel), (l.foldl (fun c n => raise 46 n n (bit16 0 (m.getLsbD n)) c) c).keys = c.keys :=
    fun l m c => foldl_keeps (g := Channel.keys) (fun c x => by simp) l c
  unfold readyUpdate
  simp only []
  split <;> simp [h]
@[simp] theorem readyUpdate_ledgerNv (c : Channel) : (readyUpdate c).ledgerNv = c.ledgerNv := by
  have h : ∀ (l : List Nat) (m : U64) (c : Channel), (l.foldl (fun c n => raise 46 n n (bit16 0 (m.getLsbD n)) c) c).ledgerNv = c.ledgerNv :=
    fun l m c => foldl_keeps (g := Channel.ledgerNv) (fun c x => by simp) l c
  unfold readyUpdate
  simp only []
  split <;> simp [h]
@[simp] theorem readyUpdate_ledger (c : Channel) : (readyUpdate c).ledger = c.ledger := by
  have h : ∀ (l : List Nat) (m : U64) (c : Channel), (l.foldl (fun c n => raise 46 n n (bit16 0 (m.getLsbD n)) c) c).ledger = c.ledger :=
    fun l m c => foldl_keeps (g := Channel.ledger) (fun c x => by simp) l c
  unfold readyUpdate
  simp only []
  split <;> simp [h]
@[simp] theorem readyUpdate_dict (c : Channel) : (readyUpdate c).dict = c.dict := by
  have h : ∀ (l : List Nat) (m : U64) (c : Channel), (l.foldl (fun c n => raise 46 n n (bit16 0 (m.getLsbD n)) c) c).dict = c.dict :=
    fun l m c => foldl_keeps (g := Channel.dict) (fun c x => by simp) l c
  unfold readyUpdate
  simp only []
  split <;> simp [h]
@[simp] theorem readyUpdate_psu (c : Channel) : (readyUpdate c).psu = c.psu := by
  have h : ∀ (l : List Nat) (m : U64) (c : Channel), (l.foldl (fun c n => raise 46 n n (bit16 0 (m.getLsbD n)) c) c).psu = c.psu :=
    fun l m c => foldl_keeps (g := Channel.psu) (fun c x => by simp) l c
  unfold readyUpdate
  simp only []
  split <;> simp [h]
@[simp] theorem readyUpdate_epUJ (c : Channel) : (readyUpdate c).epUJ = c.epUJ := by
  have h : ∀ (l : List Nat) (m : U64) (c : Channel), (l.foldl (fun c n => raise 46 n n (bit16 0 (m.getLsbD n)) c) c).epUJ = c.epUJ :=
    fun l m c => foldl_keeps (g := Channel.epUJ) (fun c x => by simp) l c
  unfold readyUpdate
  simp only []
  split <;> simp [h]
@[simp] theorem readyUpdate_temp (c : Channel) : (readyUpdate c).temp = c.temp := by
  have h : ∀ (l : List Nat) (m : U64) (c : Channel), (l.foldl (fun c n => raise 46 n n (bit16 0 (m.getLsbD n)) c) c).temp = c.temp :=
    fun l m c => foldl_keeps (g := Channel.temp) (fun c x => by simp) l c
  unfold readyUpdate
  simp only []
  split <;> simp [h]
@[simp] theorem readyUpdate_tempOut (c : Channel) : (readyUpdate c).tempOut = c.tempOut := by
  have h : ∀ (l : List Nat) (m : U64) (c : Channel), (l.foldl (fun c n => raise 46 n n (bit16 0 (m.getLsbD n)) c) c).tempOut = c.tempOut :=
    fun l m c => foldl_keeps (g := Channel.tempOut) (fun c x => by simp) l c
  unfold readyUpdate
  simp only []
  split <;> simp [h]
@[simp] theorem readyUpdate_free (c : Channel) : (readyUpdate c).free = c.free := by
  have h : ∀ (l : List Nat) (m : U64) (c : Channel), (l.foldl (fun c n => raise 46 n n (bit16 0 (m.getLsbD n)) c) c).free = c.free :=
    fun l m c => foldl_keeps (g := Channel.free) (fun c x => by simp) l c
  unfold readyUpdate
  simp only []
  split <;> simp [h]

@[simp] theorem relinquish_holdCtl (k : Nat) (c : Channel) : (relinquish k c).seam.holdCtl = false := by
  unfold relinquish
  split
  · simp only [raiseLimited_seam, episode_seam, journalAdd_seam, bump_seam]
    unfold post
    split <;> simp [dropControl]
  · simp_all

@[simp] theorem openCuff_cuff (c : Channel) : (openCuff c).pub.cuff = true := rfl
@[simp] theorem enterActive_cuff (c : Channel) : (enterActive c).pub.cuff = true := rfl
@[simp] theorem enterActive_boot (c : Channel) : (enterActive c).boot = { c.boot with mode := .active } := by
  unfold enterActive openCuff
  simp

/-- What of the modes and start-up a readiness update may change: the mask, the window, and the mode, which can only become ACTIVE. -/
theorem readyUpdate_boot (c : Channel) : ∃ m w md, (readyUpdate c).boot = { c.boot with readyMask := m, windowOpen := w, mode := md } ∧
    (md = c.boot.mode ∨ md = .active) := by
  have h : ∀ (l : List Nat) (m : U64) (c : Channel), (l.foldl (fun c n => raise 46 n n (bit16 0 (m.getLsbD n)) c) c).boot = c.boot :=
    fun l m c => foldl_keeps (g := Channel.boot) (fun c x => by simp) l c
  unfold readyUpdate
  simp only []
  split
  · refine ⟨readyMaskOf c, false, .active, ?_, .inr rfl⟩
    rw [enterActive_boot]
    simp only [h]
  · exact ⟨readyMaskOf c, c.boot.windowOpen, c.boot.mode, by rw [h], .inl rfl⟩

@[simp] theorem readyUpdate_graphsRun (c : Channel) : (readyUpdate c).boot.graphsRun = c.boot.graphsRun := by
  obtain ⟨m, w, md, h, -⟩ := readyUpdate_boot c
  rw [h]

@[simp] theorem readyUpdate_granted (c : Channel) : (readyUpdate c).boot.granted = c.boot.granted := by
  obtain ⟨m, w, md, h, -⟩ := readyUpdate_boot c
  rw [h]

@[simp] theorem readyUpdate_powered (c : Channel) : (readyUpdate c).boot.powered = c.boot.powered := by
  obtain ⟨m, w, md, h, -⟩ := readyUpdate_boot c
  rw [h]

@[simp] theorem readyUpdate_phase (c : Channel) : (readyUpdate c).boot.phase = c.boot.phase := by
  obtain ⟨m, w, md, h, -⟩ := readyUpdate_boot c
  rw [h]

end Sys2Proof.Machine
end

