-- ==== Sys2Proof/Laws/State.lean ====
section
/-! SUPPORT. The fields of a state under each way a meaning changes it, and what a step is. -/
namespace Sys2Proof.Machine

open Sys2Proof

@[simp] theorem chanOf_a (s : State) : chanOf s .a = s.a := rfl
@[simp] theorem chanOf_b (s : State) : chanOf s .b = s.b := rfl
@[simp] theorem chanOf_withChan (s : State) (ch : Chan) (c : Channel) : chanOf (withChan s ch c) ch = c := by cases ch <;> rfl
@[simp] theorem chanOf_twin_withChan (s : State) (ch : Chan) (c : Channel) : chanOf (withChan s ch c) ch.twin = chanOf s ch.twin := by
  cases ch <;> rfl
@[simp] theorem chanOf_withChan_twin (s : State) (ch : Chan) (c : Channel) : chanOf (withChan s ch.twin c) ch = chanOf s ch := by
  cases ch <;> rfl
@[simp] theorem withChan_supply (s : State) (ch : Chan) (c : Channel) : (withChan s ch c).supply = s.supply := by cases ch <;> rfl
@[simp] theorem withChan_bridge (s : State) (ch : Chan) (c : Channel) : (withChan s ch c).bridge = s.bridge := by cases ch <;> rfl
@[simp] theorem withChan_fuseA (s : State) (ch : Chan) (c : Channel) : (withChan s ch c).fuseA = s.fuseA := by cases ch <;> rfl
@[simp] theorem withChan_fuseB (s : State) (ch : Chan) (c : Channel) : (withChan s ch c).fuseB = s.fuseB := by cases ch <;> rfl
@[simp] theorem withChan_pending (s : State) (ch : Chan) (c : Channel) : (withChan s ch c).pending = s.pending := by cases ch <;> rfl
@[simp] theorem chanOf_pending (s : State) (l : List Instr) (ch : Chan) : chanOf { s with pending := l } ch = chanOf s ch := by
  cases ch <;> rfl

theorem onChan_next (ch : Chan) (f : Channel → Channel) (s : State) :
    onChan ch f s = .next (withChan s ch (f (commitsEnded (chanOf s ch)))) := rfl
theorem onChanTwin_next (ch : Chan) (f : Channel → Channel → Channel) (s : State) :
    onChanTwin ch f s = .next (withChan s ch (f (chanOf s ch.twin) (commitsEnded (chanOf s ch)))) := rfl
theorem onBoth_next (f : Channel → Channel) (s : State) :
    onBoth f s = .next { s with a := f (commitsEnded s.a), b := f (commitsEnded s.b) } := rfl
theorem onSupply_next (x : SupSample) (f : Supply → Supply) (g : Channel → Channel) (s : State) :
    onSupply x f g s = .next { s with
      supply := f (sampled x s.supply), a := g { commitsEnded s.a with psu := f (sampled x s.supply) },
      b := g { commitsEnded s.b with psu := f (sampled x s.supply) } } := rfl

@[simp] theorem noteServing_supply (s : State) : (noteServing s).supply = s.supply := rfl
@[simp] theorem noteServing_a (s : State) : (noteServing s).a = s.a := rfl
@[simp] theorem noteServing_b (s : State) : (noteServing s).b = s.b := rfl
@[simp] theorem noteServing_fuseA (s : State) : (noteServing s).fuseA = s.fuseA := rfl
@[simp] theorem noteServing_fuseB (s : State) : (noteServing s).fuseB = s.fuseB := rfl
@[simp] theorem noteServing_pending (s : State) : (noteServing s).pending = s.pending := rfl
@[simp] theorem chanOf_noteServing (s : State) (ch : Chan) : chanOf (noteServing s) ch = chanOf s ch := by cases ch <;> rfl

theorem onPath_carried {p : Path} {s : State} (h : bridgeCarries s p = true) (h1 : (pathBoth p && bridgeHolds s) = false) (i : Instr)
    (f : Channel → Channel) : onPath p i f s = onChan (pathChan s p) f (if pathBoth p then abortHeld s else s) := by
  simp [onPath, h, h1]

theorem onPath_not_carried {p : Path} {s : State} (h : bridgeCarries s p = false) (i : Instr) (f : Channel → Channel) :
    onPath p i f s = .next s := by simp [onPath, h]

/-- Held requests given up change one counter of a channel. -/
theorem abortHeld_chan (s : State) (ch : Chan) : chanOf (abortHeld s) ch = chanOf s ch ∨ ∃ n, chanOf (abortHeld s) ch = bumpN 0x2A00 7 n (chanOf s ch) := by
  unfold abortHeld
  split
  · exact .inl rfl
  · simp only []
    split <;> cases ch
    · exact .inr ⟨_, rfl⟩
    · exact .inl rfl
    · exact .inl rfl
    · exact .inr ⟨_, rfl⟩

@[simp] theorem abortHeld_id (s : State) (ch : Chan) : (chanOf (abortHeld s) ch).id = (chanOf s ch).id := by
  rcases abortHeld_chan s ch with h | ⟨n, h⟩ <;> simp [h]
@[simp] theorem abortHeld_boot (s : State) (ch : Chan) : (chanOf (abortHeld s) ch).boot = (chanOf s ch).boot := by
  rcases abortHeld_chan s ch with h | ⟨n, h⟩ <;> simp [h]
@[simp] theorem abortHeld_slots (s : State) (ch : Chan) : (chanOf (abortHeld s) ch).slots = (chanOf s ch).slots := by
  rcases abortHeld_chan s ch with h | ⟨n, h⟩ <;> simp [h]
@[simp] theorem abortHeld_time (s : State) (ch : Chan) : (chanOf (abortHeld s) ch).time = (chanOf s ch).time := by
  rcases abortHeld_chan s ch with h | ⟨n, h⟩ <;> simp [h]
@[simp] theorem abortHeld_gens (s : State) (ch : Chan) : (chanOf (abortHeld s) ch).gens = (chanOf s ch).gens := by
  rcases abortHeld_chan s ch with h | ⟨n, h⟩ <;> simp [h]
@[simp] theorem abortHeld_sw (s : State) (ch : Chan) : (chanOf (abortHeld s) ch).sw = (chanOf s ch).sw := by
  rcases abortHeld_chan s ch with h | ⟨n, h⟩ <;> simp [h]
@[simp] theorem abortHeld_ingest (s : State) (ch : Chan) : (chanOf (abortHeld s) ch).ingest = (chanOf s ch).ingest := by
  rcases abortHeld_chan s ch with h | ⟨n, h⟩ <;> simp [h]
@[simp] theorem abortHeld_paths (s : State) (ch : Chan) : (chanOf (abortHeld s) ch).paths = (chanOf s ch).paths := by
  rcases abortHeld_chan s ch with h | ⟨n, h⟩ <;> simp [h]
@[simp] theorem abortHeld_graphs (s : State) (ch : Chan) : (chanOf (abortHeld s) ch).graphs = (chanOf s ch).graphs := by
  rcases abortHeld_chan s ch with h | ⟨n, h⟩ <;> simp [h]
@[simp] theorem abortHeld_disp (s : State) (ch : Chan) : (chanOf (abortHeld s) ch).disp = (chanOf s ch).disp := by
  rcases abortHeld_chan s ch with h | ⟨n, h⟩ <;> simp [h]
@[simp] theorem abortHeld_pub (s : State) (ch : Chan) : (chanOf (abortHeld s) ch).pub = (chanOf s ch).pub := by
  rcases abortHeld_chan s ch with h | ⟨n, h⟩ <;> simp [h]
@[simp] theorem abortHeld_lse (s : State) (ch : Chan) : (chanOf (abortHeld s) ch).lse = (chanOf s ch).lse := by
  rcases abortHeld_chan s ch with h | ⟨n, h⟩ <;> simp [h]
@[simp] theorem abortHeld_retain (s : State) (ch : Chan) : (chanOf (abortHeld s) ch).retain = (chanOf s ch).retain := by
  rcases abortHeld_chan s ch with h | ⟨n, h⟩ <;> simp [h]
@[simp] theorem abortHeld_host (s : State) (ch : Chan) : (chanOf (abortHeld s) ch).host = (chanOf s ch).host := by
  rcases abortHeld_chan s ch with h | ⟨n, h⟩ <;> simp [h]
@[simp] theorem abortHeld_seam (s : State) (ch : Chan) : (chanOf (abortHeld s) ch).seam = (chanOf s ch).seam := by
  rcases abortHeld_chan s ch with h | ⟨n, h⟩ <;> simp [h]
@[simp] theorem abortHeld_sleeves (s : State) (ch : Chan) : (chanOf (abortHeld s) ch).sleeves = (chanOf s ch).sleeves := by
  rcases abortHeld_chan s ch with h | ⟨n, h⟩ <;> simp [h]
@[simp] theorem abortHeld_can (s : State) (ch : Chan) : (chanOf (abortHeld s) ch).can = (chanOf s ch).can := by
  rcases abortHeld_chan s ch with h | ⟨n, h⟩ <;> simp [h]
@[simp] theorem abortHeld_pleat (s : State) (ch : Chan) : (chanOf (abortHeld s) ch).pleat = (chanOf s ch).pleat := by
  rcases abortHeld_chan s ch with h | ⟨n, h⟩ <;> simp [h]
@[simp] theorem abortHeld_keysNv (s : State) (ch : Chan) : (chanOf (abortHeld s) ch).keysNv = (chanOf s ch).keysNv := by
  rcases abortHeld_chan s ch with h | ⟨n, h⟩ <;> simp [h]
@[simp] theorem abortHeld_keys (s : State) (ch : Chan) : (chanOf (abortHeld s) ch).keys = (chanOf s ch).keys := by
  rcases abortHeld_chan s ch with h | ⟨n, h⟩ <;> simp [h]
@[simp] theorem abortHeld_journal (s : State) (ch : Chan) : (chanOf (abortHeld s) ch).journal = (chanOf s ch).journal := by
  rcases abortHeld_chan s ch with h | ⟨n, h⟩ <;> simp [h]
@[simp] theorem abortHeld_ledgerNv (s : State) (ch : Chan) : (chanOf (abortHeld s) ch).ledgerNv = (chanOf s ch).ledgerNv := by
  rcases abortHeld_chan s ch with h | ⟨n, h⟩ <;> simp [h]
@[simp] theorem abortHeld_ledger (s : State) (ch : Chan) : (chanOf (abortHeld s) ch).ledger = (chanOf s ch).ledger := by
  rcases abortHeld_chan s ch with h | ⟨n, h⟩ <;> simp [h]
@[simp] theorem abortHeld_dict (s : State) (ch : Chan) : (chanOf (abortHeld s) ch).dict = (chanOf s ch).dict := by
  rcases abortHeld_chan s ch with h | ⟨n, h⟩ <;> simp [h]
@[simp] theorem abortHeld_diag (s : State) (ch : Chan) : (chanOf (abortHeld s) ch).diag = (chanOf s ch).diag := by
  rcases abortHeld_chan s ch with h | ⟨n, h⟩ <;> simp [h]
@[simp] theorem abortHeld_psu (s : State) (ch : Chan) : (chanOf (abortHeld s) ch).psu = (chanOf s ch).psu := by
  rcases abortHeld_chan s ch with h | ⟨n, h⟩ <;> simp [h]
@[simp] theorem abortHeld_epUJ (s : State) (ch : Chan) : (chanOf (abortHeld s) ch).epUJ = (chanOf s ch).epUJ := by
  rcases abortHeld_chan s ch with h | ⟨n, h⟩ <;> simp [h]
@[simp] theorem abortHeld_temp (s : State) (ch : Chan) : (chanOf (abortHeld s) ch).temp = (chanOf s ch).temp := by
  rcases abortHeld_chan s ch with h | ⟨n, h⟩ <;> simp [h]
@[simp] theorem abortHeld_tempOut (s : State) (ch : Chan) : (chanOf (abortHeld s) ch).tempOut = (chanOf s ch).tempOut := by
  rcases abortHeld_chan s ch with h | ⟨n, h⟩ <;> simp [h]
@[simp] theorem abortHeld_emitted (s : State) (ch : Chan) : (chanOf (abortHeld s) ch).emitted = (chanOf s ch).emitted := by
  rcases abortHeld_chan s ch with h | ⟨n, h⟩ <;> simp [h]
@[simp] theorem abortHeld_free (s : State) (ch : Chan) : (chanOf (abortHeld s) ch).free = (chanOf s ch).free := by
  rcases abortHeld_chan s ch with h | ⟨n, h⟩ <;> simp [h]

/-- A request that its bridge carries acts on the channel its path reaches. -/
theorem onPath_ready {s : State} {p : Path} (h : PathReady s p) (i : Instr) (f : Channel → Channel) :
    ∃ u, onPath p i f s = .next (withChan u (pathChan s p) (f (commitsEnded (chanOf u (pathChan s p))))) ∧
      (u = s ∨ u = abortHeld s) := by
  refine ⟨if pathBoth p then abortHeld s else s, ?_, ?_⟩
  · rw [onPath_carried h.1 h.2]
    rfl
  · split
    · exact .inr rfl
    · exact .inl rfl

theorem step_cons (s : State) (i : Instr) (rest : List Instr) (h : s.pending = i :: rest) :
    step s = exec i { s with pending := rest } := by simp [step, h]

theorem step_nil (s : State) (h : s.pending = []) : step s = .next (idle s) := by simp [step, h]

/-- A record that arrives and is taken: the sender's list loses it, the receiver counts it and applies it (12 R370). -/
theorem recv_taken {α : Type} {ch : Chan} {s : State} {pick : MRec → Option α} {x : α} (f : α → Channel → Channel → Channel)
    (h : (chanOf s ch.twin).seam.out.head?.bind pick = some x) (hp : (chanOf s ch).seam.presence = 2)
    (hw : (chanOf s ch).boot.powered = true) (hi : (injRecord (chanOf s ch.twin)).1 = false) :
    ∃ c, recv ch true pick f s = .next (withChan (withChan s ch.twin (shiftOut (injRecord (chanOf s ch.twin)).2)) ch
      (f x (shiftOut (injRecord (chanOf s ch.twin)).2) c)) ∧
      c = bump 0x2800 0x15 { commitsEnded (chanOf s ch) with
        boot := { (chanOf s ch).boot with twinMode := BitVec.ofNat 8 (modeCode (chanOf s ch.twin).boot.mode) } } := by
  refine ⟨_, ?_, rfl⟩
  simp [recv, h, hp, hw, hi]

end Sys2Proof.Machine
end

