-- ==== Sys2Proof/Laws/Power.lean ====
section
/-! SUPPORT. The supply stage: what a sample leaves alone, and what a loss of power leaves of a channel. -/
namespace Sys2Proof.Machine

@[simp] theorem sampled_st (x : SupSample) (p : Supply) : (sampled x p).st = p.st := by unfold sampled; simp only []; split <;> rfl
@[simp] theorem sampled_pwarn (x : SupSample) (p : Supply) : (sampled x p).pwarn = p.pwarn := by unfold sampled; simp only []; split <;> rfl
@[simp] theorem sampled_discharge (x : SupSample) (p : Supply) : (sampled x p).discharge = p.discharge := by
  unfold sampled; simp only []; split <;> rfl
@[simp] theorem sampled_linState (x : SupSample) (p : Supply) : (sampled x p).linState = p.linState := by
  unfold sampled; simp only []; split <;> rfl
@[simp] theorem sampled_capUF (x : SupSample) (p : Supply) : (sampled x p).capUF = p.capUF := by unfold sampled; simp only []; split <;> rfl
@[simp] theorem sampled_degraded (x : SupSample) (p : Supply) : (sampled x p).degraded = p.degraded := by
  unfold sampled; simp only []; split <;> rfl
@[simp] theorem sampled_lining (x : SupSample) (p : Supply) : (sampled x p).lining = x.lining := by unfold sampled; simp only []; split <;> rfl
@[simp] theorem sampled_pa (x : SupSample) (p : Supply) : (sampled x p).pa = x.pa := by unfold sampled; simp only []; split <;> rfl
@[simp] theorem sampled_pb (x : SupSample) (p : Supply) : (sampled x p).pb = x.pb := by unfold sampled; simp only []; split <;> rfl
@[simp] theorem vinOf_sampled (x : SupSample) (p : Supply) : vinOf (sampled x p) = max 0 (max x.pa x.pb) := by simp [vinOf]

@[simp] theorem unpowered_powered (c : Channel) : (unpowered c).boot.powered = false := rfl
@[simp] theorem unpowered_slots (c : Channel) : (unpowered c).slots = stopWriting c.slots := rfl
@[simp] theorem unpowered_retain (c : Channel) : (unpowered c).retain = c.retain := rfl
@[simp] theorem unpowered_keysNv (c : Channel) : (unpowered c).keysNv = c.keysNv := rfl
@[simp] theorem unpowered_ledgerNv (c : Channel) : (unpowered c).ledgerNv = c.ledgerNv := rfl
@[simp] theorem unpowered_psu (c : Channel) : (unpowered c).psu = c.psu := rfl
@[simp] theorem heldInReset_powered (c : Channel) : (heldInReset c).boot.powered = false := rfl
@[simp] theorem heldInReset_ctr (c : Channel) : (heldInReset c).ctr = c.ctr := rfl
@[simp] theorem heldInReset_retain (c : Channel) : (heldInReset c).retain = c.retain := rfl
@[simp] theorem heldInReset_keysNv (c : Channel) : (heldInReset c).keysNv = c.keysNv := rfl
@[simp] theorem heldInReset_ledgerNv (c : Channel) : (heldInReset c).ledgerNv = c.ledgerNv := rfl
@[simp] theorem powerOn_boot (charged : Bool) (k : Nat) (c : Channel) : (powerOn charged k c).boot =
    { (unpowered c).boot with powered := true, phase := if charged then 1 else 16, cause := k } := by
  unfold powerOn; simp only []; split <;> rfl

end Sys2Proof.Machine
end

