-- ==== Sys2Proof/Laws/Window.lean ====
section
/-! SUPPORT. The Host Window as memory (07 R229): a write keeps the canonical form, reads back, and reaches no other byte. -/
namespace Sys2Proof.Machine

theorem zWf_winPut (l : List Byte) (m : List Host.Cell) (a : Nat) (h : zWf m = true) : zWf (winPut m a l) = true := by
  induction l generalizing m a with
  | nil => exact h
  | cons b r ih => exact ih (zPut m a b) (a + 1) (zWf_zPut m a b h)

theorem zWf_winWrite (a : Nat) (l : List Byte) (c : Channel) (h : zWf c.host.window = true) : zWf (winWrite a l c).host.window = true :=
  zWf_winPut l c.host.window a h

theorem zWf_window_reset (ch : Chan) : zWf (channelReset ch).host.window = true := rfl

theorem zGet_winPut_below (l : List Byte) (m : List Host.Cell) (a x : Nat) (h : x < a) : zGet (winPut m a l) x = zGet m x := by
  induction l generalizing m a with
  | nil => rfl
  | cons b r ih =>
    show zGet (winPut (zPut m a b) (a + 1) r) x = zGet m x
    rw [ih (zPut m a b) (a + 1) (by omega), zGet_zPut_other m a x b (by omega)]

theorem zGet_winPut_above (l : List Byte) (m : List Host.Cell) (a x : Nat) (h : a + l.length ≤ x) : zGet (winPut m a l) x = zGet m x := by
  induction l generalizing m a with
  | nil => rfl
  | cons b r ih =>
    simp only [List.length_cons] at h
    show zGet (winPut (zPut m a b) (a + 1) r) x = zGet m x
    rw [ih (zPut m a b) (a + 1) (by omega), zGet_zPut_other m a x b (by omega)]

theorem zGet_winPut_at (l : List Byte) (m : List Host.Cell) (a i : Nat) (h : i < l.length) : zGet (winPut m a l) (a + i) = l[i] := by
  induction l generalizing m a i with
  | nil => simp at h
  | cons b r ih =>
    show zGet (winPut (zPut m a b) (a + 1) r) (a + i) = (b :: r)[i]
    cases i with
    | zero =>
      show zGet (winPut (zPut m a b) (a + 1) r) a = b
      rw [zGet_winPut_below r (zPut m a b) (a + 1) a (by omega), zGet_zPut_same]
    | succ j =>
      simp only [List.length_cons] at h
      have k := ih (zPut m a b) (a + 1) j (by omega)
      rw [show a + (j + 1) = a + 1 + j by omega]
      simpa using k

/-- The bytes written read back. -/
theorem winRead_winWrite (a : Nat) (l : List Byte) (c : Channel) : winRead (winWrite a l c) a l.length = l := by
  apply List.ext_getElem
  · simp [winRead]
  · intro i h1 h2
    simp only [winRead, List.getElem_map, List.getElem_range]
    exact zGet_winPut_at l c.host.window a i h2

/-- Bytes outside those written read as before. -/
theorem winRead_winWrite_other (a b n : Nat) (l : List Byte) (c : Channel) (h : b + n ≤ a ∨ a + l.length ≤ b) :
    winRead (winWrite a l c) b n = winRead c b n := by
  apply List.map_congr_left
  intro i hi
  have hi := List.mem_range.1 hi
  rcases h with h | h
  · exact zGet_winPut_below l c.host.window a (b + i) (by omega)
  · exact zGet_winPut_above l c.host.window a (b + i) (by omega)

@[simp] theorem winWrite_boot (a : Nat) (l : List Byte) (c : Channel) : (winWrite a l c).boot = c.boot := rfl
@[simp] theorem winWrite_id (a : Nat) (l : List Byte) (c : Channel) : (winWrite a l c).id = c.id := rfl
@[simp] theorem winWrite_fns (a : Nat) (l : List Byte) (c : Channel) : (winWrite a l c).host.fns = c.host.fns := rfl
@[simp] theorem winWrite_rings (a : Nat) (l : List Byte) (c : Channel) : (winWrite a l c).host.rings = c.host.rings := rfl

end Sys2Proof.Machine
end

