-- ==== Sys2Proof/Machine/Panel.lean ====
section
/-! DEFINITION. What the front panel shows and what the timing outputs drive, read from the state (23 R672, R673). -/
namespace Sys2Proof.Machine

inductive Colour where
  | red | green | amber | yellow
  deriving DecidableEq, Repr

/-- How an indicator shows: flashing has its rate in mHz. -/
inductive Lamp where
  | off
  | steady (c : Colour)
  | flashing (c : Colour) (mHz : Nat)
  deriving DecidableEq, Repr

/-- The MODE indicator; while PWARN is asserted it alternates with off every 250 ms, the second component (23 R673). -/
def modeLamp (c : Channel) : Lamp × Bool :=
  let l : Lamp :=
    match c.boot.mode with
    | .boot => if c.boot.halt.isSome then .flashing .red 2000 else .flashing .amber 2000
    | .hold => .steady .amber
    | .commission => .flashing .green 2000
    | .standby => .flashing .green 500
    | .active => .steady .green
    | .sealedMode => .steady .red
  if c.boot.powered then (l, c.psu.pwarn) else (.off, false)

/-- The SEAM indicator (23 R673): twin presence as OD 2800:02. -/
def seamLamp (c : Channel) : Lamp :=
  if !c.boot.powered then .off
  else if c.seam.presence = 2 then .steady .green
  else if c.seam.presence = 1 then .flashing .green 2000
  else .off

/-- The ACT indicator is dark while the Cuff is closed; each frame that passes an open Cuff makes it flash for 50 ms
(23 R673). -/
def actLampDark (c : Channel) : Bool := !(c.boot.powered && c.pub.cuff)

/-- What a timing output drives. -/
inductive OutputDrive where
  /-- High impedance: in BOOT, in SEALED, and without power. -/
  | highImpedance
  /-- No generator names the output: the spec gives no level. -/
  | unassigned
  | level (high : Bool)
  deriving DecidableEq, Repr

/-- Timing output 1 or 2 of a channel (13 R411; 23 R672): an armed generator that drives it comes before one that is not. -/
def timingOutput (o : Nat) (c : Channel) : OutputDrive :=
  if !c.boot.powered || c.boot.mode == .boot || c.boot.mode == .sealedMode then .highImpedance
  else
    let l := (c.gens.map (fun x => x.2)).filter (fun g => g.set.output == o)
    match l.find? (fun g => g.armed), l with
    | some g, _ => .level g.level
    | none, g :: _ => .level g.level
    | none, [] => .unassigned

end Sys2Proof.Machine
end

