-- ==== Sys2Proof/WellFormed.lean ====
section
/-! DEFINITION. Well-formed commands: the ranges the spec gives to what a command names. A command outside them has no effect on
the block (02 R52). -/
namespace Sys2Proof

/-- VFs are 1 to 64, service ports 1 to 4 (15 R450; 17 R515). -/
def Path.wf : Path → Bool
  | .vf n => decide (1 ≤ n ∧ n ≤ 64)
  | .svc _ port => decide (1 ≤ port ∧ port ≤ 4)
  | .pf0 => true
  | .pf1 => true
  | .pf2 => true

/-- Front ports 1 to 12; output queues at ports 1 to 12 and 15, port 14 has none of its own (14 R421). -/
def frontPortNo (n : Nat) : Bool := decide (1 ≤ n ∧ n ≤ 12)
def egressPortNo (n : Nat) : Bool := decide (1 ≤ n ∧ n ≤ 12) || n == 15
/-- Groups 0 to 3 of redundancy (14 R446) and of event sources (15 R456). -/
def groupNo (n : Nat) : Bool := decide (n < 4)
def eventGroup (n : Nat) : Bool := decide (n < 4)
def canPortNo (n : Nat) : Bool := decide (1 ≤ n ∧ n ≤ 4)
/-- 64 buffers at each of four controllers (17 R515). -/
def bufferNo (n : Nat) : Bool := decide (n < 256)
def sleeveNo (n : Nat) : Bool := decide (n < 64)
/-- 16,384 instances (05 R184), 34 tiles (08 R241), 64 banks (07 R216). -/
def instNo (n : Nat) : Bool := decide (n < 16384)
def tileNo (n : Nat) : Bool := decide (n < 34)
def bankNo (n : Nat) : Bool := decide (n < 64)
/-- 512 streams (03 R110), 2,048 paths (04 R139). -/
def streamNo (n : Nat) : Bool := decide (n < 512)
def pathNo (n : Nat) : Bool := decide (n < 2048)
/-- 256 GOOSE and 32 SV publications, 1,024 GOOSE subscriptions (10 R313, R319, R324). -/
def goosePubNo (n : Nat) : Bool := decide (n < 256)
def svPubNo (n : Nat) : Bool := decide (n < 32)
def subNo (n : Nat) : Bool := decide (n < 1024)
/-- 128 recording definitions (18 R558), four pulse generators (13 R411), 33 injectors (22 R647). -/
def defNo (n : Nat) : Bool := decide (n < 128)
def genNo (n : Nat) : Bool := decide (n < 4)
def injNo (n : Nat) : Bool := decide (n < 33)
/-- Ready levels 0 to 7 (06 R189); boundaries F96, H14, S48, D24, P1 (13 R410). -/
def levelNo (n : Nat) : Bool := decide (n < 8)
def boundaryNo (n : Nat) : Bool := decide (n < 5)
/-- An LSE operand has 24 bits (11 R346). -/
def operandNo (n : Nat) : Bool := decide (n < 16777216)
/-- Index and subindex of the dictionary (21 R613). -/
def indexNo (n : Nat) : Bool := decide (n < 65536)
def subIndex (n : Nat) : Bool := decide (n < 256)
/-- Two slots of each kind (02 R62, R69). -/
def slotNo (n : Nat) : Bool := decide (n < 2)
/-- Six histogram quantities (20 R596); nine memories in which an error is found (01 R41; log entry 28). -/
def quantityNo (n : Nat) : Bool := decide (1 ≤ n ∧ n ≤ 6)
def memoryNo (n : Nat) : Bool := decide (n < 9)
def memErrsWf (l : List MemErr) : Bool := l.all (fun e => memoryNo e.memory)
/-- Behaviours 1 to 5 (16 R501). -/
def behaviourNo (n : Nat) : Bool := decide (1 ≤ n ∧ n ≤ 5)
/-- Rings of PF0 and the VFs, and the functions they belong to (15 R456). -/
def ringNo (n : Nat) : Bool := decide (n ≤ 64)
def fnNo (n : Nat) : Bool := decide (n ≤ 64)
def vlanNo (n : Nat) : Bool := decide (n < 4096)
/-- Operand sizes of AtomicOps (07 R237) and of register writes (15 R455). -/
def atomicSize (n : Nat) : Bool := n == 4 || n == 8
def regSize (n : Nat) : Bool := n == 4 || n == 8
/-- Link speeds of OD 2A00:02 (15 R485). -/
def speedNo (n : Nat) : Bool := decide (1 ≤ n ∧ n ≤ 4)

/-- A VLAN tag's fields fit theirs. -/
def VTag.wf (t : VTag) : Bool := decide (t.pcp < 8 ∧ t.vid < 4096)
/-- A frame whose tag fits. -/
def Frame.wf (f : Frame) : Bool := match f.vlan with | some t => t.wf | none => true
/-- A CAN frame: 11 or 29 identifier bits, at most 8 bytes, or 64 with FD (17 R514). -/
def CanFrame.wf (f : CanFrame) : Bool :=
  decide (f.id < if f.ext then 536870912 else 2048) && decide (f.data.length ≤ if f.fd then 64 else 8)
/-- A PTP message's fields fit theirs (13 R399). -/
def PtpMsg.wf (m : PtpMsg) : Bool := decide (m.msgType < 16 ∧ m.domain < 256 ∧ m.seqId < 65536)

/-- Is a command well-formed? -/
def Instr.wf (i : Instr) : Bool :=
  match i with
  | .modeRequestHold x0 => Path.wf x0
  | .modeRequestCommission x0 => Path.wf x0
  | .modeRequestOperate x0 => Path.wf x0
  | .modeRequestRestart x0 => Path.wf x0
  | .forceRestart x0 => Path.wf x0
  | .activateConfigurationSlot x0 x1 => Path.wf x0 && slotNo x1
  | .commitFirmwareSlot x0 x1 => Path.wf x0 && slotNo x1
  | .restoreAll x0 _ => Path.wf x0
  | .restoreCommunication x0 _ => Path.wf x0
  | .echo x0 _ _ => Path.wf x0
  | .dictRead x0 _ x1 x2 _ _ => Path.wf x0 && indexNo x1 && subIndex x2
  | .dictWrite x0 _ x1 x2 _ _ _ _ _ => Path.wf x0 && indexNo x1 && subIndex x2
  | .dictDescribe x0 _ x1 x2 => Path.wf x0 && indexNo x1 && subIndex x2
  | .dictAbort x0 _ x1 x2 => Path.wf x0 && indexNo x1 && subIndex x2
  | .writeSessionTimeout _ x0 _ => Path.wf x0
  | .readCopyLapse _ x0 => Path.wf x0
  | .mailboxResponse x0 => Path.wf x0
  | .hostAtomicSwap x0 _ x1 _ => Path.wf x0 && atomicSize x1
  | .hostAtomicFetchadd x0 _ x1 _ => Path.wf x0 && atomicSize x1
  | .hostAtomicCas x0 _ x1 _ _ => Path.wf x0 && atomicSize x1
  | .hostWindowRead x0 _ _ _ => Path.wf x0
  | .hostWindowWrite x0 _ _ _ => Path.wf x0
  | .hwstatW1c x0 _ _ => Path.wf x0
  | .fstatW1c x0 _ => Path.wf x0
  | .evpendW1c x0 x1 _ _ => Path.wf x0 && eventGroup x1
  | .ringstatW1c x0 _ => Path.wf x0
  | .registerWrite x0 _ x1 _ => Path.wf x0 && regSize x1
  | .functionLevelReset x0 => Path.wf x0
  | .txEnable x0 => Path.wf x0
  | .txDisable x0 => Path.wf x0
  | .rxEnable x0 => Path.wf x0
  | .rxDisable x0 => Path.wf x0
  | .txtailWrite x0 _ => Path.wf x0
  | .rxtailWrite x0 _ => Path.wf x0
  | .hostTxFrame x0 _ => Path.wf x0
  | .ringInterrupt x0 _ => Path.wf x0
  | .applyOnlineChange x0 x1 => Path.wf x0 && sleeveNo x1
  | .lseRestart x0 x1 => Path.wf x0 && sleeveNo x1
  | .forceSet x0 x1 _ _ _ _ => Path.wf x0 && sleeveNo x1
  | .forceRelease x0 x1 _ => Path.wf x0 && sleeveNo x1
  | .sleeveCreate x0 x1 => Path.wf x0 && sleeveNo x1
  | .sleeveDelete x0 x1 => Path.wf x0 && sleeveNo x1
  | .sleeveFreeze x0 x1 => Path.wf x0 && sleeveNo x1
  | .sleeveThaw x0 x1 => Path.wf x0 && sleeveNo x1
  | .sleeveSave x0 x1 => Path.wf x0 && sleeveNo x1
  | .sleeveRestore x0 x1 => Path.wf x0 && sleeveNo x1.sleeve && decide (x1.arg < 256)
  | .sleeveBehaviour x0 x1 x2 => Path.wf x0 && sleeveNo x1 && behaviourNo x2
  | .pgArm x0 x1 => Path.wf x0 && genNo x1
  | .pgDisarm x0 x1 => Path.wf x0 && genNo x1
  | .recoveryRequest x0 x1 => Path.wf x0 && canPortNo x1
  | .internalLoopback x0 x1 _ => Path.wf x0 && canPortNo x1
  | .manualTrigger x0 x1 => Path.wf x0 && defNo x1
  | .definitionArm x0 x1 => Path.wf x0 && defNo x1
  | .definitionDisarm x0 x1 => Path.wf x0 && defNo x1
  | .deleteStoreRecord x0 _ => Path.wf x0
  | .comtradeExport x0 => Path.wf x0
  | .importAnchor x0 _ => Path.wf x0
  | .importWrapped x0 _ => Path.wf x0
  | .keyInvalidate x0 _ => Path.wf x0
  | .keyDerive x0 _ => Path.wf x0
  | .keyReDerive x0 _ => Path.wf x0
  | .attestationRequest x0 _ => Path.wf x0
  | .reProvisioning x0 _ => Path.wf x0
  | .certificateInstall x0 _ => Path.wf x0
  | .snapshotSchedule x0 _ => Path.wf x0
  | .armingCodeRead x0 => Path.wf x0
  | .injectorArm x0 x1 _ => Path.wf x0 && injNo x1
  | .injectorDisarm x0 x1 => Path.wf x0 && injNo x1
  | .vinApplied _ => true
  | .pwarnAsserted _ => true
  | .pwarnCleared _ _ => true
  | .liningBusBelowReset _ => true
  | .resetReleased _ => true
  | .supplyOff _ => true
  | .holdupConnect _ => true
  | .holdupDisconnect _ => true
  | .liningCharged _ _ => true
  | .liningLeavesCharged _ => true
  | .fuseOpen _ _ _ => true
  | .temperatureCrossing _ _ => true
  | .histogramSample _ x0 _ => quantityNo x0
  | .mantleMeshBreach _ => true
  | .tamperNAsserted _ _ => true
  | .clockMonitorFault _ _ => true
  | .runtimeRestart _ => true
  | .bootB1Complete _ _ _ _ _ => true
  | .bootB2Complete _ => true
  | .bootB3Complete _ _ => true
  | .bootB4Complete _ _ _ _ _ _ => true
  | .bootB5Complete _ => true
  | .bootB6Complete _ => true
  | .bootB7Complete _ _ => true
  | .loneChannelWaitExpiry _ => true
  | .graphStart _ => true
  | .warmUpWindowExpiry _ => true
  | .roleArbitrationGrant _ => true
  | .holdCtlContention _ => true
  | .twinAbsent _ => true
  | .twinHoldCtlDeasserted _ => true
  | .cuffOpen _ => true
  | .takeoverSupervision _ => true
  | .finalTimeout _ => true
  | .nonPostedTakeoverAbort _ x0 _ => fnNo x0
  | .hostCommandRecord _ _ => true
  | .sleeveLifecycleRecord _ _ => true
  | .keySlotChangeRecord _ _ => true
  | .confirmationRecord _ _ => true
  | .canOutcomeRecord _ _ => true
  | .finalRecord _ _ => true
  | .digestRecord _ _ => true
  | .digestUnmatched _ => true
  | .alignmentRecord _ _ _ => true
  | .retainDigestRecord _ _ => true
  | .mirrorSetRecord _ _ => true
  | .idleRecordSend _ => true
  | .lanesDown _ => true
  | .lanesTrained _ => true
  | .selfDiagnosisComplete _ _ _ => true
  | .realignmentBoundary _ x0 => sleeveNo x0
  | .resyncStageComplete _ => true
  | .resyncStageTimeout _ => true
  | .transferBoundary _ => true
  | .convergenceReached _ => true
  | .modeSwitchBoundary _ => true
  | .hbusyPulseEnd _ => true
  | .perstAsserted => true
  | .linkTrained x0 _ => speedNo x0
  | .hostRxFrame _ x0 _ => ringNo x0
  | .frameReceived _ x0 x1 x2 => frontPortNo x0 && Frame.wf x1 && memErrsWf x2.errs
  | .egressFrameStart _ x0 => egressPortNo x0
  | .publisherHandover _ => true
  | .pauseReceived _ x0 _ => frontPortNo x0
  | .pauseExpiry _ x0 => frontPortNo x0
  | .portDown _ x0 => frontPortNo x0
  | .portUp _ x0 => frontPortNo x0
  | .preemptionVerifyComplete _ x0 _ => frontPortNo x0
  | .lifeCheckInterval _ x0 => groupNo x0
  | .nodeForget _ x0 _ => groupNo x0
  | .entryForget _ x0 _ _ => groupNo x0
  | .learnedEntryAgeOut _ _ x0 => vlanNo x0
  | .ingestFrameService x0 => memErrsWf x0.errs
  | .slotCloseMissing _ x0 => streamNo x0
  | .heldSlotWrite _ x0 => streamNo x0
  | .subscriptionChangeApply _ x0 => streamNo x0
  | .pathCompute _ x0 => pathNo x0
  | .conditioningChangeApply _ x0 => pathNo x0
  | .hostWriteEffect _ x0 x1 => indexNo x0 && subIndex x1
  | .sampleBoundary _ x0 => boundaryNo x0
  | .firingRelease _ x0 x1 => sleeveNo x0 && instNo x1
  | .heldEntryGranted _ x0 => levelNo x0
  | .firingDispatch _ x0 => tileNo x0
  | .firingResume _ x0 => tileNo x0
  | .firingNoCompletion _ x0 x1 => sleeveNo x0 && instNo x1.inst
  | .opPhasor _ x0 x1 => sleeveNo x0 && instNo x1
  | .opSeq _ x0 x1 => sleeveNo x0 && instNo x1
  | .opOci _ x0 x1 => sleeveNo x0 && instNo x1
  | .opOct _ x0 x1 => sleeveNo x0 && instNo x1
  | .opDir _ x0 x1 => sleeveNo x0 && instNo x1
  | .opDiff _ x0 x1 => sleeveNo x0 && instNo x1
  | .opUvov _ x0 x1 => sleeveNo x0 && instNo x1
  | .opFreq _ x0 x1 => sleeveNo x0 && instNo x1
  | .opRpw _ x0 x1 => sleeveNo x0 && instNo x1
  | .opSync _ x0 x1 => sleeveNo x0 && instNo x1
  | .opBf _ x0 x1 => sleeveNo x0 && instNo x1
  | .opTherm _ x0 x1 => sleeveNo x0 && instNo x1
  | .opIef _ x0 x1 => sleeveNo x0 && instNo x1
  | .opDcoc _ x0 x1 => sleeveNo x0 && instNo x1
  | .opDcdi _ x0 x1 => sleeveNo x0 && instNo x1
  | .opDcsi _ x0 x1 => sleeveNo x0 && instNo x1
  | .opSum _ x0 x1 => sleeveNo x0 && instNo x1
  | .opScale _ x0 x1 => sleeveNo x0 && instNo x1
  | .opDelay _ x0 x1 => sleeveNo x0 && instNo x1
  | .opCmp _ x0 x1 => sleeveNo x0 && instNo x1
  | .opHold _ x0 x1 => sleeveNo x0 && instNo x1
  | .opTrip _ x0 x1 => sleeveNo x0 && instNo x1
  | .opPub _ x0 x1 => sleeveNo x0 && instNo x1
  | .opCap _ x0 x1 => sleeveNo x0 && instNo x1
  | .publisherFrameBuild _ => true
  | .firstGooseFrame _ x0 => goosePubNo x0
  | .svSendDeadline _ x0 => svPubNo x0
  | .tick _ => true
  | .retxDue _ x0 => goosePubNo x0
  | .horizonDue _ x0 x1 => sleeveNo x0 && instNo x1
  | .delayFullRecheck _ => true
  | .gooseMessageReceived _ x0 => subNo x0
  | .talExpiry _ x0 => subNo x0
  | .gooseStateDeliver _ x0 => subNo x0
  | .lseCycleBoundary _ => true
  | .lseOverrunCeiling _ x0 => sleeveNo x0
  | .lseNop _ x0 x1 => sleeveNo x0 && operandNo x1
  | .lseLd _ x0 x1 => sleeveNo x0 && operandNo x1
  | .lseLdn _ x0 x1 => sleeveNo x0 && operandNo x1
  | .lseAnd _ x0 x1 => sleeveNo x0 && operandNo x1
  | .lseAndn _ x0 x1 => sleeveNo x0 && operandNo x1
  | .lseOr _ x0 x1 => sleeveNo x0 && operandNo x1
  | .lseOrn _ x0 x1 => sleeveNo x0 && operandNo x1
  | .lseXor _ x0 x1 => sleeveNo x0 && operandNo x1
  | .lseNot _ x0 x1 => sleeveNo x0 && operandNo x1
  | .lseSt _ x0 x1 => sleeveNo x0 && operandNo x1
  | .lseStn _ x0 x1 => sleeveNo x0 && operandNo x1
  | .lseSet _ x0 x1 => sleeveNo x0 && operandNo x1
  | .lseRst _ x0 x1 => sleeveNo x0 && operandNo x1
  | .lseRe _ x0 x1 => sleeveNo x0 && operandNo x1
  | .lseFe _ x0 x1 => sleeveNo x0 && operandNo x1
  | .lseApush _ x0 x1 => sleeveNo x0 && operandNo x1
  | .lseOpush _ x0 x1 => sleeveNo x0 && operandNo x1
  | .lsePop _ x0 x1 => sleeveNo x0 && operandNo x1
  | .lseLdw _ x0 x1 => sleeveNo x0 && operandNo x1
  | .lseLdi _ x0 x1 => sleeveNo x0 && operandNo x1
  | .lseStw _ x0 x1 => sleeveNo x0 && operandNo x1
  | .lseAddw _ x0 x1 => sleeveNo x0 && operandNo x1
  | .lseSubw _ x0 x1 => sleeveNo x0 && operandNo x1
  | .lseMulw _ x0 x1 => sleeveNo x0 && operandNo x1
  | .lseCeq _ x0 x1 => sleeveNo x0 && operandNo x1
  | .lseCgt _ x0 x1 => sleeveNo x0 && operandNo x1
  | .lseClt _ x0 x1 => sleeveNo x0 && operandNo x1
  | .lseMovc _ x0 x1 => sleeveNo x0 && operandNo x1
  | .lseTon _ x0 x1 => sleeveNo x0 && operandNo x1
  | .lseTof _ x0 x1 => sleeveNo x0 && operandNo x1
  | .lseTp _ x0 x1 => sleeveNo x0 && operandNo x1
  | .lseCtu _ x0 x1 => sleeveNo x0 && operandNo x1
  | .lseCtd _ x0 x1 => sleeveNo x0 && operandNo x1
  | .lseCrst _ x0 x1 => sleeveNo x0 && operandNo x1
  | .lseCldp _ x0 x1 => sleeveNo x0 && operandNo x1
  | .lseJmp _ x0 x1 => sleeveNo x0 && operandNo x1
  | .lseJc _ x0 x1 => sleeveNo x0 && operandNo x1
  | .lseJcn _ x0 x1 => sleeveNo x0 && operandNo x1
  | .lseEnd _ x0 x1 => sleeveNo x0 && operandNo x1
  | .lseQv _ x0 x1 => sleeveNo x0 && operandNo x1
  | .lseQg _ x0 x1 => sleeveNo x0 && operandNo x1
  | .onlineChangeSwap _ x0 => sleeveNo x0
  | .forceEffect _ x0 => sleeveNo x0
  | .retainInterval _ x0 => sleeveNo x0
  | .retainFlushRetry _ x0 => sleeveNo x0
  | .sleeveStartBoundary _ x0 => sleeveNo x0
  | .freezeBoundary _ x0 => sleeveNo x0
  | .thawBoundary _ x0 => sleeveNo x0
  | .deletionBoundary _ x0 => sleeveNo x0
  | .behaviourBoundary _ x0 => sleeveNo x0
  | .saveBlobReady _ x0 => sleeveNo x0
  | .moveBegin _ x0 x1 x2 => sleeveNo x0 && instNo x1 && tileNo x2
  | .moveFinalTransfer _ x0 x1 => sleeveNo x0 && instNo x1
  | .moveBindingSwitch _ x0 x1 => sleeveNo x0 && instNo x1
  | .tileSelftestPass _ x0 _ => tileNo x0
  | .scrubPass _ x0 _ _ => memoryNo x0
  | .bankWakeComplete _ x0 => bankNo x0
  | .bankRetentionEntry _ x0 => bankNo x0
  | .syncReceived _ x0 x1 _ => frontPortNo x0 && PtpMsg.wf x1
  | .followUpReceived _ x0 x1 => frontPortNo x0 && PtpMsg.wf x1
  | .followUpMatchTimeout _ x0 => frontPortNo x0
  | .announceReceived _ x0 x1 => frontPortNo x0 && PtpMsg.wf x1
  | .announceReceiptTimeout _ => true
  | .pdelayReqReceived _ x0 x1 _ => frontPortNo x0 && PtpMsg.wf x1
  | .pdelayRespReceived _ x0 x1 _ => frontPortNo x0 && PtpMsg.wf x1
  | .pdelayInterval _ x0 => frontPortNo x0
  | .holdoverLimit _ => true
  | .pulseActiveEdge _ x0 => genNo x0
  | .pulseInactiveEdge _ x0 => genNo x0
  | .canFrameReceived _ x0 x1 => canPortNo x0 && CanFrame.wf x1
  | .canSourceCopy _ x0 => bufferNo x0.num
  | .canLockTimeout _ x0 => bufferNo x0
  | .canAttemptStart _ x0 => canPortNo x0.num
  | .canAttemptEnd _ x0 _ => canPortNo x0
  | .busOffRecovery _ x0 => canPortNo x0
  | .canPortReinit _ x0 => canPortNo x0
  | .usdoDownload _ x0 x1 x2 _ _ _ _ => canPortNo x0 && indexNo x1 && subIndex x2
  | .usdoUpload _ x0 x1 x2 _ _ => canPortNo x0 && indexNo x1 && subIndex x2
  | .usdoTimeout _ x0 => canPortNo x0
  | .nmtCommand _ x0 _ => canPortNo x0
  | .heartbeat _ x0 => canPortNo x0
  | .pleatRowCapture x0 x1 => defNo x1 && memErrsWf x0.errs
  | .rearmComplete _ x0 => defNo x0
  | .manualTriggerInstant _ => true
  | .storeWriteStart _ => true
  | .storeWriteComplete _ => true
  | .keyCommandEffect _ => true
  | .keyCommitRetry _ => true
  | .attestationStatementReady _ => true
  | .ledgerBatch _ => true
  | .ledgerBatchRetry _ => true
  | .snapshotLatch _ => true
  | .snapshotCopyComplete _ => true
  | .injectorDurationExpiry _ x0 => injNo x0
  | .seamAliveResumed _ => true
  | .twinHoldCtlAsserted _ => true
  | .hostBridgeFailure => true
  | .resyncImageReceived _ => true
  | .syncInterval _ => true
  | .announceInterval _ => true
  | .canReceiveError _ x0 _ => canPortNo x0
  | .vfEnableWrite _ _ => true
  | .vinDipInClearingWindow _ => true

end Sys2Proof
end

