-- ==== Sys2Proof/Tests/Slice0.lean ====
section
/-! SUPPORT. Witnesses: for every clause of the statements that has hypotheses, a state and operands that meet all of them together.
Then an ill-formed command for each check of the commands' form. -/
namespace Sys2Proof.Tests
open Sys2Proof Sys2Proof.Machine
set_option Elab.async false

/-- A supply in NORMAL with the Lining charged. -/
def full : Supply := { supplyReset with pa := 24000, pb := 24000, lining := 42000, capUF := 10000, linState := .charged, st := .normal }
def bootOf (m : Mode) : BootSt :=
  { bootReset with powered := true, mode := m, phase := 0x20, admitted := true, graphsRun := true }
def sleeveRec : SleeveRec :=
  ⟨63, 1, false, 0, 0, 0, 0, 0, 0, 0, 0, 0, 0, 0, 0, 0, 0, 0, 0, 0, [], [], 0, 0, 0, 0, [], [], []⟩
def sl (x : SleeveState) : Sleeve := { sleeveNew sleeveRec with st := x }
def prog : LseProg := ⟨1000, [], [⟨7, 0, true, 0, 0⟩], [], [], 3, 1000, 100, 1⟩
def lse (x : LseState) : Lse :=
  { prog := prog, differs := false, st := x, r := { lseRegsReset with scanning := true }, latched := [], outPrev := [], outLast := [],
    overruns := 0, passed := 0, overSince := 0, nextB := 0, allow := 3, ceiling := 1000, retainMs := 100, late := false, snap := [],
    flushDue := false, forces := [], pendForces := [], staged := [], swap := none, restartPend := false, safePend := false,
    firstScan := true, seed := none, retainAt := 0 }
def ended (x : LseState) : Lse := { lse x with r := { lseRegsReset with ended := true } }
def inst (op cls : Nat) (ins : List PortDef) : InstRec := ⟨op, cls, ins, [], false, 1, [], 1, []⟩
def rt (x : FiringState) : InstRt :=
  { st := ⟨[], []⟩, lastGood := [], subst := 0, warm := 0, done := 0, breakPend := false, fs := x, release := 0, instant := 0, startAt := 0,
    fencedBy := 0, nextP1 := 0, tile := 0, waited := false }
def graph (r : InstRec) (x : InstRt) : GraphRt := ⟨⟨[r], [], [], 1⟩, [], [], [], [], [(0, x)]⟩
def stream (x : StreamState) : Stream :=
  { cfg := ⟨0, 0x4000, 0, 0, 4000, 1, 1, 0, 0, false, 0, 0xFFFF, 0xFFFF, 8, 0, 1000, 3, 3, 0, false, [], []⟩, st := x, fromLost := false,
    missRun := 0, retRun := 0, breakPending := false, simSeen := false, simMode := false, ring := [], next := 0, closed := [],
    allowUs := 1000, loss := 3, ret := 3, pend := none, pendAt := 0, mask := 1 }
def path : CPath :=
  { cfg := ⟨0, 0, 0, 1, 0, [], 63, false⟩, depth := 2, ring := [], hist := [], lastIn := none, lastVal := none, produced := 0,
    breakPending := false, outBreak := false, pend := none, pendAt := 0, frozen := false, switchAt := 0, oldBypass := false }
def gpub : GPub :=
  { cfg := ⟨0, 63, 0, 0, 0, false, 1, 1, 2, 1000, 0, 0xFFFF, [], [], [], []⟩, pubd := [], stNum := 0, sqNum := 0, t := 0, interval := 0,
    first := false, t1 := 1, t0 := 2, seqNo := 0, srcMac := 0, firstAt := 0, cycle := none, wrote := [] }
def spub : SPub :=
  { cfg := ⟨0, 63, 0, 0, 0, false, 1, 4000, 0, 0xFFFF, [], []⟩, written := [], lastSmp := 0, sentUpTo := 1, seqNo := 0, srcMac := 0 }
def sub : GSub := subNew ⟨0, 63, 0, 0, 1, false, 0, 0xFFFF, 0xFFFF, [], [], []⟩
def goose : GooseMsg := ⟨0, [], [], [], 0, 0, 1, 0, 1000, 1, false, false, false, []⟩
def pdef (x : DefState) : PDef :=
  { defNew ⟨127, 63, false, false, false, false, false, 4000, 10, 2, 1, [], []⟩ with st := x }
def buf : CanBuf := bufNew ⟨1, 0, 63, false, 1, 0, 1, 8, [0, 0, 0, 0, 0, 0, 0, 0]⟩
def port (cfg : CanPortRec) (bufs : KMap CanBuf) : CanPort := { canPortReset 1 with cfg := cfg, bufs := bufs }
def svcPort : CanPort := port { canPortDefault 1 with service := true } []
def frame (b : FrameBody) : Frame := ⟨0, 0, none, 64, true, .none, none, b, []⟩
def qframe : QFrame := ⟨frame (.other 0x0800 []), 1, 0, 0⟩
def ptp : PtpMsg := ⟨0, 0, 0, 5, 1, 0, false, 0, 0, 0, 0, 6, 0, 0, 0, 5, 0, 37, true, true⟩
def master : Master := ⟨1, ptp, 0, none⟩
def linkedPort : PortSt := { portReset with up := true }

/-- A channel of the twin pair, running, with one of each unit of the configuration, in sleeve 63. -/
def run (id : Chan) (m : Mode) : Channel :=
  { channelReset id with
    boot := bootOf m, psu := full, sleeves := [(63, sl .running)], lse := [(63, lse .running)],
    graphs := [(63, graph (inst 0x0304 4 []) (rt .waiting))],
    ingest := { ingestReset with streams := [(0, stream .valid)] }, paths := [(0, path)],
    pub := { pubReset with gpubs := [(0, gpub)], spubs := [(0, spub)], subs := [(0, sub)] },
    pleat := { pleatReset with defs := [(127, pdef .armed)] },
    can := [(1, svcPort), (2, canPortReset 2), (3, canPortReset 3), (4, canPortReset 4)],
    sw := { switchReset with ports := [(1, linkedPort), (12, linkedPort)] } }
def com : Channel := { run .a .commission with seam := { seamReset with holdCtl := true } }
def act : Channel := { run .a .active with seam := { seamReset with holdCtl := true, presence := 2 } }
def stb : Channel := { run .a .standby with seam := { seamReset with presence := 2 } }
def actB : Channel := { run .b .active with seam := { seamReset with holdCtl := true, presence := 2, alive := true } }
def stbB : Channel := { run .b .standby with seam := { seamReset with presence := 2, alive := true } }
def link : Bridge := { bridgeReset with speed := 4, width := 4, vfEnable := true, numVfs := 64, serving := some .a }
/-- The module with these two channels, NORMAL, its host link up. -/
def on2 (a b : Channel) : State := { State.reset with supply := full, bridge := link, a := a, b := b }
def on (a : Channel) : State := on2 a (channelReset .b)
def sup (p : Supply) : State := { State.reset with supply := p }
def bootIn (n : Nat) (f : BootSt → BootSt) : Channel :=
  { channelReset .a with boot := f { bootReset with powered := true, phase := n } }
def afterOf (x : Host.Outcome State Fault Refusal) : State := match x with | .next t => t | _ => State.reset
def rowAt (c : Channel) (i k : Nat) : OdRow := (rowOf c i k).getD (odRo 0 0 0 0 0 0 0 0 false)
/-- A sleeve's program, instance and stream number 63 with other contents. -/
def withLse (c : Channel) (L : Lse) : Channel := { c with lse := [(63, L)] }
def withSl (c : Channel) (x : Sleeve) : Channel := { c with sleeves := [(63, x)] }
def withBoot (c : Channel) (f : BootSt → BootSt) : Channel := { c with boot := f c.boot }
def withSeam (c : Channel) (f : SeamSt → SeamSt) : Channel := { c with seam := f c.seam }
def withTime (c : Channel) (f : TimeSt → TimeSt) : Channel := { c with time := f c.time }
def withPub (c : Channel) (f : PubSt → PubSt) : Channel := { c with pub := f c.pub }
def withPleat (c : Channel) (f : PleatSt → PleatSt) : Channel := { c with pleat := f c.pleat }
def withKeys (c : Channel) (f : KeysSt → KeysSt) : Channel := { c with keys := f c.keys }
def withDiag (c : Channel) (f : DiagSt → DiagSt) : Channel := { c with diag := f c.diag }
def withHost (c : Channel) (f : HostSt → HostSt) : Channel := { c with host := f c.host }
def withSw (c : Channel) (f : SwitchSt → SwitchSt) : Channel := { c with sw := f c.sw }
def withPort (c : Channel) (p : Nat) (f : PortSt → PortSt) : Channel := portPut p (f (portGet c p)) c
def withCan (c : Channel) (x : CanPort) : Channel := { c with can := [(1, x)] }
def withIngest (c : Channel) (f : IngestSt → IngestSt) : Channel := { c with ingest := f c.ingest }
def withDisp (c : Channel) (f : DispSt → DispSt) : Channel := { c with disp := f c.disp }
def withPtp (c : Channel) (p : Nat) (f : PtpPort → PtpPort) : Channel := ptpPut p (f (ptpGet c p)) c
def withEntry (c : Channel) (i k v : Nat) : Channel := { c with dict := { c.dict with overlay := [(od i k, leBytes 8 v)] } }
def withPg (c : Channel) (g : Nat) (x : PulseGen) : Channel := { c with gens := [(g, x)] }
def withInst (c : Channel) (r : InstRec) (x : InstRt) : Channel := { c with graphs := [(63, graph r x)] }
def seg : Segment := ⟨9, 127, false, false, List.replicate 128 0, 0, [], false, false⟩
def hold : Takeover := ⟨0, 0, false, none⟩
def dig : Digest := ⟨1, true, 63, 0, 0, [], true, 0⟩
def mset : MirrorSet := ⟨none, [], [], [], [], [], [], [], []⟩
def built : BuiltFrame := ⟨false, 0, 1, 0, 0, 0, true, frame (.goose goose)⟩
def txDesc : List Byte := [0, 0, 0, 0, 0, 0, 0, 0, 60, 0, 0, 0, 1, 0, 0, 1]
def group : GroupRec := ⟨true, 9, 10, 400, 60, 2000⟩
def withGroup (c : Channel) (x : GroupSt) : Channel :=
  { c with sw := { c.sw with cfg := { c.sw.cfg with groups := [(1, group)] }, groups := [(1, x)] } }
def groupNone : GroupSt := ⟨[], [], [], 0, 0⟩
def asdu : Asdu := ⟨[], 0, 1, 0, []⟩
def ringFrame : RingFrame := ⟨0, frame (.sv 0x4000 false true [asdu]), 0, 0, false, false, false⟩
def withStream (c : Channel) (x : Stream) : Channel := { c with ingest := { c.ingest with streams := [(0, x)] } }
def withPath (c : Channel) (x : CPath) : Channel := { c with paths := [(0, x)] }
def sampleSlot : SampleSlot := ⟨0, true, false, false, false, 0, 0, List.replicate 8 (0, 0), 0⟩
def trigger : InstRec := ⟨0x0102, 0, [⟨true, 5, 1⟩], [], false, 1, [], 1, []⟩
def token (q : U32) : Token := ⟨0, false, false, false, [0], q, 0⟩
def triggered (q : U32) : GraphRt :=
  ⟨⟨[trigger], [⟨true, 0, 0, 0, 0, 2, 0, false⟩], [⟨4, 5, 1, 0⟩], 1⟩, [], [(1000000, ⟨0, [token q], 2, 0, none⟩)], [], [], [(0, rt .waiting)]⟩
def tileOf (c : Channel) (k : Nat) : Tile := (kGet c.disp.tiles k).getD ⟨.placeable, []⟩
def tiles (f : KMap Tile) (c : Channel) : Channel := { c with disp := { c.disp with tiles := f } }
def two (x y : FiringState) : GraphRt :=
  ⟨⟨[inst 0x0304 3 [], inst 0x0304 4 []], [], [], 1⟩, [], [], [], [], [(0, rt x), (1, rt y)]⟩
def job (b : Nat) : PubJob := ⟨true, false, 0, 0, ⟨1, 0, 0, 1000, []⟩, 0, [], b, none⟩
def gstate : GState := ⟨[], 0, 0, 1, 0, true⟩
def bound (l : List Token) : GraphRt :=
  ⟨⟨[trigger], [⟨true, 0, 0, 0, 0, 2, 0, false⟩], [⟨3, 5, 0, 0⟩], 1⟩, [], [(1000000, ⟨0, l, 2, 0, none⟩)], [], [], [(0, rt .waiting)]⟩
def coded (op a : Nat) : Lse := { lse .running with prog := { prog with code := [BitVec.ofNat 32 (op * 16777216 + a)] } }
def synced (f : TimeSt → TimeSt) : Channel :=
  withTime com (fun x => f { x with gm := some master, masters := [master], selPort := 1 })
def heldSync : HeldSync := ⟨ptp, 0, 0, []⟩
def foreign : Master := { master with msg := { ptp with srcClock := clockId (channelReset .a) + 1 } }
def canFrame : CanFrame := ⟨1, false, false, false, false, false, []⟩
def canBound : GraphRt :=
  ⟨⟨[trigger], [⟨true, 0, 0, 0, 0, 2, 0, false⟩], [⟨4, 5, 1, 0⟩], 1⟩, [], [], [], [], [(0, rt .waiting)]⟩
def deriveBody (rights : Byte) : List Byte := [0, 0, 0, 0, 0xFF, 1, 0, 0, rights, 0, 0, 0, 0, 0, 0, 0]
def costly : InstRec := ⟨0x010D, 4, [], [], false, 1, [0, 0, 13000], 1, []⟩
/-- Two costly instances on tile 0. -/
def moving : Channel :=
  withDisp { com with graphs := [(63, ⟨⟨[costly, costly], [], [], 1⟩, [], [], [], [], [(0, rt .waiting), (1, rt .waiting)]⟩)] }
    (fun x => { x with movesLeft := 1 })
def movable : PlInst := (plFind (instsNow moving (imageNow moving)) 63 0).getD ⟨0, 0, costly, 0, 0, 0, 0, 0⟩
/-- A sleeve whose source addresses begin at 5: a frame of source 0 is a spoof. -/
def spoofed : Sleeve := sleeveNew { sleeveRec with macBase := 5 }
/-- A sleeve whose filters admit a frame of no source address range of its own: address 0, EtherType 0x0800. -/
def spoofless : Sleeve := sleeveNew { sleeveRec with ethertypes := [0x0800], vlans := [0] }
/-- A definition with a signal whose scale COMTRADE gives in primary units. -/
def drawn : PDef := { pdef .armed with cfg := { (pdef .armed).cfg with sigs := [⟨1, 4, 0, 0, 0, 0⟩] } }
theorem clockId_of (c d : Channel) (h : c.id = d.id) : clockId c = clockId d := by simp only [clockId, hostMac, h]
theorem foreign_is_other : foreign.msg.srcClock ≠ clockId (chanOf (on (withTime com (fun x => { x with masters := [foreign] }))) .a) := by
  rw [clockId_of (chanOf (on (withTime com (fun x => { x with masters := [foreign] }))) .a) (channelReset .a) rfl]
  unfold foreign
  generalize clockId (channelReset .a) = k
  show k + 1 ≠ k
  bv_omega
theorem serial_reads (v : U32) (l : List Byte) : leAt (leBytes 4 v.toNat ++ l) 0 4 = v.toNat := by
  have h := v.isLt
  simp [leAt, slice, leBytes, leNat]
  omega

/-! ### idle_step_is_a_fabric_cycle -/

theorem witness_idle_step_is_a_fabric_cycle :
    (∃ (s : State),
      s.pending = []) :=
  ⟨State.reset, (by decide +kernel)⟩

/-! ### every_step_keeps_the_invariant -/

theorem witness_every_step_keeps_the_invariant :
    (∃ (s : State) (t : State),
      Inv s ∧ step s = .next t) :=
  ⟨{ State.reset with pending := [.nmtCommand .a 1 0] }, State.reset, (by refine ⟨rfl, rfl⟩), rfl⟩

/-! ### open_fuse_stays_open -/

theorem witness_open_fuse_stays_open :
    (∃ (s : State) (t : State),
      step s = .next t ∧ (((s.fuseA = false ∧ t.fuseA = true) ∨ (s.fuseB = false ∧ t.fuseB = true)))) :=
  ⟨{ State.reset with fuseA := false, pending := [.vinApplied ⟨16500, 0, 0⟩] },
    afterOf (step { State.reset with fuseA := false, pending := [.vinApplied ⟨16500, 0, 0⟩] }), rfl, (by decide +kernel)⟩

/-! ### one_channel_events_stay_on_it -/

theorem witness_one_channel_events_stay_on_it_1 :
    (∃ (i : Instr) (ch : Chan) (s : State) (t : State),
      ownChannel i = some ch ∧ exec i s = .next t) :=
  ⟨.nmtCommand .a 1 0, .a, State.reset, { State.reset with a := commitsEnded (channelReset .a) }, (by decide +kernel), rfl⟩

theorem witness_one_channel_events_stay_on_it_2 :
    (∃ (i : Instr) (ch : Chan) (s : State) (t : State),
      placerCommand i = some ch ∧ placerQuiet s ∧ exec i s = .next t) :=
  ⟨.deletionBoundary .a 63, .a, State.reset, afterOf (exec (.deletionBoundary .a 63) State.reset), (by decide +kernel),
  (by refine ⟨?_, ?_⟩ <;> decide +kernel), rfl⟩

/-! ### frame_of_time_and_can_commands -/

theorem witness_frame_of_time_and_can_commands_1 :
    (∃ (i : Instr) (ch : Chan) (s : State) (t : State),
      timeCommand i = some ch ∧ exec i s = .next t) :=
  ⟨.holdoverLimit .b, .b, State.reset, { State.reset with b := commitsEnded (channelReset .b) }, (by decide +kernel), rfl⟩

theorem witness_frame_of_time_and_can_commands_2 :
    (∃ (i : Instr) (ch : Chan) (s : State) (t : State),
      canCommand i = some ch ∧ exec i s = .next t) :=
  ⟨.nmtCommand .a 1 0, .a, State.reset, { State.reset with a := commitsEnded (channelReset .a) }, (by decide +kernel), rfl⟩

/-! ### frame_of_switch_and_record_commands -/

theorem witness_frame_of_switch_and_record_commands_1 :
    (∃ (i : Instr) (ch : Chan) (s : State) (t : State),
      tableCommand i = some ch ∧ exec i s = .next t) :=
  ⟨.pauseExpiry .a 1, .a, State.reset, afterOf (exec (.pauseExpiry .a 1) State.reset), (by decide +kernel), rfl⟩

theorem witness_frame_of_switch_and_record_commands_2 :
    (∃ (i : Instr) (ch : Chan) (s : State) (t : State),
      recordCommandOf i = some ch ∧ exec i s = .next t) :=
  ⟨.snapshotLatch .a, .a, State.reset, { State.reset with a := commitsEnded (channelReset .a) }, (by decide +kernel), rfl⟩

/-! ### supply_transitions -/

theorem witness_supply_transitions_1 :
    (∃ (s : State) (x : SupSample),
      s.supply.st = .off ∧ 16500 ≤ max x.pa x.pb) :=
  ⟨sup supplyReset, ⟨16500, 0, 0⟩, (by decide +kernel), (by decide +kernel)⟩

theorem witness_supply_transitions_2 :
    (∃ (s : State) (x : SupSample),
      s.supply.st = .normal ∧ max x.pa x.pb < 15500) :=
  ⟨sup full, ⟨15499, 0, 42000⟩, (by decide +kernel), (by decide +kernel)⟩

theorem witness_supply_transitions_3 :
    (∃ (s : State) (x : SupSample),
      s.supply.st = .warning ∧ 16500 ≤ max x.pa x.pb) :=
  ⟨sup { full with st := .warning, pwarn := true }, ⟨16500, 0, 42000⟩, (by decide +kernel), (by decide +kernel)⟩

theorem witness_supply_transitions_4 :
    (∃ (s : State) (x : SupSample),
      s.supply.st = .warning ∧ x.lining < 12000) :=
  ⟨sup { full with st := .warning, pwarn := true }, ⟨0, 0, 11999⟩, (by decide +kernel), (by decide +kernel)⟩

theorem witness_supply_transitions_5 :
    (∃ (s : State) (x : SupSample),
      s.supply.st = .reset ∧ 16500 ≤ max x.pa x.pb) :=
  ⟨sup { full with st := .reset }, ⟨0, 16500, 11999⟩, (by decide +kernel), (by decide +kernel)⟩

theorem witness_supply_transitions_6 :
    (∃ (s : State) (x : SupSample),
      s.supply.st = .reset ∧ x.pa < 5000 ∧ x.pb < 5000) :=
  ⟨sup { full with st := .reset }, ⟨4999, 4999, 0⟩, (by decide +kernel), (by decide +kernel), (by decide +kernel)⟩

/-! ### lining_and_fuses -/

theorem witness_lining_and_fuses_1 :
    (∃ (s : State) (x : SupSample),
      (s.supply.st = .normal ∨ s.supply.st = .warning) ∧ max x.pa x.pb < 14500) :=
  ⟨sup full, ⟨14499, 14499, 42000⟩, (by decide +kernel), (by decide +kernel)⟩

theorem witness_lining_and_fuses_2 :
    (∃ (s : State) (x : SupSample),
      s.supply.linState = .holdup ∧ 15000 < max x.pa x.pb) :=
  ⟨sup { full with linState := .holdup }, ⟨15001, 0, 30000⟩, (by decide +kernel), (by decide +kernel)⟩

theorem witness_lining_and_fuses_3 :
    (∃ (s : State) (x : SupSample),
      s.supply.linState = .charging ∧ 41000 ≤ x.lining) :=
  ⟨sup { full with linState := .charging }, ⟨24000, 0, 41000⟩, (by decide +kernel), (by decide +kernel)⟩

theorem witness_lining_and_fuses_4 :
    (∃ (s : State) (x : SupSample),
      s.supply.linState = .charged ∧ x.lining < 38000) :=
  ⟨sup full, ⟨24000, 0, 37999⟩, (by decide +kernel), (by decide +kernel)⟩

theorem witness_lining_and_fuses_5 :
    (∃ (s : State),
      s.supply.st = .warning ∧ s.supply.pwarn = true) :=
  ⟨sup { full with st := .warning, pwarn := true }, (by decide +kernel), (by decide +kernel)⟩

theorem witness_lining_and_fuses_6 :
    (∃ (s : State) (ch : Chan) (mA : Nat) (us : Nat),
      ((match ch with | .a => s.fuseA | .b => s.fuseB) = true) ∧ ((6000 < mA ∧ 5000 ≤ us) ∨ 12000 < mA)) :=
  ⟨State.reset, .a, 6001, 5000, (by decide +kernel), (by decide +kernel)⟩

/-! ### channel_restarts -/

theorem witness_channel_restarts_1 :
    (∃ (s : State) (ch : Chan),
      (chanOf s ch).boot.powered = true ∧ (chanOf s ch).boot.halt = none ∧ graphMode (chanOf s ch).boot.mode = true) :=
  ⟨on com, .a, (by decide +kernel), (by decide +kernel), (by decide +kernel)⟩

theorem witness_channel_restarts_2 :
    (∃ (s : State) (ch : Chan),
      (chanOf s ch).boot.powered = true ∧ (chanOf s ch).boot.halt = none ∧ ((chanOf s ch).boot.mode = .hold ∨ (chanOf s ch).boot.mode = .sealedMode))
      :=
  ⟨on (run .a .hold), .a, (by decide +kernel), (by decide +kernel), (by decide +kernel)⟩

theorem witness_channel_restarts_3 :
    (∃ (s : State) (ch : Chan),
      (chanOf s ch).boot.powered = true ∧ (chanOf s ch).boot.halt = none ∧ (chanOf s ch).boot.mode = .boot) :=
  ⟨on (bootIn 5 id), .a, (by decide +kernel), (by decide +kernel), (by decide +kernel)⟩

theorem witness_channel_restarts_4 :
    (∃ (s : State) (ch : Chan),
      runtimeUp (chanOf s ch) = true) :=
  ⟨on com, .a, (by decide +kernel)⟩

/-! ### boot_phases_b1_to_b4 -/

theorem witness_boot_phases_b1_to_b4_1 :
    (∃ (s : State) (ch : Chan),
      inPhase 1 (chanOf s ch) = true ∧ (chanOf s ch).keysNv.sealedMarker = false) :=
  ⟨on (bootIn 1 id), .a, (by decide +kernel), (by decide +kernel)⟩

theorem witness_boot_phases_b1_to_b4_2 :
    (∃ (s : State) (ch : Chan),
      inPhase 1 (chanOf s ch) = true) :=
  ⟨on (bootIn 1 id), .a, (by decide +kernel)⟩

theorem witness_boot_phases_b1_to_b4_3 :
    (∃ (s : State) (ch : Chan),
      inPhase 1 (chanOf s ch) = true ∧ (chanOf s ch).keysNv.sealedMarker = true) :=
  ⟨on { bootIn 1 id with keysNv := { keysNvReset with sealedMarker := true } }, .a, (by decide +kernel), (by decide +kernel)⟩

theorem witness_boot_phases_b1_to_b4_4 :
    (∃ (s : State) (ch : Chan),
      inPhase 2 (chanOf s ch) = true ∧ fwVerifies (chanOf s ch) (chanOf s ch).slots.committedFw = true) :=
  ⟨on (bootIn 2 id), .a, (by decide +kernel), (by decide +kernel)⟩

theorem witness_boot_phases_b1_to_b4_5 :
    (∃ (s : State) (ch : Chan),
      inPhase 2 (chanOf s ch) = true ∧ ((∀ n, fwVerifies (chanOf s ch) n = false))) :=
  ⟨on { bootIn 2 id with slots := { slotsReset with fw0 := slotEmpty } }, .a, (by decide +kernel),
    (by intro n; simp [fwVerifies, fwSlot, on, on2, bootIn, chanOf, slotEmpty, slotsReset, channelReset])⟩

theorem witness_boot_phases_b1_to_b4_6 :
    (∃ (s : State) (ch : Chan),
      inPhase 3 (chanOf s ch) = true) :=
  ⟨on (bootIn 3 id), .a, (by decide +kernel)⟩

theorem witness_boot_phases_b1_to_b4_7 :
    (∃ (s : State) (ch : Chan),
      inPhase 4 (chanOf s ch) = true ∧ (chanOf s ch).boot.mode = .boot) :=
  ⟨on (bootIn 4 id), .a, (by decide +kernel), (by decide +kernel)⟩

theorem witness_boot_phases_b1_to_b4_8 :
    (∃ (s : State) (ch : Chan) (l : List Nat),
      inPhase 4 (chanOf s ch) = true ∧ (chanOf s ch).boot.mode = .boot ∧ 2 < l.length) :=
  ⟨on (bootIn 4 id), .a, [0, 1, 2], (by decide +kernel), (by decide +kernel), (by decide +kernel)⟩

theorem witness_boot_phases_b1_to_b4_9 :
    (∃ (s : State) (ch : Chan),
      inPhase 4 (chanOf s ch) = true) :=
  ⟨on (bootIn 4 id), .a, (by decide +kernel)⟩

/-! ### boot_phases_b5_to_b7 -/

theorem witness_boot_phases_b5_to_b7_1 :
    (∃ (s : State) (ch : Chan),
      inBootPhase 5 (chanOf s ch) = true) :=
  ⟨on (bootIn 5 id), .a, (by decide +kernel)⟩

theorem witness_boot_phases_b5_to_b7_2 :
    (∃ (s : State) (ch : Chan),
      inBootPhase 6 (chanOf s ch) = true) :=
  ⟨on (bootIn 6 id), .a, (by decide +kernel)⟩

theorem witness_boot_phases_b5_to_b7_3 :
    (∃ (s : State) (ch : Chan),
      (chanOf s ch).boot.mode = .sealedMode) :=
  ⟨on (bootIn 7 (fun b => { b with mode := .sealedMode })), .a, (by decide +kernel)⟩

theorem witness_boot_phases_b5_to_b7_4 :
    (∃ (s : State) (ch : Chan),
      inBootPhase 7 (chanOf s ch) = true ∧ (chanOf s ch).boot.admitted = true) :=
  ⟨on (bootIn 7 (fun b => { b with admitted := true })), .a, (by decide +kernel), (by decide +kernel)⟩

/-! ### start_and_grant -/

theorem witness_start_and_grant_1 :
    (∃ (s : State) (ch : Chan),
      graphMode (chanOf s ch).boot.mode = true ∧ (chanOf s ch).boot.graphsRun = false ∧ (chanOf s ch).boot.admitted = true) :=
  ⟨on { com with boot := { com.boot with graphsRun := false } }, .a, (by decide +kernel), (by decide +kernel), (by decide +kernel)⟩

theorem witness_start_and_grant_2 :
    (∃ (s : State) (ch : Chan),
      (chanOf s ch).boot.graphsRun = true ∧ (chanOf s ch).boot.windowOpen = true) :=
  ⟨on { com with boot := { com.boot with windowOpen := true } }, .a, (by decide +kernel), (by decide +kernel)⟩

theorem witness_start_and_grant_3 :
    (∃ (s : State) (ch : Chan),
      mayHold (chanOf s ch) = true ∧ (chanOf s ch).seam.presence = 0 ∧ (chanOf s ch).boot.granted = false) :=
  ⟨on (run .a .commission), .a, (by decide +kernel), (by decide +kernel), (by decide +kernel)⟩

theorem witness_start_and_grant_4 :
    (∃ (s : State) (ch : Chan),
      qualifies (chanOf s ch) = true ∧ (chanOf s ch.twin).seam.holdCtl = false ∧ (((chanOf s ch).id = .a ∨ qualifies (chanOf s ch.twin) = false))) :=
  ⟨on2 stb (channelReset .b), .a, (by decide +kernel), (by decide +kernel), (by decide +kernel)⟩

/-! ### mode_requests -/

theorem witness_mode_requests_1 :
    (∃ (s : State) (p : Path),
      WriteReady s p [2, 3, 4, 5] 0x2000 ∧ (atPath s p).boot.pendingMode = none) :=
  ⟨on com, .pf0, ⟨⟨rfl, rfl⟩, rfl, rfl, rfl⟩, (by decide +kernel)⟩

theorem witness_mode_requests_2 :
    (∃ (s : State) (p : Path),
      WriteReady s p [3, 4, 5] 0x2000 ∧ (atPath s p).boot.pendingMode = none) :=
  ⟨on com, .pf0, ⟨⟨rfl, rfl⟩, rfl, rfl, rfl⟩, (by decide +kernel)⟩

theorem witness_mode_requests_3 :
    (∃ (s : State) (p : Path),
      WriteReady s p [3, 4, 5] 0x2000 ∧ (atPath s p).boot.pendingMode = none) :=
  ⟨on com, .pf0, ⟨⟨rfl, rfl⟩, rfl, rfl, rfl⟩, (by decide +kernel)⟩

theorem witness_mode_requests_4 :
    (∃ (s : State) (p : Path),
      WriteReady s p [2] 0x2000 ∧ (atPath s p).boot.pendingMode = none) :=
  ⟨on (run .a .hold), .pf0, ⟨⟨rfl, rfl⟩, rfl, rfl, rfl⟩, (by decide +kernel)⟩

theorem witness_mode_requests_5 :
    (∃ (s : State) (p : Path),
      WriteReady s p [2, 3, 4, 5] 0x2000 ∧ (atPath s p).boot.pendingMode = none ∧ (atPath s p).seam.takeover = none ∧ ((atPath s p).boot.mode ≠
      .active ∨ twinReady (chanOf s (pathChan s p).twin) (atPath s p) = true)) :=
  ⟨on com, .pf0, ⟨⟨rfl, rfl⟩, rfl, rfl, rfl⟩, (by decide +kernel), (by decide +kernel), (by decide +kernel)⟩

theorem witness_mode_requests_6 :
    (∃ (s : State) (p : Path),
      WriteReady s p [5] 0x2000 ∧ (atPath s p).boot.pendingMode = none ∧ (atPath s p).seam.takeover = none ∧ twinReady (chanOf s (pathChan s p).twin)
      (atPath s p) = false) :=
  ⟨on act, .pf0, ⟨⟨rfl, rfl⟩, rfl, rfl, rfl⟩, (by decide +kernel), (by decide +kernel), (by decide +kernel)⟩

theorem witness_mode_requests_7 :
    (∃ (s : State) (p : Path),
      WriteReady s p [2, 3, 4, 5] 0x2000 ∧ (atPath s p).boot.pendingMode = none ∧ (atPath s p).seam.takeover = none ∧ (atPath s p).boot.mode =
      .active) :=
  ⟨on act, .pf0, ⟨⟨rfl, rfl⟩, rfl, rfl, rfl⟩, (by decide +kernel), (by decide +kernel), (by decide +kernel)⟩

theorem witness_mode_requests_8 :
    (∃ (s : State) (p : Path) (h : Takeover),
      WriteReady s p [2, 3, 4, 5] 0x2000 ∧ (atPath s p).boot.pendingMode = none ∧ (atPath s p).seam.takeover = some h) :=
  ⟨on (withSeam com (fun x => { x with takeover := some { hold with opened := true } })), .pf0, { hold with opened := true }, ⟨⟨rfl, rfl⟩, rfl, rfl,
  rfl⟩, (by decide +kernel), (by decide +kernel)⟩

theorem witness_mode_requests_9 :
    (∃ (s : State) (ch : Chan) (t0 : Nat),
      (((chanOf s ch).boot.pendingMode = some (4, t0) ∧ (chanOf s ch).boot.mode = .standby) ∨ (chanOf s ch).boot.pendingMode = some (0x84, t0) ∧
      (chanOf s ch).boot.mode = .active) ∧ (chanOf s ch).seam.takeover = none) :=
  ⟨on { stb with boot := { stb.boot with pendingMode := some (4, 0) } }, .a, 0, (Or.inl ⟨rfl, rfl⟩), (by decide +kernel)⟩

theorem witness_mode_requests_10 :
    (∃ (s : State) (ch : Chan) (t0 : Nat),
      (chanOf s ch).boot.pendingMode = some (5, t0) ∧ (chanOf s ch).seam.takeover = none ∧ ((chanOf s ch).boot.mode = .hold ∨ (chanOf s ch).boot.mode
      = .commission)) :=
  ⟨on { com with boot := { com.boot with pendingMode := some (5, 0) } }, .a, 0, (by decide +kernel), (by decide +kernel), (by decide +kernel)⟩

theorem witness_mode_requests_11 :
    (∃ (s : State) (ch : Chan) (t0 : Nat),
      (chanOf s ch).boot.pendingMode = some (1, t0) ∧ (chanOf s ch).seam.takeover = none ∧ (chanOf s ch).boot.mode = .commission) :=
  ⟨on { com with boot := { com.boot with pendingMode := some (1, 0) } }, .a, 0, (by decide +kernel), (by decide +kernel), (by decide +kernel)⟩

theorem witness_mode_requests_12 :
    (∃ (s : State) (ch : Chan) (t0 : Nat),
      (chanOf s ch).boot.pendingMode = some (2, t0) ∧ (chanOf s ch).seam.takeover = none ∧ ((chanOf s ch).boot.mode = .standby ∨ (chanOf s
      ch).boot.mode = .active)) :=
  ⟨on { stb with boot := { stb.boot with pendingMode := some (2, 0) } }, .a, 0, (by decide +kernel), (by decide +kernel), (by decide +kernel)⟩

theorem witness_mode_requests_13 :
    (∃ (s : State) (ch : Chan) (t0 : Nat),
      (chanOf s ch).boot.pendingMode = some (3, t0) ∧ (chanOf s ch).seam.takeover = none ∧ (chanOf s ch).boot.mode = .commission ∧ (chanOf s
      ch).seam.holdCtl = false ∧ (chanOf s ch).boot.clockFault = false) :=
  ⟨on { run .a .commission with boot := { com.boot with pendingMode := some (3, 0) } }, .a, 0, (by decide +kernel), (by decide +kernel),
  (by decide +kernel), (by decide +kernel), (by decide +kernel)⟩

/-! ### slots_and_restores -/

theorem witness_slots_and_restores_1 :
    (∃ (s : State) (p : Path) (n : Nat),
      WriteReady s p [2, 3] 0x2000 ∧ s.bridge.held = [] ∧ n ≤ 1 ∧ n ≠ (atPath s p).slots.committed) :=
  ⟨on com, .pf0, 1, ⟨⟨rfl, rfl⟩, rfl, rfl, rfl⟩, (by decide +kernel), (by decide +kernel), (by decide +kernel)⟩

theorem witness_slots_and_restores_2 :
    (∃ (s : State) (n : Nat),
      WriteReady s .pf0 [2, 3] 0x2000 ∧ (atPath s .pf0).boot.pendingMode = none ∧ modeIn [2, 3] (chanOf s (pathChan s .pf0).twin) = true ∧ (atPath s
      .pf0).seam.presence = 2 ∧ n ≤ 1 ∧ n ≠ (atPath s .pf0).slots.committedFw ∧ (fwSlot (atPath s .pf0) n).status = 1 ∧ twinCommitOk n (atPath s .pf0)
      (chanOf s (pathChan s .pf0).twin) = true ∧ holdupOk (atPath s .pf0).psu 0 energyKey = true ∧ holdupOk (chanOf s (pathChan s .pf0).twin).psu 0
      energyKey = true) :=
  ⟨on2 { com with seam := { com.seam with presence := 2 }, slots := { slotsReset with fw1 := ⟨[], 1⟩ } }
  { run .b .commission with slots := { slotsReset with fw1 := ⟨[], 1⟩ } }, 1, ⟨⟨rfl, rfl⟩, rfl, rfl, rfl⟩, (by decide +kernel), (by decide +kernel),
  (by decide +kernel), (by decide +kernel), (by decide +kernel), (by decide +kernel), (by decide +kernel), (by decide +kernel), (by decide +kernel)⟩

theorem witness_slots_and_restores_3 :
    (∃ (s : State) (n : Nat),
      WriteReady s .pf0 [2, 3] 0x2000 ∧ (atPath s .pf0).slots.committedFw ≠ n ∧ (modeIn [2, 3] (chanOf s (pathChan s .pf0).twin) = false ∨ (atPath s
      .pf0).seam.presence ≠ 2 ∨ twinCommitOk n (atPath s .pf0) (chanOf s (pathChan s .pf0).twin) = false ∨ holdupOk (chanOf s (pathChan s
      .pf0).twin).psu 0 energyKey = false)) :=
  ⟨on com, 1, ⟨⟨rfl, rfl⟩, rfl, rfl, rfl⟩, (by decide +kernel), (by decide +kernel)⟩

theorem witness_slots_and_restores_4 :
    (∃ (s : State) (p : Path),
      WriteReady s p [2, 3] 0x1011) :=
  ⟨on com, .pf0, ⟨⟨rfl, rfl⟩, rfl, rfl, rfl⟩⟩

theorem witness_slots_and_restores_5 :
    (∃ (s : State) (p : Path),
      WriteReady s p [2, 3] 0x1011) :=
  ⟨on com, .pf0, ⟨⟨rfl, rfl⟩, rfl, rfl, rfl⟩⟩

/-! ### dictionary_operations -/

theorem witness_dictionary_operations_1 :
    (∃ (s : State) (p : Path) (body : List Byte),
      PathReady s p ∧ pathLive p (atPath s p) = true ∧ ((∀ ch n, p ≠ .svc ch n)) ∧ noSleeve p (atPath s p) = false ∧ 8 + body.length ≤ bufSize p) :=
  ⟨on com, .pf0, [], ⟨rfl, rfl⟩, (by decide +kernel), (fun _ _ h => by cases h), (by decide +kernel), (by decide +kernel)⟩

theorem witness_dictionary_operations_2 :
    (∃ (s : State) (p : Path) (index : Nat) (sub : Nat) (r : OdRow) (v : List Byte),
      EntryReady s p index sub r ∧ s.bridge.held = [] ∧ r.access ≠ 3 ∧ r.ty ≠ 0x0F ∧ ¬(index = 0x3100 ∧ sub = 0x10) ∧ ¬(index = 0x2D00 ∧ sub = 0x15) ∧
      ¬(index = 0x2100 ∧ sub = 0x14) ∧ valueOf s.bridge (commitsEnded (atPath s p)) r index sub = some v) :=
  ⟨on com, .pf0, 0x2000, 0, rowAt com 0x2000 0, (valueOf link (commitsEnded com) (rowAt com 0x2000 0) 0x2000 0).getD [],
    (by refine ⟨⟨rfl, rfl⟩, rfl, ?_, ?_, ?_, ?_⟩ <;> decide +kernel), (by decide +kernel), (by decide +kernel), (by decide +kernel), (by decide +kernel),
    (by decide +kernel), (by decide +kernel), (by decide +kernel)⟩

theorem witness_dictionary_operations_3 :
    (∃ (s : State) (p : Path) (index : Nat) (sub : Nat) (r : OdRow),
      EntryReady s p index sub r ∧ r.access = 3) :=
  ⟨on com, .pf0, 0x2000, 3, rowAt com 0x2000 3, (by refine ⟨⟨rfl, rfl⟩, rfl, ?_, ?_, ?_, ?_⟩ <;> decide +kernel), (by decide +kernel)⟩

theorem witness_dictionary_operations_4 :
    (∃ (s : State) (p : Path) (index : Nat) (sub : Nat) (r : OdRow) (v : List Byte),
      EntryReady s p index sub r ∧ s.bridge.held = [] ∧ r.access ≠ 3 ∧ r.ty = 0x0F ∧ ¬(index = 0x3100 ∧ sub = 0x10) ∧ ¬(index = 0x2D00 ∧ sub = 0x15) ∧
      valueOf s.bridge (commitsEnded (atPath s p)) r index sub = some v ∧ v.length ≤ 16777216) :=
  ⟨on com, .pf0, 0x2B00, 6, rowAt com 0x2B00 6, [], (by refine ⟨⟨rfl, rfl⟩, rfl, ?_, ?_, ?_, ?_⟩ <;> decide +kernel), (by decide +kernel),
  (by decide +kernel), (by decide +kernel), (by decide +kernel), (by decide +kernel), (by decide +kernel), (by decide +kernel)⟩

theorem witness_dictionary_operations_5 :
    (∃ (s : State) (p : Path) (index : Nat) (sub : Nat) (data : List Byte) (r : OdRow),
      EntryReady s p index sub r ∧ r.access ≠ 1 ∧ r.access ≠ 4 ∧ r.ty ≠ 0x0F ∧ r.mask.testBit (modeCode (atPath s p).boot.mode - 1) = true ∧
      data.length ≤ dataMost p ∧ valueAbort r index sub data = none ∧ commandWrite p (pathChan s p == leadChan s) index sub data (chanOf s (pathChan s
      p).twin) = none ∧ ruleAbort (commitsEnded (atPath s p)) index sub data = none ∧ effectInstant (commitsEnded (atPath s p)) index sub = none ∧
      index ≠ 0x2710) :=
  ⟨on com, .pf0, 0x2200, 0x24, [5], rowAt com 0x2200 0x24, (by refine ⟨⟨rfl, rfl⟩, rfl, ?_, ?_, ?_, ?_⟩ <;> decide +kernel), (by decide +kernel),
  (by decide +kernel), (by decide +kernel), (by decide +kernel), (by decide +kernel), (by decide +kernel), (by decide +kernel), (by decide +kernel),
  (by decide +kernel), (by decide +kernel)⟩

theorem witness_dictionary_operations_6 :
    (∃ (s : State) (p : Path) (index : Nat) (sub : Nat) (r : OdRow),
      EntryReady s p index sub r ∧ r.access = 1) :=
  ⟨on com, .pf0, 0x2000, 1, rowAt com 0x2000 1, (by refine ⟨⟨rfl, rfl⟩, rfl, ?_, ?_, ?_, ?_⟩ <;> decide +kernel), (by decide +kernel)⟩

theorem witness_dictionary_operations_7 :
    (∃ (s : State) (p : Path) (index : Nat) (sub : Nat) (total : Nat) (data : List Byte) (r : OdRow),
      EntryReady s p index sub r ∧ r.access ≠ 1 ∧ r.access ≠ 4 ∧ r.ty = 0x0F ∧ data.length ≤ dataMost p ∧ isImageKey index sub = false ∧
      r.mask.testBit (modeCode (atPath s p).boot.mode - 1) = true ∧ (atPath s p).dict.sessions.any (fun x => x.key == od index sub && x.path != p &&
      !x.timedOut) = false ∧ total ≤ r.maxLen ∧ data.length ≤ total) :=
  ⟨on com, .pf0, 0x2710, 1, 0, [], rowAt com 0x2710 1, (by refine ⟨⟨rfl, rfl⟩, rfl, ?_, ?_, ?_, ?_⟩ <;> decide +kernel), (by decide +kernel),
  (by decide +kernel), (by decide +kernel), (by decide +kernel), (by decide +kernel), (by decide +kernel), (by decide +kernel), (by decide +kernel),
  (by decide +kernel)⟩

theorem witness_dictionary_operations_8 :
    (∃ (s : State) (p : Path) (index : Nat) (sub : Nat) (r : OdRow),
      EntryReady s p index sub r) :=
  ⟨on com, .pf0, 0x2000, 0, rowAt com 0x2000 0, (by refine ⟨⟨rfl, rfl⟩, rfl, ?_, ?_, ?_, ?_⟩ <;> decide +kernel)⟩

theorem witness_dictionary_operations_9 :
    (∃ (s : State) (p : Path) (index : Nat) (sub : Nat) (r : OdRow),
      EntryReady s p index sub r) :=
  ⟨on com, .pf0, 0x2000, 0, rowAt com 0x2000 0, (by refine ⟨⟨rfl, rfl⟩, rfl, ?_, ?_, ?_, ?_⟩ <;> decide +kernel)⟩

theorem witness_dictionary_operations_10 :
    (∃ (s : State) (ch : Chan) (p : Path) (key : Nat) (x : WSession),
      sessionOf p key (chanOf s ch) = some x ∧ x.timedOut = false) :=
  ⟨on { com with dict := { dictReset with sessions := [⟨od 0x2000 0x11, .pf0, 100, [], false⟩] } }, .a, .pf0, od 0x2000 0x11, ⟨od 0x2000 0x11, .pf0,
  100, [], false⟩, (by decide +kernel), (by decide +kernel)⟩

/-! ### lse_host_commands -/

theorem witness_lse_host_commands_1 :
    (∃ (s : State) (p : Path) (n : Nat) (L : Lse),
      WriteReady s p [3, 4, 5] 0x2700 ∧ s.bridge.held = [] ∧ pathChan s p = leadChan s ∧ n < 64 ∧ kGet (atPath s p).lse n = some L ∧ L.swap = none) :=
  ⟨on com, .pf0, 63, lse .running, ⟨⟨rfl, rfl⟩, rfl, rfl, rfl⟩, (by decide +kernel), (by decide +kernel), (by decide +kernel), rfl, (by decide +kernel)⟩

theorem witness_lse_host_commands_2 :
    (∃ (s : State) (p : Path) (n : Nat) (L : Lse),
      WriteReady s p [3, 4, 5] 0x2700 ∧ kGet (atPath s p).lse n = some L ∧ L.st = .faulted) :=
  ⟨on (withLse com (lse .faulted)), .pf0, 63, lse .faulted, ⟨⟨rfl, rfl⟩, rfl, rfl, rfl⟩, rfl, (by decide +kernel)⟩

theorem witness_lse_host_commands_3 :
    (∃ (s : State) (p : Path) (n : Nat) (L : Lse) (id : U32),
      WriteReady s p [3, 4, 5] 0x2700 ∧ leads (atPath s p) = true ∧ kGet (atPath s p).lse n = some L ∧ (progAt L (cycleCeil L (nowNs (atPath s p) +
      1000000))).vars.any (fun x => x.ident == id) = true ∧ ((atPath s p).boot.mode = .commission ∨ inTest (atPath s p) n = true) ∧ (forcedBut L
      id).length < 256) :=
  ⟨on com, .pf0, 63, lse .running, 7, ⟨⟨rfl, rfl⟩, rfl, rfl, rfl⟩, (by decide +kernel), rfl, (by decide +kernel), (by decide +kernel),
  (by decide +kernel)⟩

theorem witness_lse_host_commands_4 :
    (∃ (s : State) (p : Path) (n : Nat) (L : Lse) (id : U32),
      WriteReady s p [3, 4, 5] 0x2700 ∧ kGet (atPath s p).lse n = some L ∧ (leads (atPath s p) = false ∨ (progAt L (cycleCeil L (nowNs (atPath s p) +
      1000000))).vars.any (fun x => x.ident == id) = false ∨ ((atPath s p).boot.mode ≠ .commission ∧ inTest (atPath s p) n = false) ∨ 256 ≤ (forcedBut
      L id).length)) :=
  ⟨on com, .pf0, 63, lse .running, 8, ⟨⟨rfl, rfl⟩, rfl, rfl, rfl⟩, rfl, (by decide +kernel)⟩

theorem witness_lse_host_commands_5 :
    (∃ (s : State) (p : Path) (n : Nat) (L : Lse) (id : U32),
      WriteReady s p [3, 4, 5] 0x2700 ∧ leads (atPath s p) = true ∧ kGet (atPath s p).lse n = some L ∧ (progAt L (cycleCeil L (nowNs (atPath s p) +
      1000000))).vars.any (fun x => x.ident == id) = true) :=
  ⟨on com, .pf0, 63, lse .running, 7, ⟨⟨rfl, rfl⟩, rfl, rfl, rfl⟩, (by decide +kernel), rfl, (by decide +kernel)⟩

/-! ### sleeve_requests -/

theorem witness_sleeve_requests_1 :
    (∃ (s : State) (n : Nat) (x : Sleeve),
      WriteReady s .pf0 [3, 4, 5] 0x2B00 ∧ n < 64 ∧ kGet (atPath s .pf0).sleeves n = some x ∧ x.req = none ∧ x.saving = false ∧ x.st = .running) :=
  ⟨on (withSl com (sl .running)), 63, sl .running, ⟨⟨rfl, rfl⟩, rfl, rfl, rfl⟩, (by decide +kernel), rfl, (by decide +kernel), (by decide +kernel),
    (by decide +kernel)⟩

theorem witness_sleeve_requests_2 :
    (∃ (s : State) (n : Nat) (x : Sleeve),
      WriteReady s .pf0 [3, 4, 5] 0x2B00 ∧ n < 64 ∧ kGet (atPath s .pf0).sleeves n = some x ∧ x.req = none ∧ x.saving = false ∧ x.st = .frozen) :=
  ⟨on (withSl com (sl .frozen)), 63, sl .frozen, ⟨⟨rfl, rfl⟩, rfl, rfl, rfl⟩, (by decide +kernel), rfl, (by decide +kernel), (by decide +kernel),
    (by decide +kernel)⟩

theorem witness_sleeve_requests_3 :
    (∃ (s : State) (n : Nat) (x : Sleeve),
      WriteReady s .pf0 [3, 4, 5] 0x2B00 ∧ n < 64 ∧ kGet (atPath s .pf0).sleeves n = some x ∧ x.req = none ∧ x.saving = false ∧
      deleteOk (atPath s .pf0) x = true) :=
  ⟨on (withSl com (sl .running)), 63, sl .running, ⟨⟨rfl, rfl⟩, rfl, rfl, rfl⟩, (by decide +kernel), rfl, (by decide +kernel), (by decide +kernel),
    (by decide +kernel)⟩

theorem witness_sleeve_requests_4 :
    (∃ (s : State) (n : Nat) (x : Sleeve) (beh : Nat),
      WriteReady s .pf0 [3, 4, 5] 0x2B00 ∧ n < 64 ∧ kGet (atPath s .pf0).sleeves n = some x ∧ x.req = none ∧ x.saving = false ∧ 1 ≤ beh ∧ beh ≤ 5) :=
  ⟨on (withSl com (sl .running)), 63, sl .running, 5, ⟨⟨rfl, rfl⟩, rfl, rfl, rfl⟩, (by decide +kernel), rfl, (by decide +kernel), (by decide +kernel),
    (by decide +kernel), (by decide +kernel)⟩

theorem witness_sleeve_requests_5 :
    (∃ (s : State) (n : Nat) (x : Sleeve),
      WriteReady s .pf0 [3, 4, 5] 0x2B00 ∧ n < 64 ∧ kGet (atPath s .pf0).sleeves n = some x ∧ x.req = none ∧ x.saving = false ∧ x.st = .frozen) :=
  ⟨on (withSl com (sl .frozen)), 63, sl .frozen, ⟨⟨rfl, rfl⟩, rfl, rfl, rfl⟩, (by decide +kernel), rfl, (by decide +kernel), (by decide +kernel),
    (by decide +kernel)⟩

theorem witness_sleeve_requests_6 :
    (∃ (s : State) (n : Nat),
      WriteReady s .pf0 [3, 4, 5] 0x2B00 ∧ s.bridge.held = [] ∧ n < 64 ∧ kGet (atPath s .pf0).sleeves n = none ∧ (atPath s .pf0).seam.presence ≠ 2 ∧
      placerIdle (atPath s .pf0) = true ∧ (atPath s .pf0).disp.queued = []) :=
  ⟨on { com with sleeves := [] }, 63, ⟨⟨rfl, rfl⟩, rfl, rfl, rfl⟩, (by decide +kernel), (by decide +kernel), (by decide +kernel), (by decide +kernel),
  (by decide +kernel), (by decide +kernel)⟩

theorem witness_sleeve_requests_7 :
    (∃ (s : State) (n : Nat),
      WriteReady s .pf0 [3, 4, 5] 0x2B00 ∧ s.bridge.held = [] ∧ n < 64 ∧ kGet (atPath s .pf0).sleeves n = none ∧ (atPath s .pf0).seam.presence = 2 ∧
      placerIdle (atPath s .pf0) = true ∧ placerIdle (chanOf s (pathChan s .pf0).twin) = true ∧ (atPath s .pf0).disp.queued = []) :=
  ⟨on2 { withSeam com (fun x => { x with presence := 2 }) with sleeves := [] } (channelReset .b), 63, ⟨⟨rfl, rfl⟩, rfl, rfl, rfl⟩,
  (by decide +kernel), (by decide +kernel), (by decide +kernel), (by decide +kernel), (by decide +kernel), (by decide +kernel), (by decide +kernel)⟩

theorem witness_sleeve_requests_8 :
    (∃ (s : State) (n : Nat),
      WriteReady s .pf0 [3, 4, 5] 0x2B00 ∧ n < 64 ∧ kGet (atPath s .pf0).sleeves n = none ∧ placerIdle (atPath s .pf0) = false ∧ (atPath s
      .pf0).disp.queued = []) :=
  ⟨on (withDisp { com with sleeves := [] } (fun x => { x with planned := [(63, 0, 1)] })), 63, ⟨⟨rfl, rfl⟩, rfl, rfl, rfl⟩, (by decide +kernel),
  (by decide +kernel), (by decide +kernel), (by decide +kernel)⟩

theorem witness_sleeve_requests_9 :
    (∃ (s : State) (n : Nat) (arg : Nat),
      WriteReady s .pf0 [3, 4, 5] 0x2B00 ∧ s.bridge.held = [] ∧ n < 64 ∧ arg ≤ 1 ∧ kGet (atPath s .pf0).sleeves n = none ∧ (atPath s
      .pf0).seam.presence ≠ 2 ∧ placerIdle (atPath s .pf0) = true ∧ (atPath s .pf0).disp.queued = []) :=
  ⟨on { com with sleeves := [] }, 63, 1, ⟨⟨rfl, rfl⟩, rfl, rfl, rfl⟩, (by decide +kernel), (by decide +kernel), (by decide +kernel),
  (by decide +kernel), (by decide +kernel), (by decide +kernel), (by decide +kernel)⟩

theorem witness_sleeve_requests_10 :
    (∃ (s : State) (n : Nat) (arg : Nat),
      WriteReady s .pf0 [3, 4, 5] 0x2B00 ∧ s.bridge.held = [] ∧ n < 64 ∧ arg ≤ 1 ∧ kGet (atPath s .pf0).sleeves n = none ∧ (atPath s
      .pf0).seam.presence = 2 ∧ placerIdle (atPath s .pf0) = true ∧ placerIdle (chanOf s (pathChan s .pf0).twin) = true ∧ (atPath s .pf0).disp.queued
      = []) :=
  ⟨on2 { withSeam com (fun x => { x with presence := 2 }) with sleeves := [] } (channelReset .b), 63, 1, ⟨⟨rfl, rfl⟩, rfl, rfl, rfl⟩,
  (by decide +kernel), (by decide +kernel), (by decide +kernel), (by decide +kernel), (by decide +kernel), (by decide +kernel), (by decide +kernel),
  (by decide +kernel)⟩

theorem witness_sleeve_requests_11 :
    (∃ (s : State) (n : Nat) (arg : Nat),
      WriteReady s .pf0 [3, 4, 5] 0x2B00 ∧ n < 64 ∧ arg ≤ 1 ∧ kGet (atPath s .pf0).sleeves n = none ∧ placerIdle (atPath s .pf0) = false ∧ (atPath s
      .pf0).disp.queued = []) :=
  ⟨on (withDisp { com with sleeves := [] } (fun x => { x with planned := [(63, 0, 1)] })), 63, 1, ⟨⟨rfl, rfl⟩, rfl, rfl, rfl⟩, (by decide +kernel),
  (by decide +kernel), (by decide +kernel), (by decide +kernel), (by decide +kernel)⟩

/-! ### unit_commands -/

theorem witness_unit_commands_1 :
    (∃ (s : State) (p : Path) (g : Nat),
      g < 4 ∧ WriteReady s p [2, 3, 4, 5] (0x2220 + g) ∧ s.bridge.held = [] ∧ pgSetOk (commitsEnded (atPath s p)) g = true ∧
      (pgGet (atPath s p) g).inPulse = false ∧ (pgEntries (atPath s p) g).period = 0) :=
  ⟨on com, .pf0, 3, (by decide +kernel), ⟨⟨rfl, rfl⟩, rfl, rfl, rfl⟩, (by decide +kernel), (by decide +kernel), (by decide +kernel), (by decide +kernel)⟩

theorem witness_unit_commands_2 :
    (∃ (s : State) (p : Path) (g : Nat),
      g < 4 ∧ WriteReady s p [2, 3, 4, 5] (0x2220 + g)) :=
  ⟨on com, .pf0, 3, (by decide +kernel), ⟨⟨rfl, rfl⟩, rfl, rfl, rfl⟩⟩

theorem witness_unit_commands_3 :
    (∃ (s : State) (p : Path) (n : Nat) (c : CanPort),
      WriteReady s p [2, 3, 4, 5] (0x2C10 + n) ∧ kGet (atPath s p).can n = some c ∧ c.busOff = true ∧ c.cfg.hostRec = true) :=
  ⟨on (withCan com { port { canPortDefault 1 with hostRec := true } [] with busOff := true }), .pf0, 1,
    { port { canPortDefault 1 with hostRec := true } [] with busOff := true }, ⟨⟨rfl, rfl⟩, rfl, rfl, rfl⟩, rfl, (by decide +kernel), (by decide +kernel)⟩

theorem witness_unit_commands_4 :
    (∃ (s : State) (p : Path) (n : Nat) (c : CanPort),
      WriteReady s p [2, 3] (0x2C10 + n) ∧ kGet (atPath s p).can n = some c) :=
  ⟨on com, .pf0, 1, svcPort, ⟨⟨rfl, rfl⟩, rfl, rfl, rfl⟩, rfl⟩

theorem witness_unit_commands_5 :
    (∃ (s : State) (d : Nat),
      WriteReady s .pf0 [3, 4, 5] 0x2D00 ∧ d < 128 ∧ kHas (atPath s .pf0).pleat.defs d = true) :=
  ⟨on com, 127, ⟨⟨rfl, rfl⟩, rfl, rfl, rfl⟩, (by decide +kernel), (by decide +kernel)⟩

theorem witness_unit_commands_6 :
    (∃ (s : State) (p : Path) (d : Nat) (x : PDef),
      WriteReady s p [3, 4, 5] (0x9800 + d) ∧ kGet (atPath s p).pleat.defs d = some x ∧ x.st = .stopped) :=
  ⟨on (withPleat com (fun x => { x with defs := [(127, pdef .stopped)] })), .pf0, 127, pdef .stopped, ⟨⟨rfl, rfl⟩, rfl, rfl, rfl⟩, rfl,
    (by decide +kernel)⟩

theorem witness_unit_commands_7 :
    (∃ (s : State) (p : Path) (d : Nat) (x : PDef),
      WriteReady s p [3, 4, 5] (0x9800 + d) ∧ kGet (atPath s p).pleat.defs d = some x) :=
  ⟨on com, .pf0, 127, pdef .armed, ⟨⟨rfl, rfl⟩, rfl, rfl, rfl⟩, rfl⟩

theorem witness_unit_commands_8 :
    (∃ (s : State) (p : Path) (n : Nat),
      WriteReady s p [2, 3, 4, 5] 0x2D00 ∧ (atPath s p).pleat.store.any (fun x => x.num.toNat == n) = true) :=
  ⟨on (withPleat com (fun x => { x with store := [seg] })), .pf0, 9, ⟨⟨rfl, rfl⟩, rfl, rfl, rfl⟩, (by decide +kernel)⟩

theorem witness_unit_commands_9 :
    (∃ (s : State) (p : Path) (x : Segment) (sigs : List SigRec),
      PathReady s p ∧ pathLive p (atPath s p) = true ∧ reaches p 0x2D00 = true ∧ selected (atPath s p) = some x ∧ sigs = (kGet (atPath s p).pleat.defs
      x.dfn).elim [] (fun y => y.cfg.sigs) ∧ (entryNat (atPath s p) 0x2D00 0x14 1 ≠ 0 ∨ ∀ y ∈ sigs, y.ty ≠ 4 ∧ y.ty ≠ 3)) :=
  ⟨on (withPleat (withEntry com 0x2D00 0x10 9) (fun x => { x with store := [seg] })), .pf0, seg, [], ⟨rfl, rfl⟩, (by decide +kernel),
  (by decide +kernel), (by decide +kernel), (by decide +kernel), (by decide +kernel)⟩

theorem witness_unit_commands_10 :
    (∃ (s : State) (p : Path) (x : Segment) (y : PDef),
      PathReady s p ∧ pathLive p (atPath s p) = true ∧ reaches p 0x2D00 = true ∧ selected (atPath s p) = some x ∧ entryNat (atPath s p) 0x2D00 0x14 1
      = 0 ∧ kGet (atPath s p).pleat.defs x.dfn = some y ∧ (∃ g ∈ y.cfg.sigs, g.ty = 4 ∨ g.ty = 3)) :=
  ⟨on (withPleat { com with dict := { com.dict with overlay := [(od 0x2D00 0x10, leBytes 8 9), (od 0x2D00 0x14, [0])] } } (fun x =>
  { x with store := [seg], defs := [(127, drawn)] })), .pf0, seg, drawn, ⟨rfl, rfl⟩, (by decide +kernel), (by decide +kernel), (by decide +kernel),
  (by decide +kernel), rfl, (by decide +kernel)⟩

/-! ### key_and_diagnostic_commands -/

theorem witness_key_command_waits_1 : ∀ p ∈ [Path.pf0, .pf1, .pf2, .svc .a 1], ∃ (s : State) (b : List Byte), PathReady s p ∧
    pathLive p (atPath s p) = true ∧ modeIn [2, 3] (atPath s p) = true ∧ b.length = 209 ∧ kSlot b < 512 := by
  intro p h
  refine ⟨on2 com (run .b .commission), [0, 0, 0xFF, 1] ++ List.replicate 205 0, ?_⟩
  rcases List.mem_cons.1 h with rfl | h
  · exact ⟨⟨rfl, rfl⟩, by decide +kernel⟩
  rcases List.mem_cons.1 h with rfl | h
  · exact ⟨⟨rfl, rfl⟩, by decide +kernel⟩
  rcases List.mem_cons.1 h with rfl | h
  · exact ⟨⟨rfl, rfl⟩, by decide +kernel⟩
  cases List.mem_singleton.1 h
  exact ⟨⟨rfl, rfl⟩, by decide +kernel⟩

theorem witness_key_command_waits_2 : ∃ (s : State) (b : List Byte), PathReady s .pf0 ∧
    pathLive .pf0 (atPath s .pf0) = true ∧ modeIn [3, 4, 5] (atPath s .pf0) = true ∧ b.length = 336 ∧ kSlot b < 512 :=
  ⟨on com, [0, 0, 0xFF, 1] ++ List.replicate 332 0, ⟨rfl, rfl⟩, by decide +kernel⟩

theorem witness_key_command_waits_3 : ∃ (s : State) (b : List Byte), PathReady s .pf0 ∧
    pathLive .pf0 (atPath s .pf0) = true ∧ modeIn [2, 3, 4, 5] (atPath s .pf0) = true ∧ modeIn [3, 4, 5] (atPath s .pf0) = true ∧
    b.length = 16 ∧ kSlot b < 512 :=
  ⟨on com, [0, 0, 0xFF, 1] ++ List.replicate 12 0, ⟨rfl, rfl⟩, by decide +kernel⟩

theorem witness_key_command_waits_4 : ∃ (s : State) (b : List Byte), PathReady s .pf0 ∧
    pathLive .pf0 (atPath s .pf0) = true ∧ modeIn [3, 4, 5] (atPath s .pf0) = true ∧ b.length = 32 ∧ kSlot b < 512 :=
  ⟨on com, [0, 0, 0xFF, 1] ++ List.replicate 28 0, ⟨rfl, rfl⟩, by decide +kernel⟩

theorem witness_key_and_diagnostic_commands_1 :
    (∃ (s : State) (p : Path) (b : List Byte),
      PathReady s p ∧ pathLive p (atPath s p) = true ∧ (∀ n, p ≠ .vf n) ∧ modeIn [2, 3, 4, 5] (atPath s p) = true ∧ b.length = 36 ∧ (leAt b 0 1 = 1 ∨
      leAt b 0 1 = 2 ∨ (leAt b 0 1 = 3 ∧ leAt b 2 2 < 512))) :=
  ⟨on com, .pf0, [3, 0, 0xFF, 1] ++ List.replicate 32 0, ⟨rfl, rfl⟩, (by decide +kernel), (fun n h => by cases h), (by decide +kernel),
  (by decide +kernel), (by decide +kernel)⟩

theorem witness_key_and_diagnostic_commands_2 :
    (∃ (s : State) (p : Path) (b : List Byte),
      (p = .pf1 ∨ p = .pf2 ∨ ∃ ch n, p = .svc ch n) ∧ PathReady s p ∧ pathLive p (atPath s p) = true ∧ (atPath s p).boot.mode = .sealedMode ∧ b.length
      = 108 ∧ leAt b 0 4 = serialNumber.toNat ∧ nth b 4 0 = chanByte (atPath s p) ∧ (atPath s p).keysNv.provGen.toNat < leAt b 8 4) :=
  ⟨on { run .a .sealedMode with keysNv := { keysNvReset with provGen := 0 } }, .pf1, leBytes 4 serialNumber.toNat ++ [0, 0, 0, 0, 1, 0, 0, 0] ++
  List.replicate 96 0, Or.inl rfl, ⟨rfl, rfl⟩, (by decide +kernel), (by decide +kernel), (by decide +kernel), serial_reads _ _, (by decide +kernel),
  (by decide +kernel)⟩

theorem witness_key_and_diagnostic_commands_3 :
    (∃ (s : State) (p : Path),
      (∀ n, p ≠ .vf n) ∧ PathReady s p ∧ pathLive p (atPath s p) = true ∧ (atPath s p).boot.mode = .hold) :=
  ⟨on (run .a .hold), .pf0, (fun n h => by cases h), ⟨rfl, rfl⟩, (by decide +kernel), (by decide +kernel)⟩

theorem witness_key_and_diagnostic_commands_4 :
    (∃ (s : State) (p : Path) (v : U64),
      WriteReady s p [2, 3, 4, 5] 0x3100 ∧ nowNs (atPath s p) + 1000000 ≤ v.toNat) :=
  ⟨on com, .pf0, 1000000, ⟨⟨rfl, rfl⟩, rfl, rfl, rfl⟩, (by decide +kernel)⟩

theorem witness_key_and_diagnostic_commands_5 :
    (∃ (s : State) (p : Path),
      (∀ n, p ≠ .vf n) ∧ PathReady s p ∧ pathLive p (atPath s p) = true) :=
  ⟨on com, .pf0, (fun n h => by cases h), ⟨rfl, rfl⟩, (by decide +kernel)⟩

theorem witness_key_and_diagnostic_commands_6 :
    (∃ (s : State) (p : Path) (i : Nat) (code : U32),
      (∀ n, p ≠ .vf n) ∧ PathReady s p ∧ pathLive p (atPath s p) = true ∧ i < 33 ∧ codeOk p code (atPath s p) = true ∧ injAllowed (atPath s p) i =
      true ∧ (injGet (atPath s p) i).armed = false) :=
  ⟨on (withDiag com (fun x => { x with armCode := some 5 })), .pf0, 32, 5, (fun n h => by cases h), ⟨rfl, rfl⟩, (by decide +kernel),
  (by decide +kernel), (by decide +kernel), (by decide +kernel), (by decide +kernel)⟩

theorem witness_key_and_diagnostic_commands_7 :
    (∃ (s : State) (p : Path) (i : Nat),
      (∀ n, p ≠ .vf n) ∧ PathReady s p ∧ pathLive p (atPath s p) = true ∧ i < 33 ∧ modeIn [3, 4, 5] (atPath s p) = true ∧ (injGet (atPath s p)
      i).armed = true) :=
  ⟨on (withDiag com (fun x => { x with inj := [(32, { injReset with armed := true })] })), .pf0, 32, (fun n h => by cases h), ⟨rfl, rfl⟩,
  (by decide +kernel), (by decide +kernel), (by decide +kernel), (by decide +kernel)⟩

/-! ### takeover_and_presence -/

theorem witness_takeover_and_presence_1 :
    (∃ (s : State),
      s.a.seam.holdCtl = true ∧ s.b.seam.holdCtl = true) :=
  ⟨on2 act actB, (by decide +kernel), (by decide +kernel)⟩

theorem witness_takeover_and_presence_2 :
    (∃ (s : State) (ch : Chan),
      (chanOf s ch).boot.powered = true ∧ (chanOf s ch.twin).boot.powered = true ∧ (chanOf s ch.twin).seam.holdCtl = true) :=
  ⟨on2 stb actB, .a, (by decide +kernel), (by decide +kernel), (by decide +kernel)⟩

theorem witness_takeover_and_presence_3 :
    (∃ (s : State) (ch : Chan),
      (chanOf s ch).boot.powered = true ∧ (chanOf s ch).seam.twinHold = true ∧ (chanOf s ch.twin).seam.holdCtl = false ∧
      (chanOf s ch).seam.holdCtl = false ∧ (chanOf s ch).boot.mode = .standby) :=
  ⟨on2 (withSeam stb (fun x => { x with twinHold := true })) stbB, .a, (by decide +kernel), (by decide +kernel), (by decide +kernel),
    (by decide +kernel), (by decide +kernel)⟩

theorem witness_takeover_and_presence_4 :
    (∃ (s : State) (ch : Chan),
      (chanOf s ch).boot.powered = true ∧ (chanOf s ch).seam.twinHold = true ∧ (chanOf s ch.twin).seam.holdCtl = false ∧ takesOver (chanOf s ch) =
      false) :=
  ⟨on2 (withSeam com (fun x => { x with twinHold := true })) stbB, .a, (by decide +kernel), (by decide +kernel), (by decide +kernel),
  (by decide +kernel)⟩

theorem witness_takeover_and_presence_5 :
    (∃ (s : State) (ch : Chan) (h : Takeover),
      (chanOf s ch).seam.takeover = some h ∧ h.opened = false ∧ (chanOf s ch).seam.twinHold = true) :=
  ⟨on (withSeam stb (fun x => { x with takeover := some hold, twinHold := true })), .a, hold, (by decide +kernel), (by decide +kernel),
  (by decide +kernel)⟩

theorem witness_takeover_and_presence_6 :
    (∃ (s : State) (ch : Chan) (h : Takeover),
      (chanOf s ch).seam.takeover = some h ∧ h.opened = false ∧ (chanOf s ch).seam.twinHold = false ∧ ((chanOf s ch).boot.mode = .standby ∨ (chanOf s
      ch).boot.mode = .commission) ∧ s.bridge.held = []) :=
  ⟨on (withSeam stb (fun x => { x with takeover := some hold })), .a, hold, (by decide +kernel), (by decide +kernel), (by decide +kernel),
  (by decide +kernel), (by decide +kernel)⟩

theorem witness_takeover_and_presence_7 :
    (∃ (s : State) (ch : Chan) (h : Takeover),
      (chanOf s ch).seam.takeover = some h ∧ h.opened = false ∧ h.final = none) :=
  ⟨on (withSeam stb (fun x => { x with takeover := some hold })), .a, hold, (by decide +kernel), (by decide +kernel), (by decide +kernel)⟩

theorem witness_takeover_and_presence_8 :
    (∃ (s : State) (ch : Chan) (h : Takeover),
      (chanOf s ch).seam.takeover = some h ∧ h.opened = true ∧ h.final = none) :=
  ⟨on (withSeam stb (fun x => { x with takeover := some { hold with opened := true } })), .a, { hold with opened := true }, (by decide +kernel),
  (by decide +kernel), (by decide +kernel)⟩

theorem witness_takeover_and_presence_9 :
    (∃ (s : State) (ch : Chan) (h : Takeover) (f : Nat),
      (chanOf s ch).seam.takeover = some h ∧ f ≤ 64) :=
  ⟨on (withSeam stb (fun x => { x with takeover := some hold })), .a, hold, 64, (by decide +kernel), (by decide +kernel)⟩

theorem witness_takeover_and_presence_10 :
    (∃ (s : State) (ch : Chan),
      (chanOf s ch).seam.superviseDue = true) :=
  ⟨on (withSeam act (fun x => { x with superviseDue := true })), .a, (by decide +kernel)⟩

theorem witness_takeover_and_presence_11 :
    (∃ (s : State) (ch : Chan),
      (chanOf s ch.twin).boot.powered = false ∧ (chanOf s ch).boot.powered = true ∧ (chanOf s ch).seam.presence ≠ 0) :=
  ⟨on act, .a, (by decide +kernel), (by decide +kernel), (by decide +kernel)⟩

theorem witness_takeover_and_presence_12 :
    (∃ (s : State) (ch : Chan),
      (chanOf s ch.twin).boot.powered = true ∧ (chanOf s ch.twin).seam.alive = true ∧ (chanOf s ch).boot.powered = true ∧ (chanOf s ch).seam.presence
      = 0) :=
  ⟨on2 (run .a .active) stbB, .a, (by decide +kernel), (by decide +kernel), (by decide +kernel), (by decide +kernel)⟩

theorem witness_takeover_and_presence_13 :
    (∃ (s : State) (ch : Chan),
      (chanOf s ch).boot.powered = true ∧ (chanOf s ch).seam.presence = 2) :=
  ⟨on stb, .a, (by decide +kernel), (by decide +kernel)⟩

theorem witness_takeover_and_presence_14 :
    (∃ (s : State) (ch : Chan),
      runtimeUp (chanOf s ch) = true ∧ runtimeUp (chanOf s ch.twin) = true ∧ (chanOf s ch.twin).seam.alive = true ∧ (chanOf s ch).seam.presence = 1)
      :=
  ⟨on2 (withSeam stb (fun x => { x with presence := 1 })) stbB, .a, (by decide +kernel), (by decide +kernel), (by decide +kernel),
  (by decide +kernel)⟩

theorem witness_takeover_and_presence_15 :
    (∃ (s : State) (ch : Chan),
      (chanOf s ch).boot.powered = true ∧ (chanOf s ch).seam.presence = 2) :=
  ⟨on stb, .a, (by decide +kernel), (by decide +kernel)⟩

/-! ### twin_records -/

theorem witness_twin_records_1 :
    (∃ (s : State) (ch : Chan) (r : MRec) (rest : List MRec),
      RecordReady s ch r rest) :=
  ⟨on2 (stb) (withSeam actB (fun x => { x with out := [.alignment 0] })), .a, .alignment 0, [], (by refine ⟨rfl, rfl, rfl, rfl, by decide +kernel⟩)⟩

theorem witness_twin_records_2 :
    (∃ (s : State) (ch : Chan) (r : MRec) (rest : List MRec),
      RecordReady s ch r rest) :=
  ⟨on2 (stb) (withSeam actB (fun x => { x with out := [.alignment 0] })), .a, .alignment 0, [], (by refine ⟨rfl, rfl, rfl, rfl, by decide +kernel⟩)⟩

theorem witness_twin_records_3 :
    (∃ (s : State) (ch : Chan) (rest : List MRec) (d : Nat) (at_ : Nat),
      RecordReady s ch (.hostCmd (.manual d at_)) rest ∧ applies (chanOf s ch) = true) :=
  ⟨on2 (stb) (withSeam actB (fun x => { x with out := [.hostCmd (.manual 127 0)] })), .a, [], 127, 0,
    (by refine ⟨rfl, rfl, rfl, rfl, by decide +kernel⟩), (by decide +kernel)⟩

theorem witness_twin_records_4 :
    (∃ (s : State) (ch : Chan) (rest : List MRec) (req : Nat) (at_ : Nat),
      RecordReady s ch (.hostCmd (.mode req at_)) rest ∧ applies (chanOf s ch) = false) :=
  ⟨on2 ({ stb with boot := { stb.boot with mode := .sealedMode } }) (withSeam actB (fun x => { x with out := [.hostCmd (.mode 3 0)] })), .a, [], 3, 0,
    (by refine ⟨rfl, rfl, rfl, rfl, by decide +kernel⟩), (by decide +kernel)⟩

theorem witness_twin_records_5 :
    (∃ (s : State) (ch : Chan) (rest : List MRec) (n : Nat) (x : Sleeve) (at_ : Nat),
      RecordReady s ch (.lifecycle n 3 0 at_) rest ∧ applies (chanOf s ch) = true ∧ kGet (chanOf s ch).sleeves n = some x) :=
  ⟨on2 (stb) (withSeam actB (fun x => { x with out := [.lifecycle 63 3 0 0] })), .a, [], 63, sl .running, 0,
    (by refine ⟨rfl, rfl, rfl, rfl, by decide +kernel⟩), (by decide +kernel), rfl⟩

theorem witness_twin_records_6 :
    (∃ (s : State) (ch : Chan) (rest : List MRec) (cmd : Nat) (b : List Byte) (at_ : Nat),
      RecordReady s ch (.keyChange cmd b at_) rest ∧ applies (chanOf s ch) = true) :=
  ⟨on2 (stb) (withSeam actB (fun x => { x with out := [.keyChange 3 [] 0] })), .a, [], 3, [], 0, (by refine ⟨rfl, rfl, rfl, rfl, by decide +kernel⟩),
    (by decide +kernel)⟩

theorem witness_twin_records_7 :
    (∃ (s : State) (ch : Chan) (rest : List MRec) (sv : Bool) (n : Nat) (st : U32) (sq : U32) (smp : Nat),
      RecordReady s ch (.confirm sv n st sq smp) rest) :=
  ⟨on2 (stb) (withSeam actB (fun x => { x with out := [.confirm false 0 1 0 0] })), .a, [], false, 0, 1, 0, 0,
    (by refine ⟨rfl, rfl, rfl, rfl, by decide +kernel⟩)⟩

theorem witness_twin_records_8 :
    (∃ (s : State) (ch : Chan) (rest : List MRec) (p : Nat) (b : Nat) (st : Nat) (k : Nat),
      RecordReady s ch (.canOutcome p b st k) rest ∧ (chanOf s ch).seam.holdCtl = true) :=
  ⟨on2 (act) (withSeam actB (fun x => { x with out := [.canOutcome 1 0 2 0] })), .a, [], 1, 0, 2, 0, (by refine ⟨rfl, rfl, rfl, rfl, by decide +kernel⟩),
    (by decide +kernel)⟩

theorem witness_twin_records_9 :
    (∃ (s : State) (ch : Chan) (rest : List MRec) (l : List (Bool × Nat × U32 × U32 × Nat)) (h : Takeover),
      RecordReady s ch (.final l) rest ∧ (chanOf s ch).seam.takeover = some h ∧ h.opened = false) :=
  ⟨on2 (withSeam stb (fun x => { x with takeover := some hold })) (withSeam actB (fun x => { x with out := [.final []] })), .a, [], [], hold,
    (by refine ⟨rfl, rfl, rfl, rfl, by decide +kernel⟩), (by decide +kernel), (by decide +kernel)⟩

theorem witness_twin_records_10 :
    (∃ (s : State) (ch : Chan) (rest : List MRec) (d : Digest) (mine : Digest),
      RecordReady s ch (.digest d) rest ∧ (chanOf s ch).seam.digests.find? (fun x => sameDigest d x) = some mine ∧ mine.v = d.v) :=
  ⟨on2 (withSeam stb (fun x => { x with digests := [dig] })) (withSeam actB (fun x => { x with out := [.digest dig] })), .a, [], dig, dig,
    (by refine ⟨rfl, rfl, rfl, rfl, by decide +kernel⟩), (by decide +kernel), (by decide +kernel)⟩

theorem witness_twin_records_11 :
    (∃ (s : State) (ch : Chan) (rest : List MRec) (d : Digest) (mine : Digest),
      RecordReady s ch (.digest d) rest ∧ (chanOf s ch).seam.digests.find? (fun x => sameDigest d x) = some mine ∧ mine.v ≠ d.v ∧ mine.out = true ∧
      mine.fit = true ∧ d.fit = true) :=
  ⟨on2 (withSeam stb (fun x => { x with digests := [{ dig with v := 1 }] })) (withSeam actB (fun x => { x with out := [.digest dig] })), .a, [], dig,
  { dig with v := 1 }, (by refine ⟨rfl, rfl, rfl, rfl, by decide +kernel⟩), (by decide +kernel), (by decide +kernel), (by decide +kernel),
  (by decide +kernel), (by decide +kernel)⟩

theorem witness_twin_records_12 :
    (∃ (s : State) (ch : Chan) (rest : List MRec) (d : Digest),
      RecordReady s ch (.digest d) rest ∧ (chanOf s ch).seam.digests.find? (fun x => sameDigest d x) = none) :=
  ⟨on2 (stb) (withSeam actB (fun x => { x with out := [.digest dig] })), .a, [], dig,
  (by refine ⟨rfl, rfl, rfl, rfl, by decide +kernel⟩), (by decide +kernel)⟩

theorem witness_twin_records_13 :
    (∃ (s : State) (ch : Chan) (rest : List MRec) (at_ : Nat),
      RecordReady s ch (.alignment at_) rest) :=
  ⟨on2 (stb) (withSeam actB (fun x => { x with out := [.alignment 0] })), .a, [], 0, (by refine ⟨rfl, rfl, rfl, rfl, by decide +kernel⟩)⟩

theorem witness_twin_records_14 :
    (∃ (s : State) (ch : Chan) (rest : List MRec) (n : Nat) (at_ : Nat) (v : U64),
      RecordReady s ch (.retainDigest n at_ v) rest ∧ (chanOf s ch).seam.digests = []) :=
  ⟨on2 (stb) (withSeam actB (fun x => { x with out := [.retainDigest 63 0 0] })), .a, [], 63, 0, 0,
  (by refine ⟨rfl, rfl, rfl, rfl, by decide +kernel⟩), (by decide +kernel)⟩

theorem witness_twin_records_15 :
    (∃ (s : State) (ch : Chan) (rest : List MRec) (m : MirrorSet),
      RecordReady s ch (.mirrorSet m) rest ∧ (chanOf s ch).seam.stage = 3 ∧ (chanOf s ch).seam.transferAt ≠ 0) :=
  ⟨on2 (withSeam stb (fun x => { x with stage := 3, transferAt := 1 })) (withSeam actB (fun x => { x with out := [.mirrorSet mset] })), .a, [], mset,
  (by refine ⟨rfl, rfl, rfl, rfl, by decide +kernel⟩), (by decide +kernel), (by decide +kernel)⟩

theorem witness_twin_records_16 :
    (∃ (s : State) (ch : Chan) (d : Digest) (r : List Digest),
      (chanOf s ch).seam.digests = d :: r) :=
  ⟨on (withSeam stb (fun x => { x with digests := [dig] })), .a, dig, [], (by decide +kernel)⟩

/-! ### resynchronisation -/

theorem witness_resynchronisation_1 :
    (∃ (s : State) (ch : Chan),
      resyncs (chanOf s ch) = true ∧ (chanOf s ch).seam.presence = 2 ∧ (chanOf s ch).seam.stage = 1 ∧ signedBytes (committedSlot (chanOf s
      ch.twin)).bytes = signedBytes (committedSlot (chanOf s ch)).bytes) :=
  ⟨on2 (withSeam stb (fun x => { x with stage := 1 })) actB, .a, (by decide +kernel), (by decide +kernel), (by decide +kernel), (by decide +kernel)⟩

theorem witness_resynchronisation_2 :
    (∃ (s : State) (ch : Chan),
      resyncs (chanOf s ch) = true ∧ (chanOf s ch).seam.presence = 2 ∧ (chanOf s ch).seam.stage = 2 ∧ warmedUp (chanOf s ch) = true) :=
  ⟨on2 { (withSeam stb (fun x => { x with stage := 2 })) with graphs := [] } actB, .a, (by decide +kernel), (by decide +kernel), (by decide +kernel),
  (by decide +kernel)⟩

theorem witness_resynchronisation_3 :
    (∃ (s : State) (ch : Chan),
      resyncs (chanOf s ch) = true ∧ (chanOf s ch).seam.presence = 2 ∧ (chanOf s ch).seam.stage = 3 ∧ (chanOf s ch).seam.transferAt = 0) :=
  ⟨on2 (withSeam stb (fun x => { x with stage := 3 })) actB, .a, (by decide +kernel), (by decide +kernel), (by decide +kernel), (by decide +kernel)⟩

theorem witness_resynchronisation_4 :
    (∃ (s : State) (ch : Chan),
      resyncs (chanOf s ch) = true ∧ 1 ≤ (chanOf s ch).seam.stage ∧ (chanOf s ch).seam.stage ≤ 4 ∧ (chanOf s ch).seam.restarts < 2) :=
  ⟨on2 (withSeam stb (fun x => { x with stage := 1, restarts := 1 })) actB, .a, (by decide +kernel), (by decide +kernel), (by decide +kernel),
  (by decide +kernel)⟩

theorem witness_resynchronisation_5 :
    (∃ (s : State) (ch : Chan),
      resyncs (chanOf s ch) = true ∧ 1 ≤ (chanOf s ch).seam.stage ∧ (chanOf s ch).seam.stage ≤ 4 ∧ 2 ≤ (chanOf s ch).seam.restarts) :=
  ⟨on2 (withSeam stb (fun x => { x with stage := 4, restarts := 2 })) actB, .a, (by decide +kernel), (by decide +kernel), (by decide +kernel),
  (by decide +kernel)⟩

theorem witness_resynchronisation_6 :
    (∃ (s : State) (ch : Chan),
      resyncs (chanOf s ch) = true ∧ (chanOf s ch).seam.stage = 4) :=
  ⟨on2 (withSeam stb (fun x => { x with stage := 4 })) actB, .a, (by decide +kernel), (by decide +kernel)⟩

theorem witness_resynchronisation_7 :
    (∃ (s : State) (ch : Chan),
      leads (chanOf s ch) = true ∧ (chanOf s ch).seam.presence = 2 ∧ (chanOf s ch.twin).seam.stage = 3 ∧ (chanOf s ch.twin).seam.transferAt ≠ 0) :=
  ⟨on2 act (withSeam stbB (fun x => { x with stage := 3, transferAt := 1 })), .a, (by decide +kernel), (by decide +kernel), (by decide +kernel),
    (by decide +kernel)⟩

theorem witness_resynchronisation_8 :
    (∃ (s : State) (ch : Chan),
      (chanOf s ch).boot.mode = .standby ∧ (chanOf s ch).seam.holdCtl = false ∧ (chanOf s ch).seam.presence = 2 ∧ (chanOf s ch).seam.stage = 1 ∧
      (chanOf s ch).psu.pwarn = true) :=
  ⟨on2 { (withSeam stb (fun x => { x with stage := 1 })) with psu := { full with pwarn := true } } actB, .a, (by decide +kernel), (by decide +kernel),
    (by decide +kernel), (by decide +kernel), (by decide +kernel)⟩

theorem witness_resynchronisation_9 :
    (∃ (s : State) (ch : Chan),
      (chanOf s ch).boot.mode = .standby ∧ (chanOf s ch).seam.holdCtl = false ∧ (chanOf s ch).seam.presence = 2 ∧ (chanOf s ch).seam.stage = 1 ∧
      (chanOf s ch).psu.pwarn = false) :=
  ⟨on2 (withSeam stb (fun x => { x with stage := 1 })) actB, .a, (by decide +kernel), (by decide +kernel), (by decide +kernel), (by decide +kernel),
    (by decide +kernel)⟩

theorem witness_resynchronisation_10 :
    (∃ (s : State) (ch : Chan) (n : Nat) (k : Nat),
      kGet (chanOf s ch).seam.realign n = some k) :=
  ⟨on (withSeam stb (fun x => { x with realign := [(63, 0)] })), .a, 63, 0, rfl⟩

theorem witness_resynchronisation_11 :
    (∃ (s : State) (ch : Chan) (d : Nat × Nat) (r : List (Nat × Nat)),
      (chanOf s ch).seam.diagnosing = d :: r) :=
  ⟨on (withSeam act (fun x => { x with diagnosing := [(1, 0)] })), .a, (1, 0), [], (by decide +kernel)⟩

theorem witness_resynchronisation_12 :
    (∃ (s : State) (ch : Chan) (d : Nat × Nat) (r : List (Nat × Nat)),
      (chanOf s ch).seam.diagnosing = d :: r ∧ lseBehind (chanOf s ch) (chanOf s ch.twin) = [] ∧ lseBehind (chanOf s ch.twin) (chanOf s ch) = []) :=
  ⟨on2 (withSeam act (fun x => { x with diagnosing := [(1, 0)] })) stbB, .a, (1, 0), [], (by decide +kernel), (by decide +kernel),
  (by decide +kernel)⟩

/-! ### host_window_accesses -/

theorem witness_host_window_accesses_1 :
    (∃ (s : State) (p : Path) (off : Nat) (len : Nat),
      FnReady s p ∧ off + len ≤ areaSize (pathFn p)) :=
  ⟨on com, .pf0, 0, 524288, ⟨⟨rfl, rfl⟩, (fun _ _ h => by cases h), rfl⟩, (by decide +kernel)⟩

theorem witness_host_window_accesses_2 :
    (∃ (s : State) (p : Path) (off : Nat) (len : Nat) (w : Nat),
      FnReady s p ∧ off + len ≤ areaSize (pathFn p) ∧ off / 8 ≤ w ∧ w * 8 < off + len ∧ (fnGet (atPath s p) (pathFn p)).hwstat = 0 ∧
      (atPath s p).host.hbusy = false) :=
  ⟨on com, .vf 64, 53240, 8, 6655, ⟨⟨rfl, rfl⟩, (fun _ _ h => by cases h), rfl⟩, (by decide +kernel), (by decide +kernel), (by decide +kernel),
    (by decide +kernel), (by decide +kernel)⟩

theorem witness_host_window_accesses_3 :
    (∃ (s : State) (p : Path) (off : Nat) (data : List Byte),
      FnReady s p ∧ off + data.length ≤ areaSize (pathFn p)) :=
  ⟨on com, .pf1, 262136, List.replicate 8 0, ⟨⟨rfl, rfl⟩, (fun _ _ h => by cases h), rfl⟩, (by decide +kernel)⟩

theorem witness_host_window_accesses_4 :
    (∃ (s : State) (p : Path) (off : Nat) (data : List Byte) (len : Nat),
      FnReady s p ∧ areaSize (pathFn p) < off + data.length ∧ areaSize (pathFn p) < off + len) :=
  ⟨on com, .vf 1, 53241, List.replicate 8 0, 8, ⟨⟨rfl, rfl⟩, (fun _ _ h => by cases h), rfl⟩, (by decide +kernel), (by decide +kernel)⟩

theorem witness_host_window_accesses_5 :
    (∃ (s : State) (p : Path) (off : Nat) (size : Nat),
      FnReady s p ∧ (size = 4 ∨ size = 8) ∧ off % size = 0 ∧ ((off ≠ 0 ∨ size = 4)) ∧ off + size ≤ areaSize (pathFn p)) :=
  ⟨on com, .pf0, 0, 4, ⟨⟨rfl, rfl⟩, (fun _ _ h => by cases h), rfl⟩, (by decide +kernel), (by decide +kernel), (by decide +kernel), (by decide +kernel)⟩

theorem witness_host_window_accesses_6 :
    (∃ (s : State) (p : Path) (off : Nat) (size : Nat),
      FnReady s p ∧ (size = 4 ∨ size = 8) ∧ off % size = 0 ∧ off + size ≤ areaSize (pathFn p)) :=
  ⟨on com, .pf0, 524280, 8, ⟨⟨rfl, rfl⟩, (fun _ _ h => by cases h), rfl⟩, (by decide +kernel), (by decide +kernel), (by decide +kernel)⟩

theorem witness_host_window_accesses_7 :
    (∃ (s : State) (p : Path) (off : Nat) (size : Nat),
      FnReady s p ∧ (size = 4 ∨ size = 8) ∧ off % size ≠ 0 ∧ off + size ≤ areaSize (pathFn p)) :=
  ⟨on com, .pf0, 4, 8, ⟨⟨rfl, rfl⟩, (fun _ _ h => by cases h), rfl⟩, (by decide +kernel), (by decide +kernel), (by decide +kernel)⟩

theorem witness_host_window_accesses_8 :
    (∃ (s : State) (p : Path) (off : Nat) (size : Nat),
      FnReady s p ∧ ((size ≠ 4 ∧ size ≠ 8) ∨ areaSize (pathFn p) < off + size)) :=
  ⟨on com, .pf0, 0, 2, ⟨⟨rfl, rfl⟩, (fun _ _ h => by cases h), rfl⟩, (by decide +kernel)⟩

theorem witness_host_window_accesses_9 :
    (∃ (s : State) (p : Path),
      FnReady s p) :=
  ⟨on com, .pf0, ⟨⟨rfl, rfl⟩, (fun _ _ h => by cases h), rfl⟩⟩

theorem witness_host_window_accesses_10 :
    (∃ (s : State) (p : Path) (v : U64),
      FnReady s p ∧ runtimeUp (atPath s p) = true ∧ ownerOf (readOwner (pathFn p) (atPath s p)) = 1 ∧ ownerOf v.toNat = 2 ∧ seqOf v.toNat = (seqOf
      (readOwner (pathFn p) (atPath s p)) + 1) % 65536) :=
  ⟨on (withHost com (fun x => { x with window := [(7, 0x40)] })), .pf0, 0x8000000100000000#64, ⟨⟨rfl, rfl⟩, (fun _ _ h => by cases h), rfl⟩,
  (by decide +kernel), (by decide +kernel), (by decide +kernel), (by decide +kernel)⟩

theorem witness_host_window_accesses_11 :
    (∃ (s : State) (p : Path) (v : U64),
      FnReady s p ∧ runtimeUp (atPath s p) = true ∧ (ownerOf (readOwner (pathFn p) (atPath s p)) ≠ 1 ∨ (ownerOf v.toNat = 2 ∧ seqOf v.toNat ≠ (seqOf
      (readOwner (pathFn p) (atPath s p)) + 1) % 65536))) :=
  ⟨on com, .pf0, 0x8000000000000000#64, ⟨⟨rfl, rfl⟩, (fun _ _ h => by cases h), rfl⟩, (by decide +kernel), (by decide +kernel)⟩

theorem witness_host_window_accesses_12 :
    (∃ (s : State) (p : Path) (v : U64),
      FnReady s p ∧ runtimeUp (atPath s p) = true ∧ ownerOf (readOwner (pathFn p) (atPath s p)) = 1 ∧ ownerOf v.toNat = 1) :=
  ⟨on (withHost com (fun x => { x with window := [(7, 0x40)] })), .pf0, 0x4000000000000000#64, ⟨⟨rfl, rfl⟩, (fun _ _ h => by cases h), rfl⟩,
  (by decide +kernel), (by decide +kernel), (by decide +kernel)⟩

theorem witness_host_window_accesses_13 :
    (∃ (s : State) (p : Path) (m : MailReq),
      PathReady s p ∧ (atPath s p).host.mail.find? (fun m => m.fn == pathFn p && m.ready) = some m ∧ (ownerOf (readOwner (pathFn p) (atPath s p)) ≠ 2
      ∨ seqOf (readOwner (pathFn p) (atPath s p)) ≠ m.seq)) :=
  ⟨on (withHost com (fun x => { x with mail := [⟨0, 0, 1, 0, [], 0, true⟩] })), .pf0, ⟨0, 0, 1, 0, [], 0, true⟩, ⟨rfl, rfl⟩, (by decide +kernel),
  (by decide +kernel)⟩

theorem witness_host_window_accesses_14 :
    (∃ (s : State) (p : Path) (m : MailReq),
      PathReady s p ∧ (atPath s p).host.mail.find? (fun m => m.fn == pathFn p && m.ready) = some m ∧ ownerOf (readOwner (pathFn p) (atPath s p)) = 2 ∧
      seqOf (readOwner (pathFn p) (atPath s p)) = m.seq) :=
  ⟨on (withHost com (fun x => { x with window := [(7, 0x80)], mail := [⟨0, 0, 1, 0, [], 0, true⟩] })), .pf0, ⟨0, 0, 1, 0, [], 0, true⟩, ⟨rfl, rfl⟩,
  (by decide +kernel), (by decide +kernel), (by decide +kernel)⟩

theorem witness_host_window_accesses_15 :
    (∃ (s : State) (ch : Chan),
      (chanOf s ch).host.hbusy = true) :=
  ⟨on (withHost com (fun x => { x with hbusy := true })), .a, (by decide +kernel)⟩

/-! ### bar0_registers -/

theorem witness_bar0_registers_1 :
    (∃ (s : State) (p : Path),
      FnReady s p) :=
  ⟨on com, .pf0, ⟨⟨rfl, rfl⟩, (fun _ _ h => by cases h), rfl⟩⟩

theorem witness_bar0_registers_2 :
    (∃ (s : State) (p : Path),
      FnReady s p) :=
  ⟨on com, .vf 64, ⟨⟨rfl, rfl⟩, (fun _ _ h => by cases h), rfl⟩⟩

theorem witness_bar0_registers_3 :
    (∃ (s : State) (mask : U32),
      FnReady s .pf0 ∧ mask.getLsbD 3 = true) :=
  ⟨on com, 8, ⟨⟨rfl, rfl⟩, (fun _ _ h => by cases h), rfl⟩, (by decide +kernel)⟩

theorem witness_bar0_registers_4 :
    (∃ (s : State) (n : Nat) (mask : U32),
      FnReady s (.vf n) ∧ mask.getLsbD 3 = true) :=
  ⟨on com, 64, 8, ⟨⟨rfl, rfl⟩, (fun _ _ h => by cases h), rfl⟩, (by decide +kernel)⟩

theorem witness_bar0_registers_5 :
    (∃ (s : State) (p : Path) (g : Nat),
      FnReady s p ∧ g < 4) :=
  ⟨on com, .pf0, 3, ⟨⟨rfl, rfl⟩, (fun _ _ h => by cases h), rfl⟩, (by decide +kernel)⟩

theorem witness_bar0_registers_6 :
    (∃ (s : State) (p : Path),
      FnReady s p ∧ pathFn p < 65) :=
  ⟨on com, .vf 64, ⟨⟨rfl, rfl⟩, (fun _ _ h => by cases h), rfl⟩, (by decide +kernel)⟩

theorem witness_bar0_registers_7 :
    (∃ (s : State) (p : Path) (g : Nat),
      FnReady s p ∧ g < 4) :=
  ⟨on com, .pf0, 3, ⟨⟨rfl, rfl⟩, (fun _ _ h => by cases h), rfl⟩, (by decide +kernel)⟩

theorem witness_bar0_registers_8 :
    (∃ (s : State) (p : Path),
      FnReady s p ∧ pathFn p < 65 ∧ (ringGet (atPath s p) (pathFn p)).txEn = false) :=
  ⟨on com, .pf0, ⟨⟨rfl, rfl⟩, (fun _ _ h => by cases h), rfl⟩, (by decide +kernel), (by decide +kernel)⟩

theorem witness_bar0_registers_9 :
    (∃ (s : State) (p : Path),
      FnReady s p ∧ pathFn p < 65 ∧ (ringGet (atPath s p) (pathFn p)).txEn = true) :=
  ⟨on (withHost com (fun x => { x with rings := [(64, { ringReset 64 with txEn := true })] })), .vf 64, ⟨⟨rfl, rfl⟩, (fun _ _ h => by cases h), rfl⟩,
    (by decide +kernel), (by decide +kernel)⟩

theorem witness_bar0_registers_10 :
    (∃ (s : State) (p : Path),
      FnReady s p ∧ pathFn p < 65 ∧ (pathFn p = 0 ∨ kHas (atPath s p).sleeves (pathFn p - 1) = true)) :=
  ⟨on com, .vf 64, ⟨⟨rfl, rfl⟩, (fun _ _ h => by cases h), rfl⟩, (by decide +kernel), (Or.inr (by decide +kernel))⟩

theorem witness_bar0_registers_11 :
    (∃ (s : State) (p : Path),
      FnReady s p ∧ pathFn p < 65) :=
  ⟨on com, .vf 64, ⟨⟨rfl, rfl⟩, (fun _ _ h => by cases h), rfl⟩, (by decide +kernel)⟩

theorem witness_bar0_registers_12 :
    (∃ (s : State) (n : Nat),
      FnReady s (.vf n) ∧ pathFn (.vf n) < 65 ∧ kHas (atPath s (.vf n)).sleeves (n - 1) = false ∧ (ringGet (atPath s (.vf n)) n).txEn = false ∧
      (ringGet (atPath s (.vf n)) n).rxEn = false) :=
  ⟨on { com with sleeves := [] }, 64, ⟨⟨rfl, rfl⟩, (fun _ _ h => by cases h), rfl⟩, (by decide +kernel), (by decide +kernel), (by decide +kernel),
  (by decide +kernel)⟩

theorem witness_bar0_registers_13 :
    (∃ (s : State) (p : Path) (v : Nat),
      FnReady s p ∧ pathFn p < 65 ∧ v < 4294967296) :=
  ⟨on com, .pf0, 4294967295, ⟨⟨rfl, rfl⟩, (fun _ _ h => by cases h), rfl⟩, (by decide +kernel), (by decide +kernel)⟩

theorem witness_bar0_registers_14 :
    (∃ (s : State) (p : Path) (v : Nat),
      FnReady s p ∧ pathFn p < 65 ∧ v < 4294967296) :=
  ⟨on com, .pf0, 4294967295, ⟨⟨rfl, rfl⟩, (fun _ _ h => by cases h), rfl⟩, (by decide +kernel), (by decide +kernel)⟩

theorem witness_bar0_registers_15 :
    (∃ (s : State),
      PathReady s .pf0 ∧ hostUp s.a = true ∧ kHas s.a.host.rings 0 = true) :=
  ⟨on (withHost com (fun x => { x with rings := [(0, ringReset 0)] })), ⟨rfl, rfl⟩, (by decide +kernel), (by decide +kernel)⟩

theorem witness_bar0_registers_16 :
    (∃ (s : State) (n : Nat),
      PathReady s (.vf n) ∧ hostUp s.a = true ∧ kHas s.a.host.rings n = true) :=
  ⟨on (withHost com (fun x => { x with rings := [(64, ringReset 64)] })), 64, ⟨rfl, rfl⟩, (by decide +kernel), (by decide +kernel)⟩

/-! ### host_bridge_states -/

theorem witness_host_bridge_states_1 :
    (∃ (s : State) (speed : Nat) (width : Nat),
      ((s.supply.st = .normal ∨ s.supply.st = .warning)) ∧ s.bridge.failed = false ∧ 1 ≤ speed ∧ speed ≤ 4 ∧ ((width = 1 ∨ width = 2 ∨ width = 4))) :=
  ⟨sup full, 4, 4, (by decide +kernel), (by decide +kernel), (by decide +kernel), (by decide +kernel), (by decide +kernel)⟩

theorem witness_host_bridge_states_2 :
    (∃ (s : State),
      s.bridge.failed = true) :=
  ⟨{ State.reset with bridge := { bridgeReset with failed := true } }, (by decide +kernel)⟩

theorem witness_host_bridge_states_3 :
    (∃ (s : State) (n : Nat),
      bridgeCarries s .pf0 = true ∧ s.bridge.vfEnable = false ∧ 1 ≤ n ∧ n ≤ 64) :=
  ⟨{ on com with bridge := { link with vfEnable := false } }, 64, (by decide +kernel), (by decide +kernel), (by decide +kernel), (by decide +kernel)⟩

theorem witness_host_bridge_states_4 :
    (∃ (s : State),
      bridgeCarries s .pf0 = true ∧ s.bridge.vfEnable = true) :=
  ⟨on com, (by decide +kernel), (by decide +kernel)⟩

theorem witness_host_bridge_states_5 :
    (∃ (s : State),
      bridgeCarries s .pf0 = true ∧ hostUp s.a = true) :=
  ⟨on com, (by decide +kernel), (by decide +kernel)⟩

/-! ### host_rings -/

theorem witness_host_rings_1 :
    (∃ (s : State) (d : TxFetch),
      FnReady s .pf0 ∧ runtimeUp (atPath s .pf0) = true ∧ txTurn (atPath s .pf0) = some 0 ∧ d.readOk = true ∧
      malformed (ringGet (atPath s .pf0) 0).maxFrame d.descs = true) :=
  ⟨on (withHost com (fun x => { x with rings := [(0, { ringReset 0 with txEn := true, txTail := 1, txSize := 64 })] })),
    ⟨[List.replicate 16 0], frame (.other 0x0800 []), true⟩, ⟨⟨rfl, rfl⟩, (fun _ _ h => by cases h), rfl⟩, (by decide +kernel), (by decide +kernel),
    (by decide +kernel), (by decide +kernel)⟩

theorem witness_host_rings_2 :
    (∃ (s : State) (d : TxFetch),
      FnReady s .pf0 ∧ runtimeUp (atPath s .pf0) = true ∧ txTurn (atPath s .pf0) = some 0 ∧ d.readOk = false) :=
  ⟨on (withHost com (fun x => { x with rings := [(0, { ringReset 0 with txEn := true, txTail := 1, txSize := 64 })] })),
    ⟨[], frame (.other 0x0800 []), false⟩, ⟨⟨rfl, rfl⟩, (fun _ _ h => by cases h), rfl⟩, (by decide +kernel), (by decide +kernel), (by decide +kernel)⟩

theorem witness_host_rings_3 :
    (∃ (s : State) (d : TxFetch),
      FnReady s .pf0 ∧ runtimeUp (atPath s .pf0) = true ∧ txTurn (atPath s .pf0) = some 0 ∧ d.readOk = true ∧ malformed (ringGet (atPath s .pf0)
      0).maxFrame d.descs = false ∧ frameCount d.descs = 1 ∧ port15Room (commitsEnded (atPath s .pf0)) (sendFrame d.descs 0 d.frame) = true ∧
      etherBarred (etherOf (sendFrame d.descs 0 d.frame)) = false ∧ kHas (atPath s .pf0).host.sends 0 = false) :=
  ⟨on (withHost com (fun x => { x with rings := [(0, { ringReset 0 with txEn := true, txTail := 1, txSize := 64 })] })), ⟨[txDesc], frame (.other
  0x0800 []), true⟩, ⟨⟨rfl, rfl⟩, (fun _ _ h => by cases h), rfl⟩, (by decide +kernel), (by decide +kernel), (by decide +kernel), (by decide +kernel),
  (by decide +kernel), (by decide +kernel), (by decide +kernel), (by decide +kernel)⟩

theorem witness_host_rings_4 :
    (∃ (s : State) (d : TxFetch),
      FnReady s .pf0 ∧ runtimeUp (atPath s .pf0) = true ∧ txTurn (atPath s .pf0) = some 0 ∧ d.readOk = true ∧ malformed (ringGet (atPath s .pf0)
      0).maxFrame d.descs = false ∧ port15Room (commitsEnded (atPath s .pf0)) (sendFrame d.descs 0 d.frame) = false ∧ etherBarred (etherOf (sendFrame
      d.descs 0 d.frame)) = false ∧ kHas (atPath s .pf0).host.sends 0 = false) :=
  ⟨on (withHost (withSw com (fun x => { x with staging := [⟨15, 32768, 1000000, false⟩] })) (fun x =>
  { x with rings := [(0, { ringReset 0 with txEn := true, txTail := 1, txSize := 64 })] })), ⟨[txDesc], frame (.other 0x0800 []), true⟩, ⟨⟨rfl, rfl⟩,
  (fun _ _ h => by cases h), rfl⟩, (by decide +kernel), (by decide +kernel), (by decide +kernel), (by decide +kernel), (by decide +kernel),
  (by decide +kernel), (by decide +kernel)⟩

theorem witness_host_rings_5 :
    (∃ (s : State) (n : Nat) (d : TxFetch) (x : Sleeve) (k : Nat),
      FnReady s (.vf n) ∧ runtimeUp (atPath s (.vf n)) = true ∧ txTurn (atPath s (.vf n)) = some n ∧ d.readOk = true ∧ 0 < n ∧ malformed (ringGet
      (atPath s (.vf n)) n).maxFrame d.descs = false ∧ kGet (atPath s (.vf n)).sleeves (n - 1) = some x ∧ kHas (atPath s (.vf n)).host.sends n = false
      ∧ spoofCause x.cfg (sendFrame d.descs 0 d.frame) = some k) :=
  ⟨on (withHost (withSl com spoofed) (fun x => { x with rings := [(64, { ringReset 64 with txEn := true, txTail := 1, txSize := 64 })] })), 64,
  ⟨[txDesc], frame (.other 0x0800 []), true⟩, spoofed, 1, ⟨⟨rfl, rfl⟩, (fun _ _ h => by cases h), rfl⟩, (by decide +kernel), (by decide +kernel),
  (by decide +kernel), (by decide +kernel), (by decide +kernel), rfl, (by decide +kernel), (by decide +kernel)⟩

theorem witness_host_rings_6 :
    (∃ (s : State) (n : Nat) (d : TxFetch) (x : Sleeve),
      FnReady s (.vf n) ∧ runtimeUp (atPath s (.vf n)) = true ∧ txTurn (atPath s (.vf n)) = some n ∧ d.readOk = true ∧ 0 < n ∧ malformed (ringGet
      (atPath s (.vf n)) n).maxFrame d.descs = false ∧ kGet (atPath s (.vf n)).sleeves (n - 1) = some x ∧ kHas (atPath s (.vf n)).host.sends n = false
      ∧ spoofCause x.cfg (sendFrame d.descs 0 d.frame) = none ∧ frameCount d.descs = 1 ∧ port15Room (commitsEnded (atPath s (.vf n))) (sendFrame
      d.descs 0 d.frame) = true) :=
  ⟨on (withHost (withSl com spoofless) (fun x => { x with rings := [(64, { ringReset 64 with txEn := true, txTail := 1, txSize := 64 })] })), 64,
  ⟨[txDesc], frame (.other 0x0800 []), true⟩, spoofless, ⟨⟨rfl, rfl⟩, (fun _ _ h => by cases h), rfl⟩, (by decide +kernel), (by decide +kernel),
  (by decide +kernel), (by decide +kernel), (by decide +kernel), rfl, (by decide +kernel), (by decide +kernel), (by decide +kernel),
  (by decide +kernel)⟩

theorem witness_host_rings_7 :
    (∃ (s : State) (ch : Chan) (r : Nat) (d : RxFetch) (f : QFrame),
      s.bridge.failed = false ∧ s.bridge.speed ≠ 0 ∧ (chanOf s ch).sw.hostIn.find? (fun x => x.1 == r) = some (r, f) ∧ (ringGet (chanOf s ch) r).rxEn
      = true ∧ (r = 0 ∨ ∃ x, kGet (chanOf s ch).sleeves (r - 1) = some x ∧ etherPermitted x.cfg (etherOf f.frame) = true) ∧ (ringGet (chanOf s ch)
      r).rxBuf ≠ 0 ∧ cdiv (f.frame.len - 4) (ringGet (chanOf s ch) r).rxBuf ≤ rxFree (ringGet (chanOf s ch) r) ∧ d.readOk = true) :=
  ⟨on (withHost (withSw com (fun x => { x with hostIn := [(0, qframe)] })) (fun x =>
  { x with rings := [(0, { ringReset 0 with rxEn := true, rxTail := 1, rxSize := 64, rxBuf := 2048 })] })), .a, 0, ⟨[], true⟩, qframe,
  (by decide +kernel), (by decide +kernel), (by decide +kernel), (by decide +kernel), (Or.inl rfl), (by decide +kernel), (by decide +kernel),
  (by decide +kernel)⟩

theorem witness_host_rings_8 :
    (∃ (s : State) (ch : Chan) (r : Nat) (f : QFrame),
      s.bridge.failed = false ∧ s.bridge.speed ≠ 0 ∧ (chanOf s ch).sw.hostIn.find? (fun x => x.1 == r) = some (r, f) ∧ (ringGet (chanOf s ch) r).rxEn
      = false) :=
  ⟨on (withSw com (fun x => { x with hostIn := [(64, qframe)] })), .a, 64, qframe, (by decide +kernel), (by decide +kernel), (by decide +kernel),
  (by decide +kernel)⟩

theorem witness_host_rings_9 :
    (∃ (s : State),
      FnReady s .pf0 ∧ (ringGet (atPath s .pf0) 0).txIntPend = true) :=
  ⟨on (withHost com (fun x => { x with rings := [(0, { ringReset 0 with txIntPend := true })] })), ⟨⟨rfl, rfl⟩, (fun _ _ h => by cases h), rfl⟩,
  (by decide +kernel)⟩

theorem witness_host_rings_10 :
    (∃ (s : State) (n : Nat),
      FnReady s (.vf n) ∧ (ringGet (atPath s (.vf n)) n).rxIntPend = true) :=
  ⟨on (withHost com (fun x => { x with rings := [(64, { ringReset 64 with rxIntPend := true })] })), 64, ⟨⟨rfl, rfl⟩, (fun _ _ h => by cases h), rfl⟩,
  (by decide +kernel)⟩

/-! ### frames_at_front_ports -/

theorem witness_frames_at_front_ports_1 :
    (∃ (s : State) (ch : Chan) (p : Nat) (f : Frame),
      (chanOf s ch).boot.powered = true ∧ 2 ≤ (chanOf s ch).boot.phase ∧ (chanOf s ch).boot.phase ≠ 16 ∧ 1 ≤ p ∧ p ≤ 12 ∧ linkUp (chanOf s ch) p = true ∧
      (injGet (chanOf s ch) (p - 1)).armed = false ∧ f.good = true ∧ f.len ≤ (portCfg (chanOf s ch) p).maxFrame ∧ ((∀ q, f.body ≠ .pause q))) :=
  ⟨on com, .a, 12, frame (.other 0x0800 []), (by decide +kernel), (by decide +kernel), (by decide +kernel), (by decide +kernel), (by decide +kernel),
    (by decide +kernel), (by decide +kernel), (by decide +kernel), (by decide +kernel), (fun q h => by cases h)⟩

theorem witness_frames_at_front_ports_2 :
    (∃ (s : State) (ch : Chan) (p : Nat) (f : Frame),
      (chanOf s ch).boot.powered = true ∧ 2 ≤ (chanOf s ch).boot.phase ∧ (chanOf s ch).boot.phase ≠ 16 ∧ 1 ≤ p ∧ p ≤ 12 ∧ linkUp (chanOf s ch) p =
      true ∧ (injGet (chanOf s ch) (p - 1)).armed = false ∧ f.good = false) :=
  ⟨on com, .a, 12, { frame (.other 0x0800 []) with good := false }, (by decide +kernel), (by decide +kernel), (by decide +kernel),
  (by decide +kernel), (by decide +kernel), (by decide +kernel), (by decide +kernel), (by decide +kernel)⟩

theorem witness_frames_at_front_ports_3 :
    (∃ (s : State) (ch : Chan) (p : Nat) (f : Frame) (q : Nat),
      (chanOf s ch).boot.powered = true ∧ 2 ≤ (chanOf s ch).boot.phase ∧ (chanOf s ch).boot.phase ≠ 16 ∧ 1 ≤ p ∧ p ≤ 12 ∧ linkUp (chanOf s ch) p =
      true ∧ (injGet (chanOf s ch) (p - 1)).armed = false ∧ f.good = true ∧ f.len ≤ (portCfg (chanOf s ch) p).maxFrame ∧ f.body = .pause q) :=
  ⟨on com, .a, 1, frame (.pause 7), 7, (by decide +kernel), (by decide +kernel), (by decide +kernel), (by decide +kernel), (by decide +kernel),
  (by decide +kernel), (by decide +kernel), (by decide +kernel), (by decide +kernel), (by decide +kernel)⟩

theorem witness_frames_at_front_ports_4 :
    (∃ (s : State) (ch : Chan) (p : Nat),
      linkUp (chanOf s ch) p = false) :=
  ⟨on com, .a, 2, (by decide +kernel)⟩

theorem witness_frames_at_front_ports_5 :
    (∃ (c : Channel) (p : Nat) (f : Frame),
      p ≤ 12 ∧ 1 ≤ p ∧ (match kGet c.sw.cfg.vlans (vidOf c p f) with | some v => v.1 | none => 0).testBit (p - 1) = false) :=
  ⟨withSw com (fun x => { x with cfg := { switchDefault with vlans := [] } }), 1, frame (.other 0x0800 []), (by decide +kernel), (by decide +kernel),
  (by decide +kernel)⟩

/-! ### switch_egress_and_links -/

theorem witness_switch_egress_and_links_1 :
    (∃ (s : State) (ch : Chan) (p : Nat) (f : QFrame) (rest : List QFrame),
      p ∈ queuedPorts ∧ p ≠ 15 ∧ linkUp (chanOf s ch) p = true ∧ (chanOf s ch).sw.cfg.voq = false ∧ queueOf (portGet (chanOf s ch) p) 7 = f :: rest) :=
  ⟨on (withPort com 12 (fun x => { x with queues := [(7, [qframe])] })), .a, 12, qframe, [], (by decide +kernel), (by decide +kernel),
    (by decide +kernel), (by decide +kernel), (by decide +kernel)⟩

theorem witness_switch_egress_and_links_2 :
    (∃ (s : State) (ch : Chan) (p : Nat) (f : QFrame) (rest : List QFrame),
      p ∈ queuedPorts ∧ p ≠ 15 ∧ linkUp (chanOf s ch) p = true ∧ (chanOf s ch).sw.cfg.voq = false ∧ queueOf (portGet (chanOf s ch) p) 7 = [] ∧
      (portGet (chanOf s ch) p).preempted = none ∧ queueOf (portGet (chanOf s ch) p) 6 = f :: rest) :=
  ⟨on (withPort com 1 (fun x => { x with queues := [(6, [qframe])] })), .a, 1, qframe, [], (by decide +kernel), (by decide +kernel), (by decide +kernel),
    (by decide +kernel), (by decide +kernel), (by decide +kernel), (by decide +kernel)⟩

theorem witness_switch_egress_and_links_3 :
    (∃ (s : State) (ch : Chan) (p : Nat),
      p ∈ queuedPorts ∧ p ≠ 15 ∧ linkUp (chanOf s ch) p = true ∧ queueOf (portGet (chanOf s ch) p) 7 = [] ∧ (portGet (chanOf s ch) p).preempted = none ∧
      queueOf (portGet (chanOf s ch) p) 6 = [] ∧ (chanOf s ch).time.up < (portGet (chanOf s ch) p).pausedTo) :=
  ⟨on (withPort com 1 (fun x => { x with pausedTo := 1 })), .a, 1, (by decide +kernel), (by decide +kernel), (by decide +kernel), (by decide +kernel),
    (by decide +kernel), (by decide +kernel), (by decide +kernel)⟩

theorem witness_switch_egress_and_links_4 :
    (∃ (s : State) (ch : Chan) (b : BuiltFrame),
      (chanOf s ch).pub.waiting = [b] ∧ (chanOf s ch).pub.cuff = false ∧ (chanOf s ch).seam.holdCtl = false ∧ (chanOf s ch).seam.presence = 2 ∧
      (chanOf s ch).seam.store.length < 4096) :=
  ⟨on (withPub stb (fun x => { x with waiting := [built] })), .a, built, (by decide +kernel), (by decide +kernel), (by decide +kernel),
    (by decide +kernel), (by decide +kernel)⟩

theorem witness_switch_egress_and_links_5 :
    (∃ (s : State) (ch : Chan) (b : BuiltFrame),
      (chanOf s ch).pub.waiting = [b] ∧ (chanOf s ch).pub.cuff = true ∧ holdsForFinal (chanOf s ch) = true) :=
  ⟨on (withPub (withSeam act (fun x => { x with takeover := some { hold with opened := true } })) (fun x => { x with cuff := true, waiting := [built] })),
    .a, built, (by decide +kernel), (by decide +kernel), (by decide +kernel)⟩

theorem witness_switch_egress_and_links_6 :
    (∃ (s : State) (ch : Chan) (b : BuiltFrame),
      (chanOf s ch).pub.waiting = [b] ∧ (chanOf s ch).pub.cuff = true ∧ holdsForFinal (chanOf s ch) = false) :=
  ⟨on (withPub act (fun x => { x with cuff := true, waiting := [built] })), .a, built, (by decide +kernel), (by decide +kernel), (by decide +kernel)⟩

theorem witness_switch_egress_and_links_7 :
    (∃ (s : State) (ch : Chan) (p : Nat),
      1 ≤ p ∧ p ≤ 12 ∧ linkUp (chanOf s ch) p = true ∧ entryNat (chanOf s ch) 0x2A20 p (if p ≤ 8 then 0 else 1) = 1) :=
  ⟨on (withEntry com 0x2A20 12 1), .a, 12, (by decide +kernel), (by decide +kernel), (by decide +kernel), (by decide +kernel)⟩

theorem witness_switch_egress_and_links_8 :
    (∃ (s : State) (ch : Chan) (p : Nat),
      1 ≤ p ∧ p ≤ 12 ∧ linkUp (chanOf s ch) p = true ∧ entryNat (chanOf s ch) 0x2A20 p (if p ≤ 8 then 0 else 1) ≠ 1) :=
  ⟨on com, .a, 1, (by decide +kernel), (by decide +kernel), (by decide +kernel), (by decide +kernel)⟩

theorem witness_switch_egress_and_links_9 :
    (∃ (s : State) (ch : Chan) (p : Nat),
      (portGet (chanOf s ch) p).pausedAt < (portGet (chanOf s ch) p).pausedTo) :=
  ⟨on (withPort com 1 (fun x => { x with pausedTo := 5 })), .a, 1, (by decide +kernel)⟩

theorem witness_switch_egress_and_links_10 :
    (∃ (s : State) (ch : Chan) (p : Nat),
      1 ≤ p ∧ p ≤ 12 ∧ (portGet (chanOf s ch) p).up = true) :=
  ⟨on com, .a, 12, (by decide +kernel), (by decide +kernel), (by decide +kernel)⟩

theorem witness_switch_egress_and_links_11 :
    (∃ (s : State) (ch : Chan) (p : Nat),
      1 ≤ p ∧ p ≤ 12 ∧ (chanOf s ch).boot.powered = true ∧ (portGet (chanOf s ch) p).up = false) :=
  ⟨on (withPort com 12 (fun x => { x with up := false })), .a, 12, (by decide +kernel), (by decide +kernel), (by decide +kernel), (by decide +kernel)⟩

theorem witness_switch_egress_and_links_12 :
    (∃ (s : State) (ch : Chan) (p : Nat),
      (portGet (chanOf s ch) p).preempt = 1) :=
  ⟨on (withPort com 1 (fun x => { x with preempt := 1 })), .a, 1, (by decide +kernel)⟩

/-! ### switch_tables -/

theorem witness_switch_tables_1 :
    (∃ (s : State) (ch : Chan) (g : Nat) (r : GroupRec),
      kGet (chanOf s ch).sw.cfg.groups g = some r) :=
  ⟨on (withGroup com { groupNone with nodes := [] }), .a, 1, group, rfl⟩

theorem witness_switch_tables_2 :
    (∃ (s : State) (ch : Chan) (g : Nat) (r : GroupRec) (mac : BitVec 48) (n : BitVec 48 × List (BitVec 48) × Nat),
      kGet (chanOf s ch).sw.cfg.groups g = some r ∧ n ∈ (groupSt (chanOf s ch) g).nodes ∧ n.1 = mac) :=
  ⟨on (withGroup com { groupNone with nodes := [(5, [], 0)] }), .a, 1, group, 5, (5, [], 0), rfl, (by decide +kernel), (by decide +kernel)⟩

theorem witness_switch_tables_3 :
    (∃ (s : State) (ch : Chan) (g : Nat) (r : GroupRec) (mac : BitVec 48) (seq : Nat) (e : DupEntry),
      kGet (chanOf s ch).sw.cfg.groups g = some r ∧ (groupSt (chanOf s ch) g).delivered = [e] ∧ (groupSt (chanOf s ch) g).ringSent = [] ∧ e.mac = mac ∧
      e.seq = seq) :=
  ⟨on (withGroup com { groupNone with delivered := [⟨5, 7, 0, 1⟩] }), .a, 1, group, 5, 7, ⟨5, 7, 0, 1⟩, rfl, (by decide +kernel), (by decide +kernel),
    (by decide +kernel), (by decide +kernel)⟩

theorem witness_switch_tables_4 :
    (∃ (s : State) (ch : Chan) (mac : BitVec 48) (vid : Nat) (l : Learned),
      (chanOf s ch).sw.learned.find? (fun l => l.mac == mac && l.vid == vid) = some l) :=
  ⟨on (withSw com (fun x => { x with learned := [⟨5, 1, 1, 0⟩] })), .a, 5, 1, ⟨5, 1, 1, 0⟩, (by decide +kernel)⟩

/-! ### sampled_value_ingest -/

theorem witness_sampled_value_ingest_1 :
    (∃ (s : State) (ch : Chan) (f : RingFrame) (rest : List RingFrame) (x : Stream) (a : Asdu) (k : Nat) (d : Int) (app : Nat),
      (chanOf s ch).ingest.f96 = f :: rest ∧ kGet (chanOf s ch).ingest.streams f.stream = some x ∧ x.st ≠ .inactive ∧
      f.frame.body = .sv app false true [a] ∧ f.part = 0 ∧ f.held = false ∧ f.anyWritten = false ∧
      frameCause (chanOf s ch) x false true f.frame.src [a] = none ∧ asduFate (chanOf s ch) f.stream x f.arrival a = .write k d ∧ k = openSlot x) :=
  ⟨on (withTime (withIngest com (fun x => { x with f96 := [ringFrame] })) (fun x => { x with firstLocked := true })), .a, ringFrame, [], stream .valid,
    asdu, 0, 0, 0x4000, (by decide +kernel), rfl, (by decide +kernel), (by decide +kernel), (by decide +kernel), (by decide +kernel), (by decide +kernel),
    (by decide +kernel), (by decide +kernel), (by decide +kernel)⟩

theorem witness_sampled_value_ingest_2 :
    (∃ (s : State) (ch : Chan) (f : RingFrame) (rest : List RingFrame) (x : Stream) (a : Asdu) (app : Nat) (sim : Bool),
      (chanOf s ch).ingest.f96 = f :: rest ∧ kGet (chanOf s ch).ingest.streams f.stream = some x ∧ f.frame.body = .sv app sim true [a] ∧ f.part = 0 ∧
      f.held = false ∧ (chanOf s ch).time.firstLocked = false) :=
  ⟨on (withIngest (withStream com (stream .inactive)) (fun x => { x with f96 := [ringFrame] })), .a, ringFrame, [], stream .inactive, asdu, 0x4000,
  false, (by decide +kernel), rfl, (by decide +kernel), (by decide +kernel), (by decide +kernel), (by decide +kernel)⟩

theorem witness_sampled_value_ingest_3 :
    (∃ (s : State) (ch : Chan) (n : Nat) (x : Stream),
      kGet (chanOf s ch).ingest.streams n = some x ∧ x.st = .valid ∧ x.closed = [] ∧ x.missRun + 1 < lossCount x) :=
  ⟨on com, .a, 0, stream .valid, rfl, (by decide +kernel), (by decide +kernel), (by decide +kernel)⟩

theorem witness_sampled_value_ingest_4 :
    (∃ (s : State) (ch : Chan) (n : Nat) (x : Stream),
      kGet (chanOf s ch).ingest.streams n = some x ∧ x.st = .valid ∧ x.closed = [] ∧ lossCount x ≤ x.missRun + 1) :=
  ⟨on (withStream com { stream .valid with missRun := 2 }), .a, 0, { stream .valid with missRun := 2 }, rfl, (by decide +kernel), (by decide +kernel),
    (by decide +kernel)⟩

theorem witness_sampled_value_ingest_5 :
    (∃ (s : State) (ch : Chan) (n : Nat) (x : Stream),
      kGet (chanOf s ch).ingest.streams n = some x ∧ x.st = .returning ∧ x.closed = []) :=
  ⟨on (withStream com (stream .returning)), .a, 0, stream .returning, rfl, (by decide +kernel), (by decide +kernel)⟩

theorem witness_sampled_value_ingest_6 :
    (∃ (s : State) (ch : Chan) (n : Nat) (x : Stream) (k : Nat) (b : Bool),
      kGet (chanOf s ch).ingest.streams n = some x ∧ x.closed = [(k, b)] ∧ slotRoom (chanOf s ch) n k x = true) :=
  ⟨on (withStream com { stream .valid with closed := [(0, false)] }), .a, 0, { stream .valid with closed := [(0, false)] }, 0, false, rfl,
    (by decide +kernel), (by decide +kernel)⟩

theorem witness_sampled_value_ingest_7 :
    (∃ (s : State) (ch : Chan) (n : Nat) (x : Stream) (a : Nat) (l : Nat) (r : Nat),
      kGet (chanOf s ch).ingest.streams n = some x ∧ x.pend = some (a, l, r) ∧ ((a ≠ x.allowUs ∨ l ≠ x.loss ∨ r ≠ x.ret))) :=
  ⟨on (withStream com { stream .valid with pend := some (1, 3, 3) }), .a, 0, { stream .valid with pend := some (1, 3, 3) }, 1, 3, 3, rfl,
    (by decide +kernel), (by decide +kernel)⟩

theorem witness_sampled_value_ingest_8 :
    (∃ (s : State) (ch : Chan) (n : Nat) (x : Stream) (a : Nat) (l : Nat) (r : Nat),
      kGet (chanOf s ch).ingest.streams n = some x ∧ x.pend = some (a, l, r) ∧ a = x.allowUs ∧ l = x.loss ∧ r = x.ret) :=
  ⟨on (withStream com { stream .valid with pend := some (1000, 3, 3) }), .a, 0, { stream .valid with pend := some (1000, 3, 3) }, 1000, 3, 3, rfl,
  (by decide +kernel), (by decide +kernel), (by decide +kernel), (by decide +kernel)⟩

/-! ### conditioning_and_boundaries -/

theorem witness_conditioning_and_boundaries_1 :
    (∃ (s : State) (ch : Chan) (p : Nat) (x : CPath) (st : Stream) (z : SampleSlot) (rest : List SampleSlot),
      kGet (chanOf s ch).paths p = some x ∧ x.pend = none ∧ kGet (chanOf s ch).ingest.streams x.cfg.stream = some st ∧ slotsLeft st x = z :: rest ∧
      (engineNext (commitsEnded (chanOf s ch))).map (fun j => j.2.2) = some p) :=
  ⟨on (withStream com { stream .valid with ring := [sampleSlot] }), .a, 0, path, { stream .valid with ring := [sampleSlot] }, sampleSlot, [], rfl,
  (by decide +kernel), rfl, (by decide +kernel), (by decide +kernel)⟩

theorem witness_conditioning_and_boundaries_2 :
    (∃ (s : State) (ch : Chan) (p : Nat) (x : CPath) (r : PathRec) (st : Stream),
      kGet (chanOf s ch).paths p = some x ∧ x.pend = some r ∧ kGet (chanOf s ch).ingest.streams x.cfg.stream = some st ∧ changeDue st x = true) :=
  ⟨on (withPath com { path with pend := some path.cfg }), .a, 0, { path with pend := some path.cfg }, path.cfg, stream .valid, rfl,
  (by decide +kernel), rfl, (by decide +kernel)⟩

theorem witness_conditioning_and_boundaries_3 :
    (∃ (s : State) (ch : Chan) (i : Nat) (sub : Nat) (w : PendingWrite),
      (chanOf s ch).dict.pendingW = [w] ∧ w.key = od i sub) :=
  ⟨on { com with dict := { dictReset with pendingW := [⟨od 0x2000 1, [0], 0⟩] } }, .a, 0x2000, 1, ⟨od 0x2000 1, [0], 0⟩, (by decide +kernel),
    (by decide +kernel)⟩

theorem witness_conditioning_and_boundaries_4 :
    (∃ (s : State) (ch : Chan) (cls : Nat),
      counterRuns (chanOf s ch) = true ∧ cls ≤ 4 ∧ kGet (chanOf s ch).time.lastBoundary cls = none) :=
  ⟨on com, .a, 4, (by decide +kernel), (by decide +kernel), rfl⟩

theorem witness_conditioning_and_boundaries_5 :
    (∃ (s : State) (ch : Chan) (cls : Nat) (b : Nat),
      counterRuns (chanOf s ch) = true ∧ cls ≤ 4 ∧ kGet (chanOf s ch).time.lastBoundary cls = some b) :=
  ⟨on (withTime com (fun x => { x with lastBoundary := [(0, 5)] })), .a, 0, 5, (by decide +kernel), (by decide +kernel), rfl⟩

/-! ### firing_release -/

theorem witness_firing_release_1 :
    (∃ (s : State) (ch : Chan) (n : Nat) (i : Nat) (t : Nat) (g : GraphRt) (r : InstRec) (x : InstRt),
      ReleaseReady s ch n i t g r x ∧ fenceFor (chanOf s ch) n i t = none ∧ entryFree (chanOf s ch) (levelOf r) = true ∧
      ((opRule r.op ≠ 0 ∨ (takenTokens (chanOf s ch) (trimAll g) i r t).any (fun k => tokBad k.2.2) = false))) :=
  ⟨on (com), .a, 63, 0, 0, graph (inst 0x0304 4 []) (rt .waiting), inst 0x0304 4 [], rt .waiting,
    (by refine ⟨rfl, rfl, rfl, rfl, ?_, ?_, ?_, ?_⟩ <;> decide +kernel), (by decide +kernel), (by decide +kernel), (by decide +kernel)⟩

theorem witness_firing_release_2 :
    (∃ (s : State) (ch : Chan) (n : Nat) (i : Nat) (t : Nat) (g : GraphRt) (r : InstRec) (x : InstRt),
      ReleaseReady s ch n i t g r x ∧ fenceFor (chanOf s ch) n i t = none ∧ entryFree (chanOf s ch) (levelOf r) = false ∧
      ((opRule r.op ≠ 0 ∨ (takenTokens (chanOf s ch) (trimAll g) i r t).any (fun k => tokBad k.2.2) = false))) :=
  ⟨on (withDisp com (fun x => { x with resv := [4096, 0, 0, 0, 0, 0, 0, 0] })), .a, 63, 0, 0, graph (inst 0x0304 4 []) (rt .waiting), inst 0x0304 4 [],
    rt .waiting, (by refine ⟨rfl, rfl, rfl, rfl, ?_, ?_, ?_, ?_⟩ <;> decide +kernel), (by decide +kernel), (by decide +kernel), (by decide +kernel)⟩

theorem witness_firing_release_3 :
    (∃ (s : State) (ch : Chan) (n : Nat) (i : Nat) (t : Nat) (g : GraphRt) (r : InstRec) (x : InstRt) (f : Fence),
      ReleaseReady s ch n i t g r x ∧ fenceFor (chanOf s ch) n i t = some f) :=
  ⟨on (withDisp com (fun x => { x with fences := [⟨false, 63, 0, 0, 0⟩] })), .a, 63, 0, 0, graph (inst 0x0304 4 []) (rt .waiting), inst 0x0304 4 [],
    rt .waiting, ⟨false, 63, 0, 0, 0⟩, (by refine ⟨rfl, rfl, rfl, rfl, ?_, ?_, ?_, ?_⟩ <;> decide +kernel), (by decide +kernel)⟩

theorem witness_firing_release_4 :
    (∃ (s : State) (ch : Chan) (n : Nat) (i : Nat) (t : Nat) (g : GraphRt) (r : InstRec) (x : InstRt),
      ReleaseReady s ch n i t g r x ∧ fenceFor (chanOf s ch) n i t = none ∧ opRule r.op = 0 ∧
      (takenTokens (chanOf s ch) (trimAll g) i r t).any (fun k => tokBad k.2.2) = true) :=
  ⟨on ({ com with graphs := [(63, triggered 1#32)] }), .a, 63, 0, 0, triggered 1#32, trigger, rt .waiting,
    (by refine ⟨rfl, rfl, rfl, rfl, ?_, ?_, ?_, ?_⟩ <;> decide +kernel), (by decide +kernel), (by decide +kernel), (by decide +kernel)⟩

theorem witness_firing_release_5 :
    (∃ (s : State) (ch : Chan) (l : Nat) (n : Nat) (i : Nat) (r : InstRec) (x : InstRt) (g : GraphRt ),
      firstEntry (instsIn (chanOf s ch) (isHeld l)) = some (n, i, r, x) ∧ kGet (chanOf s ch).graphs n = some g ∧
      inUse (chanOf s ch) l < nth (chanOf s ch).disp.resv l 0 ∧ fenceFor (chanOf s ch) n i x.instant = none) :=
  ⟨on (withInst com (inst 0x0304 4 []) (rt .held)), .a, 4, 63, 0, inst 0x0304 4 [], rt .held, graph (inst 0x0304 4 []) (rt .held), (by decide +kernel),
    rfl, (by decide +kernel), (by decide +kernel)⟩

/-! ### dispatch_and_ticks -/

theorem witness_dispatch_and_ticks_1 :
    (∃ (s : State) (ch : Chan) (k : Nat) (tl : Tile) (n : Nat) (i : Nat) (r : InstRec) (x : InstRt) (y : InstRt) (g : GraphRt),
      kGet (chanOf s ch).disp.tiles k = some tl ∧ tl.role ≠ .failed ∧ tl.stack = [] ∧
      firstEntry (instsIn (chanOf s ch) (fun _ x => x.fs == .ready && x.tile == k)) = some (n, i, r, x) ∧ kGet (chanOf s ch).graphs n = some g ∧
      kGet g.insts i = some y) :=
  ⟨on (withInst com (inst 0x0304 4 []) (rt .ready)), .a, 0, tileOf com 0, 63, 0, inst 0x0304 4 [], rt .ready, rt .ready,
    graph (inst 0x0304 4 []) (rt .ready), rfl, (by decide +kernel), (by decide +kernel), (by decide +kernel), rfl, rfl⟩

theorem witness_dispatch_and_ticks_2 :
    (∃ (s : State) (ch : Chan) (k : Nat) (tl : Tile) (n : Nat) (i : Nat) (r : InstRec) (x : InstRt) (m : Nat) (j : Nat) (q : Nat),
      kGet (chanOf s ch).disp.tiles k = some tl ∧ tl.role ≠ .failed ∧ firstEntry (instsIn (chanOf s ch) (fun _ x => x.fs == .ready && x.tile == k)) =
      some (n, i, r, x) ∧ topLevel (chanOf s ch) tl = some (q, m, j) ∧ levelOf r < q ∧ (m, j) ≠ (n, i) ∧ topRuns (chanOf s ch) m j = true) :=
  ⟨on (tiles [(0, ⟨.placeable, [(63, 1)]⟩)] { com with graphs := [(63, two .ready .running)] }), .a, 0, ⟨.placeable, [(63, 1)]⟩, 63, 0, inst 0x0304 3
  [], rt .ready, 63, 1, 4, rfl, (by decide +kernel), (by decide +kernel), (by decide +kernel), (by decide +kernel), (by decide +kernel),
  (by decide +kernel)⟩

theorem witness_dispatch_and_ticks_3 :
    (∃ (s : State) (ch : Chan) (k : Nat) (tl : Tile) (n : Nat) (i : Nat) (r : InstRec) (x : InstRt) (m : Nat) (j : Nat) (q : Nat),
      kGet (chanOf s ch).disp.tiles k = some tl ∧ tl.role ≠ .failed ∧ firstEntry (instsIn (chanOf s ch) (fun _ x => x.fs == .ready && x.tile == k)) =
      some (n, i, r, x) ∧ topLevel (chanOf s ch) tl = some (q, m, j) ∧ levelOf r < q ∧ (m, j) ≠ (n, i) ∧ topRuns (chanOf s ch) m j = false) :=
  ⟨on (tiles [(0, ⟨.placeable, [(63, 1)]⟩)] { com with graphs := [(63, two .ready .preempted)] }), .a, 0, ⟨.placeable, [(63, 1)]⟩, 63, 0, inst 0x0304
  3 [], rt .ready, 63, 1, 4, rfl, (by decide +kernel), (by decide +kernel), (by decide +kernel), (by decide +kernel), (by decide +kernel),
  (by decide +kernel)⟩

theorem witness_dispatch_and_ticks_4 :
    (∃ (s : State) (ch : Chan) (k : Nat) (tl : Tile) (n : Nat) (i : Nat) (r : InstRec) (x : InstRt) (q : Nat × Nat × Nat),
      kGet (chanOf s ch).disp.tiles k = some tl ∧ firstEntry (instsIn (chanOf s ch) (fun _ x => x.fs == .ready && x.tile == k)) = some (n, i, r, x) ∧
      topLevel (chanOf s ch) tl = some q ∧ q.1 ≤ levelOf r) :=
  ⟨on (tiles [(0, ⟨.placeable, [(63, 0)]⟩)] { com with graphs := [(63, two .running .ready)] }), .a, 0, ⟨.placeable, [(63, 0)]⟩, 63, 1, inst 0x0304 4
  [], rt .ready, (3, 63, 0), rfl, (by decide +kernel), (by decide +kernel), (by decide +kernel)⟩

theorem witness_dispatch_and_ticks_5 :
    (∃ (s : State) (ch : Chan) (k : Nat) (tl : Tile) (l : Nat) (n : Nat) (i : Nat) (y : InstRt),
      kGet (chanOf s ch).disp.tiles k = some tl ∧ topLevel (chanOf s ch) tl = some (l, n, i) ∧ instsIn (chanOf s ch) (fun r x => x.fs == .ready &&
      x.tile == k && decide (levelOf r < l)) = [] ∧ instAt (chanOf s ch) n i = some y ∧ y.fs = .preempted) :=
  ⟨on (tiles [(0, ⟨.placeable, [(63, 0)]⟩)] (withInst com (inst 0x0304 4 []) (rt .preempted))), .a, 0, ⟨.placeable, [(63, 0)]⟩, 4, 63, 0, rt
  .preempted, rfl, (by decide +kernel), (by decide +kernel), (by decide +kernel), (by decide +kernel)⟩

theorem witness_dispatch_and_ticks_6 :
    (∃ (s : State) (ch : Chan) (n : Nat) (i : Nat) (g : GraphRt) (r : InstRec) (x : InstRt) (tl : Tile) (k : Nat),
      kGet (chanOf s ch).graphs n = some g ∧ instOf g i = some (r, x) ∧ (x.fs = .running ∨ x.fs = .preempted) ∧ kWf (chanOf s ch).disp.tiles = true ∧
      kGet (chanOf s ch).disp.tiles x.tile = some tl ∧ tl.role = .placeable ∧ firstSpare (chanOf s ch) = some k ∧ placerQuiet s) :=
  ⟨on (tiles [(0, ⟨.placeable, [(63, 0)]⟩), (1, ⟨.spare, []⟩)] (withInst com (inst 0x0304 4 []) (rt .running))), .a, 63, 0, graph (inst 0x0304 4 [])
  (rt .running), inst 0x0304 4 [], rt .running, ⟨.placeable, [(63, 0)]⟩, 1, rfl, (by decide +kernel), (by decide +kernel), (by decide +kernel), rfl,
  (by decide +kernel), (by decide +kernel), (by refine ⟨?_, ?_⟩ <;> decide +kernel)⟩

theorem witness_dispatch_and_ticks_7 :
    (∃ (s : State) (ch : Chan) (n : Nat) (i : Nat) (g : GraphRt) (r : InstRec) (x : InstRt) (tl : Tile),
      kGet (chanOf s ch).graphs n = some g ∧ instOf g i = some (r, x) ∧ (x.fs = .running ∨ x.fs = .preempted) ∧ kGet (chanOf s ch).disp.tiles x.tile =
      some tl ∧ tl.role = .placeable ∧ (∀ y ∈ (chanOf s ch).disp.tiles, y.2.role ≠ .spare) ∧ graphMode (chanOf s ch).boot.mode = true ∧ placerQuiet s)
      :=
  ⟨on (tiles [(0, ⟨.placeable, [(63, 0)]⟩)] (withInst com (inst 0x0304 4 []) (rt .running))), .a, 63, 0, graph (inst 0x0304 4 []) (rt .running), inst
  0x0304 4 [], rt .running, ⟨.placeable, [(63, 0)]⟩, rfl, (by decide +kernel), (by decide +kernel), rfl, (by decide +kernel), (by decide +kernel),
  (by decide +kernel), (by refine ⟨?_, ?_⟩ <;> decide +kernel)⟩

theorem witness_dispatch_and_ticks_8 :
    (∃ (s : State) (ch : Chan),
      (chanOf s ch).boot.graphsRun = true ∧ (chanOf s ch).disp.delay = []) :=
  ⟨on com, .a, (by decide +kernel), (by decide +kernel)⟩

theorem witness_dispatch_and_ticks_9 :
    (∃ (s : State) (ch : Chan) (g : Nat) (p : GPub) (e : DelayEntry),
      (chanOf s ch).disp.delay = [e] ∧ e.kind = .retx g ∧ kGet (chanOf s ch).pub.gpubs g = some p ∧ tickCount (tickTo e.due (commitsEnded (chanOf s
      ch))) < 624) :=
  ⟨on (withDisp com (fun x => { x with delay := [⟨.retx 0, 0, false⟩] })), .a, 0, gpub, ⟨.retx 0, 0, false⟩, (by decide +kernel), (by decide +kernel),
  rfl, (by decide +kernel)⟩

theorem witness_dispatch_and_ticks_10 :
    (∃ (s : State) (ch : Chan) (n : Nat) (i : Nat) (e : DelayEntry) (g : GraphRt) (r : InstRec) (x : InstRt),
      (chanOf s ch).disp.delay = [e] ∧ e.kind = .horizon n i ∧ kGet (chanOf s ch).graphs n = some g ∧ instOf g i = some (r, x) ∧ x.fs ≠ .waiting ∧
      tickCount (tickTo e.due (commitsEnded (chanOf s ch))) < 625) :=
  ⟨on (withDisp (withInst com (inst 0x0304 4 []) (rt .running)) (fun x => { x with delay := [⟨.horizon 63 0, 0, false⟩] })), .a, 63, 0, ⟨.horizon 63
  0, 0, false⟩, graph (inst 0x0304 4 []) (rt .running), inst 0x0304 4 [], rt .running, (by decide +kernel), (by decide +kernel), rfl,
  (by decide +kernel), (by decide +kernel), (by decide +kernel)⟩

theorem witness_dispatch_and_ticks_11 :
    (∃ (s : State) (ch : Chan) (n : Nat) (i : Nat) (rest : List (Nat × Nat)),
      (chanOf s ch).disp.parked = (n, i) :: rest ∧ (instsIn (chanOf s ch) (fun _ x => x.fs == .waiting)).any (fun x => x.1 == n && x.2.1 == i) =
      false) :=
  ⟨on (withDisp (withInst com (inst 0x0304 4 []) (rt .running)) (fun x => { x with parked := [(63, 0)] })), .a, 63, 0, [], (by decide +kernel),
  (by decide +kernel)⟩

theorem witness_dispatch_and_ticks_12 :
    (∃ (s : State) (ch : Chan) (n : Nat) (i : Nat) (rest : List (Nat × Nat)),
      (chanOf s ch).disp.parked = (n, i) :: rest ∧ (instsIn (chanOf s ch) (fun _ x => x.fs == .waiting)).any (fun x => x.1 == n && x.2.1 == i) = true)
      :=
  ⟨on (withDisp (withInst com (inst 0x0304 4 []) (rt .waiting)) (fun x => { x with parked := [(63, 0)] })), .a, 63, 0, [], (by decide +kernel),
  (by decide +kernel)⟩

/-! ### operators_complete: an instance of any operator code, running; one that waits -/

theorem witness_operator_runs (op : Nat) : ∃ (s : State) (ch : Chan) (n i : Nat) (g : GraphRt) (r : InstRec) (x : InstRt),
    kGet (chanOf s ch).graphs n = some g ∧ instOf g i = some (r, x) ∧ r.op = op ∧ x.fs = .running :=
  ⟨on (withInst com (inst op 4 []) (rt .running)), .a, 63, 0, graph (inst op 4 []) (rt .running), inst op 4 [], rt .running, rfl, rfl, rfl, rfl⟩

theorem witness_operator_idle (op : Nat) : ∃ (s : State) (ch : Chan) (n i : Nat) (g : GraphRt) (r : InstRec) (x : InstRt),
    kGet (chanOf s ch).graphs n = some g ∧ instOf g i = some (r, x) ∧ (r.op ≠ op ∨ x.fs ≠ .running) :=
  ⟨on (withInst com (inst op 4 []) (rt .waiting)), .a, 63, 0, graph (inst op 4 []) (rt .waiting), inst op 4 [], rt .waiting, rfl, rfl,
    Or.inr (by decide)⟩

/-! ### publication_and_subscription -/

theorem witness_publication_and_subscription_1 :
    (∃ (s : State) (ch : Chan) (g : Nat) (p : GPub),
      kGet (chanOf s ch).pub.gpubs g = some p ∧ p.first = false ∧ sleeveRuns (chanOf s ch) p.cfg.owner = true ∧ (chanOf s ch).boot.graphsRun = true ∧
      (chanOf s ch).disp.delay = []) :=
  ⟨on com, .a, 0, gpub, rfl, (by decide +kernel), (by decide +kernel), (by decide +kernel), (by decide +kernel)⟩

theorem witness_publication_and_subscription_2 :
    (∃ (s : State) (ch : Chan) (j : PubJob) (p : GPub),
      (chanOf s ch).pub.jobs = [j] ∧ j.sv = false ∧ kGet (chanOf s ch).pub.gpubs j.num = some p ∧ p.cfg.alg = 0 ∧ j.behaviour ≠ 5 ∧
      sleeveFrozen (chanOf s ch) p.cfg.owner = false ∧ (chanOf s ch).pub.cuff = true) :=
  ⟨on (withPub com (fun x => { x with jobs := [job 1], cuff := true })), .a, job 1, gpub, (by decide +kernel), (by decide +kernel), rfl,
    (by decide +kernel), (by decide +kernel), (by decide +kernel), (by decide +kernel)⟩

theorem witness_publication_and_subscription_3 :
    (∃ (s : State) (ch : Chan) (j : PubJob) (p : GPub),
      (chanOf s ch).pub.jobs = [j] ∧ j.sv = false ∧ kGet (chanOf s ch).pub.gpubs j.num = some p ∧ p.cfg.alg = 0 ∧ j.behaviour = 5) :=
  ⟨on (withPub com (fun x => { x with jobs := [job 5] })), .a, job 5, gpub, (by decide +kernel), (by decide +kernel), rfl, (by decide +kernel),
    (by decide +kernel)⟩

theorem witness_publication_and_subscription_4 :
    (∃ (s : State) (ch : Chan) (j : PubJob) (p : GPub),
      (chanOf s ch).pub.jobs = [j] ∧ j.sv = false ∧ kGet (chanOf s ch).pub.gpubs j.num = some p ∧ p.cfg.alg = 0 ∧ j.behaviour ≠ 5 ∧
      sleeveFrozen (chanOf s ch) p.cfg.owner = false ∧ (chanOf s ch).pub.cuff = false) :=
  ⟨on (withPub com (fun x => { x with jobs := [job 1] })), .a, job 1, gpub, (by decide +kernel), (by decide +kernel), rfl, (by decide +kernel),
    (by decide +kernel), (by decide +kernel), (by decide +kernel)⟩

theorem witness_publication_and_subscription_5 :
    (∃ (s : State) (ch : Chan) (g : Nat) (p : SPub),
      kGet (chanOf s ch).pub.spubs g = some p ∧ (chanOf s ch).boot.graphsRun = true ∧ p.cfg.rate ≠ 0 ∧ p.sentUpTo ≠ 0) :=
  ⟨on com, .a, 0, spub, rfl, (by decide +kernel), (by decide +kernel), (by decide +kernel)⟩

theorem witness_publication_and_subscription_6 :
    (∃ (s : State) (ch : Chan) (n : Nat) (m : GooseMsg) (x : GSub),
      (chanOf s ch).ingest.goose = [(n, m)] ∧ kGet (chanOf s ch).pub.subs n = some x ∧ (chanOf s ch).boot.graphsRun = true ∧ gooseFormatOk x.cfg m = true ∧
      m.confRev = x.cfg.confRev ∧ gooseTestOk (chanOf s ch) x m = true ∧ x.prev = [] ∧ x.stNum = none) :=
  ⟨on (withIngest com (fun x => { x with goose := [(0, goose)] })), .a, 0, goose, sub, (by decide +kernel), rfl, (by decide +kernel),
    (by decide +kernel), (by decide +kernel), (by decide +kernel), (by decide +kernel), (by decide +kernel)⟩

theorem witness_publication_and_subscription_7 :
    (∃ (s : State) (ch : Chan) (n : Nat) (m : GooseMsg) (x : GSub),
      (chanOf s ch).ingest.goose = [(n, m)] ∧ kGet (chanOf s ch).pub.subs n = some x ∧ (chanOf s ch).boot.graphsRun = true ∧
      ((gooseFormatOk x.cfg m = false ∨ m.confRev ≠ x.cfg.confRev)) ∧ x.waiting = none) :=
  ⟨on (withIngest com (fun x => { x with goose := [(0, { goose with confRev := 2 })] })), .a, 0, { goose with confRev := 2 }, sub, (by decide +kernel),
    rfl, (by decide +kernel), (by decide +kernel), (by decide +kernel)⟩

theorem witness_publication_and_subscription_8 :
    (∃ (s : State) (ch : Chan) (n : Nat) (x : GSub) (t0 : Nat),
      kGet (chanOf s ch).pub.subs n = some x ∧ x.st = .valid ∧ x.talAt = some t0) :=
  ⟨on (withPub com (fun x => { x with subs := [(0, { sub with st := .valid, talAt := some 0 })] })), .a, 0, { sub with st := .valid, talAt := some 0 },
    0, rfl, (by decide +kernel), (by decide +kernel)⟩

theorem witness_publication_and_subscription_9 :
    (∃ (s : State) (ch : Chan) (n : Nat) (x : GSub) (st : GState) (g : GraphRt),
      kGet (chanOf s ch).pub.subs n = some x ∧ x.waiting = some st ∧ kGet (chanOf s ch).graphs x.cfg.owner = some g ∧
      (gooseBindings g n).all (fun b => sourceRoom g b.1) = true) :=
  ⟨on (withPub { com with graphs := [(63, bound [])] } (fun x => { x with subs := [(0, { sub with waiting := some gstate })] })), .a, 0,
    { sub with waiting := some gstate }, gstate, bound [], rfl, (by decide +kernel), rfl, (by decide +kernel)⟩

theorem witness_publication_and_subscription_10 :
    (∃ (s : State) (ch : Chan) (n : Nat) (x : GSub) (st : GState) (g : GraphRt),
      kGet (chanOf s ch).pub.subs n = some x ∧ x.waiting = some st ∧ kGet (chanOf s ch).graphs x.cfg.owner = some g ∧
      (gooseBindings g n).all (fun b => sourceRoom g b.1) = false) :=
  ⟨on (withPub { com with graphs := [(63, bound [token 0, token 0])] } (fun x => { x with subs := [(0, { sub with waiting := some gstate })] })), .a, 0,
    { sub with waiting := some gstate }, gstate, bound [token 0, token 0], rfl, (by decide +kernel), rfl, (by decide +kernel)⟩

/-! ### lse_cycles -/

theorem witness_lse_cycles_1 :
    (∃ (s : State) (ch : Chan) (n : Nat) (a : Nat) (L : Lse),
      kGet (chanOf s ch).lse n = some L ∧ scanFirst (chanOf s ch) n L = true ∧ nth L.prog.code L.r.ip 0 = BitVec.ofNat 32 (0x4F * 16777216 + a)) :=
  ⟨on (withLse com (coded 0x4F 0)), .a, 63, 0, coded 0x4F 0, rfl, (by decide +kernel), (by decide +kernel)⟩

theorem witness_lse_cycles_2 :
    (∃ (s : State) (ch : Chan) (n : Nat) (L : Lse),
      lseLive (chanOf s ch) = [(n, L)] ∧ L.st = .running ∧ L.r.ended = true) :=
  ⟨on (withLse com (ended .running)), .a, 63, ended .running, (by decide +kernel), (by decide +kernel), (by decide +kernel)⟩

theorem witness_lse_cycles_3 :
    (∃ (s : State) (ch : Chan) (n : Nat) (L : Lse),
      lseLive (chanOf s ch) = [(n, L)] ∧ ((L.st = .running ∨ L.st = .overrun)) ∧ L.r.ended = false ∧ L.overruns < L.allow) :=
  ⟨on (withLse com { lse .overrun with overruns := 2 }), .a, 63, { lse .overrun with overruns := 2 }, (by decide +kernel), (by decide +kernel),
    (by decide +kernel), (by decide +kernel)⟩

theorem witness_lse_cycles_4 :
    (∃ (s : State) (ch : Chan) (n : Nat) (L : Lse),
      lseLive (chanOf s ch) = [(n, L)] ∧ ((L.st = .running ∨ L.st = .overrun)) ∧ L.r.ended = false ∧ L.allow ≤ L.overruns) :=
  ⟨on (withLse com { lse .overrun with overruns := 3 }), .a, 63, { lse .overrun with overruns := 3 }, (by decide +kernel), (by decide +kernel),
    (by decide +kernel), (by decide +kernel)⟩

theorem witness_lse_cycles_5 :
    (∃ (s : State) (ch : Chan) (n : Nat) (L : Lse),
      lseLive (chanOf s ch) = [(n, L)] ∧ L.st = .stopped) :=
  ⟨on (withLse com (lse .stopped)), .a, 63, lse .stopped, (by decide +kernel), (by decide +kernel)⟩

theorem witness_lse_cycles_6 :
    (∃ (s : State) (ch : Chan) (n : Nat) (L : Lse),
      lseLive (chanOf s ch) = [(n, L)] ∧ L.st = .faulted ∧ L.swap = none ∧ L.restartPend = false) :=
  ⟨on (withLse com (lse .faulted)), .a, 63, lse .faulted, (by decide +kernel), (by decide +kernel), (by decide +kernel), (by decide +kernel)⟩

theorem witness_lse_cycles_7 :
    (∃ (s : State) (ch : Chan) (n : Nat) (L : Lse),
      lseLive (chanOf s ch) = [(n, L)] ∧ L.st = .faulted ∧ L.swap = none ∧ L.restartPend = true) :=
  ⟨on (withLse com { lse .faulted with restartPend := true }), .a, 63, { lse .faulted with restartPend := true }, (by decide +kernel),
  (by decide +kernel), (by decide +kernel), (by decide +kernel)⟩

theorem witness_lse_cycles_8 :
    (∃ (s : State) (ch : Chan) (n : Nat) (L : Lse),
      kGet (chanOf s ch).lse n = some L ∧ L.st = .overrun ∧ L.r.scanning = true) :=
  ⟨on (withLse com (lse .overrun)), .a, 63, lse .overrun, rfl, (by decide +kernel), (by decide +kernel)⟩

/-! ### retain_forces_and_online_change -/

theorem witness_retain_forces_and_online_change_1 :
    (∃ (s : State) (ch : Chan) (n : Nat) (L : Lse),
      kGet (chanOf s ch).lse n = some L ∧ (chanOf s ch).psu.pwarn = false ∧ (chanOf s ch).boot.graphsRun = true ∧ L.st ≠ .stopped ∧ retainChanged n L
      (chanOf s ch) = true ∧ holdupOk (chanOf s ch).psu 0 (energyRetain L.snap.length) = true) :=
  ⟨on (withLse com { lse .running with snap := [(7, 0, 5)] }), .a, 63, { lse .running with snap := [(7, 0, 5)] }, rfl, (by decide +kernel),
  (by decide +kernel), (by decide +kernel), (by decide +kernel), (by decide +kernel)⟩

theorem witness_retain_forces_and_online_change_2 :
    (∃ (s : State) (ch : Chan) (n : Nat) (L : Lse),
      kGet (chanOf s ch).lse n = some L ∧ (chanOf s ch).psu.pwarn = false ∧ (chanOf s ch).boot.graphsRun = true ∧ L.st ≠ .stopped ∧ retainChanged n L
      (chanOf s ch) = true ∧ holdupOk (chanOf s ch).psu 0 (energyRetain L.snap.length) = false) :=
  ⟨on { withLse com { lse .running with snap := [(7, 0, 5)] } with psu := supplyReset }, .a, 63, { lse .running with snap := [(7, 0, 5)] }, rfl,
  (by decide +kernel), (by decide +kernel), (by decide +kernel), (by decide +kernel), (by decide +kernel)⟩

theorem witness_retain_forces_and_online_change_3 :
    (∃ (s : State) (ch : Chan) (n : Nat) (L : Lse),
      kGet (chanOf s ch).lse n = some L ∧ (chanOf s ch).psu.pwarn = true) :=
  ⟨on { com with psu := { full with pwarn := true } }, .a, 63, lse .running, rfl, (by decide +kernel)⟩

theorem witness_retain_forces_and_online_change_4 :
    (∃ (s : State) (ch : Chan) (n : Nat) (L : Lse),
      kGet (chanOf s ch).lse n = some L ∧ L.flushDue = true ∧ holdupOk (chanOf s ch).psu 0 (energyRetain L.snap.length) = true) :=
  ⟨on (withLse com { lse .running with flushDue := true }), .a, 63, { lse .running with flushDue := true }, rfl, (by decide +kernel), (by decide +kernel)⟩

theorem witness_retain_forces_and_online_change_5 :
    (∃ (s : State) (ch : Chan) (n : Nat) (L : Lse) (p : LseProg) (b : Nat),
      kGet (lseLive (chanOf s ch)) n = some L ∧ L.st = .running ∧ L.r.ended = true ∧ L.swap = some (p, b) ∧ b ≤ L.nextB) :=
  ⟨on (withLse com { ended .running with swap := some (prog, 0) }), .a, 63, { ended .running with swap := some (prog, 0) }, prog, 0, rfl,
    (by decide +kernel), (by decide +kernel), (by decide +kernel), (by decide +kernel)⟩

theorem witness_retain_forces_and_online_change_6 :
    (∃ (s : State) (ch : Chan) (n : Nat) (L : Lse) (p : LseProg) (b : Nat),
      kGet (lseLive (chanOf s ch)) n = some L ∧ L.st = .faulted ∧ L.swap = some (p, b) ∧ b ≤ L.nextB) :=
  ⟨on (withLse com { lse .faulted with swap := some (prog, 0) }), .a, 63, { lse .faulted with swap := some (prog, 0) }, prog, 0, rfl,
  (by decide +kernel), (by decide +kernel), (by decide +kernel)⟩

theorem witness_retain_forces_and_online_change_7 :
    (∃ (s : State) (ch : Chan) (n : Nat) (L : Lse) (f : PendForce),
      kGet (lseLive (chanOf s ch)) n = some L ∧ (L.st = .stopped ∨ L.st = .faulted) ∧ L.pendForces = [f] ∧ f.set = true ∧ L.prog.vars.any (fun v =>
      v.ident == f.f.ident) = true ∧ (L.forces.filter (fun x => x.ident != f.f.ident)).length < 256) :=
  ⟨on (withLse com { lse .stopped with pendForces := [⟨true, ⟨7, 1, 0, 0⟩, 0⟩] }), .a, 63,
  { lse .stopped with pendForces := [⟨true, ⟨7, 1, 0, 0⟩, 0⟩] }, ⟨true, ⟨7, 1, 0, 0⟩, 0⟩, rfl, (by decide +kernel), (by decide +kernel),
  (by decide +kernel), (by decide +kernel), (by decide +kernel)⟩

theorem witness_retain_forces_and_online_change_8 :
    (∃ (s : State) (ch : Chan) (n : Nat) (L : Lse) (f : PendForce),
      kGet (lseLive (chanOf s ch)) n = some L ∧ (L.st = .stopped ∨ L.st = .faulted) ∧ L.pendForces = [f] ∧ f.set = false ∧ L.prog.vars.any (fun v =>
      v.ident == f.f.ident) = true) :=
  ⟨on (withLse com { lse .stopped with pendForces := [⟨false, ⟨7, 1, 0, 0⟩, 0⟩] }), .a, 63,
  { lse .stopped with pendForces := [⟨false, ⟨7, 1, 0, 0⟩, 0⟩] }, ⟨false, ⟨7, 1, 0, 0⟩, 0⟩, rfl, (by decide +kernel), (by decide +kernel),
  (by decide +kernel), (by decide +kernel)⟩

theorem witness_retain_forces_and_online_change_9 :
    (∃ (s : State) (ch : Chan) (n : Nat) (L : Lse) (f : PendForce),
      kGet (lseLive (chanOf s ch)) n = some L ∧ (L.st = .stopped ∨ L.st = .faulted) ∧ L.pendForces = [f] ∧ L.prog.vars.any (fun v => v.ident ==
      f.f.ident) = false) :=
  ⟨on (withLse com { lse .stopped with pendForces := [⟨true, ⟨8, 1, 0, 0⟩, 0⟩] }), .a, 63,
  { lse .stopped with pendForces := [⟨true, ⟨8, 1, 0, 0⟩, 0⟩] }, ⟨true, ⟨8, 1, 0, 0⟩, 0⟩, rfl, (by decide +kernel), (by decide +kernel),
  (by decide +kernel)⟩

/-! ### sleeve_boundaries -/

theorem witness_sleeve_boundaries_1 :
    (∃ (s : State) (ch : Chan) (n : Nat) (S : Sleeve) (r : LifeReq),
      ((LifeDue (chanOf s ch) n 1 S r ∨ LifeDue (chanOf s ch) n 6 S r))) :=
  ⟨on (withSl com { sl .starting with req := some ⟨1, 0, 5⟩ }), .a, 63, { sl .starting with req := some ⟨1, 0, 5⟩ }, ⟨1, 0, 5⟩,
    Or.inl ⟨rfl, rfl, rfl, by decide, rfl⟩⟩

theorem witness_sleeve_boundaries_2 :
    (∃ (s : State) (ch : Chan) (n : Nat) (S : Sleeve) (r : LifeReq),
      LifeDue (chanOf s ch) n 3 S r) :=
  ⟨on (withSl com { sl .running with req := some ⟨3, 0, 5⟩ }), .a, 63, { sl .running with req := some ⟨3, 0, 5⟩ }, ⟨3, 0, 5⟩,
    ⟨rfl, rfl, rfl, by decide, rfl⟩⟩

theorem witness_sleeve_boundaries_3 :
    (∃ (s : State) (ch : Chan) (n : Nat) (S : Sleeve) (r : LifeReq),
      LifeDue (chanOf s ch) n 4 S r) :=
  ⟨on (withSl com { sl .frozen with req := some ⟨4, 0, 5⟩ }), .a, 63, { sl .frozen with req := some ⟨4, 0, 5⟩ }, ⟨4, 0, 5⟩,
    ⟨rfl, rfl, rfl, by decide, rfl⟩⟩

theorem witness_sleeve_boundaries_4 :
    (∃ (s : State) (ch : Chan) (n : Nat) (S : Sleeve) (r : LifeReq),
      LifeDue (chanOf s ch) n 2 S r ∧ placerQuiet s) :=
  ⟨on (withSl com { sl .frozen with req := some ⟨2, 0, 5⟩ }), .a, 63, { sl .frozen with req := some ⟨2, 0, 5⟩ }, ⟨2, 0, 5⟩, ⟨rfl, rfl, rfl, by decide,
  rfl⟩, (by refine ⟨?_, ?_⟩ <;> decide +kernel)⟩

theorem witness_sleeve_boundaries_5 :
    (∃ (s : State) (ch : Chan) (n : Nat) (S : Sleeve) (r : LifeReq),
      LifeDue (chanOf s ch) n 7 S r) :=
  ⟨on (withSl com { sl .running with req := some ⟨7, 0, 5⟩ }), .a, 63, { sl .running with req := some ⟨7, 0, 5⟩ }, ⟨7, 0, 5⟩,
    ⟨rfl, rfl, rfl, by decide, rfl⟩⟩

theorem witness_sleeve_boundaries_6 :
    (∃ (s : State) (ch : Chan) (n : Nat) (S : Sleeve),
      kGet (chanOf s ch).sleeves n = some S ∧ S.req = none) :=
  ⟨on com, .a, 63, sl .running, rfl, (by decide +kernel)⟩

theorem witness_sleeve_boundaries_7 :
    (∃ (s : State) (ch : Chan) (n : Nat) (S : Sleeve),
      kGet (chanOf s ch).sleeves n = some S ∧ S.saving = true) :=
  ⟨on (withSl com { sl .frozen with saving := true }), .a, 63, { sl .frozen with saving := true }, rfl, (by decide +kernel)⟩

/-! ### moves_and_memories -/

theorem witness_moves_and_memories_1 :
    (∃ (s : State) (ch : Chan) (n : Nat) (i : Nat) (tile : Nat) (x : PlInst),
      plFind (instsNow (chanOf s ch) (imageNow (chanOf s ch))) n i = some x ∧ (chanOf s ch).boot.graphsRun = true ∧ (chanOf s ch).disp.planned = [] ∧
      (chanOf s ch).disp.moves.length < 8 ∧ entryFree (chanOf s ch) 6 = true ∧ (∀ m ∈ (chanOf s ch).disp.moves, ¬(m.sleeve = n ∧ m.inst = i)) ∧ moveOk
      (chanOf s ch) x tile = true) :=
  ⟨on moving, .a, 63, 0, 1, movable, (by decide +kernel), (by decide +kernel), (by decide +kernel), (by decide +kernel), (by decide +kernel),
  (by decide +kernel), (by decide +kernel)⟩

theorem witness_moves_and_memories_2 :
    (∃ (s : State) (ch : Chan) (n : Nat) (i : Nat) (tile : Nat) (x : PlInst) (rest : List (Nat × Nat × Nat)),
      plFind (instsNow (chanOf s ch) (imageNow (chanOf s ch))) n i = some x ∧ (chanOf s ch).boot.graphsRun = true ∧ (chanOf s ch).disp.planned = (n,
      i, tile) :: rest ∧ (chanOf s ch).disp.moves.length < 8 ∧ entryFree (chanOf s ch) 6 = true ∧ (∀ m ∈ (chanOf s ch).disp.moves, ¬(m.sleeve = n ∧
      m.inst = i)) ∧ moveOk (chanOf s ch) x tile = true) :=
  ⟨on (withDisp moving (fun x => { x with planned := [(63, 0, 1)] })), .a, 63, 0, 1, movable, [], (by decide +kernel), (by decide +kernel),
  (by decide +kernel), (by decide +kernel), (by decide +kernel), (by decide +kernel), (by decide +kernel)⟩

theorem witness_moves_and_memories_3 :
    (∃ (s : State) (ch : Chan),
      8 ≤ (chanOf s ch).disp.moves.length) :=
  ⟨on (withDisp com (fun x => { x with moves := List.replicate 8 ⟨63, 0, 1, 0, false, false⟩ })), .a, (by decide +kernel)⟩

theorem witness_moves_and_memories_4 :
    (∃ (s : State) (ch : Chan) (n : Nat) (i : Nat) (m : Move),
      (chanOf s ch).disp.moves.find? (fun m => m.sleeve == n && m.inst == i && !m.transferred) = some m ∧ firedUpTo (advanceTo m.boundary
      (commitsEnded (chanOf s ch))) n i m.boundary = true) :=
  ⟨on (withDisp com (fun x => { x with moves := [⟨5, 0, 1, 5, false, false⟩] })), .a, 5, 0, ⟨5, 0, 1, 5, false, false⟩, (by decide +kernel),
  (by decide +kernel)⟩

theorem witness_moves_and_memories_5 :
    (∃ (s : State) (ch : Chan) (n : Nat) (i : Nat) (m : Move) (y : InstRt),
      (chanOf s ch).disp.moves.find? (fun m => m.sleeve == n && m.inst == i && m.transferred) = some m ∧ instAt (chanOf s ch) n i = some y ∧
      placerQuiet s) :=
  ⟨on (withDisp com (fun x => { x with moves := [⟨63, 0, 1, 5, true, false⟩] })), .a, 63, 0, ⟨63, 0, 1, 5, true, false⟩, rt .waiting,
  (by decide +kernel), (by decide +kernel), (by refine ⟨?_, ?_⟩ <;> decide +kernel)⟩

theorem witness_moves_and_memories_6 :
    (∃ (s : State) (ch : Chan) (k : Nat) (tl : Tile),
      kGet (chanOf s ch).disp.tiles k = some tl ∧ tl.role ≠ .failed ∧ runtimeUp (chanOf s ch) = true ∧ (chanOf s ch).boot.mode ≠ .boot ∧ entryFree
      (chanOf s ch) 6 = true ∧ placerQuiet s) :=
  ⟨on com, .a, 0, tileOf com 0, rfl, (by decide +kernel), (by decide +kernel), (by decide +kernel), (by decide +kernel),
  (by refine ⟨?_, ?_⟩ <;> decide +kernel)⟩

theorem witness_moves_and_memories_7 :
    (∃ (s : State) (ch : Chan) (k : Nat) (tl : Tile) (j : Nat),
      kWf (chanOf s ch).disp.tiles = true ∧ kGet (chanOf s ch).disp.tiles k = some tl ∧ tl.role = .placeable ∧ firstSpare (chanOf s ch) = some j ∧
      runtimeUp (chanOf s ch) = true ∧ (chanOf s ch).boot.mode ≠ .boot ∧ entryFree (chanOf s ch) 6 = true ∧ placerQuiet s) :=
  ⟨on (tiles [(0, ⟨.placeable, []⟩), (1, ⟨.spare, []⟩)] com), .a, 0, ⟨.placeable, []⟩, 1, (by decide +kernel), rfl, (by decide +kernel),
  (by decide +kernel), (by decide +kernel), (by decide +kernel), (by decide +kernel), (by refine ⟨?_, ?_⟩ <;> decide +kernel)⟩

theorem witness_moves_and_memories_8 :
    (∃ (s : State) (ch : Chan) (m : Nat),
      m ≤ 6 ∧ runtimeUp (chanOf s ch) = true ∧ (chanOf s ch).boot.mode ≠ .boot) :=
  ⟨on com, .a, 6, (by decide +kernel), (by decide +kernel), (by decide +kernel)⟩

theorem witness_moves_and_memories_9 :
    (∃ (s : State) (ch : Chan) (d : Nat) (row : Nat) (x : PDef),
      row < 2 ^ 32 ∧ kGet (chanOf s ch).pleat.defs d = some x ∧ runtimeUp (chanOf s ch) = true ∧ (chanOf s ch).boot.mode ≠ .boot) :=
  ⟨on com, .a, 127, 4294967295, pdef .armed, (by decide +kernel), rfl, (by decide +kernel), (by decide +kernel)⟩

theorem witness_moves_and_memories_10 :
    (∃ (s : State) (ch : Chan) (n : Nat) (x : KeyCell),
      n < 2 ^ 32 ∧ (chanOf s ch).boot.powered = true ∧ kGet (chanOf s ch).keysNv.cellsA n = some x) :=
  ⟨on { com with keysNv := { com.keysNv with cellsA := [(5, ⟨0, 0, 0, true, keySlotEmpty, []⟩)] } }, .a, 5, ⟨0, 0, 0, true, keySlotEmpty, []⟩,
  (by decide +kernel), (by decide +kernel), rfl⟩

theorem witness_moves_and_memories_11 :
    (∃ (s : State) (ch : Chan) (n : Nat),
      n < 2 ^ 32 ∧ (chanOf s ch).boot.powered = true) :=
  ⟨on com, .a, 4294967295, (by decide +kernel), (by decide +kernel)⟩

theorem witness_moves_and_memories_12 :
    (∃ (s : State) (ch : Chan) (b : Nat),
      b < 64 ∧ (bankGet (chanOf s ch) b).retained = true) :=
  ⟨on (withDisp com (fun x => { x with banks := [(63, { bankIdle with retained := true })] })), .a, 63, (by decide +kernel), (by decide +kernel)⟩

theorem witness_moves_and_memories_13 :
    (∃ (s : State) (ch : Chan) (b : Nat),
      b < 64 ∧ (chanOf s ch).boot.graphsRun = true ∧ (chanOf s ch).disp.retention = true ∧ (bankGet (chanOf s ch) b).failed = false ∧ (bankGet (chanOf
      s ch) b).retained = false ∧ (∀ y ∈ (chanOf s ch).disp.items, bankOf y.addr ≠ b) ∧ (bankGet (chanOf s ch) b).reqs = []) :=
  ⟨on com, .a, 63, (by decide +kernel), (by decide +kernel), (by decide +kernel), (by decide +kernel), (by decide +kernel), (by decide +kernel),
  (by decide +kernel)⟩

theorem witness_moves_and_memories_14 :
    (∃ (s : State) (ch : Chan) (b : Nat) (r : BankReq),
      b < 64 ∧ (chanOf s ch).boot.graphsRun = true ∧ (chanOf s ch).disp.retention = true ∧ (bankGet (chanOf s ch) b).failed = false ∧ (bankGet (chanOf
      s ch) b).retained = false ∧ (∀ y ∈ (chanOf s ch).disp.items, bankOf y.addr ≠ b) ∧ (bankGet (chanOf s ch) b).reqs = [r] ∧ cycleOf (chanOf s
      ch).time.up ≤ r.since) :=
  ⟨on (withDisp com (fun x => { x with banks := [(63, { bankIdle with reqs := [⟨1, 0, 0, .read, 5⟩] })] })), .a, 63, ⟨1, 0, 0, .read, 5⟩,
  (by decide +kernel), (by decide +kernel), (by decide +kernel), (by decide +kernel), (by decide +kernel), (by decide +kernel), (by decide +kernel),
  (by decide +kernel)⟩

theorem witness_moves_and_memories_15 :
    (∃ (s : State) (ch : Chan) (b : Nat),
      (∃ y ∈ (chanOf s ch).disp.items, bankOf y.addr = b)) :=
  ⟨on (withDisp com (fun x => { x with items := [⟨0, 63, 0, 0, 0, 0, 0, 0⟩] })), .a, bankOf 0, ⟨_, List.mem_singleton.2 rfl, rfl⟩⟩

theorem witness_moves_and_memories_16 :
    (∃ (b : Bank) (t : Nat) (x : BankReq) (y : BankReq) (m : BitVec 64) (v : BitVec 64),
      b.reqs = [x, y] ∧ x.since ≤ t ∧ y.since ≤ t ∧ x.word = y.word ∧ x.op = .read ∧ y.op = .write m v) :=
  ⟨{ bankIdle with reqs := [⟨1, 0, 0, .read, 0⟩, ⟨2, 0, 0, .write 1 1, 0⟩] }, 0, ⟨1, 0, 0, .read, 0⟩, ⟨2, 0, 0, .write 1 1, 0⟩, 1, 1,
  (by decide +kernel), (by decide +kernel), (by decide +kernel), (by decide +kernel), (by decide +kernel), (by decide +kernel)⟩

/-! ### servo_on_sync -/

theorem witness_servo_on_sync_1 :
    (∃ (s : State) (ch : Chan) (p : Nat) (m : PtpMsg) (rx : Nat) (g : Master),
      SyncReady s ch p m g ∧ (chanOf s ch).time.servo = .locked ∧ (syncOffset (chanOf s ch) p m rx).natAbs ≤ lockThreshold (chanOf s ch)) :=
  ⟨on (synced (fun x => { x with servo := .locked })), .a, 1, ptp, 1000, master, (by refine ⟨?_, ?_, ?_, ?_, ?_, ?_, ?_, ?_⟩ <;> decide +kernel),
    (by decide +kernel), (by decide +kernel)⟩

theorem witness_servo_on_sync_2 :
    (∃ (s : State) (ch : Chan) (p : Nat) (m : PtpMsg) (rx : Nat) (g : Master),
      SyncReady s ch p m g ∧ (chanOf s ch).time.servo = .locked ∧ lockThreshold (chanOf s ch) < (syncOffset (chanOf s ch) p m rx).natAbs ∧
      3 ≤ (chanOf s ch).time.outRun) :=
  ⟨on (synced (fun x => { x with servo := .locked, outRun := 3 })), .a, 1, ptp, 1001, master,
    (by refine ⟨?_, ?_, ?_, ?_, ?_, ?_, ?_, ?_⟩ <;> decide +kernel), (by decide +kernel), (by decide +kernel), (by decide +kernel)⟩

theorem witness_servo_on_sync_3 :
    (∃ (s : State) (ch : Chan) (p : Nat) (m : PtpMsg) (rx : Nat) (g : Master),
      SyncReady s ch p m g ∧ (chanOf s ch).time.servo = .locked ∧ lockThreshold (chanOf s ch) < (syncOffset (chanOf s ch) p m rx).natAbs ∧
      (chanOf s ch).time.outRun < 3) :=
  ⟨on (synced (fun x => { x with servo := .locked, outRun := 2 })), .a, 1, ptp, 1001, master,
    (by refine ⟨?_, ?_, ?_, ?_, ?_, ?_, ?_, ?_⟩ <;> decide +kernel), (by decide +kernel), (by decide +kernel), (by decide +kernel)⟩

theorem witness_servo_on_sync_4 :
    (∃ (s : State) (ch : Chan) (p : Nat) (m : PtpMsg) (rx : Nat) (g : Master),
      SyncReady s ch p m g ∧ (chanOf s ch).time.servo = .holdover ∧ g.msg.clockClass ≤ 7 ∧
      (syncOffset (chanOf s ch) p m rx).natAbs ≤ lockThreshold (chanOf s ch) ∧ 1 ≤ (chanOf s ch).time.inRun) :=
  ⟨on (synced (fun x => { x with servo := .holdover, inRun := 1 })), .a, 1, ptp, 1000, master,
    (by refine ⟨?_, ?_, ?_, ?_, ?_, ?_, ?_, ?_⟩ <;> decide +kernel), (by decide +kernel), (by decide +kernel), (by decide +kernel), (by decide +kernel)⟩

theorem witness_servo_on_sync_5 :
    (∃ (s : State) (ch : Chan) (p : Nat) (m : PtpMsg) (rx : Nat) (g : Master),
      SyncReady s ch p m g ∧ (chanOf s ch).time.servo = .holdover ∧ g.msg.clockClass ≤ 7 ∧
      (syncOffset (chanOf s ch) p m rx).natAbs ≤ lockThreshold (chanOf s ch) ∧ (chanOf s ch).time.inRun = 0) :=
  ⟨on (synced (fun x => { x with servo := .holdover })), .a, 1, ptp, 1000, master, (by refine ⟨?_, ?_, ?_, ?_, ?_, ?_, ?_, ?_⟩ <;> decide +kernel),
    (by decide +kernel), (by decide +kernel), (by decide +kernel), (by decide +kernel)⟩

theorem witness_servo_on_sync_6 :
    (∃ (s : State) (ch : Chan) (p : Nat) (m : PtpMsg) (rx : Nat) (g : Master),
      SyncReady s ch p m g ∧ (chanOf s ch).time.servo = .holdover ∧ g.msg.clockClass ≤ 7 ∧
      lockThreshold (chanOf s ch) < (syncOffset (chanOf s ch) p m rx).natAbs ∧
      ((entryNat (chanOf s ch) 0x2200 0x2B 1 = 0 ∨ (syncOffset (chanOf s ch) p m rx).natAbs ≤ entryNat (chanOf s ch) 0x2200 0x2A 100000))) :=
  ⟨on (synced (fun x => { x with servo := .holdover })), .a, 1, ptp, 100000, master, (by refine ⟨?_, ?_, ?_, ?_, ?_, ?_, ?_, ?_⟩ <;> decide +kernel),
    (by decide +kernel), (by decide +kernel), (by decide +kernel), (by decide +kernel)⟩

theorem witness_servo_on_sync_7 :
    (∃ (s : State) (ch : Chan) (p : Nat) (m : PtpMsg) (rx : Nat) (g : Master),
      SyncReady s ch p m g ∧ (chanOf s ch).time.servo = .holdover ∧ g.msg.clockClass ≤ 7 ∧
      lockThreshold (chanOf s ch) < (syncOffset (chanOf s ch) p m rx).natAbs ∧ entryNat (chanOf s ch) 0x2200 0x2B 1 ≠ 0 ∧
      entryNat (chanOf s ch) 0x2200 0x2A 100000 < (syncOffset (chanOf s ch) p m rx).natAbs ∧
      0 ≤ (nowNs (chanOf s ch) : Int) - syncOffset (chanOf s ch) p m rx ∧ (nowNs (chanOf s ch) : Int) - syncOffset (chanOf s ch) p m rx < 2 ^ 64) :=
  ⟨on (synced (fun x => { x with servo := .holdover, ctr := 0x4000000000000 })), .a, 1, ptp, 100001, master,
    (by refine ⟨?_, ?_, ?_, ?_, ?_, ?_, ?_, ?_⟩ <;> decide +kernel), (by decide +kernel), (by decide +kernel), (by decide +kernel), (by decide +kernel),
    (by decide +kernel), (by decide +kernel), (by decide +kernel)⟩

theorem witness_servo_on_sync_8 :
    (∃ (s : State) (ch : Chan) (p : Nat) (m : PtpMsg) (rx : Nat) (g : Master) (o : Int) (k : Nat) (d : Int) (e : Nat),
      SyncReady s ch p m g ∧ (chanOf s ch).time.servo = .locking ∧ (chanOf s ch).time.lastOffset = some (o, k) ∧ (chanOf s ch).time.slope = some (d, e) ∧
      (ptpGet (chanOf s ch) p).delayKnown = true ∧
      (syncOffset (chanOf s ch) p m rx - (o + d * ((((rx : Int) - syncOffset (chanOf s ch) p m rx).toNat : Int) - k) / (max e 1 : Nat))).natAbs ≤ 1000) :=
  ⟨on (withPtp (synced (fun x => { x with servo := .locking, lastOffset := some (0, 0), slope := some (0, 1) })) 1 (fun x => { x with delayKnown := true })),
    .a, 1, ptp, 1000, master, 0, 0, 0, 1, (by refine ⟨?_, ?_, ?_, ?_, ?_, ?_, ?_, ?_⟩ <;> decide +kernel), (by decide +kernel), (by decide +kernel),
    (by decide +kernel), (by decide +kernel), (by decide +kernel)⟩

/-! ### ptp_messages -/

theorem witness_ptp_messages_1 :
    (∃ (s : State) (ch : Chan) (p : Nat) (m : PtpMsg),
      counterRuns (chanOf s ch) = true ∧ linkUp (chanOf s ch) p = true ∧ m.domain = entryNat (chanOf s ch) 0x2200 0x20 0 ∧ m.twoStep = true ∧
      (ptpGet (chanOf s ch) p).syncs.length < 16) :=
  ⟨on com, .a, 12, { ptp with twoStep := true }, (by decide +kernel), (by decide +kernel), (by decide +kernel), (by decide +kernel), (by decide +kernel)⟩

theorem witness_ptp_messages_2 :
    (∃ (s : State) (ch : Chan) (p : Nat) (m : PtpMsg) (h : HeldSync) (g : Master),
      counterRuns (chanOf s ch) = true ∧ linkUp (chanOf s ch) p = true ∧
      (ptpGet (chanOf s ch) p).syncs.find? (fun h => h.msg.seqId == m.seqId && h.msg.srcClock == m.srcClock && h.msg.srcPort == m.srcPort) = some h ∧
      nowNs (chanOf s ch) ≤ h.rx + 10000000 ∧ (chanOf s ch).time.gm = some g ∧ g.msg.srcClock = m.srcClock) :=
  ⟨on (withPtp (synced id) 1 (fun x => { x with syncs := [heldSync] })), .a, 1, ptp, heldSync, master, (by decide +kernel), (by decide +kernel),
    (by decide +kernel), (by decide +kernel), (by decide +kernel), (by decide +kernel)⟩

theorem witness_ptp_messages_3 :
    (∃ (s : State) (ch : Chan) (p : Nat) (m : PtpMsg) (h : Option HeldSync),
      counterRuns (chanOf s ch) = true ∧ linkUp (chanOf s ch) p = true ∧
      (ptpGet (chanOf s ch) p).syncs.find? (fun h => h.msg.seqId == m.seqId && h.msg.srcClock == m.srcClock && h.msg.srcPort == m.srcPort) = h ∧
      ((∀ x, h = some x → x.rx + 10000000 < nowNs (chanOf s ch)))) :=
  ⟨on com, .a, 1, ptp, none, (by decide +kernel), (by decide +kernel), (by decide +kernel), (fun x h => by cases h)⟩

theorem witness_ptp_messages_4 :
    (∃ (s : State) (ch : Chan) (p : Nat) (h : HeldSync) (r : List HeldSync),
      (ptpGet (chanOf s ch) p).syncs = h :: r) :=
  ⟨on (withPtp com 12 (fun x => { x with syncs := [heldSync] })), .a, 12, heldSync, [], (by decide +kernel)⟩

theorem witness_ptp_messages_5 :
    (∃ (s : State) (ch : Chan) (p : Nat) (m : PtpMsg) (o : Master),
      counterRuns (chanOf s ch) = true ∧ linkUp (chanOf s ch) p = true ∧ m.domain = entryNat (chanOf s ch) 0x2200 0x20 0 ∧
      m.srcClock ≠ clockId (chanOf s ch) ∧ m.steps < 255 ∧ (chanOf s ch).time.masters = [o] ∧ o.port = p ∧ o.msg.srcClock = m.srcClock ∧
      o.msg.srcPort = m.srcPort ∧ (chanOf s ch).time.up ≤ o.heard + 4 * announceNs (chanOf s ch) ∧ masterCapable (chanOf s ch) = false ∧
      (chanOf s ch).time.gm = none ∧ (chanOf s ch).time.servo = .freerun) :=
  ⟨on (withTime com (fun x => { x with masters := [foreign] })), .a, 1, foreign.msg, foreign, (by decide +kernel), (by decide +kernel),
    (by decide +kernel), foreign_is_other, (by decide +kernel), rfl, rfl, rfl, (by decide +kernel), (by decide +kernel), (by decide +kernel),
    (by decide +kernel), (by decide +kernel)⟩

theorem witness_ptp_messages_6 :
    (∃ (s : State) (ch : Chan) (g : Master),
      (chanOf s ch).time.gm = some g ∧ ((∀ x ∈ (chanOf s ch).time.masters, x.msg.srcClock = g.msg.srcClock))) :=
  ⟨on (synced id), .a, master, (by decide +kernel), (by decide +kernel)⟩

theorem witness_ptp_messages_7 :
    (∃ (s : State) (ch : Chan),
      (chanOf s ch).time.servo = .holdover ∧ (chanOf s ch).time.limitPassed = false) :=
  ⟨on (withTime com (fun x => { x with servo := .holdover })), .a, (by decide +kernel), (by decide +kernel)⟩

theorem witness_ptp_messages_8 :
    (∃ (s : State) (ch : Chan),
      (chanOf s ch).time.servo ≠ .holdover) :=
  ⟨on com, .a, (by decide +kernel)⟩

/-! ### peer_delay_and_master -/

theorem witness_peer_delay_and_master_1 :
    (∃ (s : State) (ch : Chan) (p : Nat),
      counterRuns (chanOf s ch) = true ∧ linkUp (chanOf s ch) p = true ∧ ptpOn (chanOf s ch) p = true ∧ 1 ≤ p ∧ p ≤ 12) :=
  ⟨on com, .a, 12, (by decide +kernel), (by decide +kernel), (by decide +kernel), (by decide +kernel), (by decide +kernel)⟩

theorem witness_peer_delay_and_master_2 :
    (∃ (s : State) (ch : Chan) (p : Nat),
      ptpOn (chanOf s ch) p = false) :=
  ⟨on (withEntry com 0x2210 1 0), .a, 1, (by decide +kernel)⟩

theorem witness_peer_delay_and_master_3 :
    (∃ (s : State) (ch : Chan) (p : Nat) (m : PtpMsg),
      counterRuns (chanOf s ch) = true ∧ (ptpGet (chanOf s ch) p).awaiting = true ∧ m.seqId = (ptpGet (chanOf s ch) p).reqSeq ∧
      m.reqClock = clockId (chanOf s ch) ∧ m.reqPort = p ∧ m.msgType ≠ 10 ∧ m.twoStep = false) :=
  ⟨on (withPtp com 1 (fun x => { x with awaiting := true })), .a, 1,
    { ptp with msgType := 3, reqClock := clockId (channelReset .a), reqPort := 1, twoStep := false }, (by decide +kernel), (by decide +kernel),
    (by decide +kernel), (clockId_of (channelReset .a) _ rfl), (by decide +kernel), (by decide +kernel), (by decide +kernel)⟩

theorem witness_peer_delay_and_master_4 :
    (∃ (s : State) (ch : Chan) (p : Nat) (m : PtpMsg),
      counterRuns (chanOf s ch) = true ∧ (ptpGet (chanOf s ch) p).awaiting = true ∧ m.seqId = (ptpGet (chanOf s ch) p).reqSeq ∧
      m.reqClock = clockId (chanOf s ch) ∧ m.reqPort = p ∧ m.msgType ≠ 10 ∧ m.twoStep = true) :=
  ⟨on (withPtp com 1 (fun x => { x with awaiting := true })), .a, 1,
    { ptp with msgType := 3, reqClock := clockId (channelReset .a), reqPort := 1, twoStep := true }, (by decide +kernel), (by decide +kernel),
    (by decide +kernel), (clockId_of (channelReset .a) _ rfl), (by decide +kernel), (by decide +kernel), (by decide +kernel)⟩

theorem witness_peer_delay_and_master_5 :
    (∃ (s : State) (ch : Chan) (p : Nat),
      counterRuns (chanOf s ch) = true ∧ linkUp (chanOf s ch) p = true ∧ ptpOn (chanOf s ch) p = true ∧ 1 ≤ p ∧ p ≤ 12) :=
  ⟨on com, .a, 12, (by decide +kernel), (by decide +kernel), (by decide +kernel), (by decide +kernel), (by decide +kernel)⟩

theorem witness_peer_delay_and_master_6 :
    (∃ (s : State) (ch : Chan),
      actsAsMaster (chanOf s ch) = true) :=
  ⟨on (withEntry com 0x2200 0x22 1), .a, (by decide +kernel)⟩

theorem witness_peer_delay_and_master_7 :
    (∃ (s : State) (ch : Chan),
      actsAsMaster (chanOf s ch) = true) :=
  ⟨on (withEntry com 0x2200 0x22 1), .a, (by decide +kernel)⟩

theorem witness_peer_delay_and_master_8 :
    (∃ (s : State) (ch : Chan),
      actsAsMaster (chanOf s ch) = false) :=
  ⟨on com, .a, (by decide +kernel)⟩

/-! ### pulse_edges -/

theorem witness_pulse_edges_1 :
    (∃ (s : State) (ch : Chan) (g : Nat),
      g < 4 ∧ (pgGet (chanOf s ch) g).armed = true ∧ (pgGet (chanOf s ch) g).inPulse = false ∧ pgDone (pgGet (chanOf s ch) g) = false ∧
      pgGate (chanOf s ch) (pgGet (chanOf s ch) g).set.gate = true) :=
  ⟨on (withPg com 3 { pgReset with armed := true, set := { pgSetReset with gate := 0 } }), .a, 3, (by decide +kernel), (by decide +kernel),
    (by decide +kernel), (by decide +kernel), (by decide +kernel)⟩

theorem witness_pulse_edges_2 :
    (∃ (s : State) (ch : Chan) (g : Nat),
      g < 4 ∧ (pgGet (chanOf s ch) g).armed = true ∧ (pgGet (chanOf s ch) g).inPulse = false ∧ pgDone (pgGet (chanOf s ch) g) = false ∧
      pgGate (chanOf s ch) (pgGet (chanOf s ch) g).set.gate = false) :=
  ⟨on (withPg com 3 { pgReset with armed := true }), .a, 3, (by decide +kernel), (by decide +kernel), (by decide +kernel), (by decide +kernel),
    (by decide +kernel)⟩

theorem witness_pulse_edges_3 :
    (∃ (s : State) (ch : Chan) (g : Nat),
      (pgGet (chanOf s ch) g).inPulse = true ∧ (pgGet (chanOf s ch) g).reload = none) :=
  ⟨on (withPg com 3 { pgReset with inPulse := true }), .a, 3, (by decide +kernel), (by decide +kernel)⟩

theorem witness_pulse_edges_4 :
    (∃ (s : State) (ch : Chan) (g : Nat) (r : PgSet),
      (pgGet (chanOf s ch) g).inPulse = true ∧ (pgGet (chanOf s ch) g).reload = some r) :=
  ⟨on (withPg com 3 { pgReset with inPulse := true, reload := some pgSetReset }), .a, 3, pgSetReset, (by decide +kernel), (by decide +kernel)⟩

theorem witness_pulse_edges_5 :
    (∃ (s : State) (ch : Chan) (g : Nat),
      (pgGet (chanOf s ch) g).inPulse = false) :=
  ⟨on com, .a, 3, (by decide +kernel)⟩

/-! ### can_transmission -/

theorem witness_can_transmission_1 :
    (∃ (s : State) (ch : Chan) (n : Nat) (p : CanPort) (b : Nat) (x : CanBuf),
      kGet (chanOf s ch).can n = some p ∧ p.cur = none ∧ p.busOff = false ∧ leads (chanOf s ch) = true ∧ (canMode (chanOf s ch) p = 1 ∨ canMode
      (chanOf s ch) p = 3) ∧ canNext p = some b ∧ kGet p.bufs b = some x ∧ x.locked = none) :=
  ⟨on (withCan com (port (canPortDefault 1) [(0, { buf with pend := true })])), .a, 1, (port (canPortDefault 1) [(0, { buf with pend := true })]), 0,
  { buf with pend := true }, rfl, (by decide +kernel), (by decide +kernel), (by decide +kernel), (by decide +kernel), (by decide +kernel), rfl,
  (by decide +kernel)⟩

theorem witness_can_transmission_2 :
    (∃ (s : State) (ch : Chan) (n : Nat) (p : CanPort) (b : Nat) (x : CanBuf),
      kGet (chanOf s ch).can n = some p ∧ p.cur = none ∧ p.busOff = false ∧ leads (chanOf s ch) = true ∧ (canMode (chanOf s ch) p = 1 ∨ canMode
      (chanOf s ch) p = 3) ∧ canNext p = some b ∧ kGet p.bufs b = some x ∧ x.locked ≠ some 1) :=
  ⟨on (withCan com (port (canPortDefault 1) [(0, { buf with pend := true })])), .a, 1, (port (canPortDefault 1) [(0, { buf with pend := true })]), 0,
  { buf with pend := true }, rfl, (by decide +kernel), (by decide +kernel), (by decide +kernel), (by decide +kernel), (by decide +kernel), rfl,
  (by decide +kernel)⟩

theorem witness_can_transmission_3 :
    (∃ (s : State) (ch : Chan) (n : Nat) (p : CanPort) (b : Nat) (x : CanBuf),
      kGet (chanOf s ch).can n = some p ∧ canNext p = some b ∧ kGet p.bufs b = some x ∧ x.locked = some 1) :=
  ⟨on (withCan com (port (canPortDefault 1) [(0, { buf with pend := true, locked := some 1 })])), .a, 1, (port (canPortDefault 1) [(0,
  { buf with pend := true, locked := some 1 })]), 0, { buf with pend := true, locked := some 1 }, rfl, (by decide +kernel), rfl, (by decide +kernel)⟩

theorem witness_can_transmission_4 :
    (∃ (s : State) (ch : Chan),
      leads (chanOf s ch) = false) :=
  ⟨on stb, .a, (by decide +kernel)⟩

theorem witness_can_transmission_5 :
    (∃ (s : State) (ch : Chan) (n : Nat) (p : CanPort) (b : Nat) (f : CanFrame) (x : CanBuf),
      kGet (chanOf s ch).can n = some p ∧ p.cur = some (b, f) ∧ kGet p.bufs b = some x ∧ p.loop = false ∧ p.tec ≤ 255) :=
  ⟨on (withCan com { port (canPortDefault 1) [(0, buf)] with cur := some (0, canFrame), tec := 255 }), .a, 1,
  { port (canPortDefault 1) [(0, buf)] with cur := some (0, canFrame), tec := 255 }, 0, canFrame, buf, rfl, (by decide +kernel), rfl,
  (by decide +kernel), (by decide +kernel)⟩

theorem witness_can_transmission_6 :
    (∃ (s : State) (ch : Chan) (n : Nat) (p : CanPort) (b : Nat) (f : CanFrame) (x : CanBuf),
      kGet (chanOf s ch).can n = some p ∧ p.cur = some (b, f) ∧ kGet p.bufs b = some x ∧ p.loop = false ∧ p.busOff = false ∧ 247 < p.tec ∧ p.tec ≤
      255) :=
  ⟨on (withCan com { port (canPortDefault 1) [(0, buf)] with cur := some (0, canFrame), tec := 248 }), .a, 1,
  { port (canPortDefault 1) [(0, buf)] with cur := some (0, canFrame), tec := 248 }, 0, canFrame, buf, rfl, (by decide +kernel), rfl,
  (by decide +kernel), (by decide +kernel), (by decide +kernel), (by decide +kernel)⟩

theorem witness_can_transmission_7 :
    (∃ (s : State) (ch : Chan) (n : Nat) (p : CanPort),
      kGet (chanOf s ch).can n = some p ∧ p.busOff = true ∧ (p.cfg.hostRec = false ∨ p.recovering = true)) :=
  ⟨on (withCan com { svcPort with busOff := true }), .a, 1, { svcPort with busOff := true }, rfl, (by decide +kernel), (by decide +kernel)⟩

theorem witness_can_transmission_8 :
    (∃ (s : State) (ch : Chan) (n : Nat) (p : CanPort),
      kGet (chanOf s ch).can n = some p ∧ p.cfg.hostRec = true ∧ p.recovering = false) :=
  ⟨on (withCan com (port { canPortDefault 1 with hostRec := true } [])), .a, 1, (port { canPortDefault 1 with hostRec := true } []), rfl,
  (by decide +kernel), (by decide +kernel)⟩

theorem witness_can_transmission_9 :
    (∃ (s : State) (ch : Chan) (n : Nat) (p : CanPort),
      kGet (chanOf s ch).can n = some p ∧ canEntries (chanOf s ch) n p.cfg ≠ p.cfg ∧ p.cur = none) :=
  ⟨on (withEntry com 0x2C11 9 5), .a, 1, svcPort, rfl, (by decide +kernel), (by decide +kernel)⟩

theorem witness_can_transmission_10 :
    (∃ (s : State) (ch : Chan) (n : Nat) (p : CanPort),
      kGet (chanOf s ch).can n = some p ∧ canMode (chanOf s ch) p = 1 ∧ p.busOff = false ∧ p.tec ≤ 255) :=
  ⟨on (withCan com { svcPort with tec := 255 }), .a, 1, { svcPort with tec := 255 }, rfl, (by decide +kernel), (by decide +kernel),
  (by decide +kernel)⟩

/-! ### can_reception -/

theorem witness_can_reception_1 :
    (∃ (s : State) (ch : Chan) (n : Nat) (p : CanPort) (f : CanFrame) (b : Nat) (x : CanBuf),
      kGet (chanOf s ch).can n = some p ∧ canMode (chanOf s ch) p = 1 ∧ (injGet (chanOf s ch) (12 + n)).armed = false ∧ p.tec ≤ 255 ∧ p.bufs = [(b,
      x)] ∧ bufMatches f x = true ∧ f.rtr = false ∧ x.locked = none ∧ x.fresh = false) :=
  ⟨on (withCan com (port (canPortDefault 1) [(0, buf)])), .a, 1, (port (canPortDefault 1) [(0, buf)]), canFrame, 0, buf, rfl, (by decide +kernel),
  (by decide +kernel), (by decide +kernel), (by decide +kernel), (by decide +kernel), (by decide +kernel), (by decide +kernel), (by decide +kernel)⟩

theorem witness_can_reception_2 :
    (∃ (s : State) (ch : Chan) (n : Nat) (p : CanPort) (f : CanFrame),
      kGet (chanOf s ch).can n = some p ∧ canMode (chanOf s ch) p = 2 ∧ (injGet (chanOf s ch) (12 + n)).armed = false ∧
      ((∀ y ∈ p.bufs, bufMatches f y.2 = false))) :=
  ⟨on (withCan stb (port (canPortDefault 2) [])), .a, 1, port (canPortDefault 2) [], canFrame, rfl, (by decide +kernel), (by decide +kernel),
    (fun y h => by cases h)⟩

theorem witness_can_reception_3 :
    (∃ (s : State) (ch : Chan) (n : Nat) (p : CanPort),
      kGet (chanOf s ch).can n = some p ∧ ((canMode (chanOf s ch) p = 0 ∨ canMode (chanOf s ch) p = 3)) ∧ (injGet (chanOf s ch) (12 + n)).armed = false) :=
  ⟨on { run .a .boot with can := [(1, port (canPortDefault 1) [])] }, .a, 1, port (canPortDefault 1) [], rfl, (by decide +kernel), (by decide +kernel)⟩

theorem witness_can_reception_4 :
    (∃ (s : State) (ch : Chan) (i : Nat) (p : CanPort) (x : CanBuf) (g : GraphRt) (n : Nat) (k : Nat),
      kGet (chanOf s ch).can (i / 64 + 1) = some p ∧ kGet p.bufs (i % 64) = some x ∧ canBinding (chanOf s ch) (i / 64 + 1) (i % 64) = some (n, k) ∧
      kGet (chanOf s ch).graphs n = some g ∧ x.fresh = true ∧ x.shadow = none ∧ x.locked = none ∧ sourceRoom g k = true) :=
  ⟨on { withCan com (port (canPortDefault 1) [(0, { buf with fresh := true })]) with graphs := [(63, canBound)] }, .a, 0, (port (canPortDefault 1)
  [(0, { buf with fresh := true })]), { buf with fresh := true }, canBound, 63, 0, rfl, rfl, (by decide +kernel), rfl, (by decide +kernel),
  (by decide +kernel), (by decide +kernel), (by decide +kernel)⟩

theorem witness_can_reception_5 :
    (∃ (s : State) (ch : Chan) (i : Nat) (p : CanPort) (x : CanBuf),
      kGet (chanOf s ch).can (i / 64 + 1) = some p ∧ kGet p.bufs (i % 64) = some x ∧ (x.locked = some 0 ∨ x.locked = none ∧ x.fresh = false)) :=
  ⟨on (withCan com (port (canPortDefault 1) [(0, { buf with fresh := true, locked := some 0 })])), .a, 0, (port (canPortDefault 1) [(0,
  { buf with fresh := true, locked := some 0 })]), { buf with fresh := true, locked := some 0 }, rfl, rfl, (by decide +kernel)⟩

theorem witness_can_reception_6 :
    (∃ (s : State) (ch : Chan) (i : Nat) (p : CanPort) (x : CanBuf),
      kGet (chanOf s ch).can (i / 64 + 1) = some p ∧ kGet p.bufs (i % 64) = some x ∧ x.locked = none ∧ x.fresh = true ∧ canBinding (chanOf s ch) (i /
      64 + 1) (i % 64) ≠ none) :=
  ⟨on { withCan com (port (canPortDefault 1) [(0, { buf with fresh := true })]) with graphs := [(63, canBound)] }, .a, 0, (port (canPortDefault 1)
  [(0, { buf with fresh := true })]), { buf with fresh := true }, rfl, rfl, (by decide +kernel), (by decide +kernel), (by decide +kernel)⟩

theorem witness_can_reception_7 :
    (∃ (s : State) (ch : Chan) (i : Nat) (p : CanPort) (x : CanBuf),
      kGet (chanOf s ch).can (i / 64 + 1) = some p ∧ kGet p.bufs (i % 64) = some x ∧ x.locked ≠ none ∧ x.shadow = none ∧ x.waiting = []) :=
  ⟨on (withCan com (port (canPortDefault 1) [(0, { buf with locked := some 1 })])), .a, 0, (port (canPortDefault 1) [(0,
  { buf with locked := some 1 })]), { buf with locked := some 1 }, rfl, rfl, (by decide +kernel), (by decide +kernel), (by decide +kernel)⟩

theorem witness_can_reception_8 :
    (∃ (s : State) (ch : Chan) (i : Nat) (p : CanPort) (x : CanBuf) (w : List U32),
      kGet (chanOf s ch).can (i / 64 + 1) = some p ∧ kGet p.bufs (i % 64) = some x ∧ x.locked ≠ none ∧ x.shadow = some w ∧ x.waiting = [] ∧ canBinding
      (chanOf s ch) (i / 64 + 1) (i % 64) = none) :=
  ⟨on (withCan com (port (canPortDefault 1) [(0, { buf with locked := some 0, shadow := some [5] })])), .a, 0, (port (canPortDefault 1) [(0,
  { buf with locked := some 0, shadow := some [5] })]), { buf with locked := some 0, shadow := some [5] }, [5], rfl, rfl, (by decide +kernel),
  (by decide +kernel), (by decide +kernel), (by decide +kernel)⟩

/-! ### service_port_transfers -/

theorem witness_service_port_transfers_1 :
    (∃ (s : State) (ch : Chan) (n : Nat) (index : Nat) (sub : Nat) (r : OdRow) (v : List Byte),
      SvcReady (chanOf s ch) n index sub r ∧ r.access ≠ 3 ∧ r.ty ≠ 0x0F ∧ ¬(index = 0x3100 ∧ sub = 0x10) ∧ ¬(index = 0x2D00 ∧ sub = 0x15) ∧
      ¬(index = 0x2100 ∧ sub = 0x14) ∧ valueOf s.bridge (commitsEnded (chanOf s ch)) r index sub = some v) :=
  ⟨on com, .a, 1, 0x2000, 0, rowAt com 0x2000 0, (valueOf link (commitsEnded com) (rowAt com 0x2000 0) 0x2000 0).getD [],
    (by refine ⟨?_, ?_, ?_, ?_, ?_, ?_⟩ <;> decide +kernel), (by decide +kernel), (by decide +kernel), (by decide +kernel), (by decide +kernel),
    (by decide +kernel), (by decide +kernel)⟩

theorem witness_service_port_transfers_2 :
    (∃ (s : State) (ch : Chan) (n : Nat) (index : Nat) (sub : Nat) (total : Nat) (data : List Byte) (r : OdRow),
      SvcReady (chanOf s ch) n index sub r ∧ r.access ≠ 1 ∧ r.access ≠ 4 ∧ r.ty = 0x0F ∧ isImageKey index sub = false ∧ r.mask.testBit (modeCode
      (chanOf s ch).boot.mode - 1) = true ∧ (chanOf s ch).dict.sessions.any (fun x => x.key == od index sub && x.path != .svc (chanOf s ch).id n &&
      !x.timedOut) = false ∧ total ≤ r.maxLen ∧ data.length ≤ total ∧ data.length ≤ 2147483648) :=
  ⟨on com, .a, 1, 0x2710, 1, 0, [], rowAt com 0x2710 1, (by refine ⟨?_, ?_, ?_, ?_, ?_, ?_⟩ <;> decide +kernel), (by decide +kernel),
  (by decide +kernel), (by decide +kernel), (by decide +kernel), (by decide +kernel), (by decide +kernel), (by decide +kernel), (by decide +kernel),
  (by decide +kernel)⟩

theorem witness_service_port_transfers_3 :
    (∃ (s : State) (ch : Chan) (n : Nat),
      serviceUp (chanOf s ch) n = false) :=
  ⟨on com, .a, 2, (by decide +kernel)⟩

theorem witness_service_port_transfers_4 :
    (∃ (s : State) (ch : Chan) (n : Nat) (x : WSession),
      (chanOf s ch).dict.sessions.find? (fun x => x.path == .svc (chanOf s ch).id n && !x.timedOut) = some x) :=
  ⟨on { com with dict := { dictReset with sessions := [⟨od 0x2710 1, .svc .a 1, 100, [], false⟩] } }, .a, 1, ⟨od 0x2710 1, .svc .a 1, 100, [], false⟩,
    (by decide +kernel)⟩

theorem witness_service_port_transfers_5 :
    (∃ (s : State) (ch : Chan) (n : Nat) (p : CanPort),
      kGet (chanOf s ch).can n = some p ∧ serviceUp (chanOf s ch) n = true ∧ entryNat (chanOf s ch) 0x1017 0 1000 ≠ 0) :=
  ⟨on com, .a, 1, svcPort, rfl, (by decide +kernel), (by decide +kernel)⟩

theorem witness_service_port_transfers_6 :
    (∃ (s : State) (ch : Chan),
      entryNat (chanOf s ch) 0x1017 0 1000 = 0) :=
  ⟨on (withEntry com 0x1017 0 0), .a, (by decide +kernel)⟩

/-! ### pleat_recording -/

theorem witness_pleat_recording_1 :
    (∃ (s : State) (ch : Chan) (d : Nat) (x : PDef),
      kGet (chanOf s ch).pleat.defs d = some x ∧ x.st ≠ .stopped ∧
      (fillRow (chanOf s ch) x.cfg.owner (instantOf x.cfg.rate x.next) x.cfg.sigs x.row).all (fun v => v.isSome) = false) :=
  ⟨on (withPleat com (fun x => { x with defs := [(127, { pdef .armed with cfg := { (pdef .armed).cfg with sigs := [⟨1, 4, 0, 0, 0, 0⟩] } })] })), .a,
    127, { pdef .armed with cfg := { (pdef .armed).cfg with sigs := [⟨1, 4, 0, 0, 0, 0⟩] } }, rfl, (by decide +kernel), (by decide +kernel)⟩

theorem witness_pleat_recording_2 :
    (∃ (s : State) (ch : Chan) (d : Nat) (x : PDef),
      kGet (chanOf s ch).pleat.defs d = some x ∧ x.st ≠ .stopped ∧ x.opened = none ∧
      (fillRow (chanOf s ch) x.cfg.owner (instantOf x.cfg.rate x.next) x.cfg.sigs x.row).all (fun v => v.isSome) = true) :=
  ⟨on (withPleat com (fun x => { x with defs := [(127, pdef .armed)] })), .a, 127, pdef .armed, rfl, (by decide +kernel), (by decide +kernel),
    (by decide +kernel)⟩

theorem witness_pleat_recording_3 :
    (∃ (s : State) (ch : Chan) (d : Nat) (x : PDef) (o : OpenSeg),
      kGet (chanOf s ch).pleat.defs d = some x ∧ x.st = .recording ∧ x.opened = some o ∧ o.last ≤ x.next ∧ (fillRow (chanOf s ch) x.cfg.owner
      (instantOf x.cfg.rate x.next) x.cfg.sigs x.row).all (fun v => v.isSome) = true) :=
  ⟨on (withPleat com (fun x =>
  { x with defs := [(127, { pdef .recording with opened := some ⟨0, 0, 0, 0, 0, false, false, false, 0, 0, false, 0⟩ })] })), .a, 127,
  { pdef .recording with opened := some ⟨0, 0, 0, 0, 0, false, false, false, 0, 0, false, 0⟩ }, ⟨0, 0, 0, 0, 0, false, false, false, 0, 0, false, 0⟩,
  rfl, (by decide +kernel), (by decide +kernel), (by decide +kernel), (by decide +kernel)⟩

theorem witness_pleat_recording_4 :
    (∃ (s : State) (ch : Chan) (d : Nat) (x : PDef),
      kGet (chanOf s ch).pleat.defs d = some x ∧ x.st = .rearming ∧ x.heldTrig = []) :=
  ⟨on (withPleat com (fun x => { x with defs := [(127, pdef .rearming)] })), .a, 127, pdef .rearming, rfl, (by decide +kernel), (by decide +kernel)⟩

theorem witness_pleat_recording_5 :
    (∃ (s : State) (ch : Chan) (d : Nat) (b : Nat) (rest : List (Nat × Nat)) (x : PDef),
      (chanOf s ch).pleat.manual = (d, b) :: rest ∧ kGet (chanOf s ch).pleat.defs d = some x ∧ x.st = .armed ∧
      pinnedRows (chanOf s ch) d + 2 * x.cfg.n ≤ ringRows x.cfg ∧ x.next ≤ numberAt x.cfg.rate b + x.cfg.n - x.cfg.p - 1) :=
  ⟨on (withPleat com (fun x => { x with manual := [(127, 0)] })), .a, 127, 0, [], pdef .armed, (by decide +kernel), rfl, (by decide +kernel),
    (by decide +kernel), (by decide +kernel)⟩

theorem witness_pleat_recording_6 :
    (∃ (s : State) (ch : Chan) (d : Nat) (b : Nat) (rest : List (Nat × Nat)) (x : PDef),
      (chanOf s ch).pleat.manual = (d, b) :: rest ∧ kGet (chanOf s ch).pleat.defs d = some x ∧ x.st = .armed ∧
      ringRows x.cfg < pinnedRows (chanOf s ch) d + 2 * x.cfg.n) :=
  ⟨on (withPleat com (fun x => { x with manual := [(127, 0)], defs := [(127, { pdef .armed with cfg := { (pdef .armed).cfg with n := 65537 } })] })), .a,
    127, 0, [], { pdef .armed with cfg := { (pdef .armed).cfg with n := 65537 } }, (by decide +kernel), rfl, (by decide +kernel), (by decide +kernel)⟩

theorem witness_pleat_recording_7 :
    (∃ (s : State) (ch : Chan) (x : Segment) (rest : List Segment),
      (chanOf s ch).pleat.queue = x :: rest ∧ (chanOf s ch).pleat.writing = none ∧ (chanOf s ch).psu.pwarn = false ∧ runtimeUp (chanOf s ch) = true ∧
      storeUsed (chanOf s ch).pleat.store + storeBlocks x ≤ storeCapacity) :=
  ⟨on (withPleat com (fun x => { x with queue := [seg] })), .a, seg, [], (by decide +kernel), (by decide +kernel), (by decide +kernel),
    (by decide +kernel), (by decide +kernel)⟩

theorem witness_pleat_recording_8 :
    (∃ (s : State) (ch : Chan),
      (chanOf s ch).psu.pwarn = true) :=
  ⟨on { com with psu := { full with pwarn := true } }, .a, (by decide +kernel)⟩

theorem witness_pleat_recording_9 :
    (∃ (s : State) (ch : Chan) (x : Segment),
      (chanOf s ch).pleat.writing = some x) :=
  ⟨on (withPleat com (fun x => { x with writing := some seg })), .a, seg, (by decide +kernel)⟩

/-! ### pleat_segment_needs_room -/

theorem witness_pleat_segment_needs_room_1 :
    (∃ (c : Channel) (d : Nat) (x : PDef),
      kGet c.pleat.defs d = some x ∧ x.st = .armed) :=
  ⟨com, 127, pdef .armed, rfl, (by decide +kernel)⟩

theorem witness_pleat_segment_needs_room_2 :
    (∃ (s : State) (ch : Chan) (d : Nat) (b : Nat) (rest : List (Nat × Nat)),
      (chanOf s ch).pleat.manual = (d, b) :: rest) :=
  ⟨on (withPleat com (fun x => { x with manual := [(127, 0)] })), .a, 127, 0, [], (by decide +kernel)⟩

/-! ### key_commands_take_effect -/

theorem witness_key_commands_take_effect_1 :
    (∃ (s : State) (ch : Chan) (k : PendKey) (rest : List PendKey),
      (chanOf s ch).keys.pend = k :: rest ∧ k.cmd = 3 ∧ (slotAt (chanOf s ch) (kSlot k.body)).st ≠ 0 ∧ holdupOk (chanOf s ch).psu 0 energyKey = true) :=
  ⟨on (withKeys com (fun x => { x with pend := [⟨3, [0, 0, 0xFF, 1], 0⟩], slots := [(511, { keySlotEmpty with st := 1 })] })), .a,
    ⟨3, [0, 0, 0xFF, 1], 0⟩, [], (by decide +kernel), (by decide +kernel), (by decide +kernel), (by decide +kernel)⟩

theorem witness_key_commands_take_effect_2 :
    (∃ (s : State) (ch : Chan) (k : PendKey) (rest : List PendKey),
      (chanOf s ch).keys.pend = k :: rest ∧ k.cmd = 3 ∧ (slotAt (chanOf s ch) (kSlot k.body)).st = 0) :=
  ⟨on (withKeys com (fun x => { x with pend := [⟨3, [0, 0, 0xFF, 1], 0⟩], slots := [] })), .a, ⟨3, [0, 0, 0xFF, 1], 0⟩, [], (by decide +kernel),
    (by decide +kernel), (by decide +kernel)⟩

theorem witness_key_commands_take_effect_3 :
    (∃ (s : State) (ch : Chan) (k : PendKey) (rest : List PendKey),
      (chanOf s ch).keys.pend = k :: rest ∧ k.cmd = 4 ∧ kRights k.body &&& 0x60 = kRights k.body ∧ parentOk (chanOf s ch) (kParent k.body) = true ∧
      kParent k.body < 512 ∧ (slotAt (chanOf s ch) (kSlot k.body)).st = 0 ∧ holdupOk (chanOf s ch).psu 0 energyKey = true) :=
  ⟨on (withKeys com (fun x => { x with pend := [⟨4, deriveBody 0x60, 0⟩], slots := [(511, { keySlotEmpty with st := 1, rights := 0x20 })] })), .a,
    ⟨4, deriveBody 0x60, 0⟩, [], (by decide +kernel), (by decide +kernel), (by decide +kernel), (by decide +kernel), (by decide +kernel),
    (by decide +kernel), (by decide +kernel)⟩

theorem witness_key_commands_take_effect_4 :
    (∃ (s : State) (ch : Chan) (k : PendKey) (rest : List PendKey),
      (chanOf s ch).keys.pend = k :: rest ∧ k.cmd = 4 ∧ kRights k.body &&& 0x60 ≠ kRights k.body) :=
  ⟨on (withKeys com (fun x => { x with pend := [⟨4, deriveBody 0x61, 0⟩], slots := [] })), .a, ⟨4, deriveBody 0x61, 0⟩, [], (by decide +kernel),
    (by decide +kernel), (by decide +kernel)⟩

theorem witness_key_commands_take_effect_5 :
    (∃ (s : State) (ch : Chan) (k : Nat) (x : KeySlot),
      (chanOf s ch).keys.slots.filter (fun p => p.2.uncommitted) = [(k, x)] ∧ holdupOk (chanOf s ch).psu 0 energyKey = true) :=
  ⟨on (withKeys com (fun x => { x with slots := [(511, { keySlotEmpty with uncommitted := true })] })), .a, 511,
    { keySlotEmpty with uncommitted := true }, (by decide +kernel), (by decide +kernel)⟩

theorem witness_key_commands_take_effect_6 :
    (∃ (s : State) (ch : Chan),
      holdupOk (chanOf s ch).psu 0 energyKey = false) :=
  ⟨on { com with psu := supplyReset }, .a, (by decide +kernel)⟩

theorem witness_key_commands_take_effect_7 :
    (∃ (s : State) (ch : Chan) (b : List Byte),
      (chanOf s ch).keys.request = some b) :=
  ⟨on (withKeys com (fun x => { x with request := some [] })), .a, [], (by decide +kernel)⟩

/-! ### zeroisation -/

theorem witness_zeroisation_1 :
    (∃ (s : State) (ch : Chan),
      (chanOf s ch).boot.powered = true) :=
  ⟨on com, .a, (by decide +kernel)⟩

theorem witness_zeroisation_2 :
    (∃ (s : State) (ch : Chan) (ns : Nat),
      (chanOf s ch).boot.powered = true ∧ 1000 ≤ ns) :=
  ⟨on com, .a, 1000, (by decide +kernel), (by decide +kernel)⟩

theorem witness_zeroisation_3 :
    (∃ (ns : Nat),
      ns < 1000) :=
  ⟨999, (by decide +kernel)⟩

theorem witness_zeroisation_4 :
    (∃ (s : State) (ch : Chan),
      (chanOf s ch).boot.powered = false) :=
  ⟨State.reset, .a, (by decide +kernel)⟩

/-! ### ledger_and_snapshots -/

theorem witness_ledger_and_snapshots_1 :
    (∃ (s : State) (ch : Chan) (q : Nat),
      histSampled (chanOf s ch) q = true) :=
  ⟨on com, .a, 1, (by decide +kernel)⟩

theorem witness_ledger_and_snapshots_2 :
    (∃ (s : State) (ch : Chan) (f : LedgerHeader),
      ledgerRuns (chanOf s ch) = true ∧ (chanOf s ch).psu.pwarn = false ∧ (chanOf s ch).ledger.refused = false ∧ (chanOf s ch).ledger.queue = [] ∧
      holdupOk (chanOf s ch).psu 0 energyBatch = true ∧ headerInForce (chanOf s ch).ledgerNv = some f ∧ f.writes.toNat + 1 < 2 ^ 32) :=
  ⟨on { com with ledgerNv := { ledgerNvReset with hdrA := { headerBlank with valid := true } } }, .a, { headerBlank with valid := true },
  (by decide +kernel), (by decide +kernel), (by decide +kernel), (by decide +kernel), (by decide +kernel), (by decide +kernel), (by decide +kernel)⟩

theorem witness_ledger_and_snapshots_3 :
    (∃ (s : State) (ch : Chan),
      ledgerRuns (chanOf s ch) = true ∧ (chanOf s ch).psu.pwarn = false ∧ (chanOf s ch).ledger.refused = false ∧ (chanOf s ch).ledger.queue = [] ∧
      holdupOk (chanOf s ch).psu 0 energyBatch = true ∧ headerInForce (chanOf s ch).ledgerNv = none) :=
  ⟨on com, .a, (by decide +kernel), (by decide +kernel), (by decide +kernel), (by decide +kernel), (by decide +kernel), (by decide +kernel)⟩

theorem witness_ledger_and_snapshots_4 :
    (∃ (s : State) (ch : Chan),
      ledgerRuns (chanOf s ch) = true ∧ (chanOf s ch).psu.pwarn = false ∧ (chanOf s ch).ledger.refused = false ∧ holdupOk (chanOf s ch).psu 0
      energyBatch = false) :=
  ⟨on { com with psu := supplyReset }, .a, (by decide +kernel), (by decide +kernel), (by decide +kernel), (by decide +kernel)⟩

theorem witness_ledger_and_snapshots_5 :
    (∃ (s : State) (ch : Chan),
      (chanOf s ch).psu.pwarn = true ∧ (chanOf s ch).ledger.queue = []) :=
  ⟨on { com with psu := { full with pwarn := true } }, .a, (by decide +kernel), (by decide +kernel)⟩

theorem witness_ledger_and_snapshots_6 :
    (∃ (s : State) (ch : Chan),
      ledgerRuns (chanOf s ch) = true ∧ (chanOf s ch).ledger.refused = true ∧ holdupOk (chanOf s ch).psu 0 energyBatch = true) :=
  ⟨on { com with ledger := { ledgerReset with refused := true } }, .a, (by decide +kernel), (by decide +kernel), (by decide +kernel)⟩

theorem witness_ledger_and_snapshots_7 :
    (∃ (s : State) (ch : Chan),
      holdupOk (chanOf s ch).psu 0 energyBatch = false) :=
  ⟨on { com with psu := supplyReset }, .a, (by decide +kernel)⟩

theorem witness_ledger_and_snapshots_8 :
    (∃ (s : State) (ch : Chan) (k : U64),
      runtimeUp (chanOf s ch) = true ∧ (chanOf s ch).diag.snapT = some k) :=
  ⟨on (withDiag com (fun x => { x with snapT := some 0 })), .a, 0, (by decide +kernel), (by decide +kernel)⟩

theorem witness_ledger_and_snapshots_9 :
    (∃ (s : State) (ch : Chan),
      (chanOf s ch).diag.snapT = none) :=
  ⟨on com, .a, (by decide +kernel)⟩

theorem witness_ledger_and_snapshots_10 :
    (∃ (s : State) (ch : Chan) (k : Nat) (b : SnapBank),
      (chanOf s ch).diag.copying = some (k, b)) :=
  ⟨on (withDiag com (fun x => { x with copying := some (1, ⟨0, 0, 0, 0, false, false, []⟩) })), .a, 1, ⟨0, 0, 0, 0, false, false, []⟩,
    (by decide +kernel)⟩

theorem witness_ledger_and_snapshots_11 :
    (∃ (s : State) (ch : Chan) (i : Nat),
      (injGet (chanOf s ch) i).armed = true) :=
  ⟨on (withDiag com (fun x => { x with inj := [(32, { injReset with armed := true })] })), .a, 32, (by decide +kernel)⟩

theorem witness_ledger_and_snapshots_12 :
    (∃ (s : State) (ch : Chan) (i : Nat),
      (injGet (chanOf s ch) i).armed = false) :=
  ⟨on com, .a, 32, (by decide +kernel)⟩

/-! ### no_stage_saturates_at_the_default_shift -/

theorem witness_no_stage_saturates_at_the_default_shift :
    (∃ (x : Nat → Int × Bool),
      (∀ j, -2147483648 ≤ (x j).1 ∧ (x j).1 ≤ 2147483647)) :=
  ⟨fun _ => (0, false), (fun _ => (by decide : (-2147483648 : Int) ≤ 0 ∧ (0 : Int) ≤ 2147483647))⟩

/-! ### The instructions of the Logic Scan Engine: a program that holds the word, scanning, nothing forced -/
theorem witness_lse_instruction (op a : Nat) : ∃ (s : State) (ch : Chan) (n : Nat) (L : Lse), kGet (chanOf s ch).lse n = some L ∧
    scanFirst (chanOf s ch) n L = true ∧ nth L.prog.code L.r.ip 0 = BitVec.ofNat 32 (op * 16777216 + a) ∧
    forceAt L true (a + 1) = none ∧ forceAt L true (a + 2) = none ∧ forceAt L false a = none :=
  ⟨on (withLse com (coded op a)), .a, 63, coded op a, rfl, rfl, rfl, rfl, rfl, rfl⟩

theorem witness_lse_idle (op a : Nat) : ∃ (s : State) (ch : Chan) (n : Nat) (L : Lse), kGet (chanOf s ch).lse n = some L ∧
    (scanFirst (chanOf s ch) n L = false ∨ nth L.prog.code L.r.ip 0 ≠ BitVec.ofNat 32 (op * 16777216 + a)) :=
  ⟨on (withLse com (ended .running)), .a, 63, ended .running, rfl, Or.inl rfl⟩

/-- A program that holds the word, its block at word 0 forced. -/
def forcedBlock (op : Nat) : Lse :=
  { coded op 0 with forces := [⟨1, 1, 0, 1⟩], prog := { (coded op 0).prog with vars := [⟨1, 2, true, 0, 0⟩] } }

theorem witness_lse_forced_block (op : Nat) : ∃ (s : State) (ch : Chan) (n a : Nat) (L : Lse) (f : U32), kGet (chanOf s ch).lse n = some L ∧
    scanFirst (chanOf s ch) n L = true ∧ nth L.prog.code L.r.ip 0 = BitVec.ofNat 32 (op * 16777216 + a) ∧
    forceAt L true (a + 1) ≠ none ∧ forceAt L true (a + 2) = some f :=
  ⟨on (withLse com (forcedBlock op)), .a, 63, 0, forcedBlock op, 1, rfl, rfl, rfl, (fun h => by cases h), rfl⟩

/-! ### Figures of the spec's worked examples -/
/-- 03, battery string 4: the instants of smpCnt 12,001 and 24,959, the frame of smpCnt 24,000, the automatic counts. -/
theorem test_sample_instants : instantOf 96000 (100 * 96000 + 12001) = 100125010417 ∧ instantOf 96000 (100 * 96000 + 24959) = 100259989583 ∧
    mapSmp 96000 24000 (100250008000 + 1000) = some (100 * 96000 + 24000) := by decide +kernel
theorem test_automatic_counts : (let x := { stream .valid with cfg := { (stream .valid).cfg with rate := 96000 }, loss := 0, ret := 0 }
    (lossCount x, returnCount x)) = (96, 960) := by decide +kernel
/-- 04, the port bus current balance: the conditioning delays of the string and the bus paths. -/
theorem test_conditioning_delay : condDelay ⟨0, 0, 0, 2, 578, [], 0, false⟩ 96000 = 544352 ∧
    condDelay ⟨0, 0, 0, 2, 0, [], 0, false⟩ 96000 = 520833 := by decide +kernel
/-- 08, tile 5 of the reference vessel: its utilisation and the response bounds of the PHASOR and the THERM instance. -/
def tile5 : List PlInst :=
  let p (op cls n : Nat) (params : List U32) : InstRec := ⟨op, cls, List.replicate n ⟨true, 5, 1⟩, [], false, 1, params, 1, []⟩
  [⟨2, 0, p 0x0202 0 1 [0, 0, 0, 8], 96000, deadlineU 0, ofUs 25 + deadlineU 0, 5, 24768⟩,
   ⟨2, 49, p 0x0201 0 2 [], 96000, deadlineU 0, ofUs 25 + deadlineU 0, 5, 24768⟩,
   ⟨2, 2, p 0x0306 0 2 [], 96000, deadlineU 0, ofUs 25 + deadlineU 0, 5, 2880⟩,
   ⟨0, 0, p 0x0101 2 1 [0, 80], 4800, deadlineU 2, ofUs 1000 + deadlineU 2, 5, 47808⟩,
   ⟨2, 3, p 0x010C 4 2 [], 1000, deadlineU 4, 0, 5, 43200⟩]
theorem test_tile_utilisation : pct (tileU tile5) = 2805 := by decide +kernel
theorem test_response_bounds : tile5.map (fun x => toNs (boundW tile5 x)) = [2981, 2981, 2981, 21244, 92724] := by decide +kernel

/-! ### One ill-formed command for each check of a command's form -/
theorem test_ill_formed_places :
  ([.modeRequestHold (.vf 65), .modeRequestHold (.svc .a 5), .portDown .a 13, .egressFrameStart .a 14, .lifeCheckInterval .a 4,
   .evpendW1c .pf0 4 0 0, .canAttemptStart .a ⟨0, false⟩, .canSourceCopy .a ⟨256, false⟩, .sleeveFreeze .pf0 64, .firingRelease .a 63 16384,
   .firingDispatch .a 34, .bankWakeComplete .a 64] : List Instr).all (fun i => !i.wf) = true := by decide +kernel
theorem test_ill_formed_records :
  ([.slotCloseMissing .a 512, .pathCompute .a 2048, .firstGooseFrame .a 256, .svSendDeadline .a 32, .talExpiry .a 1024, .pleatRowCapture ⟨.a, []⟩ 128,
   .pulseActiveEdge .a 4, .injectorDurationExpiry .a 33, .heldEntryGranted .a 8, .sampleBoundary .a 5] : List Instr).all (fun i => !i.wf) = true := by decide +kernel
theorem test_ill_formed_values :
  ([.dictRead .pf0 0 65536 0 0 0, .dictRead .pf0 0 0 256 0 0, .commitFirmwareSlot .pf0 2, .histogramSample .a 7 0, .scrubPass .a 9 0 [],
   .sleeveBehaviour .pf0 0 6, .hostRxFrame .a 65 ⟨[], true⟩, .learnedEntryAgeOut .a 0 4096, .hostAtomicSwap .pf0 0 2 ⟨0, false⟩,
   .registerWrite .pf0 0 2 0, .linkTrained 5 1] : List Instr).all (fun i => !i.wf) = true := by decide +kernel
theorem test_ill_formed_operand : Instr.wf (.lseLd .a 0 16777216) = false := by decide +kernel
theorem test_ill_formed_tag : Instr.wf (.frameReceived .a 1 { frame (.pause 0) with vlan := some ⟨8, false, 1⟩ } ⟨0, 1, []⟩) = false := by decide +kernel
theorem test_ill_formed_can_identifier : Instr.wf (.canFrameReceived .a 1 { canFrame with id := 2048 }) = false := by decide +kernel
theorem test_ill_formed_can_length : Instr.wf (.canFrameReceived .a 1 { canFrame with data := List.replicate 9 0 }) = false := by
  decide +kernel
theorem test_ill_formed_message : Instr.wf (.announceReceived .a 1 { ptp with msgType := 16 }) = false := by decide +kernel
theorem test_well_formed : Instr.wf (.lseLd .b 63 16777215) = true ∧ Instr.wf (.sleeveBehaviour .pf0 63 5) = true := by decide +kernel

/-! ### The front panel (23 R672, R673) -/
theorem test_mode_indicator :
    [Mode.boot, .hold, .commission, .standby, .active, .sealedMode].map (fun m => (modeLamp { channelReset .a with boot := bootOf m }).1) =
      [.flashing .amber 2000, .steady .amber, .flashing .green 2000, .flashing .green 500, .steady .green, .steady .red] := by decide +kernel
theorem test_timing_output_high_impedance :
    timingOutput 1 { channelReset .a with boot := bootOf .sealedMode, gens := [(0, { pgReset with set := { pgSetReset with output := 1 } })] } =
      .highImpedance ∧
    timingOutput 1 { channelReset .a with boot := bootOf .active, gens := [(0, { pgReset with set := { pgSetReset with output := 1 } })] } =
      .level false := by decide +kernel

end Sys2Proof.Tests
end

section
/-! The conditioning stages at the default shift (04 R119, R122): the taps of every coefficient set are not negative and sum to at most
32,768, so a stage's sum of INT32 inputs stays within INT32 times 32,768, where neither clamp of an evaluation acts. -/
namespace Sys2Proof.Machine

/-! ### The taps of a coefficient set -/

theorem sumInt_eq_sum (l : List Int) : sumInt l = l.sum := List.sum_eq_foldl.symm

/-- Where the absolute values sum to no more than the values themselves, no value is negative. -/
theorem nonneg_of_sum_natAbs_le_sum {l : List Int} (h : (l.map (fun a => (a.natAbs : Int))).sum ≤ l.sum) : ∀ a ∈ l, 0 ≤ a := by
  induction l with
  | nil => simp
  | cons a r ih =>
    have rest : r.sum ≤ (r.map (fun b => (b.natAbs : Int))).sum := by
      simpa using List.sum_le_sum (l := r) (f := id) (g := fun b => (b.natAbs : Int)) (fun b _ => by simp only [id]; omega)
    simp only [List.map_cons, List.sum_cons] at h
    exact List.forall_mem_cons.2 ⟨by omega, ih (by omega)⟩

/-- What R120 and R122 ask of a coefficient set, as `tapsOk` has it. -/
theorem tapsOk_sums {n phase : Nat} {l : List Int} (h : tapsOk n phase l = true) :
    l.sum = 32768 ∧ (l.map (fun a => (a.natAbs : Int))).sum ≤ 32768 := by
  simp only [tapsOk, sumInt_eq_sum, Bool.and_eq_true, beq_iff_eq, decide_eq_true_eq] at h
  obtain ⟨⟨⟨⟨-, hsum⟩, habs⟩, -⟩, -⟩ := h
  exact ⟨hsum, habs⟩

/-- A sum over a range that is `v` at one place at most. -/
theorem sum_range_single (n s c : Nat) (v : Int) :
    ((List.range n).map (fun j => if j + s = c then v else 0)).sum = if s ≤ c ∧ c < n + s then v else 0 := by
  induction n with
  | zero => simp
  | succ n ih =>
    rw [List.sum_range_succ, ih]
    split_ifs <;> omega

theorem sum_range_single_le (n s c : Nat) {v : Int} (hv : 0 ≤ v) :
    ((List.range n).map (fun j => if j + s = c then v else 0)).sum ≤ v := by
  rw [sum_range_single]
  split_ifs <;> omega

/-- The nominal set as four single taps about the delay, their sizes from the two shares of the interpolation. -/
theorem tapsNominal_shape (n phase : Nat) : ∃ (k : Nat) (a b : Int), 0 ≤ a ∧ 0 ≤ b ∧ a + b = 32768 ∧
    tapsNominal n phase = (List.range n).map (fun j => (if j + 1 = k then a / 4 else 0) + (if j + 0 = k then a / 2 + b / 4 else 0) +
      (if j + 0 = k + 1 then a / 4 + b / 2 else 0) + (if j + 0 = k + 2 then b / 4 else 0)) := by
  let d := 16384 * (n - 1) + 128 * phase
  refine ⟨d / 32768, 32768 - (d % 32768 : Nat), (d % 32768 : Nat), by omega, by omega, by omega, List.map_congr_left fun j _ => ?_⟩
  split_ifs <;> omega

theorem tapsNominal_nonneg (n phase : Nat) : ∀ h ∈ tapsNominal n phase, 0 ≤ h := by
  obtain ⟨k, a, b, ha, hb, -, shape⟩ := tapsNominal_shape n phase
  simp only [shape, List.forall_mem_map]
  intro j _
  split_ifs <;> omega

theorem tapsNominal_sum_le (n phase : Nat) : (tapsNominal n phase).sum ≤ 32768 := by
  obtain ⟨k, a, b, ha, hb, hab, shape⟩ := tapsNominal_shape n phase
  rw [shape, List.sum_map_add, List.sum_map_add, List.sum_map_add]
  have h1 := sum_range_single_le n 1 k (v := a / 4) (by omega)
  have h2 := sum_range_single_le n 0 k (v := a / 2 + b / 4) (by omega)
  have h3 := sum_range_single_le n 0 (k + 1) (v := a / 4 + b / 2) (by omega)
  have h4 := sum_range_single_le n 0 (k + 2) (v := b / 4) (by omega)
  omega

/-- The taps of every stage and phase: the identity's, the firmware's within the limits, or the nominal ones. -/
theorem taps_nonneg_and_sum_le (g : Stage) (phase : Nat) : (∀ h ∈ taps g phase, 0 ≤ h) ∧ (taps g phase).sum ≤ 32768 := by
  unfold taps
  split
  case isTrue identity => simp
  case isFalse =>
    dsimp only
    split
    case isTrue firmware =>
      obtain ⟨hsum, habs⟩ := tapsOk_sums firmware
      exact ⟨nonneg_of_sum_natAbs_le_sum (by omega), by omega⟩
    case isFalse => exact ⟨tapsNominal_nonneg g.n phase, tapsNominal_sum_le g.n phase⟩

/-! ### The sum of a stage and its evaluation -/

/-- Taps that are not negative keep a stage's sum within the inputs' range times the taps' sum. -/
theorem convolve_mem_range {x : Nat → Int × Bool} {lo hi : Int} (hx : ∀ j, lo ≤ (x j).1 ∧ (x j).1 ≤ hi) (i j : Nat) {l : List Int}
    (hl : ∀ h ∈ l, 0 ≤ h) : l.sum * lo ≤ (convolve x i j l).1 ∧ (convolve x i j l).1 ≤ l.sum * hi := by
  induction l generalizing j with
  | nil => simp [convolve]
  | cons h r ih =>
    obtain ⟨hh, hr⟩ := List.forall_mem_cons.1 hl
    obtain ⟨xlo, xhi⟩ := hx (i + j)
    obtain ⟨rlo, rhi⟩ := ih (j + 1) hr
    simp only [convolve, List.sum_cons, add_mul]
    exact ⟨add_le_add (mul_le_mul_of_nonneg_left xlo hh) rlo, add_le_add (mul_le_mul_of_nonneg_left xhi hh) rhi⟩

theorem clampInt_of_mem {lo hi x : Int} (hlo : lo ≤ x) (hhi : x ≤ hi) : clampInt lo hi x = x := by
  rw [clampInt, if_neg hlo.not_gt, if_neg hhi.not_gt]

/-- At shift 15 no clamp acts on a sum within INT32 times 32,768: the rounding of R119 takes it back into INT32. -/
theorem stageCalc_default_shift_unsaturated {y : Int} (hlo : 32768 * (-2147483648) ≤ y) (hhi : y ≤ 32768 * 2147483647) :
    (stageCalc 15 y).2 = (false, false) := by
  have acc : clampInt (-140737488355328) 140737488355327 y = y := clampInt_of_mem (by omega) (by omega)
  have out : clampInt (-2147483648) 2147483647 ((y + 16384) / 32768) = (y + 16384) / 32768 := clampInt_of_mem (by omega) (by omega)
  simp [stageCalc, acc, out]

/-- Settles O60: the taps are not negative and sum to at most 32,768, which bounds the accumulator on both sides. -/
theorem noStageSaturatesAtTheDefaultShift : Obligations.no_stage_saturates_at_the_default_shift := by
  intro g phase i x hx
  obtain ⟨nonneg, sum_le⟩ := taps_nonneg_and_sum_le g phase
  obtain ⟨hlo, hhi⟩ := convolve_mem_range hx i 0 nonneg
  exact stageCalc_default_shift_unsaturated (by omega) (by omega)

end Sys2Proof.Machine
end

section
/-! The timers and counters of the Logic Scan Engine (11 R347, R348, R357): what a fetched instruction does to its channel, what
writing a block leaves of its words, forced or not, and each instruction as one such writing. -/
namespace Sys2Proof.Machine

/-! ### An instruction that the engine fetches (11 R336, R346) -/

/-- A command that has the engine execute one instruction: its opcode, and what it does to the registers. -/
def Executes (cmd : Chan → Nat → Nat → Instr) (op : Nat) (ins : Lse → Nat → LseRegs → LseRegs) : Prop :=
  ∀ ch n a s, exec (cmd ch n a) s = onLse ch op ins n a s

theorem onlyChan_withChan (s : State) (ch : Chan) (c : Channel) : onlyChan ch s (withChan s ch c) := by
  simp [onlyChan]

/-- The word of the scan that runs first is executed, on the registers of that scan alone. -/
theorem lseStep_fetched {op n a : Nat} {ins : Lse → Nat → LseRegs → LseRegs} {c : Channel} {L : Lse} (hL : kGet c.lse n = some L)
    (hfirst : scanFirst c n L = true) (hcode : nth L.prog.code L.r.ip 0 = BitVec.ofNat 32 (op * 16777216 + a)) :
    lseStep op ins n a c = { c with lse := kPut c.lse n { L with r := ins L a L.r } } := by
  simp only [lseStep, hL, hfirst, hcode, beq_self_eq_true, Bool.and_true, if_true]

theorem lseDoes_of_executes {cmd : Chan → Nat → Nat → Instr} {op : Nat} {ins : Lse → Nat → LseRegs → LseRegs}
    (hcmd : Executes cmd op ins) : LseDoes cmd op (fun L a => ins L a L.r) := by
  intro s ch n a L hL hfirst hcode
  have hstep := lseStep_fetched (c := commitsEnded (chanOf s ch)) (ins := ins) hL hfirst hcode
  refine ⟨_, (hcmd ch n a s).trans (onChan_next ch _ s), ?_, fun m hm => ?_, ?_, onlyChan_withChan s ch _⟩
  · simp only [chanOf_withChan, hstep, kGet_kPut_same]
  · simp only [chanOf_withChan, hstep, kGet_kPut_other _ _ _ _ hm, commitsEnded_lse]
  · simp only [chanOf_withChan, hstep]

/-- The registers that an executed instruction leaves, and its frame. -/
theorem executed_regs {cmd : Chan → Nat → Nat → Instr} {op : Nat} {ins : Lse → Nat → LseRegs → LseRegs}
    (hcmd : Executes cmd op ins) {s : State} {ch : Chan} {n a : Nat} {L : Lse} {r : LseRegs} (hL : kGet (chanOf s ch).lse n = some L)
    (hfirst : scanFirst (chanOf s ch) n L = true) (hcode : nth L.prog.code L.r.ip 0 = BitVec.ofNat 32 (op * 16777216 + a))
    (hr : ins L a L.r = r) : Does (cmd ch n a) s (fun t => kGet (chanOf t ch).lse n = some { L with r := r } ∧ onlyChan ch s t) := by
  obtain ⟨t, hnext, hregs, -, -, hchan⟩ := lseDoes_of_executes hcmd s ch n a L hL hfirst hcode
  exact ⟨t, hnext, hr ▸ hregs, hchan⟩

/-! ### Writing a block (11 R347, R348; forced, R357) -/

theorem lseWord_of_forced {L : Lse} {a : Nat} {f : U32} (r : LseRegs) (h : forceAt L true a = some f) : lseWord L r a = f := by
  simp only [lseWord, h]

theorem lseWord_of_unforced {L : Lse} {a : Nat} (r : LseRegs) (h : forceAt L true a = none) : lseWord L r a = zGet r.words a := by
  simp only [lseWord, h]

theorem lseSetWord_of_forced {L : Lse} {a : Nat} (v : U32) (r : LseRegs) (h : forceAt L true a ≠ none) : lseSetWord L a v r = r := by
  obtain ⟨f, hf⟩ := Option.ne_none_iff_exists'.1 h
  simp only [lseSetWord, hf]

theorem lseSetWord_of_unforced {L : Lse} {a : Nat} (v : U32) (r : LseRegs) (h : forceAt L true a = none) :
    lseSetWord L a v r = { r with words := zPut r.words a v } := by
  simp only [lseSetWord, h]

/-- The status word of a block: Q in bit [0], IN in bit [1]. -/
def blockStatus (q i : Bool) : U32 := (if q then 1 else 0) ||| (if i then 2 else 0)

@[simp] theorem blockStatus_q (q i : Bool) : (blockStatus q i).getLsbD 0 = q := by cases q <;> cases i <;> rfl

@[simp] theorem blockStatus_in (q i : Bool) : (blockStatus q i).getLsbD 1 = i := by cases q <;> cases i <;> rfl

/-- Written with none of the words forced: both words are stored, and B reads back the Q just stored. -/
theorem blockDone_of_unforced {L : Lse} {a : Nat} (v : Int) (q : Bool) (r : LseRegs) (hsecond : forceAt L true (a + 1) = none)
    (hstatus : forceAt L true (a + 2) = none) :
    blockDone L a v q r = { r with
      b := q, words := zPut (zPut r.words (a + 1) (BitVec.ofInt 32 v)) (a + 2) (blockStatus q r.b),
      lastExec := kPut r.lastExec a r.s, ip := r.ip + 1 } := by
  have hq := blockStatus_q q r.b
  unfold blockStatus at hq ⊢
  simp only [blockDone, lseSetWord_of_unforced _ _ hsecond, lseSetWord_of_unforced _ _ hstatus, lseWord_of_unforced _ hstatus,
    zGet_zPut_same, hq, lseB, lseNext]

/-- Written while forced: nothing is stored, and B reads the forced Q. -/
theorem blockDone_of_forced {L : Lse} {a : Nat} {f : U32} (v : Int) (q : Bool) (r : LseRegs) (hsecond : forceAt L true (a + 1) ≠ none)
    (hstatus : forceAt L true (a + 2) = some f) :
    blockDone L a v q r = { r with b := f.getLsbD 0, lastExec := kPut r.lastExec a r.s, ip := r.ip + 1 } := by
  have hstored : forceAt L true (a + 2) ≠ none := by simp [hstatus]
  simp only [blockDone, lseSetWord_of_forced _ _ hsecond, lseSetWord_of_forced _ _ hstored, lseWord_of_forced _ hstatus, lseB, lseNext]

/-! ### An instruction that writes a block -/

/-- The instruction writes its block, with this second word and this Q. -/
def WritesBlock (ins : Lse → Nat → LseRegs → LseRegs) (second : Lse → Nat → Int) (q : Lse → Nat → Bool) : Prop :=
  ∀ L a, ins L a L.r = blockDone L a (second L a) (q L a) L.r

section
variable {cmd : Chan → Nat → Nat → Instr} {op : Nat} {ins : Lse → Nat → LseRegs → LseRegs} {second : Lse → Nat → Int}
  {q : Lse → Nat → Bool}

theorem blockDoes_of_writesBlock (hcmd : Executes cmd op ins) (hins : WritesBlock ins second q) : BlockDoes cmd op second q := by
  intro s ch n a L hL hfirst hcode hsecond hstatus
  have hr := (hins L a).trans (blockDone_of_unforced _ _ _ hsecond hstatus)
  obtain ⟨t, hnext, hregs, hchan⟩ := executed_regs hcmd hL hfirst hcode hr
  refine ⟨t, hnext, _, hregs, rfl, ?_, ?_, ?_, kGet_kPut_same .., fun x hx1 hx2 => ?_, rfl, hchan⟩
  · simp only [zGet_zPut_other _ _ _ _ (show a + 1 ≠ a + 2 by omega), zGet_zPut_same]
  · simp only [zGet_zPut_same, blockStatus_q]
  · simp only [zGet_zPut_same, blockStatus_in]
  · simp only [zGet_zPut_other _ _ _ _ hx1, zGet_zPut_other _ _ _ _ hx2]

theorem blockForced_of_writesBlock (hcmd : Executes cmd op ins) (hins : WritesBlock ins second q) : BlockForced cmd op := by
  intro s ch n a L f hL hfirst hcode hsecond hstatus
  have hr := (hins L a).trans (blockDone_of_forced _ _ _ hsecond hstatus)
  obtain ⟨t, hnext, hregs, hchan⟩ := executed_regs hcmd hL hfirst hcode hr
  exact ⟨t, hnext, _, hregs, rfl, rfl, rfl, hchan⟩

end

/-! ### The timers (11 R347) -/

theorem etRun_eq (L : Lse) (a : Nat) :
    etRun L a L.r = min (lseWord L L.r a).toInt ((lseWord L L.r (a + 1)).toInt + elapsedUs L a) := rfl

/-- The columns of R347's table: IN before (`blockIn`) and IN now (`b`). -/
theorem insTon_writesBlock : WritesBlock insTon tonEt (fun L a => L.r.b && decide ((lseWord L L.r a).toInt ≤ tonEt L a)) := by
  intro L a
  cases hnow : L.r.b <;> cases hbefore : blockIn L a L.r <;> simp [insTon, tonEt, hnow, hbefore, etRun_eq]

theorem insTof_writesBlock : WritesBlock insTof tofEt
    (fun L a => L.r.b || ((blockIn L a L.r || blockQ L a L.r) && decide (tofEt L a < (lseWord L L.r a).toInt))) := by
  intro L a
  cases hnow : L.r.b <;> cases hbefore : blockIn L a L.r <;> simp [insTof, tofEt, hnow, hbefore, etRun_eq]

/-- TP times on while its Q stands; else a rise of IN starts it. -/
theorem insTp_writesBlock : WritesBlock insTp tpEt
    (fun L a => (blockQ L a L.r || blockRise L a L.r) && decide (tpEt L a < (lseWord L L.r a).toInt)) := by
  intro L a
  cases htiming : blockQ L a L.r <;> simp [insTp, tpEt, htiming, etRun_eq]

/-! ### The counters (11 R348) -/

/-- The saturation of a counter, at both ends of I32. -/
theorem clampInt_eq_max_min {lo hi : Int} (h : lo ≤ hi) (x : Int) : clampInt lo hi x = max lo (min hi x) := by
  unfold clampInt
  split_ifs <;> omega

theorem countCv_eq (d : Int) (L : Lse) (a : Nat) : countCv d L a =
    if blockRise L a L.r then clampInt (-2147483648) 2147483647 ((lseWord L L.r (a + 1)).toInt + d)
    else (lseWord L L.r (a + 1)).toInt := by
  simp [countCv, blockRise, clampInt_eq_max_min, and_assoc]

theorem insCtu_writesBlock : WritesBlock insCtu (countCv 1) (fun L a => decide ((lseWord L L.r a).toInt ≤ countCv 1 L a)) := by
  intro L a
  simp only [insCtu, countCv_eq]

theorem insCtd_writesBlock : WritesBlock insCtd (countCv (-1)) (fun L a => decide (countCv (-1) L a ≤ 0)) := by
  intro L a
  simp only [insCtd, countCv_eq, Int.sub_eq_add_neg]

/-! ### The obligations -/

theorem lseTon_executes : Executes .lseTon 0x30 insTon := fun _ _ _ _ => rfl
theorem lseTof_executes : Executes .lseTof 0x31 insTof := fun _ _ _ _ => rfl
theorem lseTp_executes : Executes .lseTp 0x32 insTp := fun _ _ _ _ => rfl
theorem lseCtu_executes : Executes .lseCtu 0x34 insCtu := fun _ _ _ _ => rfl
theorem lseCtd_executes : Executes .lseCtd 0x35 insCtd := fun _ _ _ _ => rfl
theorem lseJmp_executes : Executes .lseJmp 0x40 insJmp := fun _ _ _ _ => rfl

/-- Settles O42: each timer writes its block as R347's table has it, which a force holds back; a jump writes no block. -/
theorem lseTimers : Obligations.lse_timers :=
  ⟨blockDoes_of_writesBlock lseTon_executes insTon_writesBlock, blockDoes_of_writesBlock lseTof_executes insTof_writesBlock,
    blockDoes_of_writesBlock lseTp_executes insTp_writesBlock, lseDoes_of_executes lseJmp_executes,
    blockForced_of_writesBlock lseTon_executes insTon_writesBlock, blockForced_of_writesBlock lseTof_executes insTof_writesBlock,
    blockForced_of_writesBlock lseTp_executes insTp_writesBlock⟩

/-- Settles O43: each counter writes its block with the count held to I32, which a force holds back. -/
theorem lseCounters : Obligations.lse_counters :=
  ⟨blockDoes_of_writesBlock lseCtu_executes insCtu_writesBlock, blockDoes_of_writesBlock lseCtd_executes insCtd_writesBlock,
    blockForced_of_writesBlock lseCtu_executes insCtu_writesBlock, blockForced_of_writesBlock lseCtd_executes insCtd_writesBlock⟩

end Sys2Proof.Machine
end

section
/-! A trigger at an armed definition (18 R546): which counters an event source leaves alone, what closing a segment leaves of the
definition and of NO_ROOM, and the two ends of a trigger, with room in the ring and without. -/
namespace Sys2Proof.Machine

/-! ### The counters under the shared operations -/

theorem zGet_bump_same (i sub : Nat) (c : Channel) : zGet (bump i sub c).ctr (od i sub) = zGet c.ctr (od i sub) + 1 :=
  zGet_zAdd_same c.ctr (od i sub) 1

theorem zGet_bump_other (i sub : Nat) (c : Channel) {k : Nat} (h : k ≠ od i sub) : zGet (bump i sub c).ctr k = zGet c.ctr k :=
  zGet_zAdd_other c.ctr (od i sub) k 1 h

theorem zGet_journalStore_other (r : JRec) (c : Channel) {k : Nat} (h : k ≠ od 0x2F00 0x14) :
    zGet (journalStore r c).ctr k = zGet c.ctr k := by
  unfold journalStore
  split
  case isTrue => rfl
  case isFalse => exact zGet_bump_other _ _ _ h

theorem zGet_journalDrain_other (l : List JRec) (c : Channel) {k : Nat} (h : k ≠ od 0x2F00 0x14) :
    zGet (journalDrain l c).ctr k = zGet c.ctr k := by
  induction l generalizing c with
  | nil => rfl
  | cons r rest ih =>
    unfold journalDrain
    split
    case isTrue => exact (ih _).trans (zGet_journalStore_other _ _ h)
    case isFalse => rfl

/-- The counters that a raised event source may change: its own two (22 R639) and the Journal's overwritten records (20 R608). -/
def raiseCounters (src : Nat) : List Nat := [od 0x3101 (src + 1), od 0x3102 (src + 1), od 0x2F00 0x14]

theorem zGet_raiseNow_other (src sl obj v : Nat) (c : Channel) {k : Nat} (h : k ∉ raiseCounters src) :
    zGet (raiseNow src sl obj v c).ctr k = zGet c.ctr k := by
  simp only [raiseCounters, List.mem_cons, List.not_mem_nil, or_false, not_or] at h
  obtain ⟨hraised, -, hjournal⟩ := h
  have key (body : List Byte) : zGet (journalAdd 5 src sl body (bump 0x3101 (src + 1) c)).ctr k = zGet c.ctr k :=
    (zGet_journalDrain_other _ _ hjournal).trans (zGet_bump_other _ _ _ hraised)
  unfold raiseNow
  split <;> simp [key]

theorem zGet_raiseLimited_other (src sl obj v key : Nat) (c : Channel) {k : Nat} (h : k ∉ raiseCounters src) :
    zGet (raiseLimited src sl obj v key c).ctr k = zGet c.ctr k := by
  unfold raiseLimited
  dsimp only
  split
  case isTrue => exact zGet_raiseNow_other _ _ _ _ _ h
  case isFalse => exact zGet_bump_other _ _ _ (fun e => h (by simp [raiseCounters, e]))

/-- No counter of the recorder's entry is one of these; `od_not_mem_raiseCounters_of_definition` has it of a definition's entry. -/
theorem od_not_mem_raiseCounters_of_recorder {src : Nat} (h : src < 256) (sub : Nat) (hs : sub < 256) :
    od 0x2D00 sub ∉ raiseCounters src := by
  simp only [raiseCounters, od, List.mem_cons, List.not_mem_nil, or_false]
  omega

theorem od_not_mem_raiseCounters_of_definition {src : Nat} (h : src < 256) (d sub : Nat) : od (defIndex d) sub ∉ raiseCounters src := by
  simp only [raiseCounters, od, defIndex, List.mem_cons, List.not_mem_nil, or_false]
  omega

theorem od_recorder_ne_od_definition (d sub sub' : Nat) (h : sub < 256) : od 0x2D00 sub ≠ od (defIndex d) sub' := by
  simp only [od, defIndex]
  omega

/-! ### A definition put back and a segment closed -/

@[simp] theorem kGet_putDef_same (d : Nat) (x : PDef) (c : Channel) : kGet (putDef d x c).pleat.defs d = some x :=
  kGet_kPut_same c.pleat.defs d x

@[simp] theorem putDef_ctr (d : Nat) (x : PDef) (c : Channel) : (putDef d x c).ctr = c.ctr := rfl

theorem closeSegment_definition {d : Nat} {x : PDef} {o : OpenSeg} {c : Channel} (hx : kGet c.pleat.defs d = some x)
    (ho : x.opened = some o) (last : Nat) (trunc : Bool) (next : DefState) :
    kGet (closeSegment d last trunc next c).pleat.defs d = some { x with opened := none, st := next, rearmAt := c.time.up } := by
  simp only [closeSegment, hx, ho, bump_time]
  split_ifs <;> simp

/-- Closing a segment counts it, and one with damaged rows, and leaves the recorder's other counters. -/
theorem zGet_closeSegment_recorder (d last : Nat) (trunc : Bool) (next : DefState) (c : Channel) {sub : Nat} (hs : sub < 256)
    (hclosed : sub ≠ 5) (hdamaged : sub ≠ 8) :
    zGet (closeSegment d last trunc next c).ctr (od 0x2D00 sub) = zGet c.ctr (od 0x2D00 sub) := by
  have hne {i : Nat} (h : sub ≠ i) : od 0x2D00 sub ≠ od 0x2D00 i := by simpa [od] using h
  have hevent := od_not_mem_raiseCounters_of_recorder (src := 49) (by decide) sub hs
  have hdamage := od_not_mem_raiseCounters_of_recorder (src := 52) (by decide) sub hs
  unfold closeSegment
  split
  case h_1 => rfl
  case h_2 =>
    split
    case h_1 => rfl
    case h_2 =>
      dsimp only
      split_ifs <;>
        simp [raise, zGet_raiseLimited_other, zGet_raiseNow_other, zGet_bump_other, hevent, hdamage, hne hclosed, hne hdamaged,
          od_recorder_ne_od_definition d sub 2 hs]

/-- The definition after its segment closes, if it is done: as it was, or re-arming. -/
theorem closeIfDone_definition {d : Nat} {x : PDef} {c : Channel} (hx : kGet c.pleat.defs d = some x) :
    ∃ y, kGet (closeIfDone d c).pleat.defs d = some y ∧ (y = x ∨ y.st = .rearming) := by
  simp only [closeIfDone, hx]
  cases ho : x.opened with
  | none => exact ⟨x, hx, .inl rfl⟩
  | some o =>
    by_cases hdone : o.last < x.next
    · exact ⟨_, by simpa [hdone] using closeSegment_definition hx ho o.last false .rearming, .inr rfl⟩
    · exact ⟨x, by simpa [hdone] using hx, .inl rfl⟩

theorem zGet_closeIfDone_noRoom (d : Nat) (c : Channel) : zGet (closeIfDone d c).ctr (od 0x2D00 7) = zGet c.ctr (od 0x2D00 7) := by
  unfold closeIfDone
  split
  case h_1 => rfl
  case h_2 =>
    split
    case h_1 =>
      split
      case isTrue => exact zGet_closeSegment_recorder _ _ _ _ _ (by decide) (by decide) (by decide)
      case isFalse => rfl
    case h_2 => rfl

/-! ### A trigger at an armed definition (18 R546) -/

theorem triggerDef_armed {c : Channel} {d : Nat} {x : PDef} (hx : kGet c.pleat.defs d = some x) (harmed : x.st = .armed) (src b : Nat) :
    triggerDef d src b c = openSegment d src b x c := by
  simp only [triggerDef, hx, harmed]

theorem openSegment_of_room {d : Nat} {x : PDef} {c : Channel} (hroom : pinnedRows c d + 2 * x.cfg.n ≤ ringRows x.cfg) (src b : Nat) :
    (∃ y, kGet (openSegment d src b x c).pleat.defs d = some y ∧ y.st ≠ .armed) ∧
      zGet (openSegment d src b x c).ctr (od 0x2D00 7) = zGet c.ctr (od 0x2D00 7) := by
  rw [openSegment, if_neg (by omega)]
  refine ⟨?_, zGet_closeIfDone_noRoom d _⟩
  obtain ⟨y, hy, hst⟩ := closeIfDone_definition (kGet_putDef_same d _ c)
  refine ⟨y, hy, ?_⟩
  rcases hst with rfl | hst
  · simp
  · simp [hst]

theorem openSegment_of_no_room {d : Nat} {x : PDef} {c : Channel} (hfull : ringRows x.cfg < pinnedRows c d + 2 * x.cfg.n) (src b : Nat) :
    openSegment d src b x c = raiseLimited 50 x.cfg.owner d 0 d (bump (defIndex d) 5 (bump 0x2D00 7 c)) := if_pos hfull

/-- A refused trigger adds one to NO_ROOM, the recorder's and the definition's. -/
theorem zGet_openSegment_of_no_room {d : Nat} {x : PDef} {c : Channel} (hfull : ringRows x.cfg < pinnedRows c d + 2 * x.cfg.n)
    (src b : Nat) :
    zGet (openSegment d src b x c).ctr (od 0x2D00 7) = zGet c.ctr (od 0x2D00 7) + 1 ∧
      zGet (openSegment d src b x c).ctr (od (defIndex d) 5) = zGet c.ctr (od (defIndex d) 5) + 1 := by
  have hne := od_recorder_ne_od_definition d 7 5 (by decide)
  rw [openSegment_of_no_room hfull, zGet_raiseLimited_other _ _ _ _ _ _ (od_not_mem_raiseCounters_of_recorder (by decide) 7 (by decide)),
    zGet_raiseLimited_other _ _ _ _ _ _ (od_not_mem_raiseCounters_of_definition (by decide) d 5)]
  constructor
  · rw [zGet_bump_other _ _ _ hne, zGet_bump_same]
  · rw [zGet_bump_same, zGet_bump_other _ _ _ hne.symm]

theorem manualTriggerInstantC_cons {c : Channel} {d b : Nat} {rest : List (Nat × Nat)} (h : c.pleat.manual = (d, b) :: rest) :
    manualTriggerInstantC c = triggerDef d 0x8000 b (advanceTo b { c with pleat := { c.pleat with manual := rest } }) := by
  rw [manualTriggerInstantC, h]

/-- Settles O56: the two ends of a trigger at an armed definition, by the room in its ring; a manual trigger's instant is one. -/
theorem pleatSegmentNeedsRoom : Obligations.pleat_segment_needs_room := by
  refine ⟨fun c d src b x hx harmed => ?_, fun s ch d b rest hmanual => ?_⟩
  · rw [triggerDef_armed hx harmed]
    constructor
    · intro hroom
      obtain ⟨⟨y, hy, hst⟩, hctr⟩ := openSegment_of_room (c := c) (d := d) (x := x) (by omega) src b
      exact ⟨y, hy, hst, hctr⟩
    · intro hfull
      have hfull' : ringRows x.cfg < pinnedRows c d + 2 * x.cfg.n := by omega
      refine ⟨?_, zGet_openSegment_of_no_room hfull' src b⟩
      rw [openSegment_of_no_room hfull', raiseLimited_pleat, bump_pleat, bump_pleat, hx]
  · exact ⟨_, onChan_next ch manualTriggerInstantC s,
      (chanOf_withChan _ _ _).trans (manualTriggerInstantC_cons (c := commitsEnded (chanOf s ch)) hmanual)⟩

end Sys2Proof.Machine
end

section
/-! What a step leaves of the queue, the fuses, the supply and the host bridge (01 R18, R20; 15 R449, R450; 23 R654, R659): one relation
between a state and the next, kept by every way in which a meaning acts on the block, and from it the block's invariant. -/
namespace Sys2Proof.Machine

open Sys2Proof

/-! ### What a transition keeps -/

/-- A transition that leaves the queue alone, closes no fuse, and keeps the block's invariant. -/
structure Keeps (s t : State) : Prop where
  pending : t.pending = s.pending
  fuseA : t.fuseA = true → s.fuseA = true
  fuseB : t.fuseB = true → s.fuseB = true
  inv : Inv s → Inv t

theorem Keeps.refl (s : State) : Keeps s s := ⟨rfl, id, id, id⟩

theorem Keeps.trans {s t u : State} (h : Keeps s t) (k : Keeps t u) : Keeps s u :=
  ⟨k.pending.trans h.pending, h.fuseA ∘ k.fuseA, h.fuseB ∘ k.fuseB, k.inv ∘ h.inv⟩

/-- A meaning that answers a next state and keeps what `Keeps` says. -/
def Answers (o : Host.Outcome State Fault Refusal) (s : State) : Prop := ∃ t, o = .next t ∧ Keeps s t

theorem answers_next {s t : State} (h : Keeps s t) : Answers (.next t) s := ⟨t, rfl, h⟩

/-- What is done to the answer of a meaning keeps what the meaning kept. -/
theorem Answers.after {o : Host.Outcome State Fault Refusal} {s : State} {f : State → State} (h : Answers o s) (hf : ∀ t, Keeps t (f t)) :
    Answers (match (generalizing := false) o with | .next t => .next (f t) | o => o) s := by
  obtain ⟨t, rfl, ht⟩ := h
  exact ⟨f t, rfl, ht.trans (hf t)⟩

theorem keeps_withChan (s : State) (ch : Chan) (c : Channel) : Keeps s (withChan s ch c) := by
  cases ch <;> exact ⟨rfl, id, id, id⟩

/-- Channels may change, and the bridge where it stays in order. -/
theorem keeps_of_supply {s t : State} (hpend : t.pending = s.pending) (hsup : t.supply = s.supply) (ha : t.fuseA = s.fuseA)
    (hb : t.fuseB = s.fuseB) (hbr : bridgeOk s.bridge = true → bridgeOk t.bridge = true) : Keeps s t :=
  ⟨hpend, fun h => ha ▸ h, fun h => hb ▸ h, fun h => ⟨hsup ▸ h.1, hbr h.2⟩⟩

theorem keeps_bridge {s : State} (b : Bridge) (hb : bridgeOk s.bridge = true → bridgeOk b = true) : Keeps s { s with bridge := b } :=
  keeps_of_supply rfl rfl rfl rfl hb

/-- The fields of the bridge that its invariant does not read may change. -/
theorem bridgeOk_congr {b b' : Bridge} (hf : b'.failed = b.failed) (hs : b'.speed = b.speed) (hw : b'.width = b.width)
    (he : b'.vfEnable = b.vfEnable) (hn : b'.numVfs = b.numVfs) (hh : b'.held = b.held ∨ b'.held = []) (h : bridgeOk b = true) :
    bridgeOk b' = true := by
  simp only [bridgeOk, Bool.and_eq_true, Bool.or_eq_true, hf, hs, hw, he, hn] at h ⊢
  obtain ⟨h4, h5⟩ := h
  refine ⟨h4, ?_⟩
  rcases hh with hh | hh
  · rwa [hh]
  · exact h5.imp_right (fun h => ⟨h.1, by simp [hh]⟩)

theorem keeps_noteServing (s : State) : Keeps s (noteServing s) :=
  keeps_bridge _ (bridgeOk_congr rfl rfl rfl rfl rfl (.inl rfl))

/-! ### Requests through a path (15 R449, R450, R462) -/

theorem bridge_lives_of_carries {s : State} {p : Path} (h : bridgeCarries s p = true) (hp : pathBoth p = true) : s.bridge.failed = false := by
  cases p <;> simp_all [bridgeCarries, pathBoth]

theorem keeps_holdRequest {s : State} (i : Instr) (h : s.bridge.failed = false) : Keeps s (holdRequest i s) := by
  unfold holdRequest
  dsimp only
  split <;> exact keeps_of_supply rfl rfl rfl rfl (by simp [bridgeOk, h])

theorem keeps_abortHeld (s : State) : Keeps s (abortHeld s) := by
  unfold abortHeld
  split
  · exact Keeps.refl s
  · dsimp only
    split <;> exact keeps_of_supply rfl rfl rfl rfl (bridgeOk_congr rfl rfl rfl rfl rfl (.inr rfl))

theorem answers_onChan (ch : Chan) (f : Channel → Channel) (s : State) : Answers (onChan ch f s) s :=
  answers_next (keeps_withChan s ch _)

theorem answers_onPath (p : Path) (i : Instr) (f : Channel → Channel) (s : State) : Answers (onPath p i f s) s := by
  unfold onPath
  split_ifs with hc hh hb
  · exact answers_next (Keeps.refl s)
  · simp only [Bool.and_eq_true] at hh
    exact answers_next (keeps_holdRequest i (bridge_lives_of_carries (by simpa using hc) hh.1))
  · exact answers_next ((keeps_abortHeld s).trans (keeps_withChan _ _ _))
  · exact answers_onChan _ f s

theorem keeps_clearTakeover (p : Path) (s : State) : Keeps s (clearTakeover p s) := by
  unfold clearTakeover
  split
  · split
    · exact keeps_bridge _ (bridgeOk_congr rfl rfl rfl rfl rfl (.inl rfl))
    · exact keeps_bridge _ (bridgeOk_congr rfl rfl rfl rfl rfl (.inl rfl))
    · exact Keeps.refl s
  · exact Keeps.refl s

theorem Keeps.answers {s s' : State} {o : Host.Outcome State Fault Refusal} (h : Keeps s s') (k : Answers o s') : Answers o s := by
  obtain ⟨t, rfl, ht⟩ := k
  exact ⟨t, rfl, h.trans ht⟩

/-- A register write that may clear FSTAT.TAKEOVER first (15 R457). -/
theorem answers_clearing (q : Bool) (p : Path) (i : Instr) (f : Channel → Channel) (s : State) :
    Answers (onPath p i f (if q then clearTakeover p s else s)) s := by
  cases q
  · exact answers_onPath p i f s
  · exact (keeps_clearTakeover p s).answers (answers_onPath p i f _)

theorem keeps_onHostBoth (f : Channel → Channel) (s : State) : Keeps s (onHostBoth f s) := keeps_of_supply rfl rfl rfl rfl id

/-- VF Enable cleared leaves the bridge's fields in order (15 R450). -/
theorem keeps_vfDisabled (s : State) : Keeps s { s with bridge := { s.bridge with vfEnable := false } } :=
  keeps_bridge _ (fun h => by simp_all [bridgeOk])

theorem keeps_flrNow (p : Path) (s : State) : Keeps s (flrNow p s) := by
  cases p with
  | pf0 => exact (keeps_vfDisabled s).trans (keeps_onHostBoth (fun c => disableVfRings (disableRing 0 c)) _)
  | vf n => exact keeps_onHostBoth (fun c => clearEven n (disableRing n c)) s
  | pf1 => exact keeps_withChan s .a _
  | pf2 => exact keeps_withChan s .b _
  | svc ch n => exact Keeps.refl s

theorem answers_functionLevelReset (p : Path) (s : State) : Answers (execFunctionLevelReset p s) s := by
  unfold execFunctionLevelReset
  split_ifs with hc hh
  · exact answers_next (Keeps.refl s)
  · simp only [Bool.and_eq_true] at hh
    exact answers_next (keeps_holdRequest _ (bridge_lives_of_carries (by simpa using hc) hh.1))
  · exact answers_next (keeps_flrNow p s)

theorem keeps_noteTx (r : Nat) (before after : Channel) (t : State) : Keeps t (noteTx r before after t) := by
  unfold noteTx
  dsimp only
  split
  · exact Keeps.refl t
  · exact keeps_bridge _ (bridgeOk_congr rfl rfl rfl rfl rfl (.inl rfl))

theorem keeps_noteRx (r : Nat) (before after : Channel) (t : State) : Keeps t (noteRx r before after t) := by
  unfold noteRx
  dsimp only
  split
  · exact Keeps.refl t
  · exact keeps_bridge _ (bridgeOk_congr rfl rfl rfl rfl rfl (.inl rfl))

theorem answers_hostTxFrame (p : Path) (d : TxFetch) (s : State) : Answers (execHostTxFrame p d s) s := by
  cases p with
  | pf0 => exact (answers_onPath .pf0 _ _ s).after (fun t => keeps_noteTx _ _ _ t)
  | vf n => exact (answers_onPath (.vf n) _ _ s).after (fun t => keeps_noteTx _ _ _ t)
  | _ => exact answers_next (Keeps.refl s)

theorem answers_ringInterrupt (p : Path) (rx : Bool) (s : State) : Answers (execRingInterrupt p rx s) s := by
  cases p with
  | pf0 => exact answers_onPath .pf0 _ _ s
  | vf n => exact answers_onPath (.vf n) _ _ s
  | _ => exact answers_next (Keeps.refl s)

theorem keeps_commitBoth (n : Nat) (ch : Chan) (before t : State) : Keeps t (commitBoth n ch before t) := by
  unfold commitBoth
  split
  · split
    · exact keeps_withChan t _ _
    · exact Keeps.refl t
  · exact Keeps.refl t

theorem answers_commitFirmwareSlot (p : Path) (n : Nat) (s : State) : Answers (execCommitFirmwareSlot p n s) s :=
  (answers_onPath p _ _ s).after (fun t => keeps_commitBoth n _ s t)

/-- Every request of the host is answered, now or when the bridge that held it passes it on. -/
theorem answers_heldMeaning (i : Instr) (s : State) : Answers (heldMeaning i s) s := by
  cases i
  case commitFirmwareSlot p n => exact answers_commitFirmwareSlot p n s
  case functionLevelReset p => exact answers_functionLevelReset p s
  case hostTxFrame p d => exact answers_hostTxFrame p d s
  case ringInterrupt p rx => exact answers_ringInterrupt p rx s
  case registerWrite p off size v => exact answers_clearing _ p _ _ s
  case fstatW1c p mask => exact answers_clearing _ p _ _ s
  all_goals first | exact answers_onPath _ _ _ s | exact answers_next (Keeps.refl s)

theorem keeps_runHeld (ch : Chan) (l : List (Instr × Nat)) (s : State) : Keeps s (runHeld ch l s) := by
  induction l generalizing s with
  | nil => exact Keeps.refl s
  | cons x r ih =>
    obtain ⟨t, ht, hk⟩ := answers_heldMeaning x.1 (noteHold ch x.2 s)
    have hnote : Keeps s (noteHold ch x.2 s) := keeps_withChan s ch _
    simp only [runHeld, ht]
    exact (hnote.trans hk).trans (ih t)

theorem answers_cuffOpen (ch : Chan) (s : State) : Answers (execCuffOpen ch s) s := by
  unfold execCuffOpen
  dsimp only
  split
  · exact answers_next (Keeps.refl s)
  · split
    · exact answers_next (Keeps.refl s)
    · refine answers_next (((keeps_withChan s ch _).trans (keeps_bridge _ ?_)).trans (keeps_runHeld ch _ _))
      exact bridgeOk_congr rfl rfl rfl rfl rfl (.inr rfl)
end Sys2Proof.Machine
end

section
/-! Every command answers a next state and, but for VIN applied from OFF, keeps what `Keeps` says: by the way in which its meaning
acts on the block (23 R654 to R662; 01 R20; 12 R370; 15 R449, R450). -/
namespace Sys2Proof.Machine

open Sys2Proof

/-! ### The supply stage (23 R654 to R662) -/

theorem supplyOk_congr {p q : Supply} (hst : q.st = p.st) (hpwarn : q.pwarn = p.pwarn) (hdis : q.discharge = p.discharge)
    (hlin : q.linState = p.linState) (h : supplyOk p = true) : supplyOk q = true := by
  unfold supplyOk at h ⊢
  rwa [hst, hpwarn, hdis, hlin]

theorem supplyOk_sampled (x : SupSample) {p : Supply} (h : supplyOk p = true) : supplyOk (sampled x p) = true :=
  supplyOk_congr (sampled_st x p) (sampled_pwarn x p) (sampled_discharge x p) (sampled_linState x p) h

/-- In service, or wherever the Lining is not DISCHARGED, its state is free. -/
theorem supplyOk_linState {p : Supply} (l : LiningState) (hp : p.linState ≠ .discharged ∨ p.st ≠ .reset) (h : supplyOk p = true) :
    supplyOk { p with linState := l } = true := by
  rcases p with ⟨_, _, _, _, _, _, st, _, _, _, _⟩
  cases st <;> simp_all [supplyOk]

theorem answers_onSupply (x : SupSample) (f : Supply → Supply) (g : Channel → Channel) (s : State)
    (hf : supplyOk (sampled x s.supply) = true → supplyOk (f (sampled x s.supply)) = true) : Answers (onSupply x f g s) s :=
  answers_next ⟨rfl, id, id, fun h => ⟨hf (supplyOk_sampled x h.1), h.2⟩⟩

theorem answers_onSample (x : SupSample) (s : State) : Answers (onSample x s) s := answers_onSupply x id id s id

theorem bridgeOk_bridgeOff (b : Bridge) : bridgeOk (bridgeOff b) = true := rfl

theorem keeps_bridgeOff (s : State) : Keeps s { s with bridge := bridgeOff s.bridge } := keeps_bridge _ (fun _ => bridgeOk_bridgeOff _)

theorem answers_pwarnAsserted (x : SupSample) (s : State) : Answers (execPwarnAsserted x s) s := by
  unfold execPwarnAsserted
  dsimp only
  split
  case h_1 hst =>
    split
    · exact answers_onSupply _ _ _ _ (fun h => by simp_all [supplyOk])
    · exact answers_onSample x s
  case h_2 => exact answers_onSample x s

theorem answers_pwarnCleared (x : SupSample) (us : Nat) (s : State) : Answers (execPwarnCleared x us s) s := by
  unfold execPwarnCleared
  dsimp only
  split
  case h_1 hst =>
    split
    · exact answers_onSupply _ _ _ _ (fun h => by simp_all [supplyOk])
    · exact answers_onSample x s
  case h_2 => exact answers_onSample x s

theorem answers_liningBusBelowReset (x : SupSample) (s : State) : Answers (execLiningBusBelowReset x s) s := by
  unfold execLiningBusBelowReset
  split
  case h_1 hst =>
    split
    · exact (keeps_bridgeOff s).answers (answers_onSupply _ _ _ _ (fun h => by simp_all [supplyOk]))
    · exact answers_onSample x s
  case h_2 => exact answers_onSample x s

theorem answers_resetReleased (x : SupSample) (s : State) : Answers (execResetReleased x s) s := by
  unfold execResetReleased
  dsimp only
  split
  case h_1 hst =>
    split
    · exact answers_next ⟨rfl, id, id, fun h => ⟨rfl, h.2⟩⟩
    · exact answers_onSample x s
  case h_2 => exact answers_onSample x s

theorem answers_supplyOff (x : SupSample) (s : State) : Answers (execSupplyOff x s) s := by
  unfold execSupplyOff
  dsimp only
  split
  case h_1 hst =>
    split
    · exact (keeps_bridgeOff s).answers (answers_onSupply _ _ _ _ (fun _ => rfl))
    · exact answers_onSample x s
  case h_2 => exact answers_onSample x s

theorem answers_holdupConnect (x : SupSample) (s : State) : Answers (execHoldupConnect x s) s := by
  refine answers_onSupply _ _ _ _ (fun h => ?_)
  split
  case isTrue hc => exact supplyOk_linState _ (.inr (by rintro hr; simp_all [inService])) h
  case isFalse => exact h

theorem answers_holdupDisconnect (x : SupSample) (s : State) : Answers (execHoldupDisconnect x s) s := by
  refine answers_onSupply _ _ _ _ (fun h => ?_)
  split
  case isTrue hc => exact supplyOk_linState _ (.inl (by simp_all)) h
  case isFalse => exact h

theorem answers_liningCharged (x : SupSample) (cap : Nat) (s : State) : Answers (execLiningCharged x cap s) s := by
  refine answers_onSupply _ _ _ _ (fun h => ?_)
  split
  case isTrue hc => exact supplyOk_congr rfl rfl rfl rfl (supplyOk_linState .charged (.inl (by simp_all)) h)
  case isFalse => exact h

theorem answers_liningLeavesCharged (x : SupSample) (s : State) : Answers (execLiningLeavesCharged x s) s := by
  refine answers_onSupply _ _ _ _ (fun h => ?_)
  split
  case isTrue hc => exact supplyOk_linState _ (.inl (by simp_all)) h
  case isFalse => exact h

theorem answers_fuseOpen (ch : Chan) (mA us : Nat) (s : State) : Answers (execFuseOpen ch mA us s) s := by
  have opens (t : State) (ht : Keeps s t) : Keeps s { t with fuseA := false } ∧ Keeps s { t with fuseB := false } :=
    ⟨⟨ht.pending, nofun, ht.fuseB, ht.inv⟩, ⟨ht.pending, ht.fuseA, nofun, ht.inv⟩⟩
  cases ch <;> unfold execFuseOpen <;> dsimp only <;> split
  · exact answers_next (opens _ (keeps_withChan s .a _)).1
  · exact answers_next (Keeps.refl s)
  · exact answers_next (opens _ (keeps_withChan s .b _)).2
  · exact answers_next (Keeps.refl s)

/-- VIN applied is the one command that closes a fuse, and only from OFF. -/
theorem vinApplied_answers (x : SupSample) (s : State) :
    ∃ t, execVinApplied x s = .next t ∧ t.pending = s.pending ∧ (Inv s → Inv t) ∧ (s.supply.st ≠ .off → Keeps s t) := by
  have sample : ∃ t, onSample x s = .next t ∧ t.pending = s.pending ∧ (Inv s → Inv t) ∧ (s.supply.st ≠ .off → Keeps s t) := by
    obtain ⟨t, ht, hk⟩ := answers_onSample x s
    exact ⟨t, ht, hk.pending, hk.inv, fun _ => hk⟩
  unfold execVinApplied
  dsimp only
  split
  case h_1 hst =>
    split
    · exact ⟨_, rfl, rfl, fun h => ⟨rfl, h.2⟩, fun hoff => absurd ((sampled_st x _).symm.trans hst) hoff⟩
    · exact sample
  case h_2 => exact sample

/-! ### The host bridge itself (01 R20; 15 R449, R450) -/

theorem answers_perstAsserted (s : State) : Answers (execPerstAsserted s) s :=
  answers_next (keeps_bridge _ (fun _ => by simp [bridgeOk]))

theorem answers_linkTrained (speed width : Nat) (s : State) : Answers (execLinkTrained speed width s) s := by
  unfold execLinkTrained
  dsimp only
  split
  case isTrue h =>
    simp only [Bool.and_eq_true, inRange, decide_eq_true_eq] at h
    obtain ⟨⟨⟨-, hfailed⟩, hspeed⟩, hwidth⟩ := h
    refine answers_next (keeps_bridge _ (fun hb => ?_))
    simp_all [bridgeOk]
  case isFalse => exact answers_next (Keeps.refl s)

theorem answers_hostBridgeFailure (s : State) : Answers (execHostBridgeFailure s) s :=
  answers_next (keeps_bridge _ (fun h => by simp_all [bridgeOk]))

theorem answers_vfEnableWrite (enable : Bool) (n : Nat) (s : State) : Answers (execVfEnableWrite enable n s) s := by
  unfold execVfEnableWrite
  split
  · exact answers_next (Keeps.refl s)
  · split
    · split
      · exact answers_next (Keeps.refl s)
      case isFalse h =>
        refine answers_next (keeps_bridge _ (fun hb => ?_))
        simp_all [bridgeOk, inRange]
    · exact answers_next ((keeps_vfDisabled s).trans (keeps_onHostBoth disableVfRings _))

/-! ### Commands of one channel, and records of the Seam -/

/-- An event of one channel puts another value in that channel's place, and does no more. -/
theorem exec_ownChannel {i : Instr} {ch : Chan} (h : ownChannel i = some ch) (s : State) : ∃ c, exec i s = .next (withChan s ch c) := by
  cases i <;> simp only [ownChannel, reduceCtorEq, Option.some.injEq] at h <;> subst h <;> exact ⟨_, rfl⟩

theorem answers_recv {α : Type} (ch : Chan) (ok : Bool) (pick : MRec → Option α) (f : α → Channel → Channel → Channel) (s : State) :
    Answers (recv ch ok pick f s) s := by
  unfold recv
  dsimp only
  split
  · exact answers_next (Keeps.refl s)
  · split_ifs
    · exact answers_next (Keeps.refl s)
    · exact answers_next (keeps_withChan s _ _)
    · exact answers_next ((keeps_withChan s _ _).trans (keeps_withChan _ _ _))

theorem answers_finalRecord (ch : Chan) (ok : Bool) (s : State) : Answers (execFinalRecord ch ok s) s := by
  unfold execFinalRecord
  split
  · exact answers_next (Keeps.refl s)
  · exact answers_recv _ _ _ _ s

/-- A meaning of one channel after which the bridge notes which channel serves. -/
theorem answers_thenNoted (ch : Chan) (f : Channel → Channel → Channel) (s : State) :
    Answers (match onChanTwin ch f s with | .next t => .next (noteServing t) | o => o) s :=
  answers_next ((keeps_withChan s ch _).trans (keeps_noteServing _))

theorem keeps_placerSettle (s : State) : Keeps s (placerSettle s) := by
  unfold placerSettle
  split
  · exact (keeps_of_supply rfl rfl rfl rfl id : Keeps s { s with a := settleDeletion s.a, b := settleDeletion s.b }).trans
      (keeps_withChan _ _ _)
  · exact Keeps.refl s

theorem answers_onChanPlacer (ch : Chan) (f : Channel → Channel) (s : State) : Answers (onChanPlacer ch f s) s :=
  (answers_onChan ch f s).after keeps_placerSettle

theorem answers_hostRxFrame (ch : Chan) (r : Nat) (d : RxFetch) (s : State) : Answers (execHostRxFrame ch r d s) s := by
  unfold execHostRxFrame
  split
  · exact answers_next (Keeps.refl s)
  · exact (answers_onChan ch _ s).after (fun t => keeps_noteRx _ _ _ t)

/-! ### Every command -/

/-- The requests of the host that a bridge may hold and pass on (15 R462). -/
def hostRequest (i : Instr) : Bool :=
  match i with
  | .modeRequestHold _ | .modeRequestCommission _ | .modeRequestOperate _ | .modeRequestRestart _ | .forceRestart _
  | .activateConfigurationSlot _ _ | .commitFirmwareSlot _ _ | .restoreAll _ _ | .restoreCommunication _ _ | .echo _ _ _
  | .dictRead _ _ _ _ _ _ | .dictWrite _ _ _ _ _ _ _ _ _ | .dictDescribe _ _ _ _ | .dictAbort _ _ _ _ | .mailboxResponse _
  | .hostAtomicSwap _ _ _ _ | .hostAtomicFetchadd _ _ _ _ | .hostAtomicCas _ _ _ _ _ | .hostWindowRead _ _ _ _ | .hostWindowWrite _ _ _ _
  | .hwstatW1c _ _ _ | .fstatW1c _ _ | .evpendW1c _ _ _ _ | .ringstatW1c _ _ | .registerWrite _ _ _ _ | .functionLevelReset _
  | .txEnable _ | .txDisable _ | .rxEnable _ | .rxDisable _ | .txtailWrite _ _ | .rxtailWrite _ _ | .hostTxFrame _ _ | .ringInterrupt _ _
  | .applyOnlineChange _ _ | .lseRestart _ _ | .forceSet _ _ _ _ _ _ | .forceRelease _ _ _ | .sleeveCreate _ _ | .sleeveDelete _ _
  | .sleeveFreeze _ _ | .sleeveThaw _ _ | .sleeveSave _ _ | .sleeveRestore _ _ | .sleeveBehaviour _ _ _ | .pgArm _ _ | .pgDisarm _ _
  | .recoveryRequest _ _ | .internalLoopback _ _ _ | .manualTrigger _ _ | .definitionArm _ _ | .definitionDisarm _ _
  | .deleteStoreRecord _ _ | .comtradeExport _ | .importAnchor _ _ | .importWrapped _ _ | .keyInvalidate _ _ | .keyDerive _ _
  | .keyReDerive _ _ | .attestationRequest _ _ | .reProvisioning _ _ | .certificateInstall _ _ | .snapshotSchedule _ _
  | .armingCodeRead _ | .injectorArm _ _ _ | .injectorDisarm _ _ => true
  | _ => false

theorem exec_hostRequest {i : Instr} (h : hostRequest i = true) (s : State) : exec i s = heldMeaning i s := by
  cases i <;> first | rfl | exact absurd h Bool.false_ne_true

/-- Every command but the one that applies VIN is answered and keeps the queue, the open fuses and the invariant. -/
theorem exec_answers {i : Instr} (hvin : ∀ x, i ≠ .vinApplied x) (s : State) : Answers (exec i s) s := by
  by_cases hreq : hostRequest i = true
  · rw [exec_hostRequest hreq]
    exact answers_heldMeaning i s
  rcases hown : ownChannel i with _ | ch
  case some =>
    obtain ⟨c, hc⟩ := exec_ownChannel hown s
    exact ⟨_, hc, keeps_withChan s ch c⟩
  cases i
  case vinApplied x => exact absurd rfl (hvin x)
  case pwarnAsserted x => exact answers_pwarnAsserted x s
  case pwarnCleared x us => exact answers_pwarnCleared x us s
  case liningBusBelowReset x => exact answers_liningBusBelowReset x s
  case resetReleased x => exact answers_resetReleased x s
  case supplyOff x => exact answers_supplyOff x s
  case holdupConnect x => exact answers_holdupConnect x s
  case holdupDisconnect x => exact answers_holdupDisconnect x s
  case liningCharged x cap => exact answers_liningCharged x cap s
  case liningLeavesCharged x => exact answers_liningLeavesCharged x s
  case vinDipInClearingWindow x => exact answers_onSample x s
  case fuseOpen ch mA us => exact answers_fuseOpen ch mA us s
  case perstAsserted => exact answers_perstAsserted s
  case linkTrained speed width => exact answers_linkTrained speed width s
  case hostBridgeFailure => exact answers_hostBridgeFailure s
  case vfEnableWrite enable n => exact answers_vfEnableWrite enable n s
  case hostRxFrame ch r d => exact answers_hostRxFrame ch r d s
  case cuffOpen ch => exact answers_cuffOpen ch s
  case finalRecord ch ok => exact answers_finalRecord ch ok s
  case bootB7Complete ch ms => exact answers_thenNoted ch _ s
  case loneChannelWaitExpiry ch => exact answers_thenNoted ch (fun _ => loneChannelWait) s
  case roleArbitrationGrant ch => exact answers_thenNoted ch _ s
  case holdCtlContention ch => exact answers_thenNoted ch _ s
  case modeSwitchBoundary ch => exact answers_thenNoted ch _ s
  case firingNoCompletion ch n x => exact answers_onChanPlacer ch _ s
  case deletionBoundary ch n => exact answers_onChanPlacer ch _ s
  case moveBindingSwitch ch n i => exact answers_onChanPlacer ch _ s
  case tileSelftestPass ch n ok => exact answers_onChanPlacer ch _ s
  case hostCommandRecord ch ok => unfold exec execHostCommandRecord; exact answers_recv ch ok _ _ s
  case sleeveLifecycleRecord ch ok => unfold exec execSleeveLifecycleRecord; exact answers_recv ch ok _ _ s
  case keySlotChangeRecord ch ok => unfold exec execKeySlotChangeRecord; exact answers_recv ch ok _ _ s
  case confirmationRecord ch ok => unfold exec execConfirmationRecord; exact answers_recv ch ok _ _ s
  case canOutcomeRecord ch ok => unfold exec execCanOutcomeRecord; exact answers_recv ch ok _ _ s
  case digestRecord ch ok => unfold exec execDigestRecord; exact answers_recv ch ok _ _ s
  case alignmentRecord ch ok ps => unfold exec execAlignmentRecord; exact answers_recv ch ok _ _ s
  case retainDigestRecord ch ok => unfold exec execRetainDigestRecord; exact answers_recv ch ok _ _ s
  case mirrorSetRecord ch ok => unfold exec execMirrorSetRecord; exact answers_recv ch ok _ _ s
  all_goals first | exact absurd rfl hreq | simp only [ownChannel, reduceCtorEq] at hown

end Sys2Proof.Machine
end

section
/-! A step and its command, the reset state, the invariant and the fuses over a step, and the reach of an event of one channel (01 R18;
08 R264, R269; 23 R654). -/
namespace Sys2Proof.Machine

open Sys2Proof

/-! ### The statements about a step, and its start from reset -/

/-- Settles O1: the definition of a step with a command in front. -/
theorem stepRunsFrontCommand : Obligations.step_runs_front_command := fun s i rest => step_cons { s with pending := i :: rest } i rest rfl

theorem fabricCycle_frame (c : Channel) : fabricCycle c = { c with time := (fabricCycle c).time } := by
  unfold fabricCycle
  split <;> rfl

theorem fabricCycle_ctr {c : Channel} (h : counterRuns c = true) :
    (fabricCycle c).time.ctr = c.time.ctr + BitVec.ofInt 96 (6871947674 + c.time.adj) := by
  simp only [fabricCycle, h, if_true, cycleUnits]

theorem fabricCycle_stopped {c : Channel} (h : counterRuns c = false) : fabricCycle c = c := by
  simp only [fabricCycle, h, Bool.false_eq_true, if_false]

theorem chanOf_idle (s : State) (ch : Chan) : chanOf (idle s) ch = fabricCycle (chanOf s ch) := by cases ch <;> rfl

/-- Settles O2: with an empty queue the step is one fabric cycle on each channel. -/
theorem idleStepIsAFabricCycle : Obligations.idle_step_is_a_fabric_cycle := by
  intro s hs
  refine ⟨idle s, step_nil s hs, hs, rfl, rfl, rfl, rfl, fun ch => ?_⟩
  rw [chanOf_idle]
  exact ⟨fabricCycle_ctr, fabricCycle_stopped, fabricCycle_frame _⟩

/-- Settles O3: VIN applied answers, and so does every other command. -/
theorem everyCommandAnswers : Obligations.every_command_answers := by
  intro i s
  by_cases hvin : ∃ x, i = .vinApplied x
  · obtain ⟨x, rfl⟩ := hvin
    obtain ⟨t, ht, hpend, -⟩ := vinApplied_answers x s
    exact ⟨t, ht, hpend⟩
  · obtain ⟨t, ht, hk⟩ := exec_answers (fun x hx => hvin ⟨x, hx⟩) s
    exact ⟨t, ht, hk.pending⟩

/-- Settles O4: each field of the reset state. -/
theorem resetState : Obligations.reset_state := by
  refine ⟨rfl, rfl, rfl, rfl, rfl, fun ch => ?_⟩
  cases ch <;> exact ⟨rfl, rfl, rfl, rfl, rfl, rfl, rfl, rfl, rfl, zWf_window_reset _⟩

/-- Settles O5: the supply is OFF and the bridge untrained. -/
theorem invariantAtReset : Obligations.invariant_at_reset := ⟨rfl, rfl⟩

/-- The step that finds a command in front is that command's meaning, on the state without it. -/
theorem step_cases {s t : State} (h : step s = .next t) :
    (s.pending = [] ∧ t = idle s) ∨ ∃ i rest, s.pending = i :: rest ∧ exec i { s with pending := rest } = .next t := by
  cases hp : s.pending with
  | nil => exact .inl ⟨rfl, (Host.Outcome.next.inj (h.symm.trans (step_nil s hp)))⟩
  | cons i rest => exact .inr ⟨i, rest, rfl, (step_cons s i rest hp).symm.trans h⟩

/-- A command that answers a state answers that one. -/
theorem Answers.keeps {i : Instr} {s t : State} (h : Answers (exec i s) s) (ht : exec i s = .next t) : Keeps s t := by
  obtain ⟨u, hu, hk⟩ := h
  cases hu.symm.trans ht
  exact hk

/-- Settles O6: the fabric cycle leaves supply and bridge, VIN applied sets the supply anew, every other command keeps the invariant. -/
theorem everyStepKeepsTheInvariant : Obligations.every_step_keeps_the_invariant := by
  intro s t hinv hstep
  rcases step_cases hstep with ⟨-, rfl⟩ | ⟨i, rest, -, hexec⟩
  · exact hinv
  by_cases hvin : ∃ x, i = .vinApplied x
  · obtain ⟨x, rfl⟩ := hvin
    obtain ⟨u, hu, -, hk, -⟩ := vinApplied_answers x { s with pending := rest }
    cases hu.symm.trans hexec
    exact hk hinv
  · exact ((exec_answers (fun x hx => hvin ⟨x, hx⟩) _).keeps hexec).inv hinv

/-- Settles O7: no command but VIN applied closes a fuse, and that one only from OFF. -/
theorem openFuseStaysOpen : Obligations.open_fuse_stays_open := by
  intro s t hstep hclosed
  rcases step_cases hstep with ⟨-, rfl⟩ | ⟨i, rest, hpend, hexec⟩
  · rcases hclosed with ⟨hopen, h⟩ | ⟨hopen, h⟩ <;> exact absurd h (by simp [idle, hopen])
  have not_kept : ¬ Keeps { s with pending := rest } t := by
    rintro ⟨-, hA, hB, -⟩
    rcases hclosed with ⟨hopen, h⟩ | ⟨hopen, h⟩
    · exact absurd (hA h) (by simp [hopen])
    · exact absurd (hB h) (by simp [hopen])
  by_cases hvin : ∃ x, i = .vinApplied x
  · obtain ⟨x, rfl⟩ := hvin
    obtain ⟨u, hu, -, -, hk⟩ := vinApplied_answers x { s with pending := rest }
    cases hu.symm.trans hexec
    exact ⟨by_contra (fun hoff => not_kept (hk hoff)), x, rest, hpend⟩
  · exact absurd ((exec_answers (fun x hx => hvin ⟨x, hx⟩) _).keeps hexec) not_kept

/-! ### The Placer where nothing waits for it (08 R264, R269) -/

theorem settleDeletion_quiet {c : Channel} (h : placerAwaited c = false) : settleDeletion c = c := by
  simp only [placerAwaited, Bool.or_eq_false_iff, Bool.not_eq_false', List.isEmpty_iff] at h
  simp [settleDeletion, h.1]

theorem settleQueue_quiet {c : Channel} (h : placerAwaited c = false) (k : Nat) (twin : Channel) : settleQueue k twin c = c := by
  simp only [placerAwaited, Bool.or_eq_false_iff, Bool.not_eq_false', List.isEmpty_iff] at h
  cases k <;> simp [settleQueue, h.1]

theorem settleStarts_quiet {c : Channel} (h : placerAwaited c = false) (twin : Channel) : settleStarts twin c = c := by
  simp only [placerAwaited, Bool.or_eq_false_iff, List.any_eq_false, Bool.not_eq_true] at h
  obtain ⟨-, hsleeves⟩ := h
  have fold (l : List (Nat × Sleeve)) (hl : ∀ x ∈ l, awaitsMoves x.2 = false) :
      l.foldl (fun d (x : Nat × Sleeve) =>
        match x.2.req with
        | some r =>
          if awaitsMoves x.2 && (d.seam.presence != 2 || kHas twin.sleeves x.1) then
            post (.lifecycle x.1 r.action r.arg (startBoundary d)) (setReq x.1 { r with at_ := startBoundary d } d)
          else d
        | none => d) c = c := by
    induction l with
    | nil => rfl
    | cons x l ih =>
      rw [List.foldl_cons, hl x (List.mem_cons_self ..)]
      cases x.2.req <;> exact ih (fun y hy => hl y (List.mem_cons_of_mem _ hy))
  unfold settleStarts
  split
  · rfl
  · exact fold _ hsleeves

/-- What the Placer does where moves have ended reaches no channel that waits for nothing. -/
theorem placerSettle_quiet {s : State} {ch : Chan} (h : placerAwaited (chanOf s ch) = false) :
    chanOf (placerSettle s) ch = chanOf s ch := by
  unfold placerSettle
  split
  case isFalse => rfl
  case isTrue =>
    set s1 : State := { s with a := settleDeletion s.a, b := settleDeletion s.b } with hs1
    have hch : chanOf s1 ch = chanOf s ch := by cases ch <;> exact settleDeletion_quiet h
    by_cases hlead : leadChan s1 = ch
    · dsimp only
      rw [hlead, chanOf_withChan, hch, settleStarts_quiet h, settleQueue_quiet h]
    · have htwin : leadChan s1 = ch.twin := by cases ch <;> cases hl : leadChan s1 <;> simp_all [Chan.twin]
      dsimp only
      rw [htwin, chanOf_withChan_twin, hch]

theorem onlyChan_placerSettle (s : State) (ch : Chan) (c : Channel) (h : placerAwaited (chanOf s ch.twin) = false) :
    onlyChan ch s (placerSettle (withChan s ch c)) := by
  have hquiet : placerAwaited (chanOf (withChan s ch c) ch.twin) = false := by rwa [chanOf_twin_withChan]
  have hframe (t : State) : (placerSettle t).supply = t.supply ∧ (placerSettle t).bridge = t.bridge ∧ (placerSettle t).fuseA = t.fuseA ∧
      (placerSettle t).fuseB = t.fuseB ∧ (placerSettle t).pending = t.pending := by
    unfold placerSettle
    split <;> simp
  obtain ⟨hsupply, hbridge, hA, hB, hpend⟩ := hframe (withChan s ch c)
  exact ⟨(placerSettle_quiet hquiet).trans (chanOf_twin_withChan s ch c), by simp [hsupply], by simp [hbridge], by simp [hA],
    by simp [hB], by simp [hpend]⟩

/-- A command that may end moves puts another value in its channel's place and lets the Placer go on. -/
theorem exec_placerCommand {i : Instr} {ch : Chan} (h : placerCommand i = some ch) (s : State) :
    ∃ c, exec i s = .next (placerSettle (withChan s ch c)) := by
  cases i <;> simp only [placerCommand, reduceCtorEq, Option.some.injEq] at h <;> subst h <;> exact ⟨_, rfl⟩

/-- Settles O8: an event of one channel replaces that channel alone, and the Placer finds nothing to do on a twin that waits for nothing. -/
theorem oneChannelEventsStayOnIt : Obligations.one_channel_events_stay_on_it := by
  refine ⟨fun i ch s t hi ht => ?_, fun i ch s t hi hquiet ht => ?_⟩
  · obtain ⟨c, hc⟩ := exec_ownChannel hi s
    cases hc.symm.trans ht
    exact onlyChan_withChan s ch c
  · obtain ⟨c, hc⟩ := exec_placerCommand hi s
    cases hc.symm.trans ht
    exact onlyChan_placerSettle s ch c (by cases ch <;> simp [Chan.twin, hquiet.1, hquiet.2])

end Sys2Proof.Machine
end

section
/-! The supply's own commands (23 R654 to R662; 01 R18), each at the voltages where it acts. -/
namespace Sys2Proof.Machine

open Sys2Proof

theorem does_onSupply {i : Instr} {s s' : State} {x : SupSample} {f : Supply → Supply} {g : Channel → Channel} {P : State → Prop}
    (h : exec i s = onSupply x f g s')
    (hP : P { s' with
      supply := f (sampled x s'.supply), a := g { commitsEnded s'.a with psu := f (sampled x s'.supply) },
      b := g { commitsEnded s'.b with psu := f (sampled x s'.supply) } }) : Does i s P := ⟨_, h, hP⟩

/-! ### The states of the supply (23 R659) -/

theorem vinOf_sampled_of_le {x : SupSample} {mV : Int} (h : mV ≤ max x.pa x.pb) (p : Supply) : mV ≤ vinOf (sampled x p) := by
  rw [vinOf_sampled]
  exact h.trans (le_max_right _ _)

theorem vinOf_sampled_of_lt {x : SupSample} {mV : Int} (h : max x.pa x.pb < mV) (hmV : 0 < mV) (p : Supply) : vinOf (sampled x p) < mV := by
  rw [vinOf_sampled]
  exact max_lt hmV h

/-- VIN applied from OFF, with the Lining charged already or not. -/
theorem exec_vinApplied_of_off {s : State} {x : SupSample} (hst : s.supply.st = .off) (hv : 16500 ≤ max x.pa x.pb) :
    ∃ charged, exec (.vinApplied x) s = onSupply x
      (fun p => { p with st := .normal, pwarn := false, discharge := false, linState := if charged then .charged else .charging })
      (powerOn charged 1) { s with fuseA := true, fuseB := true } := by
  refine ⟨(sampled x s.supply).linState == .charged || decide (41000 ≤ (sampled x s.supply).lining), ?_⟩
  simp only [exec, execVinApplied, sampled_st, hst, vinOf_sampled_of_le hv, if_true]

/-- Settles O11: each transition at its voltages. -/
theorem supplyTransitions : Obligations.supply_transitions := by
  refine ⟨fun s x hst hv => ?_, fun s x hst hv => ?_, fun s x us hst hv => ?_, fun s x hst hl => ?_, fun s x hst hv => ?_,
    fun s x hst ha hb => ?_⟩
  · obtain ⟨charged, hexec⟩ := exec_vinApplied_of_off hst hv
    exact does_onSupply hexec ⟨rfl, rfl, rfl, by simp, by simp, rfl, rfl⟩
  · refine does_onSupply (s' := s) (x := x) (g := pwarnActions)
      (f := fun p => { p with st := .warning, pwarn := true, lowVin := (vinOf p).toNat, lowLining := p.lining }) ?_ ⟨rfl, rfl⟩
    simp only [exec, execPwarnAsserted, sampled_st, hst, vinOf_sampled_of_lt hv (by decide), if_true]
  · refine does_onSupply (x := x) (s' := s) (g := pwarnCleared us) (f := fun p => { p with st := .normal, pwarn := false }) ?_ ⟨rfl, rfl⟩
    simp only [exec, execPwarnCleared, sampled_st, hst, vinOf_sampled_of_le hv, if_true]
  · refine does_onSupply (x := x) (s' := { s with bridge := bridgeOff s.bridge }) (g := heldInReset)
      (f := fun p => { p with st := .reset, linState := .discharged, discharge := true }) ?_ ⟨rfl, rfl, rfl, rfl⟩
    simp only [exec, execLiningBusBelowReset, hst, hl, if_true]
  · refine ⟨_, by simp only [exec, execResetReleased, sampled_st, hst, vinOf_sampled_of_le hv, if_true]; rfl, rfl, fun hA => ?_, fun hB => ?_⟩
    · simp [releaseReset, hA]
    · simp [releaseReset, hB]
  · refine does_onSupply (x := x) (s' := { s with bridge := bridgeOff s.bridge }) (g := unpowered)
      (f := fun p => { p with st := .off, pwarn := false }) ?_ ⟨rfl, rfl, rfl⟩
    simp only [exec, execSupplyOff, sampled_st, hst, sampled_pa, sampled_pb, ha, hb, and_self, if_true]

/-! ### The Lining and the fuses (23 R654 to R657, R661) -/

theorem lowLining_sampled {p : Supply} (h : p.pwarn = true) (x : SupSample) : (sampled x p).lowLining = min p.lowLining x.lining := by
  simp [sampled, h]

/-- Settles O12: each of the Lining's commands acts on the sample it carries; a fuse that opens takes its channel's power alone. -/
theorem liningAndFuses : Obligations.lining_and_fuses := by
  refine ⟨fun s x hst hv => ?_, fun s x hlin hv => ?_, fun s x cap hlin hl => ?_, fun s x hlin hl => ?_, fun s x hst hp => ?_,
    fun s ch mA us hclosed hblow => ?_⟩
  · have hserv : inService (sampled x s.supply) = true := by rcases hst with h | h <;> simp [inService, h]
    exact does_onSupply (s' := s) rfl (by simp [-vinOf_sampled, hserv, vinOf_sampled_of_lt hv (by decide)])
  · have hv' : 15000 < vinOf (sampled x s.supply) := by
      rw [vinOf_sampled]
      exact hv.trans_le (le_max_right _ _)
    exact does_onSupply (s' := s) rfl (by simp [-vinOf_sampled, hlin, hv'])
  · exact does_onSupply (s' := s) rfl (by simp [hlin, hl])
  · exact does_onSupply (s' := s) rfl (by simp [hlin, hl])
  · exact does_onSupply (s' := s) (f := id) (g := id) rfl (by simp [hst, hp, lowLining_sampled])
  · have hover : (decide (6000 < mA ∧ 5000 ≤ us) || decide (12000 < mA)) = true := by simpa using hblow
    cases ch with
    | a =>
      refine ⟨_, by simp only [exec, execFuseOpen, hclosed, hover, Bool.and_true, if_true]; rfl, ?_⟩
      exact ⟨rfl, rfl, rfl, rfl, rfl, rfl, rfl, rfl, rfl, rfl⟩
    | b =>
      refine ⟨_, by simp only [exec, execFuseOpen, hclosed, hover, Bool.and_true, if_true]; rfl, ?_⟩
      exact ⟨rfl, rfl, rfl, rfl, rfl, rfl, rfl, rfl, rfl, rfl⟩

end Sys2Proof.Machine
end

section
/-! The bit and word instructions of the Logic Scan Engine (11 R346, R349): each as what it does to the registers, one that the engine
does not fetch, saturated arithmetic, and the edges. -/
namespace Sys2Proof.Machine

open Sys2Proof

section
variable {cmd : Chan → Nat → Nat → Instr} {op : Nat} {ins : Lse → Nat → LseRegs → LseRegs}

/-- An executed instruction leaves the registers that its meaning gives. -/
theorem lseDoes_of_regs {res : Lse → Nat → LseRegs} (hcmd : Executes cmd op ins) (hres : ∀ L a, ins L a L.r = res L a) :
    LseDoes cmd op res := by
  have h : (fun L a => ins L a L.r) = res := funext₂ hres
  exact h ▸ lseDoes_of_executes hcmd

/-- A word that the engine does not fetch is no instruction. -/
theorem lseStep_not_fetched {n a : Nat} {c : Channel} {L : Lse} (hL : kGet c.lse n = some L)
    (h : scanFirst c n L = false ∨ nth L.prog.code L.r.ip 0 ≠ BitVec.ofNat 32 (op * 16777216 + a)) : lseStep op ins n a c = c := by
  have hcond : (scanFirst c n L && nth L.prog.code L.r.ip 0 == BitVec.ofNat 32 (op * 16777216 + a)) = false := by
    rcases h with h | h
    · simp [h]
    · rw [beq_eq_false_iff_ne.2 h, Bool.and_false]
  simp only [lseStep, hL, hcond, Bool.false_eq_true, if_false]

theorem lseIdle_of_executes (hcmd : Executes cmd op ins) : LseIdle cmd op := by
  intro s ch n a L hL h
  refine ⟨_, (hcmd ch n a s).trans (onChan_next ch _ s), ?_, onlyChan_withChan s ch _⟩
  rw [chanOf_withChan]
  exact lseStep_not_fetched (c := commitsEnded (chanOf s ch)) hL h

/-! ### Saturated arithmetic (11 R346) -/

theorem satI32_toInt (x : Int) : (satI32 x).toInt = max (-2147483648) (min 2147483647 x) := by
  rw [satI32, clampInt_eq_max_min (by decide), BitVec.toInt_ofInt_eq_self (by decide)] <;> omega

theorem lseSaturates_of_executes {f : Int → Int → Int} (hcmd : Executes cmd op ins)
    (hins : ∀ L a, ins L a L.r = { L.r with w := satI32 (f L.r.w.toInt (lseWord L L.r a).toInt), ip := L.r.ip + 1 }) :
    LseSaturates cmd op f := by
  intro s ch n a L hL hfirst hcode
  obtain ⟨t, hnext, hregs, hchan⟩ := executed_regs hcmd hL hfirst hcode (hins L a)
  refine ⟨t, hnext, _, hregs, ?_, hchan⟩
  simp only [satI32_toInt]
  omega

/-! ### Edges (11 R349) -/

/-- The edge bit, not forced, takes B, and has then been evaluated. -/
theorem edgeTake_of_unforced {L : Lse} {a : Nat} (h : forceAt L false a = none) (r : LseRegs) :
    edgeTake L a r = { r with
      bits := zPut r.bits a (if r.b then 1 else 0), edgeSeen := if a ∈ r.edgeSeen then r.edgeSeen else a :: r.edgeSeen } := by
  simp [edgeTake, lseSetBit, h]

theorem edgeMem_of_unforced {L : Lse} {a : Nat} (h : forceAt L false a = none) (r : LseRegs) :
    edgeMem L a r = if a ∈ r.edgeSeen then zGet r.bits a != 0 else r.b := by
  simp [edgeMem, lseBit, h]

/-- An edge instruction: B is what `q` makes of B and of the edge bit, which at the first evaluation holds B; then the bit takes B. -/
theorem edgeDoes_of_executes {q : Bool → Bool → Bool} (hcmd : Executes cmd op ins)
    (hins : ∀ L a, ins L a L.r = lseB (q L.r.b (edgeMem L a L.r)) (edgeTake L a L.r)) (hq : ∀ b, q b b = false) : EdgeDoes cmd op q := by
  intro s ch n a L hL hfirst hcode hforce
  obtain ⟨t, hnext, hregs, hchan⟩ := executed_regs hcmd hL hfirst hcode (hins L a)
  rw [edgeTake_of_unforced hforce, edgeMem_of_unforced hforce] at hregs
  refine ⟨t, hnext, _, hregs, ?_, zGet_zPut_same _ _ _, ?_, fun x hx => zGet_zPut_other _ _ _ _ hx, fun x hx => ?_, rfl, hchan⟩
  · by_cases hseen : a ∈ L.r.edgeSeen <;> simp [lseB, lseNext, hseen, hq]
  · by_cases hseen : a ∈ L.r.edgeSeen <;> simp [lseB, lseNext, hseen]
  · by_cases hseen : a ∈ L.r.edgeSeen <;> simp [lseB, lseNext, hseen, hx]

end

/-! ### The obligations -/

/-- A store leaves the instruction index. -/
theorem lseSetBit_ip (L : Lse) (a : Nat) (v : Bool) (r : LseRegs) : (lseSetBit L a v r).ip = r.ip := by
  unfold lseSetBit
  split <;> rfl

theorem lseSetWord_ip (L : Lse) (a : Nat) (v : U32) (r : LseRegs) : (lseSetWord L a v r).ip = r.ip := by
  unfold lseSetWord
  split <;> rfl

theorem lseNext_of_ip {r r' : LseRegs} (h : r'.ip = r.ip) : lseNext r' = { r' with ip := r.ip + 1 } := by rw [lseNext, h]

/-- What is done where B is true, and leaves the instruction index, leaves it. -/
theorem ite_ip {b : Bool} {r r' : LseRegs} (h : r'.ip = r.ip) : (if b then r' else r).ip = r.ip := by
  split
  · exact h
  · rfl

theorem insPop_regs (L : Lse) (a : Nat) : insPop L a L.r = match L.r.stack with
    | [] => { L.r with ip := L.r.ip + 1 }
    | (x, true) :: rest => { L.r with stack := rest, b := x && L.r.b, ip := L.r.ip + 1 }
    | (x, false) :: rest => { L.r with stack := rest, b := x || L.r.b, ip := L.r.ip + 1 } := by
  unfold insPop
  rcases L.r.stack with _ | ⟨⟨x, isAnd⟩, rest⟩
  · rfl
  · cases isAnd <;> rfl

theorem insJc_regs (L : Lse) (a : Nat) : insJc L a L.r = { L.r with ip := if L.r.b then a else L.r.ip + 1 } := by
  unfold insJc
  split <;> rfl

theorem insJcn_regs (L : Lse) (a : Nat) : insJcn L a L.r = { L.r with ip := if L.r.b then L.r.ip + 1 else a } := by
  unfold insJcn
  split <;> rfl

/-- Words are equal where their values as I32 are. -/
theorem insCeq_regs (L : Lse) (a : Nat) :
    insCeq L a L.r = { L.r with b := decide (L.r.w.toInt = (lseWord L L.r a).toInt), ip := L.r.ip + 1 } := by
  have h : (L.r.w == lseWord L L.r a) = decide (L.r.w.toInt = (lseWord L L.r a).toInt) := by
    simp only [BitVec.toInt_inj, beq_eq_decide]
  simp only [insCeq, lseB, lseNext, h]

/-- Settles O40: each instruction by its meaning; pop by the stack, the conditional jumps by B. -/
theorem lseBitInstructions : Obligations.lse_bit_instructions :=
  have ex {cmd : Chan → Nat → Nat → Instr} {op : Nat} {ins : Lse → Nat → LseRegs → LseRegs} (h : Executes cmd op ins) := lseDoes_of_executes h
  ⟨ex (ins := insNop) fun _ _ _ _ => rfl, ex (ins := insLd) fun _ _ _ _ => rfl, ex (ins := insLdn) fun _ _ _ _ => rfl,
    ex (ins := insAnd) fun _ _ _ _ => rfl, ex (ins := insAndn) fun _ _ _ _ => rfl, ex (ins := insOr) fun _ _ _ _ => rfl,
    ex (ins := insOrn) fun _ _ _ _ => rfl, ex (ins := insXor) fun _ _ _ _ => rfl, ex (ins := insNot) fun _ _ _ _ => rfl,
    lseDoes_of_regs (ins := insSt) (fun _ _ _ _ => rfl) fun _ _ => lseNext_of_ip (lseSetBit_ip _ _ _ _),
    lseDoes_of_regs (ins := insStn) (fun _ _ _ _ => rfl) fun _ _ => lseNext_of_ip (lseSetBit_ip _ _ _ _),
    lseDoes_of_regs (ins := insSet) (fun _ _ _ _ => rfl) fun _ _ => lseNext_of_ip (ite_ip (lseSetBit_ip _ _ _ _)),
    lseDoes_of_regs (ins := insRst) (fun _ _ _ _ => rfl) fun _ _ => lseNext_of_ip (ite_ip (lseSetBit_ip _ _ _ _)),
    ex (ins := insApush) fun _ _ _ _ => rfl, ex (ins := insOpush) fun _ _ _ _ => rfl,
    lseDoes_of_regs (fun _ _ _ _ => rfl) insPop_regs, ex lseJmp_executes, lseDoes_of_regs (fun _ _ _ _ => rfl) insJc_regs,
    lseDoes_of_regs (fun _ _ _ _ => rfl) insJcn_regs, ex (ins := insQv) fun _ _ _ _ => rfl, ex (ins := insQg) fun _ _ _ _ => rfl,
    lseIdle_of_executes (ins := insLd) fun _ _ _ _ => rfl, lseIdle_of_executes (ins := insSt) fun _ _ _ _ => rfl,
    lseIdle_of_executes lseJmp_executes,
    edgeDoes_of_executes (ins := insRe) (fun _ _ _ _ => rfl) (fun _ _ => rfl) (by decide),
    edgeDoes_of_executes (ins := insFe) (fun _ _ _ _ => rfl) (fun _ _ => rfl) (by decide)⟩

/-- Settles O41: each instruction by its meaning; sums, differences and products held to the range of I32. -/
theorem lseWordInstructions : Obligations.lse_word_instructions :=
  have ex {cmd : Chan → Nat → Nat → Instr} {op : Nat} {ins : Lse → Nat → LseRegs → LseRegs} (h : Executes cmd op ins) := lseDoes_of_executes h
  ⟨ex (ins := insLdw) fun _ _ _ _ => rfl, ex (ins := insLdi) fun _ _ _ _ => rfl,
    lseDoes_of_regs (ins := insStw) (fun _ _ _ _ => rfl) fun _ _ => lseNext_of_ip (lseSetWord_ip _ _ _ _),
    lseDoes_of_regs (fun _ _ _ _ => rfl) insCeq_regs, ex (ins := insCgt) fun _ _ _ _ => rfl, ex (ins := insClt) fun _ _ _ _ => rfl,
    lseDoes_of_regs (ins := insMovc) (fun _ _ _ _ => rfl) fun _ _ => lseNext_of_ip (ite_ip (lseSetWord_ip _ _ _ _)),
    lseDoes_of_regs (ins := insCrst) (fun _ _ _ _ => rfl) fun _ _ => lseNext_of_ip (ite_ip (lseSetWord_ip _ _ _ _)),
    lseDoes_of_regs (ins := insCldp) (fun _ _ _ _ => rfl) fun _ _ => lseNext_of_ip (ite_ip (lseSetWord_ip _ _ _ _)),
    lseIdle_of_executes (ins := insStw) fun _ _ _ _ => rfl,
    lseSaturates_of_executes (ins := insAddw) (fun _ _ _ _ => rfl) (fun _ _ => rfl),
    lseSaturates_of_executes (ins := insSubw) (fun _ _ _ _ => rfl) (fun _ _ => rfl),
    lseSaturates_of_executes (ins := insMulw) (fun _ _ _ _ => rfl) (fun _ _ => rfl)⟩

end Sys2Proof.Machine
end

section
/-! The counter of ended scans has one subindex for each sleeve number (OD 2702), and the statement takes every number: a number that no
sleeve has puts it on the counter of another entry. -/
namespace Sys2Proof.Machine

open Sys2Proof

/-- A program whose next word is END, in its scan. -/
def lseAtEnd : Lse :=
  { prog := ⟨1000, [0x4F000000], [], [], [], 0, 0, 0, 0⟩, differs := false, st := .running, r := { lseRegsReset with scanning := true },
    latched := [], outPrev := [], outLast := [], overruns := 0, passed := 0, overSince := 0, nextB := 0, allow := 0, ceiling := 0,
    retainMs := 0, late := false, snap := [], flushDue := false, forces := [], pendForces := [], staged := [], swap := none,
    restartPend := false, safePend := false, firstScan := false, seed := none, retainAt := 0 }

/-- The sleeve number whose counter of ended scans is the counter of event source 46, sleeve ready (22 R642). -/
def sleeveOnReadyCounter : Nat := 655150

theorem od_sleeveOnReadyCounter : od 0x2702 (sleeveOnReadyCounter + 1) = od 0x3101 47 := by decide

/-- Channel A with that program, and a ready bit that the next update takes back. -/
def scanEndsAsReadinessEnds : State :=
  { State.reset with a := { channelReset .a with
      lse := [(sleeveOnReadyCounter, lseAtEnd)], boot := { bootReset with readyMask := 1 } } }

theorem lseEnd_counts_two : ∃ t, exec (.lseEnd .a sleeveOnReadyCounter 0) scanEndsAsReadinessEnds = .next t ∧
    zGet t.a.ctr (od 0x2702 (sleeveOnReadyCounter + 1)) = 2 := ⟨_, rfl, by decide +kernel⟩

/-- Refutes O44: END at the scan of sleeve 655,150, whose counter is that of event 46, counts twice where a ready bit changes. -/
theorem not_lseCycles : ¬ Obligations.lse_cycles := by
  rintro ⟨hend, -⟩
  obtain ⟨t, ht, -, hcount, -⟩ := hend scanEndsAsReadinessEnds .a sleeveOnReadyCounter 0 lseAtEnd rfl rfl rfl
  obtain ⟨u, hu, htwo⟩ := lseEnd_counts_two
  cases hu.symm.trans ht
  rw [chanOf_a, htwo] at hcount
  exact absurd hcount (by decide)

end Sys2Proof.Machine
end

section
/-! O24 fails: HOLD_CTL_CONTENTION makes the channel that is called B by its own name give way, and nothing in the statement says that the
channel in B's place has that name. -/
namespace Sys2Proof.Machine
open Sys2Proof

/-- Both channels hold control, and the one in B's place is named A. -/
def bothHoldOneNamed : State :=
  { State.reset with
    a := { channelReset .a with seam := { seamReset with holdCtl := true } }
    b := { channelReset .a with seam := { seamReset with holdCtl := true } } }

theorem contention_leaves_unnamed : ∃ t, exec (.holdCtlContention .b) bothHoldOneNamed = .next t ∧ t.b.seam.holdCtl = true :=
  ⟨_, rfl, by decide⟩

/-- Refutes O24: a channel in B's place that is named A keeps its HOLD_CTL at a contention. -/
theorem not_takeoverAndPresence : ¬ Obligations.takeover_and_presence := by
  intro h
  obtain ⟨u, hu, hdrop, -⟩ := h.1 bothHoldOneNamed rfl rfl
  obtain ⟨t, ht, hkeep⟩ := contention_leaves_unnamed
  obtain rfl : t = u := by simpa [ht] using hu
  simp [hkeep] at hdrop

end Sys2Proof.Machine
end

section
/-! O32 fails: the Cuff store holds 4,096 frames and 2 MiB (12 R383), and the statement's condition names the frames alone. -/
namespace Sys2Proof.Machine
open Sys2Proof

/-- A frame of 1,522 octets. -/
def longFrame : BuiltFrame := ⟨false, 0, 0, 0, 0, 0, false, ⟨0, 0, none, 1522, true, .none, none, .other 0 [], []⟩⟩

/-- Channel A without control, its Cuff closed and its twin present: 1,377 such frames in its Cuff store, which is all that 2 MiB
hold, and one waiting. -/
def longFrameWaits : State :=
  { State.reset with a := { channelReset .a with
      pub := { (channelReset .a).pub with waiting := [longFrame] }
      seam := { seamReset with presence := 2, store := List.replicate 1377 longFrame } } }

theorem handover_drops_oldest_frame :
    ∃ t, exec (.publisherHandover .a) longFrameWaits = .next t ∧ t.a.seam.store.length = 1377 := ⟨_, rfl, by decide +kernel⟩

/-- Refutes O32: a frame handed over to the closed Cuff pushes the oldest out of a store whose octets are used up. -/
theorem not_switchEgressAndLinks : ¬ Obligations.switch_egress_and_links := by
  rintro ⟨-, -, -, hstore, -⟩
  obtain ⟨t, ht, -, hkept, -⟩ := hstore longFrameWaits .a longFrame rfl rfl rfl rfl (by decide +kernel)
  obtain ⟨u, hu, hlen⟩ := handover_drops_oldest_frame
  cases hu.symm.trans ht
  have := congrArg List.length hkept
  rw [chanOf_a, hlen] at this
  exact absurd this (by decide +kernel)

end Sys2Proof.Machine
end

section
/-! O35 fails: the engine goes through every entry of the path table, and a computation takes the first one under its number. The statement
takes tables that hold a number twice, and there the engine may serve a path whose first entry is BYPASS. -/
namespace Sys2Proof.Machine
open Sys2Proof

/-- A path of stream 0 under a preset. -/
def pathOfPreset (preset : Nat) : CPath :=
  { cfg := ⟨0, 0, 0, preset, 0, [15, 15, 15, 15], 0, false⟩, depth := 2, ring := [], hist := [], lastIn := none, lastVal := none, produced := 0,
    breakPending := false, outBreak := false, pend := none, pendAt := 0, frozen := false, switchAt := 0, oldBypass := false }

/-- A written slot without channels. -/
def slotNumber (n : Nat) : SampleSlot := ⟨n, true, false, false, false, 0, 0, [], 0⟩

/-- A stream of 96,000 samples a second that holds slots 1 and 2. -/
def streamOfTwoSlots : Stream :=
  { cfg := ⟨0, 0, 0, 0, 96000, 0, 1, 0, 0, false, 0, 0, 0, 4, 0, 0, 0, 0, 0, false, [], []⟩, st := .valid, fromLost := false, missRun := 0,
    retRun := 0, breakPending := false, simSeen := false, simMode := false, ring := [slotNumber 1, slotNumber 2], next := 3, closed := [],
    allowUs := 0, loss := 0, ret := 0, pend := none, pendAt := 0, mask := 0 }

/-- Channel A with path 0 held twice: first as BYPASS, then under preset 1. -/
def pathHeldTwice : State :=
  { State.reset with a := { channelReset .a with
      boot := { bootReset with graphsRun := true }
      ingest := { ingestReset with streams := [(0, streamOfTwoSlots)] }
      paths := [(0, pathOfPreset 0), (0, pathOfPreset 1)] } }

theorem pathCompute_takes_both_slots : ∃ t, exec (.pathCompute .a 0) pathHeldTwice = .next t ∧
    (kGet t.a.paths 0).map (fun y => y.lastIn) = some (some 2) := ⟨_, rfl, by decide +kernel⟩

/-- Refutes O35: where a path's number is held twice, one computation of it takes two slots. -/
theorem not_conditioningAndBoundaries : ¬ Obligations.conditioning_and_boundaries := by
  rintro ⟨hcompute, -⟩
  obtain ⟨t, ht, y, hy, hlast, -⟩ := hcompute pathHeldTwice .a 0 (pathOfPreset 0) streamOfTwoSlots (slotNumber 1) [slotNumber 2] rfl rfl rfl
    (by decide) (by decide +kernel)
  obtain ⟨u, hu, htwo⟩ := pathCompute_takes_both_slots
  cases hu.symm.trans ht
  rw [chanOf_a] at hy
  simp [hy, hlast, slotNumber] at htwo

end Sys2Proof.Machine
end

section
/-! O39 fails: the time counter holds 64 bits of ns, and the instant of a publication's first frame is any number. -/
namespace Sys2Proof.Machine
open Sys2Proof

/-- A publication without members whose first frame is due at 2⁶⁴ ns. -/
def pubDuePastCounter : GPub :=
  { cfg := ⟨0, 0, 0, 0, 0, false, 0, 0, 0, 0, 0, 0, [], [], [], []⟩, pubd := [], stNum := 0, sqNum := 0, t := 0, interval := 0, first := false,
    t1 := 0, t0 := 0, seqNo := 0, srcMac := 0, firstAt := 2 ^ 64, cycle := none, wrote := [] }

/-- A running sleeve with nothing in its record. -/
def plainSleeve : Sleeve :=
  { st := .running, cfg := ⟨0, 0, false, 0, 0, 0, 0, 0, 0, 0, 0, 0, 0, 0, 0, 0, 0, 0, 0, 0, [], [], 0, 0, 0, 0, [], [], []⟩, beh := 1, req := none,
    lastBoundary := 0, differs := false, saving := false, pkg := [], restore := none }

/-- Channel A running graphs, with that publication of sleeve 0. -/
def firstFramePastCounter : State :=
  { State.reset with a := { channelReset .a with
      boot := { bootReset with graphsRun := true }
      sleeves := [(0, plainSleeve)]
      pub := { (channelReset .a).pub with gpubs := [(0, pubDuePastCounter)] } } }

theorem firstGooseFrame_wraps_counter :
    ∃ t, exec (.firstGooseFrame .a 0) firstFramePastCounter = .next t ∧ nowNs t.a = 0 := ⟨_, rfl, by decide +kernel⟩

/-- Refutes O39: a first frame due at 2⁶⁴ ns leaves the time counter at 0, before that instant. -/
theorem not_publicationAndSubscription : ¬ Obligations.publication_and_subscription := by
  rintro ⟨hfirst, -⟩
  obtain ⟨t, ht, -, hpast, -⟩ := hfirst firstFramePastCounter .a 0 pubDuePastCounter rfl rfl rfl rfl rfl
  obtain ⟨u, hu, hzero⟩ := firstGooseFrame_wraps_counter
  cases hu.symm.trans ht
  rw [chanOf_a, hzero] at hpast
  exact absurd hpast (by decide)

end Sys2Proof.Machine
end

section
/-! O57 fails: what hangs on an erased slot is looked for among all entries of the slot table, and the statement takes tables that hold a
slot twice. An entry that names its own slot as parent orphans the slot that was just erased. -/
namespace Sys2Proof.Machine
open Sys2Proof

/-- An ACTIVE slot derived from slot 0. -/
def slotOfParentZero : KeySlot := { keySlotEmpty with st := 1, parent := 0 }

/-- Channel A with slot 0 held twice, its own parent, an invalidation of it at its boundary, and energy enough to commit it. -/
def slotHeldTwice : State :=
  { State.reset with a := { channelReset .a with
      psu := { (channelReset .a).psu with capUF := 1000000, lining := 40000 }
      keys := { keysReset with slots := [(0, slotOfParentZero), (0, slotOfParentZero)], pend := [⟨3, [], 0⟩] } } }

theorem keyInvalidate_orphans_erased : ∃ t, exec (.keyCommandEffect .a) slotHeldTwice = .next t ∧ (slotAt t.a 0).st = 2 :=
  ⟨_, rfl, by decide +kernel⟩

/-- Refutes O57: an invalidation leaves a slot that is held twice ORPHANED. -/
theorem not_keyCommandsTakeEffect : ¬ Obligations.key_commands_take_effect := by
  rintro ⟨hinvalidate, -⟩
  obtain ⟨t, ht, -, -, hslot, -⟩ := hinvalidate slotHeldTwice .a ⟨3, [], 0⟩ [] rfl rfl (by decide) (by decide)
  obtain ⟨u, hu, horphan⟩ := keyInvalidate_orphans_erased
  cases hu.symm.trans ht
  have hzero : kSlot [] = 0 := rfl
  rw [chanOf_a, hzero] at hslot
  rw [hslot] at horphan
  exact absurd horphan (by decide)

end Sys2Proof.Machine
end

section
/-! How a statement about one command is settled: the channel that the command runs on, and that it reaches no other. -/
namespace Sys2Proof.Machine
open Sys2Proof

/-- A command of one channel: what holds of that channel as its meaning leaves it, the rest unchanged. -/
theorem does_onChan {i : Instr} {ch : Chan} {f : Channel → Channel} {s : State} {P : State → Prop} (hi : exec i s = onChan ch f s)
    (h : ∀ t, chanOf t ch = f (commitsEnded (chanOf s ch)) → onlyChan ch s t → P t) : Does i s P :=
  ⟨_, hi.trans (onChan_next ch f s), h _ (chanOf_withChan s ch _) (onlyChan_withChan s ch _)⟩

/-- A command of one channel that its meaning leaves as it is. -/
theorem does_nothing {i : Instr} {ch : Chan} {f : Channel → Channel} {s : State} (hi : exec i s = onChan ch f s)
    (h : f (commitsEnded (chanOf s ch)) = commitsEnded (chanOf s ch)) : Does i s (fun t => chanOf t ch = commitsEnded (chanOf s ch)) :=
  does_onChan hi fun _ ht _ => ht.trans h

end Sys2Proof.Machine
end

section
/-! The footprint of an operation: the parts of a channel outside of which it leaves everything as it was. -/
namespace Sys2Proof.Machine
open Sys2Proof

/-- The parts of a channel. -/
inductive Part where
  | id | boot | slots | time | gens | sw | ingest | paths | graphs | disp | pub | lse | retain | host | seam | sleeves | can | pleat
  | keysNv | keys | journal | ledgerNv | ledger | dict | ctr | diag | psu | epUJ | temp | tempOut | emitted | free
  deriving DecidableEq

/-- Two channels agree in a part. -/
def Part.same (c d : Channel) : Part → Prop
  | .id => d.id = c.id
  | .boot => d.boot = c.boot
  | .slots => d.slots = c.slots
  | .time => d.time = c.time
  | .gens => d.gens = c.gens
  | .sw => d.sw = c.sw
  | .ingest => d.ingest = c.ingest
  | .paths => d.paths = c.paths
  | .graphs => d.graphs = c.graphs
  | .disp => d.disp = c.disp
  | .pub => d.pub = c.pub
  | .lse => d.lse = c.lse
  | .retain => d.retain = c.retain
  | .host => d.host = c.host
  | .seam => d.seam = c.seam
  | .sleeves => d.sleeves = c.sleeves
  | .can => d.can = c.can
  | .pleat => d.pleat = c.pleat
  | .keysNv => d.keysNv = c.keysNv
  | .keys => d.keys = c.keys
  | .journal => d.journal = c.journal
  | .ledgerNv => d.ledgerNv = c.ledgerNv
  | .ledger => d.ledger = c.ledger
  | .dict => d.dict = c.dict
  | .ctr => d.ctr = c.ctr
  | .diag => d.diag = c.diag
  | .psu => d.psu = c.psu
  | .epUJ => d.epUJ = c.epUJ
  | .temp => d.temp = c.temp
  | .tempOut => d.tempOut = c.tempOut
  | .emitted => d.emitted = c.emitted
  | .free => d.free = c.free

/-- `d` differs from `c` in the parts `A` at most. -/
def Touches (A : List Part) (c d : Channel) : Prop := ∀ p, p ∉ A → p.same c d

theorem same_trans {p : Part} {c d e : Channel} (hcd : p.same c d) (hde : p.same d e) : p.same c e := by
  cases p <;> exact Eq.trans hde hcd

theorem same_symm {p : Part} {c d : Channel} (h : p.same c d) : p.same d c := by
  cases p <;> exact Eq.symm h

@[simp] theorem touches_refl (A : List Part) (c : Channel) : Touches A c c := fun p _ => by cases p <;> rfl

theorem Touches.mono {A B : List Part} {c d : Channel} (h : Touches A c d) (hAB : A ⊆ B) : Touches B c d :=
  fun p hp => h p fun hA => hp (hAB hA)

theorem Touches.trans {A : List Part} {c d e : Channel} (hcd : Touches A c d) (hde : Touches A d e) : Touches A c e :=
  fun p hp => same_trans (hcd p hp) (hde p hp)

/-- An operation whose footprint lies within `A` may be left out. -/
theorem Touches.iff {A B : List Part} {d e : Channel} (h : Touches B d e) (hBA : B ⊆ A) (c : Channel) : Touches A c e ↔ Touches A c d :=
  ⟨fun hce p hp => same_trans (hce p hp) (same_symm (h.mono hBA p hp)), fun hcd => hcd.trans (h.mono hBA)⟩

/-- The footprint of a record update, field by field. -/
theorem touches_of_fields {A : List Part} {c d : Channel} (h : ∀ p : Part, p ∈ A ∨ p.same c d) : Touches A c d :=
  fun p hp => (h p).resolve_left hp

theorem Touches.foldl {α : Type} {A : List Part} {f : Channel → α → Channel} (h : ∀ c x, Touches A c (f c x)) (l : List α) (c : Channel) :
    Touches A c (l.foldl f c) := by
  induction l generalizing c with
  | nil => exact touches_refl A c
  | cons x l ih => exact (h c x).trans (ih (f c x))

end Sys2Proof.Machine
end

section
/-! The footprints of the operations that every meaning is built from: counters, the Journal, episodes, event sources, answers, roles. -/
namespace Sys2Proof.Machine
open Sys2Proof

section
variable {A : List Part} {c d : Channel}

/-- The footprint of a record update: each part is in it, or as it was. -/
@[simp] theorem touches_mk
    (id' : Chan) (boot' : BootSt) (slots' : SlotsNv) (time' : TimeSt) (gens' : KMap PulseGen) (sw' : SwitchSt) (ingest' :
    IngestSt) (paths' : KMap CPath) (graphs' : KMap GraphRt) (disp' : DispSt) (pub' : PubSt) (lse' : KMap Lse) (retain' : KMap
    RetainNv) (host' : HostSt) (seam' : SeamSt) (sleeves' : KMap Sleeve) (can' : KMap CanPort) (pleat' : PleatSt) (keysNv' :
    KeysNv) (keys' : KeysSt) (journal' : Journal) (ledgerNv' : LedgerNv) (ledger' : LedgerSt) (dict' : DictSt) (ctr' : KMap
    U64) (diag' : DiagSt) (psu' : Supply) (epUJ' : Nat) (temp' : Int) (tempOut' : Bool) (emitted' : List Emission) (free' :
    Nat) :
    Touches A c ⟨id', boot', slots', time', gens', sw', ingest', paths', graphs', disp', pub', lse', retain', host', seam', sleeves',
      can', pleat', keysNv', keys', journal', ledgerNv', ledger', dict', ctr', diag', psu', epUJ', temp', tempOut', emitted', free'⟩ ↔
    (.id ∈ A ∨ id' = c.id) ∧ (.boot ∈ A ∨ boot' = c.boot) ∧ (.slots ∈ A ∨ slots' = c.slots) ∧ (.time ∈ A ∨ time' = c.time) ∧
    (.gens ∈ A ∨ gens' = c.gens) ∧ (.sw ∈ A ∨ sw' = c.sw) ∧ (.ingest ∈ A ∨ ingest' = c.ingest) ∧ (.paths ∈ A ∨ paths' =
    c.paths) ∧ (.graphs ∈ A ∨ graphs' = c.graphs) ∧ (.disp ∈ A ∨ disp' = c.disp) ∧ (.pub ∈ A ∨ pub' = c.pub) ∧ (.lse ∈ A ∨ lse'
    = c.lse) ∧ (.retain ∈ A ∨ retain' = c.retain) ∧ (.host ∈ A ∨ host' = c.host) ∧ (.seam ∈ A ∨ seam' = c.seam) ∧ (.sleeves ∈ A
    ∨ sleeves' = c.sleeves) ∧ (.can ∈ A ∨ can' = c.can) ∧ (.pleat ∈ A ∨ pleat' = c.pleat) ∧ (.keysNv ∈ A ∨ keysNv' = c.keysNv)
    ∧ (.keys ∈ A ∨ keys' = c.keys) ∧ (.journal ∈ A ∨ journal' = c.journal) ∧ (.ledgerNv ∈ A ∨ ledgerNv' = c.ledgerNv) ∧
    (.ledger ∈ A ∨ ledger' = c.ledger) ∧ (.dict ∈ A ∨ dict' = c.dict) ∧ (.ctr ∈ A ∨ ctr' = c.ctr) ∧ (.diag ∈ A ∨ diag' =
    c.diag) ∧ (.psu ∈ A ∨ psu' = c.psu) ∧ (.epUJ ∈ A ∨ epUJ' = c.epUJ) ∧ (.temp ∈ A ∨ temp' = c.temp) ∧ (.tempOut ∈ A ∨
    tempOut' = c.tempOut) ∧ (.emitted ∈ A ∨ emitted' = c.emitted) ∧ (.free ∈ A ∨ free' = c.free) := by
  constructor
  · intro h
    exact ⟨or_iff_not_imp_left.2 (h .id), or_iff_not_imp_left.2 (h .boot), or_iff_not_imp_left.2 (h .slots), or_iff_not_imp_left.2 (h .time), or_iff_not_imp_left.2 (h .gens), or_iff_not_imp_left.2 (h .sw),
      or_iff_not_imp_left.2 (h .ingest), or_iff_not_imp_left.2 (h .paths), or_iff_not_imp_left.2 (h .graphs),
      or_iff_not_imp_left.2 (h .disp), or_iff_not_imp_left.2 (h .pub), or_iff_not_imp_left.2 (h .lse), or_iff_not_imp_left.2 (h
      .retain), or_iff_not_imp_left.2 (h .host), or_iff_not_imp_left.2 (h .seam), or_iff_not_imp_left.2 (h .sleeves),
      or_iff_not_imp_left.2 (h .can), or_iff_not_imp_left.2 (h .pleat), or_iff_not_imp_left.2 (h .keysNv),
      or_iff_not_imp_left.2 (h .keys), or_iff_not_imp_left.2 (h .journal), or_iff_not_imp_left.2 (h .ledgerNv),
      or_iff_not_imp_left.2 (h .ledger), or_iff_not_imp_left.2 (h .dict), or_iff_not_imp_left.2 (h .ctr), or_iff_not_imp_left.2
      (h .diag), or_iff_not_imp_left.2 (h .psu), or_iff_not_imp_left.2 (h .epUJ), or_iff_not_imp_left.2 (h .temp),
      or_iff_not_imp_left.2 (h .tempOut), or_iff_not_imp_left.2 (h .emitted), or_iff_not_imp_left.2 (h .free)⟩
  · rintro ⟨hid, hboot, hslots, htime, hgens, hsw, hingest, hpaths, hgraphs, hdisp, hpub, hlse, hretain, hhost, hseam, hsleeves, hcan, hpleat, hkeysNv, hkeys, hjournal, hledgerNv, hledger, hdict, hctr, hdiag, hpsu, hepUJ, htemp, htempOut, hemitted, hfree⟩ p
    cases p <;> exact or_iff_not_imp_left.1 (by assumption)

@[simp] theorem touches_bumpN (i sub n : Nat) (hA : [.ctr] ⊆ A) : Touches A c (bumpN i sub n d) ↔ Touches A c d :=
  Touches.iff (fun p hp => by cases p <;> simp [Part.same] at hp ⊢) hA c
@[simp] theorem touches_bump (i sub : Nat) (hA : [.ctr] ⊆ A) : Touches A c (bump i sub d) ↔ Touches A c d :=
  Touches.iff (fun p hp => by cases p <;> simp [Part.same] at hp ⊢) hA c
@[simp] theorem touches_setRo (i sub v : Nat) (hA : [.dict] ⊆ A) : Touches A c (setRo i sub v d) ↔ Touches A c d :=
  Touches.iff (fun p hp => by cases p <;> simp [Part.same] at hp ⊢) hA c
@[simp] theorem touches_setRoFF (i sub v : Nat) (hA : [.dict] ⊆ A) : Touches A c (setRoFF i sub v d) ↔ Touches A c d :=
  Touches.iff (fun p hp => by cases p <;> simp [Part.same] at hp ⊢) hA c
@[simp] theorem touches_highWater (i sub v : Nat) (hA : [.dict] ⊆ A) : Touches A c (highWater i sub v d) ↔ Touches A c d :=
  Touches.iff (fun p hp => by cases p <;> simp [Part.same] at hp ⊢) hA c
@[simp] theorem touches_emit (e : Emission) (hA : [.emitted] ⊆ A) : Touches A c (emit e d) ↔ Touches A c d :=
  Touches.iff (fun p hp => by cases p <;> simp [Part.same] at hp ⊢) hA c
@[simp] theorem touches_commitsEnded (hA : [.epUJ] ⊆ A) : Touches A c (commitsEnded d) ↔ Touches A c d :=
  Touches.iff (fun p hp => by cases p <;> simp [Part.same] at hp ⊢) hA c
@[simp] theorem touches_fnPut (f : Nat) (r : FnRegs) (hA : [.host] ⊆ A) : Touches A c (fnPut f r d) ↔ Touches A c d :=
  Touches.iff (fun p hp => by cases p <;> simp [Part.same] at hp ⊢) hA c
@[simp] theorem touches_journalAdd (k n sl : Nat) (body : List Byte) (hA : [.journal, .ctr] ⊆ A) : Touches A c (journalAdd k n sl body d) ↔ Touches A c d :=
  Touches.iff (fun p hp => by cases p <;> simp [Part.same] at hp ⊢) hA c
@[simp] theorem touches_pendOn (src f : Nat) (hA : [.host, .emitted] ⊆ A) : Touches A c (pendOn src f d) ↔ Touches A c d :=
  Touches.iff (fun p hp => by cases p <;> simp [Part.same] at hp ⊢) hA c
@[simp] theorem touches_advanceTo (t : Nat) (hA : [.time] ⊆ A) : Touches A c (advanceTo t d) ↔ Touches A c d :=
  Touches.iff (fun p hp => by cases p <;> simp [Part.same] at hp ⊢) hA c
@[simp] theorem touches_raiseNow (src sl obj v : Nat) (hA : [.host, .journal, .ctr, .emitted] ⊆ A) : Touches A c (raiseNow src sl obj v d) ↔ Touches A c d :=
  Touches.iff (fun p hp => by cases p <;> simp [Part.same] at hp ⊢) hA c
@[simp] theorem touches_raise (src sl obj v : Nat) (hA : [.host, .journal, .ctr, .emitted] ⊆ A) : Touches A c (raise src sl obj v d) ↔ Touches A c d :=
  Touches.iff (fun p hp => by cases p <;> simp [Part.same] at hp ⊢) hA c
@[simp] theorem touches_raiseLimited (src sl obj v key : Nat) (hA : [.host, .journal, .ctr, .diag, .emitted] ⊆ A) : Touches A c (raiseLimited src sl obj v key d) ↔ Touches A c d :=
  Touches.iff (fun p hp => by cases p <;> simp [Part.same] at hp ⊢) hA c
@[simp] theorem touches_episode (src : Nat) (l : List Byte) (hA : [.host, .journal, .ledger, .ctr, .diag, .emitted] ⊆ A) : Touches A c (episode src l d) ↔ Touches A c d :=
  Touches.iff (fun p hp => by cases p <;> simp [Part.same] at hp ⊢) hA c
@[simp] theorem touches_injEnd (i st : Nat) (hA : [.host, .journal, .ctr, .diag, .emitted] ⊆ A) : Touches A c (injEnd i st d) ↔ Touches A c d :=
  Touches.iff (fun p hp => by cases p <;> simp [Part.same] at hp ⊢) hA c
@[simp] theorem touches_injEndAll (hA : [.host, .journal, .ctr, .diag, .emitted] ⊆ A) : Touches A c (injEndAll d) ↔ Touches A c d :=
  Touches.iff (fun p hp => by cases p <;> simp [Part.same] at hp ⊢) hA c
@[simp] theorem touches_injCheck (hA : [.host, .journal, .ctr, .diag, .emitted] ⊆ A) : Touches A c (injCheck d) ↔ Touches A c d :=
  Touches.iff (fun p hp => by cases p <;> simp [Part.same] at hp ⊢) hA c
@[simp] theorem touches_enterMode (m : Mode) (hA : [.boot, .host, .can, .journal, .ctr, .diag, .emitted] ⊆ A) : Touches A c (enterMode m d) ↔ Touches A c d :=
  Touches.iff (fun p hp => by cases p <;> simp [Part.same] at hp ⊢) hA c
@[simp] theorem touches_post (r : MRec) (hA : [.seam, .ctr] ⊆ A) : Touches A c (post r d) ↔ Touches A c d :=
  Touches.iff (fun p hp => by cases p <;> simp [Part.same] at hp ⊢) hA c
@[simp] theorem touches_dropControl (hA : [.boot, .pub, .seam] ⊆ A) : Touches A c (dropControl d) ↔ Touches A c d :=
  Touches.iff (fun p hp => by cases p <;> simp [Part.same] at hp ⊢) hA c
@[simp] theorem touches_relinquish (code : Nat) (hA : [.boot, .pub, .host, .seam, .journal, .ledger, .ctr, .diag, .emitted] ⊆ A) : Touches A c (relinquish code d) ↔ Touches A c d :=
  Touches.iff (fun p hp => by cases p <;> simp [Part.same] at hp ⊢) hA c
@[simp] theorem touches_answer (q : Path) (st : Nat) (l : List Byte) (hA : [.host, .emitted] ⊆ A) : Touches A c (answer q st l d) ↔ Touches A c d :=
  Touches.iff (fun p hp => by cases p <;> simp [Part.same] at hp ⊢) hA c
@[simp] theorem touches_refuse (e i sub : Nat) (q : Path) (hA : [.host, .dict, .ctr, .emitted] ⊆ A) : Touches A c (refuse e i sub q d) ↔ Touches A c d :=
  Touches.iff (fun p hp => by cases p <;> simp [Part.same] at hp ⊢) hA c
@[simp] theorem touches_taken (q : Path) (m : HostCmd) (hA : [.seam, .journal, .ctr] ⊆ A) : Touches A c (taken q m d) ↔ Touches A c d :=
  Touches.iff (fun p hp => by cases p <;> simp [Part.same] at hp ⊢) hA c
@[simp] theorem touches_accept (q : Path) (m : HostCmd) (hA : [.host, .seam, .journal, .ctr, .emitted] ⊆ A) : Touches A c (accept q m d) ↔ Touches A c d :=
  Touches.iff (fun p hp => by cases p <;> simp [Part.same] at hp ⊢) hA c
@[simp] theorem touches_acceptOwn (q : Path) (hA : [.host, .journal, .ctr, .emitted] ⊆ A) : Touches A c (acceptOwn q d) ↔ Touches A c d :=
  Touches.iff (fun p hp => by cases p <;> simp [Part.same] at hp ⊢) hA c
@[simp] theorem touches_openCuff (hA : [.pub, .seam] ⊆ A) : Touches A c (openCuff d) ↔ Touches A c d :=
  Touches.iff (fun p hp => by cases p <;> simp [Part.same] at hp ⊢) hA c
@[simp] theorem touches_enterActive (hA : [.boot, .pub, .host, .seam, .can, .journal, .ctr, .diag, .emitted] ⊆ A) : Touches A c (enterActive d) ↔ Touches A c d :=
  Touches.iff (fun p hp => by cases p <;> simp [Part.same] at hp ⊢) hA c
@[simp] theorem touches_trimStore (hA : [.seam, .ctr] ⊆ A) : Touches A c (trimStore d) ↔ Touches A c d :=
  Touches.iff (fun p hp => by cases p <;> simp [Part.same] at hp ⊢) hA c
@[simp] theorem touches_grantControl (hA : [.boot, .pub, .host, .seam, .can, .journal, .ctr, .diag, .emitted] ⊆ A) : Touches A c (grantControl d) ↔ Touches A c d :=
  Touches.iff (fun p hp => by cases p <;> simp [Part.same] at hp ⊢) hA c
@[simp] theorem touches_readyUpdate (hA : [.boot, .pub, .host, .seam, .can, .journal, .ctr, .diag, .emitted] ⊆ A) : Touches A c (readyUpdate d) ↔ Touches A c d :=
  Touches.iff (fun p hp => by cases p <;> simp [Part.same] at hp ⊢) hA c

end

end Sys2Proof.Machine
end

section
/-! Zeroisation (19 R582, R583): what its two sources leave of a channel. -/
namespace Sys2Proof.Machine
open Sys2Proof

theorem zeroised_zeroise (src : Nat) (c : Channel) : zeroised (zeroise src c) := by
  simp [zeroised, zeroise, keysReset]

theorem zeroise_cellsA (src : Nat) (c : Channel) : (zeroise src c).keysNv.cellsA = c.keysNv.cellsA := by
  simp [zeroise]

theorem mantleMeshBreachC_unpowered {c : Channel} (h : c.boot.powered = false) : mantleMeshBreachC c = c := by
  simp [mantleMeshBreachC, h]

theorem tamperNAssertedC_unpowered {c : Channel} (ns : Nat) (h : c.boot.powered = false) : tamperNAssertedC ns c = c := by
  simp [tamperNAssertedC, h]

/-- A pulse below 1 µs does not count. -/
theorem tamperNAssertedC_short {ns : Nat} (c : Channel) (h : ns < 1000) : tamperNAssertedC ns c = c := by
  have hlong : ¬ 1000 ≤ ns := Nat.not_le.2 h
  simp [tamperNAssertedC, hlong]

/-- Settles O58: both sources zeroise a powered channel, and neither does anything otherwise. -/
theorem zeroisation : Obligations.zeroisation := by
  unfold Obligations.zeroisation
  refine ⟨fun s ch hp => does_onChan rfl fun t ht ho => ?_, fun s ch ns hp hns => does_onChan rfl fun t ht ho => ?_,
    fun s ch ns hns => does_nothing rfl (tamperNAssertedC_short _ hns),
    fun s ch ns hp => ⟨does_nothing rfl (mantleMeshBreachC_unpowered hp), does_nothing rfl (tamperNAssertedC_unpowered ns hp)⟩⟩
  · have hz : mantleMeshBreachC (commitsEnded (chanOf s ch)) = zeroise 1 (commitsEnded (chanOf s ch)) := by simp [mantleMeshBreachC, hp]
    rw [ht, hz]
    exact ⟨zeroised_zeroise 1 _, zeroise_cellsA 1 _, ho⟩
  · have hz : tamperNAssertedC ns (commitsEnded (chanOf s ch)) = zeroise 2 (commitsEnded (chanOf s ch)) := by
      simp [tamperNAssertedC, hp, hns]
    rw [ht, hz]
    exact ⟨zeroised_zeroise 2 _, ho⟩

end Sys2Proof.Machine
end

section
/-! The footprints of the switch's operations up to the egress queues (14 R418 to R443), and what they leave of the switch itself. -/
namespace Sys2Proof.Machine
open Sys2Proof

/-- What the switch writes of its channel as it queues, drops and captures frames. -/
abbrev queueParts : List Part := [.sw, .host, .journal, .dict, .ctr, .diag, .emitted, .free]

section
variable {A : List Part} {c d : Channel}

@[simp] theorem touches_upTo (t : Nat) (hA : [.time] ⊆ A) : Touches A c (upTo t d) ↔ Touches A c d := touches_advanceTo _ hA

@[simp] theorem touches_portPut (p : Nat) (x : PortSt) (hA : [.sw] ⊆ A) : Touches A c (portPut p x d) ↔ Touches A c d :=
  Touches.iff (B := [.sw]) (by simp [portPut]) hA c

@[simp] theorem touches_groupPut (g : Nat) (x : GroupSt) (hA : [.sw] ⊆ A) : Touches A c (groupPut g x d) ↔ Touches A c d :=
  Touches.iff (B := [.sw]) (by simp [groupPut]) hA c

@[simp] theorem touches_draw (hA : [.free] ⊆ A) : Touches A c (draw d).2 ↔ Touches A c d :=
  Touches.iff (B := [.free]) (by simp [draw]) hA c

@[simp] theorem touches_nextSeq (m : BitVec 48) (hA : [.sw] ⊆ A) : Touches A c (nextSeq m d).2 ↔ Touches A c d :=
  Touches.iff (B := [.sw]) (by simp [nextSeq]) hA c

@[simp] theorem touches_capture (dir disp i o q : Nat) (x : QFrame) (hA : [.sw, .host, .journal, .ctr, .diag, .emitted] ⊆ A) :
    Touches A c (capture dir disp i o q x d) ↔ Touches A c d := by
  refine Touches.iff (B := [.sw, .host, .journal, .ctr, .diag, .emitted]) ?_ hA c
  unfold capture
  simp only []
  split_ifs <;> simp

@[simp] theorem touches_redDrop (p q col : Nat) (hA : [.sw, .free] ⊆ A) : Touches A c (redDrop p q col d).2 ↔ Touches A c d := by
  refine Touches.iff (B := [.sw, .free]) ?_ hA c
  unfold redDrop
  simp only []
  split <;> [skip; split_ifs] <;> simp

@[simp] theorem touches_enqueue (o q : Nat) (x : QFrame) (hA : queueParts ⊆ A) : Touches A c (enqueue o q x d) ↔ Touches A c d := by
  refine Touches.iff (B := queueParts) ?_ hA c
  unfold enqueue
  simp only []
  split_ifs <;> simp

@[simp] theorem touches_sendOut (p q col ts n : Nat) (outs : List Nat) (f : Frame) (hA : queueParts ⊆ A) :
    Touches A c (sendOut p q col ts n outs f d) ↔ Touches A c d :=
  Touches.iff (B := queueParts) (Touches.foldl (fun c o => by simp) outs d) hA c

end

/-! ### The groups of the switch -/

@[simp] theorem portPut_groups (p : Nat) (x : PortSt) (c : Channel) : (portPut p x c).sw.groups = c.sw.groups := rfl

@[simp] theorem capture_groups (dir disp i o q : Nat) (x : QFrame) (c : Channel) : (capture dir disp i o q x c).sw.groups = c.sw.groups := by
  unfold capture
  simp only []
  split_ifs <;> simp

@[simp] theorem redDrop_groups (p q col : Nat) (c : Channel) : (redDrop p q col c).2.sw.groups = c.sw.groups := by
  unfold redDrop
  simp only []
  split <;> [skip; split_ifs] <;> simp [draw]

@[simp] theorem enqueue_groups (o q : Nat) (x : QFrame) (c : Channel) : (enqueue o q x c).sw.groups = c.sw.groups := by
  unfold enqueue
  simp only []
  split_ifs <;> simp

@[simp] theorem sendOut_groups (p q col ts n : Nat) (outs : List Nat) (f : Frame) (c : Channel) :
    (sendOut p q col ts n outs f c).sw.groups = c.sw.groups :=
  foldl_keeps (g := fun c => c.sw.groups) (fun c o => enqueue_groups o q _ c) outs c

end Sys2Proof.Machine
end

section
/-! The switch's supervision frames and the entries that age out (14 R427, R438, R440). -/
namespace Sys2Proof.Machine
open Sys2Proof

/-- The uptime that an operation waits for has come. -/
theorem upTo_up (t : Nat) (c : Channel) : (upTo t c).time.up = max c.time.up t := by
  unfold upTo advanceTo
  split_ifs with h
  · simp only []
    omega
  · omega

@[simp] theorem upTo_sw (t : Nat) (c : Channel) : (upTo t c).sw = c.sw := advanceTo_sw _ c

theorem groupPut_time (g : Nat) (x : GroupSt) (c : Channel) : (groupPut g x c).time = c.time := rfl

@[simp] theorem groupSt_groupPut (g : Nat) (x : GroupSt) (c : Channel) : groupSt (groupPut g x c) g = x := by
  simp [groupSt, groupPut, kGet_kPut_same]

theorem groupSt_of_groups {c d : Channel} (h : d.sw.groups = c.sw.groups) (g : Nat) : groupSt d g = groupSt c g := by
  unfold groupSt
  rw [h]

/-- A group's record after its supervision frames went out. -/
theorem groupSt_supervise (gn : Nat) (g : GroupRec) (c : Channel) :
    groupSt (supervise gn g c) gn = { groupSt c gn with supSeq := ((groupSt c gn).supSeq + 1) % 65536, lifeAt := c.time.up } := by
  unfold supervise
  simp only []
  rw [groupSt_of_groups (c := groupPut gn { groupSt c gn with supSeq := ((groupSt c gn).supSeq + 1) % 65536, lifeAt := c.time.up } c)
    (by simp [nextSeq]), groupSt_groupPut]

theorem supervise_time (gn : Nat) (g : GroupRec) (c : Channel) : (supervise gn g c).time = c.time := by
  have h : Touches queueParts c (supervise gn g c) := by simp [supervise]
  exact h .time (by decide)

/-- The supervision interval of a group: LifeCheckInterval, 2 s where it is 0. -/
theorem lifeCheckIntervalC_of_group {gn : Nat} {g : GroupRec} {c : Channel} (h : kGet c.sw.cfg.groups gn = some g) :
    lifeCheckIntervalC gn c = supervise gn g (upTo ((groupSt c gn).lifeAt + (if g.lifeMs = 0 then 2000 else g.lifeMs) * 1000000) c) := by
  simp [lifeCheckIntervalC, h]

/-- A node that is in the table leaves it, and no other node does. -/
theorem nodes_nodeForgetC {gn : Nat} {g : GroupRec} {c : Channel} {n : BitVec 48 × List (BitVec 48) × Nat}
    (hg : kGet c.sw.cfg.groups gn = some g) (hn : n ∈ (groupSt c gn).nodes) :
    (groupSt (nodeForgetC gn n.1 c) gn).nodes = (groupSt c gn).nodes.filter (fun m => m.1 != n.1) := by
  obtain ⟨m, hm⟩ : ∃ m, (groupSt c gn).nodes.find? (fun m => m.1 == n.1) = some m :=
    Option.isSome_iff_exists.1 (List.find?_isSome.2 ⟨n, hn, beq_self_eq_true _⟩)
  simp [nodeForgetC, hg, hm]

/-- The one delivered copy leaves the table when its time has passed. -/
theorem entryForgetC_of_entry {gn : Nat} {g : GroupRec} {c : Channel} {e : DupEntry} (hg : kGet c.sw.cfg.groups gn = some g)
    (hd : (groupSt c gn).delivered = [e]) (hr : (groupSt c gn).ringSent = []) :
    (groupSt (entryForgetC gn e.mac e.seq c) gn).delivered = [] ∧
      (entryForgetC gn e.mac e.seq c).time = (upTo (e.at_ + forgetNs g) c).time := by
  have hage : e.at_ + forgetNs g ≤ (upTo (e.at_ + forgetNs g) c).time.up := by
    rw [upTo_up]
    exact le_max_right _ _
  have hfind : ([e] ++ ([] : List DupEntry)).find? (fun x => x.mac == e.mac && x.seq == e.seq) = some e := by simp
  unfold entryForgetC
  simp only [hg, hd, hr, hfind, groupSt_groupPut]
  exact ⟨by simp [hage], groupPut_time _ _ _⟩

/-- A group whose supervision interval has come: the frames are numbered, and the interval is counted from now. -/
theorem lifeCheckIntervalC_group {gn : Nat} {g : GroupRec} {c : Channel} (h : kGet c.sw.cfg.groups gn = some g) :
    groupSt (lifeCheckIntervalC gn c) gn =
        { groupSt c gn with supSeq := ((groupSt c gn).supSeq + 1) % 65536, lifeAt := (lifeCheckIntervalC gn c).time.up } ∧
      (groupSt c gn).lifeAt + (if g.lifeMs = 0 then 2000 else g.lifeMs) * 1000000 ≤ (lifeCheckIntervalC gn c).time.up := by
  rw [lifeCheckIntervalC_of_group h, groupSt_supervise, supervise_time, groupSt_of_groups (c := c) (by simp), upTo_up]
  exact ⟨rfl, le_max_right _ _⟩

/-- Settles O33: each operation on the groups' records and on the learned addresses, as its function has it. -/
theorem switchTables : Obligations.switch_tables := by
  unfold Obligations.switch_tables
  refine ⟨fun s ch g r hg => does_onChan rfl fun t ht ho => ?_, fun s ch g r mac n hg hn hmac => does_onChan rfl fun t ht ho => ?_,
    fun s ch g r mac seq e hg hd hr hmac hseq => does_onChan rfl fun t ht ho => ?_,
    fun s ch mac vid l hl => does_onChan rfl fun t ht ho => ?_⟩
  · obtain ⟨hgroup, hdue⟩ := lifeCheckIntervalC_group (c := commitsEnded (chanOf s ch)) hg
    rw [ht, hgroup]
    exact ⟨rfl, rfl, rfl, hdue, ho⟩
  · subst hmac
    rw [ht]
    exact ⟨nodes_nodeForgetC (c := commitsEnded (chanOf s ch)) hg hn, ho⟩
  · subst hmac hseq
    rw [ht]
    obtain ⟨hdel, htime⟩ := entryForgetC_of_entry (c := commitsEnded (chanOf s ch)) hg hd hr
    refine ⟨hdel, ?_, ho⟩
    rw [htime, upTo_up]
    exact le_max_right _ _
  · rw [ht]
    simp [learnedEntryAgeOutC, hl, ho]

end Sys2Proof.Machine
end

section
/-! The Pleat recorder (18 R535 to R545, R552 to R554): rows, segments, triggers at their instant, and the flash store. -/
namespace Sys2Proof.Machine
open Sys2Proof

theorem sigAt_commitsEnded (c : Channel) : sigAt (commitsEnded c) = sigAt c := rfl

theorem fillRow_commitsEnded (c : Channel) (owner t : Nat) (sigs : List SigRec) (row : List (Option (U32 × U32 × Bool))) :
    fillRow (commitsEnded c) owner t sigs row = fillRow c owner t sigs row := by
  induction sigs generalizing row with
  | nil => rfl
  | cons s r ih => simp only [fillRow, ih, sigAt_commitsEnded]

/-- The row in progress, with the signals copied that are raised now. -/
def rowNow (c : Channel) (x : PDef) : List (Option (U32 × U32 × Bool)) := fillRow c x.cfg.owner (instantOf x.cfg.rate x.next) x.cfg.sigs x.row

theorem rowNow_commitsEnded (c : Channel) (x : PDef) : rowNow (commitsEnded c) x = rowNow c x := fillRow_commitsEnded c _ _ _ _

section
variable {d : Nat} {x : PDef} {c : Channel}

/-- A row that lacks a signal stays in progress. -/
theorem pleatRowCaptureC_incomplete (hx : kGet c.pleat.defs d = some x) (hst : x.st ≠ .stopped)
    (hrow : (rowNow c x).all (fun v => v.isSome) = false) : pleatRowCaptureC d c = putDef d { x with row := rowNow c x } c := by
  unfold rowNow at hrow ⊢
  simp only [pleatRowCaptureC, hx, hst, hrow, if_false, Bool.false_eq_true]

/-- A full row enters the ring, which keeps no more than its unpinned rows. -/
theorem pleatRowCaptureC_full (hx : kGet c.pleat.defs d = some x) (hst : x.st ≠ .stopped)
    (hrow : (rowNow c x).all (fun v => v.isSome) = true) :
    ∃ ring c₁, ring.length ≤ ringRows x.cfg - pinnedRows c d ∧ pleatRowCaptureC d c = closeIfDone d (bump (defIndex d) 6 c₁) ∧
      kGet c₁.pleat.defs d = some { x with ring := ring, row := [], next := x.next + 1 } ∧ c₁.ctr = c.ctr ∧ c₁.time = c.time := by
  unfold rowNow at hrow
  simp only [pleatRowCaptureC, hx, hst, hrow, if_false, if_true]
  refine ⟨_, _, ?_, rfl, kGet_putDef_same _ _ _, rfl, rfl⟩
  rw [List.length_drop]
  omega

theorem closeIfDone_none (hx : kGet c.pleat.defs d = some x) (ho : x.opened = none) : closeIfDone d c = c := by
  simp only [closeIfDone, hx, ho]

theorem closeIfDone_done {o : OpenSeg} (hx : kGet c.pleat.defs d = some x) (ho : x.opened = some o) (hlast : o.last < x.next) :
    closeIfDone d c = closeSegment d o.last false .rearming c := by
  simp only [closeIfDone, hx, ho, hlast, if_true]

theorem closeIfDone_open {o : OpenSeg} (hx : kGet c.pleat.defs d = some x) (ho : x.opened = some o) (hlast : x.next ≤ o.last) :
    closeIfDone d c = c := by
  simp only [closeIfDone, hx, ho, Nat.not_lt.2 hlast, if_false]

/-- Closing a segment counts it. -/
theorem zGet_closeSegment_closed {o : OpenSeg} (hx : kGet c.pleat.defs d = some x) (ho : x.opened = some o) (last : Nat) (trunc : Bool)
    (next : DefState) : zGet (closeSegment d last trunc next c).ctr (od 0x2D00 5) = zGet c.ctr (od 0x2D00 5) + 1 := by
  have hevent := od_not_mem_raiseCounters_of_recorder (src := 49) (by decide) 5 (by decide)
  have hdamage := od_not_mem_raiseCounters_of_recorder (src := 52) (by decide) 5 (by decide)
  have hdef : zGet (bump (defIndex d) 2 (bump 0x2D00 5 c)).ctr (od 0x2D00 5) = zGet c.ctr (od 0x2D00 5) + 1 := by
    rw [zGet_bump_other _ _ _ (od_recorder_ne_od_definition d 5 2 (by decide)), zGet_bump_same]
  have hlate : od 0x2D00 5 ≠ od 0x2D00 8 := by decide
  simp only [closeSegment, hx, ho]
  split_ifs <;> simp [raise, zGet_raiseLimited_other, zGet_raiseNow_other, zGet_bump_other _ _ _ hlate, hevent, hdamage, hdef]

/-- A trigger at an armed definition with room opens a segment, whose last row is still to come. -/
theorem openSegment_opens {src b : Nat} (hroom : pinnedRows c d + 2 * x.cfg.n ≤ ringRows x.cfg)
    (hlast : x.next ≤ numberAt x.cfg.rate b + x.cfg.n - x.cfg.p - 1) :
    ∃ o : OpenSeg, openSegment d src b x c = putDef d { x with opened := some o, st := .recording } c ∧ o.trigSrc = src ∧ o.trigInstant = b ∧
      o.trigRow = numberAt x.cfg.rate b := by
  rw [openSegment, if_neg (by omega)]
  exact ⟨_, closeIfDone_open (kGet_putDef_same _ _ _) rfl hlast, rfl, rfl, rfl⟩

/-- Nothing was held while the definition re-armed: it is ARMED again, and nothing else of it changes. -/
theorem rearmCompleteC_armed (hx : kGet c.pleat.defs d = some x) (hst : x.st = .rearming) (hheld : x.heldTrig = []) :
    kGet (rearmCompleteC d c).pleat.defs d = some { x with st := .armed } := by
  simp only [rearmCompleteC, hx, hst, hheld, if_true, List.foldl_nil, highWater_pleat, kGet_putDef_same]

end

/-- The channel at the instant of its earliest manual trigger, which has left the queue. -/
def atManual (b : Nat) (rest : List (Nat × Nat)) (c : Channel) : Channel := advanceTo b { c with pleat := { c.pleat with manual := rest } }

theorem atManual_pleat (b : Nat) (rest : List (Nat × Nat)) (c : Channel) : (atManual b rest c).pleat = { c.pleat with manual := rest } :=
  advanceTo_pleat _ _

theorem atManual_ctr (b : Nat) (rest : List (Nat × Nat)) (c : Channel) : (atManual b rest c).ctr = c.ctr := advanceTo_ctr _ _

theorem pinnedRows_atManual (b : Nat) (rest : List (Nat × Nat)) (c : Channel) (d : Nat) : pinnedRows (atManual b rest c) d = pinnedRows c d := by
  simp [pinnedRows, atManual_pleat]

/-- A manual trigger at an armed definition. -/
theorem manualTriggerInstantC_armed {d b : Nat} {rest : List (Nat × Nat)} {x : PDef} {c : Channel} (hman : c.pleat.manual = (d, b) :: rest)
    (hx : kGet c.pleat.defs d = some x) (hst : x.st = .armed) :
    manualTriggerInstantC c = openSegment d 0x8000 b x (atManual b rest c) :=
  (manualTriggerInstantC_cons hman).trans (triggerDef_armed (c := atManual b rest c) (by rw [atManual_pleat]; exact hx) hst 0x8000 b)

/-! ### The flash store (18 R552 to R554) -/

theorem storeWriteStartC_room {c : Channel} {x : Segment} {rest : List Segment} (hq : c.pleat.queue = x :: rest) (hw : c.pleat.writing = none)
    (hp : c.psu.pwarn = false) (hr : runtimeUp c = true) (hroom : storeUsed c.pleat.store + storeBlocks x ≤ storeCapacity) :
    (storeWriteStartC c).pleat = { c.pleat with queue := rest, writing := some x } := by
  simp [storeWriteStartC, hq, hw, hp, hr, makeRoom, hroom]

theorem storeWriteStartC_pwarn {c : Channel} (hp : c.psu.pwarn = true) : storeWriteStartC c = c := by
  unfold storeWriteStartC
  split <;> simp [hp]

theorem storeWriteCompleteC_pleat {c : Channel} {x : Segment} (hw : c.pleat.writing = some x) :
    (storeWriteCompleteC c).pleat = { c.pleat with writing := none, store := c.pleat.store ++ [x], segs := c.pleat.segs ++ [x] } := by
  simp [storeWriteCompleteC, hw]

/-- Settles O55: each event of the recorder by what its function does to the definition, the counters and the store. -/
theorem pleatRecording : Obligations.pleat_recording := by
  unfold Obligations.pleat_recording
  refine ⟨fun s ch d x hx hst hrow => does_onChan rfl fun t ht ho => ?_, fun s ch d x hx hst hopen hrow => does_onChan rfl fun t ht ho => ?_,
    fun s ch d x o hx hst hopen hlast hrow => does_onChan rfl fun t ht ho => ?_,
    fun s ch d x hx hst hheld => does_onChan rfl fun t ht ho => ?_,
    fun s ch d b rest x hman hx hst hroom hlast => does_onChan rfl fun t ht ho => ?_,
    fun s ch d b rest x hman hx hst hfull => does_onChan rfl fun t ht ho => ?_,
    fun s ch x rest hq hw hp hr hroom => does_onChan rfl fun t ht ho => ?_,
    fun s ch hp => does_nothing rfl (storeWriteStartC_pwarn hp),
    fun s ch x hw => does_onChan rfl fun t ht ho => ?_⟩
  · rw [← fillRow_commitsEnded] at hrow
    rw [ht, pleatRowCaptureC_incomplete (c := commitsEnded (chanOf s ch)) hx hst hrow, kGet_putDef_same, rowNow_commitsEnded]
    exact ⟨rfl, ho⟩
  · rw [← fillRow_commitsEnded] at hrow
    obtain ⟨ring, c₁, hlen, hcap, hdef, hctr, -⟩ := pleatRowCaptureC_full (c := commitsEnded (chanOf s ch)) hx hst hrow
    rw [ht, hcap, closeIfDone_none (c := bump (defIndex d) 6 c₁) hdef hopen, zGet_bump_same, bump_pleat, hdef, hctr]
    refine ⟨rfl, fun y hy => ?_, rfl, ho⟩
    cases hy
    exact hlen
  · rw [← fillRow_commitsEnded] at hrow
    have hrun : x.st ≠ .stopped := by simp [hst]
    obtain ⟨ring, c₁, -, hcap, hdef, hctr, -⟩ := pleatRowCaptureC_full (c := commitsEnded (chanOf s ch)) hx hrun hrow
    have hdef' : kGet (bump (defIndex d) 6 c₁).pleat.defs d = some { x with ring := ring, row := [], next := x.next + 1 } := hdef
    rw [ht, hcap, closeIfDone_done hdef' hopen (Nat.lt_succ_of_le hlast), closeSegment_definition hdef' hopen,
      zGet_closeSegment_closed hdef' hopen, zGet_bump_other _ _ _ (od_recorder_ne_od_definition d 5 6 (by decide)), hctr]
    exact ⟨rfl, rfl⟩
  · rw [ht, rearmCompleteC_armed (c := commitsEnded (chanOf s ch)) hx hst hheld]
    exact ⟨rfl, ho⟩
  · obtain ⟨o, hseg, hsrc, hinst, hnum⟩ := openSegment_opens (d := d) (x := x) (c := atManual b rest (commitsEnded (chanOf s ch)))
      (src := 0x8000) (by rw [pinnedRows_atManual]; exact hroom) hlast
    rw [ht, manualTriggerInstantC_armed (c := commitsEnded (chanOf s ch)) hman hx hst, hseg, kGet_putDef_same]
    simp [putDef, atManual_pleat, hsrc, hinst, hnum, ho]
  · have hfull' : ringRows x.cfg < pinnedRows (atManual b rest (commitsEnded (chanOf s ch))) d + 2 * x.cfg.n := by
      rw [pinnedRows_atManual]
      exact hfull
    rw [ht, manualTriggerInstantC_armed (c := commitsEnded (chanOf s ch)) hman hx hst]
    refine ⟨?_, ((zGet_openSegment_of_no_room hfull' _ _).1).trans (by rw [atManual_ctr]; rfl)⟩
    rw [openSegment_of_no_room hfull', raiseLimited_pleat, bump_pleat, bump_pleat, atManual_pleat]
    exact hx
  · rw [ht, storeWriteStartC_room (c := commitsEnded (chanOf s ch)) hq hw hp hr hroom]
    exact ⟨rfl, ho⟩
  · rw [ht, storeWriteCompleteC_pleat (c := commitsEnded (chanOf s ch)) hw]
    exact ⟨rfl, ho⟩

end Sys2Proof.Machine
end

section
/-! The states of the host bridge (01 R20; 15 R449, R450, R453). -/
namespace Sys2Proof.Machine
open Sys2Proof

/-- A ring neither sends nor receives. -/
def ringOff (c : Channel) (k : Nat) : Prop := (ringGet c k).txEn = false ∧ (ringGet c k).rxEn = false

theorem ringGet_disableRing_same {r : Nat} {c : Channel} (h : kHas c.host.rings r = true) : ringOff (disableRing r c) r := by
  simp [disableRing, h, ringOff, ringGet, ringPut, kGet_kPut_same]

/-- Disabling a ring leaves every other one. -/
theorem ringOff_disableRing {r k : Nat} {c : Channel} (h : ringOff c k) : ringOff (disableRing r c) k := by
  by_cases hrk : k = r
  · subst hrk
    by_cases hhas : kHas c.host.rings k = true
    · exact ringGet_disableRing_same hhas
    · simpa [disableRing, hhas, ringOff, ringGet] using h
  · unfold disableRing
    simp only []
    split_ifs
    · simpa [ringOff, ringGet, ringPut, kGet_kPut_other _ _ _ _ hrk] using h
    · exact h

theorem kHas_disableRing {r k : Nat} {c : Channel} (h : kHas c.host.rings k = true) : kHas (disableRing r c).host.rings k = true := by
  unfold disableRing
  simp only []
  split_ifs with hr
  · by_cases hrk : k = r
    · simp [kHas, ringPut, hrk, kGet_kPut_same]
    · simpa [kHas, ringPut, kGet_kPut_other _ _ _ _ hrk] using h
  · exact h

/-- A ring of one of the listed VFs is off once each of their rings was disabled. -/
theorem ringOff_foldl_disableRing (l : List Nat) {k : Nat} {c : Channel}
    (h : ringOff c k ∨ (kHas c.host.rings k = true ∧ ∃ n ∈ l, n + 1 = k)) :
    ringOff (l.foldl (fun c n => disableRing (n + 1) c) c) k := by
  induction l generalizing c with
  | nil => simpa using h
  | cons n l ih =>
    refine ih ?_
    rcases h with h | ⟨hhas, m, hm, rfl⟩
    · exact .inl (ringOff_disableRing h)
    · rcases List.mem_cons.1 hm with rfl | hm
      · exact .inl (ringGet_disableRing_same hhas)
      · exact .inr ⟨kHas_disableRing hhas, m, hm, rfl⟩

theorem ringOff_disableVfRings {k : Nat} {c : Channel} (h1 : 1 ≤ k) (h64 : k ≤ 64) (h : kHas c.host.rings k = true) :
    ringOff (disableVfRings c) k :=
  ringOff_foldl_disableRing _ (.inr ⟨h, k - 1, List.mem_range.2 (by omega), by omega⟩)

/-- Settles O29: what each command does to the bridge, by its guards. -/
theorem hostBridgeStates : Obligations.host_bridge_states := by
  unfold Obligations.host_bridge_states
  refine ⟨fun s => ⟨_, rfl, rfl, rfl, rfl, rfl, rfl, rfl, rfl⟩, fun s speed width hup hfail h1 h4 hw => ?_, fun s hfail speed width => ?_,
    fun s => ⟨_, rfl, rfl, rfl, rfl, rfl, rfl⟩, fun s n hcar hvf h1 h64 => ?_, fun s n hcar hvf => ?_, fun s n hcar hhost => ?_⟩
  · refine ⟨{ s with bridge := { s.bridge with perst := false, speed := speed, width := width } }, ?_, rfl, rfl, rfl⟩
    change execLinkTrained speed width s = _
    have hsup : (s.supply.st == .normal || s.supply.st == .warning) = true := by rcases hup with h | h <;> simp [h]
    have hwidth : [1, 2, 4].contains width = true := by rcases hw with rfl | rfl | rfl <;> rfl
    simp only [execLinkTrained, hsup, hfail, inRange, h1, h4, hwidth]
    rfl
  · refine ⟨s, ?_, rfl⟩
    change execLinkTrained speed width s = _
    simp [execLinkTrained, hfail]
  · refine ⟨{ s with bridge := { s.bridge with vfEnable := true, numVfs := n } }, ?_, rfl, rfl, rfl⟩
    change execVfEnableWrite true n s = _
    simp [execVfEnableWrite, hcar, hvf, inRange, h1, h64]
  · refine ⟨s, ?_, rfl⟩
    change execVfEnableWrite true n s = _
    simp [execVfEnableWrite, hcar, hvf]
  · refine ⟨onHostBoth disableVfRings { s with bridge := { s.bridge with vfEnable := false } }, ?_, rfl, fun k h1 h64 hk => ?_⟩
    · change execVfEnableWrite false n s = _
      simp [execVfEnableWrite, hcar]
    · simp only [onHostBoth, hhost, if_true]
      exact ringOff_disableVfRings h1 h64 hk

end Sys2Proof.Machine
end

section
/-! The Ledger's batches, the counter snapshots and an injector's duration (20 R595 to R609; 22 R643 to R649). -/
namespace Sys2Proof.Machine
open Sys2Proof

/-! ### The hold-up check -/

theorem commitCheck_passed {kind sl ec : Nat} {c : Channel} (h : holdupOk c.psu c.epUJ ec = true) :
    commitCheck kind sl ec c = (true, { bump 0x2100 0x0F c with epUJ := c.epUJ + ec }) := by
  have hb : holdupOk (bump 0x2100 0x0F c).psu (bump 0x2100 0x0F c).epUJ ec = true := h
  simp only [commitCheck, hb, if_true]
  rfl

theorem commitCheck_refused {kind sl ec : Nat} {c : Channel} (h : holdupOk c.psu c.epUJ ec = false) :
    ∃ l, commitCheck kind sl ec c = (false, raise 14 0xFF kind 0 (episode 4 l (bump 0x2100 (0x10 + kind) (bump 0x2100 0x0F c)))) := by
  have hb : holdupOk (bump 0x2100 0x0F c).psu (bump 0x2100 0x0F c).epUJ ec = false := h
  simp only [commitCheck, hb, if_false, Bool.false_eq_true]
  exact ⟨_, rfl⟩

/-- An episode leaves the counters but for those of the Journal, of a queue that is full, and of its event. -/
theorem zGet_episode_other (src : Nat) (l : List Byte) (c : Channel) {k : Nat} (hj : k ≠ od 0x2F00 0x14) (hf : k ≠ od 0x2F00 0x08)
    (h : k ∉ raiseCounters 20) : zGet (episode src l c).ctr k = zGet c.ctr k := by
  have hadd : zGet (journalAdd 7 src 0xFF [] c).ctr k = zGet c.ctr k := zGet_journalDrain_other _ _ hj
  unfold episode
  simp only []
  split_ifs
  · exact hadd
  · rw [zGet_raiseLimited_other _ _ _ _ _ _ h, zGet_bump_other _ _ _ hf, hadd]
  · exact hadd

/-! ### Batches (20 R595, R604 to R606) -/

/-- The counter of batches made. -/
def batchesMade : Nat := od 0x2F00 9

theorem zGet_writeEpisode (st : (Nat × BitVec 4) × Channel) (e : QEpisode) :
    zGet (writeEpisode st e).2.ctr batchesMade = zGet st.2.ctr batchesMade := by
  have hfull : batchesMade ≠ od 0x2F00 7 := by decide
  have hsrc : batchesMade ≠ od 0x2F03 e.src := by
    unfold batchesMade od
    omega
  have hraise : batchesMade ∉ raiseCounters 19 := by decide
  have hlost : zGet (raiseLimited 19 0xFF 0 0 0 (bump 0x2F00 0x07 (bump 0x2F03 e.src st.2))).ctr batchesMade = zGet st.2.ctr batchesMade := by
    rw [zGet_raiseLimited_other _ _ _ _ _ _ hraise, zGet_bump_other _ _ _ hfull, zGet_bump_other _ _ _ hsrc]
  unfold writeEpisode
  simp only []
  split
  · split
    · split
      · simp only []
        split <;> rfl
      · rfl
    · split <;> rfl
  · split
    · exact hlost
    · rfl

/-- A batch is counted; nothing waits after it. -/
theorem batchWrite_done (c : Channel) : (batchWrite c).ledger.refused = false ∧ (batchWrite c).ledger.queue = [] ∧
    (batchWrite c).ledger.accBins = [] ∧ zGet (batchWrite c).ctr batchesMade = zGet c.ctr batchesMade + 1 := by
  have hepisodes (l : List QEpisode) (st : (Nat × BitVec 4) × Channel) :
      zGet (l.foldl writeEpisode st).2.ctr batchesMade = zGet st.2.ctr batchesMade := by
    induction l generalizing st with
    | nil => rfl
    | cons e l ih => exact (ih _).trans (zGet_writeEpisode st e)
  refine ⟨by simp [batchWrite], by simp [batchWrite], by simp [batchWrite], ?_⟩
  rw [batchWrite]
  simp only []
  rw [batchesMade, zGet_bump_same, zGet_journalDrain_other _ _ (by decide)]
  exact congrArg (· + 1) (hepisodes _ _)

/-- The copies of the header that a batch without episodes leaves. -/
theorem batchWrite_header {c : Channel} (hq : c.ledger.queue = []) :
    ∃ nv : LedgerNv, nv.hdrA = c.ledgerNv.hdrA ∧ nv.hdrB = c.ledgerNv.hdrB ∧ nv.log = c.ledgerNv.log ∧
      (batchWrite c).ledgerNv = writeHeader ((headerInForce c.ledgerNv).getD headerBlank).used
        ((headerInForce c.ledgerNv).getD headerBlank).resv (ledgerTime c) (c.journal.next + 16777216) nv := by
  simp only [batchWrite, hq, List.foldl_nil, bump_ledgerNv, journalDrain_ledgerNv]
  refine ⟨_, ?_, ?_, ?_, rfl⟩ <;> rfl

theorem writeHeader_log (used : Nat) (resv : BitVec 4) (t ceil : U64) (l : LedgerNv) : (writeHeader used resv t ceil l).log = l.log := by
  unfold writeHeader
  split
  · rfl
  · split <;> rfl

/-- The copy written is the one in force, its count one above the other's. -/
theorem headerInForce_writeHeader {l : LedgerNv} {f : LedgerHeader} (t ceil : U64) (h : headerInForce l = some f)
    (hw : f.writes.toNat + 1 < 2 ^ 32) :
    headerInForce (writeHeader f.used f.resv t ceil l) = some { f with writes := f.writes + 1, time := t, ceiling := ceil } := by
  have hnext : (f.writes + 1).toNat = f.writes.toNat + 1 := by
    rw [BitVec.toNat_add]
    exact Nat.mod_eq_of_lt hw
  have hvalid : f.valid = true := by
    unfold headerInForce at h
    split at h
    case h_1 ha hb => split at h <;> · cases h; assumption
    case h_2 ha hb => cases h; assumption
    case h_3 ha hb => cases h; assumption
    case h_4 => cases h
  obtain ⟨a, b, hists, exts, log⟩ := l
  by_cases ha : a.valid = true ∧ a = f
  · obtain ⟨hav, rfl⟩ := ha
    have hcond : (a.valid && a == a) = true := by simp [hav]
    simp only [writeHeader, h, hcond, if_true]
    simp only [headerInForce, hav, hnext, Nat.lt_succ_self, if_true]
  · have hb : b = f ∧ b.valid = true := by
      simp only [headerInForce] at h
      split at h
      case h_1 hav hbv =>
        split at h
        · cases h; exact ⟨rfl, hbv⟩
        · cases h; exact absurd ⟨hav, rfl⟩ ha
      case h_2 hav hbv => cases h; exact absurd ⟨hav, rfl⟩ ha
      case h_3 hav hbv => cases h; exact ⟨rfl, hbv⟩
      case h_4 => cases h
    obtain ⟨rfl, hbv⟩ := hb
    have hcond : (a.valid && a == b) = false := by
      rw [Bool.eq_false_iff]
      intro hab
      rw [Bool.and_eq_true, beq_iff_eq] at hab
      exact ha hab
    have hless : ¬ b.writes.toNat + 1 < b.writes.toNat := by omega
    simp only [writeHeader, h, hcond, Bool.false_eq_true, if_false]
    simp only [headerInForce, hbv, hnext, hless, if_false]

/-- A batch by what its check answers. (The check's bound is a subtraction that must not be evaluated, so the definition is unfolded as a
function, not under its argument.) -/
theorem batchTry_eq (c : Channel) : batchTry c =
    if (commitCheck 2 0xFF energyBatch c).1 then batchWrite (commitCheck 2 0xFF energyBatch c).2
    else raiseLimited 21 0xFF 0 0 0 (bump 0x2F00 0x0A { (commitCheck 2 0xFF energyBatch c).2 with
      ledger := { (commitCheck 2 0xFF energyBatch c).2.ledger with refused := true } }) := by
  obtain ⟨f, hf⟩ : ∃ f, f = batchTry := ⟨_, rfl⟩
  rw [← hf]
  delta batchTry at hf
  have hc := congrFun hf c
  clear hf
  beta_reduce at hc
  generalize commitCheck 2 0xFF energyBatch c = r at hc ⊢
  obtain ⟨passed, d⟩ := r
  cases passed <;> exact hc

/-- The channel in which a batch is written: the check that it passed is counted, and holds its energy. -/
def batchStarted (c : Channel) : Channel := { bump 0x2100 0x0F c with epUJ := c.epUJ + energyBatch }

theorem batchTry_passed {c : Channel} (h : holdupOk c.psu c.epUJ energyBatch = true) : batchTry c = batchWrite (batchStarted c) := by
  rw [batchTry_eq, commitCheck_passed h, if_pos rfl]
  rfl

/-- A batch that the check refuses writes nothing, is counted, and waits. -/
theorem batchTry_refused {c : Channel} (h : holdupOk c.psu c.epUJ energyBatch = false) :
    (batchTry c).ledgerNv = c.ledgerNv ∧ (batchTry c).ledger.refused = true ∧
      zGet (batchTry c).ctr (od 0x2F00 0x0A) = zGet c.ctr (od 0x2F00 0x0A) + 1 := by
  obtain ⟨l, hl⟩ := commitCheck_refused (kind := 2) (sl := 0xFF) h
  have hcheck : od 0x2F00 0x0A ≠ od 0x2100 0x0F := by decide
  have hkind : od 0x2F00 0x0A ≠ od 0x2100 (0x10 + 2) := by decide
  rw [batchTry_eq, hl, if_neg Bool.false_ne_true]
  refine ⟨by simp, by simp, ?_⟩
  simp only []
  rw [zGet_raiseLimited_other _ _ _ _ _ _ (by decide), zGet_bump_same, raise]
  simp only []
  rw [zGet_raiseNow_other _ _ _ _ _ (by decide), zGet_episode_other _ _ _ (by decide) (by decide) (by decide),
    zGet_bump_other _ _ _ hkind, zGet_bump_other _ _ _ hcheck]

theorem ledgerBatchC_runs {c : Channel} (hrun : ledgerRuns c = true) (hp : c.psu.pwarn = false) (hr : c.ledger.refused = false) :
    ledgerBatchC c = batchTry c := by
  simp [ledgerBatchC, hrun, hp, hr]

/-! ### Snapshots (22 R643 to R645) -/

theorem snapshotLatchC_scheduled {c : Channel} {k : U64} (hup : runtimeUp c = true) (hk : c.diag.snapT = some k) :
    (snapshotLatchC c).ctr = c.ctr ∧ (snapshotLatchC c).diag.snapStepped = false ∧
      (snapshotLatchC c).diag.copying.map (fun x => (x.1, x.2.t, x.2.vals, x.2.stepped)) =
        some (if c.diag.latestBank = some 0 then 1 else 0, k, c.ctr, c.diag.snapStepped) := by
  simp [snapshotLatchC, hup, hk]

theorem snapshotCopyCompleteC_copied {c : Channel} {k : Nat} {b : SnapBank} (h : c.diag.copying = some (k, b)) :
    (snapshotCopyCompleteC c).diag.latestBank = some k ∧ (snapshotCopyCompleteC c).diag.copying = none ∧
      (if k = 0 then (snapshotCopyCompleteC c).diag.bank0 = some b ∧ (snapshotCopyCompleteC c).diag.bank1 = c.diag.bank1
        else (snapshotCopyCompleteC c).diag.bank1 = some b ∧ (snapshotCopyCompleteC c).diag.bank0 = c.diag.bank0) ∧
      zGet (snapshotCopyCompleteC c).ctr (od 0x3100 4) = zGet c.ctr (od 0x3100 4) + 1 := by
  simp only [snapshotCopyCompleteC, h, raise_diag, bump_diag, true_and]
  constructor
  · split <;> simp
  · rw [raise, zGet_raiseNow_other _ _ _ _ _ (by decide), zGet_bump_same]

/-! ### An injector's duration (22 R649) -/

theorem injGet_armed {c : Channel} {i : Nat} (h : (injGet c i).armed = true) : ∃ x, kGet c.diag.inj i = some x ∧ x.armed = true := by
  unfold injGet at h
  cases hg : kGet c.diag.inj i with
  | none =>
    rw [hg] at h
    exact absurd h (by decide)
  | some x =>
    rw [hg] at h
    exact ⟨x, rfl, h⟩

theorem injGet_injEnd {c : Channel} {i : Nat} (st : Nat) (h : (injGet c i).armed = true) :
    (injGet (injEnd i st c) i).armed = false ∧ (injGet (injEnd i st c) i).status = BitVec.ofNat 8 st := by
  obtain ⟨x, hx, harmed⟩ := injGet_armed h
  simp [injEnd, hx, harmed, injGet, kGet_kPut_same]

theorem injectorDurationExpiryC_armed {c : Channel} {i : Nat} (h : (injGet c i).armed = true) :
    injectorDurationExpiryC i c = injEnd i 2 (upTo ((injGet c i).since + entryNat c (injIndex i) 7 60 * 1000000000) c) := by
  unfold injectorDurationExpiryC
  exact if_pos h

theorem injectorDurationExpiryC_expired {c : Channel} {i : Nat} (h : (injGet c i).armed = true) :
    (injGet (injectorDurationExpiryC i c) i).armed = false ∧ (injGet (injectorDurationExpiryC i c) i).status = 2 ∧
      (injGet c i).since + entryNat c (injIndex i) 7 60 * 1000000000 ≤ (injectorDurationExpiryC i c).time.up := by
  have hup (t : Nat) : (injGet (upTo t c) i).armed = true := by
    rw [injGet, upTo, advanceTo_diag]
    exact h
  rw [injectorDurationExpiryC_armed h, injEnd_time, upTo_up]
  exact ⟨(injGet_injEnd 2 (hup _)).1, (injGet_injEnd 2 (hup _)).2, le_max_right _ _⟩

/-- A batch that starts with no episode queued and the header `f` in force. -/
theorem batchStarted_header {c : Channel} {f : LedgerHeader} (hq : c.ledger.queue = []) (hf : headerInForce c.ledgerNv = some f)
    (hw : f.writes.toNat + 1 < 2 ^ 32) :
    headerInForce (batchWrite (batchStarted c)).ledgerNv =
        some { f with writes := f.writes + 1, time := ledgerTime c, ceiling := c.journal.next + 16777216 } ∧
      (batchWrite (batchStarted c)).ledgerNv.log = c.ledgerNv.log := by
  obtain ⟨nv, hA, hB, hlog, hnv⟩ := batchWrite_header (c := batchStarted c) hq
  have hforce : headerInForce nv = some f := by
    rw [← hf]
    unfold headerInForce
    rw [hA, hB]
    rfl
  have hstarted : headerInForce (batchStarted c).ledgerNv = some f := hf
  rw [hnv, hstarted, writeHeader_log]
  exact ⟨headerInForce_writeHeader _ _ hforce hw, hlog⟩

/-- The first batch writes copy A. -/
theorem batchStarted_first {c : Channel} (hq : c.ledger.queue = []) (hf : headerInForce c.ledgerNv = none) :
    (batchWrite (batchStarted c)).ledgerNv.hdrA.valid = true ∧ (batchWrite (batchStarted c)).ledgerNv.hdrA.writes = 1 ∧
      (batchWrite (batchStarted c)).ledgerNv.hdrB = c.ledgerNv.hdrB := by
  obtain ⟨nv, hA, hB, hlog, hnv⟩ := batchWrite_header (c := batchStarted c) hq
  have hforce : headerInForce nv = none := by
    rw [← hf]
    unfold headerInForce
    rw [hA, hB]
    rfl
  rw [hnv]
  simp only [writeHeader, hforce]
  exact ⟨trivial, trivial, hB⟩

theorem zGet_batchStarted (c : Channel) : zGet (batchStarted c).ctr batchesMade = zGet c.ctr batchesMade :=
  zGet_bump_other _ _ c (by decide)

theorem ledgerBatchRetryC_passed {c : Channel} (hrun : ledgerRuns c = true) (hr : c.ledger.refused = true)
    (hcheck : holdupOk c.psu c.epUJ energyBatch = true) : ledgerBatchRetryC c = batchWrite (batchStarted c) := by
  have hguard : (ledgerRuns c && c.ledger.refused && holdupOk c.psu c.epUJ energyBatch) = true := by rw [hrun, hr, hcheck]; rfl
  unfold ledgerBatchRetryC
  exact if_pos hguard

theorem ledgerBatchRetryC_refused {c : Channel} (hcheck : holdupOk c.psu c.epUJ energyBatch = false) : ledgerBatchRetryC c = c := by
  unfold ledgerBatchRetryC
  rw [hcheck, Bool.and_false, if_neg Bool.false_ne_true]

theorem histogramSampleC_sampled {c : Channel} {q : Nat} (v : Int) (h : histSampled c q = true) :
    zGet (histogramSampleC q v c).ledger.accBins (q * 64 + histBin q v) = zGet c.ledger.accBins (q * 64 + histBin q v) + 1 ∧
      kGet (histogramSampleC q v c).ledger.accExt q = some (extWith (f32OfRat v 1000) (ledgerTime c) (kGet c.ledger.accExt q)) ∧
      (histogramSampleC q v c).ledgerNv = c.ledgerNv := by
  rw [histogramSampleC, if_pos h]
  exact ⟨zGet_zAdd_same _ _ _, kGet_kPut_same _ _ _, rfl⟩

/-- Settles O59: samples, batches by what the hold-up check answers, snapshots, and the injector's end. -/
theorem ledgerAndSnapshots : Obligations.ledger_and_snapshots := by
  unfold Obligations.ledger_and_snapshots
  refine ⟨fun s ch q v hq => does_onChan rfl fun t ht ho => ?_, fun s ch f hrun hp hr hqueue hcheck hf hw => does_onChan rfl fun t ht ho => ?_,
    fun s ch hrun hp hr hqueue hcheck hf => does_onChan rfl fun t ht ho => ?_,
    fun s ch hrun hp hr hcheck => does_onChan rfl fun t ht ho => ?_, fun s ch hp hqueue => does_nothing rfl ?_,
    fun s ch hrun hr hcheck => does_onChan rfl fun t ht ho => ?_,
    fun s ch hcheck => does_nothing rfl (ledgerBatchRetryC_refused (c := commitsEnded (chanOf s ch)) hcheck),
    fun s ch k hup hk => does_onChan rfl fun t ht ho => ?_, fun s ch hk => does_nothing rfl ?_,
    fun s ch k b hcopy => does_onChan rfl fun t ht ho => ?_, fun s ch i harmed => does_onChan rfl fun t ht ho => ?_,
    fun s ch i harmed => does_nothing rfl ?_⟩
  · obtain ⟨hbin, hext, hnv⟩ := histogramSampleC_sampled (c := commitsEnded (chanOf s ch)) v hq
    rw [ht, hbin, hext, hnv, commitsEnded_ledger]
    refine ⟨rfl, ?_, rfl, ho⟩
    cases kGet (chanOf s ch).ledger.accExt q <;> rfl
  · rw [ht, ledgerBatchC_runs (c := commitsEnded (chanOf s ch)) hrun hp hr, batchTry_passed (c := commitsEnded (chanOf s ch)) hcheck]
    obtain ⟨hforce, hlog⟩ := batchStarted_header (c := commitsEnded (chanOf s ch)) hqueue hf hw
    obtain ⟨-, -, hbins, hcount⟩ := batchWrite_done (batchStarted (commitsEnded (chanOf s ch)))
    exact ⟨hforce, hlog, hbins, hcount.trans (congrArg (· + 1) (zGet_batchStarted _)), ho⟩
  · rw [ht, ledgerBatchC_runs (c := commitsEnded (chanOf s ch)) hrun hp hr, batchTry_passed (c := commitsEnded (chanOf s ch)) hcheck]
    exact batchStarted_first (c := commitsEnded (chanOf s ch)) hqueue hf
  · rw [ht, ledgerBatchC_runs (c := commitsEnded (chanOf s ch)) hrun hp hr]
    exact batchTry_refused (c := commitsEnded (chanOf s ch)) hcheck
  · simp [ledgerBatchC, hp, hqueue]
  · rw [ht, ledgerBatchRetryC_passed (c := commitsEnded (chanOf s ch)) hrun hr hcheck]
    obtain ⟨hrefused, hqueue, -, hcount⟩ := batchWrite_done (batchStarted (commitsEnded (chanOf s ch)))
    exact ⟨hrefused, hqueue, hcount.trans (congrArg (· + 1) (zGet_batchStarted _)), ho⟩
  · obtain ⟨hctr, hstep, hcopy⟩ := snapshotLatchC_scheduled (c := commitsEnded (chanOf s ch)) hup hk
    rw [ht, hctr, hstep, hcopy]
    exact ⟨rfl, rfl, rfl, ho⟩
  · simp [snapshotLatchC, hk]
  · rw [ht]
    exact snapshotCopyCompleteC_copied (c := commitsEnded (chanOf s ch)) hcopy
  · obtain ⟨hoff, hstatus, hup⟩ := injectorDurationExpiryC_expired (c := commitsEnded (chanOf s ch)) (i := i) harmed
    rw [ht]
    exact ⟨hoff, hstatus, hup, ho⟩
  · exact if_neg (Bool.eq_false_iff.1 harmed)

end Sys2Proof.Machine
end

section
/-! The footprints of the commons and of the token rings (05 R149; 07 R216 to R226): the banks, their counters, and one graph. -/
namespace Sys2Proof.Machine
open Sys2Proof

/-- What a request to the banks writes. -/
abbrev bankParts : List Part := [.disp, .dict, .ctr]

section
variable {A : List Part} {c d : Channel}

@[simp] theorem touches_bankPut (n : Nat) (b : Bank) (hA : [.disp] ⊆ A) : Touches A c (bankPut n b d) ↔ Touches A c d :=
  Touches.iff (B := [.disp]) (by simp [bankPut]) hA c

@[simp] theorem touches_countTally (y : BankTally) (hA : [.dict, .ctr] ⊆ A) : Touches A c (countTally y d) ↔ Touches A c d :=
  Touches.iff (B := [.dict, .ctr]) (by simp [countTally]) hA c

@[simp] theorem touches_bankServe (limit b : Nat) (hA : bankParts ⊆ A) : Touches A c (bankServe limit b d) ↔ Touches A c d := by
  refine Touches.iff (B := bankParts) ?_ hA c
  unfold bankServe
  simp only []
  split_ifs <;> simp

@[simp] theorem touches_banksSettle (hA : bankParts ⊆ A) : Touches A c (banksSettle d) ↔ Touches A c d :=
  Touches.iff (B := bankParts) (Touches.foldl (fun c b => by simp) _ d) hA c

@[simp] theorem touches_present (rank tile : Nat) (l : List (Nat × BankOp)) (hA : bankParts ⊆ A) :
    Touches A c (present rank tile l d) ↔ Touches A c d := by
  refine Touches.iff (B := bankParts) ?_ hA c
  unfold present
  simp only []
  split_ifs
  · exact touches_refl _ _
  · exact ((touches_banksSettle (List.Subset.refl _)).2 (touches_refl _ _)).trans (Touches.foldl (fun c b => by simp) _ _)

@[simp] theorem touches_putGraph (s : Nat) (g : GraphRt) (hA : [.graphs] ⊆ A) : Touches A c (putGraph s g d) ↔ Touches A c d :=
  Touches.iff (B := [.graphs]) (by simp [putGraph]) hA c

@[simp] theorem touches_pushSources (s : Nat) (l : List (Nat × Token)) (g : GraphRt) (hA : .graphs :: bankParts ⊆ A) :
    Touches A c (pushSources s l g d) ↔ Touches A c d :=
  Touches.iff (B := .graphs :: bankParts) (by simp [pushSources]) hA c

end

/-! ### What a request to the banks leaves of the dispatcher's part, and of the counters -/

/-- The dispatcher's part but for the banks. -/
def DispSt.bankless (x : DispSt) : DispSt := { x with banks := [] }

theorem bankPut_bankless (n : Nat) (b : Bank) (c : Channel) : (bankPut n b c).disp.bankless = c.disp.bankless := rfl

theorem bankServe_bankless (limit b : Nat) (c : Channel) : (bankServe limit b c).disp.bankless = c.disp.bankless := by
  unfold bankServe
  simp only []
  split_ifs
  · rfl
  · simp [countTally, bankPut_bankless]

theorem present_bankless (rank tile : Nat) (l : List (Nat × BankOp)) (c : Channel) :
    (present rank tile l c).disp.bankless = c.disp.bankless := by
  have hsettle (c : Channel) : (banksSettle c).disp.bankless = c.disp.bankless :=
    foldl_keeps (g := fun c => c.disp.bankless) (fun c b => bankServe_bankless _ _ c) _ c
  unfold present
  simp only []
  split_ifs
  · rfl
  · refine (foldl_keeps (g := fun c => c.disp.bankless) ?_ _ _).trans (hsettle c)
    exact fun c b => bankPut_bankless _ _ c

/-- The counters of the banks: BUSY answers and atomics. -/
def bankCounters : List Nat := [od 0x3000 4, od 0x3000 5, od 0x3000 6]

theorem zGet_bumpN_other (i sub n : Nat) (c : Channel) {k : Nat} (h : k ≠ od i sub) : zGet (bumpN i sub n c).ctr k = zGet c.ctr k :=
  zGet_zAdd_other c.ctr (od i sub) k n h

theorem zGet_bankServe_other (limit b : Nat) (c : Channel) {k : Nat} (h : k ∉ bankCounters) :
    zGet (bankServe limit b c).ctr k = zGet c.ctr k := by
  simp only [bankCounters, List.mem_cons, List.not_mem_nil, or_false, not_or] at h
  obtain ⟨h4, h5, h6⟩ := h
  unfold bankServe
  simp only []
  split_ifs
  · rfl
  · rw [countTally, highWater_ctr, zGet_bumpN_other _ _ _ _ h6, zGet_bumpN_other _ _ _ _ h5, zGet_bumpN_other _ _ _ _ h4]
    rfl

theorem zGet_present_other (rank tile : Nat) (l : List (Nat × BankOp)) (c : Channel) {k : Nat} (h : k ∉ bankCounters) :
    zGet (present rank tile l c).ctr k = zGet c.ctr k := by
  have hsettle (c : Channel) : zGet (banksSettle c).ctr k = zGet c.ctr k :=
    foldl_keeps (g := fun c => zGet c.ctr k) (fun c b => zGet_bankServe_other _ _ c h) _ c
  unfold present
  simp only []
  split_ifs
  · rfl
  · refine (foldl_keeps (g := fun c => zGet c.ctr k) ?_ _ _).trans (hsettle c)
    exact fun c b => rfl

theorem zGet_pushSources_other (s : Nat) (l : List (Nat × Token)) (g : GraphRt) (c : Channel) {k : Nat} (h : k ∉ bankCounters) :
    zGet (pushSources s l g c).ctr k = zGet c.ctr k := zGet_present_other _ _ _ c h

theorem kGet_pushSources (s : Nat) (l : List (Nat × Token)) (g : GraphRt) (c : Channel) :
    kGet (pushSources s l g c).graphs s = some (l.foldl (fun g x => pushTok x.1 x.2 g) g) := kGet_kPut_same _ _ _

end Sys2Proof.Machine
end

section
/-! One rule per operation on the CAN ports (17 R515 to R526): what it does to its port and its buffer, and the counters it may move. -/
namespace Sys2Proof.Machine
open Sys2Proof

theorem kGet_kMod_same {α : Type} (m : KMap α) (k : Nat) (f : α → α) : kGet (kMod m k f) k = (kGet m k).map f := by
  induction m with
  | nil => rfl
  | cons p m ih =>
    obtain ⟨i, v⟩ := p
    by_cases h : i = k
    · simp [kMod, kGet, h]
    · simpa [kMod, kGet, h] using ih

theorem kGet_kMod_other {α : Type} (m : KMap α) {k j : Nat} (f : α → α) (hjk : j ≠ k) : kGet (kMod m k f) j = kGet m j := by
  induction m with
  | nil => rfl
  | cons p m ih =>
    obtain ⟨i, v⟩ := p
    by_cases h : i = k
    · simpa [kMod, kGet, h, Ne.symm hjk] using ih
    · by_cases hij : i = j
      · simp [kMod, kGet, hij, hjk]
      · simpa [kMod, kGet, h, hij] using ih

/-- What a table answers is one of its entries. -/
theorem mem_of_kGet {α : Type} {m : KMap α} {k : Nat} {v : α} (h : kGet m k = some v) : (k, v) ∈ m := by
  induction m with
  | nil => cases h
  | cons p m ih =>
    obtain ⟨i, w⟩ := p
    by_cases hik : i = k
    · simp only [kGet, hik, if_true] at h
      cases h
      simp [hik]
    · simp only [kGet, hik, if_false] at h
      exact List.mem_cons_of_mem _ (ih h)

@[simp] theorem kGet_putCan (n : Nat) (p : CanPort) (c : Channel) : kGet (putCan n p c).can n = some p := kGet_kPut_same _ _ _

@[simp] theorem kGet_putBuf (n b : Nat) (p : CanPort) (x : CanBuf) (c : Channel) :
    kGet (putBuf n b p x c).can n = some { p with bufs := kPut p.bufs b x } := kGet_kPut_same _ _ _

/-- A port differs from `p` in its buffers at most, and there in buffer `b` at most, which holds what `P` says. -/
def PortKept (n b : Nat) (p : CanPort) (P : CanBuf → Prop) (c : Channel) : Prop :=
  ∃ bufs y, kGet c.can n = some { p with bufs := bufs } ∧ kGet bufs b = some y ∧ P y ∧ ∀ k, k ≠ b → kGet bufs k = kGet p.bufs k

section
variable {n b : Nat} {p : CanPort} {x : CanBuf} {c : Channel}

theorem portKept_putBuf {P : CanBuf → Prop} (h : P x) : PortKept n b p P (putBuf n b p x c) :=
  ⟨_, x, kGet_putBuf n b p x c, kGet_kPut_same _ _ _, h, fun _ hk => kGet_kPut_other _ _ _ _ hk⟩

theorem portKept_of_can {P : CanBuf → Prop} {d : Channel} (h : PortKept n b p P c) (hcan : d.can = c.can) : PortKept n b p P d := by
  unfold PortKept
  rw [hcan]
  exact h

/-- The copy of a fresh buffer to its source changes what the buffer holds, not its requests or outcomes. -/
theorem portKept_canCopy (hp : kGet c.can n = some p) (hx : kGet p.bufs b = some x) :
    PortKept n b p (fun y => y.hist = x.hist ∧ y.pend = x.pend) (canCopy n b c) := by
  have hsame : PortKept n b p (fun y => y.hist = x.hist ∧ y.pend = x.pend) c := ⟨p.bufs, x, hp, hx, ⟨rfl, rfl⟩, fun _ _ => rfl⟩
  have hput (y : CanBuf) (hy : y.hist = x.hist ∧ y.pend = x.pend) (s : Nat) (l : List (Nat × Token)) (g : GraphRt) :
      PortKept n b p (fun y => y.hist = x.hist ∧ y.pend = x.pend) (pushSources s l g (putBuf n b p y c)) :=
    portKept_of_can (portKept_putBuf hy) ((touches_pushSources s l g (List.Subset.refl _)).2 (touches_refl _ _) .can (by decide))
  unfold canCopy
  rw [hp]
  cases canBinding c n b with
  | none => exact hsame
  | some q =>
    simp only [hx]
    cases kGet c.graphs q.1 with
    | none => exact hsame
    | some g =>
      simp only []
      split_ifs
      · exact hput _ (by cases x.shadow <;> exact ⟨rfl, rfl⟩) _ _ _
      · exact hsame

/-- The end of a request leaves its outcome at the head of its buffer's history. -/
theorem portKept_canEnd (hp : kGet c.can n = some p) (hx : kGet p.bufs b = some x) (code : Nat) :
    PortKept n b p (fun y => y.hist.head? = some (canTick c, code) ∧ y.pend = x.pend) (canEnd n b code c) := by
  have hcopy (y : CanBuf) (hhist : y.hist.head? = some (canTick c, code)) (hpend : y.pend = x.pend) :
      PortKept n b p (fun y => y.hist.head? = some (canTick c, code) ∧ y.pend = x.pend) (canCopy n b (putBuf n b p y c)) := by
    obtain ⟨bufs, z, hport, hz, ⟨hzh, hzp⟩, hother⟩ := portKept_canCopy (kGet_putBuf n b p y c) (kGet_kPut_same p.bufs b y)
    exact ⟨bufs, z, hport, hz, ⟨hzh ▸ hhist, hzp.trans hpend⟩, fun k hk => (hother k hk).trans (kGet_kPut_other _ _ _ _ hk)⟩
  unfold canEnd
  simp only [hp, hx]
  split_ifs
  · refine portKept_of_can (d := post _ _) ?_ (post_can _ _)
    exact hcopy _ rfl rfl
  · exact hcopy _ rfl rfl

end

theorem kGet_canUnpend {n : Nat} {p : CanPort} {c : Channel} (hp : kGet c.can n = some p) (b : Nat) :
    kGet (canUnpend n b c).can n = some { p with bufs := kMod p.bufs b (fun x => { x with pend := false }) } := by
  simp only [canUnpend, hp, kGet_kPut_same]

/-- A request that is ended is no longer pending, and no other buffer of its port changes. -/
theorem canEnd_canUnpend {n : Nat} {p : CanPort} {c : Channel} (hp : kGet c.can n = some p) (b code : Nat) :
    ∃ bufs, kGet (canEnd n b code (canUnpend n b c)).can n = some { p with bufs := bufs } ∧
      (∀ y, kGet bufs b = some y → y.pend = false) ∧ ∀ k, k ≠ b → kGet bufs k = kGet p.bufs k := by
  have hport := kGet_canUnpend hp b
  cases hx : kGet p.bufs b with
  | none =>
    have hnone : kGet (kMod p.bufs b (fun x => { x with pend := false })) b = none := by rw [kGet_kMod_same, hx]; rfl
    refine ⟨_, ?_, fun y hy => absurd (hnone.symm.trans hy) (by simp), fun k hk => kGet_kMod_other _ _ hk⟩
    unfold canEnd
    simp only [hport, hnone]
  | some x =>
    have hsome : kGet (kMod p.bufs b (fun x => { x with pend := false })) b = some { x with pend := false } := by rw [kGet_kMod_same, hx]; rfl
    obtain ⟨bufs, y, hbufs, hy, ⟨-, hpend⟩, hother⟩ := portKept_canEnd hport hsome code
    refine ⟨bufs, hbufs, fun z hz => ?_, fun k hk => ?_⟩
    · cases hy.symm.trans hz
      exact hpend
    · rw [hother k hk]
      exact kGet_kMod_other p.bufs (fun x => { x with pend := false }) hk

/-- Bus-off ends every request: none of the port's buffers is pending after it. -/
theorem endPending_all {n : Nat} {p : CanPort} {c : Channel} (hp : kGet c.can n = some p) (code : Nat) :
    ∃ bufs, kGet (endPending n code (fun _ => true) c).can n = some { p with bufs := bufs } ∧
      ∀ k y, kGet bufs k = some y → y.pend = false := by
  have hfold (l : List (Nat × CanBuf)) (c : Channel) (bufs : KMap CanBuf) (hc : kGet c.can n = some { p with bufs := bufs })
      (hl : ∀ k y, kGet bufs k = some y → y.pend = true → k ∈ l.map Prod.fst) :
      ∃ bufs, kGet (l.foldl (fun c x => canEnd n x.1 code (canUnpend n x.1 c)) c).can n = some { p with bufs := bufs } ∧
        ∀ k y, kGet bufs k = some y → y.pend = false := by
    induction l generalizing c bufs with
    | nil => exact ⟨bufs, hc, fun k y hy => Bool.eq_false_iff.2 fun hpend => absurd (hl k y hy hpend) (by simp)⟩
    | cons z l ih =>
      obtain ⟨bufs', hport, hended, hother⟩ := canEnd_canUnpend hc z.1 code
      refine ih _ bufs' hport fun k y hy hpend => ?_
      have hk : k ≠ z.1 := by
        rintro rfl
        exact absurd hpend (by simp [hended y hy])
      exact (List.mem_cons.1 (hl k y ((hother k hk).symm.trans hy) hpend)).resolve_left hk
  unfold endPending
  simp only [hp]
  refine hfold _ c p.bufs hp fun k y hy hpend => ?_
  exact List.mem_map.2 ⟨(k, y), List.mem_filter.2 ⟨mem_of_kGet hy, by simp [hpend]⟩, rfl⟩

/-! ### Footprints -/

/-- What an event at a CAN port writes of its channel. -/
abbrev canParts : List Part := [.can, .graphs, .disp, .dict, .ctr, .host, .journal, .diag, .emitted, .seam, .free]

section
variable {A : List Part} {c d : Channel}

@[simp] theorem touches_putCan (n : Nat) (p : CanPort) (hA : [.can] ⊆ A) : Touches A c (putCan n p d) ↔ Touches A c d :=
  Touches.iff (B := [.can]) (by simp [putCan]) hA c

@[simp] theorem touches_putBuf (n b : Nat) (p : CanPort) (x : CanBuf) (hA : [.can] ⊆ A) : Touches A c (putBuf n b p x d) ↔ Touches A c d :=
  touches_putCan _ _ hA

@[simp] theorem touches_canCopy (n b : Nat) (hA : .can :: .graphs :: bankParts ⊆ A) : Touches A c (canCopy n b d) ↔ Touches A c d := by
  refine Touches.iff (B := .can :: .graphs :: bankParts) ?_ hA c
  unfold canCopy
  split
  · split
    · split_ifs <;> simp
    · simp
  · simp

@[simp] theorem touches_canCounters (n tec rc : Nat) (hA : [.can, .host, .journal, .ctr, .diag, .emitted] ⊆ A) :
    Touches A c (canCounters n tec rc d) ↔ Touches A c d := by
  refine Touches.iff (B := [.can, .host, .journal, .ctr, .diag, .emitted]) ?_ hA c
  unfold canCounters
  split
  · simp
  · simp only []
    split_ifs <;> simp

@[simp] theorem touches_canUnpend (n b : Nat) (hA : [.can] ⊆ A) : Touches A c (canUnpend n b d) ↔ Touches A c d := by
  refine Touches.iff (B := [.can]) ?_ hA c
  unfold canUnpend
  split <;> simp

@[simp] theorem touches_canEnd (n b code : Nat) (hA : canParts ⊆ A) : Touches A c (canEnd n b code d) ↔ Touches A c d := by
  refine Touches.iff (B := canParts) ?_ hA c
  unfold canEnd
  split
  · simp
  · split
    · simp
    · simp only []
      split_ifs <;> simp

@[simp] theorem touches_endPending (n code : Nat) (only : CanBuf → Bool) (hA : canParts ⊆ A) :
    Touches A c (endPending n code only d) ↔ Touches A c d := by
  refine Touches.iff (B := canParts) ?_ hA c
  unfold endPending
  split
  · simp
  · exact Touches.foldl (fun c x => by simp) _ d

@[simp] theorem touches_canTake (n b : Nat) (pay : Option (List U32)) (hA : [.can] ⊆ A) : Touches A c (canTake n b pay d) ↔ Touches A c d := by
  refine Touches.iff (B := [.can]) ?_ hA c
  unfold canTake
  split
  · simp
  · split <;> simp

@[simp] theorem touches_spoof (cause sl obj : Nat) (hA : [.host, .journal, .ctr, .diag, .emitted] ⊆ A) :
    Touches A c (spoof cause sl obj d) ↔ Touches A c d := by
  refine Touches.iff (B := [.host, .journal, .ctr, .diag, .emitted]) ?_ hA c
  unfold spoof
  simp only []
  split
  · split_ifs <;> simp
  · simp

@[simp] theorem touches_canRequest (sl n b : Nat) (pay : Option (List U32)) (hA : canParts ⊆ A) :
    Touches A c (canRequest sl n b pay d) ↔ Touches A c d := by
  refine Touches.iff (B := canParts) ?_ hA c
  unfold canRequest
  split
  · simp
  · split
    · simp
    · simp only []
      split_ifs <;> simp

@[simp] theorem touches_canRelease (n b : Nat) (hA : canParts ⊆ A) : Touches A c (canRelease n b d) ↔ Touches A c d := by
  refine Touches.iff (B := canParts) ?_ hA c
  unfold canRelease
  split
  · simp
  · split
    · simp
    · refine Touches.trans ?_ (Touches.foldl (fun c x => by simp) _ _)
      simp

@[simp] theorem touches_bufTake (n b : Nat) (w : List U32) (hA : canParts ⊆ A) : Touches A c (bufTake n b w d) ↔ Touches A c d := by
  refine Touches.iff (B := canParts) ?_ hA c
  unfold bufTake
  split
  · simp
  · split
    · simp
    · simp only []
      split_ifs
      · split <;> simp
      · simp

@[simp] theorem touches_canReceive (n : Nat) (f : CanFrame) (hA : canParts ⊆ A) : Touches A c (canReceive n f d) ↔ Touches A c d := by
  refine Touches.iff (B := canParts) ?_ hA c
  unfold canReceive
  split
  · simp
  · simp only []
    generalize (if f.rtr = true then ([] : List Nat) else _) = hits
    split_ifs
    · simp
    · refine Touches.trans ?_ (Touches.foldl (fun c x => by simp) _ _)
      simp

end

end Sys2Proof.Machine
end

section
/-! CAN attempts, error counters, reception, source copies and locks (17 R515 to R526, R531). -/
namespace Sys2Proof.Machine
open Sys2Proof

/-! ### Counters of a port -/

theorem od_canIndex_ne (n : Nat) {a b : Nat} (hab : a ≠ b) : od (canIndex n) a ≠ od (canIndex n) b := by
  simp only [od, canIndex]
  omega

theorem od_canIndex_ne_bufIndex (n m b : Nat) {a k : Nat} (ha : a < 256) (hk : k < 256) (hak : a ≠ k) : od (canIndex n) a ≠ od (bufIndex m b) k := by
  simp only [od]
  omega

/-- The sub-indices of a port's counters that no other counter of a CAN event shares. -/
def canOwnSub (a : Nat) : Prop := 13 ≤ a ∧ a ≤ 22 ∧ a ≠ 20

theorem od_canIndex_not_mem_raiseCounters (n : Nat) {a src : Nat} (ha : canOwnSub a) (h : 70 ≤ src) (hs : src ≤ 74) :
    od (canIndex n) a ∉ raiseCounters src := by
  obtain ⟨h13, h22, h20⟩ := ha
  simp only [raiseCounters, od, canIndex, List.mem_cons, List.not_mem_nil, or_false]
  omega

theorem od_canIndex_not_mem_bankCounters (n : Nat) {a : Nat} (ha : canOwnSub a) : od (canIndex n) a ∉ bankCounters := by
  obtain ⟨h13, h22, h20⟩ := ha
  simp only [bankCounters, od, canIndex, List.mem_cons, List.not_mem_nil, or_false]
  omega

theorem od_canIndex_ne_posted (n : Nat) {a : Nat} (ha : canOwnSub a) : od (canIndex n) a ≠ od 0x2800 0x14 := by
  obtain ⟨h13, h22, h20⟩ := ha
  simp only [od, canIndex]
  omega

section
variable {n b : Nat} {p : CanPort} {x : CanBuf} {c : Channel}

theorem zGet_canCopy_other (n b : Nat) (c : Channel) {k : Nat} (h : k ∉ bankCounters) : zGet (canCopy n b c).ctr k = zGet c.ctr k := by
  unfold canCopy
  split
  · split
    · split_ifs
      · exact zGet_pushSources_other _ _ _ _ h
      · rfl
    · rfl
  · rfl

theorem zGet_post_other (r : MRec) (c : Channel) {k : Nat} (h : k ≠ od 0x2800 0x14) : zGet (post r c).ctr k = zGet c.ctr k := by
  unfold post
  split_ifs
  · exact zGet_bump_other _ _ _ h
  · rfl

theorem zGet_canEnd_own (n b code : Nat) (c : Channel) (m : Nat) {a : Nat} (ha : canOwnSub a) :
    zGet (canEnd n b code c).ctr (od (canIndex m) a) = zGet c.ctr (od (canIndex m) a) := by
  have hcopy (x : CanBuf) (p : CanPort) : zGet (canCopy n b (putBuf n b p x c)).ctr (od (canIndex m) a) = zGet c.ctr (od (canIndex m) a) :=
    zGet_canCopy_other _ _ _ (od_canIndex_not_mem_bankCounters m ha)
  unfold canEnd
  split
  · rfl
  · split
    · rfl
    · simp only []
      split_ifs
      · rw [zGet_post_other _ _ (od_canIndex_ne_posted m ha), hcopy]
      · exact hcopy _ _

theorem canUnpend_ctr (n b : Nat) (c : Channel) : (canUnpend n b c).ctr = c.ctr := by
  unfold canUnpend
  split <;> rfl

theorem zGet_endPending_own (n code : Nat) (only : CanBuf → Bool) (c : Channel) (m : Nat) {a : Nat} (ha : canOwnSub a) :
    zGet (endPending n code only c).ctr (od (canIndex m) a) = zGet c.ctr (od (canIndex m) a) := by
  unfold endPending
  split
  · rfl
  · refine foldl_keeps (g := fun c => zGet c.ctr (od (canIndex m) a)) (fun c x => ?_) _ c
    rw [zGet_canEnd_own _ _ _ _ _ ha, canUnpend_ctr]

/-! ### Error counters (17 R524) -/

theorem kGet_canCounters (hp : kGet c.can n = some p) (tec rc : Nat) :
    kGet (canCounters n tec rc c).can n =
      some { p with tec := min tec 256, rec_ := rc, busOff := p.busOff || decide (255 < tec) } := by
  unfold canCounters
  simp only [hp]
  split_ifs <;> simp

/-- Entries into passive and bus-off states are counted at 14 and 15; no other counter of the port's own moves. -/
theorem zGet_canCounters_own (n tec rc : Nat) (c : Channel) {a : Nat} (ha : canOwnSub a) (h15 : a ≠ 0x15) :
    zGet (canCounters n tec rc c).ctr (od (canIndex n) a) = zGet c.ctr (od (canIndex n) a) := by
  have hoff := od_canIndex_ne n h15
  have hpassive := od_canIndex_ne n (b := 0x14) ha.2.2
  unfold canCounters
  split
  · rfl
  · simp only []
    split_ifs
    · rfl
    · rw [zGet_raiseLimited_other _ _ _ _ _ _ (od_canIndex_not_mem_raiseCounters n ha (by decide) (by decide)), zGet_bump_other _ _ _ hoff]
      rfl
    · rw [zGet_raiseLimited_other _ _ _ _ _ _ (od_canIndex_not_mem_raiseCounters n ha (by decide) (by decide)), zGet_bump_other _ _ _ hpassive]
      rfl
    · rfl

/-- Entry into bus-off is counted. -/
theorem zGet_canCounters_busOff (hp : kGet c.can n = some p) (hoff : p.busOff = false) {tec : Nat} (htec : 255 < tec) (rc : Nat) :
    zGet (canCounters n tec rc c).ctr (od (canIndex n) 0x15) = zGet c.ctr (od (canIndex n) 0x15) + 1 := by
  have hbefore : canErr p ≠ 2 := by
    unfold canErr
    rw [hoff]
    split_ifs <;> simp_all
  have hafter : canErr { p with tec := min tec 256, rec_ := rc, busOff := p.busOff || decide (255 < tec) } = 2 := by
    simp [canErr, htec]
  unfold canCounters
  simp only [hp, hafter, hbefore, if_false, if_true]
  rw [zGet_raiseLimited_other _ _ _ _ _ _
    (od_canIndex_not_mem_raiseCounters n (by unfold canOwnSub; omega) (by decide) (by decide)), zGet_bump_same]
  rfl

/-! ### Attempts (17 R514, R516, R520 to R525) -/

/-- May a controller start an attempt: bus idle, on a channel that leads, in normal mode or loopback? -/
def canStarts (c : Channel) (p : CanPort) : Prop :=
  p.cur = none ∧ p.busOff = false ∧ leads c = true ∧ (canMode c p = 1 ∨ canMode c p = 3)

theorem canAttemptStartC_eq (hp : kGet c.can n = some p) (hs : canStarts c p) (hnext : canNext p = some b) (hx : kGet p.bufs b = some x)
    (stall : Bool) (hfree : x.locked = none ∨ stall = true ∧ x.locked ≠ some 1) :
    canAttemptStartC n stall c = if stall then putBuf n b p { x with locked := some 0 } c
      else bump (bufIndex n b) 6 (bump (canIndex n) 0x0F (putBuf n b { p with cur := some (b, wordsFrame x.words) } { x with pend := false } c)) := by
  obtain ⟨hcur, hoff, hlead, hmode⟩ := hs
  have hguard : (p.cur.isSome || p.busOff || !leads c || !(canMode c p == 1 || canMode c p == 3)) = false := by
    rcases hmode with h | h <;> simp [hcur, hoff, hlead, h]
  have hlock : x.locked ≠ some 1 := by rcases hfree with h | h <;> simp_all
  unfold canAttemptStartC
  simp only [hp, hguard, hnext, hx, hlock, if_false, Bool.false_eq_true]
  rcases hfree with h | ⟨h, -⟩ <;> simp [h]

theorem canAttemptStartC_locked (hp : kGet c.can n = some p) (hnext : canNext p = some b) (hx : kGet p.bufs b = some x)
    (hlock : x.locked = some 1) (stall : Bool) : canAttemptStartC n stall c = c := by
  unfold canAttemptStartC
  simp only [hp, hnext, hx, hlock, if_true, ite_self]

theorem canAttemptStartC_not_leading (h : leads c = false) (n : Nat) (stall : Bool) : canAttemptStartC n stall c = c := by
  unfold canAttemptStartC
  split
  · rfl
  · simp [h]

end

/-- The channel as an attempt ends: the error counters set, the outcome counted, and the buffer's outcome left. -/
def attemptEnded (n b code tec : Nat) (p : CanPort) (c : Channel) : Channel :=
  let c₁ := canCounters n tec p.rec_ (putCan n { p with cur := none } c)
  canEnd n b code (match outcomeSub code with | some i => bump (canIndex n) i c₁ | none => c₁)

theorem canCounters_time (n tec rc : Nat) (c : Channel) : (canCounters n tec rc c).time = c.time :=
  (touches_canCounters n tec rc (List.Subset.refl _)).2 (touches_refl _ c) .time (by decide)

/-- The port after an attempt: the controller is idle, the error counters are as computed, and the buffer holds the outcome. -/
theorem kGet_attemptEnded {n b : Nat} {p : CanPort} {x : CanBuf} {c : Channel} (hx : kGet p.bufs b = some x) (code tec : Nat) :
    PortKept n b { p with cur := none, tec := min tec 256, busOff := p.busOff || decide (255 < tec) }
      (fun y => y.hist.head? = some (canTick c, code) ∧ y.pend = x.pend) (attemptEnded n b code tec p c) := by
  have hport := kGet_canCounters (kGet_putCan n { p with cur := none } c) tec p.rec_
  have hend (d : Channel) (hcan : d.can = (canCounters n tec p.rec_ (putCan n { p with cur := none } c)).can) (htime : d.time = c.time) :
      PortKept n b { p with cur := none, tec := min tec 256, busOff := p.busOff || decide (255 < tec) }
        (fun y => y.hist.head? = some (canTick c, code) ∧ y.pend = x.pend) (canEnd n b code d) := by
    have htick : canTick c = canTick d := by rw [canTick, canTick, nowNs, nowNs, htime]
    rw [htick]
    exact portKept_canEnd ((congrArg (fun m => kGet m n) hcan).trans hport) hx code
  have htime : (canCounters n tec p.rec_ (putCan n { p with cur := none } c)).time = c.time := canCounters_time _ _ _ _
  unfold attemptEnded
  simp only []
  split
  · exact hend _ (bump_can _ _ _) ((bump_time _ _ _).trans htime)
  · exact hend _ rfl htime

/-- The outcome is counted under its own sub-index; entry into bus-off is counted beside it. -/
theorem zGet_attemptEnded_outcome {n b code tec a : Nat} (p : CanPort) (c : Channel) (hout : outcomeSub code = some a)
    (ha : canOwnSub a) (h15 : a ≠ 0x15) :
    zGet (attemptEnded n b code tec p c).ctr (od (canIndex n) a) = zGet c.ctr (od (canIndex n) a) + 1 := by
  unfold attemptEnded
  simp only [hout]
  rw [zGet_canEnd_own _ _ _ _ _ ha, zGet_bump_same, zGet_canCounters_own _ _ _ _ ha h15]
  rfl

theorem zGet_attemptEnded_busOff {n b tec : Nat} {p : CanPort} (c : Channel) (hoff : p.busOff = false) (htec : 255 < tec) :
    zGet (attemptEnded n b 7 tec p c).ctr (od (canIndex n) 0x15) = zGet c.ctr (od (canIndex n) 0x15) + 1 := by
  have hout : outcomeSub 7 = none := rfl
  unfold attemptEnded
  simp only [hout]
  rw [zGet_canEnd_own _ _ _ _ _ (by unfold canOwnSub; omega), zGet_canCounters_busOff (kGet_putCan n { p with cur := none } c) hoff htec]
  rfl

theorem canAttemptEndC_sent {n b : Nat} {p : CanPort} {f : CanFrame} {c : Channel} (hp : kGet c.can n = some p) (hcur : p.cur = some (b, f))
    (hloop : p.loop = false) (htec : p.tec ≤ 255) :
    canAttemptEndC n 2 c = emit (.can n f) (attemptEnded n b 2 (p.tec - 1) p c) := by
  have hover : ¬ 255 < p.tec - 1 := by omega
  unfold canAttemptEndC attemptEnded
  simp [hp, hcur, hloop, tecAfter, hover] <;> rfl

theorem canAttemptEndC_busOff {n b : Nat} {p : CanPort} {f : CanFrame} {c : Channel} (hp : kGet c.can n = some p) (hcur : p.cur = some (b, f))
    (hloop : p.loop = false) (htec : 247 < p.tec) :
    canAttemptEndC n 5 c = endPending n 7 (fun _ => true) (attemptEnded n b 7 (p.tec + 8) p c) := by
  have hover : 255 < p.tec + 8 := by omega
  unfold canAttemptEndC attemptEnded
  simp [hp, hcur, hloop, tecAfter, hover] <;> rfl

/-! ### Recovery, re-initialisation, receive errors (17 R524, R526, R531) -/

theorem kGet_busOffRecoveryC {n : Nat} {p : CanPort} {c : Channel} (hp : kGet c.can n = some p) (hoff : p.busOff = true)
    (h : p.cfg.hostRec = false ∨ p.recovering = true) :
    kGet (busOffRecoveryC n c).can n = some { p with busOff := false, recovering := false, tec := 0, rec_ := 0 } := by
  have hguard : (p.busOff && (!p.cfg.hostRec || p.recovering)) = true := by rcases h with h | h <;> simp [hoff, h]
  simp only [busOffRecoveryC, hp, hguard, if_true, raiseLimited_can, kGet_putCan]

theorem busOffRecoveryC_waits {n : Nat} {p : CanPort} {c : Channel} (hp : kGet c.can n = some p) (hhost : p.cfg.hostRec = true)
    (hrec : p.recovering = false) : busOffRecoveryC n c = c := by
  simp [busOffRecoveryC, hp, hhost, hrec]

theorem kGet_canPortReinitC {n : Nat} {p : CanPort} {c : Channel} (hp : kGet c.can n = some p) (hcfg : canEntries c n p.cfg ≠ p.cfg)
    (hcur : p.cur = none) :
    kGet (canPortReinitC n c).can n =
      some { p with cfg := canEntries c n p.cfg, tec := 0, rec_ := 0, busOff := false, recovering := false } := by
  simp [canPortReinitC, hp, hcfg, hcur]

theorem kGet_canReceiveErrorC {n : Nat} {p : CanPort} {c : Channel} (hp : kGet c.can n = some p) (hmode : canMode c p = 1)
    (hoff : p.busOff = false) (htec : p.tec ≤ 255) (d : Bool) :
    kGet (canReceiveErrorC n d c).can n = some { p with rec_ := p.rec_ + (if d then 8 else 1) } := by
  have hmin : min p.tec 256 = p.tec := by omega
  have hover : ¬ 255 < p.tec := by omega
  have hguard : canMode c p = 1 ∧ (!p.busOff) = true := ⟨hmode, by simp [hoff]⟩
  unfold canReceiveErrorC
  simp only [hp]
  rw [if_pos hguard, kGet_canCounters hp, hmin]
  simp [hoff, hover]

/-- Settles O52: attempts, their outcomes, bus-off, recovery, and what none of them moves. -/
theorem canTransmission : Obligations.can_transmission := by
  unfold Obligations.can_transmission
  refine ⟨fun s ch n p b x hp hcur hoff hlead hmode hnext hx hlock => does_onChan rfl fun t ht ho => ?_,
    fun s ch n p b x hp hcur hoff hlead hmode hnext hx hlock => does_onChan rfl fun t ht ho => ?_,
    fun s ch n stall p b x hp hnext hx hlock => does_nothing rfl (canAttemptStartC_locked (c := commitsEnded (chanOf s ch)) hp hnext hx hlock stall),
    fun s ch n stall hlead => does_nothing rfl (canAttemptStartC_not_leading (c := commitsEnded (chanOf s ch)) hlead n stall),
    fun s ch n p b f x hp hcur hx hloop htec => does_onChan rfl fun t ht ho => ?_,
    fun s ch n p b f x hp hcur hx hloop hoff htec htop => does_onChan rfl fun t ht ho => ?_,
    fun s ch n p hp hoff hrec => does_onChan rfl fun t ht ho => ?_,
    fun s ch n p hp hhost hrec => does_nothing rfl (busOffRecoveryC_waits (c := commitsEnded (chanOf s ch)) hp hhost hrec),
    fun s ch n p hp hcfg hcur => does_onChan rfl fun t ht ho => ?_,
    fun s ch n p d hp hmode hoff htec => does_onChan rfl fun t ht ho => ?_,
    fun s ch n code => does_onChan (f := fun c => c) rfl fun t ht ho => ⟨ht, ho⟩⟩
  · rw [ht, canAttemptStartC_eq (c := commitsEnded (chanOf s ch)) hp ⟨hcur, hoff, hlead, hmode⟩ hnext hx false (.inl hlock)]
    rw [if_neg Bool.false_ne_true]
    refine ⟨by simp, ?_, ?_, ho⟩
    · rw [zGet_bump_other _ _ _ (od_canIndex_ne_bufIndex n n b (by decide) (by decide) (by decide)), zGet_bump_same]
      rfl
    · rw [zGet_bump_same, zGet_bump_other _ _ _ (od_canIndex_ne_bufIndex n n b (by decide) (by decide) (by decide)).symm]
      rfl
  · rw [ht, canAttemptStartC_eq (c := commitsEnded (chanOf s ch)) hp ⟨hcur, hoff, hlead, hmode⟩ hnext hx true (.inr ⟨rfl, hlock⟩)]
    exact ⟨by simp, ho⟩
  · have hmin : min (p.tec - 1) 256 = p.tec - 1 := by omega
    have hover : ¬ 255 < p.tec - 1 := by omega
    obtain ⟨bufs, y, hport, hy, ⟨hhist, -⟩, -⟩ := kGet_attemptEnded (c := commitsEnded (chanOf s ch)) (n := n) hx 2 (p.tec - 1)
    rw [ht, canAttemptEndC_sent (c := commitsEnded (chanOf s ch)) hp hcur hloop htec, emit_can, hport, emit_ctr,
      zGet_attemptEnded_outcome (a := 0x10) p _ rfl (by unfold canOwnSub; omega) (by decide)]
    refine ⟨?_, ?_, by simp [emit], rfl, ho⟩
    · simp [hmin, hover]
    · simp only [Option.bind_some, hy, Option.map_some, hhist]
      rfl
  · obtain ⟨bufs, y, hport, -, -, -⟩ := kGet_attemptEnded (c := commitsEnded (chanOf s ch)) (n := n) hx 7 (p.tec + 8)
    obtain ⟨bufs', hend, hpend⟩ := endPending_all hport 7
    have hmin : min (p.tec + 8) 256 = 256 := by omega
    have hover : 255 < p.tec + 8 := by omega
    rw [ht, canAttemptEndC_busOff (c := commitsEnded (chanOf s ch)) hp hcur hloop htec, hend,
      zGet_endPending_own _ _ _ _ _ (by unfold canOwnSub; omega),
      zGet_attemptEnded_busOff _ hoff hover]
    refine ⟨by simp [hmin, hover], fun q k y hq hy => ?_, rfl⟩
    cases hq
    exact hpend k y hy
  · rw [ht, kGet_busOffRecoveryC (c := commitsEnded (chanOf s ch)) hp hoff hrec]
    exact ⟨rfl, ho⟩
  · rw [ht, kGet_canPortReinitC (c := commitsEnded (chanOf s ch)) hp hcfg hcur]
    exact ⟨rfl, ho⟩
  · rw [ht, kGet_canReceiveErrorC (c := commitsEnded (chanOf s ch)) hp hmode hoff htec]
    exact ⟨rfl, ho⟩

end Sys2Proof.Machine
end

section
/-! CAN reception, source copies and locks (17 R511, R515 to R518). -/
namespace Sys2Proof.Machine
open Sys2Proof

theorem injCan_unarmed {c : Channel} {n : Nat} (f : CanFrame) (h : (injGet c (12 + n)).armed = false) : injCan n f c = ([f], c) := by
  simp [injCan, h]

section
variable {n b : Nat} {p : CanPort} {x : CanBuf} {c : Channel} {f : CanFrame}

/-- A frame that finds its buffer free is its contents. -/
theorem bufTake_free (hp : kGet c.can n = some p) (hx : kGet p.bufs b = some x) (hlock : x.locked = none) (hfresh : x.fresh = false)
    (w : List U32) :
    bufTake n b w c = putBuf n b p { x with words := w, fresh := (canBinding c n b).isSome } (bump (bufIndex n b) 6 c) := by
  simp [bufTake, hp, hx, hlock, hfresh]

/-- A frame that one buffer matches. -/
theorem canReceive_hit (hp : kGet c.can n = some p) (hb : p.bufs = [(b, x)]) (hm : bufMatches f x = true) (hrtr : f.rtr = false) :
    canReceive n f c = bufTake n b (frameWords f (canTick c)) (bump (canIndex n) 0x0D c) := by
  simp [canReceive, hp, hb, hm, hrtr]

/-- A frame that no buffer matches. -/
theorem canReceive_miss (hp : kGet c.can n = some p) (hm : ∀ y ∈ p.bufs, bufMatches f y.2 = false) :
    canReceive n f c = bump (canIndex n) 0x0E (bump (canIndex n) 0x0D c) := by
  have hnone : p.bufs.filter (fun x => bufMatches f x.2) = [] := List.filter_eq_nil_iff.2 fun y hy => by simp [hm y hy]
  simp [canReceive, hp, hnone]

/-- The receive error counter after a good frame. -/
theorem recGood_range (rc : Nat) (free : U64) :
    (127 < rc → 119 ≤ recGood rc free ∧ recGood rc free ≤ 127) ∧ (rc ≤ 127 → recGood rc free = rc - 1) := by
  have hmod : free.toNat % 9 < 9 := Nat.mod_lt _ (by decide)
  unfold recGood
  constructor <;> intro h
  · rw [if_pos h]
    omega
  · rw [if_neg (by omega)]

/-- The channel in which a controller in normal mode takes a good frame: its receive error counter is set. -/
theorem canFrameReceivedC_normal (hp : kGet c.can n = some p) (hmode : canMode c p = 1) :
    ∃ free d, Touches [.free] c d ∧ canFrameReceivedC n f c = canReceive n f (canCounters n p.tec (recGood p.rec_ free) d) := by
  unfold canFrameReceivedC
  simp only [hp, hmode, if_true]
  split_ifs
  · exact ⟨_, _, (touches_draw (List.Subset.refl _)).2 (touches_refl _ c), rfl⟩
  · exact ⟨_, c, touches_refl _ c, rfl⟩

theorem canFrameReceivedC_listening (hp : kGet c.can n = some p) (hmode : canMode c p = 2) :
    canFrameReceivedC n f c = canReceive n f c := by
  simp [canFrameReceivedC, hp, hmode]

theorem canFrameReceivedC_deaf (hp : kGet c.can n = some p) (hmode : canMode c p = 0 ∨ canMode c p = 3) : canFrameReceivedC n f c = c := by
  rcases hmode with h | h <;> simp [canFrameReceivedC, hp, h]

/-- A good frame in normal mode that the port's one buffer takes. -/
theorem canFrameReceivedC_taken (hp : kGet c.can n = some p) (hmode : canMode c p = 1) (hb : p.bufs = [(b, x)])
    (hm : bufMatches f x = true) (hrtr : f.rtr = false) (hlock : x.locked = none) (hfresh : x.fresh = false) :
    ((kGet (canFrameReceivedC n f c).can n).bind (fun q => kGet q.bufs b)).map (fun y => y.words) = some (frameWords f (canTick c)) ∧
      (∀ q, kGet (canFrameReceivedC n f c).can n = some q →
        (127 < p.rec_ → 119 ≤ q.rec_ ∧ q.rec_ ≤ 127) ∧ (p.rec_ ≤ 127 → q.rec_ = p.rec_ - 1)) ∧
      zGet (canFrameReceivedC n f c).ctr (od (canIndex n) 0x0D) = zGet c.ctr (od (canIndex n) 0x0D) + 1 ∧
      zGet (canFrameReceivedC n f c).ctr (od (canIndex n) 0x0E) = zGet c.ctr (od (canIndex n) 0x0E) := by
  obtain ⟨free, d, hd, heq⟩ := canFrameReceivedC_normal (f := f) hp hmode
  have hcan : d.can = c.can := hd .can (by decide)
  have hctr : d.ctr = c.ctr := hd .ctr (by decide)
  have htime : d.time = c.time := hd .time (by decide)
  have hport := kGet_canCounters (c := d) (by rw [hcan]; exact hp) p.tec (recGood p.rec_ free)
  have htick : canTick (canCounters n p.tec (recGood p.rec_ free) d) = canTick c := by
    rw [canTick, canTick, nowNs, nowNs, canCounters_time, htime]
  have hx : kGet p.bufs b = some x := by simp [hb, kGet]
  rw [heq, canReceive_hit hport hb hm hrtr, bufTake_free (p := { p with tec := min p.tec 256, rec_ := recGood p.rec_ free, busOff := p.busOff || decide (255 < p.tec) })
    (by rw [bump_can]; exact hport) hx hlock hfresh, htick]
  refine ⟨by simp [kGet_kPut_same], fun q hq => ?_, ?_, ?_⟩
  · rw [kGet_putBuf] at hq
    cases hq
    exact recGood_range p.rec_ free
  · change zGet (bump _ _ (bump _ _ _)).ctr _ = _
    rw [zGet_bump_other _ _ _ (od_canIndex_ne_bufIndex n n b (by decide) (by decide) (by decide)), zGet_bump_same,
      zGet_canCounters_own _ _ _ _ (by unfold canOwnSub; omega) (by decide), hctr]
  · change zGet (bump _ _ (bump _ _ _)).ctr _ = _
    rw [zGet_bump_other _ _ _ (od_canIndex_ne_bufIndex n n b (by decide) (by decide) (by decide)),
      zGet_bump_other _ _ _ (od_canIndex_ne n (by decide)), zGet_canCounters_own _ _ _ _ (by unfold canOwnSub; omega) (by decide), hctr]

/-! ### Source copies and locks (17 R516, R518) -/

theorem canCopy_fresh {g : GraphRt} {s k : Nat} (hp : kGet c.can n = some p) (hx : kGet p.bufs b = some x)
    (hbind : canBinding c n b = some (s, k)) (hg : kGet c.graphs s = some g) (hfresh : x.fresh = true) (hshadow : x.shadow = none)
    (hlock : x.locked = none) (hroom : sourceRoom g k = true) :
    ∃ tok : Token, tok.pay = x.words.take 18 ∧
      canCopy n b c = pushSources s [(ringKey true k 0, tok)] g (putBuf n b p { x with fresh := false } c) := by
  simp only [canCopy, hp, hx, hbind, hg, hfresh, hshadow, hlock, hroom]
  exact ⟨_, rfl, rfl⟩

theorem canCopy_stale (hp : kGet c.can n = some p) (hx : kGet p.bufs b = some x) (hfresh : x.fresh = false) : canCopy n b c = c := by
  unfold canCopy
  cases canBinding c n b with
  | none => simp [hp]
  | some q => cases hg : kGet c.graphs q.1 <;> simp [hp, hx, hg, hfresh]

theorem pushSources_can (s : Nat) (l : List (Nat × Token)) (g : GraphRt) (c : Channel) : (pushSources s l g c).can = c.can :=
  (touches_pushSources s l g (List.Subset.refl _)).2 (touches_refl _ c) .can (by decide)

theorem canSourceCopyC_copies {i : Nat} (hp : kGet c.can (i / 64 + 1) = some p) (hx : kGet p.bufs (i % 64) = some x) (hlock : x.locked = none) :
    canSourceCopyC i false c = canCopy (i / 64 + 1) (i % 64) c := by
  simp [canSourceCopyC, hp, hx, hlock]

theorem canSourceCopyC_waits {i : Nat} (hp : kGet c.can (i / 64 + 1) = some p) (hx : kGet p.bufs (i % 64) = some x) (stall : Bool)
    (h : x.locked = some 0 ∨ x.locked = none ∧ x.fresh = false) : canSourceCopyC i stall c = c := by
  rcases h with h | ⟨hlock, hfresh⟩
  · simp [canSourceCopyC, hp, hx, h]
  · cases stall with
    | true => simp [canSourceCopyC, hp, hx, hlock, hfresh]
    | false =>
      rw [canSourceCopyC_copies hp hx hlock, canCopy_stale hp hx hfresh]

theorem canSourceCopyC_stalls {i : Nat} (hp : kGet c.can (i / 64 + 1) = some p) (hx : kGet p.bufs (i % 64) = some x) (hlock : x.locked = none)
    (hfresh : x.fresh = true) (hbind : canBinding c (i / 64 + 1) (i % 64) ≠ none) :
    canSourceCopyC i true c = putBuf (i / 64 + 1) (i % 64) p { x with locked := some 1 } c := by
  have hbound : (canBinding c (i / 64 + 1) (i % 64)).isSome = true := Option.isSome_iff_ne_none.2 hbind
  simp [canSourceCopyC, hp, hx, hlock, hfresh, hbound]

/-- A lock that ends with nothing waiting for it: the shadow moves in where nothing is to be copied. -/
theorem canRelease_idle (hp : kGet c.can n = some p) (hx : kGet p.bufs b = some x) (hwait : x.waiting = []) :
    canRelease n b c = putBuf n b p (match x.shadow with
      | some w => if (canBinding c n b).isSome && x.fresh then { x with locked := none }
        else { x with words := w, fresh := (canBinding c n b).isSome, shadow := none, locked := none }
      | none => { x with locked := none }) c := by
  obtain ⟨cfg, words, pend, locked, waiting, fresh, shadow, hist⟩ := x
  cases hwait
  cases shadow with
  | none => simp [canRelease, hp, hx]
  | some w =>
    simp only [canRelease, hp, hx, List.foldl_nil]

theorem canLockTimeoutC_locked {i : Nat} (hp : kGet c.can (i / 64 + 1) = some p) (hx : kGet p.bufs (i % 64) = some x) (hlock : x.locked ≠ none) :
    (canLockTimeoutC i c).can = (canRelease (i / 64 + 1) (i % 64) c).can ∧
      zGet (canLockTimeoutC i c).ctr (od (canIndex (i / 64 + 1)) 0x16) =
        zGet (canRelease (i / 64 + 1) (i % 64) c).ctr (od (canIndex (i / 64 + 1)) 0x16) + 1 := by
  have hsome : x.locked.isSome = true := Option.isSome_iff_ne_none.2 hlock
  simp only [canLockTimeoutC, hp, hx, hsome, if_true]
  refine ⟨by simp, ?_⟩
  rw [zGet_raiseLimited_other _ _ _ _ _ _ (od_canIndex_not_mem_raiseCounters _ (by unfold canOwnSub; omega) (by decide) (by decide)),
    zGet_bump_same]

end

/-- Settles O53: a frame by the port's mode and buffer, a copy by the buffer's lock, and the end of a lock. -/
theorem canReception : Obligations.can_reception := by
  unfold Obligations.can_reception
  have hone (n : Nat) (f : CanFrame) (s : State) (ch : Chan) (hinj : (injGet (chanOf s ch) (12 + n)).armed = false) (P : State → Prop)
      (h : ∀ t, chanOf t ch = canFrameReceivedC n f (commitsEnded (chanOf s ch)) → onlyChan ch s t → P t) :
      Does (.canFrameReceived ch n f) s P := by
    refine does_onChan (f := fun c => (injCan n f c).1.foldl (fun c f => canFrameReceivedC n f c) (injCan n f c).2) rfl
      fun t ht ho => h t ?_ ho
    rw [ht, injCan_unarmed (c := commitsEnded (chanOf s ch)) f hinj]
    rfl
  refine ⟨fun s ch n p f b x hp hmode hinj _ hb hm hrtr hlock hfresh => hone n f s ch hinj _ fun t ht ho => ?_,
    fun s ch n p f hp hmode hinj hm => hone n f s ch hinj _ fun t ht ho => ?_,
    fun s ch n p f hp hmode hinj => hone n f s ch hinj _ fun t ht ho =>
      ht.trans (canFrameReceivedC_deaf (c := commitsEnded (chanOf s ch)) hp hmode),
    fun s ch i p x g n k hp hx hbind hg hfresh hshadow hlock hroom => does_onChan rfl fun t ht ho => ?_,
    fun s ch i stall p x hp hx h => does_nothing rfl (canSourceCopyC_waits (c := commitsEnded (chanOf s ch)) hp hx stall h),
    fun s ch i p x hp hx hlock hfresh hbind => does_onChan rfl fun t ht ho => ?_,
    fun s ch i p x hp hx hlock hshadow hwait => does_onChan rfl fun t ht ho => ?_,
    fun s ch i p x w hp hx hlock hshadow hwait hbind => does_onChan rfl fun t ht ho => ?_⟩
  · obtain ⟨hwords, hrec, htaken, hmissed⟩ :=
      canFrameReceivedC_taken (c := commitsEnded (chanOf s ch)) hp hmode hb hm hrtr hlock hfresh
    rw [ht]
    exact ⟨hwords, hrec, htaken, hmissed, ho⟩
  · rw [ht, canFrameReceivedC_listening (c := commitsEnded (chanOf s ch)) hp hmode, canReceive_miss (c := commitsEnded (chanOf s ch)) hp hm]
    refine ⟨rfl, ?_, ?_⟩
    · rw [zGet_bump_other _ _ _ (od_canIndex_ne n (by decide)), zGet_bump_same]
      rfl
    · rw [zGet_bump_same, zGet_bump_other _ _ _ (od_canIndex_ne n (by decide))]
      rfl
  · obtain ⟨tok, hpay, hcopy⟩ :=
      canCopy_fresh (c := commitsEnded (chanOf s ch)) hp hx hbind hg hfresh hshadow hlock hroom
    rw [ht, canSourceCopyC_copies (c := commitsEnded (chanOf s ch)) hp hx hlock, hcopy, kGet_pushSources, pushSources_can, kGet_putBuf]
    exact ⟨⟨tok, hpay, rfl⟩, by simp [kGet_kPut_same], ho⟩
  · rw [ht, canSourceCopyC_stalls (c := commitsEnded (chanOf s ch)) hp hx hlock hfresh hbind, kGet_putBuf]
    exact ⟨rfl, rfl, ho⟩
  · obtain ⟨hcan, hctr⟩ := canLockTimeoutC_locked (c := commitsEnded (chanOf s ch)) hp hx hlock
    rw [ht, hcan, hctr, canRelease_idle (c := commitsEnded (chanOf s ch)) hp hx hwait, hshadow]
    exact ⟨by simp [kGet_kPut_same], rfl, ho⟩
  · have hfree : canBinding (commitsEnded (chanOf s ch)) (i / 64 + 1) (i % 64) = none := hbind
    obtain ⟨hcan, hctr⟩ := canLockTimeoutC_locked (c := commitsEnded (chanOf s ch)) hp hx hlock
    rw [ht, hcan, hctr, canRelease_idle (c := commitsEnded (chanOf s ch)) hp hx hwait, hshadow]
    exact ⟨by simp [kGet_kPut_same, hfree], rfl, ho⟩

end Sys2Proof.Machine
end

section
/-! The footprints of the servo, the masters and the steps of the counter (13 R400 to R408), and what each leaves of the time. -/
namespace Sys2Proof.Machine
open Sys2Proof

/-- What a change of the servo's state writes. -/
abbrev servoParts : List Part := [.time, .host, .journal, .ctr, .diag, .emitted]

/-- What a step of the counter writes: the boundaries of every class of rate move with it. -/
abbrev stepParts : List Part := [.time, .ctr, .dict, .diag, .gens, .ingest, .graphs, .lse]

/-- What a Sync writes. -/
abbrev syncParts : List Part := servoParts ++ stepParts ++ [.free]

section
variable {A : List Part} {c d : Channel}

/-- The footprint of a choice is that of its branches. -/
@[simp] theorem touches_ite {x y : Channel} {p : Prop} [Decidable p] :
    Touches A c (if p then x else y) ↔ (p → Touches A c x) ∧ (¬ p → Touches A c y) := by
  split <;> simp_all

@[simp] theorem touches_ptpPut (p : Nat) (x : PtpPort) (hA : [.time] ⊆ A) : Touches A c (ptpPut p x d) ↔ Touches A c d :=
  Touches.iff (B := [.time]) (by simp [ptpPut]) hA c

@[simp] theorem touches_setServo (v : Servo) (hA : servoParts ⊆ A) : Touches A c (setServo v d) ↔ Touches A c d := by
  refine Touches.iff (B := servoParts) ?_ hA c
  cases v <;> simp [setServo]

@[simp] theorem touches_leaveLocked (hA : servoParts ⊆ A) : Touches A c (leaveLocked d) ↔ Touches A c d := by
  refine Touches.iff (B := servoParts) ?_ hA c
  unfold leaveLocked
  split <;> simp

@[simp] theorem touches_selectPath (hA : servoParts ⊆ A) : Touches A c (selectPath d) ↔ Touches A c d := by
  refine Touches.iff (B := servoParts) ?_ hA c
  unfold selectPath
  simp only []
  split_ifs <;> simp

@[simp] theorem touches_takeUtc (m : PtpMsg) (hA : [.time] ⊆ A) : Touches A c (takeUtc m d) ↔ Touches A c d :=
  Touches.iff (B := [.time]) (by simp [takeUtc]) hA c

@[simp] theorem touches_runFree (hA : [.time] ⊆ A) : Touches A c (runFree d) ↔ Touches A c d :=
  Touches.iff (B := [.time]) (by simp [runFree]) hA c

@[simp] theorem touches_selectMaster (x : Master) (hA : servoParts ⊆ A) : Touches A c (selectMaster x d) ↔ Touches A c d := by
  refine Touches.iff (B := servoParts) ?_ hA c
  have hgm : ∀ b : Bool, Touches servoParts d (if b then raiseLimited 26 0xFF 0 0 0 (bump 0x2200 0x0F
      { d with time := { d.time with gm := some x, lastGm := some x.msg.srcClock } })
      else { d with time := { d.time with gm := some x, lastGm := some x.msg.srcClock } }) := by
    intro b
    cases b <;> simp
  unfold selectMaster
  simp only [touches_selectPath (List.Subset.refl _), touches_takeUtc (A := servoParts) _ (by simp)]
  split
  · simp
  · simp
  · simp
  · exact hgm _

@[simp] theorem touches_loseMaster (hA : servoParts ⊆ A) : Touches A c (loseMaster d) ↔ Touches A c d := by
  refine Touches.iff (B := servoParts) ?_ hA c
  unfold loseMaster
  simp only []
  split <;> simp

@[simp] theorem touches_bmca (hA : servoParts ⊆ A) : Touches A c (bmca d) ↔ Touches A c d := by
  refine Touches.iff (B := servoParts) ?_ hA c
  unfold bmca
  split
  · simp
  · split
    · split <;> simp
    · split
      · simp only []
        split
        · split <;> simp
        · simp
      · simp

@[simp] theorem touches_pgSkip (old new g : Nat) (x : PulseGen) (hA : [.gens, .ctr] ⊆ A) : Touches A c (pgSkip old new g x d) ↔ Touches A c d := by
  refine Touches.iff (B := [.gens, .ctr]) ?_ hA c
  unfold pgSkip
  simp

@[simp] theorem touches_skipTo (new : Nat) (hA : [.time, .ingest, .graphs, .lse] ⊆ A) : Touches A c (skipTo new d) ↔ Touches A c d :=
  Touches.iff (B := [.time, .ingest, .graphs, .lse]) (fun p hp => by cases p <;> simp [Part.same, skipTo] at hp ⊢) hA c

@[simp] theorem touches_stepCounter (off : Int) (first : Bool) (hA : stepParts ⊆ A) : Touches A c (stepCounter off first d) ↔ Touches A c d := by
  refine Touches.iff (B := stepParts) ?_ hA c
  have hstep (v : Nat) (x : TimeSt) (y : DiagSt) :
      Touches stepParts d { setRo 0x2200 0x0E v (bump 0x2200 0x0D { d with time := x }) with diag := y } := by simp
  unfold stepCounter
  simp only []
  split
  · exact hstep _ _ _
  · rw [touches_skipTo _ (by simp)]
    refine Touches.trans ?_ (Touches.foldl (fun c x => by simp) _ _)
    rw [touches_bumpN _ _ _ (by simp), touches_ite, touches_bumpN _ _ _ (by simp), touches_bumpN _ _ _ (by simp)]
    exact ⟨fun _ => hstep _ _ _, fun _ => hstep _ _ _⟩

@[simp] theorem touches_firstLock (off : Int) (sl : Int × Nat) (hA : servoParts ++ stepParts ⊆ A) :
    Touches A c (firstLock off sl d) ↔ Touches A c d := by
  refine Touches.iff (B := servoParts ++ stepParts) ?_ hA c
  have h : Touches (servoParts ++ stepParts) d (stepCounter (-off) true
      { d with time := { d.time with adj := clampAdj (d.time.adj - sl.1 * cycleUnits / (max sl.2 1 : Nat)) } }) := by simp
  unfold firstLock
  simp only []
  rw [touches_setServo _ (by simp)]
  exact h.trans (by simp)

@[simp] theorem touches_slew (off : Int) (hA : [.time, .free] ⊆ A) : Touches A c (slew off d) ↔ Touches A c d :=
  Touches.iff (B := [.time, .free]) (by simp [slew, draw]) hA c

@[simp] theorem touches_servoSync (off : Int) (mt : Nat) (hA : syncParts ⊆ A) : Touches A c (servoSync off mt d) ↔ Touches A c d := by
  refine Touches.iff (B := syncParts) ?_ hA c
  unfold servoSync
  simp only []
  split
  · simp
  · split
    · split_ifs <;> simp
    · simp
    · simp
  · split_ifs <;> simp [freeAdj, draw]
  · split
    · simp
    · split_ifs <;> simp

@[simp] theorem touches_pathOffset (p : Nat) (m : PtpMsg) (rx origin : Nat) (corr : Int) (hA : syncParts ⊆ A) :
    Touches A c (pathOffset p m rx origin corr d) ↔ Touches A c d := by
  refine Touches.iff (B := syncParts) ?_ hA c
  unfold pathOffset
  split
  · simp
  · split_ifs
    · simp
    · simp only []
      split_ifs <;> simp

end

end Sys2Proof.Machine
end

section
/-! The servo on a Sync of the selected path (13 R404, R405, R407). -/
namespace Sys2Proof.Machine
open Sys2Proof

/-! ### A step of the counter -/

/-- What a forward step jumps over: of the time, the boundaries and the tick alone. -/
theorem skipped_time {e : Channel} {x : TimeSt} (old new : Nat) (h : e.time = x) :
    ∃ b k, (skipTo new (e.gens.foldl (fun c y => pgSkip old new y.1 y.2 c) e)).time = { x with lastBoundary := b, lastTick := k } := by
  have hgens : Touches [.gens, .ctr] e (e.gens.foldl (fun c y => pgSkip old new y.1 y.2 c) e) := Touches.foldl (fun c y => by simp) _ e
  have htime : (e.gens.foldl (fun c y => pgSkip old new y.1 y.2 c) e).time = x := (hgens .time (by decide)).trans h
  rw [← htime]
  exact ⟨_, _, rfl⟩

/-- The counter after a step of `off` ns: the fraction of a nanosecond stays. -/
def ctrStepped (off : Int) (c : Channel) : BitVec 96 :=
  c.time.ctr + BitVec.ofInt 96 ((((nowNs c : Int) + off).toNat : Int) - nowNs c) * 0x100000000#96

/-- The counter moves, with the boundaries and the tick that it passes; nothing else of the time does. -/
theorem stepCounter_time (off : Int) (first : Bool) (c : Channel) :
    ∃ b k, (stepCounter off first c).time = { c.time with ctr := ctrStepped off c, lastBoundary := b, lastTick := k } := by
  unfold stepCounter
  simp only []
  split
  · exact ⟨_, _, rfl⟩
  · exact skipped_time (x := { c.time with ctr := ctrStepped off c }) _ _ (by cases first <;> rfl)

theorem zGet_pgSkip_other (old new g : Nat) (x : PulseGen) (c : Channel) {k : Nat} (h : k % 256 ≠ 0x0C) :
    zGet (pgSkip old new g x c).ctr k = zGet c.ctr k := by
  have hne : k ≠ od (0x2220 + g) 0x0C := by
    rintro rfl
    exact h (by simp only [od]; omega)
  unfold pgSkip
  extract_lets
  split
  · split
    · exact zGet_bumpN_other _ _ _ _ hne
    · rfl
  · rfl

theorem zGet_skipped_other {e : Channel} (old new : Nat) {k : Nat} (h : k % 256 ≠ 0x0C) :
    zGet (skipTo new (e.gens.foldl (fun c y => pgSkip old new y.1 y.2 c) e)).ctr k = zGet e.ctr k :=
  foldl_keeps (g := fun c => zGet c.ctr k) (fun c _ => zGet_pgSkip_other _ _ _ _ c h) e.gens e

/-- The counter of the steps taken. -/
def stepsTaken : Nat := od 0x2200 0x0D

theorem zGet_stepCounter (off : Int) (first : Bool) (c : Channel) :
    zGet (stepCounter off first c).ctr stepsTaken = zGet c.ctr stepsTaken + 1 := by
  have hstep (v : Nat) (x : TimeSt) (y : DiagSt) :
      zGet ({ setRo 0x2200 0x0E v (bump 0x2200 0x0D { c with time := x }) with diag := y } : Channel).ctr stepsTaken = zGet c.ctr stepsTaken + 1 :=
    zGet_bump_same 0x2200 0x0D { c with time := x }
  unfold stepCounter
  simp only []
  split
  · exact hstep _ _ _
  · rw [zGet_skipped_other _ _ (by decide), zGet_bumpN_other _ _ _ _ (by decide)]
    cases first
    · exact (zGet_bumpN_other _ _ _ _ (by decide)).trans (hstep _ _ _)
    · exact (zGet_bumpN_other _ _ _ _ (by decide)).trans (hstep _ _ _)

/-- A step by `off` ns moves the nanoseconds by it, where they stay within their 64 bits. -/
theorem ctrStepped_shift {off : Int} {c : Channel} (h0 : 0 ≤ (nowNs c : Int) + off) (h64 : (nowNs c : Int) + off < 2 ^ 64) :
    (((ctrStepped off c) >>> 32).toNat : Int) = nowNs c + off := by
  obtain ⟨new, hnew⟩ : ∃ new : Nat, (nowNs c : Int) + off = new := ⟨_, (Int.toNat_of_nonneg h0).symm⟩
  have hctr : c.time.ctr.toNat / 2 ^ 32 = nowNs c := by
    rw [nowNs, BitVec.toNat_ushiftRight, Nat.shiftRight_eq_div_pow]
  have hlt : c.time.ctr.toNat < 2 ^ 96 := c.time.ctr.isLt
  rw [ctrStepped, hnew, Int.toNat_natCast, BitVec.toNat_ushiftRight, Nat.shiftRight_eq_div_pow, BitVec.toNat_add, BitVec.toNat_mul,
    BitVec.toNat_ofInt, BitVec.toNat_ofNat]
  generalize c.time.ctr.toNat = x at hctr hlt
  generalize nowNs c = old at *
  have hnew64 : new < 2 ^ 64 := by omega
  clear h0 h64 hnew
  omega

/-! ### The Sync that reaches the servo (13 R404) -/

@[simp] theorem ptpGet_ptpPut (p : Nat) (x : PtpPort) (c : Channel) : ptpGet (ptpPut p x c) p = x := by simp [ptpGet, ptpPut, kGet_kPut_same]

theorem ptpGet_ptpPut_other {p q : Nat} (x : PtpPort) (c : Channel) (h : q ≠ p) : ptpGet (ptpPut p x c) q = ptpGet c q := by
  simp [ptpGet, ptpPut, kGet_kPut_other _ _ _ _ h]

theorem usablePaths_ptpPut {p : Nat} {x : PtpPort} (c : Channel) (h : x.unusable = (ptpGet c p).unusable) :
    usablePaths (ptpPut p x c) = usablePaths c := by
  have hport (q : Nat) : (ptpGet (ptpPut p x c) q).unusable = (ptpGet c q).unusable := by
    by_cases hq : q = p
    · rw [hq, ptpGet_ptpPut, h]
    · rw [ptpGet_ptpPut_other _ _ hq]
  unfold usablePaths
  simp only [hport]
  rfl

/-- Once a port's offset is noted the path selected is the best one still. -/
theorem selectPath_offset {p : Nat} {c : Channel} (off : Int) (h : bestPath c = c.time.selPort) :
    selectPath (ptpPut p { ptpGet c p with offset := off } c) = ptpPut p { ptpGet c p with offset := off } c := by
  have hbest : bestPath (ptpPut p { ptpGet c p with offset := off } c) = c.time.selPort := by
    rw [bestPath, usablePaths_ptpPut c (x := { ptpGet c p with offset := off }) rfl]
    exact h
  unfold selectPath
  exact if_pos hbest

/-- The channel as a Sync's offset on a port is known: counted, and the offset noted. -/
def offsetNoted (p : Nat) (m : PtpMsg) (rx : Nat) (c : Channel) : Channel :=
  ptpPut p { ptpGet c p with offset := syncOffset c p m rx } (bump 0x2218 p c)

theorem offsetNoted_time (p : Nat) (m : PtpMsg) (rx : Nat) (c : Channel) : (offsetNoted p m rx c).time =
    { c.time with ports := kPut c.time.ports p { ptpGet c p with offset := syncOffset c p m rx } } := rfl

theorem zGet_offsetNoted (p : Nat) (m : PtpMsg) (rx : Nat) (c : Channel) {k : Nat} (h : k < od 0x2218 0) :
    zGet (offsetNoted p m rx c).ctr k = zGet c.ctr k := by
  refine zGet_bump_other _ _ c ?_
  simp only [od] at h ⊢
  omega

/-- A channel ready for a one-step Sync of its selected master on its selected path. -/
structure Syncing (c : Channel) (p : Nat) (m : PtpMsg) (g : Master) : Prop where
  runs : counterRuns c = true
  up : linkUp c p = true
  domain : m.domain = entryNat c 0x2200 0x20 0
  oneStep : m.twoStep = false
  gm : c.time.gm = some g
  source : g.msg.srcClock = m.srcClock
  selected : c.time.selPort = p
  best : bestPath c = p

theorem syncing_of_ready {s : State} {ch : Chan} {p : Nat} {m : PtpMsg} {g : Master} (h : SyncReady s ch p m g) :
    Syncing (commitsEnded (chanOf s ch)) p m g := by
  obtain ⟨hrun, hup, hdom, hone, hgm, hsrc, hsel, hbest⟩ := h
  exact ⟨hrun, hup, hdom, hone, hgm, hsrc, hsel, hbest⟩

section
variable {c : Channel} {p : Nat} {m : PtpMsg} {g : Master} {rx : Nat}

/-- The master time of a Sync. -/
theorem syncReceivedC_selected (h : Syncing c p m g) : syncReceivedC p m rx c =
    servoSync (syncOffset c p m rx) ((rx : Int) - syncOffset c p m rx).toNat (offsetNoted p m rx c) := by
  have hguard : (counterRuns c && linkUp c p && decide (m.domain = entryNat c 0x2200 0x20 0)) = true := by simp [h.runs, h.up, h.domain]
  have hgm : (bump 0x2218 p c).time.gm = some g := h.gm
  have hmt : (rx : Int) - syncOffset c p m rx = m.origin + m.correction / 65536 + (ptpGet c p).delay + asymmetry c p := by
    unfold syncOffset
    omega
  have hsel : selectPath (offsetNoted p m rx c) = offsetNoted p m rx c := selectPath_offset (c := bump 0x2218 p c) _ (h.best.trans h.selected.symm)
  unfold syncReceivedC
  rw [if_pos hguard]
  simp only [h.oneStep, Bool.false_eq_true, if_false]
  unfold pathOffset
  rw [hgm]
  simp only [h.source, ne_eq, not_true_eq_false, if_false]
  change (if (selectPath (offsetNoted p m rx c)).time.selPort = p then
    servoSync (syncOffset c p m rx) _ (selectPath (offsetNoted p m rx c)) else _) = _
  rw [hsel, hmt]
  exact if_pos h.selected

/-! ### The servo by its state (13 R405) -/

theorem servoSync_locked_near {off : Int} (mt : Nat) (hs : c.time.servo = .locked) (hnear : off.natAbs ≤ lockThreshold c) :
    (servoSync off mt c).time.servo = .locked ∧ (servoSync off mt c).time.outRun = 0 ∧ (servoSync off mt c).time.offset = off ∧
      (servoSync off mt c).time.ctr = c.time.ctr := by
  simp [servoSync, hs, hnear, freeAdj, draw]

theorem servoSync_locked_leaves {off : Int} (mt : Nat) (hs : c.time.servo = .locked) (hfar : lockThreshold c < off.natAbs)
    (hrun : 3 ≤ c.time.outRun) :
    (servoSync off mt c).time.servo = .holdover ∧ (servoSync off mt c).time.holdAt = c.time.up ∧ (servoSync off mt c).time.ctr = c.time.ctr := by
  have hnear : ¬ off.natAbs ≤ lockThreshold c := by omega
  simp [servoSync, hs, hnear, setServo, hrun]

theorem servoSync_locked_stays {off : Int} (mt : Nat) (hs : c.time.servo = .locked) (hfar : lockThreshold c < off.natAbs)
    (hrun : c.time.outRun < 3) :
    (servoSync off mt c).time.servo = .locked ∧ (servoSync off mt c).time.outRun = c.time.outRun + 1 := by
  have hnear : ¬ off.natAbs ≤ lockThreshold c := by omega
  have hfew : ¬ 4 ≤ c.time.outRun + 1 := by omega
  simp [servoSync, hs, hnear, hfew]

section
variable {off : Int} (mt : Nat) (hs : c.time.servo = .holdover) (hgm : c.time.gm = some g) (hclass : g.msg.clockClass ≤ 7)
include hs hgm hclass

theorem servoSync_holdover_locks (hnear : off.natAbs ≤ lockThreshold c) (hrun : 1 ≤ c.time.inRun) :
    (servoSync off mt c).time.servo = .locked ∧ (servoSync off mt c).time.limitPassed = false ∧ (servoSync off mt c).time.ctr = c.time.ctr := by
  have hclass' : ¬ 7 < g.msg.clockClass := by omega
  simp [servoSync, hs, hgm, hclass', hnear, hrun, setServo]

/-- In HOLDOVER, while the servo does not lock again: the run of offsets inside the threshold, and how the counter moves. -/
theorem servoSync_holdover_waits (h : ¬ (off.natAbs ≤ lockThreshold c ∧ 1 ≤ c.time.inRun)) :
    servoSync off mt c =
      if entryNat c 0x2200 0x2B 1 = 0 ∨ off.natAbs ≤ entryNat c 0x2200 0x2A 100000 then
        slew off { c with time := { c.time with
          lastOffset := some (off, mt), offset := off, inRun := if off.natAbs ≤ lockThreshold c then c.time.inRun + 1 else 0 } }
      else raiseLimited 25 0xFF 0 0 0 (stepCounter (-off) false { c with time := { c.time with
          lastOffset := some (off, mt), offset := off, inRun := if off.natAbs ≤ lockThreshold c then c.time.inRun + 1 else 0 } }) := by
  have hclass' : ¬ 7 < g.msg.clockClass := by omega
  have hwait : (decide (off.natAbs ≤ lockThreshold c) && decide (1 ≤ c.time.inRun)) = false := by simpa using h
  unfold servoSync
  simp only [hs, hgm, hclass', hwait, if_false, Bool.false_eq_true, decide_eq_true_eq]

/-- While the servo does not lock again it stays in HOLDOVER. -/
theorem servoSync_holdover_stays (h : ¬ (off.natAbs ≤ lockThreshold c ∧ 1 ≤ c.time.inRun)) :
    (servoSync off mt c).time.servo = .holdover ∧
      (servoSync off mt c).time.inRun = if off.natAbs ≤ lockThreshold c then c.time.inRun + 1 else 0 := by
  rw [servoSync_holdover_waits mt hs hgm hclass h]
  split
  · exact ⟨hs, rfl⟩
  · obtain ⟨b, k, hstep⟩ := stepCounter_time (-off) false { c with time := { c.time with
      lastOffset := some (off, mt), offset := off, inRun := if off.natAbs ≤ lockThreshold c then c.time.inRun + 1 else 0 } }
    rw [raiseLimited_time, hstep]
    exact ⟨hs, rfl⟩

theorem servoSync_holdover_slews (h : ¬ (off.natAbs ≤ lockThreshold c ∧ 1 ≤ c.time.inRun))
    (hsmall : entryNat c 0x2200 0x2B 1 = 0 ∨ off.natAbs ≤ entryNat c 0x2200 0x2A 100000) :
    (servoSync off mt c).time.ctr = c.time.ctr := by
  rw [servoSync_holdover_waits mt hs hgm hclass h, if_pos hsmall]
  rfl

theorem servoSync_holdover_steps (h : ¬ (off.natAbs ≤ lockThreshold c ∧ 1 ≤ c.time.inRun))
    (hlarge : ¬ (entryNat c 0x2200 0x2B 1 = 0 ∨ off.natAbs ≤ entryNat c 0x2200 0x2A 100000)) :
    (servoSync off mt c).time.ctr = ctrStepped (-off) c ∧ zGet (servoSync off mt c).ctr stepsTaken = zGet c.ctr stepsTaken + 1 := by
  rw [servoSync_holdover_waits mt hs hgm hclass h, if_neg hlarge]
  obtain ⟨b, k, hstep⟩ := stepCounter_time (-off) false { c with time := { c.time with
    lastOffset := some (off, mt), offset := off, inRun := if off.natAbs ≤ lockThreshold c then c.time.inRun + 1 else 0 } }
  rw [raiseLimited_time, hstep, zGet_raiseLimited_other _ _ _ _ _ _ (by decide), zGet_stepCounter]
  exact ⟨rfl, rfl⟩

end

/-- The first lock steps the counter once. -/
theorem firstLock_locks (off : Int) (sl : Int × Nat) (c : Channel) :
    (firstLock off sl c).time.servo = .locked ∧ (firstLock off sl c).time.firstLocked = true ∧
      zGet (firstLock off sl c).ctr stepsTaken = zGet c.ctr stepsTaken + 1 := by
  have hsteps := zGet_stepCounter (-off) true
    { c with time := { c.time with adj := clampAdj (c.time.adj - sl.1 * cycleUnits / (max sl.2 1 : Nat)) } }
  unfold firstLock setServo
  simp only [raiseLimited_time, true_and]
  rw [zGet_raiseLimited_other _ _ _ _ _ _ (by decide)]
  exact hsteps

theorem servoSync_locking_locks {off : Int} {mt k e : Nat} {o d : Int} (hs : c.time.servo = .locking) (hlast : c.time.lastOffset = some (o, k))
    (hslope : c.time.slope = some (d, e)) (hknown : (ptpGet c c.time.selPort).delayKnown = true)
    (hwant : (off - (o + d * ((mt : Int) - k) / (max e 1 : Nat))).natAbs ≤ 1000) :
    servoSync off mt c =
      firstLock off (off - o, mt - k) { c with time := { c.time with lastOffset := some (off, mt), offset := off } } := by
  unfold servoSync
  simp only [hs, hlast, hslope]
  exact if_pos ⟨hwant, hknown⟩

end

/-- Settles O48: a Sync reaches the servo, which acts by its state, the offset and its runs. -/
theorem servoOnSync : Obligations.servo_on_sync := by
  unfold Obligations.servo_on_sync
  have hsync (s : State) (ch : Chan) (p : Nat) (m : PtpMsg) (rx : Nat) (g : Master) (h : SyncReady s ch p m g) (P : State → Prop)
      (hP : ∀ t, chanOf t ch = servoSync (syncOffset (chanOf s ch) p m rx) ((rx : Int) - syncOffset (chanOf s ch) p m rx).toNat
        (offsetNoted p m rx (commitsEnded (chanOf s ch))) → onlyChan ch s t → P t) : Does (.syncReceived ch p m rx) s P :=
    does_onChan rfl fun t ht ho => hP t (ht.trans (syncReceivedC_selected (syncing_of_ready h))) ho
  refine ⟨fun s ch p m rx g h hs hnear => hsync s ch p m rx g h _ fun t ht ho => ?_,
    fun s ch p m rx g h hs hfar hrun => hsync s ch p m rx g h _ fun t ht ho => ?_,
    fun s ch p m rx g h hs hfar hrun => hsync s ch p m rx g h _ fun t ht ho => ?_,
    fun s ch p m rx g h hs hclass hnear hrun => hsync s ch p m rx g h _ fun t ht ho => ?_,
    fun s ch p m rx g h hs hclass hnear hrun => hsync s ch p m rx g h _ fun t ht ho => ?_,
    fun s ch p m rx g h hs hclass hfar hsmall => hsync s ch p m rx g h _ fun t ht ho => ?_,
    fun s ch p m rx g h hs hclass hfar hon hbig h0 h64 => hsync s ch p m rx g h _ fun t ht ho => ?_,
    fun s ch p m rx g o k d e h hs hlast hslope hknown hwant => hsync s ch p m rx g h _ fun t ht ho => ?_⟩ <;> rw [ht]
  · obtain ⟨h1, h2, h3, h4⟩ := servoSync_locked_near (c := offsetNoted p m rx (commitsEnded (chanOf s ch)))
      ((rx : Int) - syncOffset (chanOf s ch) p m rx).toNat hs hnear
    exact ⟨h1, h2, h3, h4, ho⟩
  · exact servoSync_locked_leaves (c := offsetNoted p m rx (commitsEnded (chanOf s ch))) _ hs hfar hrun
  · exact servoSync_locked_stays (c := offsetNoted p m rx (commitsEnded (chanOf s ch))) _ hs hfar hrun
  · obtain ⟨-, -, -, -, hgm, -⟩ := h
    exact servoSync_holdover_locks (c := offsetNoted p m rx (commitsEnded (chanOf s ch))) _ hs hgm hclass hnear hrun
  · obtain ⟨-, -, -, -, hgm, -⟩ := h
    have hwait : ¬ ((syncOffset (chanOf s ch) p m rx).natAbs ≤ lockThreshold (offsetNoted p m rx (commitsEnded (chanOf s ch))) ∧
        1 ≤ (offsetNoted p m rx (commitsEnded (chanOf s ch))).time.inRun) := by
      intro hboth
      have hzero : 1 ≤ (chanOf s ch).time.inRun := hboth.2
      omega
    obtain ⟨hservo, hin⟩ := servoSync_holdover_stays (c := offsetNoted p m rx (commitsEnded (chanOf s ch)))
      ((rx : Int) - syncOffset (chanOf s ch) p m rx).toNat hs hgm hclass hwait
    refine ⟨hservo, hin.trans ?_⟩
    rw [if_pos (show _ ≤ lockThreshold (offsetNoted p m rx (commitsEnded (chanOf s ch))) from hnear)]
    exact congrArg (· + 1) hrun
  · obtain ⟨-, -, -, -, hgm, -⟩ := h
    have hthr : ¬ (syncOffset (chanOf s ch) p m rx).natAbs ≤ lockThreshold (offsetNoted p m rx (commitsEnded (chanOf s ch))) :=
      Nat.not_le.2 hfar
    obtain ⟨hservo, hin⟩ := servoSync_holdover_stays (c := offsetNoted p m rx (commitsEnded (chanOf s ch)))
      ((rx : Int) - syncOffset (chanOf s ch) p m rx).toNat hs hgm hclass (fun hboth => hthr hboth.1)
    exact ⟨hservo, servoSync_holdover_slews (c := offsetNoted p m rx (commitsEnded (chanOf s ch))) _ hs hgm hclass
      (fun hboth => hthr hboth.1) hsmall, hin.trans (if_neg hthr)⟩
  · obtain ⟨-, -, -, -, hgm, -⟩ := h
    have hthr : ¬ (syncOffset (chanOf s ch) p m rx).natAbs ≤ lockThreshold (offsetNoted p m rx (commitsEnded (chanOf s ch))) :=
      Nat.not_le.2 hfar
    have hlarge : ¬ (entryNat (chanOf s ch) 0x2200 0x2B 1 = 0 ∨
        (syncOffset (chanOf s ch) p m rx).natAbs ≤ entryNat (chanOf s ch) 0x2200 0x2A 100000) := by
      rintro (hz | hle)
      · exact hon hz
      · omega
    obtain ⟨hservo, -⟩ := servoSync_holdover_stays (c := offsetNoted p m rx (commitsEnded (chanOf s ch)))
      ((rx : Int) - syncOffset (chanOf s ch) p m rx).toNat hs hgm hclass (fun hboth => hthr hboth.1)
    obtain ⟨hctr, hsteps⟩ := servoSync_holdover_steps (c := offsetNoted p m rx (commitsEnded (chanOf s ch)))
      ((rx : Int) - syncOffset (chanOf s ch) p m rx).toNat hs hgm hclass (fun hboth => hthr hboth.1) hlarge
    refine ⟨hservo, ?_, hsteps.trans (congrArg (· + 1) (zGet_offsetNoted p m rx _ (by decide)))⟩
    rw [nowNs, hctr]
    exact ctrStepped_shift (c := offsetNoted p m rx (commitsEnded (chanOf s ch))) h0 h64
  · have hport : (ptpGet (offsetNoted p m rx (commitsEnded (chanOf s ch))) (offsetNoted p m rx (commitsEnded (chanOf s ch))).time.selPort).delayKnown = true := by
      have hsel : (offsetNoted p m rx (commitsEnded (chanOf s ch))).time.selPort = p := (syncing_of_ready h).selected
      rw [hsel, offsetNoted, ptpGet_ptpPut]
      exact hknown
    rw [servoSync_locking_locks (c := offsetNoted p m rx (commitsEnded (chanOf s ch))) hs hlast hslope hport hwant]
    obtain ⟨h1, h2, h3⟩ := firstLock_locks (syncOffset (chanOf s ch) p m rx) (syncOffset (chanOf s ch) p m rx - o, ((rx : Int) - syncOffset (chanOf s ch) p m rx).toNat - k)
      { offsetNoted p m rx (commitsEnded (chanOf s ch)) with time := { (offsetNoted p m rx (commitsEnded (chanOf s ch))).time with
        lastOffset := some (syncOffset (chanOf s ch) p m rx, ((rx : Int) - syncOffset (chanOf s ch) p m rx).toNat), offset := syncOffset (chanOf s ch) p m rx } }
    exact ⟨h1, h2, h3.trans (congrArg (· + 1) (zGet_offsetNoted p m rx _ (by decide)))⟩

end Sys2Proof.Machine
end

section
/-! Two-step Syncs and their Follow_Ups, Announces, lost masters and the holdover limit (13 R400, R401, R405, R408). -/
namespace Sys2Proof.Machine
open Sys2Proof

/-- The Sync of a Follow_Up: by sequence number and source. -/
def followedBy (m : PtpMsg) (h : HeldSync) : Bool := h.msg.seqId == m.seqId && h.msg.srcClock == m.srcClock && h.msg.srcPort == m.srcPort

/-! ### What a change of the servo leaves of the ports, the masters and the counter -/

/-- The part of the time that the servo's states and the choice of a path leave alone. -/
def timeFixed (x : TimeSt) : KMap PtpPort × List Master × Option Master × BitVec 96 × Nat := (x.ports, x.masters, x.gm, x.ctr, x.up)

section
variable {c : Channel} {p : Nat} {m : PtpMsg}

@[simp] theorem setServo_fixed (v : Servo) (c : Channel) : timeFixed (setServo v c).time = timeFixed c.time := by
  cases v <;> simp [setServo, timeFixed]

@[simp] theorem leaveLocked_fixed (c : Channel) : timeFixed (leaveLocked c).time = timeFixed c.time := by
  unfold leaveLocked
  split <;> simp

@[simp] theorem selectPath_fixed (c : Channel) : timeFixed (selectPath c).time = timeFixed c.time := by
  unfold selectPath
  simp only []
  split_ifs
  · rfl
  · exact leaveLocked_fixed _
  · rfl

theorem selectPath_ports (c : Channel) : (selectPath c).time.ports = c.time.ports := congrArg Prod.fst (selectPath_fixed c)

theorem ptpGet_of_ports {d : Channel} (h : d.time.ports = c.time.ports) (p : Nat) : ptpGet d p = ptpGet c p := by
  rw [ptpGet, ptpGet, h]

theorem stepCounter_ports (off : Int) (first : Bool) (c : Channel) : (stepCounter off first c).time.ports = c.time.ports := by
  obtain ⟨b, k, h⟩ := stepCounter_time off first c
  rw [h]

theorem setServo_ports (v : Servo) (c : Channel) : (setServo v c).time.ports = c.time.ports := congrArg Prod.fst (setServo_fixed v c)

theorem servoSync_ports (off : Int) (mt : Nat) (c : Channel) : (servoSync off mt c).time.ports = c.time.ports := by
  unfold servoSync firstLock
  simp only []
  split
  · rfl
  · split
    · split
      · exact (setServo_ports _ _).trans (stepCounter_ports _ _ _)
      · rfl
    · rfl
    · rfl
  · split
    · rfl
    · split
      · exact setServo_ports _ _
      · rfl
  · split
    · rfl
    · split
      · rfl
      · split
        · exact setServo_ports _ _
        · split
          · rfl
          · rw [raiseLimited_time]
            exact stepCounter_ports _ _ _

/-- The offset that a Sync of the selected master gives is noted on its port. -/
theorem pathOffset_ports {g : Master} {rx origin : Nat} {corr : Int} (hgm : c.time.gm = some g) (hsrc : g.msg.srcClock = m.srcClock) :
    (pathOffset p m rx origin corr c).time.ports = kPut c.time.ports p { ptpGet c p with
      offset := (rx : Int) - (origin + corr / 65536 + (ptpGet c p).delay + asymmetry c p) } := by
  unfold pathOffset
  rw [hgm]
  simp only [hsrc, ne_eq, not_true_eq_false, if_false]
  split
  · rw [servoSync_ports, selectPath_ports]
    rfl
  · rw [selectPath_ports]
    rfl

/-! ### Two-step Syncs (13 R401) -/

theorem syncReceivedC_twoStep {rx : Nat} (hrun : counterRuns c = true) (hup : linkUp c p = true) (hdom : m.domain = entryNat c 0x2200 0x20 0)
    (htwo : m.twoStep = true) (hroom : (ptpGet c p).syncs.length < 16) :
    syncReceivedC p m rx c = ptpPut p { ptpGet c p with
      syncs := (ptpGet c p).syncs ++ [⟨m, rx, ((ptpGet c p).delay + asymmetry c p) * 65536, []⟩] } (bump 0x2218 p c) := by
  have hguard : (counterRuns c && linkUp c p && decide (m.domain = entryNat c 0x2200 0x20 0)) = true := by simp [hrun, hup, hdom]
  have hroom' : (ptpGet (bump 0x2218 p c) p).syncs.length < 16 := hroom
  unfold syncReceivedC
  rw [if_pos hguard]
  simp only [htwo, if_true]
  rw [if_pos hroom']
  rfl

theorem followUpReceivedC_matched {h : HeldSync} (hrun : counterRuns c = true) (hup : linkUp c p = true)
    (hfind : (ptpGet c p).syncs.find? (followedBy m) = some h) (htime : nowNs c ≤ h.rx + 10000000) :
    followUpReceivedC p m c = pathOffset p m h.rx m.origin (h.msg.correction + m.correction)
      (correctFollowUp p h m (ptpPut p { ptpGet c p with syncs := (ptpGet c p).syncs.erase h } c)) := by
  have hguard : (counterRuns c && linkUp c p) = true := by simp [hrun, hup]
  unfold followedBy at hfind
  unfold followUpReceivedC
  rw [if_pos hguard]
  simp only [hfind]
  exact if_neg (Nat.not_lt.2 htime)

theorem followUpReceivedC_unmatched (hrun : counterRuns c = true) (hup : linkUp c p = true)
    (hnone : ∀ x, (ptpGet c p).syncs.find? (followedBy m) = some x → x.rx + 10000000 < nowNs c) :
    (followUpReceivedC p m c).sw = c.sw ∧
      zGet (followUpReceivedC p m c).ctr (od 0x2200 0x12) = zGet c.ctr (od 0x2200 0x12) + 1 := by
  have hguard : (counterRuns c && linkUp c p) = true := by simp [hrun, hup]
  unfold followedBy at hnone
  unfold followUpReceivedC
  rw [if_pos hguard]
  simp only []
  split
  case h_1 => exact ⟨rfl, zGet_bump_same _ _ _⟩
  case h_2 x hx =>
    rw [if_pos (hnone x hx)]
    exact ⟨rfl, zGet_bump_same _ _ _⟩

theorem followUpReceivedC_ports {h : HeldSync} {g : Master} (hrun : counterRuns c = true) (hup : linkUp c p = true)
    (hfind : (ptpGet c p).syncs.find? (followedBy m) = some h) (htime : nowNs c ≤ h.rx + 10000000) (hgm : c.time.gm = some g)
    (hsrc : g.msg.srcClock = m.srcClock) : ptpGet (followUpReceivedC p m c) p = { ptpGet c p with
      syncs := (ptpGet c p).syncs.erase h, offset := syncOffset c p { m with correction := h.msg.correction + m.correction } h.rx } := by
  have hx : ptpGet (correctFollowUp p h m (ptpPut p { ptpGet c p with syncs := (ptpGet c p).syncs.erase h } c)) p =
      { ptpGet c p with syncs := (ptpGet c p).syncs.erase h } := ptpGet_ptpPut p _ c
  rw [followUpReceivedC_matched hrun hup hfind htime, ptpGet,
    pathOffset_ports (c := correctFollowUp p h m (ptpPut p { ptpGet c p with syncs := (ptpGet c p).syncs.erase h } c)) hgm hsrc,
    kGet_kPut_same, hx]
  rfl

/-- A Sync whose Follow_Up has not come within 10 ms is given up. -/
theorem followUpMatchTimeoutC_gives_up {h : HeldSync} {r : List HeldSync} (hsyncs : (ptpGet c p).syncs = h :: r) :
    ptpGet (followUpMatchTimeoutC p c) p = { ptpGet c p with syncs := r } := by
  unfold followUpMatchTimeoutC
  simp only [hsyncs]
  exact ptpGet_ptpPut p _ _

/-! ### Announces, lost masters, the holdover limit (13 R400, R405, R408) -/

theorem setServo_locking_servo (c : Channel) : (setServo .locking c).time.servo = .locking := rfl
theorem setServo_freerun_servo (c : Channel) : (setServo .freerun c).time.servo = .freerun := rfl
theorem setServo_holdover_servo (c : Channel) : (setServo .holdover c).time.servo = .holdover := by simp [setServo]

/-- A path selected anew leaves a servo that is not locked as it is. -/
theorem selectPath_servo (h : c.time.servo ≠ .locked) : (selectPath c).time.servo = c.time.servo := by
  have hleave : ∀ d : Channel, d.time.servo = c.time.servo → (leaveLocked d).time.servo = c.time.servo := by
    intro d hd
    unfold leaveLocked
    split
    · exact absurd (hd.symm.trans ‹_›) h
    · exact hd
  unfold selectPath
  simp only []
  split_ifs
  · rfl
  · exact hleave _ rfl
  · rfl

theorem advanceTo_time (t : Nat) (c : Channel) : ∃ u r, (advanceTo t c).time = { c.time with up := u, ctr := r } := by
  unfold advanceTo
  split
  · exact ⟨_, _, rfl⟩
  · exact ⟨c.time.up, c.time.ctr, rfl⟩

/-- The first master that a servo in FREERUN selects: it is locking, and the counter is not touched. -/
theorem selectMaster_freerun (x : Master) (hfree : c.time.servo = .freerun) :
    (selectMaster x c).time.servo = .locking ∧
      timeFixed (selectMaster x c).time = (c.time.ports, c.time.masters, some x, c.time.ctr, c.time.up) := by
  have hstart : ∀ d : Channel, d.time.servo = .freerun → timeFixed d.time = (c.time.ports, c.time.masters, some x, c.time.ctr, c.time.up) →
      (selectPath (takeUtc x.msg (setServo .locking d))).time.servo = .locking ∧
        timeFixed (selectPath (takeUtc x.msg (setServo .locking d))).time = (c.time.ports, c.time.masters, some x, c.time.ctr, c.time.up) :=
    fun d _ hd => ⟨selectPath_servo (by simp [takeUtc, setServo]), (selectPath_fixed _).trans hd⟩
  unfold selectMaster
  simp only []
  split_ifs
  · simp only [raiseLimited_time, bump_time, hfree]
    exact hstart _ (by simp) (by simp [timeFixed])
  · simp only [hfree]
    exact hstart _ rfl rfl

/-- The masters after a second Announce of the one that is known. -/
def announcedTwice (p : Nat) (m : PtpMsg) (o : Master) (c : Channel) : Channel :=
  { c with time := { c.time with masters := [⟨p, m, c.time.up, some o.heard⟩] } }

theorem bestMaster_announcedTwice {o : Master} (hheard : c.time.up ≤ o.heard + 4 * announceNs c) :
    bestMaster (announcedTwice p m o c) = some ⟨p, m, c.time.up, some o.heard⟩ := by
  have hann : announceNs (announcedTwice p m o c) = announceNs c := rfl
  have hq : qualified (announcedTwice p m o c) ⟨p, m, c.time.up, some o.heard⟩ = true := by
    unfold qualified
    rw [hann]
    simp [announcedTwice, hheard]
  have hm : (announcedTwice p m o c).time.masters = [⟨p, m, c.time.up, some o.heard⟩] := rfl
  unfold bestMaster
  rw [hm, List.filter_singleton, hq]
  rfl

/-- A second Announce in time, heard by a channel that cannot be master and has none. -/
theorem announceReceivedC_selects {o : Master} (hrun : counterRuns c = true) (hup : linkUp c p = true)
    (hdom : m.domain = entryNat c 0x2200 0x20 0) (hown : m.srcClock ≠ clockId c) (hsteps : m.steps < 255)
    (hknown : c.time.masters = [o]) (hport : o.port = p) (hclock : o.msg.srcClock = m.srcClock) (hsrc : o.msg.srcPort = m.srcPort)
    (hheard : c.time.up ≤ o.heard + 4 * announceNs c) (hcap : masterCapable c = false) (hnone : c.time.gm = none) :
    announceReceivedC p m c = selectMaster ⟨p, m, c.time.up, some o.heard⟩ (announcedTwice p m o c) := by
  have hguard : (counterRuns c && linkUp c p && decide (m.domain = entryNat c 0x2200 0x20 0) && m.srcClock != clockId c &&
      decide (m.steps < 255)) = true := by simp [hrun, hup, hdom, hown, hsteps]
  have hmasters : announceReceivedC p m c = bmca (announcedTwice p m o c) := by
    unfold announceReceivedC
    rw [if_pos hguard]
    simp [announcedTwice, hknown, hport, hclock, hsrc]
  have hcap' : masterCapable (announcedTwice p m o c) = false := hcap
  have hgm' : (announcedTwice p m o c).time.gm = none := hnone
  rw [hmasters]
  unfold bmca
  simp only [bestMaster_announcedTwice hheard, hcap', Bool.false_and, Bool.false_eq_true, if_false, hgm']

theorem bmca_no_masters (h : c.time.masters = []) : bmca c = c := by
  have hbest : bestMaster c = none := by simp [bestMaster, h]
  simp [bmca, hbest]

theorem loseMaster_eq (c : Channel) : (loseMaster c).time.gm = none ∧ (loseMaster c).time.selPort = 0 ∧
    (loseMaster c).time.masters = c.time.masters ∧ (c.time.servo = .locked → (loseMaster c).time.servo = .holdover) ∧
    (c.time.servo = .locking → (loseMaster c).time.servo = .freerun) := by
  unfold loseMaster
  cases h : c.time.servo <;> simp [h, setServo, runFree]

/-- Without another master, the timeout of the selected one loses it (13 R405). -/
theorem announceReceiptTimeoutC_loses {g : Master} (hgm : c.time.gm = some g) (honly : ∀ x ∈ c.time.masters, x.msg.srcClock = g.msg.srcClock) :
    (announceReceiptTimeoutC c).time.gm = none ∧ (announceReceiptTimeoutC c).time.selPort = 0 ∧
      (c.time.servo = .locked → (announceReceiptTimeoutC c).time.servo = .holdover) ∧
      (c.time.servo = .locking → (announceReceiptTimeoutC c).time.servo = .freerun) := by
  obtain ⟨d, hd⟩ : ∃ t, announceReceiptTimeoutC c = bmca (loseMaster { upTo t c with time := { (upTo t c).time with
      masters := (upTo t c).time.masters.filter (fun x => x.msg.srcClock != g.msg.srcClock) } }) := by
    unfold announceReceiptTimeoutC
    rw [hgm]
    exact ⟨_, rfl⟩
  obtain ⟨u, r, ht⟩ := advanceTo_time (nowNs c + (d - c.time.up)) c
  have hnone : (upTo d c).time.masters.filter (fun x => x.msg.srcClock != g.msg.srcClock) = [] := by
    rw [upTo, ht]
    simpa using honly
  obtain ⟨h1, h2, h3, h4, h5⟩ := loseMaster_eq { upTo d c with time := { (upTo d c).time with
      masters := (upTo d c).time.masters.filter (fun x => x.msg.srcClock != g.msg.srcClock) } }
  have hservo : (upTo d c).time.servo = c.time.servo := by
    rw [upTo, ht]
  rw [hd, bmca_no_masters (h3.trans hnone)]
  exact ⟨h1, h2, fun h => h4 (hservo.trans h), fun h => h5 (hservo.trans h)⟩

theorem holdoverLimitC_passes (hhold : c.time.servo = .holdover) (hlim : c.time.limitPassed = false) :
    (holdoverLimitC c).time.limitPassed = true ∧ (holdoverLimitC c).time.servo = .holdover ∧
      c.time.holdAt + entryNat c 0x2200 0x2D 14400 * 1000000000 ≤ (holdoverLimitC c).time.up := by
  have hlim' : ¬ c.time.limitPassed = true := by simp [hlim]
  have heq : ∃ d, d = c.time.holdAt + entryNat c 0x2200 0x2D 14400 * 1000000000 ∧
      holdoverLimitC c = raiseLimited 24 0xFF 0 0 0 { upTo d c with time := { (upTo d c).time with limitPassed := true } } := by
    unfold holdoverLimitC
    split
    · rw [if_neg hlim']
      exact ⟨_, rfl, rfl⟩
    · exact absurd hhold ‹_›
  obtain ⟨d, hd, heq⟩ := heq
  obtain ⟨u, r, hup⟩ := advanceTo_time (nowNs c + (d - c.time.up)) c
  rw [← hd, heq, raiseLimited_time]
  exact ⟨rfl, (congrArg TimeSt.servo hup).trans hhold, (le_max_right _ _).trans (upTo_up d c).ge⟩

theorem holdoverLimitC_idle (h : c.time.servo ≠ .holdover) : holdoverLimitC c = c := by
  unfold holdoverLimitC
  split
  · exact absurd ‹_› h
  · rfl

end

theorem entryNat_commitsEnded (c : Channel) (i sub d : Nat) : entryNat (commitsEnded c) i sub d = entryNat c i sub d := rfl

theorem announceNs_commitsEnded (c : Channel) : announceNs (commitsEnded c) = announceNs c := by
  rw [announceNs, announceNs, entryNat_commitsEnded]

/-- Settles O49: a two-step Sync and its Follow_Up, the second Announce, the lost master and the holdover limit. -/
theorem ptpMessages : Obligations.ptp_messages := by
  unfold Obligations.ptp_messages
  refine ⟨fun s ch p m rx hrun hup hdom htwo hroom => does_onChan rfl fun t ht ho => ?_,
    fun s ch p m h g hrun hup hfind htime hgm hsrc => does_onChan rfl fun t ht ho => ?_,
    fun s ch p m h hrun hup hfind hlate => does_onChan rfl fun t ht ho => ?_,
    fun s ch p h r hsyncs => does_onChan rfl fun t ht ho => ?_,
    fun s ch p m o hrun hup hdom hown hsteps hknown hport hclock hsrc hheard hcap hnone hfree => does_onChan rfl fun t ht ho => ?_,
    fun s ch g hgm honly => does_onChan rfl fun t ht ho => ?_,
    fun s ch hhold hlim => does_onChan rfl fun t ht ho => ?_,
    fun s ch hservo => does_nothing rfl (holdoverLimitC_idle (c := commitsEnded (chanOf s ch)) hservo)⟩ <;> rw [ht]
  · rw [syncReceivedC_twoStep (c := commitsEnded (chanOf s ch)) hrun hup hdom htwo hroom]
    exact ⟨ptpGet_ptpPut p _ _, zGet_bump_same _ _ _, rfl, ho⟩
  · rw [followUpReceivedC_ports (c := commitsEnded (chanOf s ch)) hrun hup hfind htime hgm hsrc]
    exact ⟨rfl, rfl, ho⟩
  · exact followUpReceivedC_unmatched (c := commitsEnded (chanOf s ch)) hrun hup
      (fun x hx => hlate x (hfind.symm.trans hx))
  · exact ⟨followUpMatchTimeoutC_gives_up (c := commitsEnded (chanOf s ch)) hsyncs, ho⟩
  · rw [announceReceivedC_selects (c := commitsEnded (chanOf s ch)) hrun hup hdom hown hsteps hknown hport hclock hsrc (by rwa [announceNs_commitsEnded]) hcap hnone]
    obtain ⟨hservo, hfixed⟩ := selectMaster_freerun (c := announcedTwice p m o (commitsEnded (chanOf s ch)))
      ⟨p, m, (chanOf s ch).time.up, some o.heard⟩ hfree
    simp only [timeFixed, Prod.mk.injEq] at hfixed
    obtain ⟨-, hmasters, hgm, hctr, -⟩ := hfixed
    exact ⟨hservo, hgm, hmasters, hctr⟩
  · obtain ⟨h1, h2, h3, h4⟩ := announceReceiptTimeoutC_loses (c := commitsEnded (chanOf s ch)) hgm honly
    exact ⟨h1, h2, h3, h4, ho⟩
  · obtain ⟨hpassed, hservo, hup⟩ := holdoverLimitC_passes (c := commitsEnded (chanOf s ch)) hhold hlim
    rw [entryNat_commitsEnded, commitsEnded_time] at hup
    exact ⟨hpassed, hservo, hup, ho⟩

end Sys2Proof.Machine
end

section
/-! Peer delay and the messages of a master: what they put into the egress queues (13 R399, R400, R403; 14 R422). -/
namespace Sys2Proof.Machine
open Sys2Proof

/-- What a PTP message of the channel is made of: its identity, its time, the values of its entries and the ports' configuration. -/
def senderPart (c : Channel) : Chan × TimeSt × KMap (List Byte) × KMap (List Byte) × SwitchCfg := (c.id, c.time, c.dict.overlay, c.dict.initial, c.sw.cfg)

/-- One port's part in `sendMaster`. -/
def sendOn (ty seq : Nat) (c : Channel) (p : Nat) : Channel :=
  if linkUp c p && ptpOn c p then sendPtp p (stampNow c) ptpMulticast { ptpMsg c p ty seq with origin := nowNs c } c else c

section
variable {c d : Channel} {p q : Nat}

/-! ### The queues of a port -/

@[simp] theorem portGet_portPut (p : Nat) (x : PortSt) (c : Channel) : portGet (portPut p x c) p = x := by
  simp [portGet, portPut, kGet_kPut_same]

theorem portGet_portPut_other (x : PortSt) (c : Channel) (h : p ≠ q) : portGet (portPut q x c) p = portGet c p := by
  simp [portGet, portPut, kGet_kPut_other _ _ _ _ h]

theorem portGet_of_sw (h : d.sw = c.sw) (p : Nat) : portGet d p = portGet c p := by
  rw [portGet, portGet, h]

/-- A frame in an express queue of a port whose link is up: it has no room to be dropped for. -/
theorem enqueue_express (x : QFrame) (hq : 6 ≤ q) (hup : linkUp c p = true) : (enqueue p q x c).sw =
    (portPut p { portGet c p with queues := kPut (portGet c p).queues q (queueOf (portGet c p) q ++ [x]) } c).sw := by
  unfold enqueue
  simp only [hup, Bool.not_true, Bool.false_eq_true, if_false, if_pos hq, highWater_sw, bump_sw]

theorem zGet_enqueue_express {k : Nat} (x : QFrame) (hq : 6 ≤ q) (hup : linkUp c p = true) (hk : k ≠ od (0x9300 + p) (q + 1)) :
    zGet (enqueue p q x c).ctr k = zGet c.ctr k := by
  unfold enqueue
  simp only [hup, Bool.not_true, Bool.false_eq_true, if_false, if_pos hq, highWater_ctr]
  exact zGet_bump_other _ _ _ hk

theorem highWater_overlay (i sub v : Nat) (c : Channel) : (highWater i sub v c).dict.overlay = c.dict.overlay := by
  unfold highWater
  split <;> rfl

theorem highWater_initial (i sub v : Nat) (c : Channel) : (highWater i sub v c).dict.initial = c.dict.initial := by
  unfold highWater
  split <;> rfl

theorem senderPart_enqueue_express (x : QFrame) (hq : 6 ≤ q) (hup : linkUp c p = true) : senderPart (enqueue p q x c) = senderPart c := by
  unfold enqueue
  simp only [hup, Bool.not_true, Bool.false_eq_true, if_false, if_pos hq]
  simp [senderPart, highWater_overlay, highWater_initial, portPut]

theorem linkUp_enqueue_express (x : QFrame) (o : Nat) (hq : 6 ≤ q) (hup : linkUp c p = true) :
    linkUp (enqueue p q x c) o = linkUp c o := by
  have hport : (portGet (enqueue p q x c) o).up = (portGet c o).up := by
    rw [portGet_of_sw (enqueue_express x hq hup)]
    by_cases h : o = p
    · rw [h, portGet_portPut]
    · rw [portGet_portPut_other _ _ h]
  have hcfg : (enqueue p q x c).sw.cfg = c.sw.cfg := congrArg (fun y => y.2.2.2.2) (senderPart_enqueue_express x hq hup)
  unfold linkUp portCfg
  rw [hport, hcfg]

/-! ### A message of the channel -/

theorem entryNat_of_sender (h : senderPart d = senderPart c) (i sub v : Nat) : entryNat d i sub v = entryNat c i sub v := by
  simp only [senderPart, Prod.mk.injEq] at h
  obtain ⟨-, -, hover, hinit, -⟩ := h
  rw [entryNat, entryNat, entryBytes, entryBytes, hover, hinit]

theorem hostMac_of_sender (h : senderPart d = senderPart c) : hostMac d = hostMac c := by
  rw [hostMac, hostMac, show d.id = c.id from congrArg Prod.fst h]

theorem ptpMsg_of_sender (h : senderPart d = senderPart c) (p ty seq : Nat) : ptpMsg d p ty seq = ptpMsg c p ty seq := by
  have htime : d.time = c.time := congrArg (fun y => y.2.1) h
  simp only [ptpMsg, clockId, hostMac_of_sender h, entryNat_of_sender h, htime]

theorem ptpOn_of_sender (h : senderPart d = senderPart c) (p : Nat) : ptpOn d p = ptpOn c p := by
  rw [ptpOn, ptpOn, entryNat_of_sender h]

/-- The queue of a PTP message: event messages go before the others. -/
def ptpQueue (m : PtpMsg) : Nat := if m.msgType ≤ 3 then 7 else 6

theorem ptpQueue_express (m : PtpMsg) : 6 ≤ ptpQueue m := by
  unfold ptpQueue
  split <;> omega

/-- A queue of the port has one more frame, which carries the message. -/
def PtpAdded (c d : Channel) (p q : Nat) (m : PtpMsg) : Prop :=
  ∃ f : QFrame, queueOf (portGet d p) q = queueOf (portGet c p) q ++ [f] ∧ f.frame.body = .ptp m ∧ f.frame.src = hostMac c

theorem PtpAdded.of_sw {e : Channel} {m : PtpMsg} (h : PtpAdded c d p q m) (hsw : e.sw = d.sw) : PtpAdded c e p q m := by
  rwa [PtpAdded, portGet_of_sw hsw]

variable (ts : Nat) (dst : BitVec 48) (m : PtpMsg)

/-- The frame of a PTP message of the channel. -/
def ptpFrame (c : Channel) : QFrame :=
  ⟨{ dst := dst, src := hostMac c, vlan := vlanField (entryNat c 0x2200 0x2E 0xFFFF), len := 64, good := true,
     red := .none, sec := none, body := .ptp m, head := [] }, 0, 0, ts⟩

theorem sendPtp_eq (p : Nat) (c : Channel) : sendPtp p ts dst m c = enqueue p (ptpQueue m) (ptpFrame ts dst m c) c := rfl

theorem sendPtp_adds (hup : linkUp c p = true) : PtpAdded c (sendPtp p ts dst m c) p (ptpQueue m) m := by
  refine ⟨ptpFrame ts dst m c, ?_, rfl, rfl⟩
  rw [sendPtp_eq, portGet_of_sw (enqueue_express _ (ptpQueue_express m) hup), portGet_portPut]
  simp [queueOf, kGet_kPut_same]

theorem sendPtp_other {o : Nat} (hup : linkUp c p = true) (ho : o ≠ p) : portGet (sendPtp p ts dst m c) o = portGet c o := by
  rw [sendPtp_eq, portGet_of_sw (enqueue_express _ (ptpQueue_express m) hup), portGet_portPut_other _ _ ho]

theorem senderPart_sendPtp (hup : linkUp c p = true) : senderPart (sendPtp p ts dst m c) = senderPart c :=
  senderPart_enqueue_express _ (ptpQueue_express m) hup

theorem linkUp_sendPtp (o : Nat) (hup : linkUp c p = true) : linkUp (sendPtp p ts dst m c) o = linkUp c o :=
  linkUp_enqueue_express _ o (ptpQueue_express m) hup

end

/-! ### A message on every port that is up -/

section
variable {c d : Channel} {p : Nat} (ty seq : Nat)

theorem senderPart_sendOn (c : Channel) (p : Nat) : senderPart (sendOn ty seq c p) = senderPart c := by
  unfold sendOn
  split
  · exact senderPart_sendPtp _ _ _ (by simp_all)
  · rfl

theorem linkUp_sendOn (c : Channel) (p o : Nat) : linkUp (sendOn ty seq c p) o = linkUp c o := by
  unfold sendOn
  split
  · exact linkUp_sendPtp _ _ _ o (by simp_all)
  · rfl

theorem portGet_sendOn_other {o : Nat} (c : Channel) (h : o ≠ p) : portGet (sendOn ty seq c p) o = portGet c o := by
  unfold sendOn
  split
  · exact sendPtp_other _ _ _ (by simp_all) h
  · rfl

/-- The message that the master sends on a port. -/
def masterMsg (c : Channel) (p : Nat) : PtpMsg := { ptpMsg c p ty seq with origin := nowNs c }

theorem sendOn_adds (hup : linkUp c p = true) (hon : ptpOn c p = true) :
    PtpAdded c (sendOn ty seq c p) p (ptpQueue (masterMsg ty seq c p)) (masterMsg ty seq c p) := by
  unfold sendOn
  rw [if_pos (by simp [hup, hon])]
  exact sendPtp_adds _ _ _ hup

theorem masterMsg_of_sender (h : senderPart d = senderPart c) (p : Nat) : masterMsg ty seq d p = masterMsg ty seq c p := by
  have htime : d.time = c.time := congrArg (fun y => y.2.1) h
  rw [masterMsg, masterMsg, ptpMsg_of_sender h, nowNs, nowNs, htime]

theorem portGet_sendOn_foldl (l : List Nat) (c : Channel) (h : p ∉ l) : portGet (l.foldl (sendOn ty seq) c) p = portGet c p := by
  induction l generalizing c with
  | nil => rfl
  | cons o r ih =>
    simp only [List.mem_cons, not_or] at h
    exact (ih _ h.2).trans (portGet_sendOn_other ty seq c h.1)

/-- Of a list of ports without repetition, each that is enabled and up has taken its message. -/
theorem sendOn_foldl_adds (l : List Nat) (c : Channel) (hl : l.Nodup) (hp : p ∈ l) (hup : linkUp c p = true) (hon : ptpOn c p = true) :
    PtpAdded c (l.foldl (sendOn ty seq) c) p (ptpQueue (masterMsg ty seq c p)) (masterMsg ty seq c p) := by
  induction l generalizing c with
  | nil => cases hp
  | cons o r ih =>
    rw [List.nodup_cons] at hl
    by_cases ho : p = o
    · subst ho
      rw [List.foldl_cons, PtpAdded, portGet_sendOn_foldl ty seq r _ hl.1]
      exact sendOn_adds ty seq hup hon
    · have hsender := senderPart_sendOn ty seq c o
      obtain ⟨f, hqueue, hbody, hsrc⟩ := ih (sendOn ty seq c o) hl.2 ((List.mem_cons.1 hp).resolve_left ho)
        ((linkUp_sendOn ty seq c o p).trans hup) ((ptpOn_of_sender hsender p).trans hon)
      rw [masterMsg_of_sender ty seq hsender] at hqueue hbody
      rw [portGet_sendOn_other ty seq c ho] at hqueue
      exact ⟨f, hqueue, hbody, hsrc.trans (hostMac_of_sender hsender)⟩

theorem sendMaster_eq (c : Channel) : sendMaster ty seq c = ((List.range 12).map (· + 1)).foldl (sendOn ty seq) c := rfl

theorem sendMaster_time (c : Channel) : (sendMaster ty seq c).time = c.time :=
  foldl_keeps (g := fun c => c.time) (fun c p => congrArg (fun y => y.2.1) (senderPart_sendOn ty seq c p)) _ c

theorem sendMaster_adds (h1 : 1 ≤ p) (h12 : p ≤ 12) (hup : linkUp c p = true) (hon : ptpOn c p = true) :
    PtpAdded c (sendMaster ty seq c) p (ptpQueue (masterMsg ty seq c p)) (masterMsg ty seq c p) :=
  sendOn_foldl_adds ty seq _ c (by decide) (List.mem_map.2 ⟨p - 1, List.mem_range.2 (by omega), by omega⟩) hup hon

theorem syncIntervalC_sends (h : actsAsMaster c = true) :
    (syncIntervalC c).time.syncSeq = (c.time.syncSeq + 1) % 65536 ∧ ∀ p, 1 ≤ p → p ≤ 12 → linkUp c p = true → ptpOn c p = true →
      PtpAdded c (syncIntervalC c) p 7 { ptpMsg c p 0 c.time.syncSeq with origin := nowNs c } := by
  unfold syncIntervalC
  rw [if_pos h]
  refine ⟨?_, fun p h1 h12 hup hon => sendMaster_adds (c := { c with time := { c.time with syncSeq := (c.time.syncSeq + 1) % 65536 } })
    0 c.time.syncSeq h1 h12 hup hon⟩
  rw [sendMaster_time]

theorem announceIntervalC_sends (h : actsAsMaster c = true) :
    (announceIntervalC c).time.annSeq = (c.time.annSeq + 1) % 65536 ∧ ∀ p, 1 ≤ p → p ≤ 12 → linkUp c p = true → ptpOn c p = true →
      PtpAdded c (announceIntervalC c) p 6 { ptpMsg c p 11 c.time.annSeq with origin := nowNs c } := by
  unfold announceIntervalC
  rw [if_pos h]
  refine ⟨?_, fun p h1 h12 hup hon => sendMaster_adds (c := { c with time := { c.time with annSeq := (c.time.annSeq + 1) % 65536 } })
    11 c.time.annSeq h1 h12 hup hon⟩
  rw [sendMaster_time]

end

/-! ### Peer delay -/

section
variable {c : Channel} {p : Nat} {m : PtpMsg} {rx : Nat}

/-- Does a port measure its peer delay? -/
theorem pdelayPort (hrun : counterRuns c = true) (hup : linkUp c p = true) (hon : ptpOn c p = true) (h1 : 1 ≤ p) (h12 : p ≤ 12) :
    (counterRuns c && linkUp c p && ptpOn c p && decide (1 ≤ p ∧ p ≤ 12)) = true := by
  simp [hrun, hup, hon, h1, h12]

theorem pdelayReqReceivedC_answers (hrun : counterRuns c = true) (hup : linkUp c p = true) (hon : ptpOn c p = true) (h1 : 1 ≤ p) (h12 : p ≤ 12) :
    PtpAdded c (pdelayReqReceivedC p m rx c) p 7 { ptpMsg c p 3 m.seqId with correction := m.correction, reqClock := m.srcClock, reqPort := m.srcPort } := by
  unfold pdelayReqReceivedC
  rw [if_pos (pdelayPort hrun hup hon h1 h12)]
  exact sendPtp_adds _ _ _ hup

theorem pdelayReqReceivedC_off (hon : ptpOn c p = false) : pdelayReqReceivedC p m rx c = c := by
  unfold pdelayReqReceivedC
  exact if_neg (by simp [hon])

/-- A response to the latest request of a port (13 R403). -/
theorem pdelayAnswered (hrun : counterRuns c = true) (hwait : (ptpGet c p).awaiting = true) (hseq : m.seqId = (ptpGet c p).reqSeq)
    (hclock : m.reqClock = clockId c) (hport : m.reqPort = p) :
    (counterRuns c && (ptpGet c p).awaiting && decide (m.seqId = (ptpGet c p).reqSeq) && m.reqClock == clockId c && decide (m.reqPort = p)) = true := by
  simp [hrun, hwait, hseq, hclock, hport]

theorem ptpGet_linkDelay (d : Int) : ptpGet (linkDelay p d c) p = { ptpGet c p with
    delay := d.toNat, delayKnown := true, missedRun := 0, unusable := false, awaiting := false, respPend := none } := by
  unfold linkDelay
  rw [ptpGet_of_ports (selectPath_ports _), ptpGet_ptpPut]

theorem pdelayRespReceivedC_oneStep (hrun : counterRuns c = true) (hwait : (ptpGet c p).awaiting = true)
    (hseq : m.seqId = (ptpGet c p).reqSeq) (hclock : m.reqClock = clockId c) (hport : m.reqPort = p) (hty : m.msgType ≠ 10)
    (hone : m.twoStep = false) :
    pdelayRespReceivedC p m rx c = linkDelay p ((((rx : Int) - (ptpGet c p).reqAt) - m.correction / 65536) / 2) c := by
  unfold pdelayRespReceivedC
  simp only []
  rw [if_pos (pdelayAnswered hrun hwait hseq hclock hport), if_neg hty, if_neg (by simp [hone])]

theorem pdelayRespReceivedC_twoStep (hrun : counterRuns c = true) (hwait : (ptpGet c p).awaiting = true)
    (hseq : m.seqId = (ptpGet c p).reqSeq) (hclock : m.reqClock = clockId c) (hport : m.reqPort = p) (hty : m.msgType ≠ 10)
    (htwo : m.twoStep = true) :
    pdelayRespReceivedC p m rx c = ptpPut p { ptpGet c p with respPend := some (rx, m.origin) } c := by
  unfold pdelayRespReceivedC
  simp only []
  rw [if_pos (pdelayAnswered hrun hwait hseq hclock hport), if_neg hty, if_pos htwo]

theorem selectPath_sw (c : Channel) : (selectPath c).sw = c.sw :=
  (touches_selectPath (List.Subset.refl _)).2 (touches_refl _ c) .sw (by decide)

/-- A path selected anew raises at most the event of a servo that enters HOLDOVER. -/
theorem zGet_selectPath {k : Nat} (h : k ∉ raiseCounters 23) : zGet (selectPath c).ctr k = zGet c.ctr k := by
  have hleave : ∀ d : Channel, zGet (leaveLocked d).ctr k = zGet d.ctr k := by
    intro d
    unfold leaveLocked setServo
    split
    · exact zGet_raiseLimited_other _ _ _ _ _ _ h
    · rfl
  unfold selectPath
  simp only []
  split_ifs
  · rfl
  · exact hleave _
  · rfl

/-- The port as the next request leaves it (13 R403). -/
def requested (c : Channel) (p : Nat) : PtpPort :=
  let x := ptpGet c p
  let run := if x.awaiting then x.missedRun + 1 else 0
  { x with missedRun := run, unusable := x.unusable || decide (3 ≤ run), awaiting := true, reqSeq := (x.reqSeq + 1) % 65536,
           reqAt := nowNs c, respPend := none }

/-- A missed answer, counted. -/
def missCounted (c : Channel) (p : Nat) : Channel := if (ptpGet c p).awaiting then bump 0x2212 p c else c

theorem pdelayIntervalC_eq (hrun : counterRuns c = true) (hup : linkUp c p = true) (hon : ptpOn c p = true) (h1 : 1 ≤ p) (h12 : p ≤ 12) :
    pdelayIntervalC p c = selectPath (sendPtp p (stampNow c) pdelayMulticast (ptpMsg c p 2 (((ptpGet c p).reqSeq + 1) % 65536))
      (ptpPut p (requested c p) (missCounted c p))) := by
  unfold pdelayIntervalC
  exact if_pos (pdelayPort hrun hup hon h1 h12)

theorem missCounted_sw (c : Channel) (p : Nat) : (missCounted c p).sw = c.sw := by
  unfold missCounted
  split <;> rfl

theorem missCounted_id (c : Channel) (p : Nat) : (missCounted c p).id = c.id := by
  unfold missCounted
  split <;> rfl

theorem zGet_missCounted (c : Channel) (p : Nat) :
    zGet (missCounted c p).ctr (od 0x2212 p) = zGet c.ctr (od 0x2212 p) + (if (ptpGet c p).awaiting then 1 else 0) := by
  unfold missCounted
  split
  · exact zGet_bump_same _ _ _
  · exact (add_zero _).symm

theorem pdelayIntervalC_asks (hrun : counterRuns c = true) (hup : linkUp c p = true) (hon : ptpOn c p = true) (h1 : 1 ≤ p) (h12 : p ≤ 12) :
    ptpGet (pdelayIntervalC p c) p = requested c p ∧
      PtpAdded c (pdelayIntervalC p c) p 7 (ptpMsg c p 2 (((ptpGet c p).reqSeq + 1) % 65536)) ∧
      zGet (pdelayIntervalC p c).ctr (od 0x2212 p) = zGet c.ctr (od 0x2212 p) + (if (ptpGet c p).awaiting then 1 else 0) := by
  have hsw : (ptpPut p (requested c p) (missCounted c p)).sw = c.sw := missCounted_sw c p
  have hid : (ptpPut p (requested c p) (missCounted c p)).id = c.id := missCounted_id c p
  have hlink : linkUp (ptpPut p (requested c p) (missCounted c p)) p = true := by
    rw [linkUp, portGet_of_sw hsw, portCfg, hsw]
    exact hup
  obtain ⟨f, hqueue, hbody, hsrc⟩ := sendPtp_adds (stampNow c) pdelayMulticast (ptpMsg c p 2 (((ptpGet c p).reqSeq + 1) % 65536)) hlink
  have htime : (sendPtp p (stampNow c) pdelayMulticast (ptpMsg c p 2 (((ptpGet c p).reqSeq + 1) % 65536))
      (ptpPut p (requested c p) (missCounted c p))).time = (ptpPut p (requested c p) (missCounted c p)).time :=
    congrArg (fun y => y.2.1) (senderPart_sendPtp _ _ _ hlink)
  rw [pdelayIntervalC_eq hrun hup hon h1 h12]
  refine ⟨?_, ⟨f, ?_, hbody, ?_⟩, ?_⟩
  · rw [ptpGet_of_ports (selectPath_ports _), ptpGet_of_ports (congrArg TimeSt.ports htime), ptpGet_ptpPut]
  · rw [portGet_of_sw hsw] at hqueue
    rw [portGet_of_sw (selectPath_sw _)]
    exact hqueue
  · rw [hsrc, hostMac, hostMac, hid]
  · have hkey : od 0x2212 p ∉ raiseCounters 23 := by
      simp only [raiseCounters, od, List.mem_cons, List.not_mem_nil, or_false]
      omega
    have hq : od 0x2212 p ≠ od (0x9300 + p) (7 + 1) := by
      simp only [od]
      omega
    rw [zGet_selectPath hkey, sendPtp_eq]
    exact (zGet_enqueue_express _ (by decide) hlink hq).trans (zGet_missCounted c p)

end

/-- Settles O50: peer delay requests, responses and misses, and what a master sends. -/
theorem peerDelayAndMaster : Obligations.peer_delay_and_master := by
  unfold Obligations.peer_delay_and_master
  refine ⟨fun s ch p m rx hrun hup hon h1 h12 => does_onChan rfl fun t ht ho => ?_,
    fun s ch p m rx hon => does_nothing rfl (pdelayReqReceivedC_off (c := commitsEnded (chanOf s ch)) hon),
    fun s ch p m rx hrun hwait hseq hclock hport hty hone => does_onChan rfl fun t ht ho => ⟨?_, ho⟩,
    fun s ch p m rx hrun hwait hseq hclock hport hty htwo => does_onChan rfl fun t ht ho => ⟨?_, ho⟩,
    fun s ch p hrun hup hon h1 h12 => does_onChan rfl fun t ht ho => ⟨?_, ho⟩,
    fun s ch hmaster => does_onChan rfl fun t ht ho => ?_,
    fun s ch hmaster => does_onChan rfl fun t ht ho => ?_,
    fun s ch hmaster => ⟨does_nothing rfl (if_neg (Bool.not_eq_true _ ▸ hmaster)), does_nothing rfl (if_neg (Bool.not_eq_true _ ▸ hmaster))⟩⟩
  · exact ⟨by rw [PtpQueued, ht]; exact pdelayReqReceivedC_answers (c := commitsEnded (chanOf s ch)) hrun hup hon h1 h12, ho⟩
  · rw [ht, pdelayRespReceivedC_oneStep (c := commitsEnded (chanOf s ch)) hrun hwait hseq hclock hport hty hone, ptpGet_linkDelay]
    rfl
  · rw [ht, pdelayRespReceivedC_twoStep (c := commitsEnded (chanOf s ch)) hrun hwait hseq hclock hport hty htwo, ptpGet_ptpPut]
    rfl
  · unfold PtpQueued
    rw [ht]
    exact pdelayIntervalC_asks (c := commitsEnded (chanOf s ch)) hrun hup hon h1 h12
  · obtain ⟨hseq, hsent⟩ := syncIntervalC_sends (c := commitsEnded (chanOf s ch)) hmaster
    unfold PtpQueued
    rw [ht]
    exact ⟨hseq, hsent, ho⟩
  · obtain ⟨hseq, hsent⟩ := announceIntervalC_sends (c := commitsEnded (chanOf s ch)) hmaster
    unfold PtpQueued
    rw [ht]
    exact ⟨hseq, hsent, ho⟩

end Sys2Proof.Machine
end

section
/-! The edges of the pulse generators, and the recorder's triggers that they raise (13 R411 to R413; 18 R537). -/
namespace Sys2Proof.Machine
open Sys2Proof

/-- What a trigger of the recorder writes. -/
abbrev triggerParts : List Part := [.pleat, .dict, .ctr, .host, .journal, .diag, .emitted]

section
variable {A : List Part} {c d : Channel}

/-! ### What a trigger leaves of the channel -/

@[simp] theorem touches_putDef (n : Nat) (x : PDef) (hA : [.pleat] ⊆ A) : Touches A c (putDef n x d) ↔ Touches A c d :=
  Touches.iff (fun p hp => by cases p <;> simp [Part.same, putDef] at hp ⊢) hA c

@[simp] theorem touches_closeSegment (n last : Nat) (trunc : Bool) (next : DefState) (hA : triggerParts ⊆ A) :
    Touches A c (closeSegment n last trunc next d) ↔ Touches A c d := by
  refine Touches.iff (B := triggerParts) ?_ hA c
  unfold closeSegment
  split
  · simp
  · split
    · simp
    · simp only []
      split_ifs <;> simp

@[simp] theorem touches_closeIfDone (n : Nat) (hA : triggerParts ⊆ A) : Touches A c (closeIfDone n d) ↔ Touches A c d := by
  refine Touches.iff (B := triggerParts) ?_ hA c
  unfold closeIfDone
  split
  · simp
  · split
    · split_ifs <;> simp
    · simp

@[simp] theorem touches_openSegment (n src t : Nat) (x : PDef) (hA : triggerParts ⊆ A) :
    Touches A c (openSegment n src t x d) ↔ Touches A c d := by
  refine Touches.iff (B := triggerParts) ?_ hA c
  unfold openSegment
  simp only []
  split_ifs <;> simp

@[simp] theorem touches_triggerDef (n src t : Nat) (hA : triggerParts ⊆ A) : Touches A c (triggerDef n src t d) ↔ Touches A c d := by
  refine Touches.iff (B := triggerParts) ?_ hA c
  unfold triggerDef
  split
  · simp
  · split
    · simp
    · simp
    · simp
    · split
      · simp
      · simp only []
        split_ifs <;> simp

@[simp] theorem touches_pleatTrigger (src t : Nat) (hA : triggerParts ⊆ A) : Touches A c (pleatTrigger src t d) ↔ Touches A c d := by
  refine Touches.iff (B := triggerParts) (Touches.foldl (fun c x => ?_) _ d) hA c
  split_ifs <;> simp

end

/-! ### What a channel has put out stays put out -/

section
variable {e : Emission} {c : Channel}

theorem pendOn_keeps_emitted (src f : Nat) (h : e ∈ c.emitted) : e ∈ (pendOn src f c).emitted := by
  unfold pendOn
  simp only []
  split_ifs
  · exact List.mem_append_left _ h
  · exact h

theorem raise_keeps_emitted (src sl obj v : Nat) (h : e ∈ c.emitted) : e ∈ (raise src sl obj v c).emitted := by
  have hpend : e ∈ (pendOn src 65 (pendOn src 0 (journalAdd 5 src sl (BitVec.ofNat 8 sl :: 0 :: (leBytes 2 obj ++ leBytes 4 v))
      (bump 0x3101 (src + 1) c)))).emitted :=
    pendOn_keeps_emitted _ _ (pendOn_keeps_emitted _ _ (by simpa using h))
  unfold raise raiseNow
  simp only []
  split_ifs
  · exact pendOn_keeps_emitted _ _ hpend
  · exact hpend

theorem raiseLimited_keeps_emitted (src sl obj v key : Nat) (h : e ∈ c.emitted) : e ∈ (raiseLimited src sl obj v key c).emitted := by
  unfold raiseLimited
  simp only []
  split
  · exact raise_keeps_emitted _ _ _ _ h
  · exact h

/-- The events of a segment that closes. -/
theorem segmentEvents_keep_emitted (event damaged : Bool) (sl n : Nat) (h : e ∈ c.emitted) :
    e ∈ (if damaged then raiseLimited 52 sl n 0 n (bump 0x2D00 8 (if event then raise 49 sl n 0 c else c))
      else if event then raise 49 sl n 0 c else c).emitted := by
  have hevent : e ∈ (if event then raise 49 sl n 0 c else c).emitted := by
    split
    · exact raise_keeps_emitted _ _ _ _ h
    · exact h
  split
  · exact raiseLimited_keeps_emitted (c := bump 0x2D00 8 (if event then raise 49 sl n 0 c else c)) _ _ _ _ _ hevent
  · exact hevent

theorem closeSegment_keeps_emitted (n last : Nat) (trunc : Bool) (next : DefState) (h : e ∈ c.emitted) :
    e ∈ (closeSegment n last trunc next c).emitted := by
  unfold closeSegment
  split
  · exact h
  · split
    · exact h
    · refine segmentEvents_keep_emitted _ _ _ _ ?_
      simpa [putDef] using h

theorem closeIfDone_keeps_emitted (n : Nat) (h : e ∈ c.emitted) : e ∈ (closeIfDone n c).emitted := by
  unfold closeIfDone
  split
  · exact h
  · split
    · split_ifs
      · exact closeSegment_keeps_emitted _ _ _ _ h
      · exact h
    · exact h

theorem triggerDef_keeps_emitted (n src t : Nat) (h : e ∈ c.emitted) : e ∈ (triggerDef n src t c).emitted := by
  unfold triggerDef openSegment
  split
  · exact h
  · split
    · exact h
    · simp only []
      split_ifs
      · exact raiseLimited_keeps_emitted _ _ _ _ _ h
      · exact closeIfDone_keeps_emitted _ h
    · exact h
    · split
      · exact h
      · simp only []
        split_ifs <;> exact h

theorem pleatTrigger_keeps_emitted (src t : Nat) (h : e ∈ c.emitted) : e ∈ (pleatTrigger src t c).emitted := by
  unfold pleatTrigger
  generalize c.pleat.defs = l
  induction l generalizing c with
  | nil => exact h
  | cons x r ih =>
    refine ih ?_
    dsimp only
    split_ifs
    · exact triggerDef_keeps_emitted _ _ _ h
    · exact h

end

/-! ### The counters of the generators -/

section
variable {g sub : Nat} {c : Channel}

/-- A counter of a generator that no trigger counts into. -/
def edgeCounter (k : Nat) : Prop := k % 256 = 11 ∧ k / 256 < 0x2224

theorem edgeCounter_of (hg : g < 4) : edgeCounter (od (0x2220 + g) 0x0B) := by
  unfold edgeCounter od
  omega

variable {k : Nat} (hk : edgeCounter k)
include hk

theorem edgeCounter_ne_od {i sub : Nat} (hsub : sub < 11) : k ≠ od i sub := by
  obtain ⟨hmod, -⟩ := hk
  unfold od
  omega

theorem edgeCounter_not_raised (src : Nat) : k ∉ raiseCounters src := by
  obtain ⟨-, hdiv⟩ := hk
  simp only [raiseCounters, od, List.mem_cons, List.not_mem_nil, or_false]
  omega

theorem zGet_closeSegment_edge (n last : Nat) (trunc : Bool) (next : DefState) (c : Channel) :
    zGet (closeSegment n last trunc next c).ctr k = zGet c.ctr k := by
  unfold closeSegment
  split
  · rfl
  · split
    · rfl
    · simp only []
      split_ifs <;> simp [raise, zGet_raiseLimited_other, zGet_raiseNow_other, zGet_bump_other, edgeCounter_not_raised hk,
        edgeCounter_ne_od hk]

theorem zGet_closeIfDone_edge (n : Nat) (c : Channel) : zGet (closeIfDone n c).ctr k = zGet c.ctr k := by
  unfold closeIfDone
  split
  · rfl
  · split
    · split_ifs
      · exact zGet_closeSegment_edge hk _ _ _ _ _
      · rfl
    · rfl

theorem zGet_triggerDef_edge (n src t : Nat) (c : Channel) : zGet (triggerDef n src t c).ctr k = zGet c.ctr k := by
  unfold triggerDef openSegment
  split
  · rfl
  · split
    · rfl
    · simp only []
      split_ifs
      · simp [zGet_raiseLimited_other, zGet_bump_other, edgeCounter_not_raised hk, edgeCounter_ne_od hk]
      · exact zGet_closeIfDone_edge hk _ _
    · rfl
    · split
      · rfl
      · simp only []
        split_ifs
        · rfl
        · simp [zGet_bump_other, edgeCounter_ne_od hk]

theorem zGet_pleatTrigger_edge (src t : Nat) (c : Channel) : zGet (pleatTrigger src t c).ctr k = zGet c.ctr k := by
  refine foldl_keeps (g := fun c => zGet c.ctr k) (fun c x => ?_) _ c
  split_ifs
  · exact zGet_triggerDef_edge hk _ _ _ _
  · rfl

end

/-! ### Active edges (13 R411, R413) -/

section
variable {g : Nat} {c : Channel}

@[simp] theorem pgGet_pgPut (g : Nat) (x : PulseGen) (c : Channel) : pgGet (pgPut g x c) g = x := by
  simp [pgGet, pgPut, kGet_kPut_same]

theorem pgGet_of_gens {d : Channel} (h : d.gens = c.gens) (g : Nat) : pgGet d g = pgGet c g := by
  rw [pgGet, pgGet, h]

/-- The instant of a generator's next active edge. -/
def pgEdgeAt (x : PulseGen) : Nat := x.set.start + x.nextK * x.set.period

/-- A generator with its active edge issued. -/
def pulseBegun (x : PulseGen) : PulseGen :=
  { x with nextK := x.nextK + 1, inPulse := true, pulseEnd := pgEdgeAt x + x.set.width, status := 2, level := !x.set.low }

/-- The channel with a generator's active edge counted, before what the edge drives. -/
def edgeCounted (g : Nat) (c : Channel) : Channel :=
  bump (0x2220 + g) 0x0B (pgPut g (pulseBegun (pgGet c g)) (advanceTo (pgEdgeAt (pgGet c g)) c))

/-- What an active edge drives: its output, a trigger, an event. -/
def edgeDriven (g : Nat) (x : PulseGen) (c1 : Channel) : Channel :=
  let c2 := if x.set.output = 0 then c1 else emit (.pulse x.set.output (!x.set.low)) c1
  let c3 := if x.set.source = 0xFFFF then c2 else pleatTrigger x.set.source (pgEdgeAt x) c2
  if x.set.event then raiseLimited 27 0xFF g 0 g c3 else c3

theorem pgGate_advanceTo (t gate : Nat) (c : Channel) : pgGate (advanceTo t c) gate = pgGate c gate := by
  obtain ⟨u, r, h⟩ := advanceTo_time t c
  rw [pgGate, pgGate, h]

theorem pulseActive (harm : (pgGet c g).armed = true) (hin : (pgGet c g).inPulse = false) (hdone : pgDone (pgGet c g) = false) :
    ((pgGet c g).armed && !(pgGet c g).inPulse && !pgDone (pgGet c g)) = true := by simp [harm, hin, hdone]

theorem pulseActiveEdgeC_issued (harm : (pgGet c g).armed = true) (hin : (pgGet c g).inPulse = false)
    (hdone : pgDone (pgGet c g) = false) (hgate : pgGate c (pgGet c g).set.gate = true) :
    pulseActiveEdgeC g c = edgeDriven g (pgGet c g) (edgeCounted g c) := by
  have hopen : ¬ (!pgGate (advanceTo (pgEdgeAt (pgGet c g)) c) (pgGet c g).set.gate) = true := by simp [pgGate_advanceTo, hgate]
  unfold pulseActiveEdgeC
  simp only []
  rw [if_pos (pulseActive harm hin hdone)]
  exact if_neg hopen

theorem edgeDriven_gens (x : PulseGen) (d : Channel) : (edgeDriven g x d).gens = d.gens := by
  have h : Touches triggerParts d (edgeDriven g x d) := by simp [edgeDriven]
  exact h .gens (by decide)

theorem edgeDriven_emits {x : PulseGen} (d : Channel) (hout : x.set.output ≠ 0) :
    Emission.pulse x.set.output (!x.set.low) ∈ (edgeDriven g x d).emitted := by
  have h : Emission.pulse x.set.output (!x.set.low) ∈ (emit (.pulse x.set.output (!x.set.low)) d).emitted :=
    List.mem_append_right _ (List.mem_singleton_self _)
  unfold edgeDriven
  simp only []
  rw [if_neg hout]
  split_ifs
  · exact raiseLimited_keeps_emitted _ _ _ _ _ h
  · exact raiseLimited_keeps_emitted _ _ _ _ _ (pleatTrigger_keeps_emitted _ _ h)
  · exact h
  · exact pleatTrigger_keeps_emitted _ _ h

theorem zGet_edgeDriven {k : Nat} (hk : edgeCounter k) (x : PulseGen) (d : Channel) : zGet (edgeDriven g x d).ctr k = zGet d.ctr k := by
  have hraise := edgeCounter_not_raised hk 27
  unfold edgeDriven
  simp only []
  split_ifs <;> simp [zGet_raiseLimited_other, hraise, zGet_pleatTrigger_edge hk, emit]

theorem zGet_edgeCounted (c : Channel) : zGet (edgeCounted g c).ctr (od (0x2220 + g) 0x0B) = zGet c.ctr (od (0x2220 + g) 0x0B) + 1 :=
  (zGet_bump_same _ _ _).trans (congrArg (fun m => zGet m _ + 1) (advanceTo_ctr _ c))

/-- An edge whose gate is false is passed over. -/
theorem pulseActiveEdgeC_skipped (harm : (pgGet c g).armed = true) (hin : (pgGet c g).inPulse = false)
    (hdone : pgDone (pgGet c g) = false) (hgate : pgGate c (pgGet c g).set.gate = false) :
    ∃ x, pulseActiveEdgeC g c = bump (0x2220 + g) 0x0C (pgPut g x (advanceTo (pgEdgeAt (pgGet c g)) c)) ∧
      x.nextK = (pgGet c g).nextK + 1 ∧ x.inPulse = (pgGet c g).inPulse ∧ x.level = (pgGet c g).level := by
  have hshut : (!pgGate (advanceTo (pgEdgeAt (pgGet c g)) c) (pgGet c g).set.gate) = true := by simp [pgGate_advanceTo, hgate]
  unfold pulseActiveEdgeC
  simp only []
  rw [if_pos (pulseActive harm hin hdone)]
  refine ⟨_, if_pos hshut, ?_⟩
  split <;> exact ⟨rfl, rfl, rfl⟩

/-! ### Inactive edges (13 R411, R412) -/

/-- The end of a pulse as it is put out. -/
def pulseEnded (x : PulseGen) (c0 : Channel) : Channel :=
  if x.set.output = 0 then advanceTo x.pulseEnd c0 else emit (.pulse x.set.output x.set.low) (advanceTo x.pulseEnd c0)

theorem pulseEnded_emits {x : PulseGen} (hout : x.set.output ≠ 0) : Emission.pulse x.set.output x.set.low ∈ (pulseEnded x c).emitted := by
  rw [pulseEnded, if_neg hout]
  exact List.mem_append_right _ (List.mem_singleton_self _)

/-- A generator after its pulse, where nothing waited but a disarm (13 R412). -/
def pulseAfter (x : PulseGen) : PulseGen :=
  let y := { x with inPulse := false, level := x.set.low }
  if x.disarmAfter then { y with armed := false, status := 0, disarmAfter := false } else if pgDone x then { y with armed := false, status := 3 } else y

theorem pulseInactiveEdgeC_plain (hin : (pgGet c g).inPulse = true) (hre : (pgGet c g).reload = none) :
    pulseInactiveEdgeC g c = pgPut g (pulseAfter (pgGet c g)) (pulseEnded (pgGet c g) c) := by
  unfold pulseInactiveEdgeC pulseAfter pulseEnded
  simp only []
  rw [if_pos hin]
  simp only [hre]
  have hdone : ∀ b l, pgDone { pgGet c g with inPulse := b, level := l, reload := none } = pgDone (pgGet c g) := fun _ _ => rfl
  simp only [hdone]
  split_ifs <;> rfl

theorem pulseAfter_eq (x : PulseGen) : (pulseAfter x).inPulse = false ∧ (pulseAfter x).level = x.set.low ∧
    (x.disarmAfter = true → (pulseAfter x).armed = false ∧ (pulseAfter x).status = 0) ∧
    (x.disarmAfter = false → pgDone x = true → (pulseAfter x).armed = false ∧ (pulseAfter x).status = 3) ∧
    (x.disarmAfter = false → pgDone x = false → (pulseAfter x).armed = x.armed) := by
  unfold pulseAfter
  simp only []
  split_ifs <;> simp_all

theorem pgLoad_eq (s : PgSet) (c : Channel) : ∃ x, pgLoad g s c = pgPut g x c ∧ x.inPulse = false ∧ x.set = s ∧ x.reload = none := by
  unfold pgLoad
  simp only []
  split_ifs <;> exact ⟨_, rfl, rfl, rfl, rfl⟩

theorem pulseInactiveEdgeC_reload {s : PgSet} (hin : (pgGet c g).inPulse = true) (hre : (pgGet c g).reload = some s) :
    (pgGet (pulseInactiveEdgeC g c) g).inPulse = false ∧ (pgGet (pulseInactiveEdgeC g c) g).set = s ∧
      (pgGet (pulseInactiveEdgeC g c) g).reload = none := by
  obtain ⟨d, hd⟩ : ∃ d, pulseInactiveEdgeC g c = pgLoad g s d := by
    unfold pulseInactiveEdgeC
    simp only []
    rw [if_pos hin]
    simp only [hre]
    exact ⟨_, rfl⟩
  obtain ⟨x, hx, hpulse, hset, hnone⟩ := pgLoad_eq (g := g) s d
  rw [hd, hx, pgGet_pgPut]
  exact ⟨hpulse, hset, hnone⟩

theorem pulseInactiveEdgeC_idle (hin : (pgGet c g).inPulse = false) : pulseInactiveEdgeC g c = c := if_neg (by simp [hin])

end

/-- Settles O51: an active edge that is issued or skipped, and an inactive edge with what waited for it. -/
theorem pulseEdges : Obligations.pulse_edges := by
  unfold Obligations.pulse_edges
  refine ⟨fun s ch g hg harm hin hdone hgate => does_onChan rfl fun t ht ho => ?_,
    fun s ch g hg harm hin hdone hgate => does_onChan rfl fun t ht ho => ?_,
    fun s ch g hin hre => does_onChan rfl fun t ht ho => ?_,
    fun s ch g r hin hre => does_onChan rfl fun t ht ho => ?_,
    fun s ch g hin => does_nothing rfl (pulseInactiveEdgeC_idle (c := commitsEnded (chanOf s ch)) hin)⟩ <;> rw [ht]
  · rw [pulseActiveEdgeC_issued (c := commitsEnded (chanOf s ch)) harm hin hdone hgate]
    refine ⟨⟨?_, fun hout => edgeDriven_emits _ hout⟩, ?_, ho⟩
    · rw [pgGet_of_gens (edgeDriven_gens _ _)]
      exact pgGet_pgPut g _ _
    · exact (zGet_edgeDriven (edgeCounter_of hg) _ _).trans (zGet_edgeCounted _)
  · obtain ⟨x, heq, hnext, hpulse, hlevel⟩ := pulseActiveEdgeC_skipped (c := commitsEnded (chanOf s ch)) harm hin hdone hgate
    have hx : pgGet (bump (0x2220 + g) 0x0C (pgPut g x (advanceTo (pgEdgeAt (pgGet (commitsEnded (chanOf s ch)) g)) (commitsEnded (chanOf s ch))))) g = x :=
      pgGet_pgPut g x _
    rw [heq, hx]
    exact ⟨hnext, hpulse.trans hin, hlevel, (zGet_bump_same _ _ _).trans (congrArg (fun m => zGet m _ + 1) (advanceTo_ctr _ _)), ho⟩
  · obtain ⟨h1, h2, h3, h4, h5⟩ := pulseAfter_eq (pgGet (commitsEnded (chanOf s ch)) g)
    rw [pulseInactiveEdgeC_plain (c := commitsEnded (chanOf s ch)) hin hre, pgGet_pgPut]
    exact ⟨⟨h1, h2, h3, h4, h5, fun hout => pulseEnded_emits (c := commitsEnded (chanOf s ch)) hout⟩, ho⟩
  · obtain ⟨h1, h2, h3⟩ := pulseInactiveEdgeC_reload (c := commitsEnded (chanOf s ch)) hin hre
    exact ⟨h1, h2, h3, ho⟩

end Sys2Proof.Machine
end

section
/-! Access to the dictionary through a path: its gate, the value it returns, its sessions (21 R616, R624, R625). -/
namespace Sys2Proof.Machine
open Sys2Proof

section
variable {c : Channel} {p : Path} {index sub : Nat} {r : OdRow}

/-- An access that finds its entry's row. -/
theorem entryGate_open (k : OdRow → Channel → Channel) (hlive : pathLive p c = true) (hsleeve : noSleeve p c = false)
    (hindex : indexExists c index = true) (hrow : rowOf c index sub = some r) (hreach : reaches p index = true) :
    entryGate p index sub k c = k r c := by
  simp [entryGate, hlive, hsleeve, hindex, hrow, hreach]

@[simp] theorem noSleeve_svc (ch : Chan) (n : Nat) (c : Channel) : noSleeve (.svc ch n) c = false := rfl

/-- A response that an operation gives through a path, put out last. -/
@[simp] theorem answer_emitted (p : Path) (st : Nat) (l : List Byte) (c : Channel) :
    (answer p st l c).emitted = c.emitted ++ [.completion (pathFn p) st l] := rfl

@[simp] theorem refuse_emitted (code index sub : Nat) (p : Path) (c : Channel) :
    (refuse code index sub p c).emitted = c.emitted ++ [.completion (pathFn p) code []] := rfl

/-- The part of a value that a READ returns (21 R624). -/
def partOf (p : Path) (off most : Nat) (v : List Byte) : List Byte := slice v off (min most (dataMost p))

theorem returnPart_emitted (off most ty : Nat) (v : List Byte) (c : Channel) : (returnPart p index sub ty off most v c).emitted =
    c.emitted ++ [.completion (pathFn p) 0 (readHead index sub ty v.length off (partOf p off most v).length ++ partOf p off most v)] := by
  unfold returnPart
  simp only []
  split
  · split_ifs <;> rfl
  · rfl

/-- A plain entry that may be read: its value is returned. -/
theorem readC_plain (br : Bridge) {off most : Nat} {v : List Byte} (hlive : pathLive p c = true) (hsleeve : noSleeve p c = false)
    (hindex : indexExists c index = true) (hrow : rowOf c index sub = some r) (hreach : reaches p index = true) (hacc : r.access ≠ 3)
    (hty : r.ty ≠ 0x0F) (harm : ¬(index = 0x3100 ∧ sub = 0x10)) (hexport : ¬(index = 0x2D00 ∧ sub = 0x15)) (hv : valueOf br c r index sub = some v) :
    readC br p index sub off most c = returnPart p index sub r.ty off most v (if freeEntry index sub then (draw c).2 else c) := by
  rw [readC, entryGate_open _ hlive hsleeve hindex hrow hreach]
  rw [if_neg hacc, if_neg harm, if_neg hexport, if_neg hty, hv]

theorem drawn_emitted (b : Bool) (c : Channel) : (if b then (draw c).2 else c).emitted = c.emitted := by
  split <;> rfl

theorem rebody_dict (f : List Byte → List Byte) (before after : Channel) : (rebody p f before after).dict = after.dict := by
  unfold rebody
  split <;> rfl

/-! ### Sessions (21 R625) -/

theorem sessionOf_dropSession (p : Path) (key : Nat) (c : Channel) : sessionOf p key (dropSession p key c) = none := by
  unfold sessionOf dropSession
  rw [List.find?_eq_none]
  intro x hx
  obtain ⟨-, hne⟩ := List.mem_filter.1 hx
  simpa [imp_iff_not_or] using hne

theorem sessionOf_of_dict {d : Channel} (h : d.dict = c.dict) (key : Nat) : sessionOf p key d = sessionOf p key c := by
  rw [sessionOf, sessionOf, h]

theorem sessionOf_putSession (x : WSession) (c : Channel) : sessionOf x.path x.key (putSession x c) = some x := by
  have h := sessionOf_dropSession x.path x.key c
  unfold sessionOf at h ⊢
  unfold putSession
  simp only []
  rw [List.find?_append, h]
  simp

theorem refuse_sessions (code i j : Nat) (q : Path) (c : Channel) : (refuse code i j q c).dict.sessions = c.dict.sessions := by
  simp [refuse, answer, setRo]

theorem sessionOf_refuse (key code i j : Nat) (q : Path) (c : Channel) : sessionOf p key (refuse code i j q c) = sessionOf p key c := by
  rw [sessionOf, refuse_sessions, sessionOf]

theorem sessionOf_answer (key : Nat) (q : Path) (st : Nat) (l : List Byte) (c : Channel) : sessionOf p key (answer q st l c) = sessionOf p key c := rfl

/-- A first segment of a DOMAIN that no other path writes, and that does not end the session. -/
theorem writeSegment_opens (lead : Bool) {total : Nat} {data : List Byte} (twin : Channel) (himage : isImageKey index sub = false)
    (hfree : c.dict.sessions.any (fun x => x.key == od index sub && x.path != p && !x.timedOut) = false) (htotal : total ≤ r.maxLen)
    (hlen : data.length ≤ total) :
    writeSegment p lead true false r index sub 0 total data twin c = answer p 0 [] (putSession ⟨od index sub, p, total, data, false⟩ c) := by
  unfold writeSegment takeSegment
  simp [himage, hfree, Nat.not_lt.2 htotal, Nat.not_lt.2 hlen]

/-- The row of a DOMAIN that may be written. -/
theorem writeC_domain (lead first last : Bool) {off total : Nat} {data : List Byte} (twin : Channel) (hlive : pathLive p c = true)
    (hsleeve : noSleeve p c = false) (hindex : indexExists c index = true) (hrow : rowOf c index sub = some r) (hreach : reaches p index = true)
    (h1 : r.access ≠ 1) (h4 : r.access ≠ 4) (hty : r.ty = 0x0F) (himage : isImageKey index sub = false)
    (hmask : r.mask.testBit (modeCode c.boot.mode - 1) = true) (hfits : data.length ≤ dataMost p) :
    (writeC p lead index sub first last off total data twin c).dict =
      (writeSegment p lead first last r index sub off total data twin c).dict := by
  have hfirm : firmwareAbort p index sub twin = none := by
    unfold firmwareAbort
    rw [if_neg]
    rintro ⟨rfl, rfl⟩
    simp [isImageKey] at himage
  rw [writeC, entryGate_open _ hlive hsleeve hindex hrow hreach]
  rw [if_neg (by simp [h1, h4]), if_neg (by simp [hmask]), if_neg (Nat.not_lt.2 hfits), hfirm]
  simp only []
  rw [rebody_dict, if_pos hty]

end

end Sys2Proof.Machine
end

section
/-! The service ports: transfers and the heartbeat (17 R527; 21 R627, R628). -/
namespace Sys2Proof.Machine
open Sys2Proof

section
variable {c : Channel} {n index sub : Nat} {r : OdRow}

theorem usdoUploadC_first (br : Bridge) (most : Nat) {v : List Byte} (h : SvcReady c n index sub r) (hacc : r.access ≠ 3) (hty : r.ty ≠ 0x0F)
    (harm : ¬(index = 0x3100 ∧ sub = 0x10)) (hexport : ¬(index = 0x2D00 ∧ sub = 0x15)) (hv : valueOf br c r index sub = some v) :
    (usdoUploadC br n index sub 0 most c).emitted = c.emitted ++ [.completion 66 0
      (readHead index sub r.ty v.length 0 (slice v 0 (min most 2147483648)).length ++ slice v 0 (min most 2147483648))] := by
  obtain ⟨hup, htrans, hlive, hindex, hrow, hreach⟩ := h
  unfold usdoUploadC
  simp only []
  rw [if_neg (by simp [hup]), if_neg (by simp [htrans]), if_neg (by simp),
    readC_plain br hlive (noSleeve_svc c.id n c) hindex hrow hreach hacc hty harm hexport hv, returnPart_emitted, drawn_emitted]
  rfl

theorem usdoDownloadC_opens (lead : Bool) {total : Nat} {data : List Byte} (twin : Channel) (h : SvcReady c n index sub r) (h1 : r.access ≠ 1)
    (h4 : r.access ≠ 4) (hty : r.ty = 0x0F) (himage : isImageKey index sub = false) (hmask : r.mask.testBit (modeCode c.boot.mode - 1) = true)
    (hfree : c.dict.sessions.any (fun x => x.key == od index sub && x.path != .svc c.id n && !x.timedOut) = false) (htotal : total ≤ r.maxLen)
    (hlen : data.length ≤ total) (hfits : data.length ≤ 2147483648) :
    sessionOf (.svc c.id n) (od index sub) (usdoDownloadC n lead index sub true false total data twin c) =
      some ⟨od index sub, .svc c.id n, total, data, false⟩ := by
  obtain ⟨hup, htrans, hlive, hindex, hrow, hreach⟩ := h
  unfold usdoDownloadC
  simp only [if_true]
  rw [if_neg (by simp [hup]), if_neg (by simp [htrans]), sessionOf_of_dict
    (writeC_domain lead true false twin hlive (noSleeve_svc c.id n c) hindex hrow hreach h1 h4 hty himage hmask hfits),
    writeSegment_opens lead twin himage hfree htotal hlen, sessionOf_answer]
  exact sessionOf_putSession ⟨od index sub, .svc c.id n, total, data, false⟩ c

theorem usdoDownloadC_down (lead first last : Bool) (total : Nat) (data : List Byte) (twin : Channel) (h : serviceUp c n = false) :
    usdoDownloadC n lead index sub first last total data twin c = c := if_pos (by simp [h])

theorem putImageSlot_emitted (fw : Bool) (x : Slot) (c : Channel) : (putImageSlot fw x c).emitted = c.emitted := by
  unfold putImageSlot setSlot
  split_ifs <;> rfl

theorem imageBroken_emitted (fw : Bool) (c : Channel) : (imageBroken fw c).emitted = c.emitted := by
  unfold imageBroken imageStatus
  simp only []
  split_ifs <;> simp [putImageSlot_emitted]

theorem imageBroken_dict (fw : Bool) (c : Channel) : (imageBroken fw c).dict = c.dict := by
  unfold imageBroken imageStatus putImageSlot setSlot
  simp only []
  split_ifs <;> simp

/-- A session of a service port ends: it is dropped, and nothing is put out. -/
theorem endSession_svc (ch : Chan) (hses : sessionOf (.svc ch n) (od index sub) c ≠ none) :
    sessionOf (.svc ch n) (od index sub) (endSession (.svc ch n) index sub c) = none ∧
      (endSession (.svc ch n) index sub c).emitted = c.emitted := by
  have hdrop := sessionOf_dropSession (.svc ch n) (od index sub) c
  unfold endSession
  split
  · exact absurd ‹_› hses
  · simp only [pathBoth, Bool.false_eq_true, if_false]
    split
    · exact ⟨(sessionOf_of_dict (imageBroken_dict _ _) _).trans hdrop, imageBroken_emitted _ _⟩
    · exact ⟨hdrop, rfl⟩

theorem od_div_mod (k : Nat) : od (k / 256) (k % 256) = k := by
  unfold od
  omega

theorem usdoTimeoutC_ends {x : WSession} (h : c.dict.sessions.find? (fun x => x.path == .svc c.id n && !x.timedOut) = some x) :
    sessionOf (.svc c.id n) x.key (usdoTimeoutC n c) = none ∧ (usdoTimeoutC n c).emitted = c.emitted ++ [.completion 66 0x010B []] := by
  have hx : (x.path == .svc c.id n) = true := by
    have := List.find?_some h
    simp_all
  have hses : sessionOf (.svc c.id n) (od (x.key / 256) (x.key % 256)) c ≠ none := by
    rw [od_div_mod, sessionOf, Ne, List.find?_eq_none]
    intro hall
    exact hall x (List.mem_of_find?_eq_some h) (by simp [hx])
  obtain ⟨hnone, hemit⟩ := endSession_svc c.id hses
  rw [od_div_mod] at hnone
  have heq : usdoTimeoutC n c = refuse 0x010B (x.key / 256) (x.key % 256) (.svc c.id n) (endSession (.svc c.id n) (x.key / 256) (x.key % 256) c) := by
    unfold usdoTimeoutC
    simp only [h]
  rw [heq, sessionOf_refuse, refuse_emitted, hemit]
  exact ⟨hnone, rfl⟩

theorem heartbeatC_sends {p : CanPort} (hp : kGet c.can n = some p) (hup : serviceUp c n = true) (hper : entryNat c 0x1017 0 1000 ≠ 0) :
    (heartbeatC n c).emitted = c.emitted ++ [.can n ⟨0x700 + nodeOf c p.cfg, false, true, p.cfg.data != 0, false, false, [5]⟩] := by
  simp [heartbeatC, hp, hup, hper, emit]

theorem heartbeatC_off (hper : entryNat c 0x1017 0 1000 = 0) : heartbeatC n c = c := by
  unfold heartbeatC
  split
  · rfl
  · exact if_neg (by simp [hper])

end

/-- Settles O54: an upload, a download, a timeout and the heartbeat of a service port. -/
theorem servicePortTransfers : Obligations.service_port_transfers := by
  unfold Obligations.service_port_transfers
  refine ⟨fun s ch n index sub most r v h hacc hty harm hexport _ hv => does_onChan rfl fun t ht ho => ?_,
    fun s ch n index sub total data r h h1 h4 hty himage hmask hfree htotal hlen hfits =>
      does_onChan (f := usdoDownloadC n (ch == leadChan s) index sub true false total data (chanOf s ch.twin)) rfl fun t ht _ => ?_,
    fun s ch n index sub first last total data h =>
      does_nothing (f := usdoDownloadC n (ch == leadChan s) index sub first last total data (chanOf s ch.twin)) rfl
        (usdoDownloadC_down (c := commitsEnded (chanOf s ch)) _ _ _ _ _ _ h),
    fun s ch n x h => does_onChan rfl fun t ht ho => ?_,
    fun s ch n p hp hup hper => does_onChan rfl fun t ht ho => ?_,
    fun s ch n hper => does_nothing rfl (heartbeatC_off (c := commitsEnded (chanOf s ch)) hper)⟩ <;> rw [ht]
  · exact ⟨usdoUploadC_first (c := commitsEnded (chanOf s ch)) s.bridge most h hacc hty harm hexport hv, ho⟩
  · exact usdoDownloadC_opens (c := commitsEnded (chanOf s ch)) _ _ h h1 h4 hty himage hmask hfree htotal hlen hfits
  · obtain ⟨hnone, hemit⟩ := usdoTimeoutC_ends (c := commitsEnded (chanOf s ch)) h
    exact ⟨hnone, hemit, ho⟩
  · exact ⟨heartbeatC_sends (c := commitsEnded (chanOf s ch)) hp hup hper, ho⟩

end Sys2Proof.Machine
end

section
/-! What a restart through BOOT leaves of a channel, and the faults that restart it (01 R24, R33; 02 R52; 12 R379). -/
namespace Sys2Proof.Machine
open Sys2Proof

/-- What a Ledger batch writes. -/
abbrev batchParts : List Part := [.epUJ, .ledgerNv, .ledger, .journal, .ctr, .host, .diag, .emitted]

section
variable {A : List Part} {c d : Channel}

@[simp] theorem touches_journalDrain (l : List JRec) (hA : [.journal, .ctr] ⊆ A) : Touches A c (journalDrain l d) ↔ Touches A c d :=
  Touches.iff (fun p hp => by cases p <;> simp [Part.same] at hp ⊢) hA c

@[simp] theorem touches_commitCheck (kind sl ec : Nat) (hA : [.epUJ, .ledger, .journal, .ctr, .host, .diag, .emitted] ⊆ A) :
    Touches A c (commitCheck kind sl ec d).2 ↔ Touches A c d := by
  refine Touches.iff (B := [.epUJ, .ledger, .journal, .ctr, .host, .diag, .emitted]) ?_ hA c
  cases h : holdupOk d.psu d.epUJ ec with
  | true =>
    rw [commitCheck_passed h]
    simp
  | false =>
    obtain ⟨l, hl⟩ := commitCheck_refused (kind := kind) (sl := sl) h
    rw [hl]
    simp

theorem writeEpisode_touches (e : QEpisode) (x : (Nat × BitVec 4) × Channel) : Touches batchParts x.2 (writeEpisode x e).2 := by
  unfold writeEpisode
  simp only []
  split
  · split
    · split
      · split <;> simp
      · simp
    · split <;> simp
  · split <;> simp

theorem writeEpisodes_touches (l : List QEpisode) (x : (Nat × BitVec 4) × Channel) : Touches batchParts x.2 (l.foldl writeEpisode x).2 := by
  induction l generalizing x with
  | nil => exact touches_refl _ _
  | cons e r ih => exact (writeEpisode_touches e x).trans (ih _)

@[simp] theorem touches_batchWrite (hA : batchParts ⊆ A) : Touches A c (batchWrite d) ↔ Touches A c d := by
  refine Touches.iff (B := batchParts) ?_ hA c
  have h := writeEpisodes_touches d.ledger.queue ((((headerInForce d.ledgerNv).getD headerBlank).used, ((headerInForce d.ledgerNv).getD headerBlank).resv), d)
  refine h.trans ?_
  simp [batchWrite]

@[simp] theorem touches_batchTry (hA : batchParts ⊆ A) : Touches A c (batchTry d) ↔ Touches A c d := by
  refine Touches.iff (B := batchParts) ?_ hA c
  have h : Touches batchParts d (commitCheck 2 0xFF energyBatch d).2 := by simp
  rw [batchTry_eq]
  split_ifs
  · simp
  · exact h.trans (by simp)

end

/-! ### A restart -/

section
variable (r c : Channel) (cause code : Nat)

/-- The boot part that a restart leaves (02 R52, R58). -/
def restartedBoot (r c : Channel) (cause : Nat) : BootSt :=
  { r.boot with powered := c.boot.powered, phase := if c.psu.linState = .charged then 1 else 16, slotId := c.boot.slotId, rolePrefN := c.boot.rolePrefN,
                cause := cause, mode := .boot }

/-- The channel that enters BOOT again. -/
def resumed (r c : Channel) (cause : Nat) : Channel :=
  { ledgerResume (restartKeep (injEndAll c) r) with boot := { (ledgerResume (restartKeep (injEndAll c) r)).boot with cause := cause } }

theorem restartFrom_eq : restartFrom r cause c = enterMode .boot (resumed r c cause) ∨
    restartFrom r cause c = enterMode .boot (bootstatChange (resumed r c cause)) := by
  unfold restartFrom
  simp only []
  split
  · exact .inr rfl
  · exact .inl rfl

theorem restartFrom_boot : (restartFrom r cause c).boot = restartedBoot r c cause := by
  rcases restartFrom_eq r c cause with h | h <;> rw [h, enterMode_boot] <;>
    simp [resumed, bootstatChange, emit, ledgerResume, restartKeep, restartedBoot]

theorem restartFrom_seam : (restartFrom r cause c).seam =
    { r.seam with twinHold := c.seam.twinHold, presence := min c.seam.presence 1, out := c.seam.out } := by
  rcases restartFrom_eq r c cause with h | h <;> rw [h, enterMode_seam] <;>
    simp [resumed, bootstatChange, emit, ledgerResume, restartKeep]

theorem restartFrom_pub : (restartFrom r cause c).pub = r.pub := by
  rcases restartFrom_eq r c cause with h | h <;> rw [h, enterMode_pub] <;>
    simp [resumed, bootstatChange, emit, ledgerResume, restartKeep]

theorem restartFrom_keysNv : (restartFrom r cause c).keysNv = c.keysNv := by
  rcases restartFrom_eq r c cause with h | h <;> rw [h, enterMode_keysNv] <;>
    simp [resumed, bootstatChange, emit, ledgerResume, restartKeep]

theorem restartFrom_graphs : (restartFrom r cause c).graphs = r.graphs := by
  rcases restartFrom_eq r c cause with h | h <;> rw [h, enterMode_graphs] <;>
    simp [resumed, bootstatChange, emit, ledgerResume, restartKeep]

/-- What `restartBoot` restarts: control given up, a batch that was asked for made. -/
def closedDown : Channel :=
  if ledgerRuns (relinquish code c) && !(relinquish code c).ledger.queue.isEmpty then batchTry (relinquish code c) else relinquish code c

theorem restartBoot_eq : restartBoot cause code c = restartFrom (channelReset c.id) cause (closedDown c code) := rfl

theorem closedDown_touches : Touches batchParts (relinquish code c) (closedDown c code) := by
  unfold closedDown
  split <;> simp

theorem closedDown_psu : (closedDown c code).psu = c.psu := ((closedDown_touches c code) .psu (by decide)).trans (relinquish_psu code c)
theorem closedDown_keysNv : (closedDown c code).keysNv = c.keysNv := ((closedDown_touches c code) .keysNv (by decide)).trans (relinquish_keysNv code c)

theorem relinquish_pins : (relinquish code c).boot.powered = c.boot.powered ∧ (relinquish code c).boot.slotId = c.boot.slotId ∧
    (relinquish code c).boot.rolePrefN = c.boot.rolePrefN := by
  unfold relinquish
  split <;> simp [dropControl]

theorem restartBoot_boot : (restartBoot cause code c).boot = restartedBoot (channelReset c.id) c cause := by
  have hboot : (closedDown c code).boot = (relinquish code c).boot := closedDown_touches c code .boot (by decide)
  obtain ⟨hp, hs, hr⟩ := relinquish_pins c code
  rw [restartBoot_eq, restartFrom_boot, restartedBoot, restartedBoot, hboot, hp, hs, hr, closedDown_psu]

/-- A restart through BOOT gives up control and stops the graphs. -/
theorem restartBoot_idle : (restartBoot cause code c).seam.holdCtl = false ∧ (restartBoot cause code c).seam.alive = false ∧
    (restartBoot cause code c).pub.cuff = false ∧ (restartBoot cause code c).boot.graphsRun = false := by
  rw [restartBoot_eq, restartFrom_seam, restartFrom_pub, restartFrom_boot]
  exact ⟨rfl, rfl, rfl, rfl⟩

theorem restartBoot_keysNv : (restartBoot cause code c).keysNv = c.keysNv := by
  rw [restartBoot_eq, restartFrom_keysNv, closedDown_keysNv]

theorem restartBoot_graphs : (restartBoot cause code c).graphs = [] := by
  rw [restartBoot_eq, restartFrom_graphs]
  rfl

end

/-! ### Faults that restart -/

section
variable {c : Channel}

/-- A channel fault as it is recorded, before what it leads to. -/
def faultNoted (code : Nat) (c : Channel) : Channel := setRo 0x2800 0x09 code (raise 2 0xFF code 0 (episode 0x13 [BitVec.ofNat 8 code] c))

theorem channelFault_restarts {code : Nat} (h : faultRestarts code = true) : channelFault code c = restartFault code (faultNoted code c) := by
  unfold channelFault
  exact if_pos h

@[simp] theorem faultNoted_boot (code : Nat) (c : Channel) : (faultNoted code c).boot = c.boot := by simp [faultNoted]
@[simp] theorem faultNoted_psu (code : Nat) (c : Channel) : (faultNoted code c).psu = c.psu := by simp [faultNoted]

@[simp] theorem touches_testFail {A : List Part} {d : Channel} (t v : Nat) (hA : [.host, .journal, .ctr, .emitted] ⊆ A) :
    Touches A c (testFail t v d) ↔ Touches A c d := by
  refine Touches.iff (B := [.host, .journal, .ctr, .emitted]) ?_ hA c
  simp [testFail]

theorem restartFault_graphMode (code : Nat) (h : graphMode c.boot.mode = true) :
    restartFault code c = restartBoot 4 code { c with seam := { c.seam with alive := false } } := by
  unfold restartFault
  cases hm : c.boot.mode <;> simp [hm, graphMode] at h ⊢

/-- The boot part and the idleness that a fault leaves in a mode that runs graphs. -/
theorem channelFault_graphMode {code : Nat} (hcode : faultRestarts code = true) (h : graphMode c.boot.mode = true) :
    (channelFault code c).boot = restartedBoot (channelReset (faultNoted code c).id) (faultNoted code c) 4 ∧
      (channelFault code c).seam.holdCtl = false ∧ (channelFault code c).seam.alive = false ∧ (channelFault code c).pub.cuff = false ∧
      (channelFault code c).boot.graphsRun = false := by
  rw [channelFault_restarts hcode, restartFault_graphMode code (by rw [faultNoted_boot]; exact h), restartBoot_boot]
  have hidle := restartBoot_idle { faultNoted code c with seam := { (faultNoted code c).seam with alive := false } } 4 code
  rw [restartBoot_boot] at hidle
  generalize faultNoted code c = d at hidle ⊢
  exact ⟨rfl, hidle⟩

theorem clockMonitorFaultC_acts (hp : c.boot.powered = true) (hh : c.boot.halt = none) :
    clockMonitorFaultC c = channelFault 1 (testFail 3 0 c) := if_pos (by simp [hp, hh])

theorem testFail_boot (t v : Nat) (c : Channel) : (testFail t v c).boot = c.boot :=
  (touches_testFail t v (List.Subset.refl _)).2 (touches_refl _ c) .boot (by decide)
theorem testFail_psu (t v : Nat) (c : Channel) : (testFail t v c).psu = c.psu :=
  (touches_testFail t v (List.Subset.refl _)).2 (touches_refl _ c) .psu (by decide)

/-- A clock fault in a mode that runs no graphs (log entry 45). -/
theorem restartFault_clock_kept (h : c.boot.mode = .hold ∨ c.boot.mode = .sealedMode) :
    restartFault 1 c = { c with seam := { c.seam with alive := false }, boot := { c.boot with clockFault := true } } := by
  unfold restartFault
  rcases h with h | h <;> simp [h]

theorem restartFault_clock_boot (h : c.boot.mode = .boot) :
    restartFault 1 c = haltBoot 2 { c with seam := { c.seam with alive := false } } := by
  unfold restartFault
  simp [h]

theorem haltBoot_boot (code : Nat) (c : Channel) : (haltBoot code c).boot = { c.boot with halt := some code } := by
  simp [haltBoot, bootstatChange, emit]

theorem haltBoot_seam (code : Nat) (c : Channel) : (haltBoot code c).seam = c.seam := by
  simp [haltBoot, bootstatChange, emit]

theorem runtimeRestartC_restarts (h : runtimeUp c = true) : (runtimeRestartC c).boot =
      restartedBoot (channelReset c.id) c (if graphMode c.boot.mode then 4 else c.boot.cause) ∧
    (runtimeRestartC c).seam.holdCtl = false ∧ (runtimeRestartC c).seam.alive = false ∧ (runtimeRestartC c).boot.graphsRun = false := by
  have hfault (hg : graphMode c.boot.mode = true) : (channelFault 4 c).boot = restartedBoot (channelReset c.id) c 4 ∧
      (channelFault 4 c).seam.holdCtl = false ∧ (channelFault 4 c).seam.alive = false ∧ (channelFault 4 c).boot.graphsRun = false := by
    obtain ⟨hboot, hhold, halive, -, hrun⟩ := channelFault_graphMode (c := c) (code := 4) (by decide) hg
    refine ⟨?_, hhold, halive, hrun⟩
    rw [hboot, restartedBoot, restartedBoot, faultNoted_boot, faultNoted_psu]
    rfl
  have hboot : ∀ k, (restartBoot k 0 c).boot = restartedBoot (channelReset c.id) c k ∧ (restartBoot k 0 c).seam.holdCtl = false ∧
      (restartBoot k 0 c).seam.alive = false ∧ (restartBoot k 0 c).boot.graphsRun = false := by
    intro k
    obtain ⟨hhold, halive, -, hrun⟩ := restartBoot_idle c k 0
    exact ⟨restartBoot_boot c k 0, hhold, halive, hrun⟩
  unfold runtimeRestartC
  rw [if_neg (by simp [h])]
  cases hm : c.boot.mode with
  | commission | standby | active => simpa [graphMode] using hfault (by rw [hm]; rfl)
  | hold | sealedMode => simpa [graphMode] using hboot c.boot.cause
  | boot =>
    simp only [graphMode, Bool.false_eq_true, if_false, restartFrom_boot, restartFrom_seam]
    exact ⟨trivial, rfl, rfl, rfl⟩

theorem temperatureCrossingC_temp (t : Int) : (temperatureCrossingC t c).temp = t := by
  unfold temperatureCrossingC
  simp only []
  split_ifs <;> simp

end

/-- Settles O13: clock faults, Runtime restarts and a temperature sample. -/
theorem channelRestarts : Obligations.channel_restarts := by
  unfold Obligations.channel_restarts
  refine ⟨fun s ch k hp hh hg => does_onChan rfl fun t ht _ => ?_, fun s ch k hp hh hm => does_onChan rfl fun t ht ho => ?_,
    fun s ch k hp hh hm => does_onChan rfl fun t ht ho => ?_, fun s ch hup => does_onChan rfl fun t ht _ => ?_,
    fun s ch v => does_onChan rfl fun t ht ho => ⟨ht ▸ temperatureCrossingC_temp v, ho⟩⟩ <;> rw [ht]
  · obtain ⟨hboot, hhold, halive, hcuff, hrun⟩ := channelFault_graphMode (c := testFail 3 0 (commitsEnded (chanOf s ch))) (code := 1)
      (by decide) (by rw [testFail_boot]; exact hg)
    rw [clockMonitorFaultC_acts (c := commitsEnded (chanOf s ch)) hp hh]
    refine ⟨by rw [hboot]; rfl, ?_, by rw [hboot]; rfl, hhold, hcuff, halive, hrun⟩
    rw [hboot, restartedBoot, faultNoted_psu, testFail_psu]
    rfl
  · rw [clockMonitorFaultC_acts (c := commitsEnded (chanOf s ch)) hp hh, channelFault_restarts (by decide),
      restartFault_clock_kept (by rw [faultNoted_boot, testFail_boot]; exact hm), faultNoted_boot, testFail_boot]
    exact ⟨rfl, rfl, rfl, ho⟩
  · rw [clockMonitorFaultC_acts (c := commitsEnded (chanOf s ch)) hp hh, channelFault_restarts (by decide),
      restartFault_clock_boot (by rw [faultNoted_boot, testFail_boot]; exact hm), haltBoot_boot, haltBoot_seam, faultNoted_boot, testFail_boot]
    exact ⟨hm, rfl, rfl, rfl, ho⟩
  · obtain ⟨hboot, hhold, halive, hrun⟩ := runtimeRestartC_restarts (c := commitsEnded (chanOf s ch)) hup
    rw [hboot]
    exact ⟨rfl, rfl, rfl, hhold, halive, by rw [← hboot]; exact hrun⟩

end Sys2Proof.Machine
end

section
/-! How a statement about a request through a path is settled: the channel as the request finds it (15 R449, R462; 21 R616, R617). -/
namespace Sys2Proof.Machine
open Sys2Proof

/-- The channel as a request finds it: earlier commits ended, and with counters that requests held for a takeover may have changed. -/
def arrived (m : KMap U64) (c : Channel) : Channel := { c with ctr := m, epUJ := 0 }

/-- The counters agree but for that of the requests that were given up. -/
def SameCounters (m : KMap U64) (c : Channel) : Prop := ∀ k, k ≠ od 0x2A00 7 → zGet m k = zGet c.ctr k

theorem arrived_of_ready (s u : State) (p : Path) (h : u = s ∨ u = abortHeld s) :
    ∃ m, commitsEnded (chanOf u (pathChan s p)) = arrived m (atPath s p) ∧ SameCounters m (atPath s p) := by
  rcases h with rfl | rfl
  · exact ⟨(atPath u p).ctr, rfl, fun k _ => rfl⟩
  · rcases abortHeld_chan s (pathChan s p) with h | ⟨n, h⟩ <;> rw [h]
    · exact ⟨(atPath s p).ctr, rfl, fun k _ => rfl⟩
    · exact ⟨(bumpN 0x2A00 7 n (atPath s p)).ctr, rfl, fun k hk => zGet_bumpN_other _ _ _ _ hk⟩

/-- A request through a path: what holds of the channel it reaches as its meaning leaves it. -/
theorem does_onPath {i : Instr} {p : Path} {f : Channel → Channel} {s : State} {P : State → Prop} (hi : exec i s = onPath p i f s)
    (hp : PathReady s p)
    (h : ∀ t m, SameCounters m (atPath s p) → chanOf t (pathChan s p) = f (arrived m (atPath s p)) → P t) : Does i s P := by
  obtain ⟨u, hu, hor⟩ := onPath_ready hp i f
  obtain ⟨m, hm, hsame⟩ := arrived_of_ready s u p hor
  refine ⟨_, hi.trans hu, h _ m hsame ?_⟩
  rw [chanOf_withChan, hm]

section
variable {p : Path} {c : Channel} {modes : List Nat} {index sub : Nat}

theorem writeGate_open (k : Channel → Channel) (hlive : pathLive p c = true) (hreach : reaches p index = true) (hmode : modeIn modes c = true) :
    writeGate p modes index sub k c = k c := by
  simp [writeGate, hlive, hreach, hmode]

theorem pf0Gate_open (k : Channel → Channel) (hlive : pathLive .pf0 c = true) (hmode : modeIn modes c = true) :
    pf0Gate .pf0 modes index sub true k c = k c := by
  rw [pf0Gate, writeGate_open _ hlive rfl hmode]
  rfl

end

/-- A write through a path that its gate lets through. -/
theorem does_write {i : Instr} {p : Path} {modes : List Nat} {index sub : Nat} {k : Channel → Channel} {s : State} {P : State → Prop}
    (hi : exec i s = onPath p i (writeGate p modes index sub k) s) (hw : WriteReady s p modes index)
    (h : ∀ t m, SameCounters m (atPath s p) → chanOf t (pathChan s p) = k (arrived m (atPath s p)) → P t) : Does i s P := by
  obtain ⟨hp, hlive, hreach, hmode⟩ := hw
  refine does_onPath hi hp fun t m hm ht => h t m hm ?_
  rw [ht]
  exact writeGate_open (c := arrived m (atPath s p)) k hlive hreach hmode

end Sys2Proof.Machine
end

section
/-! The commands that the host gives to pulse generators, CAN ports and the recorder (13 R412, R413; 17 R512, R526; 18 R538 to R560). -/
namespace Sys2Proof.Machine
open Sys2Proof

section
variable {c : Channel} {p : Path} {g n d : Nat}

/-! ### Pulse generators (13 R412, R413) -/

theorem pgPut_accept (msg : HostCmd) (x : PulseGen) : pgGet (pgPut g x (accept p msg c)) g = x := pgGet_pgPut g x _

theorem entryNat_of_dict {e : Channel} (h : e.dict = c.dict) (i sub v : Nat) : entryNat e i sub v = entryNat c i sub v := by
  rw [entryNat, entryNat, entryBytes, entryBytes, h]

theorem pgEntries_accept (msg : HostCmd) : pgEntries (accept p msg c) g = pgEntries c g := by
  simp only [pgEntries, entryNat_of_dict (accept_dict p msg c)]

/-- A set without a period loads: MISSED, or armed (13 R413). -/
theorem pgLoad_once {s : PgSet} (hper : s.period = 0) : (pgGet (pgLoad g s c) g).set = s ∧
    (if s.start < nowNs c + 2000 then (pgGet (pgLoad g s c) g).armed = false ∧ (pgGet (pgLoad g s c) g).status = 4
     else (pgGet (pgLoad g s c) g).armed = true ∧ (pgGet (pgLoad g s c) g).status = 1) := by
  unfold pgLoad
  simp only []
  rw [if_pos hper]
  split_ifs <;> simp

theorem pgArmNow_idle (hin : (pgGet c g).inPulse = false) : pgArmNow g c = pgLoad g (pgEntries c g) c := by
  unfold pgArmNow
  exact if_neg (by simp [hin])

theorem pgGate_open (hlive : pathLive p c = true) (hreach : reaches p (0x2220 + g) = true) (hmode : modeIn [2, 3, 4, 5] c = true)
    (hg : g < 4) (k : Channel → Channel) :
    (if 4 ≤ g then (if pathLive p c then refuse 0x0101 (0x2220 + g) 1 p c else c) else writeGate p [2, 3, 4, 5] (0x2220 + g) 1 k c) = k c := by
  rw [if_neg (Nat.not_le.2 hg), writeGate_open _ hlive hreach hmode]

theorem pgArmC_open (hg : g < 4) (hlive : pathLive p c = true) (hreach : reaches p (0x2220 + g) = true)
    (hmode : modeIn [2, 3, 4, 5] c = true) (hok : pgSetOk c g = true) (hin : (pgGet c g).inPulse = false) :
    pgArmC p g c = pgLoad g (pgEntries c g) (accept p (.pg g true) c) := by
  unfold pgArmC
  rw [pgGate_open hlive hreach hmode hg, if_pos hok, pgArmNow_idle (by rw [pgGet_of_gens (accept_gens p _ c)]; exact hin),
    pgEntries_accept]

theorem pgDisarmC_open (hg : g < 4) (hlive : pathLive p c = true) (hreach : reaches p (0x2220 + g) = true)
    (hmode : modeIn [2, 3, 4, 5] c = true) : pgDisarmC p g c = pgDisarmNow g (accept p (.pg g false) c) := by
  unfold pgDisarmC
  rw [pgGate_open hlive hreach hmode hg]

theorem pgDisarmNow_eq : if (pgGet c g).inPulse then (pgGet (pgDisarmNow g c) g).disarmAfter = true
    else (pgGet (pgDisarmNow g c) g).armed = false ∧ (pgGet (pgDisarmNow g c) g).status = 0 := by
  unfold pgDisarmNow
  simp only []
  split_ifs <;> simp

/-! ### CAN ports (17 R512, R526) -/

theorem recoverPort_sets {q : CanPort} (hq : kGet c.can n = some q) (hoff : q.busOff = true) (hrec : q.cfg.hostRec = true) :
    kGet (recoverPort n c).can n = some { q with recovering := true } := by
  unfold recoverPort
  simp only [hq, hoff, hrec, Bool.and_self, if_true]
  exact kGet_putCan n _ c

theorem setLoop_sets {q : CanPort} (on : Bool) (hq : kGet c.can n = some q) : kGet (setLoop n on c).can n = some { q with loop := on } := by
  unfold setLoop
  simp only [hq]
  exact kGet_putCan n _ c

/-! ### Definitions of the recorder (18 R541) -/

/-- The channel with the flag of a definition written, as arming and disarming leave its entry. -/
def armFlag (d : Nat) (on : Bool) (c : Channel) : Channel :=
  { c with dict := { c.dict with overlay := kPut c.dict.overlay (od (defIndex d) 7) [if on then 1 else 0] } }

theorem entryBytes_of_overlay {e : Channel} {i sub : Nat} {v l : List Byte} (h : kGet e.dict.overlay (od i sub) = some v) :
    entryBytes e i sub l = v := by
  rw [entryBytes, h]

theorem startCapture_overlay : (startCapture d c).dict.overlay = c.dict.overlay := by
  unfold startCapture
  split
  · rfl
  · split_ifs <;> rfl

theorem startCapture_arms {x : PDef} (hx : kGet c.pleat.defs d = some x) (hst : x.st = .stopped) :
    (kGet (startCapture d c).pleat.defs d).map (fun y => (y.st, y.ring)) = some (.armed, []) := by
  unfold startCapture
  simp only [hx, hst, if_true, kGet_putDef_same]
  rfl

theorem closeSegment_overlay (last : Nat) (trunc : Bool) (next : DefState) : (closeSegment d last trunc next c).dict.overlay = c.dict.overlay := by
  unfold closeSegment
  split
  · rfl
  · split
    · rfl
    · simp only []
      split_ifs <;> simp [setRo, putDef]

theorem stopCapture_overlay (t : Nat) : (stopCapture d t c).dict.overlay = c.dict.overlay := by
  unfold stopCapture
  split
  · rfl
  · split_ifs
    · rfl
    · simp only []
      split
      · exact closeSegment_overlay _ _ _
      · exact closeSegment_overlay _ _ _

theorem stopCapture_stops (t : Nat) {y : PDef} (hy : kGet (stopCapture d t c).pleat.defs d = some y) : y.st = .stopped := by
  unfold stopCapture at hy
  split at hy
  next hnone => rw [hnone] at hy; cases hy
  next x hx =>
    split_ifs at hy with hst
    · rw [hx] at hy
      cases hy
      exact hst
    · simp only [] at hy
      split at hy
      · rw [kGet_putDef_same] at hy
        cases hy
        rfl
      next hnone => rw [hnone] at hy; cases hy

theorem setArmed_on : setArmed d true c = startCapture d (armFlag d true c) := rfl
theorem setArmed_off : setArmed d false c = stopCapture d (nowNs c) (armFlag d false c) := rfl

theorem armFlag_overlay (on : Bool) : kGet (armFlag d on c).dict.overlay (od (defIndex d) 7) = some [if on then 1 else 0] := kGet_kPut_same _ _ _

theorem setArmed_on_eq {x : PDef} (hx : kGet c.pleat.defs d = some x) (hst : x.st = .stopped) :
    (kGet (setArmed d true c).pleat.defs d).map (fun y => (y.st, y.ring)) = some (.armed, []) ∧
      entryBytes (setArmed d true c) (defIndex d) 7 [] = [1] := by
  rw [setArmed_on]
  exact ⟨startCapture_arms (c := armFlag d true c) hx hst, entryBytes_of_overlay (by rw [startCapture_overlay]; exact armFlag_overlay true)⟩

theorem setArmed_off_eq : (∀ y, kGet (setArmed d false c).pleat.defs d = some y → y.st = .stopped) ∧
    entryBytes (setArmed d false c) (defIndex d) 7 [] = [0] := by
  rw [setArmed_off]
  exact ⟨fun y hy => stopCapture_stops _ hy, entryBytes_of_overlay (by rw [stopCapture_overlay]; exact armFlag_overlay false)⟩

theorem definitionWrite_open {x : PDef} (on : Bool) (hlive : pathLive p c = true) (hreach : reaches p (defIndex d) = true)
    (hmode : modeIn [3, 4, 5] c = true) (hx : kGet c.pleat.defs d = some x) :
    definitionWrite p d on c = setArmed d on (accept p (.defArm d on) c) := by
  have hhas : kHas c.pleat.defs d = true := by simp [kHas, hx]
  rw [definitionWrite, writeGate_open _ hlive hreach hmode, if_pos hhas]

/-! ### The store and the export (18 R554, R557) -/

theorem deleteRecord_deletes (hany : c.pleat.store.any (fun x => x.num.toNat == n) = true) :
    (deleteRecord n c).pleat.store = c.pleat.store.filter (fun x => x.num.toNat != n) := by
  unfold deleteRecord
  rw [if_pos hany]
  rfl

theorem manualTriggerC_waits (hlive : pathLive .pf0 c = true) (hmode : modeIn [3, 4, 5] c = true) (hd : d < 128)
    (hhas : kHas c.pleat.defs d = true) : (manualTriggerC .pf0 d c).pleat.manual = c.pleat.manual ++ [(d, p1After 1000000 c)] := by
  rw [manualTriggerC, decide_eq_true hd, pf0Gate_open _ hlive hmode, if_neg (by simp [hhas])]
  simp

/-- The signals of a segment's definition. -/
def segmentSignals (c : Channel) (x : Segment) : List SigRec := (kGet c.pleat.defs x.dfn).elim [] (fun y => y.cfg.sigs)

/-- A format that cannot hold the segment's signals (18 R557). -/
def exportRefused (c : Channel) (x : Segment) : Bool :=
  entryNat c 0x2D00 0x14 1 = 0 && (segmentSignals c x).any (fun y => y.ty == 4 || y.ty == 3)

/-- The file of a segment. -/
def exportFile (c : Channel) (x : Segment) : List Byte := encodeCff (cffOf c (entryNat c 0x2D00 0x14 1) x (segmentSignals c x))

theorem comtradeExportC_eq {x : Segment} (hlive : pathLive p c = true) (hreach : reaches p 0x2D00 = true) (hsel : selected c = some x) :
    comtradeExportC p c = if exportRefused c x then refuse 0x0105 0x2D00 0x15 p c
      else answer p 0 (exportFile c x) (setCopy p (od 0x2D00 0x15) (exportFile c x) c) := by
  unfold comtradeExportC exportRefused exportFile segmentSignals
  rw [if_neg (by simp [hlive]), if_neg (by simp [hreach]), hsel]
  cases hd : kGet c.pleat.defs x.dfn <;> simp only [hd] <;> rfl

theorem comtradeExportC_file {x : Segment} (hlive : pathLive p c = true) (hreach : reaches p 0x2D00 = true) (hsel : selected c = some x)
    (hfmt : entryNat c 0x2D00 0x14 1 ≠ 0 ∨ ∀ y ∈ segmentSignals c x, y.ty ≠ 4 ∧ y.ty ≠ 3) :
    copyOf p (od 0x2D00 0x15) (comtradeExportC p c) = some (encodeCff (cffOf c (entryNat c 0x2D00 0x14 1) x (segmentSignals c x))) := by
  have hok : ¬ exportRefused c x = true := by
    rcases hfmt with h | h
    · simp [exportRefused, h]
    · simpa [exportRefused, not_or] using fun _ => h
  rw [comtradeExportC_eq hlive hreach hsel, if_neg hok]
  simp [copyOf, answer, emit, setCopy, exportFile]

theorem comtradeExportC_refused {x : Segment} (hlive : pathLive p c = true) (hreach : reaches p 0x2D00 = true) (hsel : selected c = some x)
    (hfmt : entryNat c 0x2D00 0x14 1 = 0) (hsig : ∃ y ∈ segmentSignals c x, y.ty = 4 ∨ y.ty = 3) :
    (comtradeExportC p c).dict.copies = c.dict.copies := by
  have hno : exportRefused c x = true := by simpa [exportRefused, hfmt] using hsig
  rw [comtradeExportC_eq hlive hreach hsel, if_pos hno]
  simp [refuse, answer, setRo]

end

theorem abortHeld_none {s : State} (h : s.bridge.held = []) : abortHeld s = s := by simp [abortHeld, h]

/-- Settles O22: the host's commands to pulse generators, CAN ports, definitions, the store and the export. -/
theorem unitCommands : Obligations.unit_commands := by
  unfold Obligations.unit_commands
  refine ⟨fun s p g hg hw _ hok hin hper => does_onPath rfl hw.1 fun t m _ ht => ?_,
    fun s p g hg hw => does_onPath rfl hw.1 fun t m _ ht => ?_,
    fun s p n c hw hc hoff hrec => does_write rfl hw fun t m _ ht => ?_,
    fun s p n c on hw hc => does_write rfl hw fun t m _ ht => ?_,
    fun s d hw hd hhas => does_onPath rfl hw.1 fun t m _ ht => ?_,
    fun s p d x hw hx hst => does_onPath rfl hw.1 fun t m _ ht => ?_,
    fun s p d x hw hx => does_onPath rfl hw.1 fun t m _ ht => ?_,
    fun s p n hw hany => does_write rfl hw fun t m _ ht => ?_,
    fun s p x sigs hp hlive hreach hsel hsigs hfmt => does_onPath rfl hp fun t m _ ht => ?_,
    fun s p x y hp hlive hreach hsel hfmt hy hsig => does_onPath rfl hp fun t m _ ht => ?_⟩
  · rw [ht, pgArmC_open (c := arrived m (atPath s p)) hg hw.2.1 hw.2.2.1 hw.2.2.2 hok hin]
    have h := pgLoad_once (c := accept p (.pg g true) (arrived m (atPath s p))) (g := g) hper
    rw [nowNs, accept_time] at h
    exact h
  · rw [ht, pgDisarmC_open (c := arrived m (atPath s p)) hg hw.2.1 hw.2.2.1 hw.2.2.2]
    have h := pgDisarmNow_eq (c := accept p (.pg g false) (arrived m (atPath s p))) (g := g)
    rwa [pgGet_of_gens (accept_gens p _ _)] at h
  · rw [ht]
    exact recoverPort_sets (by rw [accept_can]; exact hc) hoff hrec
  · rw [ht]
    exact setLoop_sets on (by rw [accept_can]; exact hc)
  · rw [ht]
    exact manualTriggerC_waits (c := arrived m (atPath s .pf0)) hw.2.1 hw.2.2.2 hd hhas
  · rw [ht, definitionWrite_open (c := arrived m (atPath s p)) true hw.2.1 hw.2.2.1 hw.2.2.2 hx]
    exact setArmed_on_eq (by rw [accept_pleat]; exact hx) hst
  · rw [ht, definitionWrite_open (c := arrived m (atPath s p)) false hw.2.1 hw.2.2.1 hw.2.2.2 hx]
    exact setArmed_off_eq
  · have hany' : (arrived m (atPath s p)).pleat.store.any (fun x => x.num.toNat == n) = true := hany
    rw [ht, if_pos hany', deleteRecord_deletes (by rw [accept_pleat]; exact hany), accept_pleat]
    rfl
  · subst hsigs
    rw [ht]
    exact comtradeExportC_file (c := arrived m (atPath s p)) hlive hreach hsel hfmt
  · rw [ht]
    refine comtradeExportC_refused (c := arrived m (atPath s p)) hlive hreach hsel hfmt ?_
    have hsigs : segmentSignals (arrived m (atPath s p)) x = y.cfg.sigs :=
      congrArg (fun o : Option PDef => Option.elim o [] (fun y => y.cfg.sigs)) hy
    rwa [hsigs]

end Sys2Proof.Machine
end

section
/-! The key, certificate, snapshot and injector commands as the host gives them (19 R576, R584 to R587; 22 R643, R648, R649). -/
namespace Sys2Proof.Machine
open Sys2Proof

section
variable {c : Channel} {p : Path} {b : List Byte} {i : Nat}

/-- A path that is none of a VF. -/
def notVf (p : Path) : Prop := ∀ n, p ≠ .vf n

theorem arrived_p1After (m : KMap U64) (ns : Nat) (c : Channel) : p1After ns (arrived m c) = p1After ns c := rfl

/-! ### Key commands (19 R576) -/

/-- May a key command come through a path (19 R576, R577)? -/
def keyPathOk (cmd : Nat) (p : Path) : Bool := match p with | .pf0 => true | .vf _ => false | _ => cmd == 1

theorem keyCommand_waits {cmd : Nat} (hlive : pathLive p c = true) (hmode : modeIn (keyModes cmd) c = true)
    (hlen : b.length = 16 + keyBodyLength cmd) (hslot : kSlot b < 512) (hpath : p = .pf0 ∨ (notVf p ∧ cmd = 1)) :
    (keyCommand cmd p b c).keys.pend = c.keys.pend ++ [⟨cmd, b, p1After 1000000 c⟩] := by
  have hok : ¬ (!keyPathOk cmd p) = true := by
    rcases hpath with rfl | ⟨hvf, rfl⟩
    · simp [keyPathOk]
    · cases p with
      | vf n => exact absurd rfl (hvf n)
      | pf0 | pf1 | pf2 | svc => simp [keyPathOk]
  unfold keyCommand
  rw [if_neg (by simp [hlive]), if_neg (by simp [hmode]), if_neg (by simp [hlen]), if_neg (by simp [hslot])]
  refine (congrArg (fun d : Channel => d.keys.pend) (if_neg hok)).trans ?_
  split_ifs <;> simp

theorem keyPends_of {cmd : List Byte → Instr} {code len : Nat} {modes : List Nat}
    (hexec : ∀ b s, exec (cmd b) s = onPath p (cmd b) (keyCommand code p b) s) (hmodes : keyModes code = modes)
    (hlen : len = 16 + keyBodyLength code) (hpath : p = .pf0 ∨ (notVf p ∧ code = 1)) : KeyPends cmd p code modes len := by
  intro s b hp hlive hmode hb hslot
  refine does_onPath (hexec b s) hp fun t m _ ht => ?_
  rw [ht, keyCommand_waits (c := arrived m (atPath s p)) hlive (hmodes ▸ hmode) (hb.trans hlen) hslot hpath]
  rfl

/-! ### Attestation, re-provisioning, certificate (19 R584 to R587) -/

theorem attestationRequestC_held (hlive : pathLive p c = true) (hvf : notVf p) (hmode : modeIn [2, 3, 4, 5] c = true) (hlen : b.length = 36)
    (hrole : leAt b 0 1 = 1 ∨ leAt b 0 1 = 2 ∨ (leAt b 0 1 = 3 ∧ leAt b 2 2 < 512)) :
    (attestationRequestC p b c).keys.request = some b := by
  have hrange : ¬ (leAt b 0 1 = 0 || 3 < leAt b 0 1 || (leAt b 0 1 = 3 && 512 ≤ leAt b 2 2)) = true := by
    simp only [Bool.or_eq_true, Bool.and_eq_true, decide_eq_true_eq]
    omega
  have hmain : (if !modeIn [2, 3, 4, 5] c then refuse 0x0104 0x2E00 0x0E p c
      else if b.length ≠ 36 then refuse 0x0106 0x2E00 0x0E p c
      else if leAt b 0 1 = 0 || 3 < leAt b 0 1 || (leAt b 0 1 = 3 && 512 ≤ leAt b 2 2) then refuse 0x0105 0x2E00 0x0E p c
      else accept p (.attest b) { c with keys := { c.keys with request := some b } }).keys.request = some b := by
    rw [if_neg (by simp [hmode]), if_neg (by simp [hlen]), if_neg hrange, accept_keys]
  unfold attestationRequestC
  rw [if_neg (by simp [hlive])]
  cases p with
  | vf n => exact absurd rfl (hvf n)
  | pf0 | pf1 | pf2 | svc => exact hmain

theorem certificateInstallC_cert (hlive : pathLive p c = true) (hvf : notVf p) (hmode : c.boot.mode = .hold) :
    (certificateInstallC p b c).keysNv.cert = if certificateOk b c then b else c.keysNv.cert := by
  have hmain : (if c.boot.mode != .hold then refuse 0x0104 0x2E00 0x13 p c
      else if !certificateOk b c then refuse 0x0105 0x2E00 0x13 p c
      else accept p (.certificate b) { c with keysNv := { c.keysNv with cert := b } }).keysNv.cert =
      if certificateOk b c then b else c.keysNv.cert := by
    rw [if_neg (by simp [hmode])]
    cases certificateOk b c
    · rfl
    · simp
  unfold certificateInstallC
  rw [if_neg (by simp [hlive])]
  cases p with
  | vf n => exact absurd rfl (hvf n)
  | pf0 | pf1 | pf2 | svc => exact hmain

/-- The paths of a re-provisioning: none that both channels share. -/
def ownPath (p : Path) : Bool := match p with | .pf1 => true | .pf2 => true | .svc _ _ => true | _ => false

/-- The channel with its new nonce and identity, before it restarts (19 R584). -/
def reprovisioned (p : Path) (b : List Byte) (c : Channel) : Channel :=
  let d := drawBytes 4 c
  let e := drawBytes 6 d.2
  let c1 := accept p (.reprovision b) e.2
  { c1 with keysNv := { keysNvReset with
      nonce := d.1, provGen := BitVec.ofNat 32 (leAt b 8 4), identity := e.1, cert := c1.keysNv.cert, reprovisioned := true } }

theorem reProvisioningC_signed (hlive : pathLive p c = true) (hpath : ownPath p = true) (hmode : c.boot.mode = .sealedMode)
    (hlen : b.length = 108) (hserial : leAt b 0 4 = serialNumber.toNat) (hchan : nth b 4 0 = chanByte c) (hgen : c.keysNv.provGen.toNat < leAt b 8 4)
    (hsig : Config.ecdsaVerify Config.provisioningKey (b.take 12) (b.drop 12) = true) :
    reProvisioningC p b c = restartBoot 6 0 (reprovisioned p b c) := by
  have hpath' : ¬ (!ownPath p) = true := by simp [hpath]
  have hgood : ¬ (!(Config.ecdsaVerify Config.provisioningKey (b.take 12) (b.drop 12)) || leAt b 0 4 ≠ serialNumber.toNat ||
      nth b 4 0 ≠ chanByte c || leAt b 8 4 ≤ c.keysNv.provGen.toNat) = true := by
    simp only [Bool.or_eq_true, decide_eq_true_eq, Bool.not_eq_true']
    rintro (((h | h) | h) | h)
    · rw [hsig] at h
      cases h
    · exact h hserial
    · exact h hchan
    · omega
  unfold reProvisioningC
  rw [if_neg (by simp [hlive])]
  refine (if_neg hpath').trans ?_
  rw [if_neg (by simp [hmode]), if_neg (by simp [hlen]), if_neg hgood]
  rfl

theorem reProvisioningC_unsigned (hlive : pathLive p c = true) (hpath : ownPath p = true) (hmode : c.boot.mode = .sealedMode)
    (hlen : b.length = 108) (hsig : Config.ecdsaVerify Config.provisioningKey (b.take 12) (b.drop 12) = false) :
    reProvisioningC p b c = refuse 0x0105 0x2E00 0x10 p c := by
  have hpath' : ¬ (!ownPath p) = true := by simp [hpath]
  have hbad : (!(Config.ecdsaVerify Config.provisioningKey (b.take 12) (b.drop 12)) || leAt b 0 4 ≠ serialNumber.toNat ||
      nth b 4 0 ≠ chanByte c || leAt b 8 4 ≤ c.keysNv.provGen.toNat) = true := by
    simp [hsig]
  unfold reProvisioningC
  rw [if_neg (by simp [hlive])]
  refine (if_neg hpath').trans ?_
  rw [if_neg (by simp [hmode]), if_neg (by simp [hlen]), if_pos hbad]

/-! ### Arming code and injectors (22 R648, R649) -/

theorem armingCodeReadC_gives (hlive : pathLive p c = true) (hvf : notVf p) : ∃ code, (armingCodeReadC p c).diag.armCode = some code ∧
    (armingCodeReadC p c).diag.armFrom = p ∧ (armingCodeReadC p c).diag.armReadAt = c.time.up ∧
    (armingCodeReadC p c).emitted = c.emitted ++ [.completion (pathFn p) 0 (leBytes 4 code.toNat)] := by
  refine ⟨(nextFree c).setWidth 32, ?_⟩
  unfold armingCodeReadC
  cases p with
  | vf n => exact absurd rfl (hvf n)
  | pf0 | pf1 | pf2 | svc => simp [hlive, draw, answer, emit]

theorem injArm_armed : (injGet (injArm i c) i).armed = true ∧ (injGet (injArm i c) i).status = 1 := by
  simp [injArm, injGet, injPut, kGet_kPut_same]

theorem injGet_of_diag {d : Channel} (h : d.diag = c.diag) (i : Nat) : injGet d i = injGet c i := by rw [injGet, injGet, h]

theorem injPathOk_of (hvf : notVf p) : injPathOk p = true := by
  cases p with
  | vf n => exact absurd rfl (hvf n)
  | pf0 | pf1 | pf2 | svc => rfl

theorem injectorArmC_open {code : U32} (hlive : pathLive p c = true) (hvf : notVf p) (hi : i < 33) (hcode : codeOk p code c = true)
    (hallow : injAllowed c i = true) (hfree : (injGet c i).armed = false) :
    injectorArmC p i code c = injArm i (accept p (.injArm i code) c) := by
  simp [injectorArmC, hlive, hi, hallow, hcode, injPathOk_of hvf, hfree]

theorem injectorDisarmC_open (hlive : pathLive p c = true) (hvf : notVf p) (hi : i < 33) (hmode : modeIn [3, 4, 5] c = true) :
    injectorDisarmC p i c = injEnd i 0 (accept p (.injDisarm i) c) := by
  simp [injectorDisarmC, hlive, hi, hmode, injPathOk_of hvf]

end

/-- Settles O23: key commands, attestation, re-provisioning, certificates, snapshots and injectors as the host asks for them. -/
theorem keyAndDiagnosticCommands : Obligations.key_and_diagnostic_commands := by
  unfold Obligations.key_and_diagnostic_commands
  refine ⟨keyPends_of (fun _ _ => rfl) rfl rfl (.inl rfl), keyPends_of (fun _ _ => rfl) rfl rfl (.inr ⟨fun n h => (by cases h), rfl⟩),
    keyPends_of (fun _ _ => rfl) rfl rfl (.inr ⟨fun n h => (by cases h), rfl⟩),
    fun ch n => keyPends_of (fun _ _ => rfl) rfl rfl (.inr ⟨fun n h => (by cases h), rfl⟩),
    keyPends_of (fun _ _ => rfl) rfl rfl (.inl rfl), keyPends_of (fun _ _ => rfl) rfl rfl (.inl rfl),
    keyPends_of (fun _ _ => rfl) rfl rfl (.inl rfl), keyPends_of (fun _ _ => rfl) rfl rfl (.inl rfl),
    fun s p b hp hlive hvf hmode hlen hrole => does_onPath rfl hp fun t m _ ht => ?_,
    fun s p b hpath hp hlive hmode hlen hserial hchan hgen => does_onPath rfl hp fun t m _ ht => ?_,
    fun s p b hvf hp hlive hmode => does_onPath rfl hp fun t m _ ht => ?_,
    fun s p v hw hv => does_write rfl hw fun t m _ ht => ?_,
    fun s p hvf hp hlive => does_onPath rfl hp fun t m _ ht => ?_,
    fun s p i code hvf hp hlive hi hcode hallow hfree => does_onPath rfl hp fun t m _ ht => ?_,
    fun s p i hvf hp hlive hi hmode harm => does_onPath rfl hp fun t m _ ht => ?_⟩ <;> rw [ht]
  · exact attestationRequestC_held (c := arrived m (atPath s p)) hlive hvf hmode hlen hrole
  · have hown : ownPath p = true := by
      rcases hpath with rfl | rfl | ⟨ch, n, rfl⟩ <;> rfl
    split
    next hsig =>
      rw [reProvisioningC_signed (c := arrived m (atPath s p)) hlive hown hmode hlen hserial hchan hgen hsig]
      simp only [restartBoot_boot, restartBoot_keysNv]
      exact ⟨rfl, rfl, rfl, rfl⟩
    next hsig =>
      rw [reProvisioningC_unsigned (c := arrived m (atPath s p)) hlive hown hmode hlen (by simpa using hsig)]
      simp only [refuse_boot, refuse_keysNv]
      exact ⟨hmode, rfl⟩
  · exact certificateInstallC_cert (c := arrived m (atPath s p)) hlive hvf hmode
  · have hlate : ¬ v.toNat < nowNs (arrived m (atPath s p)) + 1000000 := Nat.not_lt.2 hv
    rw [if_neg hlate]
    rfl
  · exact armingCodeReadC_gives (c := arrived m (atPath s p)) hlive hvf
  · rw [injectorArmC_open (c := arrived m (atPath s p)) hlive hvf hi hcode hallow hfree]
    exact injArm_armed
  · rw [injectorDisarmC_open (c := arrived m (atPath s p)) hlive hvf hi hmode]
    exact injGet_injEnd 0 (by rw [injGet_of_diag (accept_diag p _ _)]; exact harm)

end Sys2Proof.Machine
end

section
/-! Graph start, the warm-up window and the grant of control (02 R52, R59; 12 R381, R382). -/
namespace Sys2Proof.Machine
open Sys2Proof

section
variable {A : List Part} {c d : Channel}

/-! ### What the steps of a graph start leave of the boot part -/

@[simp] theorem touches_putStream (n : Nat) (x : Stream) (hA : [.ingest] ⊆ A) : Touches A c (putStream n x d) ↔ Touches A c d :=
  Touches.iff (fun p hp => by cases p <;> simp [Part.same, putStream] at hp ⊢) hA c

@[simp] theorem touches_pgPut (g : Nat) (x : PulseGen) (hA : [.gens] ⊆ A) : Touches A c (pgPut g x d) ↔ Touches A c d :=
  Touches.iff (fun p hp => by cases p <;> simp [Part.same, pgPut] at hp ⊢) hA c

@[simp] theorem touches_simUpdate (hA : [.ingest] ⊆ A) : Touches A c (simUpdate d) ↔ Touches A c d := by
  refine Touches.iff (B := [.ingest]) (Touches.foldl (fun c x => ?_) _ d) hA c
  simp only []
  split_ifs <;> simp

@[simp] theorem touches_placerWake (b : Nat) (hA : [.disp, .dict, .ctr, .free] ⊆ A) : Touches A c (placerWake b d) ↔ Touches A c d := by
  refine Touches.iff (B := [.disp, .dict, .ctr, .free]) ?_ hA c
  unfold placerWake
  simp only []
  split_ifs <;> simp

@[simp] theorem touches_retainBanks (hA : [.disp, .dict, .ctr, .free] ⊆ A) : Touches A c (retainBanks d) ↔ Touches A c d := by
  refine Touches.iff (B := [.disp, .dict, .ctr, .free]) (Touches.foldl (fun c b => ?_) _ d) hA c
  split_ifs <;> simp

@[simp] theorem touches_startCapture (n : Nat) (hA : [.pleat] ⊆ A) : Touches A c (startCapture n d) ↔ Touches A c d := by
  refine Touches.iff (B := [.pleat]) ?_ hA c
  unfold startCapture
  split
  · simp
  · split_ifs <;> simp

@[simp] theorem touches_pleatGraphStart (hA : [.pleat] ⊆ A) : Touches A c (pleatGraphStart d) ↔ Touches A c d := by
  refine Touches.iff (B := [.pleat]) (Touches.foldl (fun c x => ?_) _ d) hA c
  simp only []
  split <;> simp

@[simp] theorem touches_pgLoad (g : Nat) (s : PgSet) (hA : [.gens] ⊆ A) : Touches A c (pgLoad g s d) ↔ Touches A c d := by
  obtain ⟨x, hx, -⟩ := pgLoad_eq (g := g) s d
  rw [hx, touches_pgPut g x hA]

@[simp] theorem touches_pgArmNow (g : Nat) (hA : [.gens] ⊆ A) : Touches A c (pgArmNow g d) ↔ Touches A c d := by
  refine Touches.iff (B := [.gens]) ?_ hA c
  unfold pgArmNow
  split_ifs <;> simp

@[simp] theorem touches_startGens (hA : [.gens] ⊆ A) : Touches A c (startGens d) ↔ Touches A c d := by
  refine Touches.iff (B := [.gens]) (Touches.foldl (fun c x => ?_) _ d) hA c
  split_ifs <;> simp

@[simp] theorem touches_startGraph (t s : Nat) (hA : [.graphs] ⊆ A) : Touches A c (startGraph t s d) ↔ Touches A c d := by
  refine Touches.iff (B := [.graphs]) ?_ hA c
  unfold startGraph
  split <;> simp

@[simp] theorem touches_startReaders (s : Nat) (hA : [.graphs] ⊆ A) : Touches A c (startReaders s d) ↔ Touches A c d := by
  refine Touches.iff (B := [.graphs]) ?_ hA c
  unfold startReaders
  split <;> simp

end

section
variable {c : Channel}

/-- The parts that follow once graphs are marked as running. -/
abbrev startedParts : List Part := [.graphs, .disp, .dict, .ctr, .free, .ingest, .pleat, .gens]

theorem graphStartC_runs (hmode : graphMode c.boot.mode = true) (hrun : c.boot.graphsRun = false) (hadm : c.boot.admitted = true) :
    (graphStartC c).boot.graphsRun = true := by
  have hafter : ∀ (l : List Nat) (t : Nat) (d : Channel), d.boot.graphsRun = true →
      (readyUpdate (startGens (pleatGraphStart (simUpdate (retainBanks
        (l.foldl (fun c s => startReaders s (startGraph t s c)) d)))))).boot.graphsRun = true := by
    intro l t d hd
    have hfold : Touches startedParts d (l.foldl (fun c s => startReaders s (startGraph t s c)) d) :=
      Touches.foldl (fun c s => by simp) l d
    have hall : Touches startedParts d (startGens (pleatGraphStart (simUpdate (retainBanks
        (l.foldl (fun c s => startReaders s (startGraph t s c)) d))))) := by simpa using hfold
    rw [readyUpdate_graphsRun, show _ = d.boot from hall .boot (by decide)]
    exact hd
  unfold graphStartC
  rw [if_neg (by simp [hmode, hrun, hadm])]
  exact hafter _ _ _ rfl

/-! ### The end of the warm-up window (02 R59) -/

theorem enterActive_holdCtl (c : Channel) : (enterActive c).seam.holdCtl = c.seam.holdCtl := by
  simp [enterActive, openCuff]

/-- The channel after its warm-up window, which ends at `t`. -/
def windowOver (t : Nat) (c : Channel) : Channel :=
  let c2 := { advanceTo t c with boot := { (advanceTo t c).boot with windowOpen := false } }
  if c2.boot.mode == .standby && c2.boot.granted && c2.seam.holdCtl then enterActive c2 else c2

theorem warmUpWindow_eq (hrun : c.boot.graphsRun = true) (hopen : c.boot.windowOpen = true) : ∃ t, warmUpWindow c = windowOver t c := by
  unfold warmUpWindow
  rw [if_pos (by simp [hrun, hopen])]
  exact ⟨_, rfl⟩

theorem warmUpWindow_closes (hrun : c.boot.graphsRun = true) (hopen : c.boot.windowOpen = true) :
    (warmUpWindow c).boot.windowOpen = false ∧ (c.boot.mode = .standby → c.boot.granted = true → c.seam.holdCtl = true →
      (warmUpWindow c).boot.mode = .active ∧ (warmUpWindow c).pub.cuff = true) := by
  obtain ⟨t, ht⟩ := warmUpWindow_eq hrun hopen
  rw [ht, windowOver]
  simp only [advanceTo_boot, advanceTo_seam]
  refine ⟨?_, fun hm hg hh => ?_⟩
  · split
    · simp
    · rfl
  · rw [if_pos (by simp [hm, hg, hh])]
    simp

/-! ### Grants (12 R381, R382) -/

theorem grantControl_grants (c : Channel) : (grantControl c).seam.holdCtl = true ∧ (grantControl c).boot.granted = true := by
  unfold grantControl
  simp only []
  split
  · exact ⟨rfl, rfl⟩
  · split
    · rw [enterActive_holdCtl, enterActive_boot]
      exact ⟨rfl, rfl⟩
    · exact ⟨rfl, rfl⟩
  · exact ⟨rfl, rfl⟩

theorem loneChannelWait_grants (hmay : mayHold c = true) (hpres : c.seam.presence = 0) (hgr : c.boot.granted = false) :
    (loneChannelWait c).seam.holdCtl = true ∧ (loneChannelWait c).boot.granted = true := by
  unfold loneChannelWait
  rw [if_pos (by simp [hmay, hpres, hgr])]
  exact grantControl_grants _

theorem roleGrant_grants {twin : Channel} (hq : qualifies c = true) (htwin : twin.seam.holdCtl = false)
    (hfirst : c.id = .a ∨ qualifies twin = false) : (roleGrant twin c).seam.holdCtl = true ∧ (roleGrant twin c).boot.granted = true := by
  unfold roleGrant
  rw [if_pos (by simpa [hq, htwin] using hfirst)]
  exact grantControl_grants _

end

/-- A command of one channel after which the bridge notes which channel serves. -/
theorem does_onChan_serving {i : Instr} {ch : Chan} {f : Channel → Channel} {s : State} {P : State → Prop}
    (hi : exec i s = .next (noteServing (withChan s ch (f (commitsEnded (chanOf s ch))))))
    (h : ∀ t, chanOf t ch = f (commitsEnded (chanOf s ch)) → chanOf t ch.twin = chanOf s ch.twin → P t) : Does i s P := by
  refine ⟨_, hi, h _ ?_ ?_⟩
  · rw [chanOf_noteServing, chanOf_withChan]
  · rw [chanOf_noteServing]
    exact (onlyChan_withChan s ch _).1

/-- Settles O16: graph start, the end of the warm-up window, and both grants. -/
theorem startAndGrant : Obligations.start_and_grant := by
  unfold Obligations.start_and_grant
  refine ⟨fun s ch hm hr ha => does_onChan rfl fun t ht ho => ?_, fun s ch hr hw => does_onChan rfl fun t ht ho => ?_,
    fun s ch hm hp hg => does_onChan_serving (f := loneChannelWait) rfl fun t ht ho => ?_,
    fun s ch hq ht hf => does_onChan_serving (f := roleGrant (chanOf s ch.twin)) rfl fun t ht' ho => ?_⟩
  · rw [ht]
    exact ⟨graphStartC_runs (c := commitsEnded (chanOf s ch)) hm hr ha, ho⟩
  · obtain ⟨hclosed, hactive⟩ := warmUpWindow_closes (c := commitsEnded (chanOf s ch)) hr hw
    rw [ht]
    exact ⟨hclosed, ho, hactive⟩
  · obtain ⟨hhold, hgranted⟩ := loneChannelWait_grants (c := commitsEnded (chanOf s ch)) hm hp hg
    rw [ht]
    exact ⟨hhold, hgranted, ho⟩
  · obtain ⟨hhold, hgranted⟩ := roleGrant_grants (c := commitsEnded (chanOf s ch)) hq ht hf
    rw [ht']
    exact ⟨hhold, hgranted, ho⟩

end Sys2Proof.Machine
end

section
/-! The lifecycle requests of sleeves (16 R488, R489, R491, R499; 08 R269). -/
namespace Sys2Proof.Machine
open Sys2Proof

/-- A request through a path while none is held for a takeover. -/
theorem does_onPath_unheld {i : Instr} {p : Path} {f : Channel → Channel} {s : State} {P : State → Prop} (hi : exec i s = onPath p i f s)
    (hp : PathReady s p) (hheld : s.bridge.held = []) (h : ∀ t, chanOf t (pathChan s p) = f (commitsEnded (atPath s p)) → P t) : Does i s P := by
  obtain ⟨u, hu, hor⟩ := onPath_ready hp i f
  have hus : u = s := by
    rcases hor with h | h
    · exact h
    · exact h.trans (abortHeld_none hheld)
  refine ⟨_, hi.trans hu, h _ ?_⟩
  rw [chanOf_withChan, hus]
  rfl

section
variable {c c1 d1 twin : Channel} {n action arg : Nat} {x : Sleeve}

/-- The first conditions of a lifecycle request: PF0, a mode listed, a sleeve number. -/
def LifeOpen (c : Channel) (n : Nat) : Prop := pathLive .pf0 c = true ∧ modeIn [3, 4, 5] c = true ∧ n < 64

theorem lifeGate_known (k : Channel → Channel) (h : LifeOpen c n) (hx : kGet c.sleeves n = some x) (hreq : x.req = none) (hsave : x.saving = false) :
    lifeGate .pf0 n k c = k c := by
  obtain ⟨hlive, hmode, hn⟩ := h
  rw [lifeGate, decide_eq_true hn, pf0Gate_open _ hlive hmode]
  simp [hx, hreq, hsave]

theorem lifeGate_new (k : Channel → Channel) (h : LifeOpen c n) (hnone : kGet c.sleeves n = none) (hq : c.disp.queued = []) :
    lifeGate .pf0 n k c = k c := by
  obtain ⟨hlive, hmode, hn⟩ := h
  rw [lifeGate, decide_eq_true hn, pf0Gate_open _ hlive hmode]
  simp [hnone, hq]

@[simp] theorem lifeResult_sleeves (code : Nat) (c : Channel) : (lifeResult code n c).sleeves = c.sleeves := rfl
@[simp] theorem lifeResult_disp (code : Nat) (c : Channel) : (lifeResult code n c).disp = c.disp := rfl

theorem lifeRefuse_sleeves (code : Nat) (p : Path) (c : Channel) : (lifeRefuse code p n c).sleeves = c.sleeves := by
  rw [lifeRefuse, refuse_sleeves, lifeResult_sleeves]

theorem acceptLife_sleeves (p : Path) (t : Nat) (c : Channel) : (acceptLife p n action arg t c).sleeves = c.sleeves := by
  rw [acceptLife, post_sleeves, lifeResult_sleeves, acceptOwn_sleeves]

theorem kGet_setReq (r : LifeReq) (hx : kGet c.sleeves n = some x) : kGet (setReq n r c).sleeves n = some { x with req := some r } := by
  rw [setReq, kGet_kMod_same, hx]
  rfl

/-- A request that the state of its sleeve admits waits for its boundary (16 R489). -/
theorem lifeSchedule_waits {ok : Channel → Sleeve → Bool} {at_ : Sleeve → Channel → Nat} (h : LifeOpen c n)
    (hx : kGet c.sleeves n = some x) (hreq : x.req = none) (hsave : x.saving = false) (hok : ok c x = true) :
    kGet (lifeSchedule .pf0 n action arg ok at_ c).sleeves n = some { x with req := some ⟨action, arg, at_ x c⟩ } := by
  rw [lifeSchedule, lifeGate_known _ h hx hreq hsave]
  simp only [hx, hok, if_true]
  exact kGet_setReq _ (by rw [acceptLife_sleeves]; exact hx)

theorem sleeveSaveC_begins (h : LifeOpen c n) (hx : kGet c.sleeves n = some x) (hreq : x.req = none) (hsave : x.saving = false)
    (hst : x.st = .frozen) : kGet (sleeveSaveC .pf0 n c).sleeves n = some { x with saving := true } := by
  rw [sleeveSaveC, lifeGate_known _ h hx hreq hsave]
  simp only [hx, hst, hsave, beq_self_eq_true, Bool.not_false, Bool.and_self, if_true]
  rw [saveBegin, kGet_kMod_same, acceptLife_sleeves, hx, ← hst]
  rfl

/-! ### Admission of a package or a blob -/

variable {adm : Channel → Except (Nat × Channel) Channel}

/-- The request of an admitted sleeve: it waits for the start boundary, or for moves. -/
def admittedReq (action arg : Nat) (still : Bool) (c1 : Channel) : LifeReq := ⟨action, arg, if still then startBoundary c1 else 0⟩

theorem kHas_none (h : kGet c.sleeves n = none) : kHas c.sleeves n = false := by simp [kHas, h]

theorem lifeAdmit_ok {c2 : Channel} (h : LifeOpen c n) (hnone : kGet c.sleeves n = none) (hq : c.disp.queued = []) (hidle : placersIdle twin c = true)
    (hadm : admitBoth n action arg adm twin c = .ok c2) : (lifeAdmit .pf0 n action arg adm twin c).sleeves = c2.sleeves := by
  rw [lifeAdmit, lifeGate_new _ h hnone hq, if_neg (by simp [kHas_none hnone]), if_pos hidle, hadm]
  simp

theorem lifeAdmit_error {k : Nat} {c2 : Channel} (h : LifeOpen c n) (hnone : kGet c.sleeves n = none) (hq : c.disp.queued = [])
    (hidle : placersIdle twin c = true) (hadm : admitBoth n action arg adm twin c = .error (k, c2)) :
    (lifeAdmit .pf0 n action arg adm twin c).sleeves = c2.sleeves := by
  rw [lifeAdmit, lifeGate_new _ h hnone hq, if_neg (by simp [kHas_none hnone]), if_pos hidle, hadm]
  exact lifeRefuse_sleeves _ _ _

/-- What an admission leaves of the sleeves, once it is known whether moves come first. -/
theorem admitted_sleeves (wait : Bool) (c1 : Channel) :
    (if wait || !c1.disp.planned.isEmpty then post (.lifecycle n action arg 1) (setReq n ⟨action, arg, 0⟩ c1)
      else post (.lifecycle n action arg (startBoundary c1)) (setReq n ⟨action, arg, startBoundary c1⟩ c1)).sleeves =
    kMod c1.sleeves n (fun x => { x with req := some (admittedReq action arg (c1.disp.planned.isEmpty && !wait) c1) }) := by
  cases wait <;> cases hp : c1.disp.planned.isEmpty <;> simp [setReq, admittedReq]

/-- The channel once its admission is known. -/
def admitted (n action arg : Nat) (wait : Bool) (c1 : Channel) : Channel :=
  if wait || !c1.disp.planned.isEmpty then post (.lifecycle n action arg 1) (setReq n ⟨action, arg, 0⟩ c1)
  else post (.lifecycle n action arg (startBoundary c1)) (setReq n ⟨action, arg, startBoundary c1⟩ c1)

theorem admitBoth_alone (hpres : c.seam.presence ≠ 2) (hadm : adm c = .ok c1) :
    admitBoth n action arg adm twin c = .ok (admitted n action arg false c1) := by
  unfold admitBoth admitted
  simp only [hadm]
  rw [if_neg hpres]
  split_ifs <;> rfl

theorem admitBoth_twin (hpres : c.seam.presence = 2) (hadm : adm c = .ok c1) (htwin : adm twin = .ok d1) :
    admitBoth n action arg adm twin c = .ok (admitted n action arg (!d1.disp.planned.isEmpty) c1) := by
  unfold admitBoth admitted
  simp only [hadm, htwin]
  rw [if_pos hpres]
  split_ifs <;> rfl

theorem admitBoth_twin_refuses {e : Nat × Channel} (hpres : c.seam.presence = 2) (hadm : adm c = .ok c1) (htwin : adm twin = .error e) :
    admitBoth n action arg adm twin c = .error (e.1, c) := by
  unfold admitBoth
  simp only [hadm, htwin]
  rw [if_pos hpres]

theorem admitBoth_refused {e : Nat × Channel} (hadm : adm c = .error e) : admitBoth n action arg adm twin c = .error e := by
  unfold admitBoth
  simp only [hadm]

/-- An admission by a channel without a twin. -/
theorem lifeAdmit_alone (h : LifeOpen c n) (hnone : kGet c.sleeves n = none) (hq : c.disp.queued = []) (hpres : c.seam.presence ≠ 2)
    (hidle : placerIdle c = true) : match adm c with
      | .ok c1 => (lifeAdmit .pf0 n action arg adm twin c).sleeves = kMod c1.sleeves n (fun x => { x with
          req := some ⟨action, arg, if c1.disp.planned.isEmpty then startBoundary c1 else 0⟩ })
      | .error (_, c1) => (lifeAdmit .pf0 n action arg adm twin c).sleeves = c1.sleeves := by
  have hidle' : placersIdle twin c = true := by simp [placersIdle, hidle, hpres]
  split
  next c1 hadm =>
    rw [lifeAdmit_ok h hnone hq hidle' (admitBoth_alone hpres hadm), admitted, admitted_sleeves]
    simp [admittedReq]
  next k c1 hadm => exact lifeAdmit_error h hnone hq hidle' (admitBoth_refused hadm)

/-- An admission that the twin takes part in. -/
theorem lifeAdmit_both (h : LifeOpen c n) (hnone : kGet c.sleeves n = none) (hq : c.disp.queued = []) (hpres : c.seam.presence = 2)
    (hidle : placerIdle c = true) (htwin : placerIdle twin = true) : match adm c, adm twin with
      | .ok c1, .ok d1 => (lifeAdmit .pf0 n action arg adm twin c).sleeves = kMod c1.sleeves n (fun x => { x with
          req := some ⟨action, arg, if c1.disp.planned.isEmpty && d1.disp.planned.isEmpty then startBoundary c1 else 0⟩ })
      | .ok _, .error _ => (lifeAdmit .pf0 n action arg adm twin c).sleeves = c.sleeves
      | .error (_, c1), _ => (lifeAdmit .pf0 n action arg adm twin c).sleeves = c1.sleeves := by
  have hidle' : placersIdle twin c = true := by simp [placersIdle, hidle, htwin]
  split
  next c1 d1 hadm hd =>
    rw [lifeAdmit_ok h hnone hq hidle' (admitBoth_twin hpres hadm hd), admitted, admitted_sleeves]
    simp [admittedReq]
  next hadm hd => exact lifeAdmit_error h hnone hq hidle' (admitBoth_twin_refuses hpres hadm hd)
  next hadm => exact lifeAdmit_error h hnone hq hidle' (admitBoth_refused hadm)

/-- A request that comes while moves are in progress is queued (log entry 49). -/
theorem lifeAdmit_queues (h : LifeOpen c n) (hnone : kGet c.sleeves n = none) (hq : c.disp.queued = []) (hbusy : placerIdle c = false) :
    (lifeAdmit .pf0 n action arg adm twin c).disp.queued = [⟨action, n, arg, packageBytes c⟩] ∧
      (lifeAdmit .pf0 n action arg adm twin c).sleeves = c.sleeves := by
  have hbusy' : ¬ placersIdle twin c = true := by simp [placersIdle, hbusy]
  rw [lifeAdmit, lifeGate_new _ h hnone hq, if_neg (by simp [kHas_none hnone]), if_neg hbusy']
  simp [putQueued, hq]

end

/-- Settles O21: freeze, thaw, delete, behaviour and save, and admissions with and without the twin and during moves. -/
theorem sleeveRequests : Obligations.sleeve_requests := by
  have hopen : ∀ {s : State} {m : KMap U64} {n : Nat}, WriteReady s .pf0 [3, 4, 5] 0x2B00 → n < 64 → LifeOpen (arrived m (atPath s .pf0)) n :=
    fun hw hn => ⟨hw.2.1, hw.2.2.2, hn⟩
  have hopen' : ∀ {s : State} {n : Nat}, WriteReady s .pf0 [3, 4, 5] 0x2B00 → n < 64 → LifeOpen (commitsEnded (atPath s .pf0)) n :=
    fun hw hn => ⟨hw.2.1, hw.2.2.2, hn⟩
  have hrestore : ∀ {n arg : Nat} {twin : Channel}, arg ≤ 1 → sleeveRestoreC .pf0 n arg twin = lifeAdmit .pf0 n 6 arg (admitRestore n arg) twin :=
    fun h => if_pos h
  unfold Obligations.sleeve_requests
  refine ⟨fun s n x hw hn hx hreq hsave hst => does_onPath rfl hw.1 fun t m _ ht => ?_,
    fun s n x hw hn hx hreq hsave hst => does_onPath rfl hw.1 fun t m _ ht => ?_,
    fun s n x hw hn hx hreq hsave hok => does_onPath rfl hw.1 fun t m _ ht => ?_,
    fun s n x beh hw hn hx hreq hsave h1 h5 => does_onPath rfl hw.1 fun t m _ ht => ?_,
    fun s n x hw hn hx hreq hsave hst => does_onPath rfl hw.1 fun t m _ ht => ?_,
    fun s n hw hheld hn hnone hpres hidle hq => does_onPath_unheld rfl hw.1 hheld fun t ht => ?_,
    fun s n hw hheld hn hnone hpres hidle htwin hq => does_onPath_unheld rfl hw.1 hheld fun t ht => ?_,
    fun s n hw hn hnone hbusy hq => does_onPath rfl hw.1 fun t m _ ht => ?_,
    fun s n arg hw hheld hn harg hnone hpres hidle hq => does_onPath_unheld rfl hw.1 hheld fun t ht => ?_,
    fun s n arg hw hheld hn harg hnone hpres hidle htwin hq => does_onPath_unheld rfl hw.1 hheld fun t ht => ?_,
    fun s n arg hw hn harg hnone hbusy hq => does_onPath rfl hw.1 fun t m _ ht => ?_⟩
  · rw [ht]
    exact lifeSchedule_waits (hopen hw hn) hx hreq hsave (by simp [hst])
  · rw [ht]
    exact lifeSchedule_waits (hopen hw hn) hx hreq hsave (by simp [hst, hsave])
  · rw [ht]
    exact (lifeSchedule_waits (hopen hw hn) hx hreq hsave hok).trans (by rw [hsave]; rfl)
  · have hbeh : inRange beh 1 5 = true := by simp [inRange, h1, h5]
    rw [ht, sleeveBehaviourC, if_pos hbeh]
    exact lifeSchedule_waits (hopen hw hn) hx hreq hsave rfl
  · rw [ht]
    exact sleeveSaveC_begins (hopen hw hn) hx hreq hsave hst
  · rw [ht]
    exact lifeAdmit_alone (hopen' hw hn) hnone hq hpres hidle
  · rw [ht]
    exact lifeAdmit_both (hopen' hw hn) hnone hq hpres hidle htwin
  · rw [ht]
    exact lifeAdmit_queues (hopen hw hn) hnone hq hbusy
  · rw [ht, hrestore harg]
    exact lifeAdmit_alone (hopen' hw hn) hnone hq hpres hidle
  · rw [ht, hrestore harg]
    exact lifeAdmit_both (hopen' hw hn) hnone hq hpres hidle htwin
  · rw [ht, hrestore harg]
    exact lifeAdmit_queues (hopen hw hn) hnone hq hbusy

end Sys2Proof.Machine
end

section
/-! What the host asks of the Logic Scan Engine: on-line change, restart, forces (11 R354, R356, R358). -/
namespace Sys2Proof.Machine
open Sys2Proof

section
variable {c : Channel} {p : Path} {n : Nat} {L : Lse}

theorem noteLse_lse (f : Option (Nat × Nat × Nat)) (c : Channel) : (noteLse f c).lse = c.lse := by
  unfold noteLse
  split <;> rfl

/-- The check of an on-line change writes its report alone. -/
theorem changeChecked_lse {r : Option LseProg} {c1 : Channel} (h : changeChecked n L c = (r, c1)) : c1.lse = c.lse := by
  have hall : (changeChecked n L c).2.lse = c.lse := by
    unfold changeChecked
    simp only []
    split
    · exact noteLse_lse _ _
    · split_ifs <;> exact noteLse_lse _ _
  rw [h] at hall
  exact hall

/-- The on-line change once its gate is passed, its answer given. -/
theorem applyOnlineChangeC_checked (hlive : pathLive p c = true) (hreach : reaches p 0x2700 = true) (hmode : modeIn [3, 4, 5] c = true)
    (hn : n < 64) (hL : kGet c.lse n = some L) (hswap : L.swap = none) : match changeChecked n L c with
      | (none, _) => kGet (applyOnlineChangeC p n true c).lse n = some L
      | (some g, c1) => kGet (applyOnlineChangeC p n true c).lse n = some { L with swap := some (g, swapBoundary L c1) } := by
  rw [applyOnlineChangeC, writeGate_open _ hlive hreach hmode, if_neg (by simp), if_neg (Nat.not_le.2 hn)]
  simp only [hL, hswap, Option.isSome_none, Bool.false_eq_true, if_false]
  generalize hr : changeChecked n L c = x
  obtain ⟨_ | g, c1⟩ := x
  · show kGet (acceptOwn p c1).lse n = some L
    rw [acceptOwn_lse, changeChecked_lse hr]
    exact hL
  · show kGet (accept p (.swapLse n L.staged (swapBoundary L c1)) (putLse n { L with swap := some (g, swapBoundary L c1) } c1)).lse n =
      some { L with swap := some (g, swapBoundary L c1) }
    simp [putLse, kGet_kPut_same]

/-! ### Forces (11 R356) -/

theorem pendForce_pends (f : PendForce) (hL : kGet c.lse n = some L) : kGet (pendForce n f c).lse n =
    some { L with pendForces := L.pendForces.filter (fun x => x.f.ident != f.f.ident) ++ [f] } := by
  simp [pendForce, hL, putLse, kGet_kPut_same]

/-- What a force command asks of its program and its mode. -/
def ForceOk (set : Bool) (c : Channel) (n : Nat) (L : Lse) (id : U32) : Prop :=
  leads c = true ∧ (progAt L (cycleCeil L (nowNs c + 1000000))).vars.any (fun x => x.ident == id) = true ∧
    (set = true → (c.boot.mode = .commission ∨ inTest c n = true) ∧ (forcedBut L id).length < 256)

theorem forceCmd_pends {set : Bool} {f : Force} (hlive : pathLive p c = true) (hreach : reaches p 0x2700 = true)
    (hmode : modeIn [3, 4, 5] c = true) (hL : kGet c.lse n = some L) (hok : ForceOk set c n L f.ident) :
    kGet (forceCmd p n set f c).lse n = some { L with
      pendForces := L.pendForces.filter (fun x => x.f.ident != f.ident) ++ [⟨set, f, cycleCeil L (nowNs c + 1000000)⟩] } := by
  obtain ⟨hlead, hvar, hset⟩ := hok
  have htest : ¬ (set && c.boot.mode != .commission && !inTest c n) = true := by
    intro h
    simp only [Bool.and_eq_true, bne_iff_ne, Bool.not_eq_true'] at h
    obtain ⟨⟨hs, hm⟩, ht⟩ := h
    rcases (hset hs).1 with hc | hc
    · exact hm hc
    · rw [hc] at ht
      cases ht
  have hroom : ¬ (set && decide (256 ≤ (forcedBut L f.ident).length)) = true := by
    intro h
    simp only [Bool.and_eq_true, decide_eq_true_eq] at h
    exact absurd (hset h.1).2 (Nat.not_lt.2 h.2)
  rw [forceCmd, writeGate_open _ hlive hreach hmode, if_neg (by simp [hlead])]
  simp only [hL]
  rw [if_neg (by simp [hvar]), if_neg htest, if_neg hroom, post_lse]
  exact pendForce_pends _ (by simpa using hL)

theorem forceCmd_refused {f : Force} (hlive : pathLive p c = true) (hreach : reaches p 0x2700 = true)
    (hmode : modeIn [3, 4, 5] c = true) (hL : kGet c.lse n = some L) (hno : ¬ ForceOk true c n L f.ident) :
    (forceCmd p n true f c).lse = c.lse := by
  rw [forceCmd, writeGate_open _ hlive hreach hmode]
  simp only [hL]
  split_ifs with hlead hvar htest hroom
  · exact refuse_lse _ _ _ _ _
  · exact refuse_lse _ _ _ _ _
  · exact refuse_lse _ _ _ _ _
  · exact refuse_lse _ _ _ _ _
  · refine absurd ⟨by simpa using hlead, by simpa using hvar, fun _ => ⟨?_, by simpa using hroom⟩⟩ hno
    simpa [or_iff_not_imp_left] using htest

theorem lseRestartC_pends (hL : kGet c.lse n = some L) (hst : L.st = .faulted) (hlive : pathLive p c = true)
    (hreach : reaches p 0x2700 = true) (hmode : modeIn [3, 4, 5] c = true) :
    kGet (lseRestartC p n c).lse n = some { L with restartPend := true } := by
  rw [lseRestartC, writeGate_open _ hlive hreach hmode]
  simp only [hL]
  rw [if_pos hst, accept_lse, putLse, kGet_kPut_same]

end

/-- Settles O20: the on-line change, the restart, and forces taken and refused. -/
theorem lseHostCommands : Obligations.lse_host_commands := by
  unfold Obligations.lse_host_commands
  refine ⟨fun s p n L hw hheld hlead hn hL hswap => does_onPath_unheld rfl hw.1 hheld fun t ht => ?_,
    fun s p n L hw hL hst => does_onPath rfl hw.1 fun t m _ ht => ?_,
    fun s p n L id v v1 v2 hw hlead hL hvar hmode hroom => does_onPath rfl hw.1 fun t m _ ht => ?_,
    fun s p n L id v v1 v2 hw hL hno => does_onPath rfl hw.1 fun t m _ ht => ?_,
    fun s p n L id hw hlead hL hvar => does_onPath rfl hw.1 fun t m _ ht => ?_⟩
  · have hl : (pathChan s p == leadChan s) = true := by simp [hlead]
    rw [ht, hl]
    exact applyOnlineChangeC_checked (c := commitsEnded (atPath s p)) hw.2.1 hw.2.2.1 hw.2.2.2 hn hL hswap
  · rw [ht]
    exact lseRestartC_pends (c := arrived m (atPath s p)) hL hst hw.2.1 hw.2.2.1 hw.2.2.2
  · rw [ht]
    exact forceCmd_pends (c := arrived m (atPath s p)) hw.2.1 hw.2.2.1 hw.2.2.2 hL ⟨hlead, hvar, fun _ => ⟨hmode, hroom⟩⟩
  · rw [ht]
    refine forceCmd_refused (c := arrived m (atPath s p)) hw.2.1 hw.2.2.1 hw.2.2.2 hL ?_
    rintro ⟨hlead, hvar, hset⟩
    obtain ⟨hmode, hroom⟩ := hset rfl
    rcases hno with h | h | ⟨hm, ht⟩ | h
    · exact Bool.false_ne_true (h.symm.trans hlead)
    · exact Bool.false_ne_true (h.symm.trans hvar)
    · rcases hmode with hc | hc
      · exact hm hc
      · exact Bool.false_ne_true (ht.symm.trans hc)
    · exact absurd hroom (Nat.not_lt.2 h)
  · rw [ht]
    exact forceCmd_pends (c := arrived m (atPath s p)) hw.2.1 hw.2.2.1 hw.2.2.2 hL ⟨hlead, hvar, fun h => by cases h⟩

end Sys2Proof.Machine
end

section
/-! The operations of the dictionary through a path (21 R616 to R632; 15 R461). -/
namespace Sys2Proof.Machine
open Sys2Proof

section
variable {c : Channel} {p : Path} {index sub : Nat} {r : OdRow}

theorem echoC_answers {body : List Byte} (hsvc : ∀ ch n, p ≠ .svc ch n) (hlive : pathLive p c = true) (hsleeve : noSleeve p c = false)
    (hfits : 8 + body.length ≤ bufSize p) : echoC p body c = answer p 0 body c := by
  unfold echoC
  split
  · exact absurd rfl (hsvc _ _)
  · rw [if_neg (by simp [hlive]), if_neg (by simp [hsleeve]), if_neg (Nat.not_lt.2 hfits)]

theorem zeroBytes_length (n : Nat) : (zeroBytes n).length = n := by simp [zeroBytes]

/-- A write-only entry reads as zeros of its type's size. -/
theorem readC_writeOnly (br : Bridge) (off most : Nat) (hlive : pathLive p c = true) (hsleeve : noSleeve p c = false)
    (hindex : indexExists c index = true) (hrow : rowOf c index sub = some r) (hreach : reaches p index = true) (hacc : r.access = 3) :
    readC br p index sub off most c = returnPart p index sub r.ty off most (zeroBytes (typeSize r.ty)) c := by
  rw [readC, entryGate_open _ hlive hsleeve hindex hrow hreach, if_pos hacc]

/-- A DOMAIN read from its start: its value is copied for the path. -/
theorem readC_domain (br : Bridge) (most : Nat) {v : List Byte} (hlive : pathLive p c = true) (hsleeve : noSleeve p c = false)
    (hindex : indexExists c index = true) (hrow : rowOf c index sub = some r) (hreach : reaches p index = true) (hacc : r.access ≠ 3)
    (hty : r.ty = 0x0F) (harm : ¬(index = 0x3100 ∧ sub = 0x10)) (hexport : ¬(index = 0x2D00 ∧ sub = 0x15))
    (hv : valueOf br c r index sub = some v) (hlen : v.length ≤ 16777216) :
    readC br p index sub 0 most c = returnPart p index sub 0x0F 0 most v (setCopy p (od index sub) v c) := by
  rw [readC, entryGate_open _ hlive hsleeve hindex hrow hreach, if_neg hacc, if_neg harm, if_neg hexport, if_pos hty, hv]
  unfold domainRead
  simp only []
  rw [if_neg (Nat.not_lt.2 hlen), if_pos trivial]

theorem copyOf_setCopy (key : Nat) (v : List Byte) (c : Channel) : copyOf p key (setCopy p key v c) = some v := by
  simp [copyOf, setCopy]

theorem returnPart_dict (off most ty : Nat) (v : List Byte) (c : Channel) (hsvc : ∀ ch n, p ≠ .svc ch n) :
    (returnPart p index sub ty off most v c).dict = c.dict := by
  cases p with
  | svc ch n => exact absurd rfl (hsvc ch n)
  | pf0 => rfl
  | pf1 => rfl
  | pf2 => rfl
  | vf n => rfl

/-- The row of the update blob is a DOMAIN. -/
theorem rowOf_updateBlob (c : Channel) : ∃ r, rowOf c 0x2000 0x14 = some r ∧ r.ty = 0x0F := by
  have h : (odFind 0x2000 0x14).map (fun r => r.ty) = some 0x0F := by decide +kernel
  obtain ⟨r, hr, hty⟩ := Option.map_eq_some_iff.1 h
  exact ⟨r, by rw [rowOf, hr], hty⟩

theorem firmwareAbort_plain (twin : Channel) (hrow : rowOf c index sub = some r) (hty : r.ty ≠ 0x0F) : firmwareAbort p index sub twin = none := by
  rw [firmwareAbort, if_neg]
  rintro ⟨rfl, rfl⟩
  obtain ⟨r', hr, hty'⟩ := rowOf_updateBlob c
  rw [hrow] at hr
  exact hty (Option.some.inj hr ▸ hty')

/-! ### A plain entry written (21 R616, R618) -/

theorem rebody_ctr (f : List Byte → List Byte) (before after : Channel) : (rebody p f before after).ctr = after.ctr := by
  unfold rebody
  split <;> rfl

theorem kGet_putSetting (v : List Byte) (c : Channel) (hindex : index ≠ 0x2710) :
    kGet (putSetting index sub v c).dict.overlay (od index sub) = some v ∧ (putSetting index sub v c).ctr = c.ctr := by
  unfold putSetting
  rw [if_neg hindex]
  simp only []
  split_ifs <;> exact ⟨kGet_kPut_same _ _ _, rfl⟩

/-- Issuing Journal records counts among the Journal's own counters alone. -/
theorem zGet_journalDrain (l : List JRec) (k : Nat) (hk : k ≠ od 0x2F00 0x14) (c : Channel) : zGet (journalDrain l c).ctr k = zGet c.ctr k := by
  induction l generalizing c with
  | nil => rfl
  | cons x rest ih =>
    unfold journalDrain
    split
    · rw [ih]
      unfold journalStore
      split
      · rfl
      · exact zGet_bump_other _ _ _ hk
    · rfl

theorem zGet_journalAdd (cat item sleeve : Nat) (body : List Byte) (k : Nat) (hk : k ≠ od 0x2F00 0x14) (c : Channel) :
    zGet (journalAdd cat item sleeve body c).ctr k = zGet c.ctr k := zGet_journalDrain _ k hk c

/-- An accepted write is counted. -/
theorem zGet_accept (m : HostCmd) (c : Channel) : zGet (accept p m c).ctr (od 0x2000 0x1B) = zGet c.ctr (od 0x2000 0x1B) + 1 := by
  have htaken : ∀ d : Channel, zGet (journalAdd 3 (pathFn p) 0xFF [] (bump 0x2000 0x1B d)).ctr (od 0x2000 0x1B) =
      zGet d.ctr (od 0x2000 0x1B) + 1 := fun d => by
    rw [zGet_journalAdd _ _ _ _ _ (by decide), zGet_bump_same]
  unfold accept taken
  simp only []
  split_ifs
  · unfold post
    split_ifs
    · rw [zGet_bump_other _ _ _ (by decide)]
      exact htaken _
    · exact htaken _
  · exact htaken _

/-- A write of a whole plain value that waits for no instant. -/
theorem writeC_plain (lead : Bool) {data : List Byte} (twin : Channel) (hlive : pathLive p c = true) (hsleeve : noSleeve p c = false)
    (hindex : indexExists c index = true) (hrow : rowOf c index sub = some r) (hreach : reaches p index = true)
    (h1 : r.access ≠ 1) (h4 : r.access ≠ 4) (hty : r.ty ≠ 0x0F) (hmask : r.mask.testBit (modeCode c.boot.mode - 1) = true)
    (hfits : data.length ≤ dataMost p) (hvalue : valueAbort r index sub data = none) (hcmd : commandWrite p lead index sub data twin = none)
    (hrule : ruleAbort c index sub data = none) (hnow : effectInstant c index sub = none) :
    writeC p lead index sub true true 0 data.length data twin c = rebody p (fun _ => writeHead index sub (0 + data.length)) c
      (putSetting index sub data (accept p (.write (od index sub) data) c)) := by
  rw [writeC, entryGate_open _ hlive hsleeve hindex hrow hreach]
  rw [if_neg (by simp [h1, h4]), if_neg (by simp [hmask]), if_neg (Nat.not_lt.2 hfits), firmwareAbort_plain twin hrow hty]
  simp only []
  rw [if_neg hty, if_neg (by simp), if_neg (by simp)]
  unfold writeValue acceptSetting
  rw [hvalue, hcmd, hrule, hnow]

theorem writeC_readOnly (lead first last : Bool) (off total : Nat) (data : List Byte) (twin : Channel) (hlive : pathLive p c = true)
    (hsleeve : noSleeve p c = false) (hindex : indexExists c index = true) (hrow : rowOf c index sub = some r) (hreach : reaches p index = true)
    (h1 : r.access = 1) : writeC p lead index sub first last off total data twin c = refuse 0x0103 index sub p c := by
  rw [writeC, entryGate_open _ hlive hsleeve hindex hrow hreach, if_pos (Or.inl h1)]

theorem refuse_overlay (code : Nat) (c : Channel) : (refuse code index sub p c).dict.overlay = c.dict.overlay := by
  simp [refuse, answer, setRo]

theorem refuse_ctr (code : Nat) (c : Channel) : (refuse code index sub p c).ctr = (bump 0x2000 0x1C c).ctr := rfl

/-! ### The end of a session (21 R625) -/

theorem sessionOf_endSession (c : Channel) : sessionOf p (od index sub) (endSession p index sub c) = none := by
  have hdrop := sessionOf_dropSession p (od index sub) c
  unfold endSession
  split
  · assumption
  · simp only []
    split_ifs
    · rw [sessionOf_of_dict (post_dict _ _), sessionOf_of_dict (imageBroken_dict _ _), hdrop]
    · rw [sessionOf_of_dict (imageBroken_dict _ _), hdrop]
    · exact hdrop

theorem writeSessionTimeoutC_marks {key : Nat} {x : WSession} (h : sessionOf p key c = some x) (hx : x.timedOut = false) :
    sessionOf p key (writeSessionTimeoutC p key c) = some { x with timedOut := true, data := [] } := by
  have hkeys : x.path = p ∧ x.key = key := by
    have := List.find?_some h
    simpa using this
  have hnew := sessionOf_putSession { x with timedOut := true, data := [] } (endSession p (key / 256) (key % 256) c)
  unfold writeSessionTimeoutC
  rw [h]
  simp only [hx, Bool.false_eq_true, if_false]
  simp only [hkeys.1, hkeys.2] at hnew ⊢
  exact hnew

theorem mem_dropCopy (p : Path) (c : Channel) (x : RCopy) : x ∈ (dropCopy p c).dict.copies ↔ x ∈ c.dict.copies ∧ x.path ≠ p := by
  simp [dropCopy, List.mem_filter]

end

section
variable {s : State} {p : Path} {index sub : Nat} {r : OdRow}

/-- The rules of a write do not read the counters. -/
theorem ruleAbort_arrived (m : KMap U64) (c : Channel) (v : List Byte) : ruleAbort (arrived m c) index sub v = ruleAbort (commitsEnded c) index sub v := rfl

theorem effectInstant_arrived (m : KMap U64) (c : Channel) : effectInstant (arrived m c) index sub = effectInstant (commitsEnded c) index sub := rfl
end

/-- Settles O19: READ, WRITE, DESCRIBE, ABORT and ECHO, a session's timeout and a copy's lapse. -/
theorem dictionaryOperations : Obligations.dictionary_operations := by
  unfold Obligations.dictionary_operations
  refine ⟨fun s p tag body hp hlive hsvc hsleeve hfits => does_onPath rfl hp fun t m _ ht => ?_,
    fun s p tag index sub off most r v h hheld hacc hty harm hexport _ hv => ?_,
    fun s p tag index sub off most r h hacc => ?_,
    fun s p tag index sub most r v h hheld hacc hty harm hexport hv hlen => ?_,
    fun s p tag index sub data r h h1 h4 hty hmask hfits hvalue hcmd hrule hnow hindex => ?_,
    fun s p tag index sub data r h h1 => ?_,
    fun s p tag index sub total data r h h1 h4 hty hfits himage hmask hfree htotal hlen => ?_,
    fun s p tag index sub r h => ?_, fun s p tag index sub r h => ?_,
    fun s ch p key x h hx => does_onChan rfl fun t ht ho => ?_,
    fun s ch p => does_onChan rfl fun t ht ho => ?_⟩
  · rw [ht, echoC_answers (c := arrived m (atPath s p)) hsvc hlive hsleeve hfits]
    rfl
  · obtain ⟨hp, hlive, hsleeve, hidx, hrow, hreach⟩ := h
    refine does_onPath_unheld rfl hp hheld fun t ht => ?_
    rw [ht, readC_plain (c := commitsEnded (atPath s p)) s.bridge hlive hsleeve hidx hrow hreach hacc hty harm hexport hv,
      returnPart_emitted, drawn_emitted]
    rfl
  · obtain ⟨hp, hlive, hsleeve, hidx, hrow, hreach⟩ := h
    refine does_onPath rfl hp fun t m _ ht => ?_
    rw [ht, readC_writeOnly (c := arrived m (atPath s p)) s.bridge off most hlive hsleeve hidx hrow hreach hacc, returnPart_emitted,
      zeroBytes_length]
    rfl
  · obtain ⟨hp, hlive, hsleeve, hidx, hrow, hreach⟩ := h
    refine does_onPath_unheld rfl hp hheld fun t ht => ?_
    rw [ht, readC_domain (c := commitsEnded (atPath s p)) s.bridge most hlive hsleeve hidx hrow hreach hacc hty harm hexport hv hlen]
    refine ⟨returnPart_emitted _ _ _ _ _, fun hsvc => ?_⟩
    rw [copyOf, returnPart_dict _ _ _ _ _ hsvc]
    exact copyOf_setCopy _ _ _
  · obtain ⟨hp, hlive, hsleeve, hidx, hrow, hreach⟩ := h
    refine does_onPath (f := writeC p (pathChan s p == leadChan s) index sub true true 0 data.length data (chanOf s (pathChan s p).twin))
      rfl hp fun t m hm ht => ?_
    rw [ht, writeC_plain (c := arrived m (atPath s p)) _ _ hlive hsleeve hidx hrow hreach h1 h4 hty hmask hfits hvalue hcmd
      ((ruleAbort_arrived m _ data).trans hrule) ((effectInstant_arrived m _).trans hnow), rebody_dict, rebody_ctr]
    obtain ⟨hput, hctr⟩ := kGet_putSetting (sub := sub) data (accept p (.write (od index sub) data) (arrived m (atPath s p))) hindex
    rw [hctr, zGet_accept]
    exact ⟨hput, congrArg (· + 1) (hm _ (by decide))⟩
  · obtain ⟨hp, hlive, hsleeve, hidx, hrow, hreach⟩ := h
    refine does_onPath (f := writeC p (pathChan s p == leadChan s) index sub true true 0 data.length data (chanOf s (pathChan s p).twin))
      rfl hp fun t m hm ht => ?_
    rw [ht, writeC_readOnly (c := arrived m (atPath s p)) _ _ _ _ _ _ _ hlive hsleeve hidx hrow hreach h1, refuse_overlay, refuse_ctr, zGet_bump_same]
    exact ⟨rfl, congrArg (· + 1) (hm _ (by decide))⟩
  · obtain ⟨hp, hlive, hsleeve, hidx, hrow, hreach⟩ := h
    refine does_onPath (f := writeC p (pathChan s p == leadChan s) index sub true false 0 total data (chanOf s (pathChan s p).twin))
      rfl hp fun t m hm ht => ?_
    rw [ht, sessionOf_of_dict (writeC_domain (c := arrived m (atPath s p)) _ true false _ hlive hsleeve hidx hrow hreach h1 h4 hty himage hmask hfits),
      writeSegment_opens (c := arrived m (atPath s p)) _ _ himage hfree htotal hlen, sessionOf_answer]
    exact sessionOf_putSession ⟨od index sub, p, total, data, false⟩ _
  · obtain ⟨hp, hlive, hsleeve, hidx, hrow, hreach⟩ := h
    refine does_onPath rfl hp fun t m _ ht => ?_
    rw [ht, describeC, entryGate_open (c := arrived m (atPath s p)) _ hlive hsleeve hidx hrow hreach]
    rfl
  · obtain ⟨hp, hlive, hsleeve, hidx, hrow, hreach⟩ := h
    refine does_onPath rfl hp fun t m _ ht => ?_
    rw [ht, abortC, entryGate_open (c := arrived m (atPath s p)) _ hlive hsleeve hidx hrow hreach, sessionOf_answer]
    exact sessionOf_endSession _
  · rw [ht]
    exact ⟨writeSessionTimeoutC_marks (c := commitsEnded (chanOf s ch)) h hx, ho.1⟩
  · rw [ht]
    exact ⟨fun x hx => ((mem_dropCopy p _ x).1 hx).2, fun x hx hne => (mem_dropCopy p _ x).2 ⟨hx, hne⟩, ho⟩
end Sys2Proof.Machine
end

section
/-! The footprints of digests and of Retain flushes (11 R352; 12 R374 to R376). -/
namespace Sys2Proof.Machine
open Sys2Proof

/-- What a digest that closes or is compared may change. -/
abbrev digestParts : List Part := [.seam, .journal, .dict, .ctr, .host, .diag, .emitted]

section
variable {A : List Part} {c d : Channel}

@[simp] theorem touches_disagree (cls t : Nat) (ss : List Nat) (hA : digestParts ⊆ A) : Touches A c (disagree cls t ss d) ↔ Touches A c d := by
  refine Touches.iff (B := digestParts) ?_ hA c
  have h : Touches digestParts d (raiseLimited 8 (ss.head?.getD 0xFF) cls 0 0
      (setRoFF 0x2800 0x10 cls (setRoFF 0x2800 0x0F (ss.head?.getD 0xFF) (setRo 0x2800 0x0E t (bump 0x2800 0x0A d))))) := by simp
  unfold disagree
  simp only []
  generalize raiseLimited 8 (ss.head?.getD 0xFF) cls 0 0 _ = e at h ⊢
  split
  · exact h.trans (by simp)
  · split_ifs
    · exact h.trans (by simp)
    · exact h.trans (by simp)

@[simp] theorem touches_inputDivergence (cls t : Nat) (hA : digestParts ⊆ A) : Touches A c (inputDivergence cls t d) ↔ Touches A c d := by
  refine Touches.iff (B := digestParts) ?_ hA c
  unfold inputDivergence
  simp only []
  split_ifs <;> simp

@[simp] theorem touches_digestCompare (x y : Digest) (hA : digestParts ⊆ A) : Touches A c (digestCompare x y d) ↔ Touches A c d := by
  refine Touches.iff (B := digestParts) ?_ hA c
  unfold digestCompare
  split_ifs <;> simp

@[simp] theorem touches_closeAs (r : MRec) (x : Digest) (hA : digestParts ⊆ A) : Touches A c (closeAs r x d) ↔ Touches A c d := by
  refine Touches.iff (B := digestParts) ?_ hA c
  have h : Touches digestParts d (post r d) := by simp
  unfold closeAs
  simp only []
  split
  · rw [touches_digestCompare _ _ (List.Subset.refl _)]
    exact h.trans (by simp)
  · split_ifs
    · exact h.trans (by simp)
    · exact h

@[simp] theorem touches_closeDigest (x : Digest) (hA : digestParts ⊆ A) : Touches A c (closeDigest x d) ↔ Touches A c d := touches_closeAs _ x hA
@[simp] theorem touches_closeRetain (n t : Nat) (v : U64) (hA : digestParts ⊆ A) : Touches A c (closeRetain n t v d) ↔ Touches A c d :=
  touches_closeAs _ _ hA

/-- What a Retain flush may change. -/
abbrev flushParts : List Part := [.lse, .retain, .epUJ, .ledger, .journal, .seam, .dict, .ctr, .host, .diag, .emitted]

@[simp] theorem touches_retainCommit (n : Nat) (L : Lse) (hA : flushParts ⊆ A) : Touches A c (retainCommit n L d) ↔ Touches A c d := by
  refine Touches.iff (B := flushParts) ?_ hA c
  simp [retainCommit, putLse]

/-- What a flush leaves once its hold-up check is answered. -/
def flushed (n : Nat) (L : Lse) (x : Bool × Channel) : Channel :=
  if x.1 then retainCommit n L x.2 else bump 0x2700 0x0C (putLse n { L with flushDue := true } x.2)

/-- The definition is unfolded as a function, not under its arguments: its check's bound is a subtraction that must not be evaluated. -/
theorem retainFlush_eq (n : Nat) (L : Lse) (c : Channel) :
    retainFlush n L c = flushed n L (commitCheck 1 n (energyRetain L.snap.length) c) := by
  obtain ⟨f, hf⟩ : ∃ f, f = retainFlush := ⟨_, rfl⟩
  rw [← hf]
  delta retainFlush at hf
  have hc := congrFun (congrFun (congrFun hf n) L) c
  clear hf
  beta_reduce at hc
  generalize commitCheck 1 n (energyRetain L.snap.length) c = x at hc ⊢
  obtain ⟨passed, e⟩ := x
  cases passed <;> exact hc

@[simp] theorem touches_retainFlush (n : Nat) (L : Lse) (hA : flushParts ⊆ A) : Touches A c (retainFlush n L d) ↔ Touches A c d := by
  refine Touches.iff (B := flushParts) ?_ hA c
  have hcheck (ec : Nat) : Touches flushParts d (commitCheck 1 n ec d).2 := by simp
  have h := hcheck (energyRetain L.snap.length)
  rw [retainFlush_eq, flushed]
  generalize commitCheck 1 n (energyRetain L.snap.length) d = x at h ⊢
  split_ifs
  · rw [touches_retainCommit _ _ (List.Subset.refl _)]
    exact h
  · rw [touches_bump _ _ (by simp)]
    exact h.trans (by simp [putLse])

@[simp] theorem touches_retainFlushEvery (hA : flushParts ⊆ A) : Touches A c (retainFlushEvery d) ↔ Touches A c d := by
  refine Touches.iff (B := flushParts) ?_ hA c
  refine Touches.foldl (fun e x => ?_) d.lse d
  split <;> simp

end

end Sys2Proof.Machine
end

section
/-! Mode requests, restarts on request, and the switch boundary (02 R46, R52 to R54). -/
namespace Sys2Proof.Machine
open Sys2Proof

theorem abortHeld_supply (s : State) : (abortHeld s).supply = s.supply ∧ (abortHeld s).pending = s.pending ∧
    chanOf (abortHeld s) (leadChan s).twin = chanOf s (leadChan s).twin := by
  unfold abortHeld
  split
  · exact ⟨rfl, rfl, rfl⟩
  · simp only []
    cases leadChan s <;> exact ⟨rfl, rfl, rfl⟩

/-- A request through a path as it is carried out: it concerns the channel it reaches alone. -/
theorem onPath_alone {s : State} {p : Path} (hp : PathReady s p) (i : Instr) (f : Channel → Channel) :
    ∃ t m, onPath p i f s = .next t ∧ SameCounters m (atPath s p) ∧ chanOf t (pathChan s p) = f (arrived m (atPath s p)) ∧
      chanOf t (pathChan s p).twin = chanOf s (pathChan s p).twin ∧ t.supply = s.supply ∧ t.pending = s.pending := by
  have hready : onPath p i f s = onChan (pathChan s p) f (if pathBoth p then abortHeld s else s) := by
    rw [onPath_carried hp.1 hp.2]
  obtain ⟨hsup, hpend, htwin⟩ := abortHeld_supply s
  cases hb : pathBoth p with
  | false =>
    rw [hb] at hready
    refine ⟨_, (atPath s p).ctr, hready, fun _ _ => rfl, ?_, ?_, ?_, ?_⟩ <;> simp [atPath, arrived, commitsEnded]
  | true =>
    have hlead : pathChan s p = leadChan s := by cases p <;> simp [pathBoth] at hb <;> rfl
    obtain ⟨m, hm, hsame⟩ := arrived_of_ready s (abortHeld s) p (.inr rfl)
    rw [hb] at hready
    refine ⟨_, m, hready, hsame, ?_, ?_, ?_, ?_⟩
    · simp [hm]
    · simpa [hlead] using htwin
    · simpa using hsup
    · simpa using hpend

theorem does_onPath_alone {i : Instr} {p : Path} {f : Channel → Channel} {s : State} {P : State → Prop} (hi : exec i s = onPath p i f s)
    (hp : PathReady s p)
    (h : ∀ t m, SameCounters m (atPath s p) → chanOf t (pathChan s p) = f (arrived m (atPath s p)) →
      chanOf t (pathChan s p).twin = chanOf s (pathChan s p).twin → t.supply = s.supply → t.pending = s.pending → P t) : Does i s P := by
  obtain ⟨t, m, ht, hsame, hown, htwin, hsup, hpend⟩ := onPath_alone hp i f
  exact ⟨t, hi.trans ht, h t m hsame hown htwin hsup hpend⟩

theorem modeIn_mono {l k : List Nat} {c : Channel} (h : modeIn l c = true) (hk : l ⊆ k) : modeIn k c = true := by
  simp only [modeIn, List.contains_iff_mem] at h ⊢
  exact hk h

theorem mode_of_modeIn_hold {c : Channel} (h : modeIn [2] c = true) : c.boot.mode = .hold := by
  cases hm : c.boot.mode <;> simp [modeIn, hm, modeCode] at h ⊢

theorem mode_of_modeIn_active {c : Channel} (h : modeIn [5] c = true) : c.boot.mode = .active := by
  cases hm : c.boot.mode <;> simp [modeIn, hm, modeCode] at h ⊢

theorem not_hold_of_modeIn {c : Channel} (h : modeIn [3, 4, 5] c = true) : c.boot.mode ≠ .hold := by
  intro hm
  simp [modeIn, hm, modeCode] at h

section
variable {c twin : Channel} {p : Path}

/-- A mode request that finds none being applied. -/
theorem modeGate_open (k : Channel → Channel) (hlive : pathLive p c = true) (hreach : reaches p 0x2000 = true)
    (hmode : modeIn [2, 3, 4, 5] c = true) (hpend : c.boot.pendingMode = none) : modeGate p k c = k c := by
  rw [modeGate, writeGate_open _ hlive hreach hmode]
  simp [hpend]

theorem modeRequest_waits {req : Nat} (hlive : pathLive p c = true) (hreach : reaches p 0x2000 = true)
    (hmode : modeIn [2, 3, 4, 5] c = true) (hpend : c.boot.pendingMode = none) (hreq : req = 1 ∨ c.boot.mode ≠ .hold) :
    (modeRequest req p c).boot = { c.boot with pendingMode := some (req, p1After 1000000 c) } := by
  rw [modeRequest, modeGate_open _ hlive hreach hmode hpend, if_neg (by rcases hreq with h | h <;> simp [h])]
  simp [accept, pendMode]

theorem modeRequest_inHold {req : Nat} (hlive : pathLive p c = true) (hreach : reaches p 0x2000 = true)
    (hmode : c.boot.mode = .hold) (hpend : c.boot.pendingMode = none) (hreq : req ≠ 1) :
    (modeRequest req p c).boot = c.boot := by
  rw [modeRequest, modeGate_open _ hlive hreach (by simp [modeIn, hmode, modeCode]) hpend, if_pos (by simp [hreq, hmode])]
  exact refuse_boot _ _ _ _ _

/-- What a restart on request leaves, whether it flushes first or not. -/
theorem restartBoot_of_touched {A : List Part} {d : Channel} (h : Touches A c d) (hA : Part.psu ∉ A) (cause : Nat) :
    (restartBoot cause 0 d).boot.mode = .boot ∧ (restartBoot cause 0 d).boot.cause = cause ∧
      (restartBoot cause 0 d).boot.phase = (if c.psu.linState = .charged then 1 else 16) ∧
      (restartBoot cause 0 d).seam.holdCtl = false ∧ (restartBoot cause 0 d).boot.graphsRun = false := by
  have hpsu : d.psu = c.psu := h .psu hA
  obtain ⟨hhold, -, -, hrun⟩ := restartBoot_idle d cause 0
  rw [restartBoot_boot]
  rw [restartBoot_boot] at hrun
  exact ⟨rfl, rfl, by rw [restartedBoot, hpsu], hhold, hrun⟩

theorem flushed_request (c : Channel) : Touches flushParts c (retainFlushEvery (acceptOwn p c)) := by simp
theorem accepted_request (c : Channel) : Touches flushParts c (acceptOwn p c) := by simp

theorem modeRestart_restarts (hlive : pathLive p c = true) (hreach : reaches p 0x2000 = true) (hmode : modeIn [2, 3, 4, 5] c = true)
    (hpend : c.boot.pendingMode = none) (htake : c.seam.takeover = none) (hready : c.boot.mode ≠ .active ∨ twinReady twin c = true) :
    modeRestart p twin c = restartBoot 3 0 (retainFlushEvery (acceptOwn p c)) := by
  rw [modeRestart, modeGate_open _ hlive hreach hmode hpend, if_neg (by simp [htake]), if_neg]
  rcases hready with h | h <;> simp [h]

theorem modeRestart_refused (hlive : pathLive p c = true) (hreach : reaches p 0x2000 = true) (hmode : c.boot.mode = .active)
    (hpend : c.boot.pendingMode = none) (htake : c.seam.takeover = none) (hready : twinReady twin c = false) :
    modeRestart p twin c = refuse 0x0105 0x2000 3 p c := by
  rw [modeRestart, modeGate_open _ hlive hreach (by simp [modeIn, hmode, modeCode]) hpend, if_neg (by simp [htake]), if_pos (by simp [hmode, hready])]

theorem modeRestart_waits {h : Takeover} (hlive : pathLive p c = true) (hreach : reaches p 0x2000 = true)
    (hmode : modeIn [2, 3, 4, 5] c = true) (hpend : c.boot.pendingMode = none) (htake : c.seam.takeover = some h) :
    (modeRestart p twin c).boot = { c.boot with pendingMode := some (4, nowNs c) } := by
  rw [modeRestart, modeGate_open _ hlive hreach hmode hpend, if_pos (by simp [htake])]
  simp [pendMode]

theorem forceRestartC_restarts (hlive : pathLive p c = true) (hreach : reaches p 0x2000 = true) (hpend : c.boot.pendingMode = none)
    (htake : c.seam.takeover = none) (hmode : c.boot.mode = .active) : forceRestartC p c = restartBoot 3 0 (acceptOwn p c) := by
  rw [forceRestartC, modeGate_open _ hlive hreach (by simp [modeIn, hmode, modeCode]) hpend, if_neg (by simp [htake]), if_pos (by simp [hmode])]

theorem forceRestartC_waits {h : Takeover} (hlive : pathLive p c = true) (hreach : reaches p 0x2000 = true)
    (hmode : modeIn [2, 3, 4, 5] c = true) (hpend : c.boot.pendingMode = none) (htake : c.seam.takeover = some h) :
    (forceRestartC p c).boot = { c.boot with pendingMode := some (0x84, nowNs c) } := by
  rw [forceRestartC, modeGate_open _ hlive hreach hmode hpend, if_pos (by simp [htake])]
  simp [pendMode]

/-! ### The switch boundary (02 R53, R54) -/

/-- The channel at the boundary of a request, before the request is applied. -/
def atSwitch (t : Nat) (c : Channel) : Channel := advanceTo t { c with boot := { c.boot with pendingMode := none } }

theorem modeSwitch_applies {req t : Nat} (hpend : c.boot.pendingMode = some (req, t)) (htake : c.seam.takeover = none) :
    modeSwitch twin c = applyMode req twin (atSwitch t c) := by
  unfold modeSwitch
  simp only [hpend, htake]
  rfl

@[simp] theorem atSwitch_boot (t : Nat) (c : Channel) : (atSwitch t c).boot = { c.boot with pendingMode := none } := by simp [atSwitch]
@[simp] theorem atSwitch_seam (t : Nat) (c : Channel) : (atSwitch t c).seam = c.seam := by simp [atSwitch]
@[simp] theorem atSwitch_psu (t : Nat) (c : Channel) : (atSwitch t c).psu = c.psu := by simp [atSwitch]

theorem toHold_holds (c : Channel) : (toHold c).boot.mode = .hold ∧ (toHold c).boot.holdReason = 0x0A ∧ (toHold c).pub.cuff = false ∧
    (toHold c).graphs = [] ∧ (toHold c).sleeves = [] := by
  have h : toHold c = enterMode .hold { (dropControl (unloadImage (retainFlushEvery c))) with
      boot := { (dropControl (unloadImage (retainFlushEvery c))).boot with holdReason := 0x0A, phase := 0x20 } } ∨
    toHold c = bootstatChange (enterMode .hold { (dropControl (unloadImage (retainFlushEvery c))) with
      boot := { (dropControl (unloadImage (retainFlushEvery c))).boot with holdReason := 0x0A, phase := 0x20 } }) := by
    unfold toHold enterHold
    simp only []
    split_ifs
    · exact .inl rfl
    · exact .inr rfl
  rcases h with h | h <;> rw [h] <;> simp [bootstatChange, emit, dropControl, unloadImage]

theorem toCommission_commissions (c : Channel) : (toCommission c).boot = { c.boot with mode := .commission } ∧
    (toCommission c).slots.intentOperate = false ∧ (c.seam.holdCtl = true → (toCommission c).pub.cuff = true) := by
  unfold toCommission
  simp only []
  split_ifs with h
  · simp [openCuff]
  · simp only [enterMode_boot, enterMode_slots, enterMode_seam, enterMode_pub, Bool.and_eq_true, Bool.not_eq_true', not_and] at h ⊢
    exact ⟨trivial, trivial, fun hh => by simpa using h hh⟩

@[simp] theorem startResync_boot (n : Nat) (c : Channel) : (startResync n c).boot = c.boot := by simp [startResync]
@[simp] theorem startResync_slots (n : Nat) (c : Channel) : (startResync n c).slots = c.slots := by simp [startResync]
@[simp] theorem startResync_pub (n : Nat) (c : Channel) : (startResync n c).pub = c.pub := by simp [startResync]

/-- A channel without control enters STANDBY with its Cuff closed. -/
theorem toStandby_stands (h : c.seam.holdCtl = false) : (toStandby c).boot = { c.boot with mode := .standby } ∧
    (toStandby c).slots.intentOperate = true ∧ (toStandby c).pub.cuff = false := by
  unfold toStandby
  simp only []
  rw [if_neg (by simp [h])]
  split_ifs <;> simp

end

/-- Settles O17: mode requests, restarts on request, and the switch boundary. -/
theorem modeRequests : Obligations.mode_requests := by
  unfold Obligations.mode_requests
  refine ⟨fun s p ⟨hp, hlive, hreach, hmode⟩ hpend => does_onPath_alone rfl hp fun t m _ ht _ hsup hq => ?_,
    fun s p ⟨hp, hlive, hreach, hmode⟩ hpend => does_onPath_alone rfl hp fun t m _ ht _ hsup hq => ?_,
    fun s p ⟨hp, hlive, hreach, hmode⟩ hpend => does_onPath_alone rfl hp fun t m _ ht _ hsup hq => ?_,
    fun s p ⟨hp, hlive, hreach, hmode⟩ hpend => ⟨does_onPath rfl hp fun t m _ ht => ?_, does_onPath rfl hp fun t m _ ht => ?_⟩,
    fun s p ⟨hp, hlive, hreach, hmode⟩ hpend htake hready =>
      does_onPath_alone (f := modeRestart p (chanOf s (pathChan s p).twin)) rfl hp fun t m _ ht htwin _ _ => ?_,
    fun s p ⟨hp, hlive, hreach, hmode⟩ hpend htake hready =>
      does_onPath (f := modeRestart p (chanOf s (pathChan s p).twin)) rfl hp fun t m _ ht => ?_,
    fun s p ⟨hp, hlive, hreach, _⟩ hpend htake hmode => does_onPath_alone rfl hp fun t m _ ht htwin _ _ => ?_,
    fun s p h ⟨hp, hlive, hreach, hmode⟩ hpend htake =>
      ⟨does_onPath (f := modeRestart p (chanOf s (pathChan s p).twin)) rfl hp fun t m _ ht => ?_, does_onPath rfl hp fun t m _ ht => ?_⟩,
    fun s ch t0 hreq htake => does_onChan_serving (f := modeSwitch (chanOf s ch.twin)) rfl fun t ht _ => ?_,
    fun s ch t0 hreq htake _ => does_onChan_serving (f := modeSwitch (chanOf s ch.twin)) rfl fun t ht _ => ?_,
    fun s ch t0 hreq htake hmode => does_onChan_serving (f := modeSwitch (chanOf s ch.twin)) rfl fun t ht _ => ?_,
    fun s ch t0 hreq htake hmode => does_onChan_serving (f := modeSwitch (chanOf s ch.twin)) rfl fun t ht _ => ?_,
    fun s ch t0 hreq htake hmode hhold hclock => does_onChan_serving (f := modeSwitch (chanOf s ch.twin)) rfl fun t ht _ => ?_⟩ <;> rw [ht]
  · rw [modeRequest_waits (c := arrived m (atPath s p)) hlive hreach hmode hpend (.inl rfl)]
    exact ⟨rfl, rfl, hsup, hq⟩
  · rw [modeRequest_waits (c := arrived m (atPath s p)) hlive hreach (modeIn_mono hmode (by decide)) hpend (.inr (not_hold_of_modeIn hmode))]
    exact ⟨rfl, rfl, hsup, hq⟩
  · rw [modeRequest_waits (c := arrived m (atPath s p)) hlive hreach (modeIn_mono hmode (by decide)) hpend (.inr (not_hold_of_modeIn hmode))]
    exact ⟨rfl, rfl, hsup, hq⟩
  · rw [modeRequest_inHold (c := arrived m (atPath s p)) hlive hreach (mode_of_modeIn_hold hmode) hpend (by decide)]
    exact ⟨hpend, mode_of_modeIn_hold hmode⟩
  · rw [modeRequest_inHold (c := arrived m (atPath s p)) hlive hreach (mode_of_modeIn_hold hmode) hpend (by decide)]
    exact ⟨hpend, mode_of_modeIn_hold hmode⟩
  · rw [modeRestart_restarts (c := arrived m (atPath s p)) hlive hreach hmode hpend htake hready]
    obtain ⟨hm, hc, hph, hh, hr⟩ := restartBoot_of_touched (flushed_request (p := p) (arrived m (atPath s p))) (by decide) 3
    exact ⟨hm, hc, hph, hh, hr, htwin⟩
  · rw [modeRestart_refused (c := arrived m (atPath s p)) hlive hreach (mode_of_modeIn_active hmode) hpend htake hready, refuse_boot, refuse_seam]
    exact ⟨mode_of_modeIn_active hmode, rfl⟩
  · rw [forceRestartC_restarts (c := arrived m (atPath s p)) hlive hreach hpend htake hmode]
    obtain ⟨hm, hc, -, hh, -⟩ := restartBoot_of_touched (accepted_request (p := p) (arrived m (atPath s p))) (by decide) 3
    exact ⟨hm, hc, hh, htwin⟩
  · rw [modeRestart_waits (c := arrived m (atPath s p)) hlive hreach hmode hpend htake]
    exact ⟨rfl, rfl⟩
  · rw [forceRestartC_waits (c := arrived m (atPath s p)) hlive hreach hmode hpend htake]
    exact ⟨rfl, rfl⟩
  · rcases hreq with ⟨hpend, hmode⟩ | ⟨hpend, hmode⟩ <;> rw [modeSwitch_applies (c := commitsEnded (chanOf s ch)) hpend htake]
    · have h : applyMode 4 (chanOf s ch.twin) (atSwitch t0 (commitsEnded (chanOf s ch))) =
          restartBoot 3 0 (retainFlushEvery (atSwitch t0 (commitsEnded (chanOf s ch)))) := by simp [applyMode, hmode]
      rw [h, restartBoot_boot]
      exact ⟨rfl, rfl⟩
    · have h : applyMode 0x84 (chanOf s ch.twin) (atSwitch t0 (commitsEnded (chanOf s ch))) =
          restartBoot 3 0 (atSwitch t0 (commitsEnded (chanOf s ch))) := by simp [applyMode, hmode]
      rw [h, restartBoot_boot]
      exact ⟨rfl, rfl⟩
  · rw [modeSwitch_applies (c := commitsEnded (chanOf s ch)) hreq htake]
    have h : applyMode 5 (chanOf s ch.twin) (atSwitch t0 (commitsEnded (chanOf s ch))) =
        restartBoot 5 0 (atSwitch t0 (commitsEnded (chanOf s ch))) := by simp [applyMode]
    rw [h, restartBoot_boot]
    exact ⟨rfl, rfl⟩
  · rw [modeSwitch_applies (c := commitsEnded (chanOf s ch)) hreq htake]
    have h : applyMode 1 (chanOf s ch.twin) (atSwitch t0 (commitsEnded (chanOf s ch))) =
        toHold (atSwitch t0 (commitsEnded (chanOf s ch))) := by simp [applyMode, hmode]
    rw [h]
    exact toHold_holds _
  · rw [modeSwitch_applies (c := commitsEnded (chanOf s ch)) hreq htake]
    have h : applyMode 2 (chanOf s ch.twin) (atSwitch t0 (commitsEnded (chanOf s ch))) =
        toCommission (atSwitch t0 (commitsEnded (chanOf s ch))) := by
      rcases hmode with hm | hm <;> simp [applyMode, hm]
    obtain ⟨hboot, hintent, hcuff⟩ := toCommission_commissions (atSwitch t0 (commitsEnded (chanOf s ch)))
    rw [h, hboot]
    exact ⟨rfl, hintent, by simp, fun hh => hcuff (by simpa using hh)⟩
  · rw [modeSwitch_applies (c := commitsEnded (chanOf s ch)) hreq htake]
    have h : applyMode 3 (chanOf s ch.twin) (atSwitch t0 (commitsEnded (chanOf s ch))) =
        toStandby (atSwitch t0 (commitsEnded (chanOf s ch))) := by simp [applyMode, hmode, hclock]
    obtain ⟨hboot, hintent, hcuff⟩ := toStandby_stands (c := atSwitch t0 (commitsEnded (chanOf s ch))) (by simpa using hhold)
    rw [h, hboot]
    exact ⟨rfl, hintent, by simp, hcuff⟩
end Sys2Proof.Machine
end

section
/-! Activation of a slot, firmware commit and restore (02 R66 to R70; 21 R621, R632). -/
namespace Sys2Proof.Machine
open Sys2Proof

/-! ### Activation -/

theorem setSlot_committed (n : Nat) (x : Slot) (c : Channel) : (setSlot n x c).slots.committed = c.slots.committed := by
  unfold setSlot
  simp only []
  split_ifs <;> rfl

theorem noteGraph_slots (e : Option GFail) (c : Channel) : (noteGraph e c).slots = c.slots := by
  unfold noteGraph
  split <;> simp

theorem noteLse_slots (e : Option (Nat × Nat × Nat)) (c : Channel) : (noteLse e c).slots = c.slots := by
  unfold noteLse
  split <;> simp

/-- A check of a slot leaves both pointers. -/
theorem validateSlot_committed (n : Nat) (c : Channel) : (validateSlot n c).2.slots.committed = c.slots.committed := by
  unfold validateSlot
  simp only []
  split_ifs
  · exact setSlot_committed _ _ _
  · exact setSlot_committed _ _ _
  · split <;> simp only [noteLse_slots, noteGraph_slots] <;> exact setSlot_committed _ _ _

/-- What an activation leaves of the pointers. -/
def ActivatedSlots (n : Nat) (intent : Bool) (c : Channel) : Activated → Prop
  | .loaded k => k.slots.committed = n ∧ k.slots.intentOperate = intent
  | .failed _ _ => True
  | .refused k => k.slots.committed = c.slots.committed

theorem commitCheck_slots (kind sl ec : Nat) (c : Channel) : (commitCheck kind sl ec c).2.slots = c.slots :=
  (touches_commitCheck kind sl ec (A := [.epUJ, .ledger, .journal, .ctr, .host, .diag, .emitted]) (List.Subset.refl _)).2 (touches_refl _ c) .slots (by decide)

/-- The check is generalised before the definition is opened: its bound must not be evaluated. -/
theorem activateSlot_slots (n : Nat) (intent : Bool) (c : Channel) : ActivatedSlots n intent c (activateSlot n intent c) := by
  obtain ⟨f, hf⟩ : ∃ f, f = activateSlot := ⟨_, rfl⟩
  have hslots := commitCheck_slots
  rw [← hf]
  delta activateSlot at hf
  generalize commitCheck = check at hf hslots
  revert check
  refine id ?_
  intro check hf hslots
  rw [hf]
  beta_reduce
  extract_lets v
  have hvalid : v.2.slots.committed = c.slots.committed := validateSlot_committed n c
  clear_value v
  split
  · trivial
  · split
    · trivial
    · split
      next k hk =>
        have h := hslots 0 0xFF energyKey v.2
        rw [hk] at h
        exact (congrArg SlotsNv.committed h).trans hvalid
      next k hk =>
        split
        · trivial
        · exact ⟨by simp, by simp⟩

/-- What the host's activation leaves, by what the activation came to. -/
def activated (p : Path) (n : Nat) : Activated → Channel
  | .refused k => refuse 0x010C 0x2000 8 p (journalAdd 2 0 0xFF [] k)
  | .failed r k => activationHold r (accept p (.activate n) k)
  | .loaded k => activationLoaded (accept p (.activate n) k)

section
variable {c twin : Channel} {p : Path} {n : Nat}

theorem activateC_acts (hlive : pathLive p c = true) (hreach : reaches p 0x2000 = true) (hmode : modeIn [2, 3] c = true) (hn : n ≤ 1)
    (hne : n ≠ c.slots.committed) :
    activateC p n c = activated p n (activateSlot n false { c with boot := { c.boot with lastSlotWritten := n } }) := by
  delta activateC
  generalize activateSlot = act
  revert act
  refine id ?_
  intro act
  rw [writeGate_open _ hlive hreach hmode, if_neg (by omega)]
  simp only []
  generalize act n false _ = a
  cases a <;> rfl

theorem enterHold_boot (reason : Nat) (c : Channel) : (enterHold reason c).boot = { c.boot with holdReason := reason, phase := 0x20, mode := .hold } := by
  unfold enterHold
  simp only []
  split_ifs <;> simp [bootstatChange, emit]

theorem activated_refused {k : Channel} : (activated p n (.refused k)).slots.committed = k.slots.committed := by simp [activated]

theorem activated_failed {r : Nat} {k : Channel} : (activated p n (.failed r k)).boot.mode = .hold ∧
    (activated p n (.failed r k)).boot.holdReason = r := by
  simp [activated, activationHold, enterHold_boot]

theorem activated_loaded {k : Channel} : (activated p n (.loaded k)).slots = k.slots ∧ (activated p n (.loaded k)).boot.mode = .commission := by
  simp [activated, activationLoaded, accept]

/-! ### Firmware commit (02 R70) -/

theorem p1After_of_time {d : Channel} (h : d.time = c.time) (ns : Nat) : p1After ns d = p1After ns c := by
  simp [p1After, nowNs, h]

theorem commitFirmware_leaves (t : Nat) (c : Channel) : (commitFirmware n t c).slots.committedFw = n ∧
    (commitFirmware n t c).boot.pendingMode = some (5, t) := by
  simp [commitFirmware, pendMode]

theorem commitCheck_time (kind sl ec : Nat) (c : Channel) : (commitCheck kind sl ec c).2.time = c.time :=
  (touches_commitCheck kind sl ec (A := [.epUJ, .ledger, .journal, .ctr, .host, .diag, .emitted]) (List.Subset.refl _)).2 (touches_refl _ c) .time (by decide)

/-- A commit that every check lets through. -/
theorem commitFirmwareC_commits (hlive : pathLive .pf0 c = true) (hmode : modeIn [2, 3] c = true) (hpend : c.boot.pendingMode = none)
    (htwin : modeIn [2, 3] twin = true) (hpres : c.seam.presence = 2) (hn : n ≤ 1) (hne : n ≠ c.slots.committedFw)
    (hst : (fwSlot c n).status = 1) (hok : twinCommitOk n c twin = true) (hup : holdupOk c.psu c.epUJ energyKey = true)
    (htup : holdupOk twin.psu 0 energyKey = true) :
    (commitFirmwareC .pf0 n twin c).slots.committedFw = n ∧
      (commitFirmwareC .pf0 n twin c).boot.pendingMode = some (5, p1After 1000000 c) := by
  have htp : twin.boot.pendingMode = none := by
    simp only [twinCommitOk, Bool.and_eq_true, Option.isNone_iff_eq_none] at hok
    exact hok.1.1.2
  have hpassed : (commitCheck 0 0xFF energyKey c).1 = true := by rw [commitCheck_passed hup]
  have htime := commitCheck_time 0 0xFF energyKey c
  have hall (x : Bool × Channel) (h1 : x.1 = true) (h2 : x.2.time = c.time) :
      (acceptOwn .pf0 (commitFirmware n (p1After 1000000 x.2) x.2)).slots.committedFw = n ∧
      (acceptOwn .pf0 (commitFirmware n (p1After 1000000 x.2) x.2)).boot.pendingMode = some (5, p1After 1000000 c) := by
    rw [acceptOwn_slots, acceptOwn_boot, ← p1After_of_time h2 1000000]
    exact commitFirmware_leaves _ _
  delta commitFirmwareC
  generalize commitCheck = check at hpassed htime
  revert check
  refine id ?_
  intro check hpassed htime
  rw [decide_eq_true hn, pf0Gate_open _ hlive hmode]
  rw [if_neg (by simp [hpend, htp]), if_neg (by simp [htwin, hpres]), if_neg (by simp [hne, hst, hok])]
  generalize check 0 0xFF energyKey c = x at hpassed htime
  obtain ⟨passed, k⟩ := x
  cases passed with
  | false => cases hpassed
  | true =>
    simp only [htup, if_true]
    exact hall (true, k) rfl htime

/-- A commit that the twin cannot take part in leaves the pointer. -/
theorem commitFirmwareC_kept (h : modeIn [2, 3] twin = false ∨ c.seam.presence ≠ 2 ∨ twinCommitOk n c twin = false ∨
    holdupOk twin.psu 0 energyKey = false) (hlive : pathLive .pf0 c = true) (hmode : modeIn [2, 3] c = true) :
    (commitFirmwareC .pf0 n twin c).slots.committedFw = c.slots.committedFw := by
  have hslots := commitCheck_slots 0 0xFF energyKey c
  delta commitFirmwareC
  generalize commitCheck = check at hslots
  revert check
  refine id ?_
  intro check hslots
  rw [pf0Gate, writeGate_open _ hlive rfl hmode]
  split
  · rw [refuse_slots]
  · generalize check 0 0xFF energyKey c = x at hslots
    obtain ⟨passed, k⟩ := x
    have hk : k.slots = c.slots := hslots
    simp only []
    split_ifs with h1 h2 h3 htup
    · rw [refuse_slots]
    · rw [refuse_slots]
    · rw [refuse_slots]
    · simp only [Bool.or_eq_true, Bool.not_eq_true', bne_iff_ne, not_or, Bool.not_eq_false, not_not] at h2 h3
      rcases h with h | h | h | h
      · exact absurd h (by simp [h2.1])
      · exact absurd h2.2 h
      · exact absurd h (by simp [h3.2.2])
      · exact absurd h (by simp [htup])
    · cases passed <;> exact congrArg SlotsNv.committedFw ((refuse_slots _ _ _ _ _).trans hk)

/-- The commit on both channels, once the path's channel has moved its pointer or not. -/
theorem commitBoth_moves {before t : State} {ch : Chan} {u : Nat} (hne : n ≠ (chanOf before ch).slots.committedFw)
    (hmoved : (chanOf t ch).slots.committedFw = n) (hpend : (chanOf t ch).boot.pendingMode = some (5, u)) :
    commitBoth n ch before t = withChan t ch.twin (commitFirmwareTwin n u (commitsEnded (chanOf t ch.twin))) := by
  unfold commitBoth
  rw [if_pos (by rw [hmoved]; exact hne.symm), hpend]

theorem commitBoth_kept {before t : State} {ch : Chan} (h : (chanOf t ch).slots.committedFw = (chanOf before ch).slots.committedFw) :
    commitBoth n ch before t = t := by
  unfold commitBoth
  rw [if_neg (by simp [h])]

theorem commitFirmwareSlot_next {s t : State}
    (h : onPath p (.commitFirmwareSlot p n) (commitFirmwareC p n (chanOf s (pathChan s p).twin)) s = .next t) :
    exec (.commitFirmwareSlot p n) s = .next (commitBoth n (pathChan s p) s t) := by
  show execCommitFirmwareSlot p n s = _
  unfold execCommitFirmwareSlot
  rw [h]

/-! ### Restore (21 R621) -/

theorem repend_dict (i : Nat) (c : Channel) : (repend i c).dict = c.dict := by
  unfold repend streamRepend pathRepend
  split_ifs
  · split
    · rfl
    · simp only []
      split_ifs <;> rfl
  · split
    · rfl
    · simp only []
      split_ifs <;> rfl
  · rfl

theorem restoreEntry_overlay (c : Channel) (key : Nat) : (restoreEntry c key).dict.overlay = c.dict.overlay := by
  unfold restoreEntry
  simp only []
  split
  · rw [repend_dict]
    rfl
  · rfl

theorem restoreEntries_overlay (l : List Nat) (c : Channel) : (l.foldl restoreEntry c).dict.overlay = c.dict.overlay := by
  induction l generalizing c with
  | nil => rfl
  | cons k l ih => rw [List.foldl_cons, ih, restoreEntry_overlay]

theorem restoreC_overlay {all : Bool} (hlive : pathLive p c = true) (hreach : reaches p 0x1011 = true) (hmode : modeIn [2, 3] c = true) :
    (restoreC p all 0x64616F6C#32 c).dict.overlay = c.dict.overlay.filter (fun x => !(all || communicationKey x.1)) := by
  unfold restoreC
  rw [writeGate_open _ hlive hreach hmode, if_neg (by decide)]
  unfold restoreNow clearOverlay lseTake
  simp only []
  rw [restoreEntries_overlay]
  simp [accept, answer]

end

/-- Settles O18: activation, firmware commit on both channels or on neither, and restores. -/
theorem slotsAndRestores : Obligations.slots_and_restores := by
  unfold Obligations.slots_and_restores
  refine ⟨fun s p n ⟨hp, hlive, hreach, hmode⟩ hheld hn hne => does_onPath_unheld rfl hp hheld fun t ht => ?_,
    fun s n ⟨hp, hlive, hreach, hmode⟩ hpend htwin hpres hn hne hst hok hup htup => ?_,
    fun s n ⟨hp, hlive, hreach, hmode⟩ hne hno => ?_,
    fun s p ⟨hp, hlive, hreach, hmode⟩ => does_onPath rfl hp fun t m _ ht => ?_,
    fun s p ⟨hp, hlive, hreach, hmode⟩ => does_onPath rfl hp fun t m _ ht => ?_⟩
  · have hslots := activateSlot_slots n false { commitsEnded (atPath s p) with
      boot := { (commitsEnded (atPath s p)).boot with lastSlotWritten := n } }
    rw [ht, activateC_acts (c := commitsEnded (atPath s p)) hlive hreach hmode hn hne]
    simp only []
    generalize activateSlot n false _ = a at hslots ⊢
    cases a with
    | refused k => exact activated_refused.trans hslots
    | failed r k => exact activated_failed
    | loaded k =>
      obtain ⟨hc, hi⟩ := hslots
      obtain ⟨hs, hm⟩ := activated_loaded (p := p) (n := n) (k := k)
      exact ⟨by rw [hs, hc], by rw [hs, hi], hm⟩
  · obtain ⟨t, m, ht, -, hown, htw, -, -⟩ := onPath_alone hp (.commitFirmwareSlot .pf0 n)
      (commitFirmwareC .pf0 n (chanOf s (pathChan s .pf0).twin))
    obtain ⟨hfw, hreq⟩ := commitFirmwareC_commits (c := arrived m (atPath s .pf0)) hlive hmode hpend htwin hpres hn hne hst hok hup htup
    rw [← hown] at hfw hreq
    refine ⟨_, commitFirmwareSlot_next ht, ?_⟩
    simp only []
    rw [commitBoth_moves hne hfw hreq, chanOf_withChan_twin, chanOf_withChan]
    exact ⟨hfw, hreq, commitFirmware_leaves _ _⟩
  · obtain ⟨t, m, ht, -, hown, htw, -, -⟩ := onPath_alone hp (.commitFirmwareSlot .pf0 n)
      (commitFirmwareC .pf0 n (chanOf s (pathChan s .pf0).twin))
    have hfw := commitFirmwareC_kept (c := arrived m (atPath s .pf0)) hno hlive hmode
    rw [← hown] at hfw
    refine ⟨_, commitFirmwareSlot_next ht, ?_⟩
    simp only []
    rw [commitBoth_kept hfw]
    exact ⟨hfw, htw⟩
  · rw [ht, restoreC_overlay (c := arrived m (atPath s p)) hlive hreach hmode]
    simp
  · rw [ht, restoreC_overlay (c := arrived m (atPath s p)) hlive hreach hmode]
    rfl

end Sys2Proof.Machine
end

section
/-! What ends the phases of start-up (02 R52 to R63, R69; 05 R181; 12 R381; 19 R562 to R568). -/
namespace Sys2Proof.Machine
open Sys2Proof

section
variable {A : List Part} {c d twin : Channel}

@[simp] theorem bootstatChange_boot (c : Channel) : (bootstatChange c).boot = c.boot := rfl
@[simp] theorem setPhase_boot (n : Nat) (c : Channel) : (setPhase n c).boot = { c.boot with phase := n } := rfl

@[simp] theorem touches_bootstatChange (hA : [.emitted] ⊆ A) : Touches A c (bootstatChange d) ↔ Touches A c d := touches_emit _ hA

@[simp] theorem touches_setPhase (n : Nat) (hA : [.boot, .emitted] ⊆ A) : Touches A c (setPhase n d) ↔ Touches A c d := by
  refine Touches.iff (B := [.boot, .emitted]) ?_ hA c
  simp [setPhase]

@[simp] theorem touches_extendBm (i : Nat) (data : List Byte) (hA : [.keys] ⊆ A) : Touches A c (extendBm i data d) ↔ Touches A c d := by
  refine Touches.iff (B := [.keys]) ?_ hA c
  unfold extendBm
  split_ifs <;> simp

@[simp] theorem touches_installSwitch (b : Bool) (w : SwitchCfg) (hA : [.sw] ⊆ A) : Touches A c (installSwitch b w d) ↔ Touches A c d := by
  refine Touches.iff (B := [.sw]) ?_ hA c
  unfold installSwitch
  split_ifs <;> simp

@[simp] theorem touches_testPass (hA : [.ctr] ⊆ A) : Touches A c (testPass d) ↔ Touches A c d := touches_bump _ _ hA

/-! ### B1 and B2 -/

/-- A channel past B1's checks: its pins read, its counter loaded, its ROM measured. -/
def pastB1 (prefN : Bool) (slotId : Nat) (ctr : BitVec 96) (rom : List Byte) (c : Channel) : Channel :=
  setPhase 2 (extendBm 0 rom { c with boot := { c.boot with rolePrefN := prefN, slotId := slotId % 32 }
                                      time := { c.time with ctr := ctr }, ledger := { c.ledger with opSince := c.time.up } })

/-- The counter that B1 loads. -/
def b1Counter (twin : Channel) : BitVec 96 := if twin.boot.powered && twin.time.servo == .locked then twin.time.ctr else 0

theorem pastB1_parts (prefN : Bool) (slotId : Nat) (ctr : BitVec 96) (rom : List Byte) (c : Channel) :
    (pastB1 prefN slotId ctr rom c).boot = { c.boot with rolePrefN := prefN, slotId := slotId % 32, phase := 2 } ∧
      (pastB1 prefN slotId ctr rom c).time.ctr = ctr ∧ (pastB1 prefN slotId ctr rom c).keysNv = c.keysNv := by
  unfold pastB1 extendBm
  split_ifs <;> exact ⟨rfl, rfl, rfl⟩

theorem bootB1_keyed {prefN : Bool} {slotId : Nat} {rom : List Byte} (h : inPhase 1 c = true) :
    bootB1 true prefN slotId rom twin c =
      let d := pastB1 prefN slotId (b1Counter twin) rom c
      if d.keysNv.sealedMarker then installSwitch false switchDefault (enterMode .sealedMode { d with keys := { d.keys with st := 2 } })
      else { d with seam := { d.seam with alive := true } } := by
  unfold bootB1
  rw [if_neg (by simp [h])]
  rfl

theorem bootB1_passes {prefN : Bool} {slotId : Nat} {rom : List Byte} (h : inPhase 1 c = true) (hm : c.keysNv.sealedMarker = false) :
    bootB1 true prefN slotId rom twin c =
      { pastB1 prefN slotId (b1Counter twin) rom c with seam := { (pastB1 prefN slotId (b1Counter twin) rom c).seam with alive := true } } := by
  rw [bootB1_keyed h]
  exact if_neg (by rw [(pastB1_parts prefN slotId (b1Counter twin) rom c).2.2, hm]; simp)

theorem bootB1_seals {prefN : Bool} {slotId : Nat} {rom : List Byte} (h : inPhase 1 c = true) (hm : c.keysNv.sealedMarker = true) :
    (bootB1 true prefN slotId rom twin c).boot.mode = .sealedMode := by
  rw [bootB1_keyed h]
  simp only []
  rw [if_pos (by rw [(pastB1_parts prefN slotId (b1Counter twin) rom c).2.2, hm]),
    (touches_installSwitch (A := [.sw]) _ _ (List.Subset.refl _)).2 (touches_refl _ _) .boot (by decide), enterMode_boot]

theorem bootB1_halts {prefN : Bool} {slotId : Nat} {rom : List Byte} (h : inPhase 1 c = true) :
    (bootB1 false prefN slotId rom twin c).boot = { c.boot with rolePrefN := prefN, slotId := slotId % 32, halt := some 3 } := by
  unfold bootB1
  rw [if_neg (by simp [h])]
  exact haltBoot_boot _ _

theorem phase_of_inPhase {n : Nat} (h : inPhase n c = true) : c.boot.phase = n := by
  simp only [inPhase, Bool.and_eq_true, beq_iff_eq] at h
  exact h.2

/-- The committed firmware runs. -/
theorem bootB2_runs (h : inPhase 2 c = true) (hv : fwVerifies c c.slots.committedFw = true) :
    (bootB2 c).boot.phase = 3 ∧ (bootB2 c).slots.running = c.slots.committedFw := by
  have hslots (i : Nat) (l : List Byte) (e : Channel) : (extendBm i l e).slots = e.slots :=
    (touches_extendBm (A := [.keys]) _ _ (List.Subset.refl _)).2 (touches_refl _ _) .slots (by decide)
  unfold bootB2
  rw [if_neg (by simp [h])]
  simp only [hv, if_true]
  exact ⟨rfl, congrArg SlotsNv.running (hslots _ _ _)⟩

theorem bootB2_halts (h : inPhase 2 c = true) (hv : ∀ n, fwVerifies c n = false) : bootB2 c = haltBoot 1 c := by
  unfold bootB2
  rw [if_neg (by simp [h])]
  simp [hv]

/-! ### B3 -/

theorem extendBms_touches (f : Nat → List Byte) (l : List Nat) (c : Channel) : Touches [.keys] c (l.foldl (fun c i => extendBm i (f i) c) c) :=
  Touches.foldl (fun e i => by simp) l c

@[simp] theorem touches_episodes (hA : [.host, .journal, .ledger, .ctr, .diag, .emitted, .keysNv] ⊆ A) : Touches A c (startEpisodes d) ↔ Touches A c d := by
  refine Touches.iff (B := [.host, .journal, .ledger, .ctr, .diag, .emitted, .keysNv]) ?_ hA c
  unfold startEpisodes
  simp only []
  split_ifs <;> simp

/-- Restoring a slot leaves the measurement registers as they are. -/
theorem restoreSlot_locked (c : Channel) (s : Nat) : (restoreSlot c s).keys.bmLocked = c.keys.bmLocked ∧ (restoreSlot c s).boot = c.boot := by
  unfold restoreSlot
  simp only []
  split <;> exact ⟨rfl, rfl⟩

theorem restoreSlots_locked (c : Channel) : (restoreSlots c).keys.bmLocked = c.keys.bmLocked ∧ (restoreSlots c).boot = c.boot := by
  unfold restoreSlots
  simp only []
  generalize (c.keysNv.cellsA.map (fun p => p.1) ++ c.keysNv.cellsB.map (fun p => p.1)).eraseDups = l
  induction l generalizing c with
  | nil => exact ⟨rfl, rfl⟩
  | cons s l ih =>
    obtain ⟨hl, hb⟩ := restoreSlot_locked c s
    rw [List.foldl_cons, (ih _).1, (ih _).2]
    exact ⟨hl, hb⟩

@[simp] theorem touches_pleatAtBoot (hA : [.pleat, .ctr] ⊆ A) : Touches A c (pleatAtBoot d) ↔ Touches A c d := by
  refine Touches.iff (B := [.pleat, .ctr]) ?_ hA c
  simp [pleatAtBoot]

@[simp] theorem touches_ledgerAtB3 (hA : [.ledger, .ctr] ⊆ A) : Touches A c (ledgerAtB3 d) ↔ Touches A c d := by
  refine Touches.iff (B := [.ledger, .ctr]) ?_ hA c
  simp [ledgerAtB3]

/-- What follows the keys in B3 leaves them, and the start-up state. -/
theorem afterKeys_touches (c : Channel) :
    Touches [.host, .journal, .ledger, .ctr, .diag, .emitted, .keysNv, .pleat, .sw] c
      (resetOwners (bootSwitch (pleatAtBoot (startEpisodes (ledgerAtB3 c))))) := by
  have howners (l : List Nat) (e : Channel) : Touches [.host] e (l.foldl (fun c f => writeOwner f (ownerWord 1 0 0) c) e) :=
    Touches.foldl (fun e f => by simp [writeOwner, winWrite]) l e
  have hswitch (e : Channel) : Touches [.sw] e (bootSwitch e) := by
    unfold bootSwitch
    split_ifs
    · exact touches_refl _ _
    · split <;> simp
  refine Touches.trans ?_ ((howners windowFns _).mono (by decide))
  refine Touches.trans ?_ ((hswitch _).mono (by decide))
  simp

theorem bootB3_locks {measures : List (List Byte)} (h : inPhase 3 c = true) :
    (bootB3 measures c).boot.phase = 4 ∧ (bootB3 measures c).keys.bmLocked = true := by
  unfold bootB3
  rw [if_neg (by simp [h])]
  simp only []
  generalize extendBm 7 (asciiBytes "B3 END") _ = e
  rw [(afterKeys_touches _) .boot (by decide), (afterKeys_touches _) .keys (by decide)]
  refine ⟨rfl, ?_⟩
  split_ifs
  · rfl
  · exact (restoreSlots_locked _).1

/-! ### B4 -/

/-- The start of the self-test: the lanes as found, roles dealt, the CAN ports that failed off. -/
def selfTestBegun (failed : List Nat) (lanesUp : Bool) (canFail : List Nat) (c : Channel) : Channel :=
  canFail.foldl (fun c n => canOff n c)
    { c with seam := { c.seam with presence := if lanesUp then 2 else c.seam.presence, out := [] }, disp := { c.disp with tiles := roleTiles failed } }

/-- The channel after its self-test, its clock apart. -/
def selfTested (failed : List Nat) (bank : Option Nat) (lanesUp : Bool) (canFail : List Nat) (c : Channel) : Channel :=
  let c0 := selfTestBegun failed lanesUp canFail c
  let lanes := if lanesUp then testPass c0 else testFail 4 0 c0
  let c1 := if canFail.isEmpty then testPass lanes else lanes
  let c2 := if failed.isEmpty then testPass c1 else testFail 0 0 c1
  let c3 := match bank with
    | some b => testFail 1 b { c2 with disp := { c2.disp with banks := kPut c2.disp.banks b { bankIdle with failed := true } } }
    | none => testPass c2
  if failed.isEmpty && bank.isNone then c3
  else episode 0x11 (leBytes 8 (failed.foldl (fun m n => m ||| 2 ^ n) 0) ++ [BitVec.ofNat 8 (bank.getD 0xFF)]) c3

theorem bootB4_eq (failed : List Nat) (bank : Option Nat) (clockFault lanesUp : Bool) (canFail : List Nat) (h : inPhase 4 c = true) :
    bootB4 failed bank clockFault lanesUp canFail c =
      if clockFault then haltBoot 2 (testFail 3 0 (selfTested failed bank lanesUp canFail c))
      else if (selfTested failed bank lanesUp canFail c).boot.mode == .sealedMode then setPhase 0x20 (selfTested failed bank lanesUp canFail c)
      else if 2 < failed.length ∨ bank.isSome then enterHold 9 (selfTested failed bank lanesUp canFail c)
      else setPhase 5 (selfTested failed bank lanesUp canFail c) := by
  unfold bootB4
  rw [if_neg (by simp [h])]
  cases bank <;> rfl

theorem selfTestBegun_seam (failed : List Nat) (lanesUp : Bool) (canFail : List Nat) (c : Channel) :
    (selfTestBegun failed lanesUp canFail c).boot = c.boot ∧
      (selfTestBegun failed lanesUp canFail c).seam.presence = if lanesUp then 2 else c.seam.presence := by
  have h : ∀ (l : List Nat) (e : Channel), Touches [.can, .host, .journal, .ctr, .emitted] e (l.foldl (fun c n => canOff n c) e) :=
    Touches.foldl (fun e n => by simp [canOff])
  unfold selfTestBegun
  exact ⟨h _ _ .boot (by decide), congrArg SeamSt.presence (h _ _ .seam (by decide))⟩

theorem selfTested_touches (failed : List Nat) (bank : Option Nat) (lanesUp : Bool) (canFail : List Nat) (c : Channel) :
    Touches [.disp, .host, .journal, .ledger, .ctr, .diag, .emitted] (selfTestBegun failed lanesUp canFail c) (selfTested failed bank lanesUp canFail c) := by
  unfold selfTested
  generalize selfTestBegun failed lanesUp canFail c = e
  have hlanes : Touches [.disp, .host, .journal, .ledger, .ctr, .diag, .emitted] e (if lanesUp then testPass e else testFail 4 0 e) := by
    split <;> simp
  simp only []
  generalize (if lanesUp then testPass e else testFail 4 0 e) = e0 at hlanes ⊢
  refine hlanes.trans ?_
  have hcan : Touches [.disp, .host, .journal, .ledger, .ctr, .diag, .emitted] e0 (if canFail.isEmpty then testPass e0 else e0) := by
    split <;> simp
  generalize (if canFail.isEmpty then testPass e0 else e0) = e1 at hcan ⊢
  refine hcan.trans ?_
  have htiles : Touches [.disp, .host, .journal, .ledger, .ctr, .diag, .emitted] e1 (if failed.isEmpty then testPass e1 else testFail 0 0 e1) := by
    split <;> simp
  generalize (if failed.isEmpty then testPass e1 else testFail 0 0 e1) = e2 at htiles ⊢
  refine htiles.trans ?_
  cases bank <;> simp only [] <;> split_ifs <;> simp

theorem selfTested_leaves (failed : List Nat) (bank : Option Nat) (lanesUp : Bool) (canFail : List Nat) (c : Channel) :
    (selfTested failed bank lanesUp canFail c).boot = c.boot ∧
      (selfTested failed bank lanesUp canFail c).seam.presence = if lanesUp then 2 else c.seam.presence := by
  obtain ⟨hb, hp⟩ := selfTestBegun_seam failed lanesUp canFail c
  have h := selfTested_touches failed bank lanesUp canFail c
  exact ⟨(h .boot (by decide)).trans hb, (congrArg SeamSt.presence (h .seam (by decide))).trans hp⟩

/-! ### B5 to B7 -/

theorem noteGraph_boot (e : Option GFail) (c : Channel) : (noteGraph e c).boot = c.boot := by
  unfold noteGraph
  split <;> simp

theorem noteLse_boot (e : Option (Nat × Nat × Nat)) (c : Channel) : (noteLse e c).boot = c.boot := by
  unfold noteLse
  split <;> simp

theorem validateSlot_boot (n : Nat) (c : Channel) : (validateSlot n c).2.boot = c.boot := by
  unfold validateSlot
  simp only []
  split_ifs
  · rfl
  · rfl
  · split <;> exact (noteLse_boot _ _).trans (noteGraph_boot _ _)

theorem bootB5_validates (h : inBootPhase 5 c = true) : bootB5 c =
    if (validateSlot c.slots.committed c).1.1 = 0 then setPhase 6 (validateSlot c.slots.committed c).2
    else enterHold (validateSlot c.slots.committed c).1.1
      (journalAdd 2 (validateSlot c.slots.committed c).1.1 0xFF [] (validateSlot c.slots.committed c).2) := by
  unfold bootB5
  exact if_neg (by simp [h])

theorem bootB5_leaves (h : inBootPhase 5 c = true) : if (validateSlot c.slots.committed c).1.1 = 0
    then (bootB5 c).boot.phase = 6 ∧ (bootB5 c).boot.mode = c.boot.mode
    else (bootB5 c).boot.mode = .hold ∧ (bootB5 c).boot.holdReason = (validateSlot c.slots.committed c).1.1 := by
  have hboot := validateSlot_boot c.slots.committed c
  rw [bootB5_validates h]
  split_ifs
  · rw [setPhase_boot, hboot]
    exact ⟨rfl, rfl⟩
  · rw [enterHold_boot]
    exact ⟨rfl, rfl⟩

section
variable {m : Image} (h : inBootPhase 6 c = true)
include h

theorem bootB6_unchecked (hi : (imageChecked c (committedSlot c).bytes).image = none) : bootB6 c = enterHold 7 c := by
  unfold bootB6
  rw [if_neg (by simp [h]), hi]

theorem bootB6_unplaced (hi : (imageChecked c (committedSlot c).bytes).image = some m) {e : PlRef} (hl : loadImage m c = .error e) :
    bootB6 c = enterHold 8 (journalAdd 2 8 0xFF [] (placerRefused e c)) := by
  unfold bootB6
  rw [if_neg (by simp [h]), hi]
  simp only [hl]

theorem bootB6_placed (hi : (imageChecked c (committedSlot c).bytes).image = some m) {k : Channel} (hl : loadImage m c = .ok k) :
    bootB6 c = setPhase 7 k := by
  unfold bootB6
  rw [if_neg (by simp [h]), hi]
  simp only [hl]

end

theorem notBootPhase_of_sealed (n : Nat) (h : c.boot.mode = .sealedMode) : inBootPhase n c = false := by simp [inBootPhase, h]

theorem grantControl_boot (c : Channel) : ∃ m, (grantControl c).boot = { c.boot with granted := true, mode := m } ∧
    (graphMode c.boot.mode = true → graphMode m = true) := by
  unfold grantControl
  simp only []
  split
  · exact ⟨c.boot.mode, rfl, id⟩
  · split
    · exact ⟨.active, by simp [enterActive, openCuff], fun _ => rfl⟩
    · exact ⟨c.boot.mode, rfl, id⟩
  · exact ⟨c.boot.mode, rfl, id⟩

/-- The channel that has come through B7, before control is dealt. -/
def pastB7 (ms : Nat) (c : Channel) : Channel :=
  enterMode (if c.slots.intentOperate then .standby else .commission)
    (bootstatChange { c with boot := { c.boot with phase := 0x20, duration := BitVec.ofNat 32 ms, graphStartAt := p1After 1 c, holdReason := 0 } })

theorem pastB7_boot (ms : Nat) (c : Channel) : (pastB7 ms c).boot = { c.boot with
    phase := 0x20, duration := BitVec.ofNat 32 ms, graphStartAt := p1After 1 c, holdReason := 0,
    mode := if c.slots.intentOperate then .standby else .commission } := by
  simp [pastB7]

theorem bootB7_eq (ms : Nat) (h : inBootPhase 7 c = true) (hadm : c.boot.admitted = true) : bootB7 ms twin c =
    if grantedAtB7 twin c then grantControl (pastB7 ms c)
    else if (pastB7 ms c).boot.mode == .standby then
      startResync 1 { pastB7 ms c with seam := { (pastB7 ms c).seam with isolated := c.seam.presence == 1 } }
    else { pastB7 ms c with seam := { (pastB7 ms c).seam with isolated := c.seam.presence == 1 } } := by
  unfold bootB7
  rw [if_neg (by simp [h, hadm])]
  rfl

theorem bootB7_boot (ms : Nat) (h : inBootPhase 7 c = true) (hadm : c.boot.admitted = true) :
    ∃ m, (bootB7 ms twin c).boot = { (pastB7 ms c).boot with granted := c.boot.granted || grantedAtB7 twin c, mode := m } ∧ graphMode m = true := by
  have hmode : graphMode (pastB7 ms c).boot.mode = true := by
    rw [pastB7_boot]
    simp only []
    split <;> rfl
  have hgr : (pastB7 ms c).boot.granted = c.boot.granted := by rw [pastB7_boot]
  rw [bootB7_eq ms h hadm]
  generalize pastB7 ms c = d at hmode hgr ⊢
  cases hg : grantedAtB7 twin c with
  | true =>
    obtain ⟨m, hb, hm⟩ := grantControl_boot d
    exact ⟨m, by rw [Bool.or_true]; exact hb, hm hmode⟩
  | false =>
    refine ⟨d.boot.mode, ?_, hmode⟩
    rw [Bool.or_false, ← hgr, if_neg (by simp)]
    split
    · exact startResync_boot _ _
    · rfl

end

theorem leadChan_of_serving {s t : State} (ha : t.a = s.a) (hb : t.b = s.b) (hs : t.bridge.serving = some (leadChan s)) : leadChan t = leadChan s := by
  rw [leadChan, ha, hb, hs]
  show (if _ then _ else if _ then _ else if _ then _ else if _ then _ else leadChan s) = leadChan s
  split_ifs with h1 h2 h3 h4
  · simp [leadChan, h1]
  · simp [leadChan, h1, h2]
  · simp [leadChan, h1, h2, h3]
  · simp [leadChan, h1, h2, h3, h4]
  · rfl

/-- The bridge notes the channel that leads. -/
theorem serving_noteServing (s : State) : (noteServing s).bridge.serving = some (leadChan (noteServing s)) := by
  have h : leadChan (noteServing s) = leadChan s := leadChan_of_serving rfl rfl rfl
  exact congrArg some h.symm

/-- Settles O14: what ends the phases B1 to B4. -/
theorem bootPhasesB1ToB4 : Obligations.boot_phases_b1_to_b4 := by
  unfold Obligations.boot_phases_b1_to_b4
  refine ⟨fun s ch prefN sid rom h hm => does_onChan (f := bootB1 true prefN sid rom (chanOf s ch.twin)) rfl fun t ht _ => ?_,
    fun s ch prefN sid rom h => does_onChan (f := bootB1 false prefN sid rom (chanOf s ch.twin)) rfl fun t ht _ => ?_,
    fun s ch prefN sid rom h hm => does_onChan (f := bootB1 true prefN sid rom (chanOf s ch.twin)) rfl fun t ht _ => ?_,
    fun s ch h hv => does_onChan rfl fun t ht _ => ?_, fun s ch h hv => does_onChan rfl fun t ht _ => ?_,
    fun s ch ms h => does_onChan rfl fun t ht _ => ?_, fun s ch up h hm => does_onChan rfl fun t ht _ => ?_,
    fun s ch l bank up canF h hm hl => does_onChan rfl fun t ht _ => ?_,
    fun s ch l bank up canF h => does_onChan rfl fun t ht _ => ?_⟩ <;> rw [ht]
  · obtain ⟨hboot, hctr, -⟩ := pastB1_parts prefN sid (b1Counter (chanOf s ch.twin)) rom (commitsEnded (chanOf s ch))
    rw [bootB1_passes (c := commitsEnded (chanOf s ch)) h hm]
    simp only [hboot, hctr]
    exact ⟨trivial, trivial, trivial, rfl, rfl⟩
  · rw [bootB1_halts (c := commitsEnded (chanOf s ch)) h]
    exact ⟨rfl, phase_of_inPhase h⟩
  · exact bootB1_seals (c := commitsEnded (chanOf s ch)) h hm
  · exact bootB2_runs (c := commitsEnded (chanOf s ch)) h hv
  · rw [bootB2_halts (c := commitsEnded (chanOf s ch)) h hv, haltBoot_boot]
    exact ⟨rfl, phase_of_inPhase h⟩
  · exact bootB3_locks (c := commitsEnded (chanOf s ch)) h
  · obtain ⟨hboot, hpres⟩ := selfTested_leaves [] none up [] (commitsEnded (chanOf s ch))
    rw [bootB4_eq (c := commitsEnded (chanOf s ch)) _ _ _ _ _ h, if_neg (by simp), if_neg (by rw [hboot]; simp [hm]), if_neg (by simp), setPhase_boot, hboot]
    exact ⟨rfl, hm, hpres⟩
  · obtain ⟨hboot, -⟩ := selfTested_leaves l bank up canF (commitsEnded (chanOf s ch))
    rw [bootB4_eq (c := commitsEnded (chanOf s ch)) _ _ _ _ _ h, if_neg (by simp), if_neg (by rw [hboot]; simp [hm]), if_pos (.inl hl), enterHold_boot]
    exact ⟨rfl, rfl⟩
  · obtain ⟨hboot, -⟩ := selfTested_leaves l bank up canF (commitsEnded (chanOf s ch))
    rw [bootB4_eq (c := commitsEnded (chanOf s ch)) _ _ _ _ _ h, if_pos rfl, haltBoot_boot, testFail_boot, hboot]
    exact ⟨rfl, phase_of_inPhase h⟩

/-- Settles O15: what ends the phases B5 to B7. -/
theorem bootPhasesB5ToB7 : Obligations.boot_phases_b5_to_b7 := by
  unfold Obligations.boot_phases_b5_to_b7
  refine ⟨fun s ch h => does_onChan rfl fun t ht _ => ?_, fun s ch h => does_onChan rfl fun t ht _ => ?_,
    fun s ch ms h => ⟨does_nothing rfl ?_, does_nothing rfl ?_,
      does_onChan_serving (f := bootB7 ms (chanOf s ch.twin)) rfl fun t ht _ => ht.trans ?_⟩,
    fun s ch ms h hadm => ⟨_, rfl, ?_⟩⟩
  · rw [ht]
    exact bootB5_leaves (c := commitsEnded (chanOf s ch)) h
  · rw [ht]
    cases hi : (imageChecked (commitsEnded (chanOf s ch)) (committedSlot (chanOf s ch)).bytes).image with
    | none =>
      rw [bootB6_unchecked (c := commitsEnded (chanOf s ch)) h hi, enterHold_boot]
      exact ⟨rfl, rfl⟩
    | some m =>
      simp only []
      cases hl : loadImage m (commitsEnded (chanOf s ch)) with
      | error e =>
        simp only []
        rw [bootB6_unplaced (c := commitsEnded (chanOf s ch)) h hi hl, enterHold_boot]
        exact ⟨rfl, rfl⟩
      | ok k =>
        simp only []
        rw [bootB6_placed (c := commitsEnded (chanOf s ch)) h hi hl]
        rfl
  · have hno := notBootPhase_of_sealed (c := commitsEnded (chanOf s ch)) 5 h
    exact if_pos (by rw [hno]; rfl)
  · have hno := notBootPhase_of_sealed (c := commitsEnded (chanOf s ch)) 6 h
    exact if_pos (by rw [hno]; rfl)
  · have hno := notBootPhase_of_sealed (c := commitsEnded (chanOf s ch)) 7 h
    exact if_pos (by rw [hno]; rfl)
  · have hserve := serving_noteServing (withChan s ch (bootB7 ms (chanOf s ch.twin) (commitsEnded (chanOf s ch))))
    obtain ⟨m, hboot, hm⟩ := bootB7_boot (c := commitsEnded (chanOf s ch)) (twin := chanOf s ch.twin) ms h hadm
    beta_reduce
    rw [chanOf_noteServing, chanOf_withChan, hboot, pastB7_boot]
    exact ⟨rfl, rfl, rfl, hm, hserve, rfl⟩

end Sys2Proof.Machine
end


section
/-! O38 fails: the rings of a graph are named by number, those of source bindings from 1,000,000 on. The statement takes graphs of any size,
and the output of instance 125,000 has the number of the ring of source binding 0. A PUB firing that requests a CAN transmission can then find
the request's outcome, copied to that source, in place of its own token. -/
namespace Sys2Proof.Machine
open Sys2Proof

/-- A PUB instance that requests the transmission of buffer 0 of port 1. -/
def pubToCan : InstRec :=
  { op := 0x0307, cls := 5, ins := [], outs := [⟨false, 0, 1⟩], missEvent := false, version := 0, params := [2, 1, 0], ident := 0, init := [[0]] }

/-- The instance's firing, which runs. -/
def pubRunning : InstRt :=
  { st := ⟨[], []⟩, lastGood := [], subst := 0, warm := 0, done := 0, breakPend := false, fs := .running, release := 0, instant := 0, startAt := 0,
    fencedBy := 0, nextP1 := 0, tile := 0, waited := false }

/-- A graph of the instances `l`, with one source binding, of buffer 0 of port 1. -/
def crowdedGraph (l : List InstRec) : GraphRt :=
  { cfg := ⟨l, [], [⟨4, 0, 1, 0⟩], 0⟩, first := [], rings := [], pos := [], lsePos := [], insts := [(125000, pubRunning)] }

/-- A transmit buffer of sleeve 0. -/
def emptyBuf : CanBuf :=
  { cfg := ⟨1, 0, 0, true, 0, 0, 0, 0, []⟩, words := [], pend := false, locked := none, waiting := [], fresh := false, shadow := none, hist := [] }

def portWithBuf : CanPort :=
  { cfg := ⟨0, 0, false, false, false, 0⟩, loop := false, tec := 0, rec_ := 0, busOff := true, recovering := false, cur := none, bufs := [(0, emptyBuf)] }

/-- A channel that leads and runs the graph; its port is bus-off. -/
def crowdedChannel (l : List InstRec) : Channel :=
  { channelReset .a with
      seam := { (channelReset .a).seam with holdCtl := true }
      can := [(1, portWithBuf)], graphs := [(0, crowdedGraph l)] }

/-- The block with channel A's graph of 125,001 instances. -/
def crowdedState : State := { State.reset with a := crowdedChannel (List.replicate 125001 pubToCan) }

/-- The payload of the newest token of a ring of sleeve 0's graph. -/
def newestPay (c : Channel) (key : Nat) : Option (List U32) := (kGet c.graphs 0).bind (fun h => (ringOf h key).newest.map (fun k => k.pay))

theorem opPub_overwritten : ∃ t, exec (.opPub .a 0 125000) crowdedState = .next t ∧
    newestPay t.a (ringKey false 125000 0) ≠ some [0, 0] := ⟨_, rfl, by decide +kernel⟩

theorem instOf_crowdedGraph {l : List InstRec} (h : l[125000]? = some pubToCan) :
    instOf (crowdedGraph l) 125000 = some (pubToCan, pubRunning) := by
  unfold instOf
  rw [show (crowdedGraph l).cfg.insts = l from rfl, h]
  rfl

/-- Refutes O38: the newest token of a PUB firing's output is not what PUB gave. -/
theorem not_operatorsComplete : ¬ Obligations.operators_complete := by
  rintro ⟨-, -, -, -, -, -, -, -, -, -, -, -, -, -, -, -, -, -, -, -, -, -, hpub, -⟩
  have hi := instOf_crowdedGraph (List.getElem?_replicate_of_lt (a := pubToCan) (show 125000 < 125001 by decide))
  obtain ⟨t, ht, -, h, y, hh, -, -, -, -, hout⟩ := hpub crowdedState .a 0 125000
    (crowdedGraph (List.replicate 125001 pubToCan)) pubToCan pubRunning rfl hi rfl rfl
  obtain ⟨u, hu, hne⟩ := opPub_overwritten
  cases hu.symm.trans ht
  refine hne ?_
  rw [chanOf_a] at hh
  rw [newestPay, hh]
  exact hout 0 (by decide)

end Sys2Proof.Machine
end

section
/-! The release of a firing (05 R153 to R159; 06 R187, R192, R197, R198). -/
namespace Sys2Proof.Machine
open Sys2Proof

/-! ### What a firing reads of its channel -/

/-- The channels hold the same samples, paths and time: a firing's conditions and tokens are the same. -/
def ReadAlike (c d : Channel) : Prop := d.ingest = c.ingest ∧ d.paths = c.paths ∧ d.time = c.time

section
variable {c d : Channel} (h : ReadAlike c d)
include h

theorem edgeTokens_alike : edgeTokens d = edgeTokens c := by
  obtain ⟨hi, hp, -⟩ := h
  funext g e
  unfold edgeTokens pathTokens streamTokens
  rw [hi, hp]

theorem headOf_alike : headOf d = headOf c := by
  funext g x
  rw [headOf, headOf, edgeTokens_alike h]

theorem selectAt_alike : selectAt d = selectAt c := by
  funext g e t
  rw [selectAt, selectAt, edgeTokens_alike h]

theorem sampleToken_alike : sampleToken d = sampleToken c := by
  funext g e t
  rw [sampleToken, sampleToken, selectAt_alike h]

theorem nowNs_alike : nowNs d = nowNs c := by
  rw [nowNs, nowNs, h.2.2]

theorem firingInputs_alike : firingInputs d = firingInputs c := by
  funext g i r t
  unfold firingInputs
  rw [headOf_alike h, sampleToken_alike h]

theorem takenTokens_alike : takenTokens d = takenTokens c := by
  funext g i r t
  rw [takenTokens, takenTokens, firingInputs_alike h]

theorem alignHeads_alike : alignHeads d = alignHeads c := by
  funext i r t g
  unfold alignHeads
  rw [edgeTokens_alike h]

theorem alignLoop_alike : alignLoop d = alignLoop c := by
  funext i r n st
  induction n generalizing st with
  | zero => rfl
  | succ n ih =>
    unfold alignLoop
    rw [headOf_alike h, alignHeads_alike h]
    simp only [ih]

theorem firingInstant_alike : firingInstant d = firingInstant c := by
  funext g i r x
  unfold firingInstant
  rw [headOf_alike h, nowNs_alike h]

theorem horizonOf_alike : horizonOf d = horizonOf c := by
  funext g n e
  induction n generalizing e with
  | zero => rfl
  | succ n ih =>
    have htick : tickOf d = tickOf c := by rw [tickOf, tickOf, nowNs_alike h, h.2.2]
    have hp1 : lastP1 d = lastP1 c := by rw [lastP1, lastP1, nowNs_alike h]
    unfold horizonOf
    rw [edgeTokens_alike h, headOf_alike h, htick, hp1]
    simp only [ih]

theorem horizonMisses_alike : horizonMisses d = horizonMisses c := by
  funext g i r t
  rw [horizonMisses, horizonMisses, horizonOf_alike h]

end

/-! ### Instances -/

section
variable {c : Channel} {n i t : Nat} {g : GraphRt} {r : InstRec} {x y : InstRt}

@[simp] theorem instAt_putGraph (c : Channel) (n i : Nat) (y : InstRt) (g : GraphRt) : Sys2Proof.instAt (putGraph n (putInst i y g) c) n i = some y := by
  simp [Sys2Proof.instAt, putGraph, putInst, kGet_kPut_same]

theorem instAt_of_graphs {d : Channel} (h : d.graphs = c.graphs) (n i : Nat) : Sys2Proof.instAt d n i = Sys2Proof.instAt c n i := by
  rw [Sys2Proof.instAt, Sys2Proof.instAt, h]

theorem instAt_of_touches {A : List Part} {d : Channel} (h : Touches A c d) (hA : Part.graphs ∉ A) (n i : Nat) : Sys2Proof.instAt d n i = Sys2Proof.instAt c n i :=
  instAt_of_graphs (h .graphs hA) n i

theorem instAt_bump (a b : Nat) (c : Channel) : Sys2Proof.instAt (bump a b c) n i = Sys2Proof.instAt c n i := rfl

theorem noteEntries_graphs (l : Nat) (c : Channel) : (noteEntries l c).graphs = c.graphs :=
  (show Touches [.dict] c (noteEntries l c) by simp [noteEntries]) .graphs (by decide)

/-- The conditions of the next firing of an instance, as its channel has them (05 R154). -/
def FiringDue (c : Channel) (n i t : Nat) (g : GraphRt) (r : InstRec) (x : InstRt) : Prop :=
  graphStarted c n = true ∧ kGet c.graphs n = some g ∧ instOf g i = some (r, x) ∧ x.fs = .waiting ∧
    alignLoop c i r 512 (g, 0, false) = (g, 0, false) ∧ firingInstant c (trimAll g) i r x = some t ∧
    roomOut (trimAll g) i r = true ∧ horizonMisses c (trimAll g) i r t = []

/-- The channel a firing is released in: its wait on the delay list over. -/
def released (n i : Nat) (c : Channel) : Channel :=
  { bumpN 0x2500 0x0D 0 c with disp := { c.disp with parked := c.disp.parked.filter (fun k => k != (n, i)) } }

/-- The instance as it is released. -/
def releasedInst (t : Nat) (c : Channel) (x : InstRt) : InstRt := { x with instant := t, release := c.time.up, waited := false }

theorem evalFiring_releases (h : FiringDue c n i t g r x) : evalFiring n i c = releaseFiring n i t r x (trimAll g) (bumpN 0x2500 0x0D 0 c) := by
  obtain ⟨hstart, hg, hinst, hfs, halign, hat, hroom, hmiss⟩ := h
  have hlike : ReadAlike c (bumpN 0x2500 0x0D 0 c) := ⟨rfl, rfl, rfl⟩
  unfold evalFiring
  rw [hg]
  simp only [hinst]
  rw [if_neg (by simp [hfs, hstart])]
  simp only [halign, if_true, Bool.or_false, firingInstant_alike hlike, hat, hroom, Bool.not_true, Bool.false_eq_true, if_false,
    horizonMisses_alike hlike, hmiss]

/-- What the release of a firing comes to, by the fence that matches it. -/
def releasedWith (n i t : Nat) (r : InstRec) (x : InstRt) (g : GraphRt) (c : Channel) : Option Fence → Channel
  | some f =>
    let c1 := bump 0x2500 0x14 (putGraph n (putInst i { releasedInst t c x with fs := .fenced, fencedBy := if f.freeze then 1 else 2 } g) (released n i c))
    if f.armedAt = c.time.up then bump 0x2500 0x15 c1 else c1
  | none => enterFiring n i r (releasedInst t c x) g (released n i c)

theorem evalFiring_eq (h : FiringDue c n i t g r x) : evalFiring n i c = releasedWith n i t r x (trimAll g) c (fenceFor c n i t) := by
  rw [evalFiring_releases h]
  rfl

theorem evalFiring_fenced {f : Fence} (h : FiringDue c n i t g r x) (hf : fenceFor c n i t = some f) :
    Sys2Proof.instAt (evalFiring n i c) n i =
      some { releasedInst t c x with fs := .fenced, fencedBy := if f.freeze then 1 else 2 } := by
  rw [evalFiring_eq h, hf, releasedWith]
  simp only []
  split_ifs <;> simp only [instAt_bump, instAt_putGraph]

theorem evalFiring_unfenced (h : FiringDue c n i t g r x) (hf : fenceFor c n i t = none) :
    evalFiring n i c = enterFiring n i r (releasedInst t c x) (trimAll g) (released n i c) := by
  rw [evalFiring_eq h, hf, releasedWith]

/-- Does the dispatcher complete the firing without its tile (06 R198)? -/
def blockedInputs (c : Channel) (g : GraphRt) (i t : Nat) (r : InstRec) : Bool :=
  opRule r.op = 0 && (takenTokens c g i r t).any (fun k => tokBad k.2.2)

theorem enterFiring_taken (hb : blockedInputs c g i t r = false) (hx : x.instant = t) : enterFiring n i r x g c = takeEntry n i r x g c := by
  unfold enterFiring
  simp only [hx]
  exact if_neg (by unfold blockedInputs at hb; rw [hb]; simp)

theorem enterFiring_blocked (hb : blockedInputs c g i t r = true) (hx : x.instant = t) :
    enterFiring n i r x g c = blockCompletion n i r x (takenTokens c g i r t) g c := by
  unfold enterFiring
  simp only [hx]
  exact if_pos hb

theorem takeEntry_ready (hfree : entryFree c (levelOf r) = true) : Sys2Proof.instAt (takeEntry n i r x g c) n i = some { x with fs := .ready } := by
  unfold takeEntry
  simp only []
  rw [if_pos hfree, instAt_of_graphs (noteEntries_graphs _ _), instAt_putGraph]

theorem takeEntry_held (hfree : entryFree c (levelOf r) = false) : Sys2Proof.instAt (takeEntry n i r x g c) n i = some { x with fs := .held } := by
  have hraised (d : Channel) (l : Nat) : (raiseLimited 38 0xFF l 0 0 d).graphs = d.graphs := by simp
  unfold takeEntry
  simp only []
  rw [if_neg (by simp [hfree])]
  split_ifs
  · rw [instAt_of_graphs (hraised _ _)]
    exact instAt_putGraph _ _ _ _ _
  · exact instAt_putGraph c n i _ _

/-- A firing ended leaves its instance waiting, its instant kept as the last one. -/
theorem endFiring_instAt (toks : List Token) : (Sys2Proof.instAt (endFiring n i r x toks g c) n i).map (fun y => (y.fs, y.done)) = some (.waiting, x.instant) := by
  unfold endFiring
  simp only []
  rw [instAt_putGraph]
  rfl

theorem blockCompletion_instAt (l : List (Bool × Nat × Token)) :
    (Sys2Proof.instAt (blockCompletion n i r x l g c) n i).map (fun y => (y.fs, y.done)) = some (.waiting, x.instant) := by
  unfold blockCompletion
  simp only []
  rw [instAt_bump, endFiring_instAt]
  split <;> rfl

/-- A held firing that its level's reservation has an entry for (06 R192). -/
theorem heldEntryGrantedC_grants {l : Nat} (hf : firstEntry (instsIn c (isHeld l)) = some (n, i, r, x)) (hg : kGet c.graphs n = some g)
    (hroom : inUse c l < nth c.disp.resv l 0) (hfence : fenceFor c n i x.instant = none) :
    Sys2Proof.instAt (heldEntryGrantedC l c) n i = some { x with fs := .ready } := by
  unfold heldEntryGrantedC
  simp only [hf, hroom, decide_true, Bool.true_or, if_true, hg, hfence]
  rw [instAt_of_graphs (noteEntries_graphs _ _), instAt_putGraph]

end

section
variable {s : State} {ch : Chan} {n i t : Nat} {g : GraphRt} {r : InstRec} {x : InstRt}

/-- The statement's conditions, of the channel as the command finds it. -/
theorem firingDue_of_ready (h : Sys2Proof.ReleaseReady s ch n i t g r x) : FiringDue (commitsEnded (chanOf s ch)) n i t g r x := by
  obtain ⟨hstart, hg, hinst, hfs, halign, hat, hroom, hmiss⟩ := h
  have hlike : ReadAlike (chanOf s ch) (commitsEnded (chanOf s ch)) := ⟨rfl, rfl, rfl⟩
  refine ⟨hstart, hg, hinst, hfs, ?_, ?_, hroom, ?_⟩
  · rw [alignLoop_alike hlike, halign]
  · rw [firingInstant_alike hlike, hat]
  · rw [horizonMisses_alike hlike, hmiss]

theorem blockedInputs_released (h : opRule r.op ≠ 0 ∨ (takenTokens (chanOf s ch) (trimAll g) i r t).any (fun k => tokBad k.2.2) = false) :
    blockedInputs (released n i (commitsEnded (chanOf s ch))) (trimAll g) i t r = false := by
  have hlike : ReadAlike (chanOf s ch) (released n i (commitsEnded (chanOf s ch))) := ⟨rfl, rfl, rfl⟩
  rw [blockedInputs, takenTokens_alike hlike]
  rcases h with h | h <;> simp [h]

theorem blockedInputs_released_true (hop : opRule r.op = 0) (hb : (takenTokens (chanOf s ch) (trimAll g) i r t).any (fun k => tokBad k.2.2) = true) :
    blockedInputs (released n i (commitsEnded (chanOf s ch))) (trimAll g) i t r = true := by
  have hlike : ReadAlike (chanOf s ch) (released n i (commitsEnded (chanOf s ch))) := ⟨rfl, rfl, rfl⟩
  rw [blockedInputs, takenTokens_alike hlike]
  simp [hop, hb]

theorem evalFiring_blocked {c : Channel} (h : FiringDue c n i t g r x) (hf : fenceFor c n i t = none) (hb : blockedInputs (released n i c) (trimAll g) i t r = true) :
    (Sys2Proof.instAt (evalFiring n i c) n i).map (fun y => (y.fs, y.done)) = some (.waiting, t) := by
  rw [evalFiring_unfenced h hf, enterFiring_blocked hb rfl, blockCompletion_instAt]
  rfl

theorem entryFree_released (l : Nat) (c : Channel) : entryFree (released n i (commitsEnded c)) l = entryFree c l := rfl

theorem fenceFor_commitsEnded (c : Channel) : fenceFor (commitsEnded c) n i t = fenceFor c n i t := rfl

theorem heldEntryGrantedC_commitsEnded {c : Channel} {l : Nat} (hf : firstEntry (instsIn c (isHeld l)) = some (n, i, r, x)) (hg : kGet c.graphs n = some g)
    (hroom : inUse c l < nth c.disp.resv l 0) (hfence : fenceFor c n i x.instant = none) :
    Sys2Proof.instAt (heldEntryGrantedC l (commitsEnded c)) n i = some { x with fs := .ready } := by
  have hinsts : instsIn (commitsEnded c) (isHeld l) = instsIn c (isHeld l) := rfl
  have huse : inUse (commitsEnded c) l = inUse c l := rfl
  exact heldEntryGrantedC_grants (by rw [hinsts, hf]) hg (by rw [huse]; exact hroom) ((fenceFor_commitsEnded c).trans hfence)

/-- A firing released without a fence takes an entry, or waits for one. -/
theorem evalFiring_entered (h : Sys2Proof.ReleaseReady s ch n i t g r x) (hf : fenceFor (chanOf s ch) n i t = none)
    (hb : opRule r.op ≠ 0 ∨ (takenTokens (chanOf s ch) (trimAll g) i r t).any (fun k => tokBad k.2.2) = false) :
    evalFiring n i (commitsEnded (chanOf s ch)) =
      takeEntry n i r (releasedInst t (chanOf s ch) x) (trimAll g) (released n i (commitsEnded (chanOf s ch))) := by
  rw [evalFiring_unfenced (firingDue_of_ready h) ((fenceFor_commitsEnded _).trans hf), enterFiring_taken (blockedInputs_released hb) rfl]
  rfl

theorem firingRelease_does {P : Option InstRt → Prop} (h : P (Sys2Proof.instAt (evalFiring n i (commitsEnded (chanOf s ch))) n i)) :
    Sys2Proof.Does (.firingRelease ch n i) s (fun u => P (Sys2Proof.instAt (chanOf u ch) n i)) :=
  does_onChan (f := fun c => readyUpdate (evalFiring n i c)) rfl fun u hu _ => by
    rw [hu, instAt_of_graphs (readyUpdate_graphs _)]
    exact h

end

/-- Settles O36: a firing is released, held, fenced or completed by the dispatcher, and a freed entry granted. -/
theorem firingRelease : Obligations.firing_release := by
  unfold Obligations.firing_release
  refine ⟨fun s ch n i t g r x h hf he hb => firingRelease_does (P := fun y => y = _) ?_,
    fun s ch n i t g r x h hf he hb => firingRelease_does (P := fun y => y = _) ?_,
    fun s ch n i t g r x f h hf => firingRelease_does (P := fun y => y.map _ = _) ?_,
    fun s ch n i t g r x h hf hop hb => firingRelease_does (P := fun y => y.map _ = _) ?_,
    fun s ch l n i r x g hf hg hroom hfence => does_onChan rfl fun u hu ho => ?_⟩
  · rw [evalFiring_entered h hf hb, takeEntry_ready ((entryFree_released _ _).trans he)]
    rfl
  · rw [evalFiring_entered h hf hb, takeEntry_held ((entryFree_released _ _).trans he)]
    rfl
  · rw [evalFiring_fenced (firingDue_of_ready h) ((fenceFor_commitsEnded _).trans hf)]
    rfl
  · exact evalFiring_blocked (firingDue_of_ready h) ((fenceFor_commitsEnded _).trans hf) (blockedInputs_released_true hop hb)
  · rw [hu]
    exact ⟨heldEntryGrantedC_commitsEnded hf hg hroom hfence, ho⟩

end Sys2Proof.Machine
end

section
/-! Firings on tiles, ticks and the delay list (06 R187, R194, R195, R204 to R210, R215; 08 R269 to R272). -/
namespace Sys2Proof.Machine
open Sys2Proof

/-! ### Dispatch -/

section
variable {c : Channel} {n i k : Nat} {g : GraphRt} {y : InstRt} {f : InstRt → InstRt}

@[simp] theorem modInst_disp (n i : Nat) (f : InstRt → InstRt) (c : Channel) : (modInst n i f c).disp = c.disp := by
  unfold modInst
  split
  · rfl
  · split <;> rfl

@[simp] theorem modInst_ctr (n i : Nat) (f : InstRt → InstRt) (c : Channel) : (modInst n i f c).ctr = c.ctr := by
  unfold modInst
  split
  · rfl
  · split <;> rfl

theorem instAt_eq_some : Sys2Proof.instAt c n i = some y ↔ ∃ g, kGet c.graphs n = some g ∧ kGet g.insts i = some y := by
  simp [Sys2Proof.instAt, Option.bind_eq_some_iff]

theorem instAt_modInst_same (n i : Nat) (f : InstRt → InstRt) (c : Channel) :
    Sys2Proof.instAt (modInst n i f c) n i = (Sys2Proof.instAt c n i).map f := by
  unfold modInst
  cases hg : kGet c.graphs n with
  | none => simp [Sys2Proof.instAt, hg]
  | some g =>
    cases hy : kGet g.insts i with
    | none => simp [Sys2Proof.instAt, hg, hy]
    | some y => simp [Sys2Proof.instAt, hg, hy, putGraph, putInst, kGet_kPut_same]

theorem instAt_modInst_other {m j : Nat} (f : InstRt → InstRt) (c : Channel) (h : (m, j) ≠ (n, i)) :
    Sys2Proof.instAt (modInst n i f c) m j = Sys2Proof.instAt c m j := by
  unfold modInst
  cases hg : kGet c.graphs n with
  | none => rfl
  | some g =>
    cases hy : kGet g.insts i with
    | none => simp only [hy]
    | some y =>
      simp only [hy]
      by_cases hm : m = n
      · subst hm
        have hj : j ≠ i := fun e => h (by rw [e])
        simp [Sys2Proof.instAt, hg, putGraph, putInst, kGet_kPut_same, kGet_kPut_other _ _ _ _ hj]
      · simp [Sys2Proof.instAt, putGraph, kGet_kPut_other _ _ _ _ hm]

theorem topRuns_iff : topRuns c n i = true ↔ ∃ y, Sys2Proof.instAt c n i = some y ∧ y.fs = .running := by
  unfold topRuns Sys2Proof.instAt
  cases hg : kGet c.graphs n with
  | none => simp
  | some g => cases hy : kGet g.insts i <;> simp [hy]

/-- A ready entry runs on its tile, at the channel's present time `t`. -/
def runOn (k : Nat) (tl : Tile) (n i : Nat) (r : InstRec) (x : InstRt) (t : Nat) (c : Channel) : Channel :=
  highWater 0x2505 (levelOf r + 1) (t - x.release) (bump 0x2504 (levelOf r + 1) (bump 0x2500 0x17
    (putTile k { tl with stack := (n, i) :: tl.stack } (modInst n i (fun y => { y with fs := .running, startAt := t }) c))))

section
variable {tl : Tile} {r : InstRec} {x : InstRt} {t m j q : Nat}

theorem runOn_graphs : (runOn k tl n i r x t c).graphs = (modInst n i (fun y => { y with fs := .running, startAt := t }) c).graphs := by
  rw [runOn, highWater_graphs]
  rfl

theorem runOn_instAt_same : Sys2Proof.instAt (runOn k tl n i r x t c) n i =
    (Sys2Proof.instAt c n i).map (fun y => { y with fs := .running, startAt := t }) := by
  rw [instAt_of_graphs runOn_graphs, instAt_modInst_same]

theorem runOn_instAt_other (h : (m, j) ≠ (n, i)) : Sys2Proof.instAt (runOn k tl n i r x t c) m j = Sys2Proof.instAt c m j := by
  rw [instAt_of_graphs runOn_graphs, instAt_modInst_other _ _ h]

theorem runOn_tile : kGet (runOn k tl n i r x t c).disp.tiles k = some { tl with stack := (n, i) :: tl.stack } := by
  rw [runOn, highWater_disp]
  exact kGet_kPut_same _ _ _

/-- A preemption is not counted by the firing that runs. -/
theorem runOn_preemptions : zGet (runOn k tl n i r x t c).ctr (od 0x2500 0x18) = zGet c.ctr (od 0x2500 0x18) := by
  have hlevel : od 0x2500 0x18 ≠ od 0x2504 (levelOf r + 1) := by
    unfold od
    omega
  rw [runOn, highWater_ctr, zGet_bump_other _ _ _ hlevel, zGet_bump_other _ _ _ (by decide)]
  exact congrArg (fun m => zGet m _) (modInst_ctr _ _ _ _)

theorem firingDispatchC_idle (ht : kGet c.disp.tiles k = some tl) (hrole : tl.role ≠ .failed) (hstack : tl.stack = [])
    (hready : readyOn c k = some (n, i, r, x)) : firingDispatchC k c = runOn k tl n i r x c.time.up c := by
  unfold firingDispatchC topLevel
  simp only [ht, hready, hstack]
  rw [if_neg (by simpa using hrole)]
  simp only [runOn, hstack]

theorem firingDispatchC_over (ht : kGet c.disp.tiles k = some tl) (hrole : tl.role ≠ .failed) (hready : readyOn c k = some (n, i, r, x))
    (htop : topLevel c tl = some (q, m, j)) (hlt : levelOf r < q) :
    firingDispatchC k c = runOn k tl n i r x c.time.up
      (if topRuns c m j then bump 0x2500 0x18 (modInst m j (fun y => { y with fs := .preempted }) c) else c) := by
  unfold firingDispatchC
  simp only [ht, hready, htop]
  rw [if_neg (by simpa using hrole), if_pos hlt]
  rfl

theorem firingDispatchC_waits {p : Nat × Nat × Nat} (ht : kGet c.disp.tiles k = some tl) (hready : readyOn c k = some (n, i, r, x))
    (htop : topLevel c tl = some p) (hle : p.1 ≤ levelOf r) : firingDispatchC k c = c := by
  unfold firingDispatchC
  simp only [ht, hready, htop, if_neg (Nat.not_lt.2 hle), ite_self]

theorem firingResumeC_resumes {l : Nat} (ht : kGet c.disp.tiles k = some tl) (htop : topLevel c tl = some (l, n, i))
    (hnone : instsIn c (fun r x => x.fs == .ready && x.tile == k && decide (levelOf r < l)) = []) (hy : Sys2Proof.instAt c n i = some y)
    (hfs : y.fs = .preempted) : Sys2Proof.instAt (firingResumeC k c) n i = some { y with fs := .running } := by
  unfold firingResumeC
  simp only [ht, htop, hnone, List.isEmpty_nil, if_true]
  rw [instAt_modInst_same, hy]
  simp [hfs]

end
end

end Sys2Proof.Machine
end

section
/-! The tick and the delay list (06 R204 to R210, R215). -/
namespace Sys2Proof.Machine
open Sys2Proof

section
variable {c : Channel} {n g i : Nat} {e : DelayEntry}

@[simp] theorem tickTo_disp (n : Nat) (c : Channel) : (tickTo n c).disp = c.disp := by
  unfold tickTo advanceTo
  split <;> rfl
@[simp] theorem tickTo_pub (n : Nat) (c : Channel) : (tickTo n c).pub = c.pub := by
  unfold tickTo advanceTo
  split <;> rfl
@[simp] theorem tickTo_graphs (n : Nat) (c : Channel) : (tickTo n c).graphs = c.graphs := by
  unfold tickTo advanceTo
  split <;> rfl

theorem advanceTo_lastTick (t : Nat) (c : Channel) : (advanceTo t c).time.lastTick = c.time.lastTick := by
  obtain ⟨u, r, h⟩ := advanceTo_time t c
  rw [h]

theorem tickTo_lastTick (n : Nat) (c : Channel) : (tickTo n c).time.lastTick = max c.time.lastTick n := by
  unfold tickTo
  simp only [advanceTo_lastTick]

theorem le_tickOf_tickTo (n : Nat) (c : Channel) : n ≤ tickOf (tickTo n c) := by
  unfold tickOf
  rw [tickTo_lastTick]
  omega

/-- With an empty list nothing is processed, and nothing is late. -/
theorem delayRun_nil (n : Nat) (h : c.disp.delay = []) : delayRun n c = c := by
  cases n with
  | zero => rfl
  | succ n => simp [delayRun, delayPop, h]

theorem markLate_nil (h : c.disp.delay = []) : markLate c = c := by
  unfold markLate
  simp [h]

theorem markLate_room (h : tickCount c < 625) : markLate c = c := by
  unfold markLate
  simp [h]

/-- The tick that begins next. -/
def nextTick (c : Channel) : Nat := max (c.time.lastTick + 1) (nowNs c / 1000)

theorem tickC_empty (hrun : c.boot.graphsRun = true) (h : c.disp.delay = []) : tickC c = tickTo (nextTick c) c := by
  have hdelay : (tickTo (nextTick c) c).disp.delay = [] := by rw [tickTo_disp, h]
  unfold tickC
  rw [if_pos hrun, ← nextTick, delayRun_nil _ hdelay, markLate_nil hdelay]

/-- The channel in which a due entry is acted on: off the list, and counted in its tick. -/
def popped (c : Channel) : Channel :=
  { c with disp := { c.disp with delay := [], tickNo := tickOf c, tickUsed := tickCount c + 1 } }

theorem tickCount_popped : tickCount (popped c) = tickCount c + 1 := if_pos rfl

/-- What a due entry of the list does. -/
def entryAct : DelayKind → DelayEntry → Channel → Channel
  | .retx g, e, c => retxStep g e c
  | .horizon n i, _, c => evalFiring n i c

theorem delayPop_only (h : c.disp.delay = [e]) (hdue : e.due ≤ tickOf c) (hroom : tickCount c < 625) :
    delayPop c = some (e, entryAct e.kind e (popped c)) := by
  unfold delayPop
  simp only [h]
  rw [if_pos ⟨hdue, hroom⟩]
  unfold entryAct
  cases e.kind <;> rfl

theorem entryDue_only (h : c.disp.delay = [e]) (hroom : tickCount (tickTo e.due c) < 625) :
    entryDue e.kind c = markLate (entryAct e.kind e (popped (tickTo e.due c))) := by
  have hpop := delayPop_only (c := tickTo e.due c) (by rw [tickTo_disp, h]) (le_tickOf_tickTo _ _) hroom
  have hrun : delayRunTo e.kind (624 + 1) (tickTo e.due c) = entryAct e.kind e (popped (tickTo e.due c)) := by
    unfold delayRunTo
    simp only [hpop, if_true]
  have hfind : c.disp.delay.find? (fun x => x.kind == e.kind) = some e := by
    simp [h]
  unfold entryDue
  rw [hfind]
  exact congrArg markLate hrun

/-! ### A retransmission -/

/-- A publication after a retransmission (10 R316). -/
def retransmitted (p : GPub) : GPub := { p with sqNum := nextCount p.sqNum, interval := min (p.interval * pubG p) p.t0 }

theorem retxStep_eq {p : GPub} (hp : kGet c.pub.gpubs g = some p) :
    retxStep g e c = enqueueGoose (tickOf c) (retransmitted p).interval false (retransmitted p)
      (putGPub g (retransmitted p) (setDelay (delayInsert ⟨.retx g, e.due + (retransmitted p).interval, false⟩ c.disp.delay) c)) := by
  unfold retxStep
  rw [hp]
  rfl

theorem retxStep_popped {p : GPub} (hp : kGet c.pub.gpubs g = some p) :
    kGet (retxStep g e (popped c)).pub.gpubs g = some (retransmitted p) ∧
      (retxStep g e (popped c)).disp.delay = [⟨.retx g, e.due + (retransmitted p).interval, false⟩] ∧
      (retxStep g e (popped c)).pub.jobs.length = c.pub.jobs.length + 1 ∧ tickCount (retxStep g e (popped c)) = tickCount c + 1 := by
  rw [retxStep_eq (c := popped c) hp]
  refine ⟨kGet_kPut_same _ _ _, rfl, by simp [enqueueGoose, putGPub, setDelay, popped], if_pos rfl⟩

theorem entryDue_retx {p : GPub} (h : c.disp.delay = [e]) (hk : e.kind = .retx g) (hp : kGet c.pub.gpubs g = some p)
    (hroom : tickCount (tickTo e.due c) < 624) :
    kGet (entryDue (.retx g) c).pub.gpubs g = some (retransmitted p) ∧
      (entryDue (.retx g) c).disp.delay = [⟨.retx g, e.due + (retransmitted p).interval, false⟩] ∧
      (entryDue (.retx g) c).pub.jobs.length = c.pub.jobs.length + 1 := by
  obtain ⟨hpub, hdelay, hjobs, hcount⟩ := retxStep_popped (c := tickTo e.due c) (e := e) (by rw [tickTo_pub]; exact hp)
  rw [← hk, entryDue_only h (by omega), hk, entryAct, markLate_room (by omega)]
  exact ⟨hpub, hdelay, by rw [hjobs, tickTo_pub]⟩

/-! ### A horizon -/

/-- A firing that does not wait is not released again. -/
theorem evalFiring_of_not_waiting {gr : GraphRt} {r : InstRec} {x : InstRt} (hg : kGet c.graphs n = some gr)
    (hi : instOf gr i = some (r, x)) (hfs : x.fs ≠ .waiting) : evalFiring n i c = c := by
  unfold evalFiring
  rw [hg]
  simp only [hi]
  exact if_pos (by simp [hfs])

theorem entryDue_horizon {gr : GraphRt} {r : InstRec} {x : InstRt} (h : c.disp.delay = [e]) (hk : e.kind = .horizon n i)
    (hg : kGet c.graphs n = some gr) (hi : instOf gr i = some (r, x)) (hfs : x.fs ≠ .waiting)
    (hroom : tickCount (tickTo e.due c) < 625) : entryDue (.horizon n i) c = popped (tickTo e.due c) := by
  have hgraph : kGet (popped (tickTo e.due c)).graphs n = some gr := by
    rw [show (popped (tickTo e.due c)).graphs = (tickTo e.due c).graphs from rfl, tickTo_graphs, hg]
  rw [← hk, entryDue_only h hroom, hk, entryAct, evalFiring_of_not_waiting hgraph hi hfs, markLate_nil rfl]

/-! ### Firings parked for room -/

/-- The channel after its first parked firing has been taken off. -/
def unparked (rest : List (Nat × Nat)) (c : Channel) : Channel := { c with disp := { c.disp with parked := rest } }

/-- Does a firing wait? -/
def waitsFor (c : Channel) (n i : Nat) : Bool := (instsIn c (fun _ x => x.fs == .waiting)).any (fun x => x.1 == n && x.2.1 == i)

theorem delayFullRecheckC_gone {rest : List (Nat × Nat)} (h : c.disp.parked = (n, i) :: rest) (hw : waitsFor c n i = false) :
    delayFullRecheckC c = unparked rest c := by
  unfold delayFullRecheckC
  simp only [h]
  exact if_neg (Bool.eq_false_iff.1 hw)

theorem delayFullRecheckC_waits {rest : List (Nat × Nat)} (h : c.disp.parked = (n, i) :: rest) (hw : waitsFor c n i = true) :
    delayFullRecheckC c = readyUpdate (evalFiring n i (raiseLimited 39 0xFF i 0 0 (bump 0x2500 0x1C (unparked rest c)))) := by
  unfold delayFullRecheckC
  simp only [h]
  exact if_pos hw

end

/-! ### What a mode change and a firing leave of the counters -/

/-- Two tables of counters agree outside a list. -/
def Counts (K : List Nat) (m m' : KMap U64) : Prop := ∀ k, k ∉ K → zGet m' k = zGet m k

section
variable {K L : List Nat} {m m' : KMap U64} {d : Channel}

@[simp] theorem counts_refl (K : List Nat) (m : KMap U64) : Counts K m m := fun _ _ => rfl

theorem Counts.trans {m'' : KMap U64} (h : Counts K m m') (h' : Counts K m' m'') : Counts K m m'' :=
  fun k hk => (h' k hk).trans (h k hk)

/-- What moves only counters of the list may be left out. -/
theorem Counts.iff (h : Counts L d.ctr m') (hL : L ⊆ K) (m : KMap U64) : Counts K m m' ↔ Counts K m d.ctr :=
  forall₂_congr fun k hk => by rw [h k fun e => hk (hL e)]

theorem Counts.foldl {α : Type} {f : Channel → α → Channel} (h : ∀ c x, Counts K c.ctr (f c x).ctr) (l : List α) (c : Channel) :
    Counts K c.ctr (l.foldl f c).ctr := fun k hk => foldl_keeps (g := fun c => zGet c.ctr k) (fun c x => h c x k hk) l c

@[simp] theorem counts_bumpN (i sub n : Nat) (hK : od i sub ∈ K) : Counts K m (bumpN i sub n d).ctr ↔ Counts K m d.ctr :=
  Counts.iff (L := [od i sub]) (fun _ hk => zGet_bumpN_other _ _ _ _ (by simpa using hk)) (by simpa using hK) m

@[simp] theorem counts_bump (i sub : Nat) (hK : od i sub ∈ K) : Counts K m (bump i sub d).ctr ↔ Counts K m d.ctr := counts_bumpN i sub 1 hK

@[simp] theorem counts_journalAdd (cat item sl : Nat) (body : List Byte) (hK : od 0x2F00 0x14 ∈ K) :
    Counts K m (journalAdd cat item sl body d).ctr ↔ Counts K m d.ctr :=
  Counts.iff (L := [od 0x2F00 0x14]) (fun _ hk => zGet_journalDrain_other _ _ (by simpa using hk)) (by simpa using hK) m

@[simp] theorem counts_raise (src sl obj v : Nat) (hK : raiseCounters src ⊆ K) : Counts K m (raise src sl obj v d).ctr ↔ Counts K m d.ctr :=
  Counts.iff (fun _ hk => zGet_raiseNow_other _ _ _ _ _ hk) hK m

@[simp] theorem counts_raiseLimited (src sl obj v key : Nat) (hK : raiseCounters src ⊆ K) :
    Counts K m (raiseLimited src sl obj v key d).ctr ↔ Counts K m d.ctr :=
  Counts.iff (fun _ hk => zGet_raiseLimited_other _ _ _ _ _ _ hk) hK m

@[simp] theorem counts_present (rank tile : Nat) (l : List (Nat × BankOp)) (hK : bankCounters ⊆ K) :
    Counts K m (present rank tile l d).ctr ↔ Counts K m d.ctr :=
  Counts.iff (fun _ hk => zGet_present_other _ _ _ _ hk) hK m

/-- The counters that a mode change may move, and those that readiness may. -/
def modeCounters : List Nat := raiseCounters 28 ++ raiseCounters 0
def readyCounters : List Nat := raiseCounters 46 ++ modeCounters

@[simp] theorem counts_injCheck (hK : raiseCounters 28 ⊆ K) : Counts K m (injCheck d).ctr ↔ Counts K m d.ctr := by
  refine Counts.iff (Counts.foldl (fun c x => ?_) _ d) hK m
  unfold injEnd
  split_ifs
  · simp
  · split
    · simp
    · dsimp only
      split_ifs <;> simp

@[simp] theorem counts_enterMode (x : Mode) (hK : modeCounters ⊆ K) : Counts K m (enterMode x d).ctr ↔ Counts K m d.ctr := by
  refine Counts.iff (L := modeCounters) ?_ hK m
  unfold enterMode
  split_ifs
  · simp
  · simp (disch := decide)

@[simp] theorem counts_readyUpdate (hK : readyCounters ⊆ K) : Counts K m (readyUpdate d).ctr ↔ Counts K m d.ctr := by
  refine Counts.iff (L := readyCounters) ?_ hK m
  have hfold (l : List Nat) (f : Nat → Nat) (e : Channel) : Counts readyCounters e.ctr (l.foldl (fun c n => raise 46 n n (f n) c) e).ctr :=
    Counts.foldl (fun c n => by simp (disch := decide)) l e
  unfold readyUpdate
  dsimp only
  split_ifs
  · unfold enterActive openCuff
    rw [counts_enterMode _ (by decide)]
    exact hfold _ _ _
  · exact hfold _ _ _

/-- The counters that the evaluation of a firing may move. -/
def firingCounters : List Nat :=
  [od 0x2500 0x0D, od 0x2500 0x0E, od 0x2500 0x13, od 0x2500 0x14, od 0x2500 0x15, od 0x2500 0x16] ++ bankCounters ++ raiseCounters 38

section
variable {n i t : Nat} {r : InstRec} {x : InstRt} {g : GraphRt}

theorem counts_enterFiring (c : Channel) : Counts firingCounters c.ctr (enterFiring n i r x g c).ctr := by
  unfold enterFiring blockCompletion endFiring takeEntry noteEntries
  dsimp only
  split_ifs <;> simp (disch := decide) [putGraph]

theorem counts_releaseFiring (c : Channel) : Counts firingCounters c.ctr (releaseFiring n i t r x g c).ctr := by
  unfold releaseFiring
  dsimp only
  split
  · split_ifs <;> simp (disch := decide) [putGraph]
  · simpa using counts_enterFiring (n := n) (i := i) (r := r) (x := { x with instant := t, release := c.time.up, waited := false }) (g := g)
      { c with disp := { c.disp with parked := c.disp.parked.filter (fun k => k != (n, i)) } }

theorem counts_horizonWait (l : List EdgeRec) (c : Channel) : Counts firingCounters c.ctr (horizonWait n i t x l g c).ctr := by
  unfold horizonWait park
  dsimp only
  split_ifs <;> simp (disch := decide) [putGraph, setDelay]

theorem counts_evalFiring (c : Channel) : Counts firingCounters c.ctr (evalFiring n i c).ctr := by
  have hdrop (p : Prop) [Decidable p] (k : Nat) (y : InstRt) (q : GraphRt) :
      Counts firingCounters c.ctr (bumpN 0x2500 0x0D k (if p then c else putGraph n (putInst i y q) c)).ctr := by
    split_ifs <;> simp (disch := decide) [putGraph]
  unfold evalFiring
  split
  · simp
  · split
    · simp
    · dsimp only
      generalize he : bumpN 0x2500 0x0D _ _ = e
      have hdropped : Counts firingCounters c.ctr e.ctr := he ▸ hdrop _ _ _ _
      split_ifs
      · simp
      · split <;> exact hdropped
      · split
        · exact hdropped
        · split
          · exact hdropped.trans (counts_releaseFiring _)
          · exact hdropped.trans (counts_horizonWait _ _)

end
end

end Sys2Proof.Machine
end

section
/-! Tile faults (08 R269 to R273), and the statement on dispatch, ticks and tiles. -/
namespace Sys2Proof.Machine
open Sys2Proof

/-! ### Sorted tables -/

section
variable {α : Type} {m : KMap α} {lo k : Nat} {v w : α} {p : Nat × α → Bool}

theorem le_of_kRisingFrom (h : kRisingFrom lo m = true) (hm : (k, v) ∈ m) : lo ≤ k := by
  induction m generalizing lo with
  | nil => simp at hm
  | cons a r ih =>
    obtain ⟨i, x⟩ := a
    simp only [kRisingFrom, Bool.and_eq_true, decide_eq_true_eq] at h
    rcases List.mem_cons.1 hm with e | hr
    · cases e
      exact h.1
    · have := ih h.2 hr
      omega

theorem kGet_of_mem (h : kRisingFrom lo m = true) (hm : (k, v) ∈ m) : kGet m k = some v := by
  induction m generalizing lo with
  | nil => simp at hm
  | cons a r ih =>
    obtain ⟨i, x⟩ := a
    simp only [kRisingFrom, Bool.and_eq_true, decide_eq_true_eq] at h
    rcases List.mem_cons.1 hm with e | hr
    · cases e
      exact if_pos rfl
    · have hlt := le_of_kRisingFrom h.2 hr
      rw [kGet, if_neg (by omega)]
      exact ih h.2 hr

/-- An entry that a search passes over may be replaced by another that it passes over. -/
theorem find?_kPut_skipped (h : kRisingFrom lo m = true) (hm : kGet m k = some v) (hv : p (k, v) = false) (hw : p (k, w) = false) :
    (kPut m k w).find? p = m.find? p := by
  induction m generalizing lo with
  | nil => simp [kGet] at hm
  | cons a r ih =>
    obtain ⟨i, x⟩ := a
    simp only [kRisingFrom, Bool.and_eq_true, decide_eq_true_eq] at h
    unfold kGet at hm
    split_ifs at hm with hi
    · cases hm
      subst hi
      simp [kPut, hv, hw]
    · have hlt := le_of_kRisingFrom h.2 (mem_of_kGet hm)
      rw [kPut, if_neg (by omega), if_neg (by omega), List.find?_cons, List.find?_cons, ih h.2 hm]

end

/-! ### What an in-place fault writes -/

/-- What a fault that restarts nothing writes. -/
abbrev faultParts : List Part := [.boot, .pub, .host, .seam, .can, .journal, .ledger, .dict, .ctr, .diag, .emitted]

section
variable {A : List Part} {c d : Channel}

@[simp] theorem touches_channelFault {code : Nat} (hcode : faultRestarts code = false) (hA : faultParts ⊆ A) :
    Touches A c (channelFault code d) ↔ Touches A c d := by
  refine Touches.iff (B := faultParts) ?_ hA c
  have hnoted : Touches faultParts d (relinquish code (faultNoted code d)) := by simp [faultNoted]
  have hstood (x : SeamSt) (n : Nat) : Touches faultParts d (journalAdd 8 n 0xFF [] (enterMode .standby
      { relinquish code (faultNoted code d) with seam := x })) := hnoted.trans (by simp)
  unfold channelFault
  rw [hcode]
  dsimp only
  rw [if_neg Bool.false_ne_true]
  split
  · exact hstood _ _
  · exact hstood _ _
  · exact hnoted

@[simp] theorem touches_missCount (n : Nat) (r : InstRec) (hA : [.dict, .host, .journal, .ctr, .emitted] ⊆ A) :
    Touches A c (missCount n r d) ↔ Touches A c d := by
  refine Touches.iff (B := [.dict, .host, .journal, .ctr, .emitted]) ?_ hA c
  unfold missCount
  dsimp only
  split_ifs <;> simp

@[simp] theorem touches_notePlacement (m : Image) (p : Placement) (hA : [.dict] ⊆ A) : Touches A c (notePlacement m p d) ↔ Touches A c d := by
  refine Touches.iff (B := [.dict]) ?_ hA c
  have htiles (l : List Nat) (e : Channel) : Touches [.dict] e (l.foldl (fun c k => setRo 0x2506 (k + 1) (tileLoad c p.insts k) c) e) :=
    Touches.foldl (fun c k => by simp) l e
  have hsleeves (l : List SleeveRec) (e : Channel) :
      Touches [.dict] e (l.foldl (fun c x => setRo (0x4001 + x.num * 256) 2 (cdiv (commonsOf m p.items x.num) 1024)
        (setRo (0x4001 + x.num * 256) 1 (sharePct (shareOf p.insts x.num)) c)) e) := Touches.foldl (fun c k => by simp) l e
  unfold notePlacement
  dsimp only
  generalize he : m.sleeves.foldl _ _ = e
  have hnoted : Touches [.dict] d e := by
    rw [← he]
    exact Touches.trans (by simp) ((htiles _ _).trans (hsleeves _ _))
  exact hnoted.trans (by simp)

@[simp] theorem touches_reportPlacement (hA : [.dict] ⊆ A) : Touches A c (reportPlacement d) ↔ Touches A c d :=
  touches_notePlacement _ _ hA

end

/-! ### The tiles, and what waits for the Placer -/

/-- The tiles, the requests and the sleeves: what the Placer's part in a tile fault is about. -/
def placing (c : Channel) : KMap Tile × List PlWait × KMap Sleeve := (c.disp.tiles, c.disp.queued, c.sleeves)

theorem placing_of_touches {A : List Part} {c d : Channel} (h : Touches A c d) (hdisp : Part.disp ∉ A) (hsl : Part.sleeves ∉ A) :
    placing d = placing c := by
  rw [placing, placing, h .disp hdisp, h .sleeves hsl]

theorem placerAwaited_of_placing {c d : Channel} (h : placing d = placing c) : placerAwaited d = placerAwaited c := by
  simp only [placing, Prod.mk.injEq] at h
  obtain ⟨-, hqueued, hsleeves⟩ := h
  rw [placerAwaited, placerAwaited, hqueued, hsleeves]

theorem tiles_of_placing {c d : Channel} (h : placing d = placing c) : d.disp.tiles = c.disp.tiles := congrArg Prod.fst h

theorem placing_present (rank tile : Nat) (l : List (Nat × BankOp)) (c : Channel) : placing (present rank tile l c) = placing c := by
  have hdisp := present_bankless rank tile l c
  have hsleeves : (present rank tile l c).sleeves = c.sleeves :=
    (touches_present rank tile l (List.Subset.refl _)).2 (touches_refl _ c) .sleeves (by decide)
  have htiles : (present rank tile l c).disp.bankless.tiles = c.disp.bankless.tiles := congrArg DispSt.tiles hdisp
  have hqueued : (present rank tile l c).disp.bankless.queued = c.disp.bankless.queued := congrArg DispSt.queued hdisp
  exact Prod.ext htiles (Prod.ext hqueued hsleeves)

theorem placing_modInst (n i : Nat) (f : InstRt → InstRt) (c : Channel) : placing (modInst n i f c) = placing c := by
  unfold modInst
  split
  · rfl
  · split <;> rfl

theorem placing_putGraph (n : Nat) (g : GraphRt) (c : Channel) : placing (putGraph n g c) = placing c := rfl
theorem placing_bump (i sub : Nat) (c : Channel) : placing (bump i sub c) = placing c := rfl

theorem placing_endFiring (n i : Nat) (r : InstRec) (x : InstRt) (toks : List Token) (g : GraphRt) (c : Channel) :
    placing (endFiring n i r x toks g c) = placing c := by
  unfold endFiring
  dsimp only
  rw [placing_putGraph, placing_present]

theorem placing_blockCompletion (n i : Nat) (r : InstRec) (x : InstRt) (l : List (Bool × Nat × Token)) (g : GraphRt) (c : Channel) :
    placing (blockCompletion n i r x l g c) = placing c := by
  unfold blockCompletion
  dsimp only
  rw [placing_bump, placing_endFiring]

theorem touches_takeEntry (n i : Nat) (r : InstRec) (x : InstRt) (g : GraphRt) (c : Channel) :
    Touches [.graphs, .dict, .host, .journal, .ctr, .diag, .emitted] c (takeEntry n i r x g c) := by
  unfold takeEntry noteEntries
  dsimp only
  split_ifs <;> simp

theorem placing_enterFiring (n i : Nat) (r : InstRec) (x : InstRt) (g : GraphRt) (c : Channel) : placing (enterFiring n i r x g c) = placing c := by
  unfold enterFiring
  dsimp only
  split_ifs
  · exact placing_blockCompletion _ _ _ _ _ _ _
  · exact placing_of_touches (touches_takeEntry _ _ _ _ _ _) (by decide) (by decide)

theorem placing_disarmMove (n i : Nat) (c : Channel) : placing (disarmMove n i c) = placing c := by
  unfold disarmMove
  dsimp only
  split
  · rfl
  · split
    · rfl
    · split_ifs
      · split
        · exact (placing_modInst _ _ _ _).trans rfl
        · exact (placing_enterFiring _ _ _ _ _ _).trans rfl
      · rfl

theorem placing_abandonMoves (p : Move → Bool) (c : Channel) : placing (abandonMoves p c) = placing c :=
  foldl_keeps (g := placing) (f := fun c (m : Move) => disarmMove m.sleeve m.inst (bump 0x2500 0x26 c)) (fun _ _ => placing_disarmMove _ _ _) _ _

theorem placing_readyUpdate (c : Channel) : placing (readyUpdate c) = placing c :=
  placing_of_touches (A := [.boot, .pub, .host, .seam, .can, .journal, .ctr, .diag, .emitted]) (by simp) (by decide) (by decide)

theorem placing_reportPlacement (c : Channel) : placing (reportPlacement c) = placing c :=
  placing_of_touches (A := [.dict]) (by simp) (by decide) (by decide)

/-! ### The tile that fails -/

section
variable {c : Channel} {n k cause : Nat} {t : Tile}

/-- A tile that fails, as it is recorded. -/
def tileFailed (n cause : Nat) (c : Channel) : Channel :=
  putTile n ⟨.failed, []⟩ (raise 31 0xFF n cause (episode 0x14 [BitVec.ofNat 8 n, BitVec.ofNat 8 cause] (bump 0x2500 0x2E c)))

theorem tileFailed_tiles : (tileFailed n cause c).disp.tiles = kPut c.disp.tiles n ⟨.failed, []⟩ := by simp [tileFailed, putTile]
theorem tileFailed_queued : (tileFailed n cause c).disp.queued = c.disp.queued := by simp [tileFailed, putTile]
theorem tileFailed_sleeves : (tileFailed n cause c).sleeves = c.sleeves := by simp [tileFailed, putTile]
theorem tileFailed_boot : (tileFailed n cause c).boot = c.boot := by simp [tileFailed, putTile]

theorem firstSpare_tileFailed (hwf : kWf c.disp.tiles = true) (ht : kGet c.disp.tiles n = some t) (hrole : t.role = .placeable) :
    firstSpare (tileFailed n cause c) = firstSpare c := by
  rw [firstSpare, firstSpare, tileFailed_tiles, find?_kPut_skipped hwf ht (by simp [hrole]) (by simp)]

theorem firstSpare_tileFailed_none (h : ∀ y ∈ c.disp.tiles, y.2.role ≠ .spare) : firstSpare (tileFailed n cause c) = none := by
  rw [firstSpare, tileFailed_tiles, Option.map_eq_none_iff, List.find?_eq_none]
  intro y hy
  rcases mem_kPut _ _ _ _ hy with rfl | hy
  · simp
  · simpa using h y hy

/-- The spare is not the tile that fails. -/
theorem firstSpare_ne (hwf : kWf c.disp.tiles = true) (ht : kGet c.disp.tiles n = some t) (hrole : t.role = .placeable)
    (hk : firstSpare c = some k) : n ≠ k := by
  obtain ⟨⟨j, u⟩, hfind, rfl⟩ := Option.map_eq_some_iff.1 hk
  have hget := kGet_of_mem hwf (List.mem_of_find?_eq_some hfind)
  have hspare := List.find?_some hfind
  rintro rfl
  rw [hget] at ht
  cases ht
  simp [hrole] at hspare

theorem tileFault_none (ht : kGet c.disp.tiles n = some t) (hrole : t.role = .placeable) (hk : firstSpare (tileFailed n cause c) = none) :
    tileFault n cause c = channelFault 6 (tileFailed n cause c) := by
  unfold tileFault
  simp only [ht, hrole]
  rw [if_neg (by decide), ← tileFailed, hk]

/-- A channel within the time in which bindings move to a spare (08 R272). -/
def recoverySet (c : Channel) : Channel := { c with disp := { c.disp with tileFaultAt := some c.time.up } }

/-- Does a fault of a tile end a move? -/
def hitBy (n : Nat) (c : Channel) (m : Move) : Bool := m.target == n || tileOf c m.sleeve m.inst == n

/-- The in-place fault, and what the spare then takes. -/
theorem tileFault_spare (ht : kGet c.disp.tiles n = some t) (hrole : t.role = .placeable) (hk : firstSpare (tileFailed n cause c) = some k) :
    ∃ d gone, placing d = placing (tileFailed n cause c) ∧
      tileFault n cause c = reportPlacement (readyUpdate (replan n k gone (rebind n k (putTile k ⟨.placeable, []⟩ d)))) := by
  have hfault (e : Channel) : placing (channelFault 5 e) = placing e :=
    placing_of_touches (A := faultParts) ((touches_channelFault (code := 5) (by decide) (List.Subset.refl _)).2 (touches_refl _ _)) (by decide) (by decide)
  refine ⟨_, (tileFailed n cause c).disp.moves.filter (hitBy n (tileFailed n cause c)),
    (placing_abandonMoves (hitBy n (tileFailed n cause c)) _).trans (hfault (recoverySet (tileFailed n cause c))), ?_⟩
  unfold tileFault
  simp only [ht, hrole]
  rw [if_neg (by decide), ← tileFailed, hk]
  rfl

theorem tileFault_spare_placing (ht : kGet c.disp.tiles n = some t) (hrole : t.role = .placeable) (hk : firstSpare (tileFailed n cause c) = some k) :
    placing (tileFault n cause c) =
      (kPut (kPut c.disp.tiles n ⟨.failed, []⟩) k ⟨.placeable, []⟩, c.disp.queued, c.sleeves) := by
  obtain ⟨d, gone, hd, h⟩ := tileFault_spare ht hrole hk
  simp only [placing, Prod.mk.injEq, tileFailed_tiles, tileFailed_queued, tileFailed_sleeves] at hd
  obtain ⟨htiles, hqueued, hsleeves⟩ := hd
  rw [h, placing_reportPlacement, placing_readyUpdate]
  simp [placing, replan, rebind, putTile, htiles, hqueued, hsleeves]

end

end Sys2Proof.Machine
end

section
/-! A firing that never completes (08 R270, R272), and the statement on dispatch, ticks and tiles. -/
namespace Sys2Proof.Machine
open Sys2Proof

/-- A command that may end the Placer's moves, where nothing waits for them: its channel alone changes, as its meaning has it. -/
theorem does_onChanPlacer {i : Instr} {ch : Chan} {f : Channel → Channel} {s : State} {P : State → Prop}
    (hi : exec i s = onChanPlacer ch f s) (hquiet : placerQuiet s) (hf : placerAwaited (f (commitsEnded (chanOf s ch))) = false)
    (h : ∀ t, chanOf t ch = f (commitsEnded (chanOf s ch)) → onlyChan ch s t → P t) : Does i s P := by
  have htwin : placerAwaited (chanOf s ch.twin) = false := by cases ch <;> simp [Chan.twin, hquiet.1, hquiet.2]
  have hchan : chanOf (placerSettle (withChan s ch (f (commitsEnded (chanOf s ch))))) ch = f (commitsEnded (chanOf s ch)) := by
    rw [placerSettle_quiet (by rw [chanOf_withChan]; exact hf), chanOf_withChan]
  refine ⟨placerSettle (withChan s ch (f (commitsEnded (chanOf s ch)))), ?_, h _ hchan (onlyChan_placerSettle s ch _ htwin)⟩
  rw [hi, onChanPlacer, onChan_next]

theorem placerAwaited_commitsEnded {s : State} (ch : Chan) (h : placerQuiet s) : placerAwaited (commitsEnded (chanOf s ch)) = false := by
  cases ch
  · exact h.1
  · exact h.2

section
variable {c : Channel} {n i k : Nat} {mis : Bool} {g : GraphRt} {r : InstRec} {x : InstRt} {tl : Tile}

/-- A firing that does not complete fails its tile, with a miss counted before unless it stopped at an access. -/
theorem firingNoCompletionC_fails (hg : kGet c.graphs n = some g) (hi : instOf g i = some (r, x)) (hfs : x.fs = .running ∨ x.fs = .preempted) :
    ∃ d cause, firingNoCompletionC n i mis c = tileFault x.tile cause d ∧ placing d = placing c ∧ d.boot = c.boot := by
  have htouch (t : Nat) : Touches [.time, .dict, .host, .journal, .ctr, .emitted] c (missCount n r (advanceTo t c)) := by simp
  unfold firingNoCompletionC
  simp only [hg, hi]
  rw [if_pos hfs]
  cases mis
  · exact ⟨_, _, rfl, placing_of_touches (htouch _) (by decide) (by decide), (htouch _) .boot (by decide)⟩
  · exact ⟨_, _, rfl, rfl, rfl⟩

/-- A spare stands in for the tile. -/
theorem firingNoCompletionC_spare (hg : kGet c.graphs n = some g) (hi : instOf g i = some (r, x)) (hfs : x.fs = .running ∨ x.fs = .preempted)
    (hwf : kWf c.disp.tiles = true) (ht : kGet c.disp.tiles x.tile = some tl) (hrole : tl.role = .placeable) (hk : firstSpare c = some k) :
    placing (firingNoCompletionC n i mis c) =
      (kPut (kPut c.disp.tiles x.tile ⟨.failed, []⟩) k ⟨.placeable, []⟩, c.disp.queued, c.sleeves) := by
  obtain ⟨d, cause, hd, hplace, -⟩ := firingNoCompletionC_fails (mis := mis) hg hi hfs
  have htiles := tiles_of_placing hplace
  rw [← htiles] at hwf ht
  have hspare : firstSpare (tileFailed x.tile cause d) = some k := by
    rw [firstSpare_tileFailed hwf ht hrole, firstSpare, htiles]
    exact hk
  rw [hd, tileFault_spare_placing ht hrole hspare, htiles]
  simp only [placing, Prod.mk.injEq] at hplace
  rw [hplace.2.1, hplace.2.2]

theorem restartFrom_placing (q : Channel) (cause : Nat) (c : Channel) : placing (restartFrom q cause c) = placing q := by
  have hkept (d : Channel) : placing (enterMode .boot d) = placing d :=
    placing_of_touches (A := [.boot, .host, .can, .journal, .ctr, .diag, .emitted]) (by simp) (by decide) (by decide)
  rcases restartFrom_eq q c cause with h | h <;> rw [h, hkept] <;> rfl

/-- Without a spare the channel restarts. -/
theorem firingNoCompletionC_restarts (hg : kGet c.graphs n = some g) (hi : instOf g i = some (r, x)) (hfs : x.fs = .running ∨ x.fs = .preempted)
    (ht : kGet c.disp.tiles x.tile = some tl) (hrole : tl.role = .placeable) (hnone : ∀ y ∈ c.disp.tiles, y.2.role ≠ .spare)
    (hmode : graphMode c.boot.mode = true) :
    (firingNoCompletionC n i mis c).boot.mode = .boot ∧ (firingNoCompletionC n i mis c).boot.cause = 4 ∧
      placerAwaited (firingNoCompletionC n i mis c) = false := by
  obtain ⟨d, cause, hd, hplace, hboot⟩ := firingNoCompletionC_fails (mis := mis) hg hi hfs
  have htiles := tiles_of_placing hplace
  rw [← htiles] at ht hnone
  have hmode' : graphMode (tileFailed x.tile cause d).boot.mode = true := by rw [tileFailed_boot, hboot, hmode]
  rw [hd, tileFault_none ht hrole (firstSpare_tileFailed_none hnone)]
  obtain ⟨hrestarted, -⟩ := channelFault_graphMode (code := 6) (by decide) hmode'
  refine ⟨by rw [hrestarted]; rfl, by rw [hrestarted]; rfl, ?_⟩
  rw [channelFault_restarts (by decide), restartFault_graphMode 6 (by rw [faultNoted_boot]; exact hmode'), restartBoot_eq]
  exact placerAwaited_of_placing (restartFrom_placing (channelReset _) 4 _)

end

/-! ### The statement, clause by clause -/

section
variable {s : State} {ch : Chan} {k n i : Nat} {tl : Tile} {r : InstRec} {x y : InstRt} {g : GraphRt}

theorem readyOn_commitsEnded (c : Channel) (k : Nat) : readyOn (commitsEnded c) k = readyOn c k := rfl
theorem topLevel_commitsEnded (c : Channel) (t : Tile) : topLevel (commitsEnded c) t = topLevel c t := rfl
theorem instAt_commitsEnded (c : Channel) (n i : Nat) : Sys2Proof.instAt (commitsEnded c) n i = Sys2Proof.instAt c n i := rfl

/-- A ready entry comes before the firing on top of its tile. -/
theorem firingDispatch_over {m j q : Nat} {P : State → Prop} (ht : kGet (chanOf s ch).disp.tiles k = some tl) (hrole : tl.role ≠ .failed)
    (hready : readyOn (chanOf s ch) k = some (n, i, r, x)) (htop : topLevel (chanOf s ch) tl = some (q, m, j)) (hlt : levelOf r < q)
    (h : ∀ u, chanOf u ch = runOn k tl n i r x (chanOf s ch).time.up (if topRuns (chanOf s ch) m j then
      bump 0x2500 0x18 (modInst m j (fun y => { y with fs := .preempted }) (commitsEnded (chanOf s ch))) else commitsEnded (chanOf s ch)) → P u) :
    Does (.firingDispatch ch k) s P :=
  does_onChan rfl fun u hu _ => h u (hu.trans (firingDispatchC_over (c := commitsEnded (chanOf s ch)) ht hrole
    ((readyOn_commitsEnded _ _).trans hready) ((topLevel_commitsEnded _ _).trans htop) hlt))

theorem map_preempted_of_topRuns {c : Channel} {m j : Nat} (h : topRuns c m j = true) :
    (Sys2Proof.instAt (modInst m j (fun y => { y with fs := .preempted }) (commitsEnded c)) m j).map (fun y => y.fs) = some .preempted := by
  obtain ⟨y, hy, -⟩ := topRuns_iff.1 h
  rw [instAt_modInst_same, instAt_commitsEnded, hy]
  rfl

theorem firingNoCompletion_spare {mis : Bool} (hg : kGet (chanOf s ch).graphs n = some g) (hi : instOf g i = some (r, x))
    (hfs : x.fs = .running ∨ x.fs = .preempted) (hwf : kWf (chanOf s ch).disp.tiles = true)
    (ht : kGet (chanOf s ch).disp.tiles x.tile = some tl) (hrole : tl.role = .placeable) (hk : firstSpare (chanOf s ch) = some k)
    (hquiet : placerQuiet s) : Does (.firingNoCompletion ch n ⟨i, mis⟩) s (fun u => kGet (chanOf u ch).disp.tiles x.tile = some ⟨.failed, []⟩ ∧
      kGet (chanOf u ch).disp.tiles k = some ⟨.placeable, []⟩) := by
  have hplace := firingNoCompletionC_spare (c := commitsEnded (chanOf s ch)) (mis := mis) hg hi hfs hwf ht hrole hk
  have hawait : placerAwaited (firingNoCompletionC n i mis (commitsEnded (chanOf s ch))) = false :=
    (placerAwaited_of_placing (c := { chanOf s ch with disp := { (chanOf s ch).disp with
      tiles := kPut (kPut (chanOf s ch).disp.tiles x.tile ⟨.failed, []⟩) k ⟨.placeable, []⟩ } }) hplace).trans (placerAwaited_commitsEnded ch hquiet)
  refine does_onChanPlacer rfl hquiet hawait fun u hu _ => ?_
  have htiles : (firingNoCompletionC n i mis (commitsEnded (chanOf s ch))).disp.tiles = _ := congrArg Prod.fst hplace
  rw [hu, htiles, kGet_kPut_other _ _ _ _ (firstSpare_ne hwf ht hrole hk), kGet_kPut_same]
  exact ⟨rfl, kGet_kPut_same _ _ _⟩

theorem retxDue_steps {p : GPub} {e : DelayEntry} (hdelay : (chanOf s ch).disp.delay = [e]) (hk : e.kind = .retx k)
    (hp : kGet (chanOf s ch).pub.gpubs k = some p) (hroom : tickCount (tickTo e.due (commitsEnded (chanOf s ch))) < 624) :
    Does (.retxDue ch k) s (fun t => (kGet (chanOf t ch).pub.gpubs k).map (fun q => (q.stNum, q.sqNum, q.interval)) =
        some (p.stNum, nextCount p.sqNum, min (p.interval * pubG p) p.t0) ∧
      (chanOf t ch).disp.delay = [⟨.retx k, e.due + min (p.interval * pubG p) p.t0, false⟩] ∧
      (chanOf t ch).pub.jobs.length = (chanOf s ch).pub.jobs.length + 1 ∧ onlyChan ch s t) := by
  refine does_onChan rfl fun u hu ho => ?_
  obtain ⟨hpub, hlist, hjobs⟩ := entryDue_retx (c := commitsEnded (chanOf s ch)) hdelay hk hp hroom
  rw [hu, hpub, hlist, hjobs]
  exact ⟨rfl, rfl, rfl, ho⟩

theorem delayFullRecheck_waits {rest : List (Nat × Nat)} (hparked : (chanOf s ch).disp.parked = (n, i) :: rest)
    (hwait : waitsFor (chanOf s ch) n i = true) : Does (.delayFullRecheck ch) s (fun t => onlyChan ch s t ∧
      zGet (chanOf t ch).ctr (od 0x2500 0x1C) = zGet (chanOf s ch).ctr (od 0x2500 0x1C) + 1) := by
  refine does_onChan rfl fun u hu ho => ⟨ho, ?_⟩
  have hw : waitsFor (commitsEnded (chanOf s ch)) n i = true := hwait
  rw [hu, delayFullRecheckC_waits (c := commitsEnded (chanOf s ch)) hparked hw]
  have hready (c : Channel) : zGet (readyUpdate c).ctr (od 0x2500 0x1C) = zGet c.ctr (od 0x2500 0x1C) :=
    (counts_readyUpdate (K := readyCounters) (List.Subset.refl _)).2 (counts_refl _ _) _ (by decide)
  rw [hready, counts_evalFiring _ _ (by decide), zGet_raiseLimited_other _ _ _ _ _ _ (by decide), zGet_bump_same]
  rfl

end

/-- Settles O37: dispatch and preemption, a firing that never completes, the tick and the delay list. -/
theorem dispatchAndTicks : Obligations.dispatch_and_ticks := by
  unfold Obligations.dispatch_and_ticks
  refine ⟨fun s ch k tl n i r x y g ht hrole hstack hready hg hy => does_onChan rfl fun u hu ho => ?_,
    fun s ch k tl n i r x m j q ht hrole hready htop hlt hne hrun => firingDispatch_over ht hrole hready htop hlt fun u hu => ?_,
    fun s ch k tl n i r x m j q ht hrole hready htop hlt hne hrun => firingDispatch_over ht hrole hready htop hlt fun u hu => ?_,
    fun s ch k tl n i r x q ht hready htop hle => does_nothing rfl (firingDispatchC_waits (c := commitsEnded (chanOf s ch)) ht hready htop hle),
    fun s ch k tl l n i y ht htop hnone hy hfs => does_onChan rfl fun u hu ho => ?_,
    fun s ch n i mis g r x tl k => firingNoCompletion_spare,
    fun s ch n i mis g r x tl hg hi hfs ht hrole hnone hmode hquiet => ?_,
    fun s ch hrun hdelay => does_onChan rfl fun u hu ho => ?_,
    fun s ch g p e => retxDue_steps,
    fun s ch n i e g r x hdelay hk hg hi hfs hroom => does_onChan (f := fun c => readyUpdate (entryDue (.horizon n i) c)) rfl fun u hu _ => ?_,
    fun s ch n i rest hparked hwait => does_onChan rfl fun u hu _ => ?_, fun s ch n i rest => delayFullRecheck_waits⟩
  · have hready' : readyOn (commitsEnded (chanOf s ch)) k = some (n, i, r, x) := hready
    rw [hu, firingDispatchC_idle (c := commitsEnded (chanOf s ch)) ht hrole hstack hready', runOn_instAt_same, runOn_tile, instAt_commitsEnded,
      instAt_eq_some.2 ⟨g, hg, hy⟩, hstack]
    exact ⟨rfl, rfl, ho⟩
  · rw [if_pos hrun] at hu
    rw [hu, runOn_instAt_other hne, runOn_preemptions, runOn_tile, zGet_bump_same, modInst_ctr]
    exact ⟨map_preempted_of_topRuns hrun, rfl, rfl⟩
  · rw [hrun, if_neg Bool.false_ne_true] at hu
    rw [hu, runOn_instAt_other hne, runOn_preemptions, runOn_tile]
    exact ⟨rfl, rfl, rfl⟩
  · rw [hu]
    exact ⟨firingResumeC_resumes (c := commitsEnded (chanOf s ch)) ht htop hnone hy hfs, ho⟩
  · obtain ⟨hboot, hcause, hawait⟩ := firingNoCompletionC_restarts (c := commitsEnded (chanOf s ch)) (mis := mis) hg hi hfs ht hrole hnone hmode
    exact does_onChanPlacer rfl hquiet hawait fun u hu _ => by
      rw [hu]
      exact ⟨hboot, hcause⟩
  · rw [hu, tickC_empty (c := commitsEnded (chanOf s ch)) hrun hdelay, tickTo_lastTick, tickTo_disp]
    exact ⟨max_eq_right ((Nat.le_succ _).trans (le_max_left _ _)), rfl, ho⟩
  · rw [hu]
    have hdue := entryDue_horizon (c := commitsEnded (chanOf s ch)) hdelay hk hg hi hfs hroom
    have hdisp (c : Channel) : (readyUpdate c).disp = c.disp := readyUpdate_disp c
    rw [hdisp, readyUpdate_graphs, hdue]
    exact ⟨rfl, tickTo_graphs _ _⟩
  · rw [hu, delayFullRecheckC_gone (c := commitsEnded (chanOf s ch)) hparked hwait]
    exact ⟨rfl, rfl, rfl⟩

end Sys2Proof.Machine
end

section
/-! The moves of the Placer and the test of a tile (08 R264 to R269; 22 R641). -/
namespace Sys2Proof.Machine
open Sys2Proof

/-! ### Rules of the shared operations -/

@[simp] theorem modInst_time (n i : Nat) (f : InstRt → InstRt) (c : Channel) : (modInst n i f c).time = c.time := by
  unfold modInst
  split
  · rfl
  · split <;> rfl

/-- Arming a fence lists it, and leaves the rest of the dispatcher's part as it is. -/
theorem armFence_disp (f : Fence) (c : Channel) : (armFence f c).disp = { c.disp with fences := c.disp.fences ++ [f] } := by
  unfold armFence
  dsimp only
  refine (foldl_keeps (g := fun c => c.disp) (fun c x => ?_) _ _).trans rfl
  split_ifs <;> exact modInst_disp _ _ _ _

theorem armFence_time (f : Fence) (c : Channel) : (armFence f c).time = c.time := by
  unfold armFence
  dsimp only
  refine (foldl_keeps (g := fun c => c.time) (fun c x => ?_) _ _).trans rfl
  split_ifs <;> exact modInst_time _ _ _ _

section
variable {A : List Part} {c d : Channel}

@[simp] theorem touches_tileWork (l : Nat) (hA : [.dict, .ctr] ⊆ A) : Touches A c (tileWork l d) ↔ Touches A c d := by
  refine Touches.iff (B := [.dict, .ctr]) ?_ hA c
  simp [tileWork]

end

theorem tileWork_touches (l : Nat) (c : Channel) : Touches [.dict, .ctr] c (tileWork l c) := by simp

/-! ### A move begins -/

section
variable {c : Channel} {n i tile : Nat} {x : PlInst}

/-- What the Placer notes of a move that begins. -/
def moveNoted (n i tile t : Nat) (c : Channel) : DispSt :=
  { c.disp with moves := c.disp.moves ++ [⟨n, i, tile, t, false, !c.disp.planned.isEmpty⟩], planned := c.disp.planned.drop 1,
                movesLeft := if !c.disp.planned.isEmpty then c.disp.movesLeft else c.disp.movesLeft - 1 }

theorem moveBeginC_eq (hx : plFind (instsNow c (imageNow c)) n i = some x) (hrun : c.boot.graphsRun = true) (hlen : c.disp.moves.length < 8)
    (hfree : entryFree c 6 = true) (hother : ∀ m ∈ c.disp.moves, ¬(m.sleeve = n ∧ m.inst = i)) (hok : moveOk c x tile = true) :
    moveBeginC n i tile c = armFence ⟨false, n, i, switchBoundary x.r.cls c, c.time.up⟩
      (tileWork 6 { c with disp := moveNoted n i tile (switchBoundary x.r.cls c) c }) := by
  have hnone : c.disp.moves.any (fun m => m.sleeve == n && m.inst == i) = false := by
    simpa only [List.any_eq_false, Bool.and_eq_true, beq_iff_eq] using hother
  have hroom : decide (8 ≤ c.disp.moves.length) = false := decide_eq_false (by omega)
  unfold moveBeginC
  simp only [hx]
  rw [if_neg (by rw [hrun, hroom, hfree, hnone, hok]; decide)]
  rfl

theorem moveBeginC_disp (hx : plFind (instsNow c (imageNow c)) n i = some x) (hrun : c.boot.graphsRun = true) (hlen : c.disp.moves.length < 8)
    (hfree : entryFree c 6 = true) (hother : ∀ m ∈ c.disp.moves, ¬(m.sleeve = n ∧ m.inst = i)) (hok : moveOk c x tile = true) :
    (moveBeginC n i tile c).disp = { moveNoted n i tile (switchBoundary x.r.cls c) c with
      fences := c.disp.fences ++ [⟨false, n, i, switchBoundary x.r.cls c, c.time.up⟩] } ∧ (moveBeginC n i tile c).time = c.time := by
  rw [moveBeginC_eq hx hrun hlen hfree hother hok, armFence_disp, armFence_time, tileWork_touches 6 _ .disp (by decide),
    tileWork_touches 6 _ .time (by decide)]
  exact ⟨rfl, rfl⟩

theorem moveBeginC_full (h : 8 ≤ c.disp.moves.length) : moveBeginC n i tile c = c := by
  unfold moveBeginC
  split
  · rfl
  · exact if_pos (by simp [h])

/-! ### Its transfer and its switch -/

theorem moveFinalTransferC_moves {m : Move} (hm : c.disp.moves.find? (fun m => m.sleeve == n && m.inst == i && !m.transferred) = some m)
    (hf : firedUpTo (advanceTo m.boundary c) n i m.boundary = true) :
    (moveFinalTransferC n i c).disp.moves = c.disp.moves.map (fun y => if y = m then { y with transferred := true } else y) := by
  unfold moveFinalTransferC
  simp only [hm]
  rw [if_pos hf]
  simp only [highWater_disp, setMoves, advanceTo_disp]

/-- A firing keeps its tile as it is entered anew. -/
theorem enterFiring_tile (n i : Nat) (r : InstRec) (x : InstRt) (g : GraphRt) (c : Channel) :
    (Sys2Proof.instAt (enterFiring n i r x g c) n i).map (fun z => z.tile) = some x.tile := by
  have htake : ∃ y, Sys2Proof.instAt (takeEntry n i r x g c) n i = some y ∧ y.tile = x.tile := by
    cases hf : entryFree c (levelOf r)
    · exact ⟨_, takeEntry_held hf, rfl⟩
    · exact ⟨_, takeEntry_ready hf, rfl⟩
  unfold enterFiring
  dsimp only
  split_ifs
  · unfold blockCompletion endFiring
    dsimp only
    rw [instAt_bump, instAt_putGraph]
    split_ifs <;> rfl
  · obtain ⟨y, hy, htile⟩ := htake
    rw [hy, Option.map_some, htile]

/-- A channel without the fence on an instance. -/
def unfenced (n i : Nat) (c : Channel) : Channel :=
  { c with disp := { c.disp with fences := c.disp.fences.filter (fun f => f.freeze || f.sleeve != n || f.inst != i) } }

/-- What taking a fence off comes to: nothing more, a fence of a freeze still in force, or the firing entered (06 R187). -/
theorem disarmMove_eq (n i : Nat) (c : Channel) : disarmMove n i c = unfenced n i c ∨
    disarmMove n i c = modInst n i (fun y => { y with fencedBy := 1 }) (unfenced n i c) ∨
    ∃ g r x, kGet c.graphs n = some g ∧ instOf g i = some (r, x) ∧ disarmMove n i c = enterFiring n i r x g (unfenced n i c) := by
  have hgraphs : (unfenced n i c).graphs = c.graphs := rfl
  unfold disarmMove
  rw [← unfenced]
  cases hg : kGet c.graphs n with
  | none =>
    simp only [hgraphs, hg, true_or]
  | some g =>
    simp only [hgraphs, hg]
    cases hi : instOf g i with
    | none => exact .inl rfl
    | some p =>
      obtain ⟨r, x⟩ := p
      dsimp only
      split_ifs
      · cases fenceFor (unfenced n i c) n i x.instant with
        | none => exact .inr (.inr ⟨g, r, x, rfl, hi, rfl⟩)
        | some f => exact .inr (.inl rfl)
      · exact .inl rfl

theorem instAt_of_instOf {g : GraphRt} {r : InstRec} {x : InstRt} (hg : kGet c.graphs n = some g) (hi : instOf g i = some (r, x)) :
    Sys2Proof.instAt c n i = some x := by
  refine instAt_eq_some.2 ⟨g, hg, ?_⟩
  unfold instOf at hi
  cases hr : g.cfg.insts[i]? <;> cases hx : kGet g.insts i <;> simp [hr, hx] at hi
  rw [hi.2]

/-- A fence taken off leaves the instance on its tile. -/
theorem disarmMove_tile {y : InstRt} (hy : Sys2Proof.instAt c n i = some y) :
    (Sys2Proof.instAt (disarmMove n i c) n i).map (fun z => z.tile) = some y.tile := by
  have hun : Sys2Proof.instAt (unfenced n i c) n i = some y := hy
  rcases disarmMove_eq n i c with h | h | ⟨g, r, x, hg, hi, h⟩
  · rw [h, hun]
    rfl
  · rw [h, instAt_modInst_same, hun]
    rfl
  · rw [instAt_of_instOf hg hi] at hy
    cases hy
    rw [h, enterFiring_tile]

theorem putGraph_disp (n : Nat) (g : GraphRt) (c : Channel) : (putGraph n g c).disp = c.disp := rfl

theorem endFiring_bankless (n i : Nat) (r : InstRec) (x : InstRt) (toks : List Token) (g : GraphRt) (c : Channel) :
    (endFiring n i r x toks g c).disp.bankless = c.disp.bankless := by
  unfold endFiring
  simp only []
  rw [putGraph_disp, present_bankless]

theorem blockCompletion_bankless (n i : Nat) (r : InstRec) (x : InstRt) (l : List (Bool × Nat × Token)) (g : GraphRt) (c : Channel) :
    (blockCompletion n i r x l g c).disp.bankless = c.disp.bankless := by
  unfold blockCompletion
  simp only []
  rw [bump_disp, endFiring_bankless]

theorem enterFiring_bankless (n i : Nat) (r : InstRec) (x : InstRt) (g : GraphRt) (c : Channel) :
    (enterFiring n i r x g c).disp.bankless = c.disp.bankless := by
  unfold enterFiring
  simp only []
  split
  · rw [blockCompletion_bankless]
  · rw [touches_takeEntry _ _ _ _ _ _ .disp (by decide)]

/-- A fence taken off, the moves stay. -/
theorem disarmMove_moves (n i : Nat) (c : Channel) : (disarmMove n i c).disp.moves = c.disp.moves := by
  have hrest : (disarmMove n i c).disp.bankless = (unfenced n i c).disp.bankless := by
    rcases disarmMove_eq n i c with h | h | ⟨g, r, x, -, -, h⟩ <;> rw [h]
    · rw [modInst_disp]
    · rw [enterFiring_bankless]
  exact (congrArg DispSt.moves hrest : (disarmMove n i c).disp.bankless.moves = _)

theorem counts_disarmMove (n i : Nat) (c : Channel) : Counts firingCounters c.ctr (disarmMove n i c).ctr := by
  rcases disarmMove_eq n i c with h | h | ⟨g, r, x, -, -, h⟩ <;> rw [h]
  · exact counts_refl _ _
  · rw [modInst_ctr]
    exact counts_refl _ _
  · exact counts_enterFiring (unfenced n i c)

/-- The switch of a move that has its state transferred. -/
def moveSwitched (n i : Nat) (m : Move) (c : Channel) : Channel :=
  disarmMove n i (bump 0x2500 0x25 (modInst n i (fun y => { y with tile := m.target }) (setMoves (c.disp.moves.erase m) c)))

theorem moveBindingSwitchC_touches {m : Move} (hm : c.disp.moves.find? (fun m => m.sleeve == n && m.inst == i && m.transferred) = some m) :
    Touches [.dict] (moveSwitched n i m c) (moveBindingSwitchC n i c) := by
  unfold moveBindingSwitchC
  simp only [hm]
  rw [← moveSwitched]
  split_ifs <;> simp

theorem moveSwitched_tile {y : InstRt} (m : Move) (hy : Sys2Proof.instAt c n i = some y) :
    (Sys2Proof.instAt (moveSwitched n i m c) n i).map (fun z => z.tile) = some m.target := by
  have hset : Sys2Proof.instAt (modInst n i (fun y => { y with tile := m.target }) (setMoves (c.disp.moves.erase m) c)) n i =
      some { y with tile := m.target } := by
    rw [instAt_modInst_same, instAt_of_graphs (show (setMoves (c.disp.moves.erase m) c).graphs = c.graphs from rfl), hy]
    rfl
  exact disarmMove_tile ((instAt_bump _ _ _).trans hset)

theorem moveSwitched_moves (m : Move) : (moveSwitched n i m c).disp.moves = c.disp.moves.erase m := by
  rw [moveSwitched, disarmMove_moves]
  exact congrArg DispSt.moves (modInst_disp _ _ _ _)

theorem moveSwitched_placing (m : Move) : placing (moveSwitched n i m c) = placing c := by
  rw [moveSwitched, placing_disarmMove, placing_bump, placing_modInst]
  rfl

theorem moveSwitched_count (m : Move) : zGet (moveSwitched n i m c).ctr (od 0x2500 0x25) = zGet c.ctr (od 0x2500 0x25) + 1 := by
  rw [moveSwitched, counts_disarmMove _ _ _ _ (by decide), zGet_bump_same, modInst_ctr]
  rfl

/-! ### The test of a tile -/

/-- The work of a test, in a mode that runs graphs (06 R190). -/
def testWork (c : Channel) : Channel := if graphMode c.boot.mode then tileWork 6 c else c

theorem testWork_touches (c : Channel) : Touches [.dict, .ctr] c (testWork c) := by
  unfold testWork
  split_ifs <;> simp

theorem testWork_count (c : Channel) : zGet (testWork c).ctr (od 0x3100 0x0A) = zGet c.ctr (od 0x3100 0x0A) := by
  unfold testWork tileWork
  split_ifs
  · dsimp only
    rw [highWater_ctr, highWater_ctr, zGet_bump_other _ _ _ (by decide), zGet_bump_other _ _ _ (by decide)]
  · rfl

theorem tileSelftestPassC_eq {k : Nat} {tl : Tile} (ok : Bool) (ht : kGet c.disp.tiles k = some tl) (hrole : tl.role ≠ .failed)
    (hup : runtimeUp c = true) (hmode : c.boot.mode ≠ .boot) (hfree : entryFree c 6 = true) :
    tileSelftestPassC k ok c = if ok then testPass (testWork c) else tileFault k 2 (testFail 0 k (testWork c)) := by
  unfold tileSelftestPassC
  simp only [ht]
  rw [if_neg (by simp [hup, hmode, hrole, hfree])]
  rfl

end

end Sys2Proof.Machine
end

section
/-! Scrub passes, and the retention and cycles of a bank (01 R40 to R43; 07 R216 to R228), with the statement on moves and memories. -/
namespace Sys2Proof.Machine
open Sys2Proof

/-! ### Banks -/

section
variable {c : Channel} {b n : Nat} {x : Bank}

@[simp] theorem bankGet_bankPut_same (b : Nat) (x : Bank) (c : Channel) : bankGet (bankPut b x c) b = x := by
  simp [bankGet, bankPut, kGet_kPut_same]

theorem bankGet_of_disp {d : Channel} (h : d.disp = c.disp) (b : Nat) : bankGet d b = bankGet c b := by rw [bankGet, bankGet, h]

/-- A bank's cycles leave its retention as it is. -/
theorem bankCycle_state (t : Nat) (x : Bank) : (bankCycle t x).1.retained = x.retained ∧ (bankCycle t x).1.waking = x.waking := by
  unfold bankCycle
  dsimp only
  split
  · exact ⟨rfl, rfl⟩
  · split_ifs <;> exact ⟨rfl, rfl⟩

theorem bankRun_state (limit n : Nat) (x : Bank) : (bankRun limit n x).1.retained = x.retained ∧ (bankRun limit n x).1.waking = x.waking := by
  induction n generalizing x with
  | zero => exact ⟨rfl, rfl⟩
  | succ n ih =>
    unfold bankRun
    split
    · exact ⟨rfl, rfl⟩
    · split_ifs
      · exact ⟨rfl, rfl⟩
      · obtain ⟨hr, hw⟩ := ih (bankCycle _ x).1
        obtain ⟨hr', hw'⟩ := bankCycle_state _ x
        exact ⟨hr.trans hr', hw.trans hw'⟩

/-- The banks after one is served. -/
theorem bankServe_bank (limit b : Nat) (c : Channel) (hreqs : (bankGet c b).reqs ≠ []) :
    bankGet (bankServe limit b c) b = (bankRun limit (bankGet c b).reqs.length (bankGet c b)).1 := by
  have hcount (y : BankTally) (d : Channel) : (countTally y d).disp = d.disp := by simp [countTally]
  unfold bankServe
  dsimp only
  rw [if_neg (by simpa using hreqs), bankGet_of_disp (hcount _ _), bankGet_bankPut_same]

theorem bankServe_idle (limit : Nat) (hreqs : (bankGet c b).reqs = []) : bankServe limit b c = c := by
  unfold bankServe
  dsimp only
  rw [if_pos (by simp [hreqs])]

theorem bankServe_state (limit b : Nat) (c : Channel) : (bankGet (bankServe limit b c) b).retained = (bankGet c b).retained ∧
    (bankGet (bankServe limit b c) b).waking = (bankGet c b).waking := by
  by_cases hreqs : (bankGet c b).reqs = []
  · rw [bankServe_idle limit hreqs]
    exact ⟨rfl, rfl⟩
  · rw [bankServe_bank limit b c hreqs]
    exact bankRun_state _ _ _

@[simp] theorem counts_bankServe {K : List Nat} {m : KMap U64} (limit b : Nat) (hK : bankCounters ⊆ K) :
    Counts K m (bankServe limit b c).ctr ↔ Counts K m c.ctr :=
  Counts.iff (L := bankCounters) (fun _ hk => zGet_bankServe_other _ _ _ hk) hK m

/-- The channel at the end of a bank's wake, before the requests that waited are served. -/
def woken (b : Nat) (c : Channel) : Channel :=
  let x := bankGet c b
  let first := match bankNext x with | some t => min (nsOf t) c.time.up | none => c.time.up
  let c1 := upTo (first + (nextFree c).toNat % 4001) (draw c).2
  bankPut b { x with retained := false, waking := false, lastGrant := c1.time.up, free := cycleOf c1.time.up } c1

theorem bankWake_eq (b : Nat) (c : Channel) : ∃ limit wait, bankWake b c =
    highWater 0x3000 3 wait (bump 0x3000 2 (bankServe limit b (woken b c))) := ⟨_, _, rfl⟩

theorem woken_bank (b : Nat) (c : Channel) : (bankGet (woken b c) b).retained = false ∧ (bankGet (woken b c) b).waking = false ∧
    (bankGet (woken b c) b).words = (bankGet c b).words ∧ (bankGet (woken b c) b).reqs = (bankGet c b).reqs := by
  unfold woken
  dsimp only
  rw [bankGet_bankPut_same]
  exact ⟨rfl, rfl, rfl, rfl⟩

theorem woken_ctr (b : Nat) (c : Channel) : (woken b c).ctr = c.ctr := by
  unfold woken bankPut upTo
  simp only [advanceTo_ctr]
  rfl

theorem bankWake_bank (b : Nat) (c : Channel) : (bankGet (bankWake b c) b).retained = false ∧ (bankGet (bankWake b c) b).waking = false ∧
    ((bankGet c b).reqs = [] → (bankGet (bankWake b c) b).words = (bankGet c b).words) := by
  obtain ⟨limit, wait, h⟩ := bankWake_eq b c
  have hdisp : (bankWake b c).disp = (bankServe limit b (woken b c)).disp := by
    rw [h, highWater_disp]
    rfl
  obtain ⟨hr, hw, hwords, hreqs⟩ := woken_bank b c
  obtain ⟨hr', hw'⟩ := bankServe_state limit b (woken b c)
  rw [bankGet_of_disp hdisp]
  refine ⟨hr'.trans hr, hw'.trans hw, fun hnone => ?_⟩
  rw [bankServe_idle limit (hreqs.trans hnone), hwords]

theorem bankWake_count (b : Nat) (c : Channel) : zGet (bankWake b c).ctr (od 0x3000 2) = zGet c.ctr (od 0x3000 2) + 1 := by
  obtain ⟨limit, wait, h⟩ := bankWake_eq b c
  rw [h, highWater_ctr, zGet_bump_same, zGet_bankServe_other _ _ _ (by decide), woken_ctr]

theorem counts_bankWake (b : Nat) (c : Channel) : Counts (od 0x3000 2 :: bankCounters) c.ctr (bankWake b c).ctr := by
  obtain ⟨limit, wait, h⟩ := bankWake_eq b c
  rw [h, highWater_ctr, counts_bump _ _ (by simp), counts_bankServe _ _ (by simp), woken_ctr]
  exact counts_refl _ _

/-! ### Retention -/

theorem le_up_upTo (t : Nat) (c : Channel) : t ≤ (upTo t c).time.up := by
  unfold upTo advanceTo
  split_ifs with h
  · dsimp only
    omega
  · omega

/-- A bank whose one request has not yet come serves nothing. -/
theorem bankRun_early {limit : Nat} {r : BankReq} (hreqs : x.reqs = [r]) (hlate : limit ≤ r.since) : bankRun limit x.reqs.length x = (x, tallyZero) := by
  have hnext : bankNext x = some (max x.free r.since) := by simp [bankNext, hreqs]
  have hwait : limit ≤ max x.free r.since := hlate.trans (le_max_right _ _)
  rw [hreqs]
  show bankRun limit (0 + 1) x = _
  unfold bankRun
  simp [hnext, hwait]

/-- The bank may enter retention (07 R227). -/
def mayRetain (b : Nat) (c : Channel) : Prop :=
  b < 64 ∧ c.boot.graphsRun = true ∧ c.disp.retention = true ∧ (bankGet c b).failed = false ∧ (bankGet c b).retained = false ∧
    ∀ y ∈ c.disp.items, bankOf y.addr ≠ b

theorem bankRetentionEntryC_enters (h : mayRetain b c) (hreqs : (bankGet c b).reqs = []) :
    bankRetentionEntryC b c = bankPut b { bankGet c b with retained := true } (upTo ((bankGet c b).lastGrant + 1000) c) := by
  obtain ⟨hb, hrun, hret, hfail, hheld, hitems⟩ := h
  have hnone : c.disp.items.any (fun y => bankOf y.addr == b) = false := by simpa using hitems
  unfold bankRetentionEntryC
  simp only [bankServe_idle _ hreqs]
  rw [if_neg (by simp [hrun, hret, hfail, hheld, hnone, hb]), if_pos (by simp [hreqs])]

/-- What a bank's cycles leave of the conditions for retention. -/
theorem bankServe_frame (limit b : Nat) (c : Channel) : (bankServe limit b c).boot = c.boot ∧
    (bankServe limit b c).disp.retention = c.disp.retention ∧ (bankServe limit b c).disp.items = c.disp.items := by
  have hdisp := bankServe_bankless limit b c
  refine ⟨(touches_bankServe limit b (List.Subset.refl _)).2 (touches_refl _ c) .boot (by decide), ?_, ?_⟩
  · exact (congrArg DispSt.retention hdisp : (bankServe limit b c).disp.bankless.retention = _)
  · exact (congrArg DispSt.items hdisp : (bankServe limit b c).disp.bankless.items = _)

/-- A request that comes while the bank enters aborts the entry, and wakes it. -/
theorem bankRetentionEntryC_wakes {r : BankReq} (h : mayRetain b c) (hreqs : (bankGet c b).reqs = [r]) (hlate : cycleOf c.time.up ≤ r.since) :
    bankRetentionEntryC b c = bankWake b (bankServe (cycleOf c.time.up) b c) := by
  obtain ⟨hb, hrun, hret, hfail, hheld, hitems⟩ := h
  obtain ⟨hboot, hretention, hitems'⟩ := bankServe_frame (cycleOf c.time.up) b c
  have hbank : bankGet (bankServe (cycleOf c.time.up) b c) b = bankGet c b := by
    rw [bankServe_bank _ _ _ (by simp [hreqs]), bankRun_early hreqs hlate]
  have hnone : (bankServe (cycleOf c.time.up) b c).disp.items.any (fun y => bankOf y.addr == b) = false := by simpa [hitems'] using hitems
  unfold bankRetentionEntryC
  dsimp only
  rw [if_neg (by rw [hbank, hboot, hretention, hnone, hrun, hret, hfail, hheld]; simpa using hb), if_neg (by simp [hbank, hreqs])]

theorem bankRetentionEntryC_used (h : ∃ y ∈ c.disp.items, bankOf y.addr = b) : bankRetentionEntryC b c = bankServe (cycleOf c.time.up) b c := by
  obtain ⟨-, -, hitems⟩ := bankServe_frame (cycleOf c.time.up) b c
  have hsome : (bankServe (cycleOf c.time.up) b c).disp.items.any (fun y => bankOf y.addr == b) = true := by simpa [hitems] using h
  unfold bankRetentionEntryC
  dsimp only
  rw [if_pos (by simp [hsome])]

/-! ### A read beside a write of its word (07 R218 to R220) -/

theorem firstReq_two {t rr : Nat} {u v : BankReq} : firstReq t rr [u, v] = some u ∨ firstReq t rr [u, v] = some v := by
  unfold firstReq firstReq firstReq
  dsimp only
  split_ifs
  · exact .inr rfl
  · exact .inl rfl

theorem bankCycle_collision {t : Nat} {x : Bank} {u v : BankReq} {m w : U64} (hreqs : x.reqs = [u, v]) (hu : u.since ≤ t) (hv : v.since ≤ t)
    (hword : u.word = v.word) (hread : u.op = .read) (hwrite : v.op = .write m w) :
    (bankCycle t x).1.reqs = [u] ∧ (bankCycle t x).2.busy = 1 ∧
      zGet (bankCycle t x).1.words v.word = (zGet x.words v.word &&& ~~~m) ||| (w &&& m) := by
  have hureads : u.reads = true := by simp [BankReq.reads, hread]
  have hvreads : v.reads = false := by simp [BankReq.reads, hwrite]
  have hne : u ≠ v := fun e => by simp [e, hwrite] at hread
  have hhere : x.reqs.filter (fun r => decide (r.since ≤ t)) = [u, v] := by simp [hreqs, hu, hv]
  have hsame (g : BankReq) (hg : g = u ∨ g = v) : [u, v].filter (fun r => r.word == g.word) = [u, v] := by
    rcases hg with rfl | rfl <;> simp [hword]
  have hgranted (g : BankReq) (hg : g = u ∨ g = v) :
      (if g.reads then (firstReq t x.rr ([u, v].filter (fun r => !r.reads))).getD g else g) = v := by
    rcases hg with rfl | rfl
    · simp [hureads, hvreads, firstReq]
    · simp [hvreads]
  obtain ⟨g, hfirst, hg⟩ : ∃ g, firstReq t x.rr [u, v] = some g ∧ (g = u ∨ g = v) := by
    rcases firstReq_two (t := t) (rr := x.rr) (u := u) (v := v) with h | h
    · exact ⟨_, h, .inl rfl⟩
    · exact ⟨_, h, .inr rfl⟩
  unfold bankCycle
  simp only [hhere, hfirst, hsame g hg, hgranted g hg, hvreads, Bool.false_eq_true, if_false]
  refine ⟨?_, ?_, ?_⟩
  · rw [hreqs, List.erase_cons_tail (by simpa using hne), List.erase_cons_head]
  · simp [hureads, hvreads]
  · rw [zGet_zPut_same, hwrite]
    rfl

end

/-! ### Scrub passes -/

section
variable {c : Channel} {m k : Nat}

/-- A pass wakes a retained bank, which then returns to retention. -/
def scrubWake (c : Channel) (b : Nat × Bank) : Channel :=
  bankPut b.1 { bankGet (bankWake b.1 c) b.1 with retained := true } (bankWake b.1 c)

theorem scrubWakes_eq (c : Channel) : scrubWakes c = (c.disp.banks.filter (fun b => b.2.retained)).foldl scrubWake c := rfl

theorem counts_scrubWakes (c : Channel) : Counts (od 0x3000 2 :: bankCounters) c.ctr (scrubWakes c).ctr := by
  rw [scrubWakes_eq]
  exact Counts.foldl (fun c b => by
    have h := counts_bankWake b.1 c
    unfold scrubWake bankPut
    exact h) _ _

/-- What a pass over a memory does before it looks at the places it found bad. -/
def scrubbed (m k : Nat) (bad : List Nat) (c : Channel) : Channel :=
  let c1 := countCorrected m k (if m = 1 then scrubWakes c else c)
  if 7 ≤ m then c1 else if bad.isEmpty then testPass c1 else testFail 2 m c1

theorem scrubPassC_eq (bad : List Nat) (hm : m ≤ 8) (hp : c.boot.powered = true) (hlow : m < 7 → runtimeUp c = true ∧ c.boot.mode ≠ .boot) :
    scrubPassC m k bad c = uncorrectable m bad (scrubbed m k bad c) := by
  have hgate : (decide (8 < m) || !c.boot.powered || (decide (m < 7) && (!runtimeUp c || c.boot.mode == .boot))) = false := by
    by_cases h7 : m < 7
    · obtain ⟨hup, hmode⟩ := hlow h7
      simp [hp, hup, hmode, hm]
    · simp [hp, h7, hm]
  unfold scrubPassC
  rw [hgate]
  rfl

theorem powered_of_runtimeUp (h : runtimeUp c = true) : c.boot.powered = true := by
  simp only [runtimeUp, Bool.and_eq_true] at h
  exact h.1.1

theorem uncorrectable_nil (m : Nat) (c : Channel) : uncorrectable m [] c = c := rfl

/-- A pass that finds nothing uncorrectable. -/
theorem scrubPassC_clean (hm : m ≤ 6) (hup : runtimeUp c = true) (hmode : c.boot.mode ≠ .boot) :
    scrubPassC m k [] c = testPass (countCorrected m k (if m = 1 then scrubWakes c else c)) := by
  rw [scrubPassC_eq [] (by omega) (powered_of_runtimeUp hup) fun _ => ⟨hup, hmode⟩, uncorrectable_nil]
  exact if_neg (by omega)

theorem countCorrected_commons (m k : Nat) (c : Channel) : zGet (countCorrected m k c).ctr (od 0x3000 8) =
    zGet c.ctr (od 0x3000 8) + BitVec.ofNat 64 (if m = 1 then k else 0) := by
  unfold countCorrected
  by_cases h1 : m = 1
  · rw [if_pos h1, if_pos h1]
    exact zGet_zAdd_same _ _ _
  · have hsub : od 0x3000 8 ≠ od 0x3000 (if m = 2 then 9 else 0x80 + m) := by
      unfold od
      split_ifs <;> omega
    rw [if_neg h1, if_neg h1, zGet_bumpN_other _ _ _ _ hsub]
    simp

theorem countCorrected_window (m k : Nat) (c : Channel) : zGet (countCorrected m k c).ctr (od 0x3000 9) =
    zGet c.ctr (od 0x3000 9) + BitVec.ofNat 64 (if m = 2 then k else 0) := by
  unfold countCorrected
  by_cases h2 : m = 2
  · rw [if_neg (by omega), if_pos h2, if_pos h2]
    exact zGet_zAdd_same _ _ _
  · have hsub : od 0x3000 9 ≠ od 0x3000 (if m = 1 then 8 else if m = 2 then 9 else 0x80 + m) := by
      unfold od
      split_ifs <;> omega
    rw [zGet_bumpN_other _ _ _ _ hsub, if_neg h2]
    simp

theorem countCorrected_test (hm : m ≤ 6) (i : Nat) (c : Channel) : zGet (countCorrected m k c).ctr (od 0x3100 i) = zGet c.ctr (od 0x3100 i) := by
  refine zGet_bumpN_other _ _ _ _ ?_
  unfold od
  split_ifs <;> omega

theorem scrubPassC_counts (hm : m ≤ 6) (hup : runtimeUp c = true) (hmode : c.boot.mode ≠ .boot) :
    zGet (scrubPassC m k [] c).ctr (od 0x3100 0x0A) = zGet c.ctr (od 0x3100 0x0A) + 1 ∧
      zGet (scrubPassC m k [] c).ctr (od 0x3000 8) = zGet c.ctr (od 0x3000 8) + BitVec.ofNat 64 (if m = 1 then k else 0) ∧
      zGet (scrubPassC m k [] c).ctr (od 0x3000 9) = zGet c.ctr (od 0x3000 9) + BitVec.ofNat 64 (if m = 2 then k else 0) := by
  have hwakes : Counts (od 0x3000 2 :: bankCounters) c.ctr (if m = 1 then scrubWakes c else c).ctr := by
    split_ifs
    · exact counts_scrubWakes c
    · exact counts_refl _ _
  rw [scrubPassC_clean hm hup hmode]
  generalize (if m = 1 then scrubWakes c else c) = d at hwakes ⊢
  have h1 := hwakes (od 0x3100 0x0A) (by decide)
  have h8 := hwakes (od 0x3000 8) (by decide)
  have h9 := hwakes (od 0x3000 9) (by decide)
  rw [← h1, ← h8, ← h9]
  rw [testPass, zGet_bump_same, zGet_bump_other _ _ _ (by decide), zGet_bump_other _ _ _ (by decide), countCorrected_test hm,
    countCorrected_commons, countCorrected_window]
  exact ⟨rfl, rfl, rfl⟩

/-- One place of the Pleat's ring, of MRAM or of flash found bad: its episode, and what the place then is; no fault. -/
theorem uncorrectable_one (hm : m = 4 ∨ m = 7 ∨ m = 8) (a : Nat) (c : Channel) :
    ∃ x, uncorrectable m [a] c = memoryError m c (a, x) := by
  refine ⟨(queuedFrames c)[a]?, ?_⟩
  rw [uncorrectable, List.map_singleton, List.foldl_cons, List.foldl_nil, scrubFaults]
  rcases hm with rfl | rfl | rfl <;> simp

theorem memoryError_row (a : Nat) (x : Option (Nat × Nat × QFrame)) (c : Channel) :
    ∃ l, memoryError 4 c (a, x) = damageRow (a / 2 ^ 32) (a % 2 ^ 32) (episode 0x15 l c) := ⟨_, rfl⟩

theorem memoryError_mram (a : Nat) (x : Option (Nat × Nat × QFrame)) (c : Channel) :
    ∃ l, memoryError 7 c (a, x) = mramFails (a / 2 ^ 32) (a % 2 ^ 32) (episode 0x15 l c) := ⟨_, rfl⟩

theorem memoryError_flash (a : Nat) (x : Option (Nat × Nat × QFrame)) (c : Channel) :
    ∃ l, memoryError 8 c (a, x) = flashFails (a / 2 ^ 32) (a % 2 ^ 32) (episode 0x15 l c) := ⟨_, rfl⟩

theorem damageRow_ring {d row : Nat} {x : PDef} (hx : kGet c.pleat.defs d = some x) :
    (kGet (damageRow d row c).pleat.defs d).map (fun y => y.ring) =
      some (x.ring.map (fun r => if r.n = row then { r with damaged := true } else r)) := by
  unfold damageRow
  simp only [hx]
  split_ifs
  · rw [raiseLimited_pleat]
    exact congrArg (Option.map PDef.ring) (kGet_kPut_same _ _ _)
  · exact congrArg (Option.map PDef.ring) (kGet_kPut_same _ _ _)

theorem counts_damageRow (d row : Nat) (c : Channel) : Counts (od 0x2D00 8 :: raiseCounters 52) c.ctr (damageRow d row c).ctr := by
  unfold damageRow
  split
  · simp
  · dsimp only
    split_ifs <;> simp [putDef]

/-- A pass over the Pleat's ring that finds a row bad marks the row, and fails the test. -/
theorem scrubPassC_row {d row : Nat} {x : PDef} (hrow : row < 2 ^ 32) (hx : kGet c.pleat.defs d = some x) (hup : runtimeUp c = true)
    (hmode : c.boot.mode ≠ .boot) :
    (kGet (scrubPassC 4 k [d * 2 ^ 32 + row] c).pleat.defs d).map (fun y => y.ring) =
        some (x.ring.map (fun r => if r.n = row then { r with damaged := true } else r)) ∧
      zGet (scrubPassC 4 k [d * 2 ^ 32 + row] c).ctr (od 0x3100 0x0B) = zGet c.ctr (od 0x3100 0x0B) + 1 := by
  have hplace : (d * 2 ^ 32 + row) / 2 ^ 32 = d ∧ (d * 2 ^ 32 + row) % 2 ^ 32 = row := by omega
  have hscrubbed : scrubbed 4 k [d * 2 ^ 32 + row] c = testFail 2 4 (countCorrected 4 k c) := rfl
  rw [scrubPassC_eq _ (by decide) (powered_of_runtimeUp hup) fun _ => ⟨hup, hmode⟩, hscrubbed]
  obtain ⟨q, hq⟩ := uncorrectable_one (.inl rfl) (d * 2 ^ 32 + row) (testFail 2 4 (countCorrected 4 k c))
  obtain ⟨l, hl⟩ := memoryError_row (d * 2 ^ 32 + row) q (testFail 2 4 (countCorrected 4 k c))
  rw [hq, hl, hplace.1, hplace.2]
  have hkept : (episode 0x15 l (testFail 2 4 (countCorrected 4 k c))).pleat = c.pleat := by simp [testFail, countCorrected]
  refine ⟨damageRow_ring (by rw [hkept, hx]), ?_⟩
  rw [counts_damageRow _ _ _ _ (by decide), zGet_episode_other _ _ _ (by decide) (by decide) (by decide), testFail,
    show raise 1 0xFF 2 4 _ = raiseNow 1 0xFF 2 4 _ from rfl, zGet_raiseNow_other _ _ _ _ _ (by decide), zGet_bump_same,
    countCorrected_test (by decide)]

theorem scrubPassC_cell {n : Nat} {x : KeyCell} (hn : n < 2 ^ 32) (hp : c.boot.powered = true) (hx : kGet c.keysNv.cellsA n = some x) :
    kGet (scrubPassC 7 0 [7 * 2 ^ 32 + n] c).keysNv.cellsA n = some { x with crcOk := false } := by
  have hplace : (7 * 2 ^ 32 + n) / 2 ^ 32 = 7 ∧ (7 * 2 ^ 32 + n) % 2 ^ 32 = n := by omega
  have hscrubbed : scrubbed 7 0 [7 * 2 ^ 32 + n] c = countCorrected 7 0 c := rfl
  rw [scrubPassC_eq _ (by decide) hp fun h => absurd h (by decide), hscrubbed]
  obtain ⟨q, hq⟩ := uncorrectable_one (.inr (.inl rfl)) (7 * 2 ^ 32 + n) (countCorrected 7 0 c)
  obtain ⟨l, hl⟩ := memoryError_mram (7 * 2 ^ 32 + n) q (countCorrected 7 0 c)
  rw [hq, hl, hplace.1, hplace.2]
  have hkept : (episode 0x15 l (countCorrected 7 0 c)).keysNv = c.keysNv := by simp [countCorrected]
  generalize episode 0x15 l (countCorrected 7 0 c) = e at hkept ⊢
  simp only [mramFails, hkept, hx, kGet_kPut_same]

theorem scrubPassC_flash {n : Nat} (hn : n < 2 ^ 32) (hp : c.boot.powered = true) :
    (scrubPassC 8 0 [n] c).slots.cfg0.bytes = c.slots.cfg0.bytes.modify n (fun b => b ^^^ 0xFF) := by
  have hplace : n / 2 ^ 32 = 0 ∧ n % 2 ^ 32 = n := by omega
  have hscrubbed : scrubbed 8 0 [n] c = countCorrected 8 0 c := rfl
  rw [scrubPassC_eq _ (by decide) hp fun h => absurd h (by decide), hscrubbed]
  obtain ⟨q, hq⟩ := uncorrectable_one (.inr (.inr rfl)) n (countCorrected 8 0 c)
  obtain ⟨l, hl⟩ := memoryError_flash n q (countCorrected 8 0 c)
  rw [hq, hl, hplace.1, hplace.2]
  have hkept : (episode 0x15 l (countCorrected 8 0 c)).slots = c.slots := by simp [countCorrected]
  generalize episode 0x15 l (countCorrected 8 0 c) = e at hkept ⊢
  simp only [flashFails, hkept]

end

/-! ### The statement, clause by clause -/

section
variable {s : State} {ch : Chan} {n i k : Nat}

theorem moveBegin_deletion {tile : Nat} {x : PlInst} (hx : plFind (instsNow (chanOf s ch) (imageNow (chanOf s ch))) n i = some x)
    (hrun : (chanOf s ch).boot.graphsRun = true) (hplan : (chanOf s ch).disp.planned = []) (hlen : (chanOf s ch).disp.moves.length < 8)
    (hfree : entryFree (chanOf s ch) 6 = true) (hother : ∀ m ∈ (chanOf s ch).disp.moves, ¬(m.sleeve = n ∧ m.inst = i))
    (hok : moveOk (chanOf s ch) x tile = true) :
    Does (.moveBegin ch n i tile) s (fun t =>
      (chanOf t ch).disp.moves = (chanOf s ch).disp.moves ++ [⟨n, i, tile, switchBoundary x.r.cls (chanOf s ch), false, false⟩] ∧
      (chanOf t ch).disp.movesLeft = (chanOf s ch).disp.movesLeft - 1 ∧
      placerState (chanOf t ch) = (if inTileRecovery (chanOf s ch) then 3 else 2) ∧
      (chanOf t ch).disp.fences = (chanOf s ch).disp.fences ++
        [⟨false, n, i, switchBoundary x.r.cls (chanOf s ch), (chanOf s ch).time.up⟩] ∧ onlyChan ch s t) := by
  refine does_onChan rfl fun t ht ho => ?_
  obtain ⟨hdisp, htime⟩ := moveBeginC_disp (c := commitsEnded (chanOf s ch)) hx hrun hlen hfree hother hok
  rw [← ht] at hdisp htime
  have hmoves : (chanOf t ch).disp.moves = (chanOf s ch).disp.moves ++ [⟨n, i, tile, switchBoundary x.r.cls (chanOf s ch), false, false⟩] := by
    rw [hdisp]
    simp only [moveNoted, commitsEnded, hplan]
    rfl
  have hrecover : inTileRecovery (chanOf t ch) = inTileRecovery (chanOf s ch) := by
    rw [inTileRecovery, inTileRecovery, hdisp, htime]
    rfl
  refine ⟨hmoves, ?_, ?_, by rw [hdisp]; rfl, ho⟩
  · rw [hdisp]
    simp only [moveNoted, commitsEnded, hplan]
    rfl
  · rw [placerState, hrecover, hmoves]
    simp

theorem moveBegin_planned {tile : Nat} {x : PlInst} {rest : List (Nat × Nat × Nat)}
    (hx : plFind (instsNow (chanOf s ch) (imageNow (chanOf s ch))) n i = some x)
    (hrun : (chanOf s ch).boot.graphsRun = true) (hplan : (chanOf s ch).disp.planned = (n, i, tile) :: rest)
    (hlen : (chanOf s ch).disp.moves.length < 8)
    (hfree : entryFree (chanOf s ch) 6 = true) (hother : ∀ m ∈ (chanOf s ch).disp.moves, ¬(m.sleeve = n ∧ m.inst = i))
    (hok : moveOk (chanOf s ch) x tile = true) :
    Does (.moveBegin ch n i tile) s (fun t =>
      (chanOf t ch).disp.moves = (chanOf s ch).disp.moves ++ [⟨n, i, tile, switchBoundary x.r.cls (chanOf s ch), false, true⟩] ∧
      (chanOf t ch).disp.planned = rest ∧ (chanOf t ch).disp.movesLeft = (chanOf s ch).disp.movesLeft ∧ onlyChan ch s t) := by
  refine does_onChan rfl fun t ht ho => ?_
  obtain ⟨hdisp, -⟩ := moveBeginC_disp (c := commitsEnded (chanOf s ch)) hx hrun hlen hfree hother hok
  rw [← ht] at hdisp
  rw [hdisp]
  simp only [moveNoted, commitsEnded, hplan]
  exact ⟨rfl, rfl, rfl, ho⟩

theorem moveBindingSwitch_switches {m : Move} {y : InstRt}
    (hm : (chanOf s ch).disp.moves.find? (fun m => m.sleeve == n && m.inst == i && m.transferred) = some m)
    (hy : Sys2Proof.instAt (chanOf s ch) n i = some y) (hquiet : placerQuiet s) :
    Does (.moveBindingSwitch ch n i) s (fun t => (Sys2Proof.instAt (chanOf t ch) n i).map (fun z => z.tile) = some m.target ∧
      (chanOf t ch).disp.moves = (chanOf s ch).disp.moves.erase m ∧
      zGet (chanOf t ch).ctr (od 0x2500 0x25) = zGet (chanOf s ch).ctr (od 0x2500 0x25) + 1 ∧ onlyChan ch s t) := by
  have htouch := moveBindingSwitchC_touches (c := commitsEnded (chanOf s ch)) hm
  have hplacing : placing (moveBindingSwitchC n i (commitsEnded (chanOf s ch))) = placing (commitsEnded (chanOf s ch)) :=
    (placing_of_touches htouch (by decide) (by decide)).trans (moveSwitched_placing m)
  refine does_onChanPlacer rfl hquiet ((placerAwaited_of_placing hplacing).trans (placerAwaited_commitsEnded ch hquiet)) fun t ht ho => ?_
  rw [ht, instAt_of_touches htouch (by decide), htouch .disp (by decide), htouch .ctr (by decide),
    moveSwitched_tile (c := commitsEnded (chanOf s ch)) m hy, moveSwitched_moves, moveSwitched_count]
  exact ⟨rfl, rfl, rfl, ho⟩

theorem tileSelftest_passes {tl : Tile} (ht : kGet (chanOf s ch).disp.tiles k = some tl) (hrole : tl.role ≠ .failed)
    (hup : runtimeUp (chanOf s ch) = true) (hmode : (chanOf s ch).boot.mode ≠ .boot) (hfree : entryFree (chanOf s ch) 6 = true)
    (hquiet : placerQuiet s) :
    Does (.tileSelftestPass ch k true) s (fun t => zGet (chanOf t ch).ctr (od 0x3100 0x0A) = zGet (chanOf s ch).ctr (od 0x3100 0x0A) + 1 ∧
      (chanOf t ch).disp = (chanOf s ch).disp ∧ onlyChan ch s t) := by
  have hpass := tileSelftestPassC_eq (c := commitsEnded (chanOf s ch)) true ht hrole hup hmode hfree
  rw [if_pos rfl] at hpass
  have htouch : Touches [.dict, .ctr] (commitsEnded (chanOf s ch)) (tileSelftestPassC k true (commitsEnded (chanOf s ch))) := by
    rw [hpass]
    exact (testWork_touches _).trans (by simp)
  have hplacing := placing_of_touches htouch (by decide) (by decide)
  refine does_onChanPlacer rfl hquiet ((placerAwaited_of_placing hplacing).trans (placerAwaited_commitsEnded ch hquiet)) fun t hu ho => ?_
  rw [hu]
  refine ⟨?_, htouch .disp (by decide), ho⟩
  rw [hpass, testPass, zGet_bump_same, testWork_count]
  rfl

theorem tileSelftest_fails {tl : Tile} {j : Nat} (hwf : kWf (chanOf s ch).disp.tiles = true)
    (ht : kGet (chanOf s ch).disp.tiles k = some tl) (hrole : tl.role = .placeable) (hj : firstSpare (chanOf s ch) = some j)
    (hup : runtimeUp (chanOf s ch) = true) (hmode : (chanOf s ch).boot.mode ≠ .boot) (hfree : entryFree (chanOf s ch) 6 = true)
    (hquiet : placerQuiet s) :
    Does (.tileSelftestPass ch k false) s (fun t => kGet (chanOf t ch).disp.tiles k = some ⟨.failed, []⟩ ∧
      kGet (chanOf t ch).disp.tiles j = some ⟨.placeable, []⟩) := by
  have hfail := tileSelftestPassC_eq (c := commitsEnded (chanOf s ch)) false ht (by simp [hrole]) hup hmode hfree
  rw [if_neg Bool.false_ne_true] at hfail
  have hplace : placing (testFail 0 k (testWork (commitsEnded (chanOf s ch)))) = placing (chanOf s ch) :=
    (placing_of_touches (c := testWork (commitsEnded (chanOf s ch))) (A := [.ctr, .host, .journal, .emitted]) (by simp) (by decide)
      (by decide)).trans (placing_of_touches (c := commitsEnded (chanOf s ch)) (testWork_touches _) (by decide) (by decide))
  have htiles := tiles_of_placing hplace
  have hspare : firstSpare (tileFailed k 2 (testFail 0 k (testWork (commitsEnded (chanOf s ch))))) = some j := by
    rw [firstSpare_tileFailed (by rw [htiles]; exact hwf) (by rw [htiles]; exact ht) hrole, firstSpare, htiles]
    exact hj
  have hfault := tileFault_spare_placing (cause := 2) (by rw [htiles]; exact ht) hrole hspare
  rw [← hfail, htiles] at hfault
  have hnow : (tileSelftestPassC k false (commitsEnded (chanOf s ch))).disp.tiles = _ := congrArg Prod.fst hfault
  simp only [placing, Prod.mk.injEq] at hplace
  rw [hplace.2.1, hplace.2.2] at hfault
  have hawait : placerAwaited (tileSelftestPassC k false (commitsEnded (chanOf s ch))) = false :=
    (placerAwaited_of_placing (c := { chanOf s ch with disp := { (chanOf s ch).disp with
      tiles := kPut (kPut (chanOf s ch).disp.tiles k ⟨.failed, []⟩) j ⟨.placeable, []⟩ } }) hfault).trans (placerAwaited_commitsEnded ch hquiet)
  refine does_onChanPlacer rfl hquiet hawait fun u hu _ => ?_
  rw [hu, hnow, kGet_kPut_other _ _ _ _ (firstSpare_ne hwf ht hrole hj), kGet_kPut_same]
  exact ⟨rfl, kGet_kPut_same _ _ _⟩

end

/-- Settles O47: moves, tile tests, scrub passes, and the banks. -/
theorem movesAndMemories : Obligations.moves_and_memories := by
  unfold Obligations.moves_and_memories
  refine ⟨fun s ch n i tile x => moveBegin_deletion, fun s ch n i tile x rest => moveBegin_planned,
    fun s ch n i tile h => does_nothing rfl (moveBeginC_full (c := commitsEnded (chanOf s ch)) h),
    fun s ch n i m hm hf => does_onChan rfl fun t ht ho => ⟨?_, ho⟩,
    fun s ch n i m y => moveBindingSwitch_switches, fun s ch k tl => tileSelftest_passes, fun s ch k tl j => tileSelftest_fails,
    fun s ch m k hm hup hmode => does_onChan rfl fun t ht ho => ?_, fun s ch k d row x hrow hx hup hmode => does_onChan rfl fun t ht _ => ?_,
    fun s ch n x hn hp hx => does_onChan rfl fun t ht ho => ⟨?_, ho⟩, fun s ch n hn hp => does_onChan rfl fun t ht ho => ⟨?_, ho⟩,
    fun s ch b hb hheld => does_onChan rfl fun t ht ho => ?_, fun s ch b hb hrun hret hfail hheld hitems hreqs => does_onChan rfl fun t ht ho => ?_,
    fun s ch b r hb hrun hret hfail hheld hitems hreqs hlate => does_onChan rfl fun t ht ho => ?_,
    fun s ch b h => does_onChan rfl fun t ht ho => ⟨?_, ho⟩, fun b t x y m v => bankCycle_collision⟩ <;> rw [ht]
  · exact moveFinalTransferC_moves (c := commitsEnded (chanOf s ch)) hm hf
  · obtain ⟨htest, hcommons, hwindow⟩ := scrubPassC_counts (c := commitsEnded (chanOf s ch)) (k := k) hm hup hmode
    exact ⟨htest, hcommons, hwindow, ho⟩
  · exact scrubPassC_row (c := commitsEnded (chanOf s ch)) hrow hx hup hmode
  · exact scrubPassC_cell (c := commitsEnded (chanOf s ch)) hn hp hx
  · exact scrubPassC_flash (c := commitsEnded (chanOf s ch)) hn hp
  · have hwake : bankWakeCompleteC b (commitsEnded (chanOf s ch)) = bankWake b (commitsEnded (chanOf s ch)) :=
      if_neg (not_or.2 ⟨by omega, by rw [show bankGet (commitsEnded (chanOf s ch)) b = bankGet (chanOf s ch) b from rfl, hheld]; decide⟩)
    obtain ⟨hr, hw, hwords⟩ := bankWake_bank b (commitsEnded (chanOf s ch))
    rw [hwake]
    exact ⟨hr, hw, hwords, bankWake_count b _, ho⟩
  · rw [bankRetentionEntryC_enters (c := commitsEnded (chanOf s ch)) ⟨hb, hrun, hret, hfail, hheld, hitems⟩ hreqs, bankGet_bankPut_same]
    exact ⟨rfl, le_up_upTo _ _, ho⟩
  · rw [bankRetentionEntryC_wakes (c := commitsEnded (chanOf s ch)) ⟨hb, hrun, hret, hfail, hheld, hitems⟩ hreqs hlate, bankWake_count,
      zGet_bankServe_other _ _ _ (by decide)]
    exact ⟨(bankWake_bank b _).1, rfl, ho⟩
  · rw [bankRetentionEntryC_used (c := commitsEnded (chanOf s ch)) h, (bankServe_state _ _ _).1]
    rfl

end Sys2Proof.Machine
end

section
/-! Serving a program at its boundary (11 R334 to R361): what each part of the service writes, and what it leaves of the program. -/
namespace Sys2Proof.Machine
open Sys2Proof

/-! ### Footprints -/

/-- What a state change of a publication writes. -/
abbrev changeParts : List Part := [.pub, .disp, .dict, .ctr]

/-- What the write of output values writes: publications, source rings, digests. -/
abbrev outParts : List Part := [.pub, .graphs, .disp, .seam, .journal, .dict, .ctr, .host, .diag, .emitted]

section
variable {A : List Part} {c d : Channel}

@[simp] theorem touches_putGPub (g : Nat) (p : GPub) (hA : [.pub] ⊆ A) : Touches A c (putGPub g p d) ↔ Touches A c d :=
  Touches.iff (B := [.pub]) (by simp [putGPub]) hA c

@[simp] theorem touches_enqueueGoose (t i : Nat) (b : Bool) (p : GPub) (hA : [.pub] ⊆ A) : Touches A c (enqueueGoose t i b p d) ↔ Touches A c d :=
  Touches.iff (B := [.pub]) (by simp [enqueueGoose]) hA c

@[simp] theorem touches_setDelay (l : List DelayEntry) (hA : [.disp] ⊆ A) : Touches A c (setDelay l d) ↔ Touches A c d :=
  Touches.iff (B := [.disp]) (by simp [setDelay]) hA c

@[simp] theorem touches_rekey (g due : Nat) (hA : [.disp, .dict, .ctr] ⊆ A) : Touches A c (rekey g due d) ↔ Touches A c d := by
  refine Touches.iff (B := [.disp, .dict, .ctr]) ?_ hA c
  unfold rekey
  dsimp only
  split_ifs <;> simp

@[simp] theorem touches_dropRetx (g : Nat) (hA : [.pub, .ctr] ⊆ A) : Touches A c (dropRetx g d) ↔ Touches A c d := by
  refine Touches.iff (B := [.pub, .ctr]) ?_ hA c
  unfold dropRetx
  dsimp only
  split_ifs <;> simp

@[simp] theorem touches_stateChange (g t : Nat) (ms : List Nat) (p : GPub) (hA : changeParts ⊆ A) :
    Touches A c (stateChange g t ms p d) ↔ Touches A c d := by
  refine Touches.iff (B := changeParts) ?_ hA c
  simp [stateChange]

@[simp] theorem touches_pubWrite (g t : Nat) (ws : List (Nat × U32 × U32 × Nat)) (hA : changeParts ⊆ A) :
    Touches A c (pubWrite g t ws d) ↔ Touches A c d := by
  refine Touches.iff (B := changeParts) ?_ hA c
  unfold pubWrite
  split
  · simp
  · dsimp only
    split_ifs <;> simp [joinChange]

@[simp] theorem touches_lseTokens (n t : Nat) (ident v q : U32) (hA : .graphs :: bankParts ⊆ A) :
    Touches A c (lseTokens n t ident v q d) ↔ Touches A c d := by
  refine Touches.iff (B := .graphs :: bankParts) ?_ hA c
  unfold lseTokens
  split <;> simp

@[simp] theorem touches_lsePublish (n t : Nat) (outs : List (LseOut × U32 × U32)) (hA : changeParts ⊆ A) :
    Touches A c (lsePublish n t outs d) ↔ Touches A c d := by
  refine Touches.iff (B := changeParts) (Touches.foldl (fun c x => ?_) _ d) hA c
  dsimp only
  split_ifs <;> simp

@[simp] theorem touches_lseWriteOuts (n t : Nat) (outs : List (LseOut × U32 × U32)) (hA : outParts ⊆ A) :
    Touches A c (lseWriteOuts n t outs d) ↔ Touches A c d := by
  refine Touches.iff (B := outParts) ?_ hA c
  have htokens (l : List (LseOut × U32 × U32)) (e : Channel) :
      Touches outParts e (l.foldl (fun c o => if o.1.can then c else lseTokens n t o.1.ident o.2.1 o.2.2 c) e) :=
    Touches.foldl (fun c o => by split_ifs <;> simp) l e
  have hall := ((touches_lsePublish n t outs (by simp)).2 (touches_refl outParts d)).trans (htokens outs _)
  unfold lseWriteOuts
  exact (touches_closeDigest _ (by simp)).2 hall

@[simp] theorem touches_putLse (n : Nat) (L : Lse) (hA : [.lse] ⊆ A) : Touches A c (putLse n L d) ↔ Touches A c d :=
  Touches.iff (B := [.lse]) (by simp [putLse]) hA c

/-- One CAN output of a write (11 R345). -/
def lseCanOut (n : Nat) (c : Channel) (o : Nat × LseOut × U32 × U32) : Channel :=
  if o.2.1.can then
    match kGet c.lse n with
    | none => c
    | some L =>
      let now : BitVec 1 := if o.2.2.1 != 0 then 1 else 0
      let c1 := putLse n { L with outPrev := kPut L.outPrev o.1 now } c
      if now = 1 ∧ kGet L.outPrev o.1 = some 0 then canRequest n o.2.1.port o.2.1.buf none c1 else c1
  else c

theorem lseCanOuts_eq (n : Nat) (outs : List (LseOut × U32 × U32)) (c : Channel) :
    lseCanOuts n outs c = ((List.range outs.length).zip outs).foldl (lseCanOut n) c := rfl

theorem touches_lseCanOut (n : Nat) (c : Channel) (o : Nat × LseOut × U32 × U32) : Touches (.lse :: canParts) c (lseCanOut n c o) := by
  unfold lseCanOut
  split
  · split
    · simp
    · dsimp only
      generalize (if o.2.2.1 != 0 then (1 : BitVec 1) else 0) = now
      split_ifs <;> simp
  · simp

@[simp] theorem touches_lseCanOuts (n : Nat) (outs : List (LseOut × U32 × U32)) (hA : .lse :: canParts ⊆ A) :
    Touches A c (lseCanOuts n outs d) ↔ Touches A c d := by
  refine Touches.iff (B := .lse :: canParts) ?_ hA c
  rw [lseCanOuts_eq]
  exact Touches.foldl (touches_lseCanOut n) _ d

@[simp] theorem touches_figure (i sub most : Nat) (hA : [.dict, .free] ⊆ A) : Touches A c (figure i sub most d) ↔ Touches A c d :=
  Touches.iff (B := [.dict, .free]) (by simp [figure]) hA c

@[simp] theorem touches_lseFaulted (n : Nat) (L : Lse) (hA : [.lse, .host, .journal, .ctr, .diag, .emitted] ⊆ A) :
    Touches A c (lseFaulted n L d) ↔ Touches A c d :=
  Touches.iff (B := [.lse, .host, .journal, .ctr, .diag, .emitted]) (by simp [lseFaulted]) hA c

@[simp] theorem touches_forceGone (n k : Nat) (hA : [.host, .journal, .ctr, .diag, .emitted] ⊆ A) : Touches A c (forceGone n k d) ↔ Touches A c d := by
  refine Touches.iff (B := [.host, .journal, .ctr, .diag, .emitted]) ?_ hA c
  unfold forceGone
  split_ifs <;> simp

@[simp] theorem touches_setReaders (n : Nat) (p : LseProg) (hA : [.graphs] ⊆ A) : Touches A c (setReaders n p d) ↔ Touches A c d := by
  refine Touches.iff (B := [.graphs]) ?_ hA c
  unfold setReaders
  split <;> simp

end

/-! ### What of a program's record each part changes -/

section
variable {c d : Channel} {n t : Nat} {L : Lse}

theorem lse_putLse (n : Nat) (L : Lse) (c : Channel) : kGet (putLse n L c).lse n = some L := kGet_kPut_same _ _ _

theorem lse_of_touches {A : List Part} (h : Touches A c d) (hA : Part.lse ∉ A) (n : Nat) : kGet d.lse n = kGet c.lse n := by rw [h .lse hA]

theorem lseCanOut_lse (h : kGet c.lse n = some L) (o : Nat × LseOut × U32 × U32) :
    ∃ m, kGet (lseCanOut n c o).lse n = some { L with outPrev := m } := by
  unfold lseCanOut
  split
  · simp only [h]
    generalize (if o.2.2.1 != 0 then (1 : BitVec 1) else 0) = now
    refine ⟨kPut L.outPrev o.1 now, ?_⟩
    have hput := lse_putLse n { L with outPrev := kPut L.outPrev o.1 now } c
    split
    · rw [← hput]
      exact lse_of_touches (A := canParts) (by simp) (by decide) n
    · exact hput
  · exact ⟨L.outPrev, h⟩

theorem lseCanOuts_lse (h : kGet c.lse n = some L) (outs : List (LseOut × U32 × U32)) :
    ∃ m, kGet (lseCanOuts n outs c).lse n = some { L with outPrev := m } := by
  rw [lseCanOuts_eq]
  generalize (List.range outs.length).zip outs = l
  induction l generalizing c L with
  | nil => exact ⟨L.outPrev, h⟩
  | cons o l ih =>
    obtain ⟨m, hm⟩ := lseCanOut_lse h o
    obtain ⟨m', hm'⟩ := ih hm
    exact ⟨m', hm'⟩

/-- A write keeps the record it is made with, but for what its CAN outputs were. -/
theorem lse_written (n t : Nat) (outs : List (LseOut × U32 × U32)) (M : Lse) (c : Channel) :
    ∃ prev, kGet (lseCanOuts n outs (lseWriteOuts n t outs (putLse n M c))).lse n = some { M with outPrev := prev } := by
  refine lseCanOuts_lse ?_ _
  rw [lse_of_touches ((touches_lseWriteOuts _ _ _ (List.Subset.refl _)).2 (touches_refl outParts _)) (by decide)]
  exact lse_putLse _ _ _

theorem lseWrite_lse (n t : Nat) (L : Lse) (c : Channel) :
    ∃ last prev, kGet (lseWrite n t L c).lse n = some { L with outLast := last, outPrev := prev, r := { L.r with ended := false } } := by
  obtain ⟨prev, h⟩ := lse_written n t _ _ c
  exact ⟨_, prev, h⟩

theorem lseSafeWrite_lse (n t : Nat) (L : Lse) (c : Channel) :
    ∃ prev, kGet (lseSafeWrite n t L c).lse n = some { L with safePend := false, outPrev := prev } := by
  obtain ⟨prev, h⟩ := lse_written n t _ { L with safePend := false } c
  exact ⟨prev, h⟩

theorem retainCommit_lse (n : Nat) (L : Lse) (c : Channel) : kGet (retainCommit n L c).lse n = some { L with flushDue := false } := by
  unfold retainCommit
  dsimp only
  rw [lse_of_touches ((touches_closeRetain _ _ _ (List.Subset.refl _)).2 (touches_refl digestParts _)) (by decide)]
  exact lse_putLse _ _ _

theorem retainFlush_lse (n : Nat) (L : Lse) (c : Channel) : ∃ b, kGet (retainFlush n L c).lse n = some { L with flushDue := b } := by
  rw [retainFlush_eq]
  generalize commitCheck 1 n (energyRetain L.snap.length) c = x
  unfold flushed
  split
  · exact ⟨false, retainCommit_lse n L x.2⟩
  · exact ⟨true, lse_putLse n _ x.2⟩

/-- What a boundary leaves of a program's record: its code, whether it differs, its swap and its state. -/
def lseOutline (L : Lse) : LseProg × Bool × Option (LseProg × Nat) × LseState := (L.prog, L.differs, L.swap, L.st)

/-- What a pending force does at its boundary. -/
def applyForce (n t : Nat) (x : Lse × Channel) (f : PendForce) : Lse × Channel :=
  let L := x.1
  if t < f.at_ then x
  else
    let L1 := { L with pendForces := L.pendForces.erase f }
    let others := L1.forces.filter (fun x => x.ident != f.f.ident)
    if !L1.prog.vars.any (fun v => v.ident == f.f.ident) then (L1, raiseLimited 45 n n 0 n x.2)
    else if f.set then (if others.length < 256 then ({ L1 with forces := others ++ [f.f] }, x.2) else (L1, x.2))
    else ({ L1 with forces := others }, x.2)

theorem applyForces_eq (n t : Nat) (L : Lse) (c : Channel) : applyForces n t L c = L.pendForces.foldl (applyForce n t) (L, c) := rfl

/-- What forces may change of a channel. -/
abbrev raiseParts : List Part := [.host, .journal, .ctr, .diag, .emitted]

theorem applyForce_keeps (n t : Nat) (x : Lse × Channel) (f : PendForce) :
    lseOutline (applyForce n t x f).1 = lseOutline x.1 ∧ (applyForce n t x f).1.r = x.1.r ∧ Touches raiseParts x.2 (applyForce n t x f).2 := by
  unfold applyForce
  dsimp only
  split_ifs <;> exact ⟨rfl, rfl, by simp⟩

theorem applyForces_keeps (n t : Nat) (L : Lse) (c : Channel) :
    lseOutline (applyForces n t L c).1 = lseOutline L ∧ (applyForces n t L c).1.r = L.r ∧ Touches raiseParts c (applyForces n t L c).2 := by
  rw [applyForces_eq]
  have key (l : List PendForce) (x : Lse × Channel) : lseOutline (l.foldl (applyForce n t) x).1 = lseOutline x.1 ∧
      (l.foldl (applyForce n t) x).1.r = x.1.r ∧ Touches raiseParts x.2 (l.foldl (applyForce n t) x).2 := by
    induction l generalizing x with
    | nil => exact ⟨rfl, rfl, touches_refl _ _⟩
    | cons f l ih =>
      obtain ⟨hout, hr, htouch⟩ := applyForce_keeps n t x f
      obtain ⟨hout', hr', htouch'⟩ := ih (applyForce n t x f)
      exact ⟨hout'.trans hout, hr'.trans hr, htouch.trans htouch'⟩
  exact key _ _

theorem lseSetBit_scanning (L : Lse) (a : Nat) (v : Bool) (r : LseRegs) : (lseSetBit L a v r).scanning = r.scanning := by
  unfold lseSetBit
  split <;> rfl

theorem lseSetWord_scanning (L : Lse) (a : Nat) (v : U32) (r : LseRegs) : (lseSetWord L a v r).scanning = r.scanning := by
  unfold lseSetWord
  split <;> rfl

theorem latchStore_scanning (L : Lse) (e : LseIn) (v : U32) (r : LseRegs) : (latchStore L e v r).scanning = r.scanning := by
  unfold latchStore
  split
  · split
    · exact lseSetWord_scanning _ _ _ _
    · exact lseSetBit_scanning _ _ _ _
  · rfl

theorem latchEntry_keeps (n t : Nat) (x : Lse × Channel) (e : Nat × LseIn) : lseOutline (latchEntry n t x e).1 = lseOutline x.1 ∧
    (latchEntry n t x e).1.r.scanning = x.1.r.scanning ∧ Touches [.graphs] x.2 (latchEntry n t x e).2 := by
  unfold latchEntry
  dsimp only
  split
  · split
    · exact ⟨rfl, latchStore_scanning _ _ _ _, by simp⟩
    · exact ⟨rfl, latchStore_scanning _ _ _ _, by simp⟩
  · exact ⟨rfl, latchStore_scanning _ _ _ _, by simp⟩

/-- The latch begins a scan and leaves the program's outline. -/
theorem lseLatch_keeps (n t : Nat) (L : Lse) (c : Channel) : ∃ M, kGet (lseLatch n t L c).lse n = some M ∧ lseOutline M = lseOutline L ∧
    M.r.scanning = true ∧ Touches [.lse, .graphs, .dict, .free] c (lseLatch n t L c) := by
  have key (l : List (Nat × LseIn)) (x : Lse × Channel) : lseOutline (l.foldl (latchEntry n t) x).1 = lseOutline x.1 ∧
      (l.foldl (latchEntry n t) x).1.r.scanning = x.1.r.scanning ∧ Touches [.graphs] x.2 (l.foldl (latchEntry n t) x).2 := by
    induction l generalizing x with
    | nil => exact ⟨rfl, rfl, touches_refl _ _⟩
    | cons e l ih =>
      obtain ⟨hout, hr, htouch⟩ := latchEntry_keeps n t x e
      obtain ⟨hout', hr', htouch'⟩ := ih (latchEntry n t x e)
      exact ⟨hout'.trans hout, hr'.trans hr, htouch.trans htouch'⟩
  unfold lseLatch
  dsimp only
  generalize hx : ((List.range L.prog.ins.length).zip L.prog.ins).foldl (latchEntry n t) _ = x
  have hkept := key ((List.range L.prog.ins.length).zip L.prog.ins) ({ L with
    r := { L.r with s := t, ip := 0, scanning := true, ended := false, stack := [], b := (draw (figure 0x2700 6 11000 c)).1.getLsbD 32,
                    w := (draw (figure 0x2700 6 11000 c)).1.setWidth 32 }
    nextB := t + tcNs L }, (draw (figure 0x2700 6 11000 c)).2)
  rw [hx] at hkept
  obtain ⟨hout, hr, htouch⟩ := hkept
  refine ⟨x.1, lse_putLse _ _ _, hout, hr, ?_⟩
  rw [touches_putLse _ _ (by simp)]
  exact Touches.trans (by simp) (htouch.mono (by decide))

theorem lseSwap_keeps (n : Nat) (p : LseProg) (L : Lse) (c : Channel) : lseOutline (lseSwap n p L c).1 = (p, true, none, L.st) ∧
    Touches (.graphs :: raiseParts) c (lseSwap n p L c).2 := by
  unfold lseSwap
  exact ⟨rfl, by simp⟩

end

end Sys2Proof.Machine
end

section
/-! Retain flushes, on-line changes and forces at their boundary (11 R351 to R361). -/
namespace Sys2Proof.Machine
open Sys2Proof

section
variable {c : Channel} {n t : Nat} {L : Lse}

/-! ### Programs in service -/

theorem kGet_filter_keys {α : Type} (m : KMap α) (p : Nat → Bool) (k : Nat) :
    kGet (m.filter (fun x => p x.1)) k = if p k then kGet m k else none := by
  induction m with
  | nil => simp [kGet]
  | cons a r ih =>
    obtain ⟨i, v⟩ := a
    rw [List.filter_cons]
    by_cases hi : i = k
    · subst hi
      by_cases hp : p i = true
      · simp [hp, kGet]
      · simp [hp, ih]
    · by_cases hp : p i = true
      · simp [hp, kGet, hi, ih]
      · simp [hp, kGet, hi, ih]

theorem lse_of_live (h : kGet (lseLive c) n = some L) : kGet c.lse n = some L := by
  unfold lseLive at h
  split_ifs at h
  · rw [kGet_filter_keys c.lse (fun k => sleeveRuns c k) n] at h
    split_ifs at h
    exact h
  · simp [kGet] at h

/-! ### A flush (11 R351, R352) -/

theorem retainCommit_retain (n : Nat) (L : Lse) (c : Channel) :
    kGet (retainCommit n L c).retain n = some (retainWrite L.snap ((kGet c.retain n).getD retainNone)) := by
  unfold retainCommit
  dsimp only
  rw [(touches_closeRetain _ _ _ (List.Subset.refl _)).2 (touches_refl digestParts _) .retain (by decide)]
  exact kGet_kPut_same _ _ _

/-- The counters that a digest that closes may move. -/
def digestCounters : List Nat :=
  [od 0x2800 0x14, od 0x2800 0x0A, od 0x2800 0x0B, od 0x2800 0x0C] ++ raiseCounters 8 ++ raiseCounters 9 ++ raiseCounters 10

@[simp] theorem counts_post {K : List Nat} {m : KMap U64} (r : MRec) (hK : od 0x2800 0x14 ∈ K) : Counts K m (post r c).ctr ↔ Counts K m c.ctr :=
  Counts.iff (L := [od 0x2800 0x14]) (fun _ hk => zGet_post_other _ _ (by simpa using hk)) (by simpa using hK) m

theorem counts_disagree (cls t : Nat) (ss : List Nat) (c : Channel) : Counts digestCounters c.ctr (disagree cls t ss c).ctr := by
  have hraised (x : Nat) : Counts digestCounters c.ctr (raiseLimited 8 x cls 0 0
      (setRoFF 0x2800 0x10 cls (setRoFF 0x2800 0x0F x (setRo 0x2800 0x0E t (bump 0x2800 0x0A c))))).ctr := by
    rw [counts_raiseLimited _ _ _ _ _ (by decide), setRoFF_ctr, setRoFF_ctr, setRo_ctr, counts_bump _ _ (by decide)]
    exact counts_refl _ _
  unfold disagree
  dsimp only
  have h := hraised (ss.head?.getD 0xFF)
  generalize raiseLimited 8 (ss.head?.getD 0xFF) cls 0 0 _ = e at h ⊢
  split
  · exact h
  · split_ifs
    · exact h
    · rw [counts_bump _ _ (by decide)]
      exact h

theorem counts_inputDivergence (cls t : Nat) (c : Channel) : Counts digestCounters c.ctr (inputDivergence cls t c).ctr := by
  have hnoted (x : SeamSt) : Counts digestCounters c.ctr (raiseLimited 9 0xFF cls 0 0 (bump 0x2800 0x0B { c with seam := x })).ctr := by
    rw [counts_raiseLimited _ _ _ _ _ (by decide), counts_bump _ _ (by decide)]
    exact counts_refl _ _
  unfold inputDivergence
  simp only []
  generalize he : raiseLimited 9 0xFF cls 0 0 _ = e
  have h : Counts digestCounters c.ctr e.ctr := by
    rw [← he]
    exact hnoted _
  have hlong (p : Prop) [Decidable p] : Counts digestCounters c.ctr (if p then raiseLimited 10 0xFF cls 0 0 e else e).ctr := by
    split
    · rw [counts_raiseLimited _ _ _ _ _ (by decide)]
      exact h
    · exact h
  exact hlong _

@[simp] theorem counts_digestCompare {K : List Nat} {m : KMap U64} (x y : Digest) (hK : digestCounters ⊆ K) :
    Counts K m (digestCompare x y c).ctr ↔ Counts K m c.ctr := by
  refine Counts.iff (L := digestCounters) ?_ hK m
  unfold digestCompare
  split
  · exact counts_refl _ _
  · split
    · exact counts_disagree _ _ _ _
    · exact counts_inputDivergence _ _ _

theorem counts_closeAs (r : MRec) (x : Digest) (c : Channel) : Counts digestCounters c.ctr (closeAs r x c).ctr := by
  have hpost : Counts digestCounters c.ctr (post r c).ctr := by simp (disch := decide)
  unfold closeAs
  dsimp only
  split
  · rw [counts_digestCompare _ _ (List.Subset.refl _)]
    exact hpost
  · split <;> exact hpost

theorem retainCommit_count (n : Nat) (L : Lse) (c : Channel) :
    zGet (retainCommit n L c).ctr (od 0x2700 0x0B) = zGet c.ctr (od 0x2700 0x0B) + 1 := by
  unfold retainCommit
  dsimp only
  rw [closeRetain, counts_closeAs _ _ _ (od 0x2700 0x0B) (by decide), zGet_bump_same]
  simp [putLse]

theorem retainFlush_passed (h : holdupOk c.psu c.epUJ (energyRetain L.snap.length) = true) :
    retainFlush n L c = retainCommit n L { bump 0x2100 0x0F c with epUJ := c.epUJ + energyRetain L.snap.length } := by
  rw [retainFlush_eq, commitCheck_passed h]
  rfl

/-- A refused flush waits, with what the refusal tells. -/
theorem retainFlush_refused (h : holdupOk c.psu c.epUJ (energyRetain L.snap.length) = false) :
    ∃ l, retainFlush n L c = bump 0x2700 0x0C (putLse n { L with flushDue := true }
      (raise 14 0xFF 1 0 (episode 4 l (bump 0x2100 0x11 (bump 0x2100 0x0F c))))) := by
  obtain ⟨l, hl⟩ := commitCheck_refused (kind := 1) (sl := n) h
  exact ⟨l, by rw [retainFlush_eq, hl]; rfl⟩

/-- A flush that passes its check. -/
theorem retainFlush_writes {k : Nat} (h : holdupOk c.psu c.epUJ (energyRetain k) = true) (hk : L.snap.length = k) :
    kGet (retainFlush n L c).retain n = some (retainWrite L.snap ((kGet c.retain n).getD retainNone)) ∧
      kGet (retainFlush n L c).lse n = some { L with flushDue := false } ∧
      zGet (retainFlush n L c).ctr (od 0x2700 0x0B) = zGet c.ctr (od 0x2700 0x0B) + 1 := by
  subst hk
  rw [retainFlush_passed h, retainCommit_retain, retainCommit_lse, retainCommit_count, zGet_bump_other _ _ _ (by decide)]
  exact ⟨rfl, rfl, rfl⟩

/-- A flush that is refused. -/
theorem retainFlush_waits {k : Nat} (h : holdupOk c.psu c.epUJ (energyRetain k) = false) (hk : L.snap.length = k) :
    kGet (retainFlush n L c).retain n = kGet c.retain n ∧ kGet (retainFlush n L c).lse n = some { L with flushDue := true } ∧
      zGet (retainFlush n L c).ctr (od 0x2700 0x0C) = zGet c.ctr (od 0x2700 0x0C) + 1 := by
  subst hk
  obtain ⟨l, hl⟩ := retainFlush_refused (n := n) h
  rw [hl]
  have hraised : zGet (raise 14 0xFF 1 0 (episode 4 l (bump 0x2100 0x11 (bump 0x2100 0x0F c)))).ctr (od 0x2700 0x0C) = zGet c.ctr (od 0x2700 0x0C) := by
    rw [show raise 14 0xFF 1 0 _ = raiseNow 14 0xFF 1 0 _ from rfl, zGet_raiseNow_other _ _ _ _ _ (by decide),
      zGet_episode_other _ _ _ (by decide) (by decide) (by decide), zGet_bump_other _ _ _ (by decide), zGet_bump_other _ _ _ (by decide)]
  have hkept : (raise 14 0xFF 1 0 (episode 4 l (bump 0x2100 0x11 (bump 0x2100 0x0F c)))).retain = c.retain := by simp
  generalize raise 14 0xFF 1 0 (episode 4 l (bump 0x2100 0x11 (bump 0x2100 0x0F c))) = e at hraised hkept ⊢
  refine ⟨congrArg (fun m => kGet m n) hkept, lse_putLse _ _ _, ?_⟩
  rw [zGet_bump_same, ← hraised]
  rfl

/-- The interval of Retain has passed. -/
def atRetain (L : Lse) (c : Channel) : Channel := upTo (L.retainAt + L.retainMs * 1000000) c

theorem atRetain_touches (L : Lse) (c : Channel) : Touches [.time] c (atRetain L c) := by simp [atRetain]

theorem retainIntervalC_flushes (hL : kGet c.lse n = some L) (hw : c.psu.pwarn = false) (hrun : c.boot.graphsRun = true) (hst : L.st ≠ .stopped)
    (hchg : retainChanged n L c = true) {u : Nat} (hu : (atRetain L c).time.up = u) :
    retainIntervalC n c = retainFlush n { L with retainAt := u } (atRetain L c) := by
  subst hu
  have hsame : retainChanged n { L with retainAt := (atRetain L c).time.up } (atRetain L c) = true := by
    rw [← hchg, retainChanged, retainChanged, atRetain_touches L c .retain (by decide)]
  unfold retainIntervalC
  simp only [hL]
  rw [if_neg (by simp [hw, hrun, hst])]
  exact if_pos hsame

/-! ### The swap (11 R358 to R361) -/

theorem lseFirst_keeps (n : Nat) (L : Lse) (c : Channel) : ∃ M, kGet (lseFirst n L c).lse n = some M ∧ lseOutline M = lseOutline L := by
  unfold lseFirst
  split
  · exact ⟨_, lse_putLse _ _ _, rfl⟩
  · dsimp only
    split
    · rw [raiseLimited_lse]
      exact ⟨_, lse_putLse _ _ _, rfl⟩
    · exact ⟨_, lse_putLse _ _ _, rfl⟩

theorem lseStart_keeps (n t : Nat) (L : Lse) (c : Channel) : ∃ M, kGet (lseStart n t L c).lse n = some M ∧
    lseOutline M = (L.prog, L.differs, L.swap, .running) ∧ M.r.scanning = true := by
  obtain ⟨M, hM, hout⟩ := lseFirst_keeps n { L with st := .running, restartPend := false, safePend := false } c
  unfold lseStart
  dsimp only
  rw [hM]
  obtain ⟨N, hN, hN', hscan, -⟩ := lseLatch_keeps n t (applyForces n t M (lseFirst n _ c)).1 (applyForces n t M (lseFirst n _ c)).2
  exact ⟨N, hN, (hN'.trans (applyForces_keeps n t M _).1).trans hout, hscan⟩

/-- A program that is ready for a swap at its boundary, after its flush. (The two lemmas on it set the flush aside as a variable: the bound of
its hold-up check is a subtraction that must not be evaluated.) -/
def swapFlushed (n : Nat) (L : Lse) (c : Channel) : Channel := retainFlush n { L with snap := retainSnap L L.r } c

theorem swapFlushed_lse (n : Nat) (L : Lse) (c : Channel) :
    ∃ M, kGet (swapFlushed n L c).lse n = some M ∧ M.st = L.st := by
  obtain ⟨f, h⟩ := retainFlush_lse n { L with snap := retainSnap L L.r } c
  exact ⟨_, h, rfl⟩

/-- The swap, the forces and the latch of a program `M` that runs. -/
def swapLatched (n t : Nat) (p : LseProg) (M : Lse) (c : Channel) : Channel :=
  lseLatch n t (applyForces n t (lseSwap n p M c).1 (lseSwap n p M c).2).1 (applyForces n t (lseSwap n p M c).1 (lseSwap n p M c).2).2

theorem swapLatched_keeps (n t : Nat) (p : LseProg) (M : Lse) (c : Channel) :
    ∃ N, kGet (swapLatched n t p M c).lse n = some N ∧ lseOutline N = (p, true, none, M.st) := by
  obtain ⟨N, hN, hN', -, -⟩ := lseLatch_keeps n t (applyForces n t (lseSwap n p M c).1 (lseSwap n p M c).2).1
    (applyForces n t (lseSwap n p M c).1 (lseSwap n p M c).2).2
  exact ⟨N, hN, (hN'.trans (applyForces_keeps n t _ _).1).trans (lseSwap_keeps n p M c).1⟩

theorem lseBetween_eq {p : LseProg} {b : Nat} {M : Lse} (hL : kGet c.lse n = some L) (hswap : L.swap = some (p, b)) (hb : b ≤ t)
    (hM : kGet (swapFlushed n L (putLse n { L with snap := retainSnap L L.r } c)).lse n = some M) :
    lseBetween n t c = swapLatched n t p M (swapFlushed n L (putLse n { L with snap := retainSnap L L.r } c)) := by
  revert hM
  delta lseBetween swapFlushed
  generalize retainFlush = flush
  revert flush
  refine id ?_
  intro flush hM
  rw [hL]
  dsimp only at hM ⊢
  split
  case h_1 q b' heq =>
    cases hswap.symm.trans heq
    rw [if_pos hb, hM]
    rfl
  case h_2 heq => cases hswap.symm.trans heq

theorem lseBetween_swaps {p : LseProg} {b : Nat} (hL : kGet c.lse n = some L) (hswap : L.swap = some (p, b)) (hb : b ≤ t) :
    ∃ M, kGet (lseBetween n t c).lse n = some M ∧ lseOutline M = (p, true, none, L.st) := by
  obtain ⟨M, hM, hst⟩ := swapFlushed_lse n L (putLse n { L with snap := retainSnap L L.r } c)
  rw [lseBetween_eq hL hswap hb hM, ← hst]
  exact swapLatched_keeps n t p M _

/-- The channel at the swap boundary of a program in service. -/
theorem onlineChangeSwapC_due {p : LseProg} {b : Nat} (hL : kGet (lseLive c) n = some L) (hswap : L.swap = some (p, b)) (hb : b ≤ L.nextB) :
    onlineChangeSwapC n c = lseServe n L.nextB (advanceTo L.nextB c) := by
  unfold onlineChangeSwapC
  simp only [hL, hswap]
  exact if_pos hb

theorem lseServe_running_swaps {p : LseProg} {b : Nat} (hL : kGet c.lse n = some L) (hst : L.st = .running) (hend : L.r.ended = true)
    (hswap : L.swap = some (p, b)) (hb : b ≤ t) : ∃ M, kGet (lseServe n t c).lse n = some M ∧ lseOutline M = (p, true, none, .running) := by
  have hserve : lseServe n t c = lseBetween n t (lseWrite n t { L with overruns := if L.late then L.overruns else 0, late := false } c) := by
    unfold lseServe
    rw [hL]
    dsimp only
    split
    case h_3 => exact if_pos hend
    case h_4 => exact if_pos hend
    all_goals
      rename_i heq
      cases hst.symm.trans heq
  obtain ⟨last, prev, hM⟩ := lseWrite_lse n t { L with overruns := if L.late then L.overruns else 0, late := false } c
  obtain ⟨M, hM', hout⟩ := lseBetween_swaps hM hswap hb
  rw [hserve, ← hst]
  exact ⟨M, hM', hout⟩

/-- The safe state of a program, where it is still to be written. -/
def safeWritten (n t : Nat) (L : Lse) (c : Channel) : Channel := if L.safePend then lseSafeWrite n t L c else c

theorem safeWritten_lse (hL : kGet c.lse n = some L) (t : Nat) :
    ∃ M, kGet (safeWritten n t L c).lse n = some M ∧ M.swap = L.swap := by
  unfold safeWritten
  split
  · obtain ⟨prev, h⟩ := lseSafeWrite_lse n t L c
    exact ⟨_, h, rfl⟩
  · exact ⟨L, hL, rfl⟩

theorem lseFaultedServe_eq {p : LseProg} {b : Nat} {M N : Lse} (hM : kGet (safeWritten n t L c).lse n = some M) (hswap : M.swap = some (p, b))
    (hb : b ≤ t) (hN : kGet (swapFlushed n M (safeWritten n t L c)).lse n = some N) :
    lseFaultedServe n t L c = lseStart n t (lseSwap n p N (swapFlushed n M (safeWritten n t L c))).1
      (lseSwap n p N (swapFlushed n M (safeWritten n t L c))).2 := by
  revert hN
  delta lseFaultedServe swapFlushed
  generalize retainFlush = flush
  revert flush
  refine id ?_
  intro flush hN
  dsimp only at hN ⊢
  rw [← safeWritten, hM]
  dsimp only
  split
  case h_1 q b' heq =>
    cases hswap.symm.trans heq
    rw [if_pos hb, hN]
  case h_2 heq => cases hswap.symm.trans heq

theorem lseServe_faulted_swaps {p : LseProg} {b : Nat} (hL : kGet c.lse n = some L) (hst : L.st = .faulted)
    (hswap : L.swap = some (p, b)) (hb : b ≤ t) :
    ∃ M, kGet (lseServe n t c).lse n = some M ∧ lseOutline M = (p, true, none, .running) ∧ M.r.scanning = true := by
  have hserve : lseServe n t c = lseFaultedServe n t L c := by
    unfold lseServe
    rw [hL]
    dsimp only
    rw [hst]
  obtain ⟨M, hM, hM'⟩ := safeWritten_lse hL t
  obtain ⟨N, hN, -⟩ := swapFlushed_lse n M (safeWritten n t L c)
  rw [hserve, lseFaultedServe_eq hM (hM'.trans hswap) hb hN]
  have hout := (lseSwap_keeps n p N (swapFlushed n M (safeWritten n t L c))).1
  obtain ⟨K, hK, hK', hscan⟩ := lseStart_keeps n t (lseSwap n p N (swapFlushed n M (safeWritten n t L c))).1
    (lseSwap n p N (swapFlushed n M (safeWritten n t L c))).2
  exact ⟨K, hK, hK'.trans rfl, hscan⟩

/-! ### Forces (11 R356, R360) -/

theorem forceEffectC_idle {f : PendForce} (hL : kGet (lseLive c) n = some L) (hst : L.st = .stopped ∨ L.st = .faulted) (hf : L.pendForces = [f]) :
    kGet (forceEffectC n c).lse n = some (applyForce n f.at_ (L, advanceTo f.at_ c) f).1 := by
  unfold forceEffectC
  simp only [hL, hf]
  rw [if_pos hst, lse_putLse, applyForces_eq, hf]
  rfl

theorem applyForce_due {f : PendForce} (hf : L.pendForces = [f]) :
    applyForce n f.at_ (L, c) f =
      if !L.prog.vars.any (fun v => v.ident == f.f.ident) then ({ L with pendForces := [] }, raiseLimited 45 n n 0 n c)
      else if f.set then
        (if (L.forces.filter (fun x => x.ident != f.f.ident)).length < 256 then
          ({ L with pendForces := [], forces := L.forces.filter (fun x => x.ident != f.f.ident) ++ [f.f] }, c) else ({ L with pendForces := [] }, c))
      else ({ L with pendForces := [], forces := L.forces.filter (fun x => x.ident != f.f.ident) }, c) := by
  unfold applyForce
  dsimp only
  rw [if_neg (Nat.lt_irrefl _), hf]
  simp only [List.erase_cons_head]

end

/-! ### The statement, clause by clause -/

section
variable {s : State} {ch : Chan} {n : Nat} {L : Lse}

theorem retainInterval_passed (hL : kGet (chanOf s ch).lse n = some L) (hw : (chanOf s ch).psu.pwarn = false) (hrun : (chanOf s ch).boot.graphsRun = true)
    (hst : L.st ≠ .stopped) (hchg : retainChanged n L (chanOf s ch) = true)
    (hok : holdupOk (chanOf s ch).psu 0 (energyRetain L.snap.length) = true) :
    Does (.retainInterval ch n) s (fun t =>
      kGet (chanOf t ch).retain n = some (retainWrite L.snap ((kGet (chanOf s ch).retain n).getD retainNone)) ∧
      kGet (chanOf t ch).lse n = some { L with flushDue := false, retainAt := (chanOf t ch).time.up } ∧
      L.retainAt + L.retainMs * 1000000 ≤ (chanOf t ch).time.up ∧
      zGet (chanOf t ch).ctr (od 0x2700 0x0B) = zGet (chanOf s ch).ctr (od 0x2700 0x0B) + 1 ∧ onlyChan ch s t) := by
  refine does_onChan rfl fun t ht ho => ?_
  obtain ⟨u, hu⟩ : ∃ u, (atRetain L (commitsEnded (chanOf s ch))).time.up = u := ⟨_, rfl⟩
  rw [retainIntervalC_flushes (c := commitsEnded (chanOf s ch)) hL hw hrun hst hchg hu] at ht
  obtain ⟨hretain, hlse, hcount⟩ := retainFlush_writes (c := atRetain L (commitsEnded (chanOf s ch))) (n := n)
    (L := { L with retainAt := u })
    (by rw [atRetain_touches L _ .psu (by decide), atRetain_touches L _ .epUJ (by decide)]; exact hok) rfl
  rw [← ht] at hretain hlse hcount
  have hclock : (chanOf t ch).time = (atRetain L (commitsEnded (chanOf s ch))).time := by
    rw [ht]
    exact (touches_retainFlush n _ (List.Subset.refl _)).2 (touches_refl flushParts _) .time (by decide)
  refine ⟨?_, by rw [hclock, hlse, hu], by rw [hclock]; exact le_up_upTo _ _, ?_, ho⟩
  · rw [hretain, atRetain_touches L _ .retain (by decide)]
    rfl
  · rw [hcount, atRetain_touches L _ .ctr (by decide)]
    rfl

theorem retainInterval_refused (hL : kGet (chanOf s ch).lse n = some L) (hw : (chanOf s ch).psu.pwarn = false) (hrun : (chanOf s ch).boot.graphsRun = true)
    (hst : L.st ≠ .stopped) (hchg : retainChanged n L (chanOf s ch) = true)
    (hbad : holdupOk (chanOf s ch).psu 0 (energyRetain L.snap.length) = false) :
    Does (.retainInterval ch n) s (fun t => kGet (chanOf t ch).retain n = kGet (chanOf s ch).retain n ∧
      kGet (chanOf t ch).lse n = some { L with flushDue := true, retainAt := (chanOf t ch).time.up } ∧
      zGet (chanOf t ch).ctr (od 0x2700 0x0C) = zGet (chanOf s ch).ctr (od 0x2700 0x0C) + 1) := by
  refine does_onChan rfl fun t ht _ => ?_
  obtain ⟨u, hu⟩ : ∃ u, (atRetain L (commitsEnded (chanOf s ch))).time.up = u := ⟨_, rfl⟩
  rw [retainIntervalC_flushes (c := commitsEnded (chanOf s ch)) hL hw hrun hst hchg hu] at ht
  obtain ⟨hretain, hlse, hcount⟩ := retainFlush_waits (c := atRetain L (commitsEnded (chanOf s ch))) (n := n)
    (L := { L with retainAt := u })
    (by rw [atRetain_touches L _ .psu (by decide), atRetain_touches L _ .epUJ (by decide)]; exact hbad) rfl
  rw [← ht] at hretain hlse hcount
  have hclock : (chanOf t ch).time = (atRetain L (commitsEnded (chanOf s ch))).time := by
    rw [ht]
    exact (touches_retainFlush n _ (List.Subset.refl _)).2 (touches_refl flushParts _) .time (by decide)
  refine ⟨?_, by rw [hclock, hlse, hu], ?_⟩
  · rw [hretain, atRetain_touches L _ .retain (by decide)]
    rfl
  · rw [hcount, atRetain_touches L _ .ctr (by decide)]
    rfl

theorem retainFlushRetry_passes (hL : kGet (chanOf s ch).lse n = some L) (hdue : L.flushDue = true)
    (hok : holdupOk (chanOf s ch).psu 0 (energyRetain L.snap.length) = true) :
    Does (.retainFlushRetry ch n) s (fun t =>
      kGet (chanOf t ch).retain n = some (retainWrite L.snap ((kGet (chanOf s ch).retain n).getD retainNone)) ∧
      kGet (chanOf t ch).lse n = some { L with flushDue := false }) := by
  refine does_onChan rfl fun t ht _ => ?_
  have hretry : retainFlushRetryC n (commitsEnded (chanOf s ch)) = retainCommit n L { bump 0x2100 0x0F (commitsEnded (chanOf s ch)) with
      epUJ := (commitsEnded (chanOf s ch)).epUJ + energyRetain L.snap.length } := by
    have hL' : kGet (commitsEnded (chanOf s ch)).lse n = some L := hL
    have hok' : holdupOk (commitsEnded (chanOf s ch)).psu (commitsEnded (chanOf s ch)).epUJ (energyRetain L.snap.length) = true := hok
    unfold retainFlushRetryC
    simp only [hL']
    rw [if_pos (by rw [hdue, hok']; rfl)]
  rw [ht, hretry, retainCommit_retain, retainCommit_lse]
  exact ⟨rfl, rfl⟩

end

/-- Settles O45: Retain flushes, on-line changes and forces at their boundary. -/
theorem retainForcesAndOnlineChange : Obligations.retain_forces_and_online_change := by
  unfold Obligations.retain_forces_and_online_change
  refine ⟨fun s ch n L => retainInterval_passed, fun s ch n L => retainInterval_refused, fun s ch n L hL hw => does_nothing rfl ?_,
    fun s ch n L => retainFlushRetry_passes, fun s ch n L p b hL hst hend hswap hb => does_onChan rfl fun t ht ho => ⟨?_, ho⟩,
    fun s ch n L p b hL hst hswap hb => does_onChan rfl fun t ht ho => ⟨?_, ho⟩,
    fun s ch n L f hL hst hf hset hvar hroom => does_onChan rfl fun t ht _ => ?_, fun s ch n L f hL hst hf hset hvar => does_onChan rfl fun t ht _ => ?_,
    fun s ch n L f hL hst hf hvar => does_onChan rfl fun t ht _ => ?_⟩
  · have hL' : kGet (commitsEnded (chanOf s ch)).lse n = some L := hL
    unfold retainIntervalC
    simp only [hL']
    exact if_pos (by rw [show (commitsEnded (chanOf s ch)).psu.pwarn = true from hw, Bool.true_or, Bool.true_or])
  · obtain ⟨M, hM, hout⟩ := lseServe_running_swaps (c := advanceTo L.nextB (commitsEnded (chanOf s ch))) (t := L.nextB)
      (by rw [advanceTo_lse]; exact lse_of_live hL) hst hend hswap hb
    simp only [lseOutline, Prod.mk.injEq] at hout
    obtain ⟨hp, hd, hs, -⟩ := hout
    rw [ht, onlineChangeSwapC_due (c := commitsEnded (chanOf s ch)) hL hswap hb, hM, Option.map_some, hp, hd, hs]
  · obtain ⟨M, hM, hout, hscan⟩ := lseServe_faulted_swaps (c := advanceTo L.nextB (commitsEnded (chanOf s ch))) (t := L.nextB)
      (by rw [advanceTo_lse]; exact lse_of_live hL) hst hswap hb
    simp only [lseOutline, Prod.mk.injEq] at hout
    obtain ⟨hp, hd, hs, hrun⟩ := hout
    rw [ht, onlineChangeSwapC_due (c := commitsEnded (chanOf s ch)) hL hswap hb, hM, Option.map_some, hp, hd, hs, hrun, hscan]
  · rw [ht, forceEffectC_idle (c := commitsEnded (chanOf s ch)) hL hst hf, applyForce_due hf, if_neg (by simp [hvar]), if_pos hset, if_pos hroom]
    rfl
  · rw [ht, forceEffectC_idle (c := commitsEnded (chanOf s ch)) hL hst hf, applyForce_due hf, if_neg (by simp [hvar]), if_neg (by simp [hset])]
    rfl
  · rw [ht, forceEffectC_idle (c := commitsEnded (chanOf s ch)) hL hst hf, applyForce_due hf, if_pos (by simp [hvar])]
    rfl

end Sys2Proof.Machine
end

section
/-! What the boundaries of a sleeve's lifecycle write (16 R488 to R503). -/
namespace Sys2Proof.Machine
open Sys2Proof

section
variable {A : List Part} {c d : Channel}

/-! ### Keys, recordings, CAN and publications of a sleeve -/

/-- What a change of key slots writes. -/
abbrev slotParts : List Part := [.keys, .keysNv, .epUJ, .ledger, .journal, .ctr, .host, .diag, .emitted]

@[simp] theorem touches_slotPut (s : Nat) (k : KeySlot) (hA : [.keys] ⊆ A) : Touches A c (slotPut s k d) ↔ Touches A c d :=
  Touches.iff (B := [.keys]) (by simp [slotPut]) hA c

@[simp] theorem touches_writeCell (s : Nat) (k : KeySlot) (hA : [.keysNv, .ctr] ⊆ A) : Touches A c (writeCell s k d) ↔ Touches A c d :=
  Touches.iff (B := [.keysNv, .ctr]) (by simp [writeCell]) hA c

/-- A slot's commit, once its hold-up check is answered. -/
def slotCommitted (s : Nat) (x : Bool × Channel) : Channel :=
  if x.1 then writeCell s { slotAt x.2 s with uncommitted := false } (slotPut s { slotAt x.2 s with uncommitted := false } x.2)
  else raiseLimited 16 0xFF s 0 0 (bump 0x2E00 0x05 (slotPut s { slotAt x.2 s with uncommitted := true } x.2))

theorem commitSlot_eq (s : Nat) (c : Channel) : commitSlot s c = slotCommitted s (commitCheck 0 0xFF energyKey c) := by
  obtain ⟨f, hf⟩ : ∃ f, f = commitSlot := ⟨_, rfl⟩
  rw [← hf]
  delta commitSlot at hf
  have hc := congrFun (congrFun hf s) c
  clear hf
  beta_reduce at hc
  generalize commitCheck 0 0xFF energyKey c = x at hc ⊢
  obtain ⟨passed, e⟩ := x
  cases passed <;> exact hc

@[simp] theorem touches_commitSlot (s : Nat) (hA : slotParts ⊆ A) : Touches A c (commitSlot s d) ↔ Touches A c d := by
  refine Touches.iff (B := slotParts) ?_ hA c
  have h : Touches slotParts d (commitCheck 0 0xFF energyKey d).2 := by simp
  rw [commitSlot_eq, slotCommitted]
  generalize commitCheck 0 0xFF energyKey d = x at h ⊢
  split <;> exact h.trans (by simp)

@[simp] theorem touches_orphanFrom (n : Nat) (ps : List Nat) (hA : slotParts ⊆ A) : Touches A c (orphanFrom n ps d) ↔ Touches A c d := by
  refine Touches.iff (B := slotParts) ?_ hA c
  induction n generalizing ps d with
  | zero => exact touches_refl _ _
  | succ n ih =>
    unfold orphanFrom
    dsimp only
    split
    · exact touches_refl _ _
    · exact (Touches.foldl (fun c s => by simp) _ d).trans (ih _)

@[simp] theorem touches_invalidateSlot (s : Nat) (hA : slotParts ⊆ A) : Touches A c (invalidateSlot s d) ↔ Touches A c d :=
  Touches.iff (B := slotParts) (by simp [invalidateSlot]) hA c

@[simp] theorem touches_invalidateSleeve (n : Nat) (hA : slotParts ⊆ A) : Touches A c (invalidateSleeve n d) ↔ Touches A c d := by
  refine Touches.iff (B := slotParts) ?_ hA c
  unfold invalidateSleeve
  dsimp only
  rw [touches_orphanFrom _ _ (List.Subset.refl _)]
  exact (Touches.foldl (fun c s => by simp) _ d).trans (Touches.foldl (fun c s => by simp) _ _)

@[simp] theorem touches_stopCapture (k t : Nat) (hA : triggerParts ⊆ A) : Touches A c (stopCapture k t d) ↔ Touches A c d := by
  refine Touches.iff (B := triggerParts) ?_ hA c
  unfold stopCapture
  split
  · simp
  · split
    · simp
    · dsimp only
      split <;> simp

@[simp] theorem touches_pleatStopSleeve (n t : Nat) (hA : triggerParts ⊆ A) : Touches A c (pleatStopSleeve n t d) ↔ Touches A c d := by
  refine Touches.iff (B := triggerParts) (Touches.foldl (fun c x => ?_) _ d) hA c
  split <;> simp

@[simp] theorem touches_pleatThawSleeve (n : Nat) (hA : [.pleat] ⊆ A) : Touches A c (pleatThawSleeve n d) ↔ Touches A c d := by
  refine Touches.iff (B := [.pleat]) (Touches.foldl (fun c x => ?_) _ d) hA c
  split <;> simp

@[simp] theorem touches_canCancel (n : Nat) (hA : canParts ⊆ A) : Touches A c (canCancel n d) ↔ Touches A c d :=
  Touches.iff (B := canParts) (Touches.foldl (fun c x => by simp) _ d) hA c

@[simp] theorem touches_stopPubs (n : Nat) (hA : [.disp, .pub] ⊆ A) : Touches A c (stopPubs n d) ↔ Touches A c d :=
  Touches.iff (B := [.disp, .pub]) (by simp [stopPubs]) hA c

@[simp] theorem touches_republish (n t : Nat) (hA : changeParts ⊆ A) : Touches A c (republish n t d) ↔ Touches A c d := by
  refine Touches.iff (B := changeParts) (Touches.foldl (fun c x => ?_) _ d) hA c
  split <;> simp

/-! ### The graph, the paths and the program of a sleeve -/

@[simp] theorem touches_breakReaders (n : Nat) (hA : [.graphs] ⊆ A) : Touches A c (breakReaders n d) ↔ Touches A c d := by
  refine Touches.iff (B := [.graphs]) ?_ hA c
  unfold breakReaders
  split <;> simp

@[simp] theorem touches_resumeReaders (n t : Nat) (hA : [.graphs] ⊆ A) : Touches A c (resumeReaders n t d) ↔ Touches A c d := by
  refine Touches.iff (B := [.graphs]) ?_ hA c
  unfold resumeReaders
  split <;> simp

@[simp] theorem touches_freezePaths (n : Nat) (hA : [.paths] ⊆ A) : Touches A c (freezePaths n d) ↔ Touches A c d :=
  Touches.iff (B := [.paths]) (by simp [freezePaths]) hA c

@[simp] theorem touches_thawPaths (n t : Nat) (hA : [.paths] ⊆ A) : Touches A c (thawPaths n t d) ↔ Touches A c d :=
  Touches.iff (B := [.paths]) (by simp [thawPaths]) hA c

@[simp] theorem touches_modInst (n i : Nat) (f : InstRt → InstRt) (hA : [.graphs] ⊆ A) : Touches A c (modInst n i f d) ↔ Touches A c d := by
  refine Touches.iff (B := [.graphs]) ?_ hA c
  unfold modInst
  split
  · simp
  · split <;> simp

@[simp] theorem touches_armFence (f : Fence) (hA : [.disp, .graphs, .ctr] ⊆ A) : Touches A c (armFence f d) ↔ Touches A c d := by
  refine Touches.iff (B := [.disp, .graphs, .ctr]) ?_ hA c
  unfold armFence
  dsimp only
  refine Touches.trans (d := { d with disp := { d.disp with fences := d.disp.fences ++ [f] } }) (by simp) (Touches.foldl (fun c x => ?_) _ _)
  split <;> simp

@[simp] theorem touches_disarmFreeze (n t : Nat) (hA : [.disp, .graphs] ⊆ A) : Touches A c (disarmFreeze n t d) ↔ Touches A c d :=
  Touches.iff (B := [.disp, .graphs]) (by simp [disarmFreeze]) hA c

/-- What a program's service writes. -/
abbrev serveParts : List Part :=
  [.lse, .pub, .graphs, .disp, .seam, .journal, .dict, .ctr, .host, .diag, .emitted, .can, .free, .retain, .epUJ, .ledger]

@[simp] theorem touches_lseWrite (n t : Nat) (L : Lse) (hA : serveParts ⊆ A) : Touches A c (lseWrite n t L d) ↔ Touches A c d :=
  Touches.iff (B := serveParts) (by simp [lseWrite]) hA c

@[simp] theorem touches_lseSafeWrite (n t : Nat) (L : Lse) (hA : serveParts ⊆ A) : Touches A c (lseSafeWrite n t L d) ↔ Touches A c d :=
  Touches.iff (B := serveParts) (by simp [lseSafeWrite]) hA c

@[simp] theorem touches_lseOverrun (n t : Nat) (L : Lse) (hA : serveParts ⊆ A) : Touches A c (lseOverrun n t L d) ↔ Touches A c d := by
  refine Touches.iff (B := serveParts) ?_ hA c
  unfold lseOverrun
  dsimp only
  split <;> simp

@[simp] theorem touches_lseLastWrite (n t : Nat) (hA : serveParts ⊆ A) : Touches A c (lseLastWrite n t d) ↔ Touches A c d := by
  refine Touches.iff (B := serveParts) ?_ hA c
  unfold lseLastWrite
  split
  · simp
  · split
    · simp
    · split
      · split <;> simp
      · split <;> simp
      · split <;> simp
      · simp

@[simp] theorem touches_flushNow (n : Nat) (hA : flushParts ⊆ A) : Touches A c (flushNow n d) ↔ Touches A c d := by
  refine Touches.iff (B := flushParts) ?_ hA c
  unfold flushNow
  split <;> simp

/-- What a program between its write and its scan writes. -/
abbrev betweenParts : List Part := [.lse, .retain, .epUJ, .ledger, .journal, .seam, .dict, .ctr, .host, .diag, .emitted, .graphs, .free]

theorem touches_swapLatched (n t : Nat) (p : LseProg) (M : Lse) (c : Channel) : Touches betweenParts c (swapLatched n t p M c) := by
  obtain ⟨-, -, -, -, hlatch⟩ := lseLatch_keeps n t (applyForces n t (lseSwap n p M c).1 (lseSwap n p M c).2).1
    (applyForces n t (lseSwap n p M c).1 (lseSwap n p M c).2).2
  have hforce := (applyForces_keeps n t (lseSwap n p M c).1 (lseSwap n p M c).2).2.2
  have hswap := (lseSwap_keeps n p M c).2
  exact (hswap.mono (by decide)).trans ((hforce.mono (by decide)).trans (hlatch.mono (by decide)))

theorem touches_forcedLatched (n t : Nat) (M : Lse) (c : Channel) :
    Touches betweenParts c (lseLatch n t (applyForces n t M c).1 (applyForces n t M c).2) := by
  obtain ⟨-, -, -, -, hlatch⟩ := lseLatch_keeps n t (applyForces n t M c).1 (applyForces n t M c).2
  exact ((applyForces_keeps n t M c).2.2.mono (by decide)).trans (hlatch.mono (by decide))

/-- The flush is set aside as a variable: the bound of its hold-up check is a subtraction that must not be evaluated. -/
theorem lseBetween_touches (n t : Nat) (c : Channel) : Touches betweenParts c (lseBetween n t c) := by
  have hflush (n : Nat) (L : Lse) (e : Channel) : Touches betweenParts e (retainFlush n L e) := by simp
  have hput (n : Nat) (L : Lse) (e : Channel) : Touches betweenParts e (putLse n L e) := by simp
  revert hflush
  delta lseBetween
  generalize retainFlush = flush
  revert flush
  refine id ?_
  intro flush hflush
  dsimp only
  split
  · exact touches_refl _ _
  · split
    · split
      · have hflushed (L M : Lse) : Touches betweenParts c (flush n M (putLse n L c)) := (hput n L c).trans (hflush n M _)
        split
        · exact (hflushed _ _).trans (touches_swapLatched n t _ _ _)
        · exact hflushed _ _
      · exact (hput n _ c).trans (touches_forcedLatched n t _ _)
    · exact (hput n _ c).trans (touches_forcedLatched n t _ _)

@[simp] theorem touches_lseBetween (n t : Nat) (hA : betweenParts ⊆ A) : Touches A c (lseBetween n t d) ↔ Touches A c d :=
  Touches.iff (lseBetween_touches n t d) hA c

@[simp] theorem touches_lseThaw (n t : Nat) (hA : betweenParts ⊆ A) : Touches A c (lseThaw n t d) ↔ Touches A c d := by
  refine Touches.iff (B := betweenParts) ?_ hA c
  unfold lseThaw
  split
  · simp
  · split <;> simp

@[simp] theorem touches_loadSaved (n : Nat) (p : SavePayload) (arg : Nat) (hA : [.graphs, .lse, .pub, .can] ⊆ A) :
    Touches A c (loadSaved n p arg d) ↔ Touches A c d :=
  Touches.iff (B := [.graphs, .lse, .pub, .can]) (by simp [loadSaved]) hA c

@[simp] theorem touches_breakStreams (n : Nat) (hA : [.ingest] ⊆ A) : Touches A c (breakStreams n d) ↔ Touches A c d :=
  Touches.iff (B := [.ingest]) (by simp [breakStreams]) hA c

@[simp] theorem touches_keepOverlay (old : KMap Decl) (hA : [.dict] ⊆ A) : Touches A c (keepOverlay old d) ↔ Touches A c d :=
  Touches.iff (B := [.dict]) (by simp [keepOverlay]) hA c

@[simp] theorem touches_disableVf (f : Nat) (hA : [.host] ⊆ A) : Touches A c (disableVf f d) ↔ Touches A c d :=
  Touches.iff (B := [.host]) (by simp [disableVf]) hA c

@[simp] theorem touches_putSleeve (n : Nat) (x : Sleeve) (hA : [.sleeves] ⊆ A) : Touches A c (putSleeve n x d) ↔ Touches A c d :=
  Touches.iff (B := [.sleeves]) (by simp [putSleeve]) hA c

@[simp] theorem touches_drawBytes (k : Nat) (hA : [.free] ⊆ A) : Touches A c (drawBytes k d).2 ↔ Touches A c d := by
  refine Touches.iff (B := [.free]) ?_ hA c
  induction k generalizing d with
  | zero => exact touches_refl _ _
  | succ k ih => exact Touches.trans (by simp) (ih (d := (draw d).2))

/-- A saved sleeve draws free values, and changes nothing more. -/
theorem saveBlob_touches (n : Nat) (x : Sleeve) (twin c : Channel) : Touches [.free] c (saveBlob n x twin c).2 := by
  have hwraps {α : Type} (g : List Byte × Channel → α → List Byte × Channel) (hg : ∀ a x, Touches [.free] a.2 (g a x).2) (l : List α)
      (p : List Byte × Channel) : Touches [.free] p.2 (l.foldl g p).2 := by
    induction l generalizing p with
    | nil => exact touches_refl _ _
    | cons y l ih => exact (hg p y).trans (ih (g p y))
  unfold saveBlob
  dsimp only
  exact Touches.trans (by simp) (hwraps _ (fun a x => by simp) _ ([], (drawBytes 2 (drawBytes 4 c).2).2))

end

/-! ### A sleeve at its boundary -/

section
variable {c d : Channel} {n action : Nat} {S : Sleeve} {r : LifeReq}

theorem sleeve_putSleeve (n : Nat) (x : Sleeve) (c : Channel) : kGet (putSleeve n x c).sleeves n = some x := kGet_kPut_same _ _ _

theorem sleeve_of_touches {A : List Part} (h : Touches A c d) (hA : Part.sleeves ∉ A) (n : Nat) : kGet d.sleeves n = kGet c.sleeves n := by
  rw [h .sleeves hA]

/-- The channel at a boundary of a sleeve's request: the request taken off, the boundary noted and recorded. -/
def lifeArrived (n action : Nat) (S : Sleeve) (r : LifeReq) (c : Channel) : Channel :=
  raise 47 n action 0 (journalAdd 4 action n [] (advanceTo r.at_ (putSleeve n { S with req := none, lastBoundary := r.at_ } c)))

theorem lifeArrived_sleeves : (lifeArrived n action S r c).sleeves = kPut c.sleeves n { S with req := none, lastBoundary := r.at_ } := by
  simp [lifeArrived, putSleeve]

theorem lifeArrived_touches : Touches [.time, .sleeves, .journal, .ctr, .host, .emitted] c (lifeArrived n action S r c) := by simp [lifeArrived]

theorem atLife_due {f : Sleeve → LifeReq → Channel → Channel} (h : Sys2Proof.LifeDue c n action S r) :
    atLife n action f c = f { S with req := none, lastBoundary := r.at_ } r (lifeArrived n action S r c) := by
  obtain ⟨hS, hreq, haction, hat, -⟩ := h
  unfold atLife
  simp only [hS, hreq]
  rw [if_neg (by simp [haction, hat])]
  rfl

theorem atLife_none {f : Sleeve → LifeReq → Channel → Channel} (hS : kGet c.sleeves n = some S) (hreq : S.req = none) : atLife n action f c = c := by
  unfold atLife
  simp only [hS, hreq]

end

end Sys2Proof.Machine
end


section
/-! What an operation of a program, a publication or a CAN port leaves of the dispatcher's state: all but the banks that its accesses
are presented to and the delay list (06 R208; 07 R231; 10 R315). -/
namespace Sys2Proof.Machine
open Sys2Proof

/-- The dispatcher's state without its banks and its delay list. -/
def dispKept (c : Channel) : DispSt := { c.disp with banks := [], delay := [] }

theorem dispKept_of_touches {A : List Part} {c d : Channel} (h : Touches A c d) (hdisp : Part.disp ∉ A) : dispKept d = dispKept c := by
  rw [dispKept, dispKept, h .disp hdisp]

theorem fences_of_dispKept {c d : Channel} (h : dispKept d = dispKept c) : d.disp.fences = c.disp.fences :=
  (congrArg DispSt.fences h : (dispKept d).fences = _)
theorem queued_of_dispKept {c d : Channel} (h : dispKept d = dispKept c) : d.disp.queued = c.disp.queued :=
  (congrArg DispSt.queued h : (dispKept d).queued = _)

section
variable (c : Channel)

@[simp] theorem dispKept_readyUpdate : dispKept (readyUpdate c) = dispKept c := by rw [dispKept, dispKept, readyUpdate_disp]
@[simp] theorem dispKept_putGPub (g : Nat) (p : GPub) : dispKept (putGPub g p c) = dispKept c := rfl
@[simp] theorem dispKept_putGraph (n : Nat) (g : GraphRt) : dispKept (putGraph n g c) = dispKept c := rfl
@[simp] theorem dispKept_putLse (n : Nat) (L : Lse) : dispKept (putLse n L c) = dispKept c := rfl
@[simp] theorem dispKept_putBuf (n b : Nat) (p : CanPort) (x : CanBuf) : dispKept (putBuf n b p x c) = dispKept c := rfl
@[simp] theorem dispKept_bump (i sub : Nat) : dispKept (bump i sub c) = dispKept c := rfl

@[simp] theorem dispKept_rekey (g due : Nat) : dispKept (rekey g due c) = dispKept c := by
  unfold rekey highWater
  dsimp only
  split_ifs <;> rfl

@[simp] theorem dispKept_stateChange (g t : Nat) (ms : List Nat) (p : GPub) : dispKept (stateChange g t ms p c) = dispKept c := by
  rw [stateChange, dispKept_rekey]
  exact dispKept_of_touches (A := [.pub, .ctr]) (by simp) (by decide)

@[simp] theorem dispKept_pubWrite (g t : Nat) (ws : List (Nat × U32 × U32 × Nat)) : dispKept (pubWrite g t ws c) = dispKept c := by
  unfold pubWrite
  split
  · rfl
  · dsimp only
    split_ifs
    · rfl
    · rfl
    · rfl
    · exact dispKept_stateChange ..

@[simp] theorem dispKept_present (rank tile : Nat) (l : List (Nat × BankOp)) : dispKept (present rank tile l c) = dispKept c :=
  congrArg (fun x : DispSt => { x with delay := [] }) (present_bankless rank tile l c)

@[simp] theorem dispKept_pushSources (n : Nat) (l : List (Nat × Token)) (g : GraphRt) : dispKept (pushSources n l g c) = dispKept c := by
  simp [pushSources]

@[simp] theorem dispKept_lsePublish (n t : Nat) (outs : List (LseOut × U32 × U32)) : dispKept (lsePublish n t outs c) = dispKept c := by
  refine foldl_keeps (g := dispKept) (fun c x => ?_) _ c
  dsimp only
  split_ifs <;> simp

@[simp] theorem dispKept_lseTokens (n t : Nat) (ident v q : U32) : dispKept (lseTokens n t ident v q c) = dispKept c := by
  unfold lseTokens
  split <;> simp

@[simp] theorem dispKept_lseWriteOuts (n t : Nat) (outs : List (LseOut × U32 × U32)) : dispKept (lseWriteOuts n t outs c) = dispKept c := by
  have htokens (l : List (LseOut × U32 × U32)) (e : Channel) :
      dispKept (l.foldl (fun c o => if o.1.can then c else lseTokens n t o.1.ident o.2.1 o.2.2 c) e) = dispKept e :=
    foldl_keeps (fun c o => by split_ifs <;> simp) l e
  have hclose (d : Digest) (e : Channel) : dispKept (closeDigest d e) = dispKept e :=
    dispKept_of_touches ((touches_closeDigest d (List.Subset.refl _)).2 (touches_refl _ e)) (by decide)
  rw [lseWriteOuts]
  exact (hclose _ _).trans ((htokens outs _).trans (dispKept_lsePublish ..))

@[simp] theorem dispKept_canCopy (n b : Nat) : dispKept (canCopy n b c) = dispKept c := by
  unfold canCopy
  split
  · split
    · split_ifs <;> simp
    · rfl
  · rfl

@[simp] theorem dispKept_canEnd (n b code : Nat) : dispKept (canEnd n b code c) = dispKept c := by
  have hpost (r : MRec) (e : Channel) : dispKept (post r e) = dispKept e :=
    dispKept_of_touches ((touches_post r (List.Subset.refl _)).2 (touches_refl _ e)) (by decide)
  unfold canEnd
  split
  · rfl
  · split
    · rfl
    · dsimp only
      split_ifs
      · exact (hpost _ _).trans ((dispKept_canCopy ..).trans rfl)
      · exact (dispKept_canCopy ..).trans rfl

@[simp] theorem dispKept_canUnpend (n b : Nat) : dispKept (canUnpend n b c) = dispKept c := by
  unfold canUnpend
  split <;> rfl

@[simp] theorem dispKept_canRequest (n k b : Nat) (pay : Option (List U32)) : dispKept (canRequest n k b pay c) = dispKept c := by
  have htake (e : Channel) : dispKept (canTake k b pay e) = dispKept e := dispKept_of_touches (A := [.can]) (by simp) (by decide)
  have hspoof (e : Channel) : dispKept (spoof 6 n (64 * (k - 1) + b) e) = dispKept e :=
    dispKept_of_touches (A := [.host, .journal, .ctr, .diag, .emitted]) (by simp) (by decide)
  unfold canRequest
  split
  · rfl
  · split
    · rfl
    · dsimp only
      split_ifs <;> simp [htake, hspoof]

@[simp] theorem dispKept_lseCanOuts (n : Nat) (outs : List (LseOut × U32 × U32)) : dispKept (lseCanOuts n outs c) = dispKept c := by
  rw [lseCanOuts_eq]
  refine foldl_keeps (g := dispKept) (fun c o => ?_) _ c
  unfold lseCanOut
  split
  · split
    · rfl
    · dsimp only
      generalize (if o.2.2.1 != 0 then (1 : BitVec 1) else 0) = now
      split_ifs <;> simp
  · rfl

@[simp] theorem dispKept_lseLastWrite (n t : Nat) : dispKept (lseLastWrite n t c) = dispKept c := by
  have hfault (L : Lse) (e : Channel) : dispKept (lseFaulted n L e) = dispKept e :=
    dispKept_of_touches ((touches_lseFaulted n L (List.Subset.refl _)).2 (touches_refl _ e)) (by decide)
  have hwrite (L : Lse) (e : Channel) : dispKept (lseWrite n t L e) = dispKept e := by simp [lseWrite]
  have hsafe (L : Lse) (e : Channel) : dispKept (lseSafeWrite n t L e) = dispKept e := by simp [lseSafeWrite]
  have hover (L : Lse) (e : Channel) : dispKept (lseOverrun n t L e) = dispKept e := by
    unfold lseOverrun
    dsimp only
    split
    · rw [hfault, dispKept_bump, dispKept_putLse]
    · rw [dispKept_bump, dispKept_putLse]
  unfold lseLastWrite
  split
  · rfl
  · split
    · rfl
    · split
      · split
        · exact hwrite ..
        · exact hover ..
      · split
        · exact hwrite ..
        · exact hover ..
      · split
        · exact hsafe ..
        · rfl
      · rfl

@[simp] theorem dispKept_republish (n t : Nat) : dispKept (republish n t c) = dispKept c := by
  refine foldl_keeps (g := dispKept) (fun c p => ?_) _ c
  split_ifs <;> simp

@[simp] theorem dispKept_canCancel (n : Nat) : dispKept (canCancel n c) = dispKept c := by
  refine foldl_keeps (g := dispKept) (fun c k => ?_) _ c
  unfold endPending
  split
  · rfl
  · exact foldl_keeps (fun c x => by simp) _ c

end

end Sys2Proof.Machine
end


section
/-! What each boundary of a sleeve's lifecycle request does (16 R491 to R502; 08 R264, R269). -/
namespace Sys2Proof.Machine
open Sys2Proof

section
variable {c d : Channel} {n action : Nat} {S : Sleeve} {r : LifeReq}

/-! ### Start -/

theorem startActions_sleeve : kGet (startActions n S r c).sleeves n = some { S with st := .running, restore := none } := by
  have hloaded (p : SavePayload) (arg : Nat) (e : Channel) : kGet (breakReaders n (loadSaved n p arg e)).sleeves n = kGet e.sleeves n :=
    sleeve_of_touches (A := [.graphs, .lse, .pub, .can]) (by simp) (by decide) n
  have hcapture (l : List (Nat × PDef)) (e : Channel) : kGet (l.foldl (fun c d =>
      if d.2.cfg.owner = n ∧ entryNat c (defIndex d.1) 7 (if d.2.cfg.armStart then 1 else 0) ≠ 0 then startCapture d.1 c else c) e).sleeves n =
      kGet e.sleeves n := by
    refine sleeve_of_touches (A := [.pleat]) (Touches.foldl (fun c d => ?_) l e) (by decide) n
    split <;> simp
  have hready (e : Channel) : kGet (injCheck (readyUpdate (simUpdate e))).sleeves n = kGet e.sleeves n :=
    sleeve_of_touches (A := [.ingest, .boot, .pub, .host, .seam, .can, .journal, .ctr, .diag, .emitted]) (by simp) (by decide) n
  have hgraph (t : Nat) (x : Sleeve) (e : Channel) : kGet (startReaders n (startGraph t n (putSleeve n x e))).sleeves n = some x := by
    rw [sleeve_of_touches (A := [.graphs]) (c := putSleeve n x e) (by simp) (by decide) n, sleeve_putSleeve]
  unfold startActions
  simp only []
  rw [hready, hcapture]
  cases S.restore with
  | none => exact hgraph ..
  | some x => exact (hloaded _ _ _).trans (hgraph ..)

theorem sleeveStartBoundaryC_due (h : Sys2Proof.LifeDue c n 1 S r ∨ Sys2Proof.LifeDue c n 6 S r) :
    ∃ e, sleeveStartBoundaryC n c = startActions n { S with req := none, lastBoundary := r.at_ } r e := by
  rcases h with h | h
  · refine ⟨lifeArrived n 1 S r c, ?_⟩
    rw [← atLife_due (f := startActions n) h]
    obtain ⟨hS, hreq, haction, -, -⟩ := h
    unfold sleeveStartBoundaryC
    simp [hS, hreq, haction]
  · refine ⟨lifeArrived n 6 S r c, ?_⟩
    rw [← atLife_due (f := startActions n) h]
    obtain ⟨hS, hreq, haction, -, -⟩ := h
    unfold sleeveStartBoundaryC
    simp [hS, hreq, haction]

theorem sleeveStartBoundaryC_none (hS : kGet c.sleeves n = some S) (hreq : S.req = none) : sleeveStartBoundaryC n c = c := by
  unfold sleeveStartBoundaryC
  simp only [hS, hreq]
  exact atLife_none hS hreq

/-! ### Freeze and thaw -/

theorem freezeActions_sleeve : kGet (freezeActions n S r c).sleeves n = some { S with st := .frozen } := by
  unfold freezeActions
  simp only []
  rw [readyUpdate_sleeves, sleeve_putSleeve]

theorem freezeActions_fence : (freezeActions n S r c).disp.fences.any (fun f => f.freeze && f.sleeve == n && f.instant == r.at_) = true := by
  have hstop (e : Channel) : dispKept (pleatStopSleeve n r.at_ e) = dispKept e := dispKept_of_touches (A := triggerParts) (by simp) (by decide)
  have hkept (e : Channel) (x : Sleeve) :
      (readyUpdate (putSleeve n x (pleatStopSleeve n r.at_ (canCancel n (stopPubs n (freezePaths n e)))))).disp.fences = e.disp.fences := by
    refine fences_of_dispKept ?_
    rw [dispKept_readyUpdate]
    exact (hstop _).trans ((dispKept_canCancel _ _).trans rfl)
  unfold freezeActions
  simp only []
  rw [hkept, armFence_disp]
  simp

theorem thawActions_sleeve : kGet (thawActions n S r c).sleeves n = some { S with st := .running } := by
  unfold thawActions
  simp only []
  have hrest (e : Channel) : kGet (readyUpdate (pleatThawSleeve n (republish n r.at_ (lseThaw n r.at_ e)))).sleeves n = kGet e.sleeves n :=
    sleeve_of_touches (A := betweenParts ++ changeParts ++ [.pleat, .boot, .can]) (by simp) (by decide) n
  rw [hrest, sleeve_putSleeve]

theorem thawActions_fences : (thawActions n S r c).disp.fences.any (fun f => f.freeze && f.sleeve == n) = false := by
  have hthaw (e : Channel) : dispKept (lseThaw n r.at_ e) = dispKept e := dispKept_of_touches (A := betweenParts) (by simp) (by decide)
  have hreaders (e : Channel) : dispKept (breakReaders n (resumeReaders n r.at_ (thawPaths n r.at_ e))) = dispKept e :=
    dispKept_of_touches (A := [.graphs, .paths]) (by simp) (by decide)
  have hpleat (e : Channel) : dispKept (pleatThawSleeve n e) = dispKept e := dispKept_of_touches (A := [.pleat]) (by simp) (by decide)
  have hput (x : Sleeve) (e : Channel) : dispKept (putSleeve n x e) = dispKept e := rfl
  have hfences : (thawActions n S r c).disp.fences = (disarmFreeze n r.at_ c).disp.fences := by
    refine fences_of_dispKept ?_
    unfold thawActions
    simp only []
    rw [dispKept_readyUpdate, hpleat, dispKept_republish, hthaw, hput, hreaders]
  rw [hfences, List.any_eq_false]
  intro f hf
  have hgone := (List.mem_filter.1 hf).2
  simp only [Bool.not_eq_true', Bool.and_eq_false_iff] at hgone
  rcases hgone with h | h <;> simp [h]

/-! ### Behaviour -/

theorem behaviourActions_sleeve : kGet (behaviourActions n S r c).sleeves n = some { S with beh := r.arg } := by
  have hready (e : Channel) : kGet (injCheck (readyUpdate (simUpdate e))).sleeves n = kGet e.sleeves n :=
    sleeve_of_touches (A := [.ingest, .boot, .pub, .host, .seam, .can, .journal, .ctr, .diag, .emitted]) (by simp) (by decide) n
  have hrepublish (e : Channel) : kGet (republish n r.at_ e).sleeves n = kGet e.sleeves n :=
    sleeve_of_touches (A := changeParts) (by simp) (by decide) n
  have hraise (m : Nat) (L : KMap Lse) (e : Channel) : kGet (raiseLimited 45 n n m n { e with lse := L }).sleeves n = kGet e.sleeves n :=
    sleeve_of_touches (A := [.lse, .host, .journal, .ctr, .diag, .emitted]) (by simp) (by decide) n
  unfold behaviourActions
  simp only []
  rw [hready]
  generalize (match kGet c.lse n with | some L => L.forces.length | none => 0) = forced
  split_ifs <;> simp only [hrepublish, hraise, sleeve_putSleeve]

/-! ### Deletion -/

/-- The channel of a deletion before what belongs to the sleeve is taken away. -/
def deletionCleared (n : Nat) (r : LifeReq) (c : Channel) : Channel :=
  disableVf (n + 1) (invalidateSleeve n (abandonMoves (fun m => m.sleeve == n)
    (pleatStopSleeve n r.at_ (canCancel n (stopPubs n (flushNow n (lseLastWrite n r.at_ c)))))))

theorem deletionCleared_queued : (deletionCleared n r c).disp.queued = c.disp.queued := by
  have hvf (e : Channel) : placing (disableVf (n + 1) (invalidateSleeve n e)) = placing e :=
    placing_of_touches (A := .host :: slotParts) (by simp) (by decide) (by decide)
  have hstop (e : Channel) : dispKept (pleatStopSleeve n r.at_ e) = dispKept e := dispKept_of_touches (A := triggerParts) (by simp) (by decide)
  have hflush (e : Channel) : dispKept (flushNow n e) = dispKept e := dispKept_of_touches (A := flushParts) (by simp) (by decide)
  have hkept (e : Channel) : (pleatStopSleeve n r.at_ (canCancel n (stopPubs n (flushNow n (lseLastWrite n r.at_ e))))).disp.queued = e.disp.queued := by
    refine queued_of_dispKept ((hstop _).trans ((dispKept_canCancel _ _).trans ?_))
    exact ((hflush _).trans (dispKept_lseLastWrite _ _ _) : dispKept (flushNow n _) = _)
  have hplace := (hvf _).trans (placing_abandonMoves (fun m => m.sleeve == n)
    (pleatStopSleeve n r.at_ (canCancel n (stopPubs n (flushNow n (lseLastWrite n r.at_ c))))))
  simp only [placing, Prod.mk.injEq] at hplace
  obtain ⟨-, hqueued, -⟩ := hplace
  exact hqueued.trans (hkept c)

theorem bankPut_queued (b : Nat) (k : Bank) : (bankPut b k c).disp.queued = c.disp.queued := rfl

theorem placerWake_queued (b : Nat) : (placerWake b c).disp.queued = c.disp.queued := by
  unfold placerWake
  simp only []
  split
  · rw [highWater_disp, bump_disp, bankPut_queued]
    rfl
  · rfl

theorem retainBanks_queued : (retainBanks c).disp.queued = c.disp.queued := by
  unfold retainBanks
  refine foldl_keeps (g := fun c => c.disp.queued) (fun c b => ?_) (List.range 64) c
  dsimp only
  split
  · exact placerWake_queued _
  · exact bankPut_queued _ _

/-- A sleeve's moves that are planned go with it. -/
def unplanned (n : Nat) (c : Channel) : Channel := { c with disp := { c.disp with planned := c.disp.planned.filter (fun m => m.1 != n) } }

theorem unplanned_queued : (unplanned n c).disp.queued = c.disp.queued := rfl
theorem putQueued_queued (q : PlWait) : (putQueued q c).disp.queued = c.disp.queued ++ [q] := rfl

/-- What a deletion does after the sleeve is taken away: banks, the Placer and what it reports. -/
def deletionSettled (n : Nat) (old : KMap Decl) (c : Channel) : Channel :=
  readyUpdate (reportPlacement (simUpdate (settleDeletion (putQueued ⟨2, n, 0, []⟩ (retainBanks (unplanned n (keepOverlay old c)))))))

theorem deleteActions_eq : deleteActions n S r c = deletionSettled n c.dict.decls (removeSleeve n (deletionCleared n r c)) := rfl

@[simp] theorem touches_settleDeletion {A : List Part} (hA : [.disp] ⊆ A) : Touches A c (settleDeletion d) ↔ Touches A c d := by
  refine Touches.iff (B := [.disp]) ?_ hA c
  unfold settleDeletion
  split_ifs <;> simp

@[simp] theorem touches_putQueued {A : List Part} (q : PlWait) (hA : [.disp] ⊆ A) : Touches A c (putQueued q d) ↔ Touches A c d :=
  Touches.iff (B := [.disp]) (by simp [putQueued]) hA c

@[simp] theorem touches_unplanned {A : List Part} (n : Nat) (hA : [.disp] ⊆ A) : Touches A c (unplanned n d) ↔ Touches A c d :=
  Touches.iff (B := [.disp]) (by simp [unplanned]) hA c

theorem deletionSettled_touches (old : KMap Decl) :
    Touches [.dict, .disp, .ctr, .free, .ingest, .boot, .pub, .host, .seam, .can, .journal, .diag, .emitted] c (deletionSettled n old c) := by
  simp [deletionSettled]

theorem queued_of_placing {c d : Channel} (h : placing d = placing c) : d.disp.queued = c.disp.queued :=
  congrArg Prod.fst (congrArg Prod.snd h)

theorem deletionSettled_queued (old : KMap Decl) (hempty : c.disp.queued = []) : ∀ q ∈ (deletionSettled n old c).disp.queued, q.action = 2 := by
  have hready (e : Channel) : placing (readyUpdate (reportPlacement (simUpdate e))) = placing e :=
    (placing_readyUpdate _).trans ((placing_reportPlacement _).trans (placing_of_touches (A := [.ingest]) (by simp) (by decide) (by decide)))
  have hlast : (deletionSettled n old c).disp.queued =
      (settleDeletion (putQueued ⟨2, n, 0, []⟩ (retainBanks (unplanned n (keepOverlay old c))))).disp.queued :=
    queued_of_placing (hready _)
  have hbefore : (putQueued ⟨2, n, 0, []⟩ (retainBanks (unplanned n (keepOverlay old c)))).disp.queued = [⟨2, n, 0, []⟩] := by
    have hkeep : (keepOverlay old c).disp = c.disp := (by simp : Touches [.dict] c (keepOverlay old c)) .disp (by decide)
    rw [putQueued_queued, retainBanks_queued, unplanned_queued, hkeep, hempty]
    rfl
  rw [hlast]
  unfold settleDeletion
  split
  · simp [hbefore]
  · simp [hbefore]

theorem deletionCleared_sleeves : (deletionCleared n r c).sleeves = c.sleeves := by
  have habandon (e : Channel) : (abandonMoves (fun m => m.sleeve == n) e).sleeves = e.sleeves :=
    congrArg (fun x => x.2.2) (placing_abandonMoves (fun m => m.sleeve == n) e)
  have hvf (e : Channel) : (disableVf (n + 1) (invalidateSleeve n e)).sleeves = e.sleeves :=
    (by simp : Touches (.host :: slotParts) e (disableVf (n + 1) (invalidateSleeve n e))) .sleeves (by decide)
  have hstop (e : Channel) : (pleatStopSleeve n r.at_ (canCancel n (stopPubs n (flushNow n (lseLastWrite n r.at_ e))))).sleeves = e.sleeves :=
    (by simp : Touches (serveParts ++ triggerParts) e _) .sleeves (by decide)
  rw [deletionCleared, hvf, habandon, hstop]

theorem removeSleeve_sleeves : (removeSleeve n c).sleeves = kDel c.sleeves n := rfl
theorem removeSleeve_graphs : (removeSleeve n c).graphs = kDel c.graphs n := rfl
theorem removeSleeve_lse : (removeSleeve n c).lse = kDel c.lse n := rfl
theorem removeSleeve_paths : (removeSleeve n c).paths = c.paths.filter (fun p => p.2.cfg.owner != n) := rfl
theorem removeSleeve_queued : (removeSleeve n c).disp.queued = c.disp.queued := rfl

/-- What a deletion leaves: nothing of the sleeve, the other sleeves, and in the queue of the Placer deletions alone. -/
theorem deleteActions_gone : kGet (deleteActions n S r c).sleeves n = none ∧ kGet (deleteActions n S r c).graphs n = none ∧
    kGet (deleteActions n S r c).lse n = none ∧ (∀ q ∈ (deleteActions n S r c).paths, q.2.cfg.owner ≠ n) ∧
    (deleteActions n S r c).sleeves = kDel c.sleeves n := by
  have h := deletionSettled_touches (n := n) (c := removeSleeve n (deletionCleared n r c)) c.dict.decls
  rw [deleteActions_eq]
  have hsleeves : (deletionSettled n c.dict.decls (removeSleeve n (deletionCleared n r c))).sleeves = kDel c.sleeves n := by
    rw [h .sleeves (by decide), removeSleeve_sleeves, deletionCleared_sleeves]
  refine ⟨?_, ?_, ?_, ?_, hsleeves⟩
  · rw [hsleeves, kGet_kDel_same]
  · rw [h .graphs (by decide), removeSleeve_graphs, kGet_kDel_same]
  · rw [h .lse (by decide), removeSleeve_lse, kGet_kDel_same]
  · rw [h .paths (by decide), removeSleeve_paths]
    intro q hq
    simpa using (List.mem_filter.1 hq).2

/-- Where only deletions wait, nothing is planned once the Placer is idle, and nothing is planned before. -/
theorem settled_deletions (twin : Channel) (hq : ∀ q ∈ c.disp.queued, q.action = 2) (hs : c.sleeves.any (fun x => awaitsMoves x.2) = false) :
    settleQueue 64 twin (settleStarts twin (settleDeletion c)) = settleDeletion c := by
  by_cases hidle : placersIdle twin (settleDeletion c) = true
  · have hempty : (settleDeletion c).disp.queued = [] := by
      unfold settleDeletion
      split
      · simpa using hq
      case isFalse hnot =>
        have hc : placerIdle c = true := by
          unfold settleDeletion at hidle
          rw [if_neg hnot] at hidle
          simp only [placersIdle, Bool.and_eq_true] at hidle
          exact hidle.1
        rw [hc, Bool.true_and] at hnot
        refine List.eq_nil_iff_forall_not_mem.2 fun q hmem => hnot (List.any_eq_true.2 ⟨q, hmem, ?_⟩)
        simp [hq q hmem]
    have hsleeves : (settleDeletion c).sleeves = c.sleeves := (by simp : Touches [.disp] c (settleDeletion c)) .sleeves (by decide)
    have hquiet : placerAwaited (settleDeletion c) = false := by rw [placerAwaited, hempty, hsleeves, hs]; rfl
    rw [settleStarts_quiet hquiet, settleQueue_quiet hquiet]
  · have hstarts : settleStarts twin (settleDeletion c) = settleDeletion c := by
      unfold settleStarts
      rw [if_pos (by simpa using hidle)]
    rw [hstarts]
    unfold settleQueue
    rw [if_pos (by simpa using hidle)]

/-- Where only deletions wait, the Placer's part after the moves is at most the budget of moves that a deletion gives back (R264). -/
theorem placerSettle_deletions {s : State} {ch : Chan} (hq : ∀ q ∈ (chanOf s ch).disp.queued, q.action = 2)
    (hs : (chanOf s ch).sleeves.any (fun x => awaitsMoves x.2) = false) :
    chanOf (placerSettle s) ch = chanOf s ch ∨ chanOf (placerSettle s) ch = settleDeletion (chanOf s ch) := by
  unfold placerSettle
  split
  case isFalse => exact .inl rfl
  case isTrue =>
    right
    have hch : chanOf { s with a := settleDeletion s.a, b := settleDeletion s.b } ch = settleDeletion (chanOf s ch) := by cases ch <;> rfl
    generalize ({ s with a := settleDeletion s.a, b := settleDeletion s.b } : State) = s1 at hch ⊢
    by_cases hlead : leadChan s1 = ch
    · simp only []
      rw [hlead, chanOf_withChan, hch]
      exact settled_deletions _ hq hs
    · have htwin : leadChan s1 = ch.twin := by cases ch <;> cases hl : leadChan s1 <;> simp_all [Chan.twin]
      simp only []
      rw [htwin, chanOf_withChan_twin, hch]

/-! ### The save -/

theorem saveBlobReadyC_saved (twin : Channel) (hS : kGet c.sleeves n = some S) (hsaving : S.saving = true) :
    kGet (saveBlobReadyC n twin c).sleeves n = some { S with
        saving := false, req := S.req.map (fun r => { r with at_ := if r.at_ = 0 then lifeBoundary n c else r.at_ }) } ∧
      kHas (saveBlobReadyC n twin c).dict.domains (od 0x2B00 6) = true := by
  unfold saveBlobReadyC
  simp only [hS, hsaving, Bool.not_true, Bool.false_eq_true, if_false]
  exact ⟨sleeve_putSleeve _ _ _, congrArg Option.isSome (kGet_kPut_same _ _ _)⟩

end

/-! ### The boundaries as commands -/

section
variable {s : State} {ch : Chan} {n : Nat} {S : Sleeve} {r : LifeReq}

/-- A boundary of one channel whose request is due does what the request asks for. -/
theorem does_atLife {i : Instr} {action : Nat} {f : Sleeve → LifeReq → Channel → Channel} {P : State → Prop}
    (hi : exec i s = onChan ch (atLife n action f) s) (hdue : Sys2Proof.LifeDue (chanOf s ch) n action S r)
    (h : ∀ t c, chanOf t ch = f { S with req := none, lastBoundary := r.at_ } r c → onlyChan ch s t → P t) : Does i s P := by
  refine does_onChan hi fun u hu ho => h u _ (hu.trans (atLife_due (c := commitsEnded (chanOf s ch)) hdue)) ho

theorem deletionBoundaryC_due (hdue : Sys2Proof.LifeDue (commitsEnded (chanOf s ch)) n 2 S r) :
    deletionBoundaryC n (commitsEnded (chanOf s ch)) =
      deleteActions n { S with req := none, lastBoundary := r.at_ } r (lifeArrived n 2 S r (commitsEnded (chanOf s ch))) :=
  atLife_due hdue

theorem any_kPut_of_any {m : KMap Sleeve} (n : Nat) (x : Sleeve) (hx : awaitsMoves x = false) (h : m.any (fun x => awaitsMoves x.2) = false) :
    (kPut m n x).any (fun x => awaitsMoves x.2) = false := by
  rw [List.any_eq_false] at h ⊢
  intro y hy
  rcases mem_kPut _ _ _ _ hy with rfl | hy
  · simp [hx]
  · exact h y hy

theorem deletionBoundary_does (hdue : Sys2Proof.LifeDue (chanOf s ch) n 2 S r) (hquiet : placerQuiet s) :
    Does (.deletionBoundary ch n) s (fun t => kGet (chanOf t ch).sleeves n = none ∧ kGet (chanOf t ch).graphs n = none ∧
      kGet (chanOf t ch).lse n = none ∧ (∀ q ∈ (chanOf t ch).paths, q.2.cfg.owner ≠ n) ∧ onlyChan ch s t) := by
  obtain ⟨d, hd⟩ : ∃ d, deletionBoundaryC n (commitsEnded (chanOf s ch)) = d := ⟨_, rfl⟩
  have htwin : placerAwaited (chanOf s ch.twin) = false := by cases ch <;> simp [Chan.twin, hquiet.1, hquiet.2]
  have hself := placerAwaited_commitsEnded ch hquiet
  refine ⟨placerSettle (withChan s ch d), ?_, ?_⟩
  · show onChanPlacer ch (deletionBoundaryC n) s = _
    rw [onChanPlacer, onChan_next, hd]
  have hdue' : Sys2Proof.LifeDue (commitsEnded (chanOf s ch)) n 2 S r := hdue
  rw [deletionBoundaryC_due hdue'] at hd
  generalize commitsEnded (chanOf s ch) = c at hd hself hdue'
  simp only [placerAwaited, Bool.or_eq_false_iff, Bool.not_eq_false', List.isEmpty_iff] at hself
  obtain ⟨hqueue, hsleeves⟩ := hself
  have harrived : (lifeArrived n 2 S r c).disp.queued = [] := by
    rw [lifeArrived_touches .disp (by decide), hqueue]
  obtain ⟨hgone, hgraphs, hlse, hpaths, hdel⟩ := deleteActions_gone (n := n) (S := { S with req := none, lastBoundary := r.at_ }) (r := r)
    (c := lifeArrived n 2 S r c)
  have hqueued : ∀ q ∈ d.disp.queued, q.action = 2 := by
    rw [← hd, deleteActions_eq]
    refine deletionSettled_queued _ ?_
    rw [removeSleeve_queued, deletionCleared_queued, harrived]
  rw [hd] at hgone hgraphs hlse hpaths hdel
  have hawait : d.sleeves.any (fun x => awaitsMoves x.2) = false := by
    rw [hdel, lifeArrived_sleeves]
    have := any_kPut_of_any n { S with req := none, lastBoundary := r.at_ } rfl hsleeves
    rw [List.any_eq_false] at this ⊢
    exact fun x hx => this x (List.mem_of_mem_filter hx)
  have hsettle := placerSettle_deletions (s := withChan s ch d) (ch := ch) (by rwa [chanOf_withChan]) (by rwa [chanOf_withChan])
  rw [chanOf_withChan] at hsettle
  have hkept : Touches [.disp] d (chanOf (placerSettle (withChan s ch d)) ch) := by
    rcases hsettle with h | h <;> rw [h]
    · exact touches_refl _ _
    · simp
  dsimp only
  rw [hkept .sleeves (by decide), hkept .graphs (by decide), hkept .lse (by decide), hkept .paths (by decide)]
  exact ⟨hgone, hgraphs, hlse, hpaths, onlyChan_placerSettle s ch d htwin⟩

end

/-- Settles O46: each boundary by what its request does; a deletion also by what the Placer does after it. -/
theorem sleeveBoundaries : Obligations.sleeve_boundaries := by
  unfold Obligations.sleeve_boundaries
  refine ⟨fun s ch n S r h => ?_, fun s ch n S r h => ?_, fun s ch n S r h => ?_, fun s ch n S r h hq => deletionBoundary_does h hq,
    fun s ch n S r h => ?_, fun s ch n S hS hreq => ?_, fun s ch n S hS hsave => ?_⟩
  · refine does_onChan (f := sleeveStartBoundaryC n) rfl fun u hu ho => ?_
    obtain ⟨e, he⟩ := sleeveStartBoundaryC_due (c := commitsEnded (chanOf s ch)) h
    rw [hu, he]
    exact ⟨startActions_sleeve, ho⟩
  · refine does_atLife (f := freezeActions n) rfl h fun u c hu ho => ?_
    rw [hu]
    exact ⟨freezeActions_sleeve, freezeActions_fence, ho⟩
  · refine does_atLife (f := thawActions n) rfl h fun u c hu ho => ?_
    rw [hu]
    exact ⟨thawActions_sleeve, thawActions_fences, ho⟩
  · refine does_atLife (f := behaviourActions n) rfl h fun u c hu ho => ?_
    rw [hu]
    exact ⟨behaviourActions_sleeve, ho⟩
  · have hnone (action : Nat) (f : Sleeve → LifeReq → Channel → Channel) :
        atLife n action f (commitsEnded (chanOf s ch)) = commitsEnded (chanOf s ch) := atLife_none (c := commitsEnded (chanOf s ch)) hS hreq
    refine ⟨does_onChan (f := freezeBoundaryC n) rfl fun u hu _ => hu.trans (hnone 3 _), does_onChan (f := thawBoundaryC n) rfl fun u hu _ => hu.trans (hnone 4 _),
      fun hq => does_onChanPlacer (f := deletionBoundaryC n) rfl hq ?_ fun u hu _ => hu.trans (hnone 2 _),
      does_onChan (f := behaviourBoundaryC n) rfl fun u hu _ => hu.trans (hnone 7 _),
      does_onChan (f := sleeveStartBoundaryC n) rfl fun u hu _ => hu.trans (sleeveStartBoundaryC_none (c := commitsEnded (chanOf s ch)) hS hreq)⟩
    rw [deletionBoundaryC, hnone]
    exact placerAwaited_commitsEnded ch hq
  · obtain ⟨hsaved, hblob⟩ := saveBlobReadyC_saved (c := commitsEnded (chanOf s ch)) (chanOf s ch.twin) hS hsave
    refine ⟨_, onChanTwin_next ch (saveBlobReadyC n) s, ?_⟩
    dsimp only
    rw [chanOf_withChan]
    exact ⟨hsaved, hblob, onlyChan_withChan s ch _⟩

end Sys2Proof.Machine
end


section
/-! The Host Window: what its accesses write and answer, how an owner word is handed over, and the mailbox response (07 R220 to R239;
15 R461). -/
namespace Sys2Proof.Machine
open Sys2Proof

/-! ### Little-endian words -/

theorem length_leBytes (n v : Nat) : (leBytes n v).length = n := by
  induction n generalizing v with
  | zero => rfl
  | succ n ih => rw [leBytes, List.length_cons, ih]

theorem leNat_leBytes (n v : Nat) : leNat (leBytes n v) = v % 256 ^ n := by
  induction n generalizing v with
  | zero => simp [leBytes, leNat, Nat.mod_one]
  | succ n ih =>
    have hbyte : (BitVec.ofNat 8 v).toNat = v % 256 := BitVec.toNat_ofNat v 8
    rw [leBytes, leNat, ih, hbyte, pow_succ' 256 n, Nat.mod_mul (a := 256)]

theorem ownerWord_lt (seq len : Nat) : ownerWord 1 seq len < 256 ^ 8 := by
  have hseq := Nat.mod_lt seq (show 65536 > 0 by decide)
  have hlen := Nat.mod_lt len (show 2 ^ 32 > 0 by decide)
  unfold ownerWord
  omega

theorem leBytes_word (v : U64) : leNat (leBytes 8 (v.toNat % 256 ^ 8)) = v.toNat := by
  rw [leNat_leBytes, Nat.mod_mod]
  exact Nat.mod_eq_of_lt v.isLt

section
variable {c d : Channel} {p : Path}

/-! ### The window -/

/-- Bytes outside what is written read as before. -/
theorem winRead_winWrite_away (a b : Nat) (l : List Byte) (c : Channel) (h : b < a ∨ a + l.length ≤ b) :
    winRead (winWrite a l c) b 1 = winRead c b 1 := winRead_winWrite_other a b 1 l c (by omega)

theorem winRead_congr (h : d.host.window = c.host.window) (a n : Nat) : winRead d a n = winRead c a n := by
  unfold winRead
  rw [h]

theorem winRead_leBytes (a n v : Nat) (c : Channel) : winRead (winWrite a (leBytes n v) c) a n = leBytes n v := by
  have h := winRead_winWrite a (leBytes n v) c
  rwa [length_leBytes] at h

theorem readOwner_writeOwner (f w : Nat) (c : Channel) : readOwner f (writeOwner f w c) = w % 256 ^ 8 := by
  rw [readOwner, writeOwner, winRead_leBytes, leNat_leBytes]

theorem readOwner_congr (h : d.host.window = c.host.window) (f : Nat) : readOwner f d = readOwner f c := by
  rw [readOwner, readOwner, winRead_congr h]

/-! ### What an access does -/

theorem onFn_up {k : Nat → Channel → Channel} (hsvc : ∀ ch n, p ≠ .svc ch n) (hup : hostUp c = true) : onFn p k c = k (pathFn p) c := by
  cases p <;> first | exact absurd rfl (hsvc _ _) | simp [onFn, hup]

/-- An access through a function that is ready, on the channel it reaches. -/
theorem does_onFn {i : Instr} {k : Nat → Channel → Channel} {s : State} {P : State → Prop} (hi : exec i s = onPath p i (onFn p k) s)
    (hp : Sys2Proof.FnReady s p)
    (h : ∀ t m, SameCounters m (atPath s p) → chanOf t (pathChan s p) = k (pathFn p) (arrived m (atPath s p)) → P t) : Does i s P := by
  obtain ⟨hready, hsvc, hup⟩ := hp
  exact does_onPath hi hready fun t m hm ht => h t m hm (ht.trans (onFn_up (c := arrived m (atPath s p)) hsvc hup))

/-- An atomic that is carried out: the word written, both kinds of access counted, the old word answered. -/
def atomicWritten (fn a size old new : Nat) (hit : Bool) (c : Channel) : Channel :=
  emit (.completion fn 0 (leBytes size old)) (bumpN 0x3000 5 (b01 hit) (bump 0x3000 6 (winWrite a (leBytes size new) c)))

section
variable {off size fn a old new : Nat} {hit : Bool} {f : Nat → Nat} {k : Nat → Nat → Nat → Channel → Channel}

/-- What an atomic does on the channel it reaches. -/
def atomicOn (off size : Nat) (hit : Bool) (f : Nat → Nat) (k : Nat → Nat → Nat → Channel → Channel) (fn : Nat) (c : Channel) : Channel :=
  if (size ≠ 4 ∧ size ≠ 8) ∨ areaSize fn < off + size then emit (.unsupported fn) c
  else if off % size ≠ 0 then emit (.completerAbort fn) c
  else
    let old := leNat (winRead c (areaBase fn + off) size)
    k fn old (f old % 256 ^ size) (atomicWritten fn (areaBase fn + off) size old (f old % 256 ^ size) hit c)

theorem atomicC_eq : atomicC p off size hit f k = onFn p (atomicOn off size hit f k) := rfl

theorem atomicOn_done (hsize : size = 4 ∨ size = 8) (halign : off % size = 0) (hfit : off + size ≤ areaSize fn) :
    atomicOn off size hit f k fn c = k fn (leNat (winRead c (areaBase fn + off) size)) (f (leNat (winRead c (areaBase fn + off) size)) % 256 ^ size)
      (atomicWritten fn (areaBase fn + off) size (leNat (winRead c (areaBase fn + off) size))
        (f (leNat (winRead c (areaBase fn + off) size)) % 256 ^ size) hit c) := by
  unfold atomicOn
  rw [if_neg (by omega), if_neg (by omega)]

theorem atomicOn_misaligned (hsize : size = 4 ∨ size = 8) (halign : off % size ≠ 0) (hfit : off + size ≤ areaSize fn) :
    atomicOn off size hit f k fn c = emit (.completerAbort fn) c := by
  unfold atomicOn
  rw [if_neg (by omega), if_pos halign]

theorem atomicOn_unsupported (h : (size ≠ 4 ∧ size ≠ 8) ∨ areaSize fn < off + size) :
    atomicOn off size hit f k fn c = emit (.unsupported fn) c := if_pos h

theorem atomicWritten_read : winRead (atomicWritten fn a size old new hit c) a size = leBytes size new := winRead_leBytes a size new c

theorem atomicWritten_away (b n : Nat) (h : b + n ≤ a ∨ a + size ≤ b) :
    winRead (atomicWritten fn a size old new hit c) b n = winRead c b n :=
  winRead_winWrite_other a b n (leBytes size new) c (by rwa [length_leBytes])

theorem atomicWritten_atomics : zGet (atomicWritten fn a size old new hit c).ctr (od 0x3000 6) = zGet c.ctr (od 0x3000 6) + 1 := by
  rw [atomicWritten]
  exact (zGet_bumpN_other 0x3000 5 _ _ (by decide)).trans (zGet_bump_same 0x3000 6 _)

theorem atomicWritten_replays :
    zGet (atomicWritten fn a size old new hit c).ctr (od 0x3000 5) = zGet c.ctr (od 0x3000 5) + (if hit then 1 else 0) := by
  have hadd : zGet (bumpN 0x3000 5 (b01 hit) (bump 0x3000 6 (winWrite a (leBytes size new) c))).ctr (od 0x3000 5) =
      zGet (bump 0x3000 6 (winWrite a (leBytes size new) c)).ctr (od 0x3000 5) + BitVec.ofNat 64 (b01 hit) := zGet_zPut_same _ _ _
  have hother : zGet (bump 0x3000 6 (winWrite a (leBytes size new) c)).ctr (od 0x3000 5) = zGet c.ctr (od 0x3000 5) :=
    zGet_bump_other 0x3000 6 _ (by decide)
  refine hadd.trans ?_
  rw [hother]
  cases hit <;> rfl

theorem atomicWritten_counts {k : Nat} (h5 : k ≠ od 0x3000 5) (h6 : k ≠ od 0x3000 6) :
    zGet (atomicWritten fn a size old new hit c).ctr k = zGet c.ctr k :=
  (zGet_bumpN_other 0x3000 5 _ _ h5).trans (zGet_bump_other 0x3000 6 _ h6)

theorem atomicWritten_emitted : (atomicWritten fn a size old new hit c).emitted = c.emitted ++ [.completion fn 0 (leBytes size old)] := rfl
theorem atomicWritten_mail : (atomicWritten fn a size old new hit c).host.mail = c.host.mail := rfl
theorem atomicWritten_runtimeUp : runtimeUp (atomicWritten fn a size old new hit c) = runtimeUp c := rfl

end

/-! ### Owner words -/

section
variable {f old w : Nat}

theorem handOver_taken (hup : runtimeUp c = true) (hold : ownerOf old = 1) (hw : ownerOf w = 2) (hseq : seqOf w = (seqOf old + 1) % 65536) :
    (handOver f old w c).host.window = c.host.window ∧ mailTaken f w c ∈ (handOver f old w c).host.mail := by
  unfold handOver
  rw [if_neg (by simp [hup]), if_neg (by simp [hold]), if_neg (by simp [hw]), if_neg (by simp [hw, hseq])]
  dsimp only
  split
  · rw [post_host]
    exact ⟨rfl, List.mem_append_right _ (List.mem_singleton.2 rfl)⟩
  · exact ⟨rfl, List.mem_append_right _ (List.mem_singleton.2 rfl)⟩

theorem handOver_refused (hup : runtimeUp c = true)
    (h : ownerOf old ≠ 1 ∨ (ownerOf w = 2 ∧ seqOf w ≠ (seqOf old + 1) % 65536)) : handOver f old w c = protocolError f w c := by
  unfold handOver
  rw [if_neg (by simp [hup])]
  rcases h with hold | ⟨hw, hseq⟩
  · rw [if_pos hold]
  · split
    · rfl
    · rw [if_neg (by simp [hw]), if_pos (.inr hseq)]

theorem handOver_kept (hup : runtimeUp c = true) (hold : ownerOf old = 1) (hw : ownerOf w = 1) : handOver f old w c = c := by
  unfold handOver
  rw [if_neg (by simp [hup]), if_neg (by simp [hold]), if_pos hw]

theorem answered_window (x : Nat) : (mailboxEvent f (bump 0x3000 x c)).host.window = c.host.window := rfl
theorem answered_mail (x : Nat) : (mailboxEvent f (bump 0x3000 x c)).host.mail = c.host.mail := rfl
theorem answered_emitted (x : Nat) : (mailboxEvent f (bump 0x3000 x c)).emitted = c.emitted ++ [.msix f 0] := rfl
theorem writeOwner_mail : (writeOwner f w c).host.mail = c.host.mail := rfl

theorem protocolError_owner : readOwner f (protocolError f w c) = ownerWord 1 (seqOf w) 0 := by
  rw [protocolError, readOwner_congr (answered_window _), readOwner_writeOwner, Nat.mod_eq_of_lt (ownerWord_lt _ _)]

theorem dropMail_mail : ∀ m ∈ (dropMail f c).host.mail, m.fn ≠ f := by
  intro m hm
  simpa using (List.mem_filter.1 hm).2

theorem protocolError_mail : ∀ m ∈ (protocolError f w c).host.mail, m.fn ≠ f := by
  rw [protocolError, answered_mail, writeOwner_mail]
  exact dropMail_mail

theorem protocolError_counts : zGet (protocolError f w c).ctr (od 0x3000 0x0C) = zGet c.ctr (od 0x3000 0x0C) + 1 := by
  have hevent (e : Channel) : (mailboxEvent f e).ctr = e.ctr := rfl
  have hwrite (x : Nat) (e : Channel) : (writeOwner f x (dropMail f e)).ctr = e.ctr := rfl
  rw [protocolError, hevent, zGet_bump_same, hwrite]

/-- The response in the mailbox, the owner word back with the host. -/
def responded (f : Nat) (m : MailReq) (c : Channel) : Channel :=
  mailboxEvent f (bump 0x3000 6 (writeOwner f (ownerWord 1 m.seq (8 + m.body.length))
    (winWrite (areaBase f + 8) (leBytes 2 m.op ++ leBytes 2 m.status ++ leBytes 4 m.tag.toNat ++ m.body) (dropMail f c))))

theorem mailboxResponseC_eq {m : MailReq} (hm : c.host.mail.find? (fun m => m.fn == pathFn p && m.ready) = some m) :
    mailboxResponseC p c = if ownerOf (readOwner (pathFn p) c) ≠ 2 ∨ seqOf (readOwner (pathFn p) c) ≠ m.seq then
      protocolError (pathFn p) (readOwner (pathFn p) c) c else responded (pathFn p) m c := by
  have hfn : m.fn = pathFn p := by
    have := List.find?_some hm
    simp only [Bool.and_eq_true, beq_iff_eq] at this
    exact this.1
  unfold mailboxResponseC
  simp only [hm, hfn]
  rfl

theorem responded_owner {m : MailReq} : readOwner f (responded f m c) = ownerWord 1 m.seq (8 + m.body.length) := by
  rw [responded, readOwner_congr (answered_window _), readOwner_writeOwner, Nat.mod_eq_of_lt (ownerWord_lt _ _)]

theorem winRead_winWrite_front (a : Nat) (l r : List Byte) (c : Channel) : winRead (winWrite a (l ++ r) c) a l.length = l := by
  unfold winRead
  refine List.ext_getElem (by simp) fun i hi hi' => ?_
  rw [List.getElem_map, List.getElem_range, winWrite, zGet_winPut_at _ _ _ _ (by simp; omega), List.getElem_append_left]

theorem responded_head {m : MailReq} :
    winRead (responded f m c) (areaBase f + 8) 8 = leBytes 2 m.op ++ leBytes 2 m.status ++ leBytes 4 m.tag.toNat := by
  rw [responded, winRead_congr (answered_window _), writeOwner, winRead_winWrite_other _ _ _ _ _ (by rw [length_leBytes]; omega)]
  have hlen : (leBytes 2 m.op ++ leBytes 2 m.status ++ leBytes 4 m.tag.toNat).length = 8 := by simp [length_leBytes]
  have hfront := winRead_winWrite_front (areaBase f + 8) (leBytes 2 m.op ++ leBytes 2 m.status ++ leBytes 4 m.tag.toNat) m.body (dropMail f c)
  rwa [hlen] at hfront

theorem responded_mail {m : MailReq} : ∀ x ∈ (responded f m c).host.mail, x.fn ≠ f := by
  have hwrite (a : Nat) (l : List Byte) (e : Channel) : (winWrite a l e).host.mail = e.host.mail := rfl
  rw [responded, answered_mail, writeOwner_mail, hwrite]
  exact dropMail_mail

theorem responded_emitted {m : MailReq} : (responded f m c).emitted = c.emitted ++ [.msix f 0] := by
  have hwrite (a : Nat) (l : List Byte) (e : Channel) : (winWrite a l e).emitted = e.emitted := rfl
  have hdrop : (dropMail f c).emitted = c.emitted := rfl
  rw [responded, answered_emitted, writeOwner, hwrite, hwrite, hdrop]

end

/-! ### Collisions -/

/-- The registers of a function after a collision: the status bit, and the word (07 R231, R232). -/
def collided (a : Nat) (r : FnRegs) : FnRegs :=
  { r with hwstat := r.hwstat ||| (if r.hwstat.getLsbD 0 then 2 else 1), hwcoll := BitVec.ofNat 32 (a / 8 * 8) }

/-- HBUSY raised for 1 µs from now (07 R232). -/
def marked (c : Channel) : Channel := { c with host := { c.host with hbusy := true, hbusyEnd := c.time.up + 1000 } }

/-- The collision's registers and its count. -/
def collisionNoted (f a : Nat) (c : Channel) : Channel := fnPut f (collided a (fnGet c f)) (bump 0x3000 0x0A c)

theorem collide_eq (f a : Nat) (hbusy : c.host.hbusy = false) :
    collide f a c = marked (emit (.hbusy true) (bump 0x3000 0x0B (collisionNoted f a c))) := by
  have hpulse (d : Channel) (hd : d.host.hbusy = false) : marked (if d.host.hbusy then d else emit (.hbusy true) (bump 0x3000 0x0B d)) =
      marked (emit (.hbusy true) (bump 0x3000 0x0B d)) := by rw [hd]; rfl
  exact hpulse (collisionNoted f a c) hbusy

theorem collisionNoted_fns (f a : Nat) : (collisionNoted f a c).host.fns = kPut c.host.fns f (collided a (fnGet c f)) := rfl
theorem collisionNoted_time (f a : Nat) : (collisionNoted f a c).time = c.time := rfl
theorem collisionNoted_window (f a : Nat) : (collisionNoted f a c).host.window = c.host.window := rfl

theorem collide_does (f a : Nat) (hstat : (fnGet c f).hwstat = 0) (hbusy : c.host.hbusy = false) :
    (collide f a c).host.hbusy = true ∧ (collide f a c).host.hbusyEnd = c.time.up + 1000 ∧ (fnGet (collide f a c) f).hwstat = 1 ∧
      (fnGet (collide f a c) f).hwcoll = BitVec.ofNat 32 (a / 8 * 8) ∧ (collide f a c).host.window = c.host.window := by
  have hmarked (e : Emission) (d : Channel) : fnGet (marked (emit e (bump 0x3000 0x0B d))) f = fnGet d f := rfl
  have hup (e : Emission) (d : Channel) : (marked (emit e (bump 0x3000 0x0B d))).host.hbusyEnd = d.time.up + 1000 := rfl
  have hwindow (e : Emission) (d : Channel) : (marked (emit e (bump 0x3000 0x0B d))).host.window = d.host.window := rfl
  rw [collide_eq f a hbusy, hup, hmarked, hwindow, collisionNoted_time, collisionNoted_window, fnGet, collisionNoted_fns, kGet_kPut_same]
  refine ⟨rfl, rfl, ?_, rfl, rfl⟩
  rw [Option.getD_some, collided, hstat]
  rfl

/-- What a read does on the channel it reaches. -/
def readOn (off len : Nat) (hit : Option Nat) (f : Nat) (c : Channel) : Channel :=
  if areaSize f < off + len then emit (.unsupported f) c
  else
    let d := winRead c (areaBase f + off) len
    match hit with
    | some w =>
      if off / 8 ≤ w ∧ w * 8 < off + len then
        let x := draw c
        emit (.completion f 0 (spoilWord off w x.1 d)) (collide f (areaBase f + 8 * w) x.2)
      else emit (.completion f 0 d) c
    | none => emit (.completion f 0 d) c

/-- What a write does on the channel it reaches. -/
def writeOn (off : Nat) (data : List Byte) (hit : Option Nat) (f : Nat) (c : Channel) : Channel :=
  if areaSize f < off + data.length then emit (.unsupported f) c
  else
    let c1 := winWrite (areaBase f + off) data c
    match hit with
    | some w => if off / 8 ≤ w ∧ w * 8 < off + data.length then bump 0x3000 5 c1 else c1
    | none => c1

theorem readOn_collides {off len w f : Nat} (hfit : off + len ≤ areaSize f) (hlo : off / 8 ≤ w) (hhi : w * 8 < off + len) :
    ∃ e x, readOn off len (some w) f c = emit (.completion f 0 e) (collide f (areaBase f + 8 * w) x) ∧ x = (draw c).2 := by
  unfold readOn
  rw [if_neg (by omega)]
  dsimp only
  rw [if_pos ⟨hlo, hhi⟩]
  exact ⟨_, _, rfl, rfl⟩

theorem readOn_fits {off len f : Nat} (hfit : off + len ≤ areaSize f) :
    readOn off len none f c = emit (.completion f 0 (winRead c (areaBase f + off) len)) c := if_neg (by omega)

theorem readOn_outside {off len f : Nat} {hit : Option Nat} (h : areaSize f < off + len) : readOn off len hit f c = emit (.unsupported f) c := if_pos h

theorem writeOn_fits {off f : Nat} {data : List Byte} (hfit : off + data.length ≤ areaSize f) :
    writeOn off data none f c = winWrite (areaBase f + off) data c := if_neg (by omega)

theorem writeOn_outside {off f : Nat} {data : List Byte} {hit : Option Nat} (h : areaSize f < off + data.length) :
    writeOn off data hit f c = emit (.unsupported f) c := if_pos h

theorem hbusyPulseEndC_ends (h : c.host.hbusy = true) :
    (hbusyPulseEndC c).host.hbusy = false ∧ (hbusyPulseEndC c).emitted = c.emitted ++ [.hbusy false] := by
  have hemitted : (upTo c.host.hbusyEnd c).emitted = c.emitted := (by simp : Touches [.time] c (upTo c.host.hbusyEnd c)) .emitted (by decide)
  have hends : ∃ d : Channel, hbusyPulseEndC c = emit (.hbusy false) { d with host := { d.host with hbusy := false } } ∧ d.emitted = c.emitted :=
    ⟨upTo c.host.hbusyEnd c, if_pos h, hemitted⟩
  obtain ⟨d, hd, he⟩ := hends
  rw [hd]
  exact ⟨rfl, congrArg (· ++ _) he⟩

end

/-! ### The commands -/

section
variable {s : State} {p : Path} {off size : Nat} {v : U64} {hit : Bool}

theorem hostAtomicSwap_writes (hp : Sys2Proof.FnReady s p) (hsize : size = 4 ∨ size = 8) (halign : off % size = 0) (hword : off ≠ 0 ∨ size = 4)
    (hfit : off + size ≤ areaSize (pathFn p)) :
    Does (.hostAtomicSwap p off size ⟨v, hit⟩) s (fun t => let c := chanOf t (pathChan s p); let a := areaBase (pathFn p) + off
      winRead c a size = leBytes size (v.toNat % 256 ^ size) ∧
      zGet c.ctr (od 0x3000 6) = zGet (atPath s p).ctr (od 0x3000 6) + 1 ∧
      zGet c.ctr (od 0x3000 5) = zGet (atPath s p).ctr (od 0x3000 5) + (if hit then 1 else 0) ∧
      c.emitted = (atPath s p).emitted ++ [.completion (pathFn p) 0 (leBytes size (leNat (winRead (atPath s p) a size)))] ∧
      ∀ b, (b < a ∨ a + size ≤ b) → winRead c b 1 = winRead (atPath s p) b 1) := by
  refine does_onFn (k := atomicOn off size hit (fun _ => v.toNat) (fun fn old new c => if off = 0 ∧ size = 8 then handOver fn old new c else c))
    rfl hp fun t m hm ht => ?_
  rw [atomicOn_done hsize halign hfit, if_neg (by omega)] at ht
  dsimp only
  rw [ht]
  exact ⟨atomicWritten_read, atomicWritten_atomics.trans (congrArg (· + 1) (hm _ (by decide))),
    atomicWritten_replays.trans (congrArg (· + _) (hm _ (by decide))), atomicWritten_emitted,
    fun b hb => atomicWritten_away b 1 (by omega)⟩

theorem hostAtomicFetchadd_adds (hp : Sys2Proof.FnReady s p) (hsize : size = 4 ∨ size = 8) (halign : off % size = 0)
    (hfit : off + size ≤ areaSize (pathFn p)) :
    Does (.hostAtomicFetchadd p off size ⟨v, hit⟩) s (fun t => let c := chanOf t (pathChan s p); let a := areaBase (pathFn p) + off
      winRead c a size = leBytes size ((leNat (winRead (atPath s p) a size) + v.toNat) % 256 ^ size) ∧
      c.emitted = (atPath s p).emitted ++ [.completion (pathFn p) 0 (leBytes size (leNat (winRead (atPath s p) a size)))] ∧
      ∀ b, (b < a ∨ a + size ≤ b) → winRead c b 1 = winRead (atPath s p) b 1) := by
  refine does_onFn (k := atomicOn off size hit (fun old => old + v.toNat) (fun _ _ _ c => c)) rfl hp fun t m hm ht => ?_
  rw [atomicOn_done hsize halign hfit] at ht
  dsimp only
  rw [ht]
  exact ⟨atomicWritten_read, atomicWritten_emitted, fun b hb => atomicWritten_away b 1 (by omega)⟩

/-- An atomic that is answered without being carried out leaves the host's part as it is. -/
theorem atomics_answered {e : Emission} (hp : Sys2Proof.FnReady s p)
    (h : ∀ f k c, atomicOn off size hit f k (pathFn p) c = emit e c) :
    Does (.hostAtomicSwap p off size ⟨v, hit⟩) s (fun t => (chanOf t (pathChan s p)).host = (atPath s p).host ∧
      (chanOf t (pathChan s p)).emitted = (atPath s p).emitted ++ [e]) ∧
    Does (.hostAtomicFetchadd p off size ⟨v, hit⟩) s (fun t => (chanOf t (pathChan s p)).host = (atPath s p).host ∧
      (chanOf t (pathChan s p)).emitted = (atPath s p).emitted ++ [e]) := by
  refine ⟨does_onFn (k := atomicOn off size hit (fun _ => v.toNat) (fun fn old new c => if off = 0 ∧ size = 8 then handOver fn old new c else c))
    rfl hp fun t m hm ht => ?_, does_onFn (k := atomicOn off size hit (fun old => old + v.toNat) (fun _ _ _ c => c)) rfl hp fun t m hm ht => ?_⟩ <;>
  · rw [ht, h]
    exact ⟨rfl, rfl⟩

/-- A swap of the owner word, as it is carried out before the mailbox is looked at. -/
def ownerSwapped (f : Nat) (v : U64) (hit : Bool) (c : Channel) : Channel :=
  atomicWritten f (areaBase f) 8 (readOwner f c) (v.toNat % 256 ^ 8) hit c

theorem ownerSwapped_owner {f : Nat} {c : Channel} : readOwner f (ownerSwapped f v hit c) = v.toNat := by
  rw [readOwner, ownerSwapped, atomicWritten_read, leBytes_word]

theorem does_ownerSwap {P : State → Prop} (hp : Sys2Proof.FnReady s p)
    (h : ∀ t m, SameCounters m (atPath s p) → chanOf t (pathChan s p) =
      handOver (pathFn p) (readOwner (pathFn p) (atPath s p)) v.toNat (ownerSwapped (pathFn p) v hit (arrived m (atPath s p))) → P t) :
    Does (.hostAtomicSwap p 0 8 ⟨v, hit⟩) s P := by
  refine does_onFn (k := atomicOn 0 8 hit (fun _ => v.toNat) (fun fn old new c => if 0 = 0 ∧ 8 = 8 then handOver fn old new c else c))
    rfl hp fun t m hm ht => h t m hm (ht.trans ?_)
  rw [atomicOn_done (.inr rfl) rfl (by unfold areaSize; split_ifs <;> decide), if_pos ⟨rfl, rfl⟩, Nat.mod_eq_of_lt (show v.toNat < 256 ^ 8 from v.isLt)]
  unfold ownerSwapped
  rw [Nat.mod_eq_of_lt (show v.toNat < 256 ^ 8 from v.isLt)]
  rfl

end

section
variable {s : State} {p : Path} {v : U64} {hit : Bool} {m : MailReq}

theorem ownerSwapped_runtimeUp {f : Nat} {c : Channel} : runtimeUp (ownerSwapped f v hit c) = runtimeUp c := rfl
theorem ownerSwapped_mail {f : Nat} {c : Channel} : (ownerSwapped f v hit c).host.mail = c.host.mail := rfl

theorem ownerSwapped_head {f : Nat} {c : Channel} : winRead (ownerSwapped f v hit c) (areaBase f + 8) 8 = winRead c (areaBase f + 8) 8 :=
  atomicWritten_away (areaBase f + 8) 8 (.inr le_rfl)

theorem mailTaken_of {f w : Nat} {c : Channel} : (mailTaken f w c).fn = f ∧ (mailTaken f w c).seq = seqOf w ∧
    (mailTaken f w c).op = leAt (winRead c (areaBase f + 8) 8) 0 2 := ⟨rfl, rfl, rfl⟩

theorem ownerSwap_hands (hp : Sys2Proof.FnReady s p) (hup : runtimeUp (atPath s p) = true)
    (hold : ownerOf (readOwner (pathFn p) (atPath s p)) = 1) (hv : ownerOf v.toNat = 2)
    (hseq : seqOf v.toNat = (seqOf (readOwner (pathFn p) (atPath s p)) + 1) % 65536) :
    Does (.hostAtomicSwap p 0 8 ⟨v, hit⟩) s (fun t => let c := chanOf t (pathChan s p)
      readOwner (pathFn p) c = v.toNat ∧
      (∃ m ∈ c.host.mail, m.fn = pathFn p ∧ m.seq = seqOf v.toNat ∧ m.op = leAt (winRead (atPath s p) (areaBase (pathFn p) + 8) 8) 0 2)) := by
  refine does_ownerSwap hp fun t m hm ht => ?_
  have harrived : runtimeUp (arrived m (atPath s p)) = true := hup
  have hhead : winRead (arrived m (atPath s p)) (areaBase (pathFn p) + 8) 8 = winRead (atPath s p) (areaBase (pathFn p) + 8) 8 :=
    winRead_congr (by rfl) _ _
  generalize arrived m (atPath s p) = c at ht harrived hhead
  obtain ⟨hwin, hmem⟩ := handOver_taken (f := pathFn p) (ownerSwapped_runtimeUp.trans harrived) hold hv hseq
  obtain ⟨hfn, hsq, hop⟩ := mailTaken_of (f := pathFn p) (w := v.toNat) (c := ownerSwapped (pathFn p) v hit c)
  dsimp only
  rw [ht, readOwner_congr hwin, ownerSwapped_owner]
  exact ⟨rfl, _, hmem, hfn, hsq, by rw [hop, ownerSwapped_head, hhead]⟩

theorem ownerSwap_refused (hp : Sys2Proof.FnReady s p) (hup : runtimeUp (atPath s p) = true)
    (h : ownerOf (readOwner (pathFn p) (atPath s p)) ≠ 1 ∨
      (ownerOf v.toNat = 2 ∧ seqOf v.toNat ≠ (seqOf (readOwner (pathFn p) (atPath s p)) + 1) % 65536)) :
    Does (.hostAtomicSwap p 0 8 ⟨v, hit⟩) s (fun t => let c := chanOf t (pathChan s p)
      readOwner (pathFn p) c = ownerWord 1 (seqOf v.toNat) 0 ∧ (∀ m ∈ c.host.mail, m.fn ≠ pathFn p) ∧
        zGet c.ctr (od 0x3000 0x0C) = zGet (atPath s p).ctr (od 0x3000 0x0C) + 1) := by
  refine does_ownerSwap hp fun t m hm ht => ?_
  have harrived : runtimeUp (arrived m (atPath s p)) = true := hup
  have hcount : zGet (arrived m (atPath s p)).ctr (od 0x3000 0x0C) = zGet (atPath s p).ctr (od 0x3000 0x0C) := hm _ (by decide)
  generalize arrived m (atPath s p) = c at ht harrived hcount
  rw [handOver_refused (ownerSwapped_runtimeUp.trans harrived) h] at ht
  dsimp only
  rw [ht, protocolError_owner, protocolError_counts, ownerSwapped, atomicWritten_counts (by decide) (by decide), hcount]
  exact ⟨rfl, protocolError_mail, rfl⟩

theorem ownerSwap_keeps (hp : Sys2Proof.FnReady s p) (hup : runtimeUp (atPath s p) = true)
    (hold : ownerOf (readOwner (pathFn p) (atPath s p)) = 1) (hv : ownerOf v.toNat = 1) :
    Does (.hostAtomicSwap p 0 8 ⟨v, hit⟩) s (fun t => let c := chanOf t (pathChan s p)
      readOwner (pathFn p) c = v.toNat ∧ c.host.mail = (atPath s p).host.mail) := by
  refine does_ownerSwap hp fun t m hm ht => ?_
  have harrived : runtimeUp (arrived m (atPath s p)) = true := hup
  have hmail : (arrived m (atPath s p)).host.mail = (atPath s p).host.mail := rfl
  generalize arrived m (atPath s p) = c at ht harrived hmail
  rw [handOver_kept (ownerSwapped_runtimeUp.trans harrived) hold hv] at ht
  dsimp only
  rw [ht, ownerSwapped_owner, ownerSwapped_mail, hmail]
  exact ⟨rfl, rfl⟩

/-- A response, as the channel it is made on takes it. -/
theorem does_mailboxResponse {P : State → Prop} (hp : PathReady s p)
    (hm : (atPath s p).host.mail.find? (fun m => m.fn == pathFn p && m.ready) = some m)
    (h : ∀ t c, zGet c.ctr (od 0x3000 0x0C) = zGet (atPath s p).ctr (od 0x3000 0x0C) → c.emitted = (atPath s p).emitted →
      chanOf t (pathChan s p) = (if ownerOf (readOwner (pathFn p) (atPath s p)) ≠ 2 ∨ seqOf (readOwner (pathFn p) (atPath s p)) ≠ m.seq then
        protocolError (pathFn p) (readOwner (pathFn p) (atPath s p)) c else responded (pathFn p) m c) → P t) :
    Does (.mailboxResponse p) s P := by
  refine does_onPath (f := mailboxResponseC p) rfl hp fun t x hx ht => ?_
  have hown : readOwner (pathFn p) (arrived x (atPath s p)) = readOwner (pathFn p) (atPath s p) := readOwner_congr rfl _
  rw [mailboxResponseC_eq (c := arrived x (atPath s p)) hm, hown] at ht
  exact h t (arrived x (atPath s p)) (hx _ (by decide)) rfl ht

theorem mailboxResponse_refused (hp : PathReady s p) (hm : (atPath s p).host.mail.find? (fun m => m.fn == pathFn p && m.ready) = some m)
    (h : ownerOf (readOwner (pathFn p) (atPath s p)) ≠ 2 ∨ seqOf (readOwner (pathFn p) (atPath s p)) ≠ m.seq) :
    Does (.mailboxResponse p) s (fun t => let c := chanOf t (pathChan s p)
      readOwner (pathFn p) c = ownerWord 1 (seqOf (readOwner (pathFn p) (atPath s p))) 0 ∧ (∀ x ∈ c.host.mail, x.fn ≠ pathFn p) ∧
        zGet c.ctr (od 0x3000 0x0C) = zGet (atPath s p).ctr (od 0x3000 0x0C) + 1) := by
  refine does_mailboxResponse hp hm fun t c hc _ ht => ?_
  rw [if_pos h] at ht
  dsimp only
  rw [ht, protocolError_owner, protocolError_counts, hc]
  exact ⟨rfl, protocolError_mail, rfl⟩

theorem mailboxResponse_answers (hp : PathReady s p) (hm : (atPath s p).host.mail.find? (fun m => m.fn == pathFn p && m.ready) = some m)
    (hown : ownerOf (readOwner (pathFn p) (atPath s p)) = 2) (hseq : seqOf (readOwner (pathFn p) (atPath s p)) = m.seq) :
    Does (.mailboxResponse p) s (fun t => let c := chanOf t (pathChan s p)
      readOwner (pathFn p) c = ownerWord 1 m.seq (8 + m.body.length) ∧
      winRead c (areaBase (pathFn p) + 8) 8 = leBytes 2 m.op ++ leBytes 2 m.status ++ leBytes 4 m.tag.toNat ∧
      (∀ x ∈ c.host.mail, x.fn ≠ pathFn p) ∧ c.emitted = (atPath s p).emitted ++ [.msix (pathFn p) 0]) := by
  refine does_mailboxResponse hp hm fun t c _ hc ht => ?_
  rw [if_neg (not_or.2 ⟨not_not.2 hown, not_not.2 hseq⟩)] at ht
  dsimp only
  rw [ht, responded_owner, responded_head, responded_emitted, hc]
  exact ⟨rfl, rfl, responded_mail, rfl⟩

theorem hostWindowRead_collides {off len w : Nat} (hp : Sys2Proof.FnReady s p) (hfit : off + len ≤ areaSize (pathFn p)) (hlo : off / 8 ≤ w)
    (hhi : w * 8 < off + len) (hstat : (fnGet (atPath s p) (pathFn p)).hwstat = 0) (hbusy : (atPath s p).host.hbusy = false) :
    Does (.hostWindowRead p off len (some w)) s (fun t => let c := chanOf t (pathChan s p)
      c.host.hbusy = true ∧ c.host.hbusyEnd = (atPath s p).time.up + 1000 ∧ (fnGet c (pathFn p)).hwstat = 1 ∧
      (fnGet c (pathFn p)).hwcoll = BitVec.ofNat 32 ((areaBase (pathFn p) + 8 * w) / 8 * 8) ∧ c.host.window = (atPath s p).host.window) := by
  refine does_onFn (k := readOn off len (some w)) rfl hp fun t m hm ht => ?_
  obtain ⟨e, x, hx, hdraw⟩ := readOn_collides (c := arrived m (atPath s p)) hfit hlo hhi
  have hhost : x.host = (atPath s p).host := by rw [hdraw]; rfl
  have htime : x.time = (atPath s p).time := by rw [hdraw]; rfl
  have hfn : fnGet x (pathFn p) = fnGet (atPath s p) (pathFn p) := by rw [fnGet, fnGet, hhost]
  obtain ⟨hb, hend, hst, hcoll, hwin⟩ := collide_does (c := x) (pathFn p) (areaBase (pathFn p) + 8 * w) (by rw [hfn, hstat]) (by rw [hhost, hbusy])
  have hfnE (e : Emission) (c : Channel) : fnGet (emit e c) = fnGet c := rfl
  dsimp only
  rw [ht, hx, hfnE, emit_host]
  exact ⟨hb, by rw [hend, htime], hst, hcoll, by rw [hwin, hhost]⟩

end

/-- Settles O27: reads, writes and atomics of the window, the hand-over of an owner word, and the mailbox response. -/
theorem hostWindowAccesses : Obligations.host_window_accesses := by
  unfold Obligations.host_window_accesses
  refine ⟨fun s p off len hp hfit => ?_, fun s p off len w hp hfit hlo hhi hstat hbusy => hostWindowRead_collides hp hfit hlo hhi hstat hbusy,
    fun s p off data hp hfit => ?_, fun s p off data len hit hp hw hr => ⟨?_, ?_⟩,
    fun s p off size v hit hp hsize halign hword hfit => hostAtomicSwap_writes hp hsize halign hword hfit,
    fun s p off size v hit hp hsize halign hfit => hostAtomicFetchadd_adds hp hsize halign hfit,
    fun s p off size v hit hp hsize halign hfit => atomics_answered hp fun f k c => atomicOn_misaligned hsize halign hfit,
    fun s p off size v hit hp h => atomics_answered hp fun f k c => atomicOn_unsupported h, fun s p off size cmp v hp => ?_,
    fun s p v hit hp hup hold hv hseq => ownerSwap_hands hp hup hold hv hseq, fun s p v hit hp hup h => ownerSwap_refused hp hup h,
    fun s p v hit hp hup hold hv => ownerSwap_keeps hp hup hold hv, fun s p m hp hm h => mailboxResponse_refused hp hm h,
    fun s p m hp hm hown hseq => mailboxResponse_answers hp hm hown hseq, fun s ch hbusy => ?_⟩
  · refine does_onFn (k := readOn off len none) rfl hp fun t m hm ht => ?_
    rw [ht, readOn_fits hfit]
    exact ⟨rfl, rfl⟩
  · refine does_onFn (k := writeOn off data none) rfl hp fun t m hm ht => ?_
    dsimp only
    rw [ht, writeOn_fits hfit]
    exact ⟨winRead_winWrite _ _ _, fun a ha => winRead_winWrite_away _ _ _ _ (by omega)⟩
  · refine does_onFn (k := writeOn off data hit) rfl hp fun t m hm ht => ?_
    rw [ht, writeOn_outside hw]
    exact ⟨rfl, rfl⟩
  · refine does_onFn (k := readOn off len hit) rfl hp fun t m hm ht => ?_
    rw [ht, readOn_outside hr]
    rfl
  · refine does_onFn (k := fun f c => emit (.unsupported f) c) rfl hp fun t m hm ht => ?_
    rw [ht]
    exact ⟨rfl, rfl⟩
  · refine does_onChan (f := hbusyPulseEndC) rfl fun t ht ho => ?_
    obtain ⟨hb, he⟩ := hbusyPulseEndC_ends (c := commitsEnded (chanOf s ch)) hbusy
    rw [ht]
    exact ⟨hb, he, ho⟩

end Sys2Proof.Machine
end


section
/-! The registers of BAR0: which field a write reaches, and what a function-level reset leaves (15 R453 to R460; 22 R640). -/
namespace Sys2Proof.Machine
open Sys2Proof

section
variable {c : Channel} {f off size : Nat} {v : U64} {w : U32}

/-! ### A write as the channel takes it -/

/-- A write that is taken as a host command is recorded and sent; the registers stay as it left them. -/
theorem regTaken_host (d : Channel) : (regTaken f off size v d).host = d.host := by
  unfold regTaken
  split_ifs <;> simp

theorem fnGet_regTaken (d : Channel) : fnGet (regTaken f off size v d) = fnGet d := by
  unfold fnGet
  rw [regTaken_host]

theorem ringGet_regTaken (d : Channel) : ringGet (regTaken f off size v d) = ringGet d := by
  unfold ringGet
  rw [regTaken_host]

/-- A register write on the channel it reaches. -/
def regWrite (off size : Nat) (v : U64) (f : Nat) (c : Channel) : Channel := regTaken f off size v (regApply f off size v c)

theorem registerWriteC_eq (p : Path) : registerWriteC p off size v = onFn p (regWrite off size v) := rfl

theorem fnGet_regWrite4 : fnGet (regWrite off 4 v f c) = fnGet (reg32 f off (v.setWidth 32) c) := fnGet_regTaken _
theorem ringGet_regWrite4 : ringGet (regWrite off 4 v f c) = ringGet (reg32 f off (v.setWidth 32) c) := ringGet_regTaken _

theorem fnGet_fnPut (r : FnRegs) : fnGet (fnPut f r c) f = r := by
  rw [fnGet, fnPut, kGet_kPut_same, Option.getD_some]

theorem ringGet_ringPut (x : Ring) : ringGet (ringPut f x c) f = x := by
  rw [ringGet, ringPut, kGet_kPut_same, Option.getD_some]

/-! ### Which field a register is -/

theorem reg32_hwstat : reg32 f 8 w c = fnPut f { fnGet c f with hwstat := (fnGet c f).hwstat &&& ~~~(w &&& 3) } c := by
  unfold reg32
  rw [if_neg (by decide), if_pos rfl]

theorem reg32_even {g : Nat} (hg : g < 4) :
    reg32 f (0x20 + 4 * g) w c = fnPut f { fnGet c f with even := zPut (fnGet c f).even g (w &&& evenMask f g) } c := by
  have hin : inRange (0x20 + 4 * g) 0x20 0x2C = true := by simp only [inRange, decide_eq_true_eq]; omega
  have hidx : (0x20 + 4 * g - 0x20) / 4 = g := by omega
  unfold reg32
  rw [if_neg (by omega), if_neg (by omega), if_pos hin, hidx]

theorem reg32_pend {g : Nat} (hg : g < 4) :
    reg32 f (0x30 + 4 * g) w c = fnPut f { fnGet c f with pend := zPut (fnGet c f).pend g (zGet (fnGet c f).pend g &&& ~~~w) } c := by
  have hout : inRange (0x30 + 4 * g) 0x20 0x2C = false := by simp only [inRange, decide_eq_false_iff_not]; omega
  have hin : inRange (0x30 + 4 * g) 0x30 0x3C = true := by simp only [inRange, decide_eq_true_eq]; omega
  have hidx : (0x30 + 4 * g - 0x30) / 4 = g := by omega
  unfold reg32
  rw [if_neg (by omega), if_neg (by omega), if_neg (by simp [hout]), if_pos hin, hidx]

/-- A register of a ring, not the half of a wide one. -/
theorem reg32_ring (hf : f < 65) (hoff : off ∈ [0x1008, 0x100C, 0x1028, 0x102C, 0x1034, 0x1040, 0x1044, 0x1048]) :
    reg32 f off w c = putRing32 f off w c := by
  unfold reg32
  have hmod : off % 4 = 0 := by fin_cases hoff <;> rfl
  rw [if_neg (by omega), if_neg (by rintro rfl; simp at hoff), if_neg (by fin_cases hoff <;> decide), if_neg (by fin_cases hoff <;> decide),
    if_neg (by fin_cases hoff <;> decide), if_neg (by omega), if_neg (by fin_cases hoff <;> decide), if_neg (by fin_cases hoff <;> decide)]

theorem putRing32_stat : putRing32 f 0x1044 w c = ringPut f { ringGet c f with
    tailErr := (ringGet c f).tailErr && !w.getLsbD 4, txDmaErr := (ringGet c f).txDmaErr && !w.getLsbD 3,
    resumed := (ringGet c f).resumed && !w.getLsbD 0 } c := rfl

theorem putRing32_ctl : putRing32 f 0x1040 w c = putRingCtl f w c := rfl

theorem putRing32_txTail : putRing32 f 0x100C w c =
    ringPut f (if w.toNat < (ringGet c f).txSize then { ringGet c f with txTail := w.toNat } else { ringGet c f with tailErr := true }) c := rfl

theorem putRing32_rxTail : putRing32 f 0x102C w c =
    ringPut f (if w.toNat < (ringGet c f).rxSize then { ringGet c f with rxTail := w.toNat } else { ringGet c f with tailErr := true }) c := rfl

/-! ### The base of a ring's transmit side, written in two halves -/

theorem reg32_txBaseLow (hf : f < 65) : reg32 f 0x1000 w c = fnPut f { fnGet c f with latch := zPut (fnGet c f).latch 0x1000 w } c := by
  unfold reg32
  rw [if_neg (by decide), if_neg (by decide), if_neg (by decide), if_neg (by decide), if_neg (by decide), if_neg (by omega), if_pos (by decide)]

theorem reg32_txBaseHigh (hf : f < 65) : reg32 f 0x1004 w c =
    putRing64 f 0x1000 (BitVec.ofNat 64 (w.toNat * 4294967296 + (zGet (fnGet c f).latch 0x1000).toNat)) c := by
  unfold reg32
  rw [if_neg (by decide), if_neg (by decide), if_neg (by decide), if_neg (by decide), if_neg (by decide), if_neg (by omega), if_neg (by decide),
    if_pos (by decide)]

theorem halves_of (v : U64) : BitVec.ofNat 64 ((v.extractLsb' 32 32).toNat * 4294967296 + (v.setWidth 32 : U32).toNat) = v := by
  refine BitVec.eq_of_toNat_eq ?_
  have hv := v.isLt
  simp only [BitVec.toNat_ofNat, BitVec.extractLsb'_toNat, BitVec.toNat_setWidth, Nat.shiftRight_eq_div_pow]
  omega

theorem ringGet_regWrite_txBase (hf : f < 65) :
    (ringGet (regWrite 0x1000 8 v f c) f).txBase =
      if (ringGet c f).txEn then (ringGet c f).txBase else BitVec.ofNat 64 (v.toNat / 128 * 128) := by
  have hring (d : Channel) (r : FnRegs) : ringGet (fnPut f r d) = ringGet d := rfl
  have happly : regApply f 0x1000 8 v c = putRing64 f 0x1000 v (fnPut f { fnGet c f with latch := zPut (fnGet c f).latch 0x1000 (v.setWidth 32) } c) := by
    have hlatch : zGet (fnGet (fnPut f { fnGet c f with latch := zPut (fnGet c f).latch 0x1000 (v.setWidth 32 : U32) } c) f).latch 0x1000 =
        (v.setWidth 32 : U32) := by rw [fnGet_fnPut, zGet_zPut_same]
    rw [regApply, if_pos rfl, reg32_txBaseLow hf, reg32_txBaseHigh hf, hlatch, halves_of]
  rw [regWrite, ringGet_regTaken, happly, putRing64, if_pos rfl, hring]
  split
  · rw [hring]
  · rw [ringGet_ringPut]

/-! ### RINGCTL -/

theorem ringCtl_txEn (x : Ring) : (ringCtl x).getLsbD 0 = x.txEn := by
  rw [ringCtl, BitVec.getLsbD_ofNat, Nat.testBit_zero]
  have h : (x.itr * 4194304 + b01 x.bcast * 4 + b01 x.rxEn * 2 + b01 x.txEn) % 2 = b01 x.txEn % 2 := by omega
  rw [h]
  cases x.txEn <;> rfl

theorem ringCtl_rxEn (x : Ring) : (ringCtl x).getLsbD 1 = x.rxEn := by
  rw [ringCtl, BitVec.getLsbD_ofNat, Nat.testBit_succ, Nat.testBit_zero]
  have hb : b01 x.txEn < 2 := by cases x.txEn <;> decide
  have h : (x.itr * 4194304 + b01 x.bcast * 4 + b01 x.rxEn * 2 + b01 x.txEn) / 2 % 2 = b01 x.rxEn % 2 := by omega
  rw [h]
  cases x.rxEn <;> rfl

theorem putRingCtl_keeps : (ringGet (putRingCtl f w c) f).txEn = (w.getLsbD 0 && ((ringGet c f).txEn || (f == 0 || kHas c.sleeves (f - 1)))) ∧
    (ringGet (putRingCtl f w c) f).rxEn = (w.getLsbD 1 && ((ringGet c f).rxEn || (f == 0 || kHas c.sleeves (f - 1)))) := by
  unfold putRingCtl
  simp only [ringGet_ringPut, and_self]

/-- The word that sets or clears one bit of RINGCTL. -/
def ctlWord (bit : Nat) (on : Bool) (x : Ring) : U32 := if on then ringCtl x ||| (1#32 <<< bit) else ringCtl x &&& ~~~(1#32 <<< bit)

theorem ctlWord_tx (on : Bool) (x : Ring) : (ctlWord 0 on x).getLsbD 0 = on ∧ (ctlWord 0 on x).getLsbD 1 = x.rxEn := by
  have h := ringCtl_rxEn x
  cases on <;> simpa [ctlWord] using h

theorem ctlWord_rx (on : Bool) (x : Ring) : (ctlWord 1 on x).getLsbD 1 = on ∧ (ctlWord 1 on x).getLsbD 0 = x.txEn := by
  have h := ringCtl_txEn x
  cases on <;> simpa [ctlWord] using h

theorem setWidth_back (w : U32) : (w.setWidth 64).setWidth 32 = w := by simp

end

/-! ### The commands -/

section
variable {s : State} {p : Path} {off : Nat} {v : U64}

/-- A register write of four bytes, by the register's own part in it. -/
theorem does_regWrite {i : Instr} {P : State → Prop} (hi : exec i s = onPath p i (registerWriteC p off 4 v) s) (hp : Sys2Proof.FnReady s p)
    (h : ∀ t m, fnGet (chanOf t (pathChan s p)) = fnGet (reg32 (pathFn p) off (v.setWidth 32) (arrived m (atPath s p))) →
      ringGet (chanOf t (pathChan s p)) = ringGet (reg32 (pathFn p) off (v.setWidth 32) (arrived m (atPath s p))) → P t) : Does i s P := by
  refine does_onFn (k := regWrite off 4 v) hi hp fun t m _ ht => h t m ?_ ?_
  · rw [ht, fnGet_regWrite4]
  · rw [ht, ringGet_regWrite4]

/-- A bit of RINGCTL set or cleared: what it leaves of both enables. -/
theorem does_ringBit {i : Instr} {P : State → Prop} (bit : Nat) (on : Bool) (hi : exec i s = onPath p i (ringBit p bit on) s)
    (hp : Sys2Proof.FnReady s p) (hf : pathFn p < 65)
    (h : ∀ t, let x := ringGet (atPath s p) (pathFn p); let y := ringGet (chanOf t (pathChan s p)) (pathFn p)
      let may := pathFn p == 0 || kHas (atPath s p).sleeves (pathFn p - 1)
      y.txEn = ((ctlWord bit on x).getLsbD 0 && (x.txEn || may)) → y.rxEn = ((ctlWord bit on x).getLsbD 1 && (x.rxEn || may)) → P t) : Does i s P := by
  obtain ⟨hready, hsvc, hup⟩ := hp
  refine does_onPath hi hready fun t m _ ht => ?_
  have hring : ringGet (chanOf t (pathChan s p)) =
      ringGet (putRingCtl (pathFn p) (ctlWord bit on (ringGet (atPath s p) (pathFn p))) (arrived m (atPath s p))) := by
    rw [ht, ringBit, registerWriteC_eq, onFn_up hsvc (c := arrived m (atPath s p)) hup, ringGet_regWrite4, setWidth_back, reg32_ring hf (by decide)]
    rfl
  obtain ⟨htx, hrx⟩ := putRingCtl_keeps (f := pathFn p) (c := arrived m (atPath s p)) (w := ctlWord bit on (ringGet (atPath s p) (pathFn p)))
  refine h t ?_ ?_
  · rw [hring, htx]
    rfl
  · rw [hring, hrx]
    rfl

theorem does_txEnables (hp : Sys2Proof.FnReady s p) (hf : pathFn p < 65) (hmay : pathFn p = 0 ∨ kHas (atPath s p).sleeves (pathFn p - 1) = true) :
    Does (.txEnable p) s (fun t => (ringGet (chanOf t (pathChan s p)) (pathFn p)).txEn = true ∧
      (ringGet (chanOf t (pathChan s p)) (pathFn p)).rxEn = (ringGet (atPath s p) (pathFn p)).rxEn) ∧
    Does (.rxEnable p) s (fun t => (ringGet (chanOf t (pathChan s p)) (pathFn p)).rxEn = true ∧
      (ringGet (chanOf t (pathChan s p)) (pathFn p)).txEn = (ringGet (atPath s p) (pathFn p)).txEn) := by
  have h : (pathFn p == 0 || kHas (atPath s p).sleeves (pathFn p - 1)) = true := by simpa using hmay
  refine ⟨does_ringBit 0 true rfl hp hf fun t htx hrx => ?_, does_ringBit 1 true rfl hp hf fun t htx hrx => ?_⟩
  · simp only [htx, hrx, h, ctlWord_tx, Bool.or_true, Bool.and_true, and_self]
  · simp only [htx, hrx, h, ctlWord_rx, Bool.or_true, Bool.and_true, and_self]

theorem does_txDisables (hp : Sys2Proof.FnReady s p) (hf : pathFn p < 65) :
    Does (.txDisable p) s (fun t => (ringGet (chanOf t (pathChan s p)) (pathFn p)).txEn = false ∧
      (ringGet (chanOf t (pathChan s p)) (pathFn p)).rxEn = (ringGet (atPath s p) (pathFn p)).rxEn) ∧
    Does (.rxDisable p) s (fun t => (ringGet (chanOf t (pathChan s p)) (pathFn p)).rxEn = false ∧
      (ringGet (chanOf t (pathChan s p)) (pathFn p)).txEn = (ringGet (atPath s p) (pathFn p)).txEn) := by
  refine ⟨does_ringBit 0 false rfl hp hf fun t htx hrx => ?_, does_ringBit 1 false rfl hp hf fun t htx hrx => ?_⟩
  · simp only [htx, hrx, ctlWord_tx, Bool.false_and, true_and]
    cases (ringGet (atPath s p) (pathFn p)).rxEn <;> simp
  · simp only [htx, hrx, ctlWord_rx, Bool.false_and, true_and]
    cases (ringGet (atPath s p) (pathFn p)).txEn <;> simp

theorem does_enable_sleeveless {n : Nat} (hp : Sys2Proof.FnReady s (.vf n)) (hf : pathFn (.vf n) < 65)
    (hno : kHas (atPath s (.vf n)).sleeves (n - 1) = false) (htx : (ringGet (atPath s (.vf n)) n).txEn = false)
    (hrx : (ringGet (atPath s (.vf n)) n).rxEn = false) :
    Does (.txEnable (.vf n)) s (fun t => (ringGet (chanOf t (pathChan s (.vf n))) n).txEn = false) ∧
    Does (.rxEnable (.vf n)) s (fun t => (ringGet (chanOf t (pathChan s (.vf n))) n).rxEn = false) := by
  have hcar : bridgeCarries s (.vf n) = true := hp.1.1
  have hn : (n == 0) = false := by
    simp only [bridgeCarries, Bool.and_eq_true, decide_eq_true_eq] at hcar
    simp; omega
  refine ⟨does_ringBit 0 true rfl hp hf fun t ht _ => ?_, does_ringBit 1 true rfl hp hf fun t _ ht => ?_⟩
  · simpa [pathFn, hno, htx, hn] using ht
  · simpa [pathFn, hno, hrx, hn] using ht

theorem tail_width {v : Nat} (hv : v < 4294967296) : ((BitVec.ofNat 64 v).setWidth 32 : U32).toNat = v := by
  simp only [BitVec.toNat_setWidth, BitVec.toNat_ofNat]
  omega

theorem does_tails {v : Nat} (hp : Sys2Proof.FnReady s p) (hf : pathFn p < 65) (hv : v < 4294967296) :
    Does (.txtailWrite p v) s (fun t =>
      let x := ringGet (atPath s p) (pathFn p); let y := ringGet (chanOf t (pathChan s p)) (pathFn p)
      if v < x.txSize then y.txTail = v ∧ y.tailErr = x.tailErr else y.txTail = x.txTail ∧ y.tailErr = true) ∧
    Does (.rxtailWrite p v) s (fun t =>
      let x := ringGet (atPath s p) (pathFn p); let y := ringGet (chanOf t (pathChan s p)) (pathFn p)
      if v < x.rxSize then y.rxTail = v ∧ y.tailErr = x.tailErr else y.rxTail = x.rxTail ∧ y.tailErr = true) := by
  have hsame (m : KMap U64) : ringGet (arrived m (atPath s p)) = ringGet (atPath s p) := rfl
  refine ⟨does_regWrite (off := 0x100C) rfl hp fun t m _ hr => ?_, does_regWrite (off := 0x102C) rfl hp fun t m _ hr => ?_⟩
  · rw [reg32_ring hf (by decide), putRing32_txTail, tail_width hv, hsame] at hr
    dsimp only
    rw [hr, ringGet_ringPut]
    split <;> exact ⟨rfl, rfl⟩
  · rw [reg32_ring hf (by decide), putRing32_rxTail, tail_width hv, hsame] at hr
    dsimp only
    rw [hr, ringGet_ringPut]
    split <;> exact ⟨rfl, rfl⟩

theorem does_ringstat {mask : U32} (hp : Sys2Proof.FnReady s p) (hf : pathFn p < 65) : Does (.ringstatW1c p mask) s (fun t =>
    let x := ringGet (atPath s p) (pathFn p); let y := ringGet (chanOf t (pathChan s p)) (pathFn p)
    y.tailErr = (x.tailErr && !mask.getLsbD 4) ∧ y.txDmaErr = (x.txDmaErr && !mask.getLsbD 3) ∧ y.resumed = (x.resumed && !mask.getLsbD 0)) := by
  have hsame (m : KMap U64) : ringGet (arrived m (atPath s p)) = ringGet (atPath s p) := rfl
  refine does_regWrite (off := 0x1044) rfl hp fun t m _ hr => ?_
  rw [reg32_ring hf (by decide), setWidth_back, putRing32_stat, hsame] at hr
  dsimp only
  rw [hr, ringGet_ringPut]
  exact ⟨rfl, rfl, rfl⟩

/-- The hardware status of a function, with the bits of a mask cleared. -/
theorem does_hwstat {mask : U32} {again : Bool} (hp : Sys2Proof.FnReady s p) : Does (.hwstatW1c p mask again) s (fun t =>
    (fnGet (chanOf t (pathChan s p)) (pathFn p)).hwstat = (fnGet (atPath s p) (pathFn p)).hwstat &&& ~~~((if again then 0 else mask) &&& 3)) := by
  have hsame (m : KMap U64) : fnGet (arrived m (atPath s p)) = fnGet (atPath s p) := rfl
  refine does_regWrite (off := 8) rfl hp fun t m hr _ => ?_
  rw [reg32_hwstat, hsame] at hr
  rw [hr, fnGet_fnPut]
  cases again
  · exact congrArg (fun w : U32 => (fnGet (atPath s p) (pathFn p)).hwstat &&& ~~~(w &&& 3)) (setWidth_back mask)
  · rfl

theorem does_evpend {g : Nat} {mask raised : U32} (hp : Sys2Proof.FnReady s p) (hg : g < 4) : Does (.evpendW1c p g mask raised) s (fun t =>
    zGet (fnGet (chanOf t (pathChan s p)) (pathFn p)).pend g = zGet (fnGet (atPath s p) (pathFn p)).pend g &&& ~~~(mask &&& ~~~raised)) := by
  have hsame (m : KMap U64) : fnGet (arrived m (atPath s p)) = fnGet (atPath s p) := rfl
  have hwrite : evpendW1cC p g mask raised = registerWriteC p (0x30 + 4 * g) 4 ((mask &&& ~~~raised).setWidth 64) := if_neg (by omega)
  refine does_regWrite (off := 0x30 + 4 * g) (v := (mask &&& ~~~raised).setWidth 64) ?_ hp fun t m hr _ => ?_
  · rw [← hwrite]
    rfl
  · rw [reg32_pend hg, setWidth_back, hsame] at hr
    rw [hr, fnGet_fnPut, zGet_zPut_same]

theorem does_registerWrite {size : Nat} {P : State → Prop} (hnot : writesTakeover off size v = false) (hp : Sys2Proof.FnReady s p)
    (h : ∀ t m, chanOf t (pathChan s p) = regWrite off size v (pathFn p) (arrived m (atPath s p)) → P t) : Does (.registerWrite p off size v) s P := by
  have hexec : exec (.registerWrite p off size v) s = onPath p (.registerWrite p off size v) (registerWriteC p off size v) s := by
    show execRegisterWrite p off size v s = _
    unfold execRegisterWrite
    rw [hnot]
    rfl
  exact does_onFn (k := regWrite off size v) hexec hp fun t m _ ht => h t m ht

theorem does_even {g : Nat} (hp : Sys2Proof.FnReady s p) (hg : g < 4) : Does (.registerWrite p (0x20 + 4 * g) 4 v) s (fun t =>
    zGet (fnGet (chanOf t (pathChan s p)) (pathFn p)).even g = v.setWidth 32 &&& evenMask (pathFn p) g) := by
  have hnot : writesTakeover (0x20 + 4 * g) 4 v = false := by
    have h4 : ((0x20 + 4 * g) == 4) = false := by simp; omega
    have h0 : ((0x20 + 4 * g) == 0) = false := by simp
    rw [writesTakeover, h4, h0]
    rfl
  refine does_registerWrite hnot hp fun t m ht => ?_
  rw [ht, fnGet_regWrite4, reg32_even hg, fnGet_fnPut, zGet_zPut_same]

theorem does_txBase (hp : Sys2Proof.FnReady s p) (hf : pathFn p < 65) : Does (.registerWrite p 0x1000 8 v) s (fun t =>
    (ringGet (chanOf t (pathChan s p)) (pathFn p)).txBase = if (ringGet (atPath s p) (pathFn p)).txEn then (ringGet (atPath s p) (pathFn p)).txBase
      else BitVec.ofNat 64 (v.toNat / 128 * 128)) := by
  refine does_registerWrite rfl hp fun t m ht => ?_
  rw [ht, ringGet_regWrite_txBase hf]
  rfl

/-! ### FSTAT and resets -/

theorem takeover_onChan (ch : Chan) (f : Channel → Channel) (u : State) : ∃ t, onChan ch f u = .next t ∧ t.bridge = u.bridge :=
  ⟨_, rfl, by cases ch <;> rfl⟩

theorem abortHeld_takeover (u : State) : (abortHeld u).bridge.takeover = u.bridge.takeover := by
  unfold abortHeld
  split
  · rfl
  · cases leadChan u <;> rfl

/-- The bit of a function taken off FSTAT, at the bridge that both channels share. -/
theorem does_fstat {mask : U32} (hp : Sys2Proof.FnReady s p) (hboth : pathBoth p = true) (hmask : mask.getLsbD 3 = true) :
    Does (.fstatW1c p mask) s (fun t => t.bridge.takeover = (clearTakeover p s).bridge.takeover) := by
  obtain ⟨⟨hcar, hhold⟩, -, -⟩ := hp
  rw [hboth, Bool.true_and] at hhold
  have hcleared : bridgeCarries (clearTakeover p s) p = bridgeCarries s p ∧ bridgeHolds (clearTakeover p s) = bridgeHolds s := by
    unfold clearTakeover
    rw [if_pos hcar]
    cases p <;> exact ⟨rfl, rfl⟩
  have hexec : exec (.fstatW1c p mask) s = onPath p (.fstatW1c p mask) (registerWriteC p 4 4 (mask.setWidth 64)) (clearTakeover p s) := by
    show execFstatW1c p mask s = _
    unfold execFstatW1c
    rw [hmask, hhold]
    rfl
  have hthrough := onPath_carried (i := .fstatW1c p mask) (f := registerWriteC p 4 4 (mask.setWidth 64)) (hcleared.1.trans hcar)
    (by rw [hcleared.2, hhold, Bool.and_false])
  obtain ⟨t, ht, hbridge⟩ := takeover_onChan (pathChan (clearTakeover p s) p) (registerWriteC p 4 4 (mask.setWidth 64)) (abortHeld (clearTakeover p s))
  refine ⟨t, ?_, ?_⟩
  · rw [hexec, hthrough, if_pos hboth, ht]
  · dsimp only
    rw [hbridge, abortHeld_takeover]

theorem clearTakeover_pf0 (hcar : bridgeCarries s .pf0 = true) : (clearTakeover .pf0 s).bridge.takeover = s.bridge.takeover &&& ~~~1#65 := by
  unfold clearTakeover
  rw [if_pos hcar]

theorem clearTakeover_vf {n : Nat} (hcar : bridgeCarries s (.vf n) = true) :
    (clearTakeover (.vf n) s).bridge.takeover = s.bridge.takeover &&& ~~~(1#65 <<< n) := by
  unfold clearTakeover
  rw [if_pos hcar]

theorem getLsbD_cleared (x : BitVec 65) (n k : Nat) : (x &&& ~~~(1#65 <<< n)).getLsbD k = (x.getLsbD k && !decide (k = n)) := by
  rw [BitVec.getLsbD_and, BitVec.getLsbD_not, BitVec.getLsbD_shiftLeft]
  by_cases hk : k < 65
  · by_cases hkn : k = n
    · subst hkn
      simp [hk]
    · rcases Nat.lt_or_ge k n with h | h
      · simp [hk, hkn, h]
      · have : k - n ≠ 0 := by omega
        simp [hk, hkn, this, BitVec.getLsbD_one]
  · rw [BitVec.getLsbD_of_ge _ _ (by omega)]
    rfl

theorem functionLevelReset_pf0 (hp : PathReady s .pf0) (hup : hostUp s.a = true) (hring : kHas s.a.host.rings 0 = true) :
    Does (.functionLevelReset .pf0) s (fun t => t.bridge.vfEnable = false ∧ (ringGet t.a 0).txEn = false ∧ (ringGet t.a 0).rxEn = false) := by
  obtain ⟨hcar, hhold⟩ := hp
  refine ⟨flrNow .pf0 s, ?_, rfl, ?_⟩
  · show execFunctionLevelReset .pf0 s = _
    unfold execFunctionLevelReset
    rw [if_neg (by simp [hcar]), if_neg (by simp [hhold])]
  · have ha : (flrNow .pf0 s).a = disableVfRings (disableRing 0 s.a) := if_pos hup
    have hoff : ringOff (disableVfRings (disableRing 0 s.a)) 0 := ringOff_foldl_disableRing _ (.inl (ringGet_disableRing_same hring))
    rw [ha]
    exact hoff

theorem functionLevelReset_vf {n : Nat} (hp : PathReady s (.vf n)) (hup : hostUp s.a = true) (hring : kHas s.a.host.rings n = true) :
    Does (.functionLevelReset (.vf n)) s (fun t => t.bridge = s.bridge ∧ (fnGet t.a n).even = [] ∧ (ringGet t.a n).txEn = false ∧
      (ringGet t.a n).rxEn = false) := by
  obtain ⟨hcar, hhold⟩ := hp
  refine ⟨flrNow (.vf n) s, ?_, rfl, ?_⟩
  · show execFunctionLevelReset (.vf n) s = _
    unfold execFunctionLevelReset
    rw [if_neg (by simp [hcar]), if_neg (by simp [hhold])]
  · have ha : (flrNow (.vf n) s).a = clearEven n (disableRing n s.a) := if_pos hup
    have hringOf (d : Channel) : ringGet (clearEven n d) = ringGet d := rfl
    obtain ⟨htx, hrx⟩ : ringOff (disableRing n s.a) n := ringGet_disableRing_same hring
    rw [ha, hringOf]
    exact ⟨congrArg FnRegs.even (fnGet_fnPut _), htx, hrx⟩

end

/-- Settles O28: each register's own field, and the function-level reset. -/
theorem bar0Registers : Obligations.bar0_registers := by
  unfold Obligations.bar0_registers
  refine ⟨fun s p mask hp => does_hwstat hp, fun s p mask hp => ?_, fun s mask hp hmask => ?_, fun s n mask hp hmask => ?_,
    fun s p g mask raised hp hg => does_evpend hp hg, fun s p mask hp hf => does_ringstat hp hf, fun s p g v hp hg => does_even hp hg,
    fun s p v hp hf hen => ?_, fun s p v hp hf hen => ?_, fun s p hp hf hmay => does_txEnables hp hf hmay, fun s p hp hf => does_txDisables hp hf,
    fun s n hp hf hno htx hrx => does_enable_sleeveless hp hf hno htx hrx, fun s p v hp hf hv => (does_tails hp hf hv).1,
    fun s p v hp hf hv => (does_tails hp hf hv).2, fun s hp hup hring => functionLevelReset_pf0 hp hup hring,
    fun s n hp hup hring => functionLevelReset_vf hp hup hring⟩
  · refine (does_hwstat (mask := mask) (again := true) hp).imp fun t ht => ⟨ht.1, ht.2.trans ?_⟩
    rw [if_pos rfl, show ~~~((0 : U32) &&& 3) = BitVec.allOnes 32 by decide, BitVec.and_allOnes]
  · exact (does_fstat hp rfl hmask).imp fun t ht => ⟨ht.1, ht.2.trans (clearTakeover_pf0 hp.1.1)⟩
  · refine (does_fstat hp rfl hmask).imp fun t ht => ⟨ht.1, ?_⟩
    dsimp only at ht ⊢
    rw [ht.2, clearTakeover_vf hp.1.1]
    exact ⟨by rw [getLsbD_cleared, decide_eq_true rfl, Bool.not_true, Bool.and_false],
      fun k hk => by rw [getLsbD_cleared, decide_eq_false hk, Bool.not_false, Bool.and_true]⟩
  · refine (does_txBase (v := v) hp hf).imp fun t ht => ⟨ht.1, ht.2.trans ?_⟩
    rw [hen]
    rfl
  · refine (does_txBase (v := v) hp hf).imp fun t ht => ⟨ht.1, ht.2.trans ?_⟩
    rw [hen]
    rfl

end Sys2Proof.Machine
end


section
/-! How a stream takes and misses its samples: the slot that is written, the state after it, and a change of its settings (03 R86 to R114). -/
namespace Sys2Proof.Machine
open Sys2Proof

section
variable {A : List Part} {c d : Channel} {n k : Nat}

@[simp] theorem touches_bypassTakes (n : Nat) (s : SampleSlot) (hA : [.paths, .ctr] ⊆ A) : Touches A c (bypassTakes n s d) ↔ Touches A c d := by
  refine Touches.iff (B := [.paths, .ctr]) (Touches.foldl (fun c p => ?_) _ d) hA c
  split
  · unfold bypassTake
    dsimp only
    split_ifs <;> simp
  · simp

@[simp] theorem touches_closeInputs (rate n : Nat) (hA : digestParts ⊆ A) : Touches A c (closeInputs rate n d) ↔ Touches A c d := by
  refine Touches.iff (B := digestParts) ?_ hA c
  unfold closeInputs
  dsimp only
  split_ifs <;> simp

@[simp] theorem touches_raiseStream (src n : Nat) (hA : [.host, .journal, .ctr, .diag, .emitted] ⊆ A) :
    Touches A c (raiseStream src n d) ↔ Touches A c d :=
  Touches.iff (B := [.host, .journal, .ctr, .diag, .emitted]) (Touches.foldl (fun c s => by simp) _ d) hA c

@[simp] theorem touches_dropDue (i t : Nat) (hA : [.dict] ⊆ A) : Touches A c (dropDue i t d) ↔ Touches A c d :=
  Touches.iff (B := [.dict]) (by simp [dropDue]) hA c

/-! ### A slot is written -/

/-- The ring after the slot `s`, which bears the token number `tok` (03 R102, R104). -/
def ringWith (s : SampleSlot) (tok : Nat) (x : Stream) : List SampleSlot :=
  x.ring.filter (fun y => decide (s.n < y.n + depthOf x)) ++ [{ s with tok := tok }]

theorem mem_ringWith (s : SampleSlot) (tok : Nat) (x : Stream) : { s with tok := tok } ∈ ringWith s tok x :=
  List.mem_append_right _ (List.mem_singleton.2 rfl)

/-- The stream with a slot in its ring. -/
def withSlot (s : SampleSlot) (tok : Nat) (x : Stream) : Stream := { x with ring := ringWith s tok x, next := s.n + 1 }

theorem kGet_putStream (n : Nat) (x : Stream) (c : Channel) : kGet (putStream n x c).ingest.streams n = some x := kGet_kPut_same _ _ _

theorem streams_of_touches (h : Touches A c d) (hA : Part.ingest ∉ A) : d.ingest = c.ingest := h .ingest hA

/-- A slot written is the last of its stream's ring; every other part of the ingest is as it was but for the count of tokens. -/
theorem pushSlot_ingest (n : Nat) (s : SampleSlot) (x : Stream) (c : Channel) : (pushSlot n s x c).ingest =
    { c.ingest with streams := kPut c.ingest.streams n (withSlot s c.ingest.tokens x), tokens := c.ingest.tokens + 1 } := by
  have hclose (rate k : Nat) (e : Channel) : (closeInputs rate k e).ingest = e.ingest :=
    streams_of_touches ((touches_closeInputs rate k (List.Subset.refl _)).2 (touches_refl _ e)) (by decide)
  have hbypass (s : SampleSlot) (e : Channel) : (bypassTakes n s e).ingest = e.ingest :=
    streams_of_touches ((touches_bypassTakes n s (List.Subset.refl _)).2 (touches_refl _ e)) (by decide)
  have hpresent (r t : Nat) (l : List (Nat × BankOp)) (e : Channel) : (present r t l e).ingest = e.ingest :=
    streams_of_touches ((touches_present r t l (List.Subset.refl _)).2 (touches_refl _ e)) (by decide)
  unfold pushSlot
  simp only [hclose, hbypass, putStream, hpresent]
  rfl

theorem pushSlot_stream (n : Nat) (s : SampleSlot) (x : Stream) (c : Channel) :
    kGet (pushSlot n s x c).ingest.streams n = some (withSlot s c.ingest.tokens x) := by
  rw [pushSlot_ingest]
  exact kGet_kPut_same _ _ _

/-! ### A slot closes without a sample -/

theorem drainClosed_one {x : Stream} {b : Bool} {r : List (Nat × Bool)} (hx : kGet c.ingest.streams n = some x) (hclosed : x.closed = (k, b) :: r) :
    drainClosed n 1 c = if slotRoom c n k x then pushSlot n (missingSlot x k b) { x with closed := r } c else c := by
  unfold drainClosed
  simp only [hx, hclosed]
  rfl

/-- The stream after one of its waiting slots is written, where there is room, or still waits. -/
theorem drainClosed_stream {x : Stream} {b : Bool} (hx : kGet c.ingest.streams n = some x) (hclosed : x.closed = [(x.next, b)]) :
    ∃ y, kGet (drainClosed n 1 c).ingest.streams n = some y ∧ y.st = x.st ∧ y.missRun = x.missRun ∧ y.retRun = x.retRun ∧
      y.breakPending = x.breakPending ∧ openSlot y = x.next + 1 := by
  rw [drainClosed_one hx hclosed]
  split
  · exact ⟨_, pushSlot_stream .., rfl, rfl, rfl, rfl, rfl⟩
  · exact ⟨x, hx, rfl, rfl, rfl, rfl, by rw [openSlot, hclosed]; rfl⟩

/-- The stream as a slot closes MISSING (03 R107). -/
def missed (x : Stream) : Stream :=
  { x with closed := x.closed ++ [(openSlot x, x.breakPending)], breakPending := false }

theorem closeMissing_returning {x : Stream} (hx : kGet c.ingest.streams n = some x) (hst : x.st = .returning) :
    kGet (closeMissing n c).ingest.streams n = some { missed x with st := .lost, retRun := 0 } := by
  unfold closeMissing
  simp only [hx, hst]
  exact kGet_putStream ..

theorem closeMissing_valid {x : Stream} (hx : kGet c.ingest.streams n = some x) (hst : x.st = .valid) :
    kGet (closeMissing n c).ingest.streams n = some (if lossCount x ≤ x.missRun + 1 then
      { missed x with st := .lost, missRun := 0, retRun := 0, breakPending := true } else { missed x with st := .valid, missRun := x.missRun + 1 }) := by
  have hraise (e : Channel) : (raiseStream 32 n (bump (stIndex n) 0x0F e)).ingest = e.ingest :=
    streams_of_touches (A := [.host, .journal, .ctr, .diag, .emitted]) (by simp) (by decide)
  unfold closeMissing
  simp only [hx, hst]
  split
  · rw [hraise]
    exact kGet_putStream ..
  · exact kGet_putStream ..

theorem slotCloseMissingC_eq {x : Stream} (hx : kGet c.ingest.streams n = some x) (hst : x.st ≠ .inactive) :
    ∃ e, e.ingest = c.ingest ∧ slotCloseMissingC n c = readyUpdate (drainClosed n 1 (closeMissing n e)) := by
  refine ⟨advanceTo (instantOf x.cfg.rate (openSlot x) + allowNs x) c, ?_, ?_⟩
  · exact streams_of_touches (A := [.time]) (by simp) (by decide)
  · unfold slotCloseMissingC
    simp only [hx]
    rw [if_neg hst]

/-- A slot that closes MISSING in a stream that has none waiting: the stream's state after it, whether it was written or waits. -/
theorem slotClosed {x y : Stream} {s : State} {ch : Chan} {P : Stream → Prop} (hx : kGet (chanOf s ch).ingest.streams n = some x) (hst : x.st ≠ .inactive)
    (hnone : x.closed = []) (hy : ∀ e : Channel, e.ingest = (chanOf s ch).ingest → kGet (closeMissing n e).ingest.streams n = some y)
    (hclosed : y.closed = (missed x).closed) (hnext : y.next = x.next)
    (hP : ∀ z : Stream, z.st = y.st → z.missRun = y.missRun → z.retRun = y.retRun → z.breakPending = y.breakPending → openSlot z = openSlot x + 1 → P z) :
    Does (.slotCloseMissing ch n) s (fun t => ∃ y, kGet (chanOf t ch).ingest.streams n = some y ∧ P y) := by
  refine does_onChan (f := slotCloseMissingC n) rfl fun t ht _ => ?_
  obtain ⟨e, he, heq⟩ := slotCloseMissingC_eq (c := commitsEnded (chanOf s ch)) hx hst
  have hopen : openSlot x = x.next := by rw [openSlot, hnone]; rfl
  obtain ⟨z, hz, hzst, hmiss, hret, hbreak, hzopen⟩ := drainClosed_stream (b := x.breakPending) (hy e he)
    (by rw [hclosed, missed, hnone, hopen, hnext]; rfl)
  rw [ht, heq, readyUpdate_ingest]
  exact ⟨z, hz, hP z hzst hmiss hret hbreak (by rw [hzopen, hnext, hopen])⟩

/-! ### A sample is accepted -/

/-- Is the stream in a state that a sample ends at once (03 R107)? -/
def entering (x : Stream) : Bool := x.st == .waiting || x.st == .lost

/-- The samples in a row that a returning stream has taken, this one included. -/
def returned (x : Stream) : Nat := if entering x then 1 else x.retRun + 1

/-- Does the sample end the return of a stream (03 R107)? -/
def returns (x : Stream) : Bool := !entering x && x.st != .valid && decide (returnCount x ≤ returned x)

/-- The stream as it takes a sample (03 R107). -/
def streamSampled (x : Stream) : Stream :=
  { x with
    breakPending := false, missRun := 0, retRun := if x.st != .valid then returned x else x.retRun
    fromLost := if entering x then x.st == .lost else x.fromLost
    st := if entering x then .returning else if returns x then .valid else x.st }

/-- The slot of an accepted sample (03 R103). -/
def sampleSlot (x : Stream) (k : Nat) (a : Asdu) (sim : Bool) (delay : Int) : SampleSlot :=
  { n := k, written := true, missing := false, histBreak := x.breakPending, returning := x.st != .valid, delay := delay
    instant := BitVec.ofNat 64 (instantOf x.cfg.rate k)
    vals := x.cfg.chans.map (fun h => let p := nth a.pairs h.1 (0, qInvalid)
      (p.1, slotQuality p.2 (!syncMet x.cfg.syncReq a.smpSynch) sim (x.st != .valid))), tok := 0 }

/-- What a sample is counted in, and its delay (03 R103, R109). -/
def sampleCounted (n : Nat) (a : Asdu) (delay : Int) (unmet : Bool) (c : Channel) : Channel :=
  let c1 := bump (stIndex n) 3 (setRo (stIndex n) 2 a.smpCnt (setRo (stIndex n) 0x0D (BitVec.ofInt 32 delay).toNat c))
  let high := (BitVec.ofNat 32 (zGet c.dict.ro (od (stIndex n) 0x0E)).toNat).toInt
  let c2 := if high < delay then setRo (stIndex n) 0x0E (BitVec.ofInt 32 delay).toNat c1 else c1
  if unmet then bump (stIndex n) 0x0C c2 else c2

theorem sampleCounted_ingest (a : Asdu) (delay : Int) (unmet : Bool) : (sampleCounted n a delay unmet c).ingest = c.ingest := by
  refine streams_of_touches (A := [.dict, .ctr]) ?_ (by decide)
  unfold sampleCounted
  dsimp only
  split_ifs <;> simp

theorem acceptSample_eq {x : Stream} (a : Asdu) (sim : Bool) (delay : Int) (hx : kGet c.ingest.streams n = some x) :
    acceptSample n k a sim delay c = if returns x && (streamSampled x).fromLost then
        raiseStream 33 n (pushSlot n (sampleSlot x k a sim delay) (streamSampled x) (sampleCounted n a delay (!syncMet x.cfg.syncReq a.smpSynch) c))
      else pushSlot n (sampleSlot x k a sim delay) (streamSampled x) (sampleCounted n a delay (!syncMet x.cfg.syncReq a.smpSynch) c) := by
  unfold acceptSample
  simp only [hx]
  rfl

theorem acceptSample_stream {x : Stream} (a : Asdu) (sim : Bool) (delay : Int) (hx : kGet c.ingest.streams n = some x) :
    kGet (acceptSample n k a sim delay c).ingest.streams n = some (withSlot (sampleSlot x k a sim delay) c.ingest.tokens (streamSampled x)) ∧
      (acceptSample n k a sim delay c).ingest.f96 = c.ingest.f96 := by
  have hraise (b : Bool) (e : Channel) : (if b then raiseStream 33 n e else e).ingest = e.ingest := by
    split
    · exact streams_of_touches (A := [.host, .journal, .ctr, .diag, .emitted]) (by simp) (by decide)
    · rfl
  rw [acceptSample_eq a sim delay hx, hraise, pushSlot_stream, pushSlot_ingest, sampleCounted_ingest]
  exact ⟨rfl, rfl⟩

/-! ### A frame is served -/

/-- `serveAsdus` with the fate of a sample as a parameter: a fate is told by large numbers, which the kernel must not evaluate. -/
def serveWith (fate : Channel → Nat → Stream → Nat → Asdu → AsduFate) (s : Nat) (sim : Bool) (arrival : Nat) :
    List Asdu → Nat → Bool → Channel → Nat × Bool × Bool × Channel
  | [], k, w, c => (k, w, false, c)
  | a :: r, k, w, c =>
    match kGet c.ingest.streams s with
    | none => (k, w, false, c)
    | some x =>
      match fate c s x arrival a with
      | .late => serveWith fate s sim arrival r (k + 1) w (bump (stIndex s) 5 (bump 0x2300 0x0B c))
      | .dup => serveWith fate s sim arrival r (k + 1) w (bump (stIndex s) 6 c)
      | .hold => (k, w, true, c)
      | .write n d => serveWith fate s sim arrival r (k + 1) true (acceptSample s n a sim d (closeUpTo s n (n - openSlot x + 1) c))

theorem serveAsdus_eq (s : Nat) (sim : Bool) (arr : Nat) : serveAsdus s sim arr = serveWith asduFate s sim arr := by
  delta serveAsdus serveAsdus._f serveWith serveWith._f
  generalize asduFate = fate
  revert fate
  refine id ?_
  intro fate
  rfl
theorem serveWith_write {fate : Channel → Nat → Stream → Nat → Asdu → AsduFate} {s n k arr : Nat} {sim w : Bool} {a : Asdu} {d : Int} {x : Stream} {c : Channel}
    (hx : kGet c.ingest.streams s = some x) (hfate : fate c s x arr a = .write n d) :
    serveWith fate s sim arr [a] k w c = (k + 1, true, false, acceptSample s n a sim d (closeUpTo s n (n - openSlot x + 1) c)) := by
  unfold serveWith
  simp only [hx, hfate]
  rfl

/-- A frame of one sample that goes to the open slot (03 R98, R103). -/
theorem serveFrame_sample {f : RingFrame} {x : Stream} {a : Asdu} {d : Int} {app : Nat}
    (hx : kGet c.ingest.streams f.stream = some x) (hst : x.st ≠ .inactive) (hbody : f.frame.body = .sv app false true [a]) (hpart : f.part = 0)
    (hheld : f.held = false) (hwritten : f.anyWritten = false) (hcause : frameCause c x false true f.frame.src [a] = none)
    (hfate : asduFate c f.stream x f.arrival a = .write k d) (hk : k = openSlot x) :
    serveFrame f c = (none, bump 0x2300 7 (acceptSample f.stream k a false d c)) := by
  have hup : closeUpTo f.stream k (k - openSlot x + 1) c = c := by
    unfold closeUpTo
    simp only [hx]
    rw [if_neg (by omega)]
  have hserve : serveAsdus f.stream false f.arrival [a] 0 false c = (1, true, false, acceptSample f.stream k a false d c) := by
    rw [serveAsdus_eq, serveWith_write hx hfate, hup]
  unfold serveFrame
  simp only [hbody, hx, hpart, hheld, hwritten]
  simp only [hcause, List.drop_zero]
  rw [if_pos (by decide)]
  simp only []
  rw [if_neg hst]
  simp only [Bool.false_and, Bool.false_eq_true, if_false, hserve, if_true]

theorem serveFrame_unlocked {f : RingFrame} {x : Stream} {a : Asdu} {app : Nat} {sim : Bool}
    (hx : kGet c.ingest.streams f.stream = some x) (hbody : f.frame.body = .sv app sim true [a]) (hpart : f.part = 0) (hheld : f.held = false)
    (hlock : c.time.firstLocked = false) :
    serveFrame f c = (none, bump (stIndex f.stream) 0x10 (bump 0x2300 0x0A c)) := by
  have hcause : frameCause c x sim true f.frame.src [a] = some 0x10 := by
    unfold frameCause
    rw [hlock]
    rfl
  unfold serveFrame
  simp only [hbody, hx, hpart, hheld]
  simp only [hcause]
  rfl

/-- The first class's head, served and gone. -/
theorem ingestFrameServiceC_f96 {f : RingFrame} {rest : List RingFrame} {e : Channel} (hf : c.ingest.f96 = f :: rest)
    (hserve : serveFrame f c = (none, e)) : ingestFrameServiceC c = readyUpdate { e with ingest := { e.ingest with f96 := rest } } := by
  unfold ingestFrameServiceC
  simp only [hf, hserve]

/-! ### A change of the settings -/

/-- The stream as its waiting settings take effect (03 R114). -/
def resettled (a l r : Nat) (x : Stream) : Stream :=
  if a = x.allowUs ∧ l = x.loss ∧ r = x.ret then x else { streamBreak x with allowUs := a, loss := l, ret := r }

theorem streamRepend_stream {x : Stream} (hx : kGet c.ingest.streams n = some x) :
    ∃ y, kGet (streamRepend n c).ingest.streams n = some y ∧ y.st = x.st ∧ y.breakPending = x.breakPending ∧ y.allowUs = x.allowUs ∧
      y.loss = x.loss ∧ y.ret = x.ret := by
  unfold streamRepend
  simp only [hx]
  split
  · exact ⟨_, kGet_putStream .., rfl, rfl, rfl, rfl, rfl⟩
  · exact ⟨_, kGet_putStream .., rfl, rfl, rfl, rfl, rfl⟩

theorem subscriptionChangeApplyC_stream {x : Stream} {a l r : Nat} (hx : kGet c.ingest.streams n = some x) (hp : x.pend = some (a, l, r)) :
    ∃ y, kGet (subscriptionChangeApplyC n c).ingest.streams n = some y ∧ y.st = (resettled a l r x).st ∧
      y.breakPending = (resettled a l r x).breakPending ∧ y.allowUs = (resettled a l r x).allowUs ∧ y.loss = (resettled a l r x).loss ∧
      y.ret = (resettled a l r x).ret := by
  have hdue (i t : Nat) (e : Channel) : (dropDue i t e).ingest = e.ingest := rfl
  have hput (e : Channel) : kGet (dropDue (stView n) x.pendAt (putStream n (resettled a l r x) e)).ingest.streams n = some (resettled a l r x) := by
    rw [hdue, kGet_putStream]
  have heq : subscriptionChangeApplyC n c =
      readyUpdate (streamRepend n (dropDue (stView n) x.pendAt (putStream n (resettled a l r x) (advanceTo x.pendAt c)))) := by
    unfold subscriptionChangeApplyC
    simp only [hx, hp]
    rfl
  rw [heq, readyUpdate_ingest]
  exact streamRepend_stream (hput _)

end

/-! ### The commands -/

section
variable {s : State} {ch : Chan} {n : Nat}

theorem readyCounters_below : ∀ k ∈ readyCounters, k < 0x800000 := by decide

theorem stIndex_not_ready (m sub : Nat) : od (stIndex m) sub ∉ readyCounters := by
  intro h
  have := readyCounters_below _ h
  simp only [od, stIndex] at this
  omega

/-- The fate of a sample depends on the channel through the room for its slot alone; what maps its count to a number is set aside as a
variable, for it must not be evaluated. -/
theorem asduFate_congr {c d : Channel} (h : slotRoom d = slotRoom c) : asduFate d = asduFate c := by
  delta asduFate
  generalize mapSmp = map
  generalize instantOf = instant
  revert map instant
  refine id ?_
  intro map instant
  rw [h]

theorem slotRoom_commitsEnded (c : Channel) : slotRoom (commitsEnded c) = slotRoom c := by
  have hheld : slotHeld (commitsEnded c) = slotHeld c := by
    funext n k x
    unfold slotHeld
    rfl
  funext n k x
  rw [slotRoom, slotRoom, hheld]

theorem ingest_served {f : RingFrame} {rest : List RingFrame} {x : Stream} {a : Asdu} {k app : Nat} {d : Int}
    (hf : (chanOf s ch).ingest.f96 = f :: rest) (hx : kGet (chanOf s ch).ingest.streams f.stream = some x) (hst : x.st ≠ .inactive)
    (hbody : f.frame.body = .sv app false true [a]) (hpart : f.part = 0) (hheld : f.held = false) (hwritten : f.anyWritten = false)
    (hcause : frameCause (chanOf s ch) x false true f.frame.src [a] = none) (hfate : asduFate (chanOf s ch) f.stream x f.arrival a = .write k d)
    (hk : k = openSlot x) : Does (.ingestFrameService ⟨ch, []⟩) s (fun t => (chanOf t ch).ingest.f96 = rest ∧
      kGet (chanOf t ch).ingest.streams f.stream =
        some (withSlot (sampleSlot x k a false d) (chanOf s ch).ingest.tokens (streamSampled x))) := by
  have hserve := serveFrame_sample (c := commitsEnded (chanOf s ch)) hx hst hbody hpart hheld hwritten hcause
    (by rw [asduFate_congr (slotRoom_commitsEnded _)]; exact hfate) hk
  obtain ⟨hstream, -⟩ := acceptSample_stream (n := f.stream) (k := k) a false d (c := commitsEnded (chanOf s ch)) hx
  refine does_onChan (f := fun c => memErrs [] (ingestFrameServiceC c)) rfl fun t ht _ => ?_
  have ht' : chanOf t ch = ingestFrameServiceC (commitsEnded (chanOf s ch)) := ht
  rw [ht', ingestFrameServiceC_f96 (c := commitsEnded (chanOf s ch)) hf hserve, readyUpdate_ingest]
  exact ⟨rfl, hstream⟩

theorem ingest_unlocked {f : RingFrame} {rest : List RingFrame} {x : Stream} {a : Asdu} {app : Nat} {sim : Bool}
    (hf : (chanOf s ch).ingest.f96 = f :: rest) (hx : kGet (chanOf s ch).ingest.streams f.stream = some x)
    (hbody : f.frame.body = .sv app sim true [a]) (hpart : f.part = 0) (hheld : f.held = false) (hlock : (chanOf s ch).time.firstLocked = false) :
    Does (.ingestFrameService ⟨ch, []⟩) s (fun t => (chanOf t ch).ingest.f96 = rest ∧ kGet (chanOf t ch).ingest.streams f.stream = some x ∧
      zGet (chanOf t ch).ctr (od (stIndex f.stream) 0x10) = zGet (chanOf s ch).ctr (od (stIndex f.stream) 0x10) + 1) := by
  have hserve := serveFrame_unlocked (c := commitsEnded (chanOf s ch)) hx hbody hpart hheld hlock
  refine does_onChan (f := fun c => memErrs [] (ingestFrameServiceC c)) rfl fun t ht _ => ?_
  have ht' : chanOf t ch = ingestFrameServiceC (commitsEnded (chanOf s ch)) := ht
  have hready (e : Channel) : zGet (readyUpdate e).ctr (od (stIndex f.stream) 0x10) = zGet e.ctr (od (stIndex f.stream) 0x10) :=
    (counts_readyUpdate (K := readyCounters) (List.Subset.refl _)).2 (counts_refl _ _) _ (stIndex_not_ready _ _)
  have hother : od (stIndex f.stream) 0x10 ≠ od 0x2300 0x0A := by simp only [od, stIndex]; omega
  rw [ht', ingestFrameServiceC_f96 (c := commitsEnded (chanOf s ch)) hf hserve, readyUpdate_ingest, hready]
  refine ⟨rfl, hx, ?_⟩
  exact (zGet_bump_same _ _ _).trans (congrArg (· + 1) (zGet_bump_other _ _ _ hother))

end

/-- Settles O34: samples served, slots that close without one, a held slot written, and a change of a stream's settings. -/
theorem sampledValueIngest : Obligations.sampled_value_ingest := by
  unfold Obligations.sampled_value_ingest
  refine ⟨fun s ch f rest x a k d app hf hx hst hbody hpart hheld hwritten hcause hfate hk => ?_,
    fun s ch f rest x a app sim hf hx hbody hpart hheld hlock => ingest_unlocked hf hx hbody hpart hheld hlock,
    fun s ch n x hx hst hnone hrun => ?_, fun s ch n x hx hst hnone hrun => ?_, fun s ch n x hx hst hnone => ?_,
    fun s ch n x k b hx hclosed hroom => ?_, fun s ch n x a l r hx hp hdiff => ?_, fun s ch n x a l r hx hp ha hl hr => ?_⟩
  · obtain ⟨t, ht, hrest, hstream⟩ := ingest_served hf hx hst hbody hpart hheld hwritten hcause hfate hk
    refine ⟨t, ht, hrest, _, hstream, rfl, rfl, rfl, fun h => ?_, fun h => ?_, fun h => ?_, _, mem_ringWith _ _ _, rfl, rfl, rfl, rfl⟩
    · simp [withSlot, streamSampled, entering, returns, h]
    · simp [withSlot, streamSampled, entering, returns, returned, h]
    · rcases h with h | h <;> simp [withSlot, streamSampled, entering, returned, h]
  · have hy (e : Channel) (he : e.ingest = (chanOf s ch).ingest) : kGet (closeMissing n e).ingest.streams n =
        some { missed x with st := .valid, missRun := x.missRun + 1 } := by
      rw [closeMissing_valid (by rw [he]; exact hx) hst, if_neg (by omega)]
    exact slotClosed hx (by simp [hst]) hnone hy rfl rfl fun z hzst hmiss _ _ hopen => ⟨hzst, hmiss, hopen⟩
  · have hy (e : Channel) (he : e.ingest = (chanOf s ch).ingest) : kGet (closeMissing n e).ingest.streams n =
        some { missed x with st := .lost, missRun := 0, retRun := 0, breakPending := true } := by
      rw [closeMissing_valid (by rw [he]; exact hx) hst, if_pos hrun]
    exact slotClosed hx (by simp [hst]) hnone hy rfl rfl fun z hzst hmiss _ hbreak hopen => ⟨hzst, hmiss, hbreak, hopen⟩
  · have hy (e : Channel) (he : e.ingest = (chanOf s ch).ingest) : kGet (closeMissing n e).ingest.streams n =
        some { missed x with st := .lost, retRun := 0 } := closeMissing_returning (by rw [he]; exact hx) hst
    exact slotClosed hx (by simp [hst]) hnone hy rfl rfl fun z hzst _ hret _ _ => ⟨hzst, hret⟩
  · refine does_onChan (f := heldSlotWriteC n) rfl fun t ht _ => ?_
    have hwrites : heldSlotWriteC n (commitsEnded (chanOf s ch)) = drainClosed n 1 (commitsEnded (chanOf s ch)) := by
      have hx' : kGet (commitsEnded (chanOf s ch)).ingest.streams n = some x := hx
      unfold heldSlotWriteC
      simp only [hx', hclosed]
      rfl
    have hroom' : slotRoom (commitsEnded (chanOf s ch)) n k x = true := hroom
    rw [ht, hwrites, drainClosed_one (c := commitsEnded (chanOf s ch)) hx hclosed, if_pos hroom']
    exact ⟨_, pushSlot_stream .., rfl, rfl, _, mem_ringWith _ _ _⟩
  · refine does_onChan (f := subscriptionChangeApplyC n) rfl fun t ht _ => ?_
    obtain ⟨y, hy, hst, hbreak, ha, hl, hr⟩ := subscriptionChangeApplyC_stream (c := commitsEnded (chanOf s ch)) hx hp
    rw [resettled, if_neg (by omega)] at hst hbreak ha hl hr
    rw [ht]
    exact ⟨y, hy, ha, hl, hr, hst, hbreak⟩
  · refine does_onChan (f := subscriptionChangeApplyC n) rfl fun t ht _ => ?_
    obtain ⟨y, hy, hst, hbreak, ha', hl', hr'⟩ := subscriptionChangeApplyC_stream (c := commitsEnded (chanOf s ch)) hx hp
    rw [resettled, if_pos ⟨ha, hl, hr⟩] at hst hbreak ha' hl' hr'
    rw [ht]
    exact ⟨y, hy, hst, hbreak, ha'.trans ha.symm, hl'.trans hl.symm, hr'.trans hr.symm⟩

end Sys2Proof.Machine
end


section
/-! Frames at the front ports: what reception, capture and classification leave of the switch (14 R422 to R430, R442). -/
namespace Sys2Proof.Machine
open Sys2Proof

/-- The switch's configuration and its ports. -/
def swKept (c : Channel) : SwitchCfg × KMap PortSt := (c.sw.cfg, c.sw.ports)

/-- What a capture counts. -/
def captureCounters : List Nat := raiseCounters 67 ++ [od 0x2900 0x0E, od 0x9210 3, od 0x2900 0x0D]

section
variable {A : List Part} {K : List Nat} {c d : Channel} {m : KMap U64}

theorem swKept_of_touches (h : Touches A c d) (hA : Part.sw ∉ A) : swKept d = swKept c := by
  rw [swKept, swKept, h .sw hA]

theorem swKept_raiseLimited (src sl obj v key : Nat) : swKept (raiseLimited src sl obj v key c) = swKept c :=
  swKept_of_touches ((touches_raiseLimited src sl obj v key (List.Subset.refl _)).2 (touches_refl _ c)) (by decide)

theorem swKept_bump (i sub : Nat) : swKept (bump i sub c) = swKept c := rfl

theorem swKept_capture (dir disp i o q : Nat) (x : QFrame) : swKept (capture dir disp i o q x c) = swKept c := by
  unfold capture
  simp only []
  split_ifs <;> simp [swKept]

@[simp] theorem counts_capture (dir disp i o q : Nat) (x : QFrame) (hK : captureCounters ⊆ K) :
    Counts K m (capture dir disp i o q x d).ctr ↔ Counts K m d.ctr := by
  refine Counts.iff (L := captureCounters) ?_ hK m
  unfold capture
  simp only []
  split_ifs <;> simp (disch := decide) [counts_refl]

theorem swKept_meterMark (n : Nat) (aware : Bool) (f : Frame) : swKept (meterMark n aware f c).2 = swKept c := by
  unfold meterMark
  split <;> rfl

theorem touches_meterMark (n : Nat) (aware : Bool) (f : Frame) : Touches [.sw] c (meterMark n aware f c).2 := by
  unfold meterMark
  split <;> simp

/-- What classification writes: the meters, and the count of a frame demoted (14 R423). -/
abbrev classParts : List Part := [.sw, .host, .journal, .ctr, .diag, .emitted]

/-- The counters of a frame demoted. -/
def classCounters : List Nat := raiseCounters 66 ++ [od 0x2900 6]

/-- What a frame's rule has marked: the colour, and the meters as they then stand (14 R424). -/
def metered (r : Option RuleRec) (f : Frame) (c : Channel) : Nat × Channel :=
  match r with
  | some r => if r.meter = 0xFFFF then (deiColour f, c) else meterMark r.meter r.aware f c
  | none => (deiColour f, c)

theorem metered_keeps (r : Option RuleRec) (f : Frame) : swKept (metered r f c).2 = swKept c ∧ Touches [.sw] c (metered r f c).2 := by
  unfold metered
  split
  · split
    · exact ⟨rfl, touches_refl _ _⟩
    · exact ⟨swKept_meterMark _ _ _, touches_meterMark _ _ _⟩
  · exact ⟨rfl, touches_refl _ _⟩

theorem ingressClass_channel (p : Nat) (e : Bool) (f : Frame) : (ingressClass p e f c).2 = (metered (classify c p e f).2 f c).2 ∨
    (ingressClass p e f c).2 = raiseLimited 66 0xFF p 0 p (bump 0x2900 6 (metered (classify c p e f).2 f c).2) := by
  have heq : ingressClass p e f c = if 6 ≤ (classify c p e f).1 ∧ (metered (classify c p e f).2 f c).1 = 2 then
      ((5, 2, (isEvent f || (match (classify c p e f).2 with | some r => r.cut | none => false))),
        raiseLimited 66 0xFF p 0 p (bump 0x2900 6 (metered (classify c p e f).2 f c).2))
      else (((classify c p e f).1, (metered (classify c p e f).2 f c).1, (isEvent f || (match (classify c p e f).2 with | some r => r.cut | none => false))),
        (metered (classify c p e f).2 f c).2) := rfl
  rw [heq]
  split
  · exact .inr rfl
  · exact .inl rfl

theorem ingressClass_keeps (p : Nat) (e : Bool) (f : Frame) :
    swKept (ingressClass p e f c).2 = swKept c ∧ Touches classParts c (ingressClass p e f c).2 ∧ Counts classCounters c.ctr (ingressClass p e f c).2.ctr := by
  obtain ⟨hkept, htouch⟩ := metered_keeps (c := c) (classify c p e f).2 f
  have hctr : (metered (classify c p e f).2 f c).2.ctr = c.ctr := htouch .ctr (by decide)
  have hmono : Touches classParts c (metered (classify c p e f).2 f c).2 := htouch.mono (by decide)
  rcases ingressClass_channel (c := c) p e f with h | h <;> rw [h]
  · exact ⟨hkept, hmono, by rw [hctr]; exact counts_refl _ _⟩
  · refine ⟨?_, ?_, ?_⟩
    · rw [swKept_raiseLimited, swKept_bump, hkept]
    · simpa using hmono
    · rw [counts_raiseLimited _ _ _ _ _ (by decide), counts_bump _ _ (by decide), hctr]
      exact counts_refl _ _

theorem vidOf_congr (h : d.sw.cfg = c.sw.cfg) (p : Nat) (f : Frame) : vidOf d p f = vidOf c p f := by
  unfold vidOf portCfg
  rw [h]

/-- What a frame of a VLAN that its port is not a member of comes to (14 R427; log entry 20). -/
theorem fabricIn_barred {p ts : Nat} {f : Frame}
    (h : (match kGet c.sw.cfg.vlans (vidOf c p f) with | some v => v.1 | none => 0).testBit (p - 1) = false) :
    (fabricIn p ts f c).sw.ports = c.sw.ports ∧ (fabricIn p ts f c).ingest = c.ingest ∧
      zGet (fabricIn p ts f c).ctr (od 0x2900 8) = zGet c.ctr (od 0x2900 8) + 1 := by
  obtain ⟨hkept, htouch, hcount⟩ := ingressClass_keeps (c := c) p false f
  obtain ⟨d, hd⟩ : ∃ d, capture 0 0 p 0 (ingressClass p false f c).1.1
      ⟨f, p, (ingressClass p false f c).1.2.1, ts⟩ (ingressClass p false f c).2 = d := ⟨_, rfl⟩
  have hdkept : swKept d = swKept c := by rw [← hd, swKept_capture, hkept]
  have hdtouch : Touches classParts c d := by rw [← hd]; simpa using htouch
  have hdcount : Counts (classCounters ++ captureCounters) c.ctr d.ctr := by
    rw [← hd, counts_capture _ _ _ _ _ _ (by decide)]
    exact fun k hk => hcount k (fun hmem => hk (List.mem_append_left _ hmem))
  have hcfg : d.sw.cfg = c.sw.cfg := congrArg Prod.fst hdkept
  have hin : fabricIn p ts f c = capture 2 8 p 0 (ingressClass p false f c).1.1
      ⟨f, p, (ingressClass p false f c).1.2.1, ts⟩ (bump 0x2900 8 d) := by
    unfold fabricIn
    simp only [hd]
    refine if_pos ?_
    rw [hcfg, vidOf_congr hcfg]
    exact congrArg Bool.not h
  rw [hin]
  refine ⟨?_, ?_, ?_⟩
  · exact congrArg Prod.snd ((swKept_capture _ _ _ _ _ _).trans ((swKept_bump _ _).trans hdkept))
  · have hlast (x : QFrame) (q : Nat) : Touches classParts d (capture 2 8 p 0 q x (bump 0x2900 8 d)) := by simp
    rw [hlast _ _ .ingest (by decide), hdtouch .ingest (by decide)]
  · have hlast := (counts_capture (K := captureCounters) (m := (bump 0x2900 8 d).ctr) (d := bump 0x2900 8 d) 2 8 p 0
      (ingressClass p false f c).1.1 ⟨f, p, (ingressClass p false f c).1.2.1, ts⟩ (List.Subset.refl _)).2 (counts_refl _ _)
    rw [hlast _ (by decide), zGet_bump_same, hdcount _ (by decide)]

/-! ### Damaged frames -/

theorem touches_stomp (o : Nat) (x : QFrame) : Touches classParts c (stomp o x c) := by simp [stomp]

theorem swKept_stomp (o : Nat) (x : QFrame) : swKept (stomp o x c) = swKept c := by
  have hemit (e : Emission) (b : Channel) : swKept (emit e b) = swKept b := rfl
  rw [stomp, swKept_raiseLimited, swKept_capture, hemit, swKept_bump, swKept_bump, swKept_bump]

/-- A frame cut through and stomped counts nothing received bad. -/
theorem zGet_stomp_bad (o : Nat) (x : QFrame) {p : Nat} (h1 : 1 ≤ p) (h12 : p ≤ 12) :
    zGet (stomp o x c).ctr (od (0x9200 + p) 4) = zGet c.ctr (od (0x9200 + p) 4) := by
  have hfix (k : Nat) (hk : k ∈ raiseCounters 65 ++ captureCounters ++ [od 0x2900 5]) : od (0x9200 + p) 4 ≠ k := by
    have hall : ∀ k ∈ raiseCounters 65 ++ captureCounters ++ [od 0x2900 5], k < od 0x9201 4 ∨ od 0x920C 4 < k := by decide
    have := hall k hk
    simp only [od] at this ⊢
    omega
  have hraise : od (0x9200 + p) 4 ∉ raiseCounters 65 := fun h => hfix _ (by simp [h]) rfl
  have hcap : od (0x9200 + p) 4 ∉ captureCounters := fun h => hfix _ (by simp [h]) rfl
  have hport (sub : Nat) (hsub : sub = 5 ∨ sub = 6) : od (0x9200 + p) 4 ≠ od (0x9200 + o) sub := by simp only [od]; omega
  have hcapture (e : Channel) : zGet (capture 2 4 x.inPort o 7 x e).ctr (od (0x9200 + p) 4) = zGet e.ctr (od (0x9200 + p) 4) :=
    (counts_capture (K := captureCounters) 2 4 x.inPort o 7 x (List.Subset.refl _)).2 (counts_refl _ _) _ hcap
  have hemit (e : Emission) (b : Channel) : (emit e b).ctr = b.ctr := rfl
  rw [stomp, zGet_raiseLimited_other _ _ _ _ _ _ hraise, hcapture, hemit, zGet_bump_other _ _ _ (hport 5 (.inl rfl)),
    zGet_bump_other _ _ _ (hfix _ (by simp)), zGet_bump_other _ _ _ (hport 6 (.inr rfl))]

/-- A property that stomped copies keep holds after a damaged frame where it holds once the frame is counted. -/
theorem badFrame_keeps {β : Type} (g : Channel → β) (hg : ∀ o x c, g (stomp o x c) = g c) (p ts : Nat) (f : Frame) :
    g (badFrame p ts f c) = g (bump (0x9200 + p) 4 c) := by
  unfold badFrame
  simp only []
  exact (foldl_keeps (g := g) (fun c o => hg o _ c) _ _).trans (foldl_keeps (g := g) (fun c o => hg o _ c) _ _)

end

/-! ### Reception -/

section
variable {s : State} {ch : Chan} {p ago frags : Nat} {f : Frame}

/-- The channel as a frame at a front port is looked at: counted, with the fragments before it. -/
def portCounted (p frags : Nat) (c : Channel) : Channel := bump (0x9200 + p) 2 (bumpN (0x9200 + p) 0x0B frags c)

theorem injPort_unarmed {c : Channel} (h : (injGet c (p - 1)).armed = false) : injPort p f c = ([(p, f)], c) := by
  unfold injPort
  simp only [h, Bool.false_and]
  rfl

/-- A frame at a front port that is up and has no injector armed. -/
theorem frameReceived_does {P : State → Prop} (hpow : (chanOf s ch).boot.powered = true) (h2 : 2 ≤ (chanOf s ch).boot.phase)
    (h16 : (chanOf s ch).boot.phase ≠ 16) (h1 : 1 ≤ p) (h12 : p ≤ 12) (hup : linkUp (chanOf s ch) p = true)
    (hinj : (injGet (chanOf s ch) (p - 1)).armed = false)
    (h : ∀ t, chanOf t ch = portIn p (stampNow (chanOf s ch) - ago * 65536) f (portCounted p frags (commitsEnded (chanOf s ch))) → onlyChan ch s t → P t) :
    Does (.frameReceived ch p f ⟨ago, frags, []⟩) s P := by
  refine does_onChan (f := fun c => memErrs [] (frameReceivedC p f ago frags c)) rfl fun t ht ho => h t (ht.trans ?_) ho
  have hguard : ((commitsEnded (chanOf s ch)).boot.powered && decide (2 ≤ (commitsEnded (chanOf s ch)).boot.phase ∧ (commitsEnded (chanOf s ch)).boot.phase ≠ 16)
      && decide (1 ≤ p ∧ p ≤ 12) && linkUp (commitsEnded (chanOf s ch)) p) = true := by
    have hup' : linkUp (commitsEnded (chanOf s ch)) p = true := hup
    simp only [Bool.and_eq_true, decide_eq_true_eq]
    exact ⟨⟨⟨hpow, h2, h16⟩, h1, h12⟩, hup'⟩
  show frameReceivedC p f ago frags (commitsEnded (chanOf s ch)) = _
  unfold frameReceivedC
  rw [if_pos hguard]
  simp only []
  rw [injPort_unarmed (c := bump (0x9200 + p) 2 (bumpN (0x9200 + p) 0x0B frags (commitsEnded (chanOf s ch)))) hinj]
  rfl

theorem portIn_damaged {c : Channel} {ts : Nat} (hgood : f.good = false) : portIn p ts f c = badFrame p ts f c := by
  unfold portIn
  rw [hgood, Bool.not_false, Bool.true_or]
  rfl

theorem portIn_accepted {c : Channel} {ts : Nat} (hgood : f.good = true) (hlen : f.len ≤ (portCfg c p).maxFrame) (hbody : ∀ q, f.body ≠ .pause q) :
    portIn p ts f c = fabricIn p ts f c := by
  unfold portIn
  rw [hgood, decide_eq_false (Nat.not_lt.2 hlen)]
  cases hf : f.body with
  | pause q => exact absurd hf (hbody q)
  | _ => rfl

theorem portIn_pause {c : Channel} {ts q : Nat} (hgood : f.good = true) (hlen : f.len ≤ (portCfg c p).maxFrame) (hbody : f.body = .pause q) :
    portIn p ts f c = c := by
  unfold portIn
  rw [hgood, decide_eq_false (Nat.not_lt.2 hlen), hbody]
  rfl

theorem badFrame_ingest {c : Channel} (ts : Nat) : (badFrame p ts f c).ingest = c.ingest :=
  badFrame_keeps Channel.ingest (fun o x c => touches_stomp (c := c) o x .ingest (by decide)) p ts f

theorem badFrame_ports {c : Channel} (ts : Nat) : (badFrame p ts f c).sw.ports = c.sw.ports :=
  congrArg Prod.snd ((badFrame_keeps swKept (fun o x c => swKept_stomp o x) p ts f).trans (swKept_bump _ _))

theorem badFrame_counts {c : Channel} (ts : Nat) (h1 : 1 ≤ p) (h12 : p ≤ 12) :
    zGet (badFrame p ts f c).ctr (od (0x9200 + p) 4) = zGet c.ctr (od (0x9200 + p) 4) + 1 :=
  (badFrame_keeps (fun c => zGet c.ctr (od (0x9200 + p) 4)) (fun o x c => zGet_stomp_bad o x h1 h12) p ts f).trans (zGet_bump_same _ _ _)

theorem portCounted_received (c : Channel) : zGet (portCounted p frags c).ctr (od (0x9200 + p) 2) = zGet c.ctr (od (0x9200 + p) 2) + 1 := by
  rw [portCounted, zGet_bump_same, zGet_bumpN_other _ _ _ _ (by simp only [od]; omega)]

theorem portCounted_bad (c : Channel) : zGet (portCounted p frags c).ctr (od (0x9200 + p) 4) = zGet c.ctr (od (0x9200 + p) 4) := by
  rw [portCounted, zGet_bump_other _ _ _ (by simp only [od]; omega), zGet_bumpN_other _ _ _ _ (by simp only [od]; omega)]

theorem portCounted_cfg (c : Channel) (q : Nat) : portCfg (portCounted p frags c) q = portCfg c q := rfl
theorem portCounted_sw (c : Channel) : (portCounted p frags c).sw = c.sw := rfl
theorem portCounted_ingest (c : Channel) : (portCounted p frags c).ingest = c.ingest := rfl

end

/-- Settles O31: a good frame, a damaged one, a PAUSE frame, a port that is down, and a VLAN that the port is not a member of. -/
theorem framesAtFrontPorts : Obligations.frames_at_front_ports := by
  unfold Obligations.frames_at_front_ports
  refine ⟨fun s ch p f ago frags hpow h2 h16 h1 h12 hup hinj hgood hlen hbody => ?_,
    fun s ch p f ago frags hpow h2 h16 h1 h12 hup hinj hgood => ?_,
    fun s ch p f ago frags q hpow h2 h16 h1 h12 hup hinj hgood hlen hbody => ?_, fun s ch p f ago frags hdown => ?_,
    fun c p ts f _ _ h => fabricIn_barred h⟩
  · exact frameReceived_does hpow h2 h16 h1 h12 hup hinj fun t ht ho => ⟨ho, ht.trans (portIn_accepted hgood hlen hbody)⟩
  · refine frameReceived_does hpow h2 h16 h1 h12 hup hinj fun t ht ho => ?_
    rw [ht, portIn_damaged hgood, badFrame_ingest, badFrame_ports, badFrame_counts _ h1 h12, portCounted_bad, portCounted_sw, portCounted_ingest]
    exact ⟨ho, rfl, rfl, rfl⟩
  · refine frameReceived_does hpow h2 h16 h1 h12 hup hinj fun t ht ho => ?_
    rw [ht, portIn_pause (c := portCounted p frags (commitsEnded (chanOf s ch))) hgood hlen hbody, portCounted_received, portCounted_sw]
    exact ⟨ho, rfl, rfl⟩
  · refine does_onChan (f := fun c => memErrs [] (frameReceivedC p f ago frags c)) rfl fun t ht _ => ht.trans ?_
    have hdown' : linkUp (commitsEnded (chanOf s ch)) p = false := hdown
    show frameReceivedC p f ago frags (commitsEnded (chanOf s ch)) = _
    unfold frameReceivedC
    rw [hdown', Bool.and_false]
    rfl

end Sys2Proof.Machine
end


section
/-! The rings of the host: what sends, received frames and interrupts leave of them (15 R464 to R483). -/
namespace Sys2Proof.Machine
open Sys2Proof

section
variable {A : List Part} {c d : Channel}

/-! ### What leaves the rings as they are -/

/-- The rings of the host and its sends in progress. -/
def hostKept (c : Channel) : KMap Ring × KMap (Nat × Nat) := (c.host.rings, c.host.sends)

theorem hostKept_of_touches (h : Touches A c d) (hA : Part.host ∉ A) : hostKept d = hostKept c := by
  rw [hostKept, hostKept, h .host hA]

theorem hostKept_pendOn (src f : Nat) : hostKept (pendOn src f c) = hostKept c := by
  unfold pendOn
  simp only []
  split_ifs <;> rfl

theorem hostKept_journalAdd (cat item sl : Nat) (l : List Byte) : hostKept (journalAdd cat item sl l c) = hostKept c :=
  hostKept_of_touches ((touches_journalAdd cat item sl l (List.Subset.refl _)).2 (touches_refl _ c)) (by decide)

theorem hostKept_bump (i sub : Nat) : hostKept (bump i sub c) = hostKept c := rfl
theorem hostKept_emit (e : Emission) : hostKept (emit e c) = hostKept c := rfl

theorem hostKept_raise (src sl obj v : Nat) : hostKept (raise src sl obj v c) = hostKept c := by
  have hpend : hostKept (pendOn src 65 (pendOn src 0 (journalAdd 5 src sl (BitVec.ofNat 8 sl :: 0 :: (leBytes 2 obj ++ leBytes 4 v))
      (bump 0x3101 (src + 1) c)))) = hostKept c := by
    rw [hostKept_pendOn, hostKept_pendOn, hostKept_journalAdd, hostKept_bump]
  unfold raise raiseNow
  simp only []
  split_ifs
  · rw [hostKept_pendOn, hpend]
  · exact hpend

theorem hostKept_raiseLimited (src sl obj v key : Nat) : hostKept (raiseLimited src sl obj v key c) = hostKept c := by
  unfold raiseLimited
  simp only []
  split_ifs
  · exact hostKept_raise src sl obj v
  · rfl

theorem hostKept_capture (dir disp i o q : Nat) (x : QFrame) : hostKept (capture dir disp i o q x c) = hostKept c := by
  unfold capture
  simp only []
  split_ifs <;> try rw [hostKept_raiseLimited]
  all_goals rfl

theorem hostKept_redDrop (p q col : Nat) : hostKept (redDrop p q col c).2 = hostKept c :=
  hostKept_of_touches ((touches_redDrop p q col (List.Subset.refl _)).2 (touches_refl _ c)) (by decide)

theorem hostKept_highWater (i sub v : Nat) : hostKept (highWater i sub v c) = hostKept c := by
  unfold highWater
  split <;> rfl

theorem hostKept_enqueue (o q : Nat) (x : QFrame) : hostKept (enqueue o q x c) = hostKept c := by
  unfold enqueue
  simp only []
  split_ifs <;> simp only [hostKept_capture, hostKept_highWater]
  · rfl
  · rfl
  · exact hostKept_redDrop _ _ _
  · exact hostKept_redDrop _ _ _
  · exact hostKept_redDrop _ _ _

theorem hostKept_sendOut (p q col ts n : Nat) (outs : List Nat) (f : Frame) : hostKept (sendOut p q col ts n outs f c) = hostKept c :=
  foldl_keeps (g := hostKept) (fun _ _ => hostKept_enqueue _ _ _) _ _

theorem hostKept_stage (p q n : Nat) (f : Frame) : hostKept (stage p q n f c) = hostKept c := by
  unfold stage
  split <;> rfl

theorem hostKept_ingressClass (p : Nat) (e : Bool) (f : Frame) : hostKept (ingressClass p e f c).2 = hostKept c := by
  have hmeter : hostKept (metered (classify c p e f).2 f c).2 = hostKept c :=
    hostKept_of_touches (metered_keeps (c := c) (classify c p e f).2 f).2 (by decide)
  rcases ingressClass_channel (c := c) p e f with h | h <;> rw [h]
  · exact hmeter
  · rw [hostKept_raiseLimited, hostKept_bump, hmeter]

/-- A frame that the host MAC brings into the fabric leaves the rings as they are. -/
theorem hostKept_fabricIn15 (ts : Nat) (f : Frame) : hostKept (fabricIn 15 ts f c) = hostKept c := by
  obtain ⟨e, he⟩ : ∃ e, capture 0 0 15 0 (ingressClass 15 false f c).1.1
      ⟨f, 15, (ingressClass 15 false f c).1.2.1, ts⟩ (ingressClass 15 false f c).2 = e := ⟨_, rfl⟩
  have hekept : hostKept e = hostKept c := by rw [← he, hostKept_capture, hostKept_ingressClass]
  unfold fabricIn
  simp only [he]
  generalize Bool.not (Nat.testBit _ _) = barred
  generalize Bool.and _ _ = full
  cases barred with
  | true => exact (hostKept_capture _ _ _ _ _ _).trans hekept
  | false =>
    cases full with
    | true => exact (hostKept_capture _ _ _ _ _ _).trans hekept
    | false => exact (hostKept_sendOut _ _ _ _ _ _ _).trans ((hostKept_stage _ _ _ _).trans hekept)

end

/-! ### Sends -/

section
variable {c : Channel} {r : Nat} {d : TxFetch} {l : List (List Byte)}

theorem ringGet_of_hostKept {b : Channel} (h : hostKept b = hostKept c) (r : Nat) : ringGet b r = ringGet c r := by
  rw [ringGet, ringGet, show b.host.rings = c.host.rings from congrArg Prod.fst h]

theorem sends_of_hostKept {b : Channel} (h : hostKept b = hostKept c) : b.host.sends = c.host.sends := congrArg Prod.snd h

/-- A ring with the head moved past a send of these descriptors, and written back. -/
def headPast (l : List (List Byte)) (x : Ring) : Ring :=
  { x with txHead := (x.txHead + max 1 l.length) % max x.txSize 1, txSeq := x.txSeq + 1, txIntPend := true, txIdle := !x.txEn }

theorem rings_endSend (st : Nat) : (endSend r st l c).host.rings = kPut c.host.rings r (headPast l (ringGet c r)) := rfl

theorem ringGet_endSend (st : Nat) : ringGet (endSend r st l c) r = headPast l (ringGet c r) := by
  rw [ringGet, rings_endSend, kGet_kPut_same, Option.getD_some]

theorem sends_endSend (st : Nat) : (endSend r st l c).host.sends = kDel c.host.sends r := rfl

theorem sw_endSend (st : Nat) : (endSend r st l c).sw = c.sw := by
  have hback (n : Nat) (b : Channel) : (writeBackTx r n b).sw = b.sw := rfl
  have hbump (i sub : Nat) (b : Channel) : (bump i sub b).sw = b.sw := rfl
  rw [endSend, hbump, hbump, hback]
  rfl

theorem zGet_endSend_other (st : Nat) {k : Nat} (h1 : k ≠ od (0x9600 + r) 1) (h2 : k ≠ od 0x2A00 8) :
    zGet (endSend r st l c).ctr k = zGet c.ctr k := by
  have hctr (n : Nat) (b : Channel) : (writeBackTx r n b).ctr = b.ctr := rfl
  rw [endSend, zGet_bump_other _ _ _ h2, zGet_bump_other _ _ _ h1, hctr]
  rfl

theorem sends_kDel {β : Type} (m : KMap β) (r : Nat) : kHas (kDel m r) r = false := by rw [kHas, kGet_kDel_same]; rfl

/-- The send a ring has in progress, as a turn finds it: the frames gone and the worst status. -/
def sendAt (c : Channel) (r : Nat) : Nat × Nat := (kGet c.host.sends r).getD (0, 0)

theorem sendAt_none (h : kHas c.host.sends r = false) : sendAt c r = (0, 0) := by
  have hnone : kGet c.host.sends r = none := by simpa [kHas] using h
  rw [sendAt, hnone]
  rfl

/-- What follows a frame of a send: the next one, or its end. -/
def sendNext (r : Nat) (l : List (List Byte)) (p : Nat × Nat) (st : Nat) (c : Channel) : Channel :=
  if frameCount l ≤ p.1 + 1 then endSend r (worst p.2 st) l (if (sendContext l).isSome then bump 0x2A00 0x0A c else c)
  else { c with host := { c.host with sends := kPut c.host.sends r (p.1 + 1, worst p.2 st) } }

theorem ringGet_setRr (q : Nat) : ringGet (setRr q c) r = ringGet c r := rfl

section
variable (hrun : runtimeUp c = true) (hturn : txTurn c = some r)
include hrun hturn

theorem txFrameC_spoofed {c1 : Channel} (hread : d.readOk = true) (hwell : malformed (ringGet c r).maxFrame d.descs = false)
    (h : spoofCheck r (sendFrame d.descs (sendAt c r).1 d.frame) (setRr r c) = (none, c1)) :
    txFrameC r d c = sendNext r d.descs (sendAt c r) 1 c1 := by
  have hsend : spoofCheck r (sendFrame d.descs ((kGet (setRr r c).host.sends r).getD (0, 0)).1 d.frame) (setRr r c) = (none, c1) := h
  rw [txFrameC, hrun, hturn, bne_self_eq_false]
  simp only [Bool.not_true, Bool.or_self, Bool.false_eq_true, if_false, hread, ringGet_setRr, hwell, hsend]
  rfl

theorem txFrameC_checked {f : Frame} {c1 : Channel} (hread : d.readOk = true) (hwell : malformed (ringGet c r).maxFrame d.descs = false)
    (h : spoofCheck r (sendFrame d.descs (sendAt c r).1 d.frame) (setRr r c) = (some f, c1)) :
    txFrameC r d c = if !port15Room c1 f then bump 0x2A00 0x0D c1
      else sendNext r d.descs (sendAt c r) 0 (bump 0x2A00 9 (bump (0x9600 + r) 2 (fabricIn 15 (stampNow c1) f (bump 0x920F 2 c1)))) := by
  have hsend : spoofCheck r (sendFrame d.descs ((kGet (setRr r c).host.sends r).getD (0, 0)).1 d.frame) (setRr r c) = (some f, c1) := h
  rw [txFrameC, hrun, hturn, bne_self_eq_false]
  simp only [Bool.not_true, Bool.or_self, Bool.false_eq_true, if_false, hread, ringGet_setRr, hwell, hsend]
  rfl

theorem txFrameC_malformed (hread : d.readOk = true) (hbad : malformed (ringGet c r).maxFrame d.descs = true) :
    txFrameC r d c = endSend r 2 d.descs (bump 0x2A00 0x0B (bump (0x9600 + r) 4 (setRr r c))) := by
  rw [txFrameC, hrun, hturn, bne_self_eq_false]
  simp only [Bool.not_true, Bool.or_self, Bool.false_eq_true, if_false, hread, ringGet_setRr, hbad, if_true]

theorem txFrameC_unread (hread : d.readOk = false) : txFrameC r d c = dmaError r d.descs (setRr r c) := by
  rw [txFrameC, hrun, hturn, bne_self_eq_false]
  simp only [Bool.not_true, Bool.or_self, Bool.false_eq_true, if_false, hread, Bool.not_false, if_true]

end

/-! ### The checks of a frame of a ring -/

/-- A frame of the host as ring 0 sends it, with the host's address. -/
def hostFrame (c : Channel) (f : Frame) : Frame :=
  { f with src := hostMac c, head := if f.head.length < 12 then f.head else putBytes f.head 6 (beBytes 6 (hostMac c).toNat) }

theorem spoofCheck_host {f : Frame} (h : etherBarred (etherOf f) = false) : spoofCheck 0 f c = (some (hostFrame c f), c) := by
  have hether : etherBarred (etherOf (hostFrame c f)) = false := h
  rw [spoofCheck, if_pos rfl]
  simp only []
  exact if_neg (by simpa [hostFrame] using hether)

section
variable {f : Frame} {x : Sleeve}

theorem spoofCheck_allowed (h0 : 0 < r) (hx : kGet c.sleeves (r - 1) = some x) (h : spoofCause x.cfg f = none) :
    spoofCheck r f c = (some f, c) := by
  rw [spoofCheck, if_neg (Nat.pos_iff_ne_zero.1 h0), hx]
  simp only [h]

theorem spoofCheck_spoofed {k : Nat} (h0 : 0 < r) (hx : kGet c.sleeves (r - 1) = some x) (h : spoofCause x.cfg f = some k) :
    spoofCheck r f c = (none, spoof k (r - 1) r (bump (0x9600 + r) 3 c)) := by
  rw [spoofCheck, if_neg (Nat.pos_iff_ne_zero.1 h0), hx]
  simp only [h]

end

theorem port15Room_hostFrame (b : Channel) (f : Frame) : port15Room c (hostFrame b f) = port15Room c f := rfl

/-- The cause of a violation is one of five. -/
theorem spoofCause_bounds {x : SleeveRec} {f : Frame} {k : Nat} (h : spoofCause x f = some k) : 1 ≤ k ∧ k ≤ 5 := by
  unfold spoofCause at h
  simp only [] at h
  split_ifs at h <;> simp only [Option.some.injEq] at h <;> omega

/-- A spoofed frame counts once in its ring. -/
theorem zGet_spoof_ring {k n : Nat} (hk : k ≤ 5) (h0 : 0 < n) (h65 : n < 65) :
    zGet (spoof k (n - 1) n c).ctr (od (0x9600 + n) 3) = zGet c.ctr (od (0x9600 + n) 3) := by
  have hraise : od (0x9600 + n) 3 ∉ raiseCounters 48 := by
    have hall : ∀ k ∈ raiseCounters 48, k < od 0x9600 0 := by decide
    exact fun hmem => absurd (hall _ hmem) (by simp only [od]; omega)
  have hcounted : zGet (bump 0x2B00 0x0C (bump (0x4002 + 256 * (n - 1)) k c)).ctr (od (0x9600 + n) 3) = zGet c.ctr (od (0x9600 + n) 3) := by
    rw [zGet_bump_other _ _ _ (by simp only [od]; omega), zGet_bump_other _ _ _ (by simp only [od]; omega)]
  unfold spoof
  simp only []
  split
  · split_ifs
    · rw [zGet_raiseLimited_other _ _ _ _ _ _ hraise, hcounted]
    · exact hcounted
  · exact hcounted

/-! ### A turn of a ring -/

theorem sendNext_last {p : Nat × Nat} {st : Nat} (h : frameCount l ≤ p.1 + 1) :
    sendNext r l p st c = endSend r (worst p.2 st) l (if (sendContext l).isSome then bump 0x2A00 0x0A c else c) := if_pos h

theorem hostKept_segments (l : List (List Byte)) : hostKept (if (sendContext l).isSome then bump 0x2A00 0x0A c else c) = hostKept c := by
  split <;> rfl

theorem sw_sendNext (p : Nat × Nat) (st : Nat) : (sendNext r l p st c).sw = c.sw := by
  unfold sendNext
  split
  · rw [sw_endSend]
    split <;> rfl
  · rfl

theorem zGet_sendNext_spoofs (p : Nat × Nat) (st : Nat) {n : Nat} :
    zGet (sendNext n l p st c).ctr (od (0x9600 + n) 3) = zGet c.ctr (od (0x9600 + n) 3) := by
  unfold sendNext
  split
  · rw [zGet_endSend_other _ (by simp only [od]; omega) (by simp only [od]; omega)]
    split
    · exact zGet_bump_other _ _ _ (by simp only [od]; omega)
    · rfl
  · rfl

/-- A single frame that goes: the ring with its head past the send. -/
theorem ringGet_sent {f : Frame} {p : Nat × Nat} (h : frameCount l ≤ p.1 + 1) (st ts : Nat) :
    ringGet (sendNext r l p st (bump 0x2A00 9 (bump (0x9600 + r) 2 (fabricIn 15 ts f (bump 0x920F 2 c))))) r = headPast l (ringGet c r) := by
  have hkept : hostKept (fabricIn 15 ts f (bump 0x920F 2 c)) = hostKept c := by rw [hostKept_fabricIn15, hostKept_bump]
  rw [sendNext_last h, ringGet_endSend, ringGet_of_hostKept (hostKept_segments l), ringGet_of_hostKept (hostKept_bump _ _),
    ringGet_of_hostKept (hostKept_bump _ _), ringGet_of_hostKept hkept]

section
variable (hrun : runtimeUp c = true) (hturn : txTurn c = some r)
include hrun hturn

theorem ringGet_txFrameC_malformed (hread : d.readOk = true) (hbad : malformed (ringGet c r).maxFrame d.descs = true) :
    ringGet (txFrameC r d c) r = headPast d.descs (ringGet c r) := by
  rw [txFrameC_malformed hrun hturn hread hbad, ringGet_endSend, ringGet_of_hostKept (hostKept_bump _ _), ringGet_of_hostKept (hostKept_bump _ _),
    ringGet_setRr]

theorem ringGet_txFrameC_unread (hread : d.readOk = false) :
    ringGet (txFrameC r d c) r = headPast d.descs { ringGet c r with txDmaErr := true } := by
  rw [txFrameC_unread hrun hturn hread, dmaError, ringGet_endSend, ringGet_of_hostKept (hostKept_raise _ _ _ _), ringGet_ringPut, ringGet_setRr]

theorem ringGet_txFrameC_sent {f : Frame} {c1 : Channel} (hread : d.readOk = true) (hwell : malformed (ringGet c r).maxFrame d.descs = false)
    (hcheck : spoofCheck r (sendFrame d.descs (sendAt c r).1 d.frame) (setRr r c) = (some f, c1)) (hkept : hostKept c1 = hostKept c)
    (hone : frameCount d.descs = 1) (hroom : port15Room c1 f = true) :
    ringGet (txFrameC r d c) r = headPast d.descs (ringGet c r) := by
  rw [txFrameC_checked hrun hturn hread hwell hcheck, hroom, Bool.not_true, if_neg Bool.false_ne_true, ringGet_sent (hone.le.trans (Nat.le_add_left 1 _)),
    ringGet_of_hostKept hkept]

end

end

/-! ### Sends of a function that is ready -/

section
variable {s : State} {d : TxFetch} {P : State → Prop}

theorem chanOf_noteTx (r : Nat) (a b : Channel) (t : State) (ch : Chan) : chanOf (noteTx r a b t) ch = chanOf t ch := by
  unfold noteTx
  simp only []
  split <;> rfl

theorem chanOf_noteRx (r : Nat) (a b : Channel) (t : State) (ch : Chan) : chanOf (noteRx r a b t) ch = chanOf t ch := by
  unfold noteRx
  simp only []
  split <;> rfl

theorem noteTx_written {r : Nat} {a b : Channel} {t : State} (h : (ringGet b r).txSeq ≠ (ringGet a r).txSeq) :
    kGet (noteTx r a b t).bridge.wbTx r = some (wbWord (ringGet b r).txHead (ringGet b r).txSeq) := by
  unfold noteTx
  simp only []
  rw [if_neg (Ne.symm h)]
  exact kGet_kPut_same _ _ _

/-- A send of a function, on the channel it reaches; host memory then holds what was written back. -/
theorem hostTxFrame_does {p : Path} (hpath : p = .pf0 ∨ ∃ n, p = .vf n) (hp : PathReady s p)
    (h : ∀ t m, SameCounters m (atPath s p) → chanOf t (pathChan s p) = txFrameC (pathFn p) d (arrived m (atPath s p)) →
      ((ringGet (chanOf t (pathChan s p)) (pathFn p)).txSeq ≠ (ringGet (atPath s p) (pathFn p)).txSeq →
        kGet t.bridge.wbTx (pathFn p) = some (wbWord (ringGet (chanOf t (pathChan s p)) (pathFn p)).txHead
          (ringGet (chanOf t (pathChan s p)) (pathFn p)).txSeq)) → P t) : Does (.hostTxFrame p d) s P := by
  obtain ⟨u, m, hu, hsame, hown, -, -, -⟩ := onPath_alone hp (.hostTxFrame p d) (txFrameC (pathFn p) d)
  refine ⟨noteTx (pathFn p) (atPath s p) (chanOf u (pathChan s p)) u, ?_, h _ m hsame ?_ fun hseq => ?_⟩
  · show execHostTxFrame p d s = _
    rcases hpath with rfl | ⟨n, rfl⟩
    all_goals
      simp only [execHostTxFrame, hu]
      rfl
  · rw [chanOf_noteTx, hown]
  · rw [chanOf_noteTx] at hseq ⊢
    exact noteTx_written hseq

/-! ### Reception -/

theorem hostRxFrame_does {ch : Chan} {r : Nat} {d : RxFetch} (hfail : s.bridge.failed = false) (hspeed : s.bridge.speed ≠ 0)
    (h : ∀ t, chanOf t ch = rxFrameC r d (commitsEnded (chanOf s ch)) → chanOf t ch.twin = chanOf s ch.twin → P t) :
    Does (.hostRxFrame ch r d) s P := by
  refine ⟨noteRx r (chanOf s ch) (rxFrameC r d (commitsEnded (chanOf s ch))) (withChan s ch (rxFrameC r d (commitsEnded (chanOf s ch)))), ?_,
    h _ ?_ ?_⟩
  · have hon : onChan ch (rxFrameC r d) s = .next (withChan s ch (rxFrameC r d (commitsEnded (chanOf s ch)))) := rfl
    show execHostRxFrame ch r d s = _
    rw [execHostRxFrame, hfail, beq_false_of_ne hspeed, Bool.or_self, if_neg Bool.false_ne_true, hon]
    simp only [chanOf_withChan]
  · rw [chanOf_noteRx, chanOf_withChan]
  · rw [chanOf_noteRx]
    exact (onlyChan_withChan s ch _).1

end

section
variable {c : Channel} {r : Nat} {f : QFrame} {d : RxFetch}

/-- The channel with the frame taken out of those that wait for the host. -/
def frameTaken (r : Nat) (f : QFrame) (c : Channel) : Channel := { c with sw := { c.sw with hostIn := c.sw.hostIn.erase (r, f) } }

theorem ringGet_frameTaken : ringGet (frameTaken r f c) r = ringGet c r := rfl

/-- A ring with the head moved past `n` buffers that a received frame fills, and written back. -/
def headFilled (n : Nat) (x : Ring) : Ring :=
  { x with rxHead := (x.rxHead + n) % max x.rxSize 1, rxSeq := x.rxSeq + 1, rxIntPend := true }

theorem ringGet_writeBackRx (n : Nat) : ringGet (writeBackRx r n c) r = headFilled n (ringGet c r) := by
  have hrings : (writeBackRx r n c).host.rings = kPut c.host.rings r (headFilled n (ringGet c r)) := rfl
  rw [ringGet, hrings, kGet_kPut_same, Option.getD_some]

/-- What writing a received frame leaves of the rings and of the switch. -/
theorem rxWrite_keeps (need : Nat) (bufs : List U64) :
    ringGet (rxWrite r f need bufs c) r = headFilled need (ringGet c r) ∧ (rxWrite r f need bufs c).sw = c.sw := by
  have hwater (i sub v : Nat) (b : Channel) : (highWater i sub v b).sw = b.sw := by
    unfold highWater
    split <;> rfl
  have hfold {β : Type} (g : Channel → β) (hg : ∀ e b, g (emit e b) = g b) (w : Nat → Emission) (b : Channel) :
      g ((List.range need).foldl (fun c i => emit (w i) c) b) = g b := foldl_keeps (g := g) (fun c i => hg (w i) c) _ _
  have hback (b : Channel) : (writeBackRx r need b).sw = b.sw := rfl
  have hbump (i sub : Nat) (b : Channel) : (bump i sub b).sw = b.sw := rfl
  unfold rxWrite
  simp only []
  constructor
  · rw [ringGet_of_hostKept (hostKept_highWater _ _ _), ringGet_writeBackRx, ringGet_of_hostKept (hostKept_bump _ _),
      ringGet_of_hostKept (hostKept_bump _ _), ringGet_of_hostKept (hfold hostKept (fun _ _ => rfl) _ _), ringGet_of_hostKept (hostKept_emit _)]
  · rw [hwater, hback, hbump, hbump, hfold Channel.sw (fun _ _ => rfl)]
    rfl

section
variable (hfind : c.sw.hostIn.find? (fun x => x.1 == r) = some (r, f))
include hfind

theorem rxFrameC_disabled (hen : (ringGet c r).rxEn = false) :
    rxFrameC r d c = bump 0x2A00 0x14 (bump (0x9600 + r) 7 (frameTaken r f c)) := by
  have hen' : (ringGet (frameTaken r f c) r).rxEn = false := hen
  unfold rxFrameC
  rw [hfind]
  exact if_pos (by rw [← frameTaken, hen']; rfl)

theorem rxFrameC_written (hen : (ringGet c r).rxEn = true)
    (hperm : r = 0 ∨ ∃ x, kGet c.sleeves (r - 1) = some x ∧ etherPermitted x.cfg (etherOf f.frame) = true) (hbuf : (ringGet c r).rxBuf ≠ 0)
    (hroom : cdiv (f.frame.len - 4) (ringGet c r).rxBuf ≤ rxFree (ringGet c r)) (hread : d.readOk = true) :
    rxFrameC r d c = rxWrite r f (cdiv (f.frame.len - 4) (ringGet c r).rxBuf) d.bufs (frameTaken r f c) := by
  have hring : ringGet { c with sw := { c.sw with hostIn := c.sw.hostIn.erase (r, f) } } r = ringGet c r := rfl
  have hmax : max (ringGet c r).rxBuf 1 = (ringGet c r).rxBuf := by omega
  unfold rxFrameC
  rw [hfind]
  simp only [hring, hen, hmax, Bool.not_true, Bool.false_eq_true, if_false, hread]
  rw [if_neg, if_neg]
  · rfl
  · exact not_or.2 ⟨hbuf, Nat.not_lt.2 hroom⟩
  · rcases hperm with rfl | ⟨x, hx, hp⟩
    · simp
    · simp [hx, hp]

end

/-! ### Interrupts -/

theorem ringInterruptC_tx (h : (ringGet c r).txIntPend = true) :
    (ringGet (ringInterruptC r false c) r).txIntPend = false ∧ (ringInterruptC r false c).emitted = c.emitted ++ [.msix r 1] := by
  obtain ⟨u, hu⟩ : ∃ u, upTo (ringGet c r).txIntAt c = u := ⟨_, rfl⟩
  have hem : u.emitted = c.emitted := hu ▸ advanceTo_emitted _ c
  have heq : ringInterruptC r false c =
      emit (.msix r 1) (ringPut r { ringGet c r with txIntPend := false, txIntAt := u.time.up + (ringGet c r).itr * 1000 } u) := by
    unfold ringInterruptC
    simp only [h, hu, Bool.false_eq_true, if_false, if_true]
  rw [heq, ← hem]
  exact ⟨congrArg Ring.txIntPend (ringGet_ringPut _), rfl⟩

theorem ringInterruptC_rx (h : (ringGet c r).rxIntPend = true) :
    (ringGet (ringInterruptC r true c) r).rxIntPend = false ∧ (ringInterruptC r true c).emitted = c.emitted ++ [.msix r 2] := by
  obtain ⟨u, hu⟩ : ∃ u, upTo (ringGet c r).rxIntAt c = u := ⟨_, rfl⟩
  have hem : u.emitted = c.emitted := hu ▸ advanceTo_emitted _ c
  have heq : ringInterruptC r true c =
      emit (.msix r 2) (ringPut r { ringGet c r with rxIntPend := false, rxIntAt := u.time.up + (ringGet c r).itr * 1000 } u) := by
    unfold ringInterruptC
    simp only [h, hu, if_true]
  rw [heq, ← hem]
  exact ⟨congrArg Ring.rxIntPend (ringGet_ringPut _), rfl⟩

end

/-! ### What each send comes to -/

section
variable {s : State} {d : TxFetch}

/-- A function that is ready, with the turn of its ring. -/
structure TurnReady (s : State) (p : Path) : Prop where
  path : PathReady s p
  run : runtimeUp (atPath s p) = true
  turn : txTurn (atPath s p) = some (pathFn p)

theorem hostTxFrame_malformed (hp : TurnReady s .pf0) (hread : d.readOk = true) (hbad : malformed (ringGet (atPath s .pf0) 0).maxFrame d.descs = true) :
    Does (.hostTxFrame .pf0 d) s (fun t => ringGet (chanOf t (pathChan s .pf0)) 0 = headPast d.descs (ringGet (atPath s .pf0) 0) ∧
      kHas (chanOf t (pathChan s .pf0)).host.sends 0 = false) := by
  refine hostTxFrame_does (.inl rfl) hp.path fun t m _ ht _ => ?_
  rw [ht]
  refine ⟨ringGet_txFrameC_malformed (c := arrived m (atPath s .pf0)) hp.run hp.turn hread hbad, ?_⟩
  rw [txFrameC_malformed (c := arrived m (atPath s .pf0)) hp.run hp.turn hread hbad, sends_endSend]
  exact sends_kDel _ (pathFn .pf0)

theorem hostTxFrame_unread (hp : TurnReady s .pf0) (hread : d.readOk = false) :
    Does (.hostTxFrame .pf0 d) s (fun t => ringGet (chanOf t (pathChan s .pf0)) 0 =
      headPast d.descs { ringGet (atPath s .pf0) 0 with txDmaErr := true }) := by
  refine hostTxFrame_does (.inl rfl) hp.path fun t m _ ht _ => ?_
  rw [ht]
  exact ringGet_txFrameC_unread (c := arrived m (atPath s .pf0)) hp.run hp.turn hread

section
variable {c : Channel}

theorem checked_host (hsend : kHas c.host.sends 0 = false) (hether : etherBarred (etherOf (sendFrame d.descs 0 d.frame)) = false) :
    spoofCheck 0 (sendFrame d.descs (sendAt c 0).1 d.frame) (setRr 0 c) =
      (some (hostFrame (setRr 0 c) (sendFrame d.descs 0 d.frame)), setRr 0 c) := by
  rw [sendAt_none hsend]
  exact spoofCheck_host hether

theorem checked_vf {n : Nat} {x : Sleeve} (h0 : 0 < n) (hsend : kHas c.host.sends n = false) (hx : kGet c.sleeves (n - 1) = some x)
    (hcause : spoofCause x.cfg (sendFrame d.descs 0 d.frame) = none) :
    spoofCheck n (sendFrame d.descs (sendAt c n).1 d.frame) (setRr n c) = (some (sendFrame d.descs 0 d.frame), setRr n c) := by
  rw [sendAt_none hsend]
  exact spoofCheck_allowed (c := setRr n c) h0 hx hcause

end

/-- A send of a single frame that has room goes. -/
theorem hostTxFrame_sent {p : Path} {f : Frame} (hpath : p = .pf0 ∨ ∃ n, p = .vf n) (hp : TurnReady s p) (hread : d.readOk = true)
    (hwell : malformed (ringGet (atPath s p) (pathFn p)).maxFrame d.descs = false) (hone : frameCount d.descs = 1)
    (hcheck : ∀ m, ∃ g, spoofCheck (pathFn p) (sendFrame d.descs (sendAt (atPath s p) (pathFn p)).1 d.frame)
      (setRr (pathFn p) (arrived m (atPath s p))) = (some g, setRr (pathFn p) (arrived m (atPath s p))) ∧ g.len = f.len)
    (hroom : port15Room (commitsEnded (atPath s p)) f = true) :
    Does (.hostTxFrame p d) s (fun t => ringGet (chanOf t (pathChan s p)) (pathFn p) = headPast d.descs (ringGet (atPath s p) (pathFn p)) ∧
      kGet t.bridge.wbTx (pathFn p) = some (wbWord (headPast d.descs (ringGet (atPath s p) (pathFn p))).txHead
        ((ringGet (atPath s p) (pathFn p)).txSeq + 1))) := by
  refine hostTxFrame_does hpath hp.path fun t m _ ht hwb => ?_
  obtain ⟨g, hg, hlen⟩ := hcheck m
  have hroom' : port15Room (setRr (pathFn p) (arrived m (atPath s p))) g = true := by
    rw [← hroom]
    unfold port15Room cellsOf
    rw [hlen]
    rfl
  have hring : ringGet (chanOf t (pathChan s p)) (pathFn p) = headPast d.descs (ringGet (atPath s p) (pathFn p)) := by
    rw [ht]
    exact ringGet_txFrameC_sent (c := arrived m (atPath s p)) hp.run hp.turn hread hwell hg rfl hone hroom'
  refine ⟨hring, ?_⟩
  rw [hwb (by rw [hring]; exact Nat.succ_ne_self _), hring]
  rfl

/-- A send that port 15 has no room for waits, and is counted (15 R472). -/
theorem hostTxFrame_waits (hp : TurnReady s .pf0) (hread : d.readOk = true)
    (hwell : malformed (ringGet (atPath s .pf0) 0).maxFrame d.descs = false) (hsend : kHas (atPath s .pf0).host.sends 0 = false)
    (hether : etherBarred (etherOf (sendFrame d.descs 0 d.frame)) = false)
    (hroom : port15Room (commitsEnded (atPath s .pf0)) (sendFrame d.descs 0 d.frame) = false) :
    Does (.hostTxFrame .pf0 d) s (fun t => ringGet (chanOf t (pathChan s .pf0)) 0 = ringGet (atPath s .pf0) 0 ∧
      zGet (chanOf t (pathChan s .pf0)).ctr (od 0x2A00 0x0D) = zGet (atPath s .pf0).ctr (od 0x2A00 0x0D) + 1) := by
  refine hostTxFrame_does (.inl rfl) hp.path fun t m hsame ht _ => ?_
  have hroom' : port15Room (setRr 0 (arrived m (atPath s .pf0))) (hostFrame (setRr 0 (arrived m (atPath s .pf0))) (sendFrame d.descs 0 d.frame)) = false :=
    hroom
  rw [ht, txFrameC_checked (c := arrived m (atPath s .pf0)) hp.run hp.turn hread hwell (checked_host (c := arrived m (atPath s .pf0)) hsend hether),
    hroom', Bool.not_false, if_pos rfl, zGet_bump_same]
  exact ⟨rfl, congrArg (· + 1) (hsame _ (by decide))⟩

/-- A spoofed frame of a VF goes nowhere, and is counted (15 R471; 16 R504). -/
theorem hostTxFrame_spoofed {n k : Nat} {x : Sleeve} (hp : TurnReady s (.vf n)) (h65 : n < 65) (hread : d.readOk = true) (h0 : 0 < n)
    (hwell : malformed (ringGet (atPath s (.vf n)) n).maxFrame d.descs = false) (hx : kGet (atPath s (.vf n)).sleeves (n - 1) = some x)
    (hsend : kHas (atPath s (.vf n)).host.sends n = false) (hcause : spoofCause x.cfg (sendFrame d.descs 0 d.frame) = some k) :
    Does (.hostTxFrame (.vf n) d) s (fun t => zGet (chanOf t (pathChan s (.vf n))).ctr (od (0x9600 + n) 3) =
      zGet (atPath s (.vf n)).ctr (od (0x9600 + n) 3) + 1 ∧ (chanOf t (pathChan s (.vf n))).sw = (atPath s (.vf n)).sw) := by
  refine hostTxFrame_does (.inr ⟨n, rfl⟩) hp.path fun t m hsame ht _ => ?_
  obtain ⟨b, hb⟩ : ∃ b, setRr n (arrived m (atPath s (.vf n))) = b := ⟨_, rfl⟩
  have hctr : b.ctr = m := hb ▸ rfl
  have hsw : b.sw = (atPath s (.vf n)).sw := hb ▸ rfl
  have hcheck : spoofCheck n (sendFrame d.descs (sendAt (arrived m (atPath s (.vf n))) n).1 d.frame) (setRr n (arrived m (atPath s (.vf n)))) =
      (none, spoof k (n - 1) n (bump (0x9600 + n) 3 b)) := by
    rw [sendAt_none (c := arrived m (atPath s (.vf n))) hsend, hb]
    exact spoofCheck_spoofed h0 (hb ▸ hx) hcause
  have hgone : txFrameC (pathFn (.vf n)) d (arrived m (atPath s (.vf n))) =
      sendNext n d.descs (sendAt (arrived m (atPath s (.vf n))) n) 1 (spoof k (n - 1) n (bump (0x9600 + n) 3 b)) :=
    txFrameC_spoofed (c := arrived m (atPath s (.vf n))) hp.run hp.turn hread hwell hcheck
  rw [ht, hgone, zGet_sendNext_spoofs, sw_sendNext, zGet_spoof_ring (spoofCause_bounds hcause).2 h0 h65, zGet_bump_same, hctr]
  refine ⟨congrArg (· + 1) (hsame _ (by simp only [od]; omega)), ?_⟩
  have hspoof : Touches [.host, .journal, .ctr, .diag, .emitted] b (spoof k (n - 1) n (bump (0x9600 + n) 3 b)) := by simp
  rw [hspoof .sw (by decide), hsw]

/-- The ring whose turn it is is one of the 65. -/
theorem txTurn_lt {c : Channel} {r : Nat} (h : txTurn c = some r) : r < 65 := by
  obtain ⟨i, -, rfl⟩ := List.mem_map.1 (List.mem_of_find?_eq_some h)
  exact Nat.mod_lt _ (by decide)

/-! ### What each received frame comes to -/

theorem hostRxFrame_written {ch : Chan} {r : Nat} {d : RxFetch} {f : QFrame} (hfail : s.bridge.failed = false) (hspeed : s.bridge.speed ≠ 0)
    (hfind : (chanOf s ch).sw.hostIn.find? (fun x => x.1 == r) = some (r, f)) (hen : (ringGet (chanOf s ch) r).rxEn = true)
    (hperm : r = 0 ∨ ∃ x, kGet (chanOf s ch).sleeves (r - 1) = some x ∧ etherPermitted x.cfg (etherOf f.frame) = true)
    (hbuf : (ringGet (chanOf s ch) r).rxBuf ≠ 0)
    (hroom : cdiv (f.frame.len - 4) (ringGet (chanOf s ch) r).rxBuf ≤ rxFree (ringGet (chanOf s ch) r)) (hread : d.readOk = true) :
    Does (.hostRxFrame ch r d) s (fun t =>
      ringGet (chanOf t ch) r = headFilled (cdiv (f.frame.len - 4) (ringGet (chanOf s ch) r).rxBuf) (ringGet (chanOf s ch) r) ∧
        (chanOf t ch).sw.hostIn = (chanOf s ch).sw.hostIn.erase (r, f) ∧ chanOf t ch.twin = chanOf s ch.twin) := by
  refine hostRxFrame_does hfail hspeed fun t ht htwin => ?_
  obtain ⟨hring, hsw⟩ := rxWrite_keeps (c := frameTaken r f (commitsEnded (chanOf s ch))) (r := r) (f := f)
    (cdiv (f.frame.len - 4) (ringGet (chanOf s ch) r).rxBuf) d.bufs
  rw [ht, rxFrameC_written (c := commitsEnded (chanOf s ch)) hfind hen hperm hbuf hroom hread]
  exact ⟨hring, (congrArg SwitchSt.hostIn hsw).trans rfl, htwin⟩

theorem hostRxFrame_disabled {ch : Chan} {r : Nat} {d : RxFetch} {f : QFrame} (hfail : s.bridge.failed = false) (hspeed : s.bridge.speed ≠ 0)
    (hfind : (chanOf s ch).sw.hostIn.find? (fun x => x.1 == r) = some (r, f)) (hen : (ringGet (chanOf s ch) r).rxEn = false) :
    Does (.hostRxFrame ch r d) s (fun t => ringGet (chanOf t ch) r = ringGet (chanOf s ch) r ∧
      (chanOf t ch).sw.hostIn = (chanOf s ch).sw.hostIn.erase (r, f)) := by
  refine hostRxFrame_does hfail hspeed fun t ht _ => ?_
  rw [ht, rxFrameC_disabled (c := commitsEnded (chanOf s ch)) hfind hen]
  exact ⟨rfl, rfl⟩

end

/-- Settles O30: sends malformed, unread, sent, waiting and spoofed, frames received and dropped, and the vectors of a ring. -/
theorem hostRings : Obligations.host_rings := by
  unfold Obligations.host_rings
  refine ⟨fun s d hp hrun hturn hread hbad => ?_, fun s d hp hrun hturn hread => ?_,
    fun s d hp hrun hturn hread hwell hone hroom hether hsend => ?_,
    fun s d hp hrun hturn hread hwell hroom hether hsend => hostTxFrame_waits ⟨hp.1, hrun, hturn⟩ hread hwell hsend hether hroom,
    fun s n d x k hp hrun hturn hread h0 hwell hx hsend hcause =>
      hostTxFrame_spoofed ⟨hp.1, hrun, hturn⟩ (txTurn_lt hturn) hread h0 hwell hx hsend hcause,
    fun s n d x hp hrun hturn hread h0 hwell hx hsend hcause hone hroom => ?_,
    fun s ch r d f hfail hspeed hfind hen hperm hbuf hroom hread => ?_,
    fun s ch r d f hfail hspeed hfind hen => hostRxFrame_disabled hfail hspeed hfind hen, fun s hp h => ?_, fun s n hp h => ?_⟩
  · refine (hostTxFrame_malformed ⟨hp.1, hrun, hturn⟩ hread hbad).imp fun t ⟨ht, hring, hsend⟩ => ⟨ht, ?_⟩
    simp only [hring]
    exact ⟨rfl, rfl, hsend⟩
  · refine (hostTxFrame_unread ⟨hp.1, hrun, hturn⟩ hread).imp fun t ⟨ht, hring⟩ => ⟨ht, ?_⟩
    simp only [hring]
    exact ⟨rfl, rfl⟩
  · refine (hostTxFrame_sent (f := sendFrame d.descs 0 d.frame) (.inl rfl) ⟨hp.1, hrun, hturn⟩ hread hwell hone
      (fun m => ⟨_, checked_host (c := arrived m (atPath s .pf0)) hsend hether, rfl⟩) hroom).imp fun t ⟨ht, hring, hwb⟩ => ⟨ht, ?_⟩
    have hring' : ringGet (chanOf t (pathChan s .pf0)) 0 = headPast d.descs (ringGet (atPath s .pf0) 0) := hring
    simp only [hring']
    exact ⟨rfl, rfl, hwb, rfl⟩
  · refine (hostTxFrame_sent (f := sendFrame d.descs 0 d.frame) (.inr ⟨n, rfl⟩) ⟨hp.1, hrun, hturn⟩ hread hwell hone
      (fun m => ⟨_, checked_vf (c := arrived m (atPath s (.vf n))) h0 hsend hx hcause, rfl⟩) hroom).imp fun t ⟨ht, hring, _⟩ => ⟨ht, ?_⟩
    have hring' : ringGet (chanOf t (pathChan s (.vf n))) n = headPast d.descs (ringGet (atPath s (.vf n)) n) := hring
    simp only [hring']
    exact ⟨rfl, rfl⟩
  · refine (hostRxFrame_written hfail hspeed hfind hen hperm hbuf hroom hread).imp fun t ⟨ht, hring, hrest⟩ => ⟨ht, ?_⟩
    simp only [hring]
    exact ⟨rfl, rfl, hrest⟩
  · refine does_onPath (f := ringInterruptC 0 false) rfl hp.1 fun t m _ ht => ?_
    rw [ht]
    exact ringInterruptC_tx (c := arrived m (atPath s .pf0)) h
  · refine does_onPath (f := ringInterruptC n true) rfl hp.1 fun t m _ ht => ?_
    rw [ht]
    exact ringInterruptC_rx (c := arrived m (atPath s (.vf n))) h

end Sys2Proof.Machine
end


section
/-! What PTP messages, intervals and pulse edges write (13 R399 to R414). -/
namespace Sys2Proof.Machine
open Sys2Proof

/-- What a message or an interval of PTP, or a pulse edge, writes. -/
abbrev timeParts : List Part :=
  [.time, .sw, .gens, .ingest, .graphs, .lse, .pleat, .host, .journal, .dict, .ctr, .diag, .emitted, .free]

section
variable {A : List Part} {c d : Channel}

theorem touches_correctFollowUp (p : Nat) (h : HeldSync) (m : PtpMsg) (hA : [.sw] ⊆ A) :
    Touches A c (correctFollowUp p h m d) ↔ Touches A c d :=
  Touches.iff (B := [.sw]) (fun q hq => by cases q <;> simp [Part.same, correctFollowUp] at hq ⊢) hA c

@[simp] theorem touches_sendPtp (p ts : Nat) (dst : BitVec 48) (m : PtpMsg) (hA : queueParts ⊆ A) :
    Touches A c (sendPtp p ts dst m d) ↔ Touches A c d := touches_enqueue _ _ _ hA

@[simp] theorem touches_linkDelay (p : Nat) (n : Int) (hA : servoParts ⊆ A) : Touches A c (linkDelay p n d) ↔ Touches A c d :=
  Touches.iff (B := servoParts) (by simp [linkDelay]) hA c

theorem touches_syncReceived (p : Nat) (m : PtpMsg) (rx : Nat) : Touches timeParts c (syncReceivedC p m rx c) := by
  unfold syncReceivedC
  simp only []
  split_ifs <;> simp

theorem touches_followUpReceived (p : Nat) (m : PtpMsg) : Touches timeParts c (followUpReceivedC p m c) := by
  unfold followUpReceivedC
  split
  · simp only []
    split
    · simp
    · split <;> simp [touches_correctFollowUp]
  · exact touches_refl _ _

theorem touches_followUpMatchTimeout (p : Nat) : Touches timeParts c (followUpMatchTimeoutC p c) := by
  unfold followUpMatchTimeoutC
  simp only []
  split <;> simp

theorem touches_announceReceived (p : Nat) (m : PtpMsg) : Touches timeParts c (announceReceivedC p m c) := by
  unfold announceReceivedC
  split <;> simp

theorem touches_announceReceiptTimeout : Touches timeParts c (announceReceiptTimeoutC c) := by
  unfold announceReceiptTimeoutC
  split <;> simp [upTo]

theorem touches_pdelayReqReceived (p : Nat) (m : PtpMsg) (rx : Nat) : Touches timeParts c (pdelayReqReceivedC p m rx c) := by
  unfold pdelayReqReceivedC
  split <;> simp

theorem touches_pdelayRespReceived (p : Nat) (m : PtpMsg) (rx : Nat) : Touches timeParts c (pdelayRespReceivedC p m rx c) := by
  unfold pdelayRespReceivedC
  simp only []
  split_ifs
  · split <;> simp
  all_goals simp

theorem touches_pdelayInterval (p : Nat) : Touches timeParts c (pdelayIntervalC p c) := by
  unfold pdelayIntervalC
  simp only []
  split_ifs <;> simp

theorem touches_holdoverLimit : Touches timeParts c (holdoverLimitC c) := by
  unfold holdoverLimitC
  split
  · split <;> simp [upTo]
  · simp

@[simp] theorem touches_sendMaster (ty seq : Nat) (hA : queueParts ⊆ A) : Touches A c (sendMaster ty seq d) ↔ Touches A c d :=
  Touches.iff (B := queueParts) (Touches.foldl (fun c p => by split <;> simp) _ d) hA c

theorem touches_syncInterval : Touches timeParts c (syncIntervalC c) := by
  unfold syncIntervalC
  split <;> simp

theorem touches_announceInterval : Touches timeParts c (announceIntervalC c) := by
  unfold announceIntervalC
  split <;> simp

theorem touches_pulseActiveEdge (g : Nat) : Touches timeParts c (pulseActiveEdgeC g c) := by
  unfold pulseActiveEdgeC
  simp only []
  split_ifs <;> simp

theorem touches_pulseInactiveEdge (g : Nat) : Touches timeParts c (pulseInactiveEdgeC g c) := by
  unfold pulseInactiveEdgeC
  simp only []
  split
  · split
    · simp
    · split_ifs <;> simp
  · exact touches_refl _ _

/-- A channel's command that writes some parts alone. -/
def chanWrites (A : List Part) (ch : Chan) (i : Instr) : Prop :=
  ∀ s, ∃ d, exec i s = .next (withChan s ch d) ∧ Touches A (chanOf s ch) d

theorem chanWrites_of_onChan {ch : Chan} {i : Instr} {f : Channel → Channel} (hi : ∀ s, exec i s = onChan ch f s)
    (hf : ∀ c, Touches A c (f c)) (hA : Part.epUJ ∈ A) : chanWrites A ch i := fun s =>
  ⟨f (commitsEnded (chanOf s ch)), (hi s).trans (onChan_next ch f s),
    ((touches_commitsEnded (by simpa using hA)).2 (touches_refl _ _)).trans (hf _)⟩

theorem chanWrites_next {ch : Chan} {i : Instr} {s t : State} (h : chanWrites A ch i) (ht : exec i s = .next t) :
    Touches A (chanOf s ch) (chanOf t ch) := by
  obtain ⟨d, hd, htouch⟩ := h s
  obtain rfl : withChan s ch d = t := Host.Outcome.next.inj (hd.symm.trans ht)
  rwa [chanOf_withChan]

theorem timeCommand_writes {i : Instr} {ch : Chan} (h : timeCommand i = some ch) : chanWrites (.epUJ :: timeParts) ch i := by
  have hon {i : Instr} {ch : Chan} {f : Channel → Channel} (hi : ∀ s, exec i s = onChan ch f s) (hf : ∀ c, Touches timeParts c (f c)) :
      chanWrites (.epUJ :: timeParts) ch i :=
    chanWrites_of_onChan hi (fun c => (hf c).mono (List.subset_cons_self _ _)) (List.mem_cons_self ..)
  cases i <;> simp only [timeCommand, Option.some.injEq, reduceCtorEq] at h <;> subst h
  case syncReceived p m rx => exact hon (f := syncReceivedC p m rx) (fun _ => rfl) fun _ => touches_syncReceived p m rx
  case followUpReceived p m => exact hon (f := followUpReceivedC p m) (fun _ => rfl) fun _ => touches_followUpReceived p m
  case followUpMatchTimeout p => exact hon (f := followUpMatchTimeoutC p) (fun _ => rfl) fun _ => touches_followUpMatchTimeout p
  case announceReceived p m => exact hon (f := announceReceivedC p m) (fun _ => rfl) fun _ => touches_announceReceived p m
  case announceReceiptTimeout => exact hon (f := announceReceiptTimeoutC) (fun _ => rfl) fun _ => touches_announceReceiptTimeout
  case pdelayReqReceived p m rx => exact hon (f := pdelayReqReceivedC p m rx) (fun _ => rfl) fun _ => touches_pdelayReqReceived p m rx
  case pdelayRespReceived p m rx => exact hon (f := pdelayRespReceivedC p m rx) (fun _ => rfl) fun _ => touches_pdelayRespReceived p m rx
  case pdelayInterval p => exact hon (f := pdelayIntervalC p) (fun _ => rfl) fun _ => touches_pdelayInterval p
  case holdoverLimit => exact hon (f := holdoverLimitC) (fun _ => rfl) fun _ => touches_holdoverLimit
  case pulseActiveEdge g => exact hon (f := pulseActiveEdgeC g) (fun _ => rfl) fun _ => touches_pulseActiveEdge g
  case pulseInactiveEdge g => exact hon (f := pulseInactiveEdgeC g) (fun _ => rfl) fun _ => touches_pulseInactiveEdge g
  case syncInterval => exact hon (f := syncIntervalC) (fun _ => rfl) fun _ => touches_syncInterval
  case announceInterval => exact hon (f := announceIntervalC) (fun _ => rfl) fun _ => touches_announceInterval

end

end Sys2Proof.Machine
end


section
/-! What CAN events write: the ports and what they raise, and of the dispatcher its banks alone (17 R515 to R526). -/
namespace Sys2Proof.Machine
open Sys2Proof

section
variable {A : List Part} {c d : Channel}

/-! ### The dispatcher but for its banks -/

theorem bankless_of_touches (h : Touches A c d) (hA : Part.disp ∉ A) : d.disp.bankless = c.disp.bankless := congrArg DispSt.bankless (h .disp hA)

theorem canPut_bankless (n b : Nat) (p : CanPort) (x : CanBuf) : (putBuf n b p x c).disp.bankless = c.disp.bankless := rfl

theorem canCopy_bankless (n b : Nat) : (canCopy n b c).disp.bankless = c.disp.bankless := by
  have hpush (k : Nat) (l : List (Nat × Token)) (g : GraphRt) (e : Channel) : (pushSources k l g e).disp.bankless = e.disp.bankless :=
    present_bankless ..
  unfold canCopy
  split
  · split
    · simp only []
      split_ifs
      · exact hpush ..
      · rfl
    · rfl
  · rfl

theorem canEnd_bankless (n b code : Nat) : (canEnd n b code c).disp.bankless = c.disp.bankless := by
  have hpost (r : MRec) (e : Channel) : (post r e).disp.bankless = e.disp.bankless :=
    bankless_of_touches ((touches_post r (List.Subset.refl _)).2 (touches_refl _ e)) (by decide)
  unfold canEnd
  split
  · rfl
  · split
    · rfl
    · simp only []
      split_ifs
      · rw [hpost, canCopy_bankless, canPut_bankless]
      · rw [canCopy_bankless, canPut_bankless]

theorem canUnpend_bankless (n b : Nat) : (canUnpend n b c).disp.bankless = c.disp.bankless := by
  unfold canUnpend
  split <;> rfl

theorem canRequest_bankless (k n b : Nat) (pay : Option (List U32)) : (canRequest k n b pay c).disp.bankless = c.disp.bankless := by
  have htake (e : Channel) : (canTake n b pay e).disp.bankless = e.disp.bankless := bankless_of_touches (A := [.can]) (by simp) (by decide)
  have hspoof (e : Channel) : (spoof 6 k (64 * (n - 1) + b) e).disp.bankless = e.disp.bankless :=
    bankless_of_touches (A := [.host, .journal, .ctr, .diag, .emitted]) (by simp) (by decide)
  unfold canRequest
  split
  · rfl
  · split
    · rfl
    · simp only []
      split_ifs <;> simp only [canEnd_bankless, canUnpend_bankless, htake, hspoof, canPut_bankless]

theorem canRelease_bankless (n b : Nat) : (canRelease n b c).disp.bankless = c.disp.bankless := by
  have hfold (l : List (Nat × Option (List U32))) (e : Channel) :
      (l.foldl (fun c r => canRequest r.1 n b r.2 c) e).disp.bankless = e.disp.bankless := by
    induction l generalizing e with
    | nil => rfl
    | cons r l ih => rw [List.foldl_cons, ih, canRequest_bankless]
  unfold canRelease
  split
  · rfl
  · split
    · rfl
    · rw [hfold, canPut_bankless]

theorem endPending_bankless (n code : Nat) (only : CanBuf → Bool) : (endPending n code only c).disp.bankless = c.disp.bankless := by
  unfold endPending
  split
  · rfl
  · exact foldl_keeps (g := fun e => e.disp.bankless) (fun e x => by rw [canEnd_bankless, canUnpend_bankless]) _ _

/-! ### What each event writes -/

/-- What a CAN event leaves: everything but the parts a port writes, and the dispatcher but for its banks. -/
def CanWrites (c d : Channel) : Prop := Touches (.epUJ :: canParts) c d ∧ d.disp.bankless = c.disp.bankless

theorem CanWrites.of_touches {B : List Part} (h : Touches B c d) (hB : B ⊆ .epUJ :: canParts) (hdisp : Part.disp ∉ B) : CanWrites c d :=
  ⟨h.mono hB, bankless_of_touches h hdisp⟩

theorem CanWrites.refl : CanWrites c c := ⟨touches_refl _ _, rfl⟩

/-- What a port writes of itself, and what it raises. -/
abbrev portParts : List Part := [.can, .host, .journal, .ctr, .diag, .emitted, .free]

theorem portParts_subset : portParts ⊆ .epUJ :: canParts := by decide

theorem touches_bufTake_port (n b : Nat) (w : List U32) : Touches portParts c (bufTake n b w c) := by
  unfold bufTake
  split
  · simp
  · split
    · simp
    · simp only []
      split_ifs
      · split <;> simp
      · simp

theorem touches_canReceive_port (n : Nat) (f : CanFrame) : Touches portParts c (canReceive n f c) := by
  unfold canReceive
  split
  · simp
  · simp only []
    generalize (if f.rtr = true then ([] : List Nat) else _) = hits
    split_ifs
    · simp
    · refine Touches.trans ?_ (Touches.foldl (fun c x => touches_bufTake_port _ _ _) _ _)
      simp

theorem touches_canFrameReceived (n : Nat) (f : CanFrame) : Touches portParts c (canFrameReceivedC n f c) := by
  unfold canFrameReceivedC
  split
  · simp
  · simp only []
    split_ifs
    · refine Touches.trans ?_ (touches_canReceive_port _ _)
      simp
    · refine Touches.trans ?_ (touches_canReceive_port _ _)
      simp
    · exact touches_canReceive_port _ _
    · simp

@[simp] theorem touches_injPut (i : Nat) (x : Injector) (hA : [.diag] ⊆ A) : Touches A c (injPut i x d) ↔ Touches A c d :=
  Touches.iff (B := [.diag]) (by simp [injPut]) hA c

@[simp] theorem touches_injDraw (i : Nat) (hA : [.diag, .ctr] ⊆ A) : Touches A c (injDraw i d).2 ↔ Touches A c d := by
  refine Touches.iff (B := [.diag, .ctr]) ?_ hA c
  unfold injDraw injNumber
  simp only []
  split <;> simp

@[simp] theorem touches_injNumbers (i n : Nat) (hA : [.diag] ⊆ A) : Touches A c (injNumbers i n d).2 ↔ Touches A c d := by
  induction n generalizing d with
  | zero => exact Iff.rfl
  | succ n ih =>
    rw [injNumbers]
    exact ih.trans (touches_injPut _ _ hA)

theorem touches_injCan (n : Nat) (f : CanFrame) : Touches portParts c (injCan n f c).2 := by
  unfold injCan
  simp only []
  split_ifs <;> simp

theorem canWrites_canSourceCopy (i : Nat) (stall : Bool) : CanWrites c (canSourceCopyC i stall c) := by
  refine ⟨?_, ?_⟩ <;> unfold canSourceCopyC <;> simp only []
  · split
    · simp
    · split
      · simp
      · split_ifs <;> simp
  · split
    · rfl
    · split
      · rfl
      · split_ifs <;> simp only [canRelease_bankless, canCopy_bankless, canPut_bankless]

theorem canWrites_canAttemptStart (n : Nat) (stall : Bool) : CanWrites c (canAttemptStartC n stall c) := by
  have hbump (i sub : Nat) (e : Channel) : (bump i sub e).disp.bankless = e.disp.bankless := rfl
  refine ⟨?_, ?_⟩ <;> unfold canAttemptStartC
  · split
    · simp
    · split
      · simp
      · split
        · simp
        · split
          · simp
          · simp only []
            split_ifs <;> simp
  · split
    · rfl
    · split
      · rfl
      · split
        · rfl
        · split
          · rfl
          · simp only []
            split_ifs <;> simp only [canRelease_bankless, hbump, canPut_bankless]

theorem canWrites_canLockTimeout (i : Nat) : CanWrites c (canLockTimeoutC i c) := by
  have hraise (n : Nat) (e : Channel) : (raiseLimited 74 0xFF i 0 n e).disp.bankless = e.disp.bankless :=
    bankless_of_touches ((touches_raiseLimited 74 0xFF i 0 n (List.Subset.refl _)).2 (touches_refl _ e)) (by decide)
  have hbump (i sub : Nat) (e : Channel) : (bump i sub e).disp.bankless = e.disp.bankless := rfl
  refine ⟨?_, ?_⟩ <;> unfold canLockTimeoutC <;> simp only []
  · split
    · simp
    · split
      · simp
      · split <;> simp
  · split
    · rfl
    · split
      · rfl
      · split
        · rw [hraise, hbump, canRelease_bankless]
        · rfl

theorem touches_canReceiveError (n : Nat) (dominant : Bool) : Touches portParts c (canReceiveErrorC n dominant c) := by
  unfold canReceiveErrorC
  split
  · simp
  · split <;> simp

theorem touches_busOffRecovery (n : Nat) : Touches portParts c (busOffRecoveryC n c) := by
  unfold busOffRecoveryC
  split
  · simp
  · split <;> simp

theorem touches_canPortReinit (n : Nat) : Touches portParts c (canPortReinitC n c) := by
  unfold canPortReinitC
  split
  · simp
  · simp only []
    split <;> simp

theorem touches_heartbeat (n : Nat) : Touches portParts c (heartbeatC n c) := by
  unfold heartbeatC
  split
  · simp
  · split <;> simp

theorem canWrites_canAttemptEnd (n outcome : Nat) : CanWrites c (canAttemptEndC n outcome c) := by
  have hport {b e : Channel} (h : Touches portParts b e) : e.disp.bankless = b.disp.bankless := bankless_of_touches h (by decide)
  have hreceive (f : CanFrame) (e : Channel) : (canReceive n f e).disp.bankless = e.disp.bankless := hport (touches_canReceive_port _ _)
  have hcount (tec rc : Nat) (p : CanPort) : (canCounters n tec rc (putCan n p c)).disp.bankless = c.disp.bankless := hport (by simp)
  have hbump (i sub : Nat) (e : Channel) : (bump i sub e).disp.bankless = e.disp.bankless := rfl
  have hemit (x : Emission) (e : Channel) : (emit x e).disp.bankless = e.disp.bankless := rfl
  refine ⟨?_, ?_⟩ <;> unfold canAttemptEndC
  · split
    · simp
    · split
      · simp
      · simp only []
        generalize (if 255 < tecAfter _ outcome then 7 else outcome) = code
        generalize outcomeSub code = sub
        cases sub <;> split_ifs <;> simp
  · split
    · rfl
    · split
      · rfl
      · simp only []
        generalize (if 255 < tecAfter _ outcome then 7 else outcome) = code
        generalize outcomeSub code = sub
        cases sub <;> split_ifs <;> simp only [endPending_bankless, hreceive, hemit, canEnd_bankless, hbump, hcount]

/-! ### The events -/

theorem CanWrites.trans {e : Channel} (h : CanWrites c d) (h2 : CanWrites d e) : CanWrites c e := ⟨h.1.trans h2.1, h2.2.trans h.2⟩

theorem CanWrites.of_port (h : Touches portParts c d) : CanWrites c d := .of_touches h portParts_subset (by decide)

theorem canWrites_commitsEnded : CanWrites c (commitsEnded c) :=
  .of_touches (B := [.epUJ]) ((touches_commitsEnded (List.Subset.refl _)).2 (touches_refl _ _)) (by decide) (by decide)

theorem canWrites_next {ch : Chan} {i : Instr} {f : Channel → Channel} {s t : State} (hi : exec i s = onChan ch f s)
    (hf : ∀ c, CanWrites c (f c)) (ht : exec i s = .next t) : CanWrites (chanOf s ch) (chanOf t ch) := by
  obtain rfl : withChan s ch (f (commitsEnded (chanOf s ch))) = t := Host.Outcome.next.inj ((onChan_next ch f s).symm.trans (hi.symm.trans ht))
  rw [chanOf_withChan]
  exact canWrites_commitsEnded.trans (hf _)

/-- A frame through the port's injector. -/
theorem canWrites_canFrameReceived (n : Nat) (f : CanFrame) :
    CanWrites c ((injCan n f c).1.foldl (fun c f => canFrameReceivedC n f c) (injCan n f c).2) :=
  .of_port ((touches_injCan n f).trans (Touches.foldl (fun _ f => touches_canFrameReceived n f) _ _))

theorem canCommand_writes {i : Instr} {ch : Chan} {s t : State} (h : canCommand i = some ch) (ht : exec i s = .next t) :
    CanWrites (chanOf s ch) (chanOf t ch) := by
  cases i <;> simp only [canCommand, Option.some.injEq, reduceCtorEq] at h <;> subst h
  case canFrameReceived n f =>
    exact canWrites_next (f := fun c => (injCan n f c).1.foldl (fun c f => canFrameReceivedC n f c) (injCan n f c).2) rfl
      (fun _ => canWrites_canFrameReceived n f) ht
  case canSourceCopy x => exact canWrites_next (f := canSourceCopyC x.num x.stall) rfl (fun _ => canWrites_canSourceCopy _ _) ht
  case canLockTimeout i => exact canWrites_next (f := canLockTimeoutC i) rfl (fun _ => canWrites_canLockTimeout _) ht
  case canAttemptStart x => exact canWrites_next (f := canAttemptStartC x.num x.stall) rfl (fun _ => canWrites_canAttemptStart _ _) ht
  case canAttemptEnd n o => exact canWrites_next (f := canAttemptEndC n o) rfl (fun _ => canWrites_canAttemptEnd _ _) ht
  case busOffRecovery n => exact canWrites_next (f := busOffRecoveryC n) rfl (fun _ => .of_port (touches_busOffRecovery _)) ht
  case canPortReinit n => exact canWrites_next (f := canPortReinitC n) rfl (fun _ => .of_port (touches_canPortReinit _)) ht
  case nmtCommand n code => exact canWrites_next (f := fun c => c) rfl (fun _ => .refl) ht
  case heartbeat n => exact canWrites_next (f := heartbeatC n) rfl (fun _ => .of_port (touches_heartbeat _)) ht
  case canReceiveError n dom => exact canWrites_next (f := canReceiveErrorC n dom) rfl (fun _ => .of_port (touches_canReceiveError _ _)) ht

/-- Dispatchers that agree but for their banks. -/
theorem disp_of_bankless {x y : DispSt} (h : y.bankless = x.bankless) : y = { x with banks := y.banks } :=
  (congrArg (fun z : DispSt => { z with banks := y.banks }) h : { y.bankless with banks := y.banks } = { x.bankless with banks := y.banks })

end

/-- Settles O9: PTP messages, intervals and pulse edges, and CAN events, by the parts they write. -/
theorem frameOfTimeAndCanCommands : Obligations.frame_of_time_and_can_commands := by
  unfold Obligations.frame_of_time_and_can_commands
  refine ⟨fun i ch s t hi ht => ?_, fun i ch s t hi ht => ?_⟩
  · have h := chanWrites_next (timeCommand_writes hi) ht
    exact ⟨h .boot (by decide), h .slots (by decide), h .paths (by decide), h .disp (by decide), h .pub (by decide), h .retain (by decide),
      h .seam (by decide), h .sleeves (by decide), h .can (by decide), h .keysNv (by decide), h .keys (by decide), h .ledgerNv (by decide),
      h .psu (by decide)⟩
  · obtain ⟨h, hdisp⟩ := canCommand_writes hi ht
    exact ⟨h .boot (by decide), h .slots (by decide), h .time (by decide), h .gens (by decide), h .sw (by decide), h .ingest (by decide),
      h .paths (by decide), disp_of_bankless hdisp, h .pub (by decide), h .lse (by decide), h .retain (by decide), h .sleeves (by decide),
      h .pleat (by decide), h .keysNv (by decide), h .keys (by decide), h .ledgerNv (by decide), h .psu (by decide)⟩

end Sys2Proof.Machine
end


section
/-! What the switch's intervals and timeouts, and the commands of the Ledger, the Pleat, the snapshots and the injectors write
(14 R432 to R440; 18 R535 to R552; 20 R596 to R606; 22 R643 to R649). -/
namespace Sys2Proof.Machine
open Sys2Proof

/-- What an interval or a timeout of the switch writes. -/
abbrev tableParts : List Part := [.time, .sw, .host, .journal, .dict, .ctr, .diag, .emitted, .free]

/-- What a command of the Ledger, the Pleat, the snapshots or the injectors writes. -/
abbrev recordParts : List Part :=
  [.time, .pleat, .epUJ, .ledgerNv, .ledger, .temp, .host, .journal, .dict, .ctr, .diag, .emitted]

section
variable {A : List Part} {c d : Channel}

theorem touches_setSw (x : SwitchSt) : Touches [.sw] c { c with sw := x } := fun q hq => by cases q <;> simp [Part.same] at hq ⊢

theorem touches_upTo_self (t : Nat) : Touches [.time] c (upTo t c) := (touches_upTo t (List.Subset.refl _)).2 (touches_refl _ c)

theorem touches_pauseReceived (p quanta : Nat) : Touches tableParts c (pauseReceivedC p quanta c) := by
  unfold pauseReceivedC
  simp only []
  split_ifs <;> simp

theorem touches_pauseExpiry (p : Nat) : Touches tableParts c (pauseExpiryC p c) := by
  unfold pauseExpiryC
  simp only []
  split <;> simp

theorem touches_preemptionVerifyComplete (p : Nat) (ok : Bool) : Touches tableParts c (preemptionVerifyCompleteC p ok c) := by
  unfold preemptionVerifyCompleteC
  simp only []
  split <;> simp

theorem touches_lifeCheckInterval (g : Nat) : Touches tableParts c (lifeCheckIntervalC g c) := by
  unfold lifeCheckIntervalC
  split <;> simp [supervise]

theorem touches_nodeForget (g : Nat) (mac : BitVec 48) : Touches tableParts c (nodeForgetC g mac c) := by
  unfold nodeForgetC
  simp only []
  split <;> simp

theorem touches_entryForget (g : Nat) (mac : BitVec 48) (seq : Nat) : Touches tableParts c (entryForgetC g mac seq c) := by
  unfold entryForgetC
  simp only []
  split <;> simp

theorem touches_learnedEntryAgeOut (mac : BitVec 48) (vid : Nat) : Touches tableParts c (learnedEntryAgeOutC mac vid c) := by
  unfold learnedEntryAgeOutC
  split
  · simp
  · exact ((touches_upTo_self _).mono (by decide)).trans ((touches_setSw _).mono (by decide))

theorem tableCommand_writes {i : Instr} {ch : Chan} (h : tableCommand i = some ch) : chanWrites (.epUJ :: tableParts) ch i := by
  have hon {i : Instr} {ch : Chan} {f : Channel → Channel} (hi : ∀ s, exec i s = onChan ch f s) (hf : ∀ c, Touches tableParts c (f c)) :
      chanWrites (.epUJ :: tableParts) ch i :=
    chanWrites_of_onChan hi (fun c => (hf c).mono (List.subset_cons_self _ _)) (List.mem_cons_self ..)
  cases i <;> simp only [tableCommand, Option.some.injEq, reduceCtorEq] at h <;> subst h
  case pauseReceived p q => exact hon (f := pauseReceivedC p q) (fun _ => rfl) fun _ => touches_pauseReceived p q
  case pauseExpiry p => exact hon (f := pauseExpiryC p) (fun _ => rfl) fun _ => touches_pauseExpiry p
  case preemptionVerifyComplete p ok => exact hon (f := preemptionVerifyCompleteC p ok) (fun _ => rfl) fun _ => touches_preemptionVerifyComplete p ok
  case lifeCheckInterval g => exact hon (f := lifeCheckIntervalC g) (fun _ => rfl) fun _ => touches_lifeCheckInterval g
  case nodeForget g mac => exact hon (f := nodeForgetC g mac) (fun _ => rfl) fun _ => touches_nodeForget g mac
  case entryForget g mac seq => exact hon (f := entryForgetC g mac seq) (fun _ => rfl) fun _ => touches_entryForget g mac seq
  case learnedEntryAgeOut mac vid => exact hon (f := learnedEntryAgeOutC mac vid) (fun _ => rfl) fun _ => touches_learnedEntryAgeOut mac vid

/-! ### Records -/

theorem touches_histogramSample (q : Nat) (milli : Int) : Touches recordParts c (histogramSampleC q milli c) := by
  unfold histogramSampleC
  split <;> simp

theorem touches_pleatRowCapture (n : Nat) : Touches recordParts c (pleatRowCaptureC n c) := by
  unfold pleatRowCaptureC
  split
  · simp
  · simp only []
    split_ifs <;> simp [putDef]

theorem touches_rearmComplete (n : Nat) : Touches recordParts c (rearmCompleteC n c) := by
  unfold rearmCompleteC
  split
  · simp
  · split
    · exact Touches.trans (by simp) (Touches.foldl (fun c h => by simp) _ _)
    · simp

theorem touches_manualTriggerInstant : Touches recordParts c (manualTriggerInstantC c) := by
  unfold manualTriggerInstantC
  split <;> simp

theorem touches_storeWriteStart : Touches recordParts c (storeWriteStartC c) := by
  unfold storeWriteStartC
  split
  · split
    · simp
    · split <;> simp
  · simp

theorem touches_storeWriteComplete : Touches recordParts c (storeWriteCompleteC c) := by
  unfold storeWriteCompleteC
  split <;> simp

theorem touches_ledgerBatch : Touches recordParts c (ledgerBatchC c) := by
  unfold ledgerBatchC
  split <;> simp

theorem touches_ledgerBatchRetry : Touches recordParts c (ledgerBatchRetryC c) := by
  unfold ledgerBatchRetryC
  split <;> simp

theorem touches_snapshotLatch : Touches recordParts c (snapshotLatchC c) := by
  unfold snapshotLatchC
  split
  · simp
  · split <;> simp

theorem touches_snapshotCopyComplete : Touches recordParts c (snapshotCopyCompleteC c) := by
  unfold snapshotCopyCompleteC
  split <;> simp

theorem touches_injectorDurationExpiry (i : Nat) : Touches recordParts c (injectorDurationExpiryC i c) := by
  unfold injectorDurationExpiryC
  simp only []
  split <;> simp

theorem recordCommand_writes {i : Instr} {ch : Chan} (h : recordCommandOf i = some ch) : chanWrites recordParts ch i := by
  have hon {i : Instr} {ch : Chan} {f : Channel → Channel} (hi : ∀ s, exec i s = onChan ch f s) (hf : ∀ c, Touches recordParts c (f c)) :
      chanWrites recordParts ch i := chanWrites_of_onChan hi hf (by decide)
  cases i <;> simp only [recordCommandOf, Option.some.injEq, reduceCtorEq] at h
  case pleatRowCapture x n =>
    obtain ⟨ch', errs⟩ := x
    cases errs with
    | cons e l => simp at h
    | nil =>
      obtain rfl : ch' = ch := by simpa using h
      exact hon (f := pleatRowCaptureC n) (fun _ => rfl) fun _ => touches_pleatRowCapture n
  all_goals subst h
  case histogramSample q v => exact hon (f := histogramSampleC q v) (fun _ => rfl) fun _ => touches_histogramSample q v
  case rearmComplete n => exact hon (f := rearmCompleteC n) (fun _ => rfl) fun _ => touches_rearmComplete n
  case manualTriggerInstant => exact hon (f := manualTriggerInstantC) (fun _ => rfl) fun _ => touches_manualTriggerInstant
  case storeWriteStart => exact hon (f := storeWriteStartC) (fun _ => rfl) fun _ => touches_storeWriteStart
  case storeWriteComplete => exact hon (f := storeWriteCompleteC) (fun _ => rfl) fun _ => touches_storeWriteComplete
  case ledgerBatch => exact hon (f := ledgerBatchC) (fun _ => rfl) fun _ => touches_ledgerBatch
  case ledgerBatchRetry => exact hon (f := ledgerBatchRetryC) (fun _ => rfl) fun _ => touches_ledgerBatchRetry
  case snapshotLatch => exact hon (f := snapshotLatchC) (fun _ => rfl) fun _ => touches_snapshotLatch
  case snapshotCopyComplete => exact hon (f := snapshotCopyCompleteC) (fun _ => rfl) fun _ => touches_snapshotCopyComplete
  case injectorDurationExpiry n => exact hon (f := injectorDurationExpiryC n) (fun _ => rfl) fun _ => touches_injectorDurationExpiry n

end

/-- Settles O10: the switch's intervals and timeouts, and the commands of the records, by the parts they write. -/
theorem frameOfSwitchAndRecordCommands : Obligations.frame_of_switch_and_record_commands := by
  unfold Obligations.frame_of_switch_and_record_commands
  refine ⟨fun i ch s t hi ht => ?_, fun i ch s t hi ht => ?_⟩
  · have h := chanWrites_next (tableCommand_writes hi) ht
    exact ⟨h .boot (by decide), h .slots (by decide), h .gens (by decide), h .ingest (by decide), h .paths (by decide), h .graphs (by decide),
      h .disp (by decide), h .pub (by decide), h .lse (by decide), h .retain (by decide), h .seam (by decide), h .sleeves (by decide),
      h .can (by decide), h .pleat (by decide), h .keysNv (by decide), h .keys (by decide), h .ledgerNv (by decide), h .psu (by decide)⟩
  · have h := chanWrites_next (recordCommand_writes hi) ht
    exact ⟨h .boot (by decide), h .slots (by decide), h .gens (by decide), h .sw (by decide), h .ingest (by decide), h .paths (by decide),
      h .graphs (by decide), h .disp (by decide), h .pub (by decide), h .lse (by decide), h .retain (by decide), h .seam (by decide),
      h .sleeves (by decide), h .can (by decide), h .keysNv (by decide), h .keys (by decide), h .psu (by decide)⟩

end Sys2Proof.Machine
end


section
/-! The records of the Seam: how one arrives, and what each does on the channel that takes it (12 R370 to R375, R383, R393). -/
namespace Sys2Proof.Machine
open Sys2Proof

/-! ### Arrival -/

/-- The channel as it takes a record of its twin: counted, and with the twin's mode. -/
def received (s : State) (ch : Chan) : Channel :=
  bump 0x2800 0x15 { commitsEnded (chanOf s ch) with
    boot := { (chanOf s ch).boot with twinMode := BitVec.ofNat 8 (modeCode (chanOf s ch.twin).boot.mode) } }

section
variable {α : Type} {s : State} {ch : Chan} {r : MRec} {rest : List MRec} {pick : MRec → Option α} {f : α → Channel → Channel → Channel} {x : α}
  {P : State → Prop} {i : Instr}

theorem injRecord_unarmed {c : Channel} (h : (injGet c 12).armed = false) : injRecord c = (false, c) := by
  rw [injRecord, h]
  rfl

theorem pick_head (h : RecordReady s ch r rest) (hpick : pick r = some x) : (chanOf s ch.twin).seam.out.head?.bind pick = some x := by
  rw [h.1]
  exact hpick

/-- A record that is ready and arrives intact: the sender's list loses it, and the receiver applies it. -/
theorem does_record (hi : exec i s = recv ch true pick f s) (h : RecordReady s ch r rest) (hpick : pick r = some x)
    (hP : ∀ t, chanOf t ch = f x (shiftOut (chanOf s ch.twin)) (received s ch) → (chanOf t ch.twin).seam.out = rest → t.supply = s.supply →
      t.bridge = s.bridge → P t) : Does i s P := by
  have hhead := pick_head h hpick
  obtain ⟨hout, hpres, hpow, hinj, -⟩ := h
  have hrecord := injRecord_unarmed hinj
  obtain ⟨c, hrecv, hc⟩ := recv_taken (f := f) hhead hpres hpow (congrArg Prod.fst hrecord)
  rw [hrecord] at hrecv
  refine ⟨_, hi.trans hrecv, hP _ ?_ ?_ ?_ ?_⟩
  · rw [chanOf_withChan, hc]
    rfl
  · rw [(onlyChan_withChan _ ch _).1, chanOf_withChan, shiftOut, hout]
    rfl
  · rw [(onlyChan_withChan _ ch _).2.1, (onlyChan_withChan _ ch.twin _).2.1]
  · rw [(onlyChan_withChan _ ch _).2.2.1, (onlyChan_withChan _ ch.twin _).2.2.1]

theorem twin_twin (ch : Chan) : ch.twin.twin = ch := by cases ch <;> rfl

/-- A record that is ready and fails: it stays with the sender, which counts it (12 R370). -/
theorem does_record_spoiled (hi : exec i s = recv ch false pick f s) (h : RecordReady s ch r rest) (hpick : pick r = some x) :
    Does i s (fun t => (chanOf t ch.twin).seam.out = r :: rest ∧ chanOf t ch = chanOf s ch ∧
      zGet (chanOf t ch.twin).ctr (od 0x2800 0x16) = zGet (chanOf s ch.twin).ctr (od 0x2800 0x16) + 1) := by
  have hhead := pick_head h hpick
  obtain ⟨hout, hpres, hpow, hinj, -⟩ := h
  have hrecv : recv ch false pick f s = .next (withChan s ch.twin (bump 0x2800 0x16 (chanOf s ch.twin))) := by
    simp [recv, hhead, hpres, hpow, injRecord_unarmed hinj]
  refine ⟨_, hi.trans hrecv, ?_⟩
  have hother := (onlyChan_withChan s ch.twin (bump 0x2800 0x16 (chanOf s ch.twin))).1
  rw [twin_twin] at hother
  dsimp only
  rw [chanOf_withChan, hother, zGet_bump_same]
  exact ⟨hout, rfl, rfl⟩

/-- The FINAL record reaches a channel that is not still told that its twin holds control. -/
theorem exec_finalRecord (ok : Bool) (h : RecordReady s ch r rest) : exec (.finalRecord ch ok) s =
    recv ch ok (fun r => match r with | .final l => some l | _ => none) (fun l _ c => finalKnown l c) s := by
  obtain ⟨-, -, -, -, hhold⟩ := h
  have hguard : ((chanOf s ch).seam.takeover.isNone && (chanOf s ch).seam.twinHold) = false := by
    rcases hhold with h | h
    · cases ht : (chanOf s ch).seam.takeover with
      | none => exact absurd ht h
      | some _ => rfl
    · rw [h, Bool.and_false]
  show execFinalRecord ch ok s = _
  rw [execFinalRecord, hguard]
  rfl

/-- Whatever the record, its command takes it as `recv` says. -/
theorem recordCommand_recv (ok : Bool) (ps : Int) (h : RecordReady s ch r rest) :
    ∃ (α : Type) (pick : MRec → Option α) (f : α → Channel → Channel → Channel) (x : α),
      exec (recordCommand ch ok ps r) s = recv ch ok pick f s ∧ pick r = some x := by
  cases r
  case final l => exact ⟨_, _, _, l, exec_finalRecord ok h, rfl⟩
  case hostCmd m => exact ⟨_, _, _, _, (rfl : _ = execHostCommandRecord ch ok s).trans rfl, rfl⟩
  case lifecycle n a g t => exact ⟨_, _, _, _, (rfl : _ = execSleeveLifecycleRecord ch ok s).trans rfl, rfl⟩
  case keyChange k b t => exact ⟨_, _, _, _, (rfl : _ = execKeySlotChangeRecord ch ok s).trans rfl, rfl⟩
  case confirm sv n st sq smp => exact ⟨_, _, _, _, (rfl : _ = execConfirmationRecord ch ok s).trans rfl, rfl⟩
  case canOutcome n b st t => exact ⟨_, _, _, _, (rfl : _ = execCanOutcomeRecord ch ok s).trans rfl, rfl⟩
  case digest d => exact ⟨_, _, _, _, (rfl : _ = execDigestRecord ch ok s).trans rfl, rfl⟩
  case alignment t => exact ⟨_, _, _, _, (rfl : _ = execAlignmentRecord ch ok ps s).trans rfl, rfl⟩
  case retainDigest n t v => exact ⟨_, _, _, _, (rfl : _ = execRetainDigestRecord ch ok s).trans rfl, rfl⟩
  case mirrorSet m => exact ⟨_, _, _, _, (rfl : _ = execMirrorSetRecord ch ok s).trans rfl, rfl⟩

end

/-! ### What is read of the channel that takes a record -/

section
variable {s : State} {ch : Chan}

theorem received_applies : applies (received s ch) = applies (chanOf s ch) := rfl
theorem received_seam : (received s ch).seam = (chanOf s ch).seam := rfl

theorem zGet_received_other {k : Nat} (h : k ≠ od 0x2800 0x15) : zGet (received s ch).ctr k = zGet (chanOf s ch).ctr k :=
  zGet_bump_other _ _ _ h

end

/-! ### Digests -/

section
variable {c : Channel}

/-- A disagreement counts once, and leaves the digests that wait (12 R375). -/
theorem disagree_counts (cls t : Nat) (ss : List Nat) : (disagree cls t ss c).seam.digests = c.seam.digests ∧
    zGet (disagree cls t ss c).ctr (od 0x2800 0x0A) = zGet c.ctr (od 0x2800 0x0A) + 1 := by
  have hraised (x : Nat) : (raiseLimited 8 x cls 0 0 (setRoFF 0x2800 0x10 cls (setRoFF 0x2800 0x0F x (setRo 0x2800 0x0E t (bump 0x2800 0x0A c))))).seam = c.seam ∧
      zGet (raiseLimited 8 x cls 0 0 (setRoFF 0x2800 0x10 cls (setRoFF 0x2800 0x0F x (setRo 0x2800 0x0E t (bump 0x2800 0x0A c))))).ctr (od 0x2800 0x0A) =
        zGet c.ctr (od 0x2800 0x0A) + 1 := by
    constructor
    · rw [raiseLimited_seam, setRoFF_seam, setRoFF_seam, setRo_seam, bump_seam]
    · rw [zGet_raiseLimited_other _ _ _ _ _ _ (by decide), setRoFF_ctr, setRoFF_ctr, setRo_ctr, zGet_bump_same]
  obtain ⟨hseam, hctr⟩ := hraised (ss.head?.getD 0xFF)
  replace hseam := congrArg SeamSt.digests hseam
  unfold disagree
  simp only []
  generalize raiseLimited 8 (ss.head?.getD 0xFF) cls 0 0 _ = e at hseam hctr ⊢
  split
  · exact ⟨hseam, hctr⟩
  · split_ifs
    · exact ⟨hseam, hctr⟩
    · exact ⟨hseam, (zGet_bump_other _ _ _ (by decide)).trans hctr⟩

variable {d mine : Digest}

/-- The channel with the digests that a twin's answers taken out. -/
def answered (d : Digest) (c : Channel) : Channel := { c with seam := { c.seam with digests := c.seam.digests.filter (fun x => !sameDigest d x) } }

theorem twinDigest_found (h : c.seam.digests.find? (fun x => sameDigest d x) = some mine) : twinDigest d c = digestCompare mine d (answered d c) := by
  rw [twinDigest, h]
  rfl

theorem twinDigest_unfound (h : c.seam.digests.find? (fun x => sameDigest d x) = none) :
    (twinDigest d c).seam.twinDigests = (d :: c.seam.twinDigests).take 4096 := by
  rw [twinDigest, h]

theorem digestCompare_equal (h : mine.v = d.v) : digestCompare mine d c = c := by
  rw [digestCompare, h, decide_eq_true rfl]
  rfl

theorem digestCompare_differing (h : mine.v ≠ d.v) (hout : mine.out = true) (hfit : mine.fit = true) (hfit' : d.fit = true) :
    digestCompare mine d c = disagree (min mine.cls 6) mine.instant (differing mine d) c := by
  rw [digestCompare, decide_eq_false h, hfit, hfit', hout]
  rfl

/-! ### Alignment and the mirror set -/

theorem alignIn_keeps (ps : Int) : (alignIn ps c).seam.align = Int.tdiv ps 1000 ∧ (alignIn ps c).seam.holdCtl = c.seam.holdCtl := by
  have hwater (i sub v : Nat) (x : SeamSt) : (highWater i sub v { c with seam := x }).seam = x := by simp
  unfold alignIn
  simp only []
  split_ifs <;> simp only [raiseLimited_seam, hwater, and_self]

/-- Where a resynchronising channel stands: its stage, and the boundary at which the set is taken. -/
def stageKept (c : Channel) : Nat × Nat := (c.seam.stage, c.seam.transferAt)

theorem stageKept_readyUpdate : stageKept (readyUpdate c) = stageKept c := by
  have hfold (l : List Nat) (m : BitVec 64) (e : Channel) :
      stageKept (l.foldl (fun c n => raise 46 n n (bit16 0 (m.getLsbD n)) c) e) = stageKept e := by
    induction l generalizing e with
    | nil => rfl
    | cons n l ih => rw [List.foldl_cons, ih, stageKept, stageKept, raise_seam]
  have hactive (e : Channel) : stageKept (enterActive e) = stageKept e := by
    rw [stageKept, stageKept, enterActive, openCuff]
    simp
  unfold readyUpdate
  simp only []
  split_ifs
  · exact (hactive _).trans (hfold _ _ _)
  · exact hfold _ _ _

theorem touches_loadMirrorSlot (m : KMap KeyMirror) (k : Nat) (x : KeyMirror) : Touches slotParts c (loadMirrorSlot m k x c) := by
  unfold loadMirrorSlot
  simp only []
  split <;> simp

theorem touches_loadMirrorKeys (m : KMap KeyMirror) : Touches slotParts c (loadMirrorKeys m c) :=
  (Touches.foldl (f := fun c s => commitSlot s (invalidateSlot s c)) (fun c s => by simp) _ _).trans
    (Touches.foldl (f := fun c (x : Nat × KeyMirror) => loadMirrorSlot m x.1 x.2 c) (fun c x => touches_loadMirrorSlot m x.1 x.2) _ _)

/-- The set loaded: its boundary has passed, the stage stays (12 R393). -/
theorem stageKept_loadMirror (m : MirrorSet) : stageKept (loadMirror m c) = (c.seam.stage, 0) := by
  unfold loadMirror
  simp only []
  split
  · rfl
  · rw [stageKept, touches_loadMirrorKeys m.slots .seam (by decide)]

end

/-- Settles O25: records in turn and spoiled, what each has of effect on its receiver, and a digest that stays unmatched. -/
theorem twinRecords : Obligations.twin_records := by
  unfold Obligations.twin_records
  refine ⟨fun s ch r rest ps h => ?_, fun s ch r rest ps h => ?_, fun s ch rest d at_ h happ => ?_, fun s ch rest req at_ h happ => ?_,
    fun s ch rest n x at_ h happ hx => ?_, fun s ch rest cmd b at_ h happ => ?_, fun s ch rest sv n st sq smp h => ?_,
    fun s ch rest p b st k h hhold => ?_, fun s ch rest l k h htake hopen => ?_, fun s ch rest d mine h hfind hv => ?_,
    fun s ch rest d mine h hfind hv hout hfit hfit' => ?_, fun s ch rest d h hfind => ?_, fun s ch rest at_ ps h => ?_,
    fun s ch rest n at_ v h hnone => ?_, fun s ch rest m h hstage hat => ?_, fun s ch d r h => ?_⟩
  · obtain ⟨_, _, _, _, hi, hpick⟩ := recordCommand_recv true ps h
    exact does_record hi h hpick fun t _ hrest hsup hbr => ⟨hrest, hsup, hbr⟩
  · obtain ⟨_, _, _, _, hi, hpick⟩ := recordCommand_recv false ps h
    exact does_record_spoiled hi h hpick
  · refine does_record (rfl : _ = execHostCommandRecord ch true s) h rfl fun t ht _ _ _ => ?_
    rw [ht]
    simp only [received_applies, happ, if_true, hostCmdIn]
    rfl
  · refine does_record (rfl : _ = execHostCommandRecord ch true s) h rfl fun t ht _ _ _ => ?_
    rw [ht]
    simp only [received_applies, happ, Bool.false_eq_true, if_false]
    rfl
  · refine does_record (rfl : _ = execSleeveLifecycleRecord ch true s) h rfl fun t ht _ _ _ => ?_
    rw [ht]
    have hx' : kGet (received s ch).sleeves n = some x := hx
    simp only [received_applies, happ, if_true]
    exact kGet_setReq (c := received s ch) _ hx'
  · refine does_record (rfl : _ = execKeySlotChangeRecord ch true s) h rfl fun t ht _ _ _ => ?_
    rw [ht]
    simp only [received_applies, happ, if_true, keyChangeIn]
    rfl
  · refine does_record (rfl : _ = execConfirmationRecord ch true s) h rfl fun t ht _ _ _ => ?_
    rw [ht]
    rfl
  · refine does_record (rfl : _ = execCanOutcomeRecord ch true s) h rfl fun t ht _ _ _ => ?_
    rw [ht]
    simp only [received_seam, hhold, if_true]
    rfl
  · refine does_record (exec_finalRecord true h) h rfl fun t ht _ _ _ => ?_
    rw [ht]
    simp only [finalKnown, received_seam, htake, hopen, Bool.false_eq_true, if_false]
  · refine does_record (rfl : _ = execDigestRecord ch true s) h rfl fun t ht _ _ _ => ?_
    rw [ht, twinDigest_found (c := received s ch) hfind, digestCompare_equal hv]
    exact ⟨rfl, rfl⟩
  · refine does_record (rfl : _ = execDigestRecord ch true s) h rfl fun t ht _ _ _ => ?_
    rw [ht, twinDigest_found (c := received s ch) hfind, digestCompare_differing hv hout hfit hfit', (disagree_counts _ _ _).1,
      (disagree_counts _ _ _).2]
    exact ⟨rfl, congrArg (· + 1) (zGet_received_other (by decide))⟩
  · refine does_record (rfl : _ = execDigestRecord ch true s) h rfl fun t ht _ _ _ => ?_
    rw [ht, twinDigest_unfound (c := received s ch) hfind]
    rfl
  · refine does_record (rfl : _ = execAlignmentRecord ch true ps s) h rfl fun t ht _ _ _ => ?_
    rw [ht]
    exact alignIn_keeps ps
  · refine does_record (rfl : _ = execRetainDigestRecord ch true s) h rfl fun t ht _ _ _ => ?_
    rw [ht, twinDigest_unfound (c := received s ch) (by rw [received_seam, hnone]; rfl)]
    rfl
  · refine does_record (rfl : _ = execMirrorSetRecord ch true s) h rfl fun t ht _ _ _ => ?_
    have hkept : stageKept (readyUpdate (loadMirror m (advanceTo (chanOf s ch).seam.transferAt (received s ch)))) = ((chanOf s ch).seam.stage, 0) := by
      rw [stageKept_readyUpdate, stageKept_loadMirror, advanceTo_seam, received_seam]
    have hguard : (received s ch).seam.stage = 3 ∧ (received s ch).seam.transferAt ≠ 0 := ⟨hstage, hat⟩
    rw [ht.trans (if_pos hguard)]
    exact ⟨congrArg Prod.snd hkept, (congrArg Prod.fst hkept).trans hstage⟩
  · refine does_onChan (f := digestUnmatchedC) rfl fun t ht ho => ⟨?_, ho⟩
    have h' : (commitsEnded (chanOf s ch)).seam.digests = d :: r := h
    rw [ht, digestUnmatchedC, h']
    simp only []
    rw [bump_seam, upTo, advanceTo_seam]

end Sys2Proof.Machine
end


section
/-! Resynchronisation: its stages, an image received, realignment and self-diagnosis (12 R376 to R378, R392, R393). -/
namespace Sys2Proof.Machine
open Sys2Proof

theorem does_onChanTwin {i : Instr} {ch : Chan} {f : Channel → Channel → Channel} {s : State} {P : State → Prop}
    (hi : exec i s = onChanTwin ch f s)
    (h : ∀ t, chanOf t ch = f (chanOf s ch.twin) (commitsEnded (chanOf s ch)) → onlyChan ch s t → P t) : Does i s P :=
  ⟨_, hi.trans (onChanTwin_next ch f s), h _ (chanOf_withChan s ch _) (onlyChan_withChan s ch _)⟩

section
variable {c twin : Channel} {n : Nat}

/-! ### Stages -/

theorem toStage_seam (n : Nat) (c : Channel) : (toStage n c).seam = { c.seam with stage := n, stageAt := c.time.up } := by
  rw [toStage, journalAdd_seam]

theorem toStage_boot (n : Nat) (c : Channel) : (toStage n c).boot = c.boot := by
  rw [toStage, journalAdd_boot]

theorem toStage_dict (n : Nat) (c : Channel) : (toStage n c).dict = c.dict := by
  rw [toStage, journalAdd_dict]

theorem toTransfer_seam (c : Channel) :
    (toTransfer c).seam = { c.seam with stage := 3, stageAt := c.time.up, transferAt := p1After 2000000 c } := by
  simp only [toTransfer, toStage_seam]

theorem toConvergence_seam (c : Channel) : (toConvergence c).seam = { c.seam with stage := 4, stageAt := c.time.up, convAt := c.time.up } := by
  simp only [toConvergence, toStage_seam]

theorem takeOverlay_overlay (twin c : Channel) : (takeOverlay twin c).dict.overlay = twin.dict.overlay := rfl

theorem sameManifest_of_bytes (h : signedBytes (committedSlot twin).bytes = signedBytes (committedSlot c).bytes) : sameManifest twin c = true := by
  rw [sameManifest, h, beq_self_eq_true, Bool.true_or]

/-- A stage that has timed out: counted, one restart more. -/
def timedOut (c : Channel) : Channel :=
  let c1 := bump 0x2800 0x20 (upTo (c.seam.stageAt + stageMax c.seam.stage) c)
  { c1 with seam := { c1.seam with restarts := c1.seam.restarts + 1, resyncSleeve := none, transferAt := 0 } }

theorem timedOut_seam (c : Channel) : (timedOut c).seam = { c.seam with restarts := c.seam.restarts + 1, resyncSleeve := none, transferAt := 0 } := by
  rw [timedOut]
  simp only [bump_seam, upTo, advanceTo_seam]

theorem timedOut_boot (c : Channel) : (timedOut c).boot = c.boot := by
  rw [timedOut]
  simp only [bump_boot, upTo, advanceTo_boot]

/-- The channel as the convergence time has passed, and as stage 5 leaves it: nothing more is resynchronised. -/
def convergedAt (c : Channel) : Channel := upTo (c.seam.convAt + entryNat c 0x2800 0x1F 1000 * 1000000) c
def converged (c : Channel) : Channel :=
  raiseLimited 7 0xFF 0 0 0 { c with seam := { c.seam with resyncSleeve := none, fault := none, restarts := 0 } }

theorem converged_seam (c : Channel) : (converged c).seam = { c.seam with resyncSleeve := none, fault := none, restarts := 0 } := by
  rw [converged, raiseLimited_seam]

section
variable (hres : resyncs c = true)
include hres

section
variable (hpres : c.seam.presence = 2)
include hpres

theorem resyncStageComplete_image (h : c.seam.stage = 1) (hsame : sameManifest twin c = true) :
    resyncStageCompleteC twin c = toStage 2 (takeOverlay twin c) := by
  simp [resyncStageCompleteC, hres, hpres, h, hsame]

theorem resyncStageComplete_warm (h : c.seam.stage = 2) (hwarm : warmedUp c = true) : resyncStageCompleteC twin c = toTransfer c := by
  simp [resyncStageCompleteC, hres, hpres, h, hwarm]

theorem resyncStageComplete_set (h : c.seam.stage = 3) (hat : c.seam.transferAt = 0) : resyncStageCompleteC twin c = toConvergence c := by
  simp [resyncStageCompleteC, hres, hpres, h, hat]

end

theorem resyncStageTimeout_eq (h1 : 1 ≤ c.seam.stage) (h4 : c.seam.stage ≤ 4) :
    resyncStageTimeoutC c = if 3 ≤ (timedOut c).seam.restarts then channelFault 10 (timedOut c) else toStage 2 (timedOut c) := by
  have hrange : inRange c.seam.stage 1 4 = true := by simp [inRange, h1, h4]
  rw [resyncStageTimeoutC, hres, hrange]
  rfl

theorem convergenceReached_eq (h : c.seam.stage = 4) : convergenceReachedC c = converged (toStage 5 (convergedAt c)) := by
  have hguard : (!resyncs c || c.seam.stage != 4) = false := by rw [hres, h]; rfl
  exact if_neg (by rw [hguard]; exact Bool.false_ne_true)

theorem convergenceReached_seam (h : c.seam.stage = 4) :
    (convergenceReachedC c).seam.stage = 5 ∧ (convergenceReachedC c).seam.restarts = 0 ∧ (convergenceReachedC c).seam.fault = none := by
  rw [convergenceReached_eq hres h, converged_seam, toStage_seam]
  exact ⟨rfl, rfl, rfl⟩

/-- A channel that resynchronises is in a mode that runs graphs. -/
theorem graphMode_of_resyncs : graphMode c.boot.mode = true := by
  simp only [resyncs, Bool.and_eq_true, Bool.or_eq_true, beq_iff_eq] at hres
  obtain ⟨h | h, -⟩ := hres <;> rw [h] <;> rfl

end

/-! ### The mirror set sent -/

/-- The set does not depend on the present time. -/
theorem mirrorSetOf_advanceTo (only : Option Nat) (t : Nat) (c : Channel) : mirrorSetOf only (advanceTo t (commitsEnded c)) = mirrorSetOf only c := by
  have h (x : TimeSt) : mirrorSetOf only { commitsEnded c with time := x } = mirrorSetOf only c := rfl
  rw [advanceTo_frame]
  exact h _

theorem transferBoundary_out (hlead : leads c = true) (hpres : c.seam.presence = 2) (hstage : twin.seam.stage = 3) (hat : twin.seam.transferAt ≠ 0) :
    (transferBoundaryC twin (commitsEnded c)).seam.out = c.seam.out ++ [.mirrorSet (mirrorSetOf twin.seam.resyncSleeve c)] := by
  have hlead' : leads (commitsEnded c) = true := hlead
  have hpost (r : MRec) (d : Channel) (h : d.seam.presence = 2) : (post r d).seam.out = d.seam.out ++ [r] := by
    rw [post, if_pos h, bump_seam]
  unfold transferBoundaryC
  rw [if_pos (by simp [hlead', hpres, hstage, hat])]
  simp only []
  rw [hpost _ _ (by rw [advanceTo_seam]; exact hpres), advanceTo_seam, mirrorSetOf_advanceTo]
  rfl

/-! ### An image received -/

/-- The image of the twin that the staging slot takes. -/
def imageTaken (twin c : Channel) : Channel := setSlot (1 - c.slots.committed) ⟨(committedSlot twin).bytes, 6⟩ c

theorem resyncImageReceived_same (h : sameManifest twin c = true) : resyncImageReceivedC twin c = c := by
  simp [resyncImageReceivedC, h]

section
variable (hmode : c.boot.mode = .standby) (hhold : c.seam.holdCtl = false) (hpres : c.seam.presence = 2) (hstage : c.seam.stage = 1)
include hmode hhold hpres hstage

theorem resyncImageReceived_pwarn (h : sameManifest twin c = false) (hw : c.psu.pwarn = true) :
    resyncImageReceivedC twin c = imageStatus false 4 (imageTaken twin c) := by
  simp [resyncImageReceivedC, hmode, hhold, hpres, hstage, h, hw, imageTaken]

/-- What an image received comes to, by what its activation came to (02 R52, R66; 21 R631). -/
def imageActivated : Activated → Channel
  | .refused k => k
  | .failed r k => let h := activationHold r k; { h with seam := { h.seam with stage := 0 } }
  | .loaded k => k

theorem resyncImageReceived_activated (h : sameManifest twin c = false) (hw : c.psu.pwarn = false) (hn : 1 - c.slots.committed = n) :
    resyncImageReceivedC twin c = imageActivated (activateSlot n twin.slots.intentOperate
      (imageStatus false (imageIntact c (committedSlot twin).bytes).1 (setSlot n ⟨(committedSlot twin).bytes, 6⟩ c))) := by
  subst hn
  have hguard : (c.boot.mode != .standby || c.seam.holdCtl || c.seam.presence != 2 || c.seam.stage != 1 || sameManifest twin c) = false := by
    simp [hmode, hhold, hpres, hstage, h]
  unfold resyncImageReceivedC
  generalize activateSlot = act
  rw [hguard, hw]
  simp only [Bool.false_eq_true, if_false]
  rfl

end

theorem imageStatus_slots (st : Nat) (c : Channel) :
    (imageStatus false st c).slots = (setSlot (1 - c.slots.committed) { stagingSlot c with status := st } c).slots := by
  unfold imageStatus
  simp only [Bool.false_eq_true, if_false, journalAdd_slots]
  rfl

theorem stagingSlot_eq (c : Channel) : stagingSlot c = slotOf c (1 - c.slots.committed) := by
  unfold stagingSlot slotOf
  by_cases h : c.slots.committed = 0
  · rw [if_pos h, if_neg (by omega)]
  · rw [if_neg h, if_pos (by omega)]

theorem slotOf_setSlot (n : Nat) (x : Slot) (c : Channel) : slotOf (setSlot n x c) n = x := by
  unfold slotOf setSlot
  split_ifs <;> rfl

theorem slotOf_imageTaken (st : Nat) :
    slotOf (imageStatus false st (imageTaken twin c)) (1 - c.slots.committed) = ⟨(committedSlot twin).bytes, st⟩ := by
  have hcom : (imageTaken twin c).slots.committed = c.slots.committed := setSlot_committed _ _ _
  have hcongr {a b : Channel} (h : a.slots = b.slots) (n : Nat) : slotOf a n = slotOf b n := by rw [slotOf, slotOf, h]
  rw [hcongr (imageStatus_slots _ _), hcom, slotOf_setSlot, stagingSlot_eq, hcom, imageTaken, slotOf_setSlot]

theorem imageStatus_committed (st : Nat) : (imageStatus false st (imageTaken twin c)).slots.committed = c.slots.committed := by
  rw [imageStatus_slots, setSlot_committed]
  exact setSlot_committed _ _ _

/-! ### Realignment and self-diagnosis -/

/-- The number of disagreements that stayed unresolved. -/
def unresolvedCount (c : Channel) : U64 := zGet c.ctr (od 0x2800 0x0D)

theorem unresolvedCount_of_counts {K : List Nat} {d : Channel} (h : Counts K c.ctr d.ctr) (hK : od 0x2800 0x0D ∉ K) :
    unresolvedCount d = unresolvedCount c := h _ hK

theorem unresolvedCount_toStage (n : Nat) (c : Channel) : unresolvedCount (toStage n c) = unresolvedCount c := by
  have hjournal (x : SeamSt) : Counts [od 0x2F00 0x14] c.ctr (journalAdd 8 n 0xFF [] { c with seam := x }).ctr :=
    (counts_journalAdd 8 n 0xFF [] (List.mem_singleton_self _)).2 (counts_refl _ c.ctr)
  exact unresolvedCount_of_counts (hjournal _) (by decide)

/-- The boundary is generalised: it must not be evaluated. -/
theorem toTransfer_fields (c : Channel) : (toTransfer c).ctr = (toStage 3 c).ctr ∧ (toTransfer c).boot = (toStage 3 c).boot := by
  unfold toTransfer
  generalize p1After 2000000 c = t
  exact ⟨rfl, rfl⟩

theorem unresolvedCount_toTransfer (c : Channel) : unresolvedCount (toTransfer c) = unresolvedCount c := by
  rw [← unresolvedCount_toStage 3 c, unresolvedCount, (toTransfer_fields c).1, unresolvedCount]

/-- What a sleeve's resynchronisation leaves as it is. -/
theorem sleeveResync_keeps (n : Nat) (c : Channel) : (sleeveResync n c).seam.realign = c.seam.realign ∧
    (sleeveResync n c).seam.diagnosing = c.seam.diagnosing ∧ (sleeveResync n c).boot = c.boot ∧
      unresolvedCount (sleeveResync n c) = unresolvedCount c := by
  have htransfer (x : Channel) : (toTransfer x).boot = x.boot := (toTransfer_fields x).2.trans (toStage_boot 3 x)
  unfold sleeveResync
  split
  · exact ⟨rfl, rfl, rfl, rfl⟩
  · simp only [toTransfer_seam, htransfer, unresolvedCount_toTransfer, true_and]
    rfl

theorem realignmentBoundary_done {k : Nat} (h : kGet c.seam.realign n = some k) : kGet (realignmentBoundaryC n c).seam.realign n = none := by
  unfold realignmentBoundaryC
  rw [h]
  simp only []
  rw [(sleeveResync_keeps _ _).1]
  exact kGet_kDel_same _ _

theorem relinquish_diagnosing (code : Nat) (c : Channel) : (relinquish code c).seam.diagnosing = c.seam.diagnosing := by
  have hpost (r : MRec) (x : Channel) : (post r x).seam.diagnosing = x.seam.diagnosing := by
    unfold post
    split <;> rfl
  unfold relinquish
  split
  · simp only []
    rw [raiseLimited_seam, episode_seam, journalAdd_seam, bump_seam, hpost]
    rfl
  · rfl

/-- A fault that no restart answers leaves the self-diagnoses that go on. -/
theorem channelFault_diagnosing {code : Nat} (hcode : faultRestarts code = false) (c : Channel) :
    (channelFault code c).seam.diagnosing = c.seam.diagnosing := by
  have hnoted : (relinquish code (setRo 0x2800 0x09 code (raise 2 0xFF code 0 (episode 0x13 [BitVec.ofNat 8 code] c)))).seam.diagnosing =
      c.seam.diagnosing := by
    rw [relinquish_diagnosing, setRo_seam, raise_seam, episode_seam]
  unfold channelFault
  rw [hcode]
  simp only [Bool.false_eq_true, if_false]
  generalize relinquish code _ = e at hnoted ⊢
  split
  · simp only [journalAdd_seam, enterMode_seam]
    exact hnoted
  · simp only [journalAdd_seam, enterMode_seam]
    exact hnoted
  · exact hnoted

/-- The oldest self-diagnosis taken off. -/
def diagnosed (r : List (Nat × Nat)) (c : Channel) : Channel := { c with seam := { c.seam with diagnosing := r } }

theorem testPass_fields (c : Channel) : (testPass c).seam = c.seam ∧ (testPass c).boot = c.boot ∧ unresolvedCount (testPass c) = unresolvedCount c :=
  ⟨rfl, rfl, zGet_bump_other _ _ _ (by decide)⟩

section
variable {d : Nat × Nat} {r : List (Nat × Nat)} (h : c.seam.diagnosing = d :: r)
include h

/-- The twin has findings of its own. -/
theorem selfDiagnosis_twin (l : Nat) (other : List Nat) :
    (selfDiagnosisCompleteC [] (l :: other) twin c).seam.diagnosing = r ∧
      (lseBehind c twin = [] → (selfDiagnosisCompleteC [] (l :: other) twin c).boot.mode = c.boot.mode) := by
  have hbehind : lseBehind { c with seam := { c.seam with diagnosing := r } } twin = lseBehind c twin := rfl
  unfold selfDiagnosisCompleteC
  rw [h]
  simp only [List.isEmpty_nil, Bool.not_true, Bool.false_eq_true, if_false, hbehind]
  cases hb : lseBehind c twin with
  | cons k ks =>
    refine ⟨?_, fun hnone => absurd hnone (List.cons_ne_nil _ _)⟩
    simp only []
    split
    · rw [channelFault_diagnosing (by decide), (testPass_fields _).1]
    · rw [(sleeveResync_keeps _ _).2.1, (testPass_fields _).1]
  | nil => exact ⟨rfl, fun _ => rfl⟩

end

end

end Sys2Proof.Machine
end


section
/-! The count of unresolved disagreements: nothing that a restart through BOOT does moves it (12 R378, R379; 22 R642). -/
namespace Sys2Proof.Machine
open Sys2Proof

section
variable {c d : Channel}

theorem unresolvedCount_of_ctr (h : d.ctr = c.ctr) : unresolvedCount d = unresolvedCount c := by
  rw [unresolvedCount, unresolvedCount, h]

theorem unresolvedCount_bump {i sub : Nat} (h : od 0x2800 0x0D ≠ od i sub) (c : Channel) : unresolvedCount (bump i sub c) = unresolvedCount c :=
  zGet_bump_other _ _ _ h

theorem unresolvedCount_journalDrain (l : List JRec) (c : Channel) : unresolvedCount (journalDrain l c) = unresolvedCount c :=
  zGet_journalDrain_other _ _ (by decide)

theorem unresolvedCount_journalAdd (cat item sl : Nat) (l : List Byte) (c : Channel) : unresolvedCount (journalAdd cat item sl l c) = unresolvedCount c :=
  unresolvedCount_journalDrain _ _

theorem unresolvedCount_raise {src : Nat} (h : od 0x2800 0x0D ∉ raiseCounters src) (sl obj v : Nat) (c : Channel) :
    unresolvedCount (raise src sl obj v c) = unresolvedCount c := zGet_raiseNow_other _ _ _ _ _ h

theorem unresolvedCount_raiseLimited {src : Nat} (h : od 0x2800 0x0D ∉ raiseCounters src) (sl obj v key : Nat) (c : Channel) :
    unresolvedCount (raiseLimited src sl obj v key c) = unresolvedCount c := zGet_raiseLimited_other _ _ _ _ _ _ h

theorem unresolvedCount_episode (src : Nat) (l : List Byte) (c : Channel) : unresolvedCount (episode src l c) = unresolvedCount c := by
  have hj := unresolvedCount_journalAdd 7 src 0xFF [] c
  unfold episode
  simp only []
  split_ifs
  · exact hj
  · rw [unresolvedCount_raiseLimited (by decide), unresolvedCount_bump (by decide), hj]
  · exact hj

/-! ### Batches -/

theorem unresolvedCount_commitCheck (ec : Nat) (c : Channel) : unresolvedCount (commitCheck 2 0xFF ec c).2 = unresolvedCount c := by
  cases h : holdupOk c.psu c.epUJ ec with
  | true =>
    rw [commitCheck_passed h]
    exact unresolvedCount_bump (by decide) c
  | false =>
    obtain ⟨l, hl⟩ := commitCheck_refused (kind := 2) (sl := 0xFF) h
    rw [hl]
    simp only []
    rw [unresolvedCount_raise (by decide), unresolvedCount_episode, unresolvedCount_bump (by decide), unresolvedCount_bump (by decide)]

theorem unresolvedCount_writeEpisode (x : (Nat × BitVec 4) × Channel) (e : QEpisode) : unresolvedCount (writeEpisode x e).2 = unresolvedCount x.2 := by
  have hsrc : od 0x2800 0x0D ≠ od 0x2F03 e.src := by simp only [od]; omega
  unfold writeEpisode
  simp only []
  split
  · split
    · split
      · split <;> rfl
      · rfl
    · split <;> rfl
  · split
    · rw [unresolvedCount_raiseLimited (by decide), unresolvedCount_bump (by decide), unresolvedCount_bump hsrc]
    · rfl

theorem unresolvedCount_writeEpisodes (l : List QEpisode) (x : (Nat × BitVec 4) × Channel) :
    unresolvedCount (l.foldl writeEpisode x).2 = unresolvedCount x.2 := by
  induction l generalizing x with
  | nil => rfl
  | cons e l ih => rw [List.foldl_cons, ih, unresolvedCount_writeEpisode]

/-- The episodes of a batch, each written in turn. -/
def episodesWritten (c : Channel) : Channel :=
  (c.ledger.queue.foldl writeEpisode
    ((((headerInForce c.ledgerNv).getD headerBlank).used, ((headerInForce c.ledgerNv).getD headerBlank).resv), c)).2

/-- A batch in parts. What it writes of the Ledger is left open: the ceiling must not be evaluated. -/
theorem batchWrite_eq (c : Channel) : ∃ w x y, batchWrite c =
    bump 0x2F00 0x09 (journalDrain w { episodesWritten c with ledgerNv := x, ledger := y }) := by
  unfold batchWrite
  exact ⟨_, _, _, rfl⟩

theorem unresolvedCount_batchWrite (c : Channel) : unresolvedCount (batchWrite c) = unresolvedCount c := by
  obtain ⟨w, x, y, h⟩ := batchWrite_eq c
  have hpart : unresolvedCount { episodesWritten c with ledgerNv := x, ledger := y } = unresolvedCount (episodesWritten c) := rfl
  rw [h, unresolvedCount_bump (by decide), unresolvedCount_journalDrain, hpart]
  exact unresolvedCount_writeEpisodes _ _

theorem unresolvedCount_batchTry (c : Channel) : unresolvedCount (batchTry c) = unresolvedCount c := by
  have hpart (y : LedgerSt) (e : Channel) : unresolvedCount { e with ledger := y } = unresolvedCount e := rfl
  rw [batchTry_eq]
  split_ifs
  · rw [unresolvedCount_batchWrite, unresolvedCount_commitCheck]
  · rw [unresolvedCount_raiseLimited (by decide), unresolvedCount_bump (by decide), hpart, unresolvedCount_commitCheck]

/-! ### A restart -/

theorem unresolvedCount_enterMode (m : Mode) (c : Channel) : unresolvedCount (enterMode m c) = unresolvedCount c :=
  unresolvedCount_of_counts (K := modeCounters) ((counts_enterMode m (List.Subset.refl _)).2 (counts_refl _ _)) (by decide)

theorem unresolvedCount_injEndAll (c : Channel) : unresolvedCount (injEndAll c) = unresolvedCount c := by
  refine foldl_keeps (g := unresolvedCount) (fun e x => ?_) _ c
  unfold injEnd
  split
  · rfl
  · simp only []
    split
    · rw [unresolvedCount_raise (by decide)]
      rfl
    · rfl

theorem unresolvedCount_restartFrom (r : Channel) (cause : Nat) (c : Channel) : unresolvedCount (restartFrom r cause c) = unresolvedCount c := by
  have hresumed : unresolvedCount (resumed r c cause) = unresolvedCount c := (unresolvedCount_of_ctr rfl).trans (unresolvedCount_injEndAll c)
  rcases restartFrom_eq r c cause with h | h <;> rw [h, unresolvedCount_enterMode]
  · exact hresumed
  · exact hresumed

theorem unresolvedCount_post (r : MRec) (c : Channel) : unresolvedCount (post r c) = unresolvedCount c := by
  unfold post
  split
  · exact unresolvedCount_bump (by decide) _
  · rfl

theorem unresolvedCount_relinquish (code : Nat) (c : Channel) : unresolvedCount (relinquish code c) = unresolvedCount c := by
  unfold relinquish
  split
  · simp only []
    rw [unresolvedCount_raiseLimited (by decide), unresolvedCount_episode, unresolvedCount_journalAdd, unresolvedCount_bump (by decide),
      unresolvedCount_post]
    rfl
  · rfl

theorem unresolvedCount_restartBoot (cause code : Nat) (c : Channel) : unresolvedCount (restartBoot cause code c) = unresolvedCount c := by
  rw [restartBoot_eq, unresolvedCount_restartFrom, closedDown]
  split
  · rw [unresolvedCount_batchTry, unresolvedCount_relinquish]
  · exact unresolvedCount_relinquish _ _

theorem unresolvedCount_faultNoted (code : Nat) (c : Channel) : unresolvedCount (faultNoted code c) = unresolvedCount c := by
  rw [faultNoted, unresolvedCount_of_ctr (setRo_ctr _ _ _ _), unresolvedCount_raise (by decide), unresolvedCount_episode]

/-- A fault that a restart answers, in a mode that runs graphs. -/
theorem unresolvedCount_channelFault {code : Nat} (hcode : faultRestarts code = true) (h : graphMode c.boot.mode = true) :
    unresolvedCount (channelFault code c) = unresolvedCount c := by
  rw [channelFault_restarts hcode, restartFault_graphMode code (by rw [faultNoted_boot]; exact h), unresolvedCount_restartBoot]
  exact unresolvedCount_faultNoted code c

/-! ### A disagreement that stays unresolved -/

theorem unresolvedNow_counts (n : Nat) (c : Channel) : unresolvedCount (unresolvedNow n c) = unresolvedCount c + 1 := by
  have hone : unresolvedCount (bump 0x2800 0x0D c) = unresolvedCount c + 1 := zGet_bump_same _ _ _
  unfold unresolvedNow
  simp only []
  split
  · exact hone
  · generalize List.filter _ _ = l
    split_ifs with hthird
    · rw [unresolvedCount_channelFault (by decide) (by rw [hthird.2]; rfl)]
      exact hone
    · rw [(sleeveResync_keeps _ _).2.2.2]
      exact hone

theorem unresolvedNow_holding (n : Nat) (h : c.seam.holdCtl = true) : unresolvedNow n c = bump 0x2800 0x0D c := by
  rw [unresolvedNow]
  simp only []
  exact if_pos h

/-- Neither channel has a finding: the disagreement stays unresolved. -/
theorem selfDiagnosis_unresolved {twin : Channel} {x : Nat × Nat} {r : List (Nat × Nat)} (h : c.seam.diagnosing = x :: r)
    (hnone : lseBehind c twin = []) (hnone' : lseBehind twin c = []) :
    selfDiagnosisCompleteC [] [] twin c = unresolvedNow x.1 (testPass { c with seam := { c.seam with diagnosing := r } }) := by
  have hbehind : lseBehind { c with seam := { c.seam with diagnosing := r } } twin = [] := hnone
  have hbehind' : lseBehind twin { c with seam := { c.seam with diagnosing := r } } = [] := hnone'
  unfold selfDiagnosisCompleteC
  rw [h]
  simp only [List.isEmpty_nil, Bool.not_true, Bool.false_eq_true, if_false, hbehind, hbehind', Bool.or_self]

end

/-! ### The obligation, clause by clause -/

section
variable {s : State} {ch : Chan}

theorem resyncStageTimeout_restarts (hres : resyncs (chanOf s ch) = true) (h1 : 1 ≤ (chanOf s ch).seam.stage) (h4 : (chanOf s ch).seam.stage ≤ 4)
    (hfew : (chanOf s ch).seam.restarts < 2) :
    Does (.resyncStageTimeout ch) s (fun t => (chanOf t ch).seam.stage = 2 ∧ (chanOf t ch).seam.restarts = (chanOf s ch).seam.restarts + 1 ∧
      (chanOf t ch).boot.mode = (chanOf s ch).boot.mode ∧ onlyChan ch s t) := by
  refine does_onChan (f := resyncStageTimeoutC) rfl fun t ht ho => ?_
  obtain ⟨c, hc⟩ : ∃ c, commitsEnded (chanOf s ch) = c := ⟨_, rfl⟩
  have hseam : c.seam = (chanOf s ch).seam := hc ▸ rfl
  have hboot : c.boot = (chanOf s ch).boot := hc ▸ rfl
  rw [ht, hc, resyncStageTimeout_eq (c := c) (hc ▸ hres) (hseam ▸ h1) (hseam ▸ h4), if_neg (by rw [timedOut_seam, hseam]; simp only []; omega),
    toStage_seam, toStage_boot, timedOut_seam, timedOut_boot, hseam, hboot]
  exact ⟨rfl, rfl, rfl, ho⟩

theorem resyncStageTimeout_fails (hres : resyncs (chanOf s ch) = true) (h1 : 1 ≤ (chanOf s ch).seam.stage) (h4 : (chanOf s ch).seam.stage ≤ 4)
    (hmany : 2 ≤ (chanOf s ch).seam.restarts) :
    Does (.resyncStageTimeout ch) s (fun t => (chanOf t ch).boot.mode = .boot ∧ (chanOf t ch).boot.cause = 4) := by
  refine does_onChan (f := resyncStageTimeoutC) rfl fun t ht _ => ?_
  obtain ⟨c, hc⟩ : ∃ c, commitsEnded (chanOf s ch) = c := ⟨_, rfl⟩
  have hseam : c.seam = (chanOf s ch).seam := hc ▸ rfl
  have hgraph : graphMode (timedOut c).boot.mode = true := by
    rw [timedOut_boot]
    exact graphMode_of_resyncs (hc ▸ hres)
  rw [ht, hc, resyncStageTimeout_eq (c := c) (hc ▸ hres) (hseam ▸ h1) (hseam ▸ h4), if_pos (by rw [timedOut_seam, hseam]; simp only []; omega),
    (channelFault_graphMode (code := 10) (by decide) hgraph).1]
  exact ⟨rfl, rfl⟩

section
variable (hmode : (chanOf s ch).boot.mode = .standby) (hhold : (chanOf s ch).seam.holdCtl = false) (hpres : (chanOf s ch).seam.presence = 2)
  (hstage : (chanOf s ch).seam.stage = 1)
include hmode hhold hpres hstage

theorem resyncImageReceived_taken (hw : (chanOf s ch).psu.pwarn = true) :
    Does (.resyncImageReceived ch) s (fun t => if sameManifest (chanOf s ch.twin) (chanOf s ch) then (chanOf t ch).slots = (chanOf s ch).slots
      else slotOf (chanOf t ch) (1 - (chanOf s ch).slots.committed) = ⟨(committedSlot (chanOf s ch.twin)).bytes, 4⟩) := by
  refine does_onChanTwin (f := resyncImageReceivedC) rfl fun t ht _ => ?_
  rw [ht]
  split
  next h => rw [resyncImageReceived_same (c := commitsEnded (chanOf s ch)) h]; rfl
  next h =>
    rw [resyncImageReceived_pwarn (c := commitsEnded (chanOf s ch)) hmode hhold hpres hstage (Bool.eq_false_iff.2 h) hw]
    exact slotOf_imageTaken 4

theorem resyncImageReceived_activates (hw : (chanOf s ch).psu.pwarn = false) :
    Does (.resyncImageReceived ch) s (fun t =>
      let n := 1 - (chanOf s ch).slots.committed
      let b := (committedSlot (chanOf s ch.twin)).bytes
      let c := commitsEnded (chanOf s ch)
      if sameManifest (chanOf s ch.twin) (chanOf s ch) then (chanOf t ch).slots = (chanOf s ch).slots
      else match activateSlot n (chanOf s ch.twin).slots.intentOperate (imageStatus false (imageIntact c b).1 (setSlot n ⟨b, 6⟩ c)) with
        | .loaded _ => (chanOf t ch).slots.committed = n ∧ (chanOf t ch).slots.intentOperate = (chanOf s ch.twin).slots.intentOperate
        | .failed r _ => (chanOf t ch).boot.mode = .hold ∧ (chanOf t ch).boot.holdReason = r ∧ (chanOf t ch).seam.stage = 0
        | .refused _ => (chanOf t ch).slots.committed = (chanOf s ch).slots.committed) := by
  refine does_onChanTwin (f := resyncImageReceivedC) rfl fun t ht _ => ?_
  have hslots := activateSlot_slots (1 - (chanOf s ch).slots.committed) (chanOf s ch.twin).slots.intentOperate
    (imageStatus false (imageIntact (commitsEnded (chanOf s ch)) (committedSlot (chanOf s ch.twin)).bytes).1
      (setSlot (1 - (chanOf s ch).slots.committed) ⟨(committedSlot (chanOf s ch.twin)).bytes, 6⟩ (commitsEnded (chanOf s ch))))
  have hcom : (imageStatus false (imageIntact (commitsEnded (chanOf s ch)) (committedSlot (chanOf s ch.twin)).bytes).1
      (setSlot (1 - (chanOf s ch).slots.committed) ⟨(committedSlot (chanOf s ch.twin)).bytes, 6⟩ (commitsEnded (chanOf s ch)))).slots.committed =
        (chanOf s ch).slots.committed := imageStatus_committed (twin := chanOf s ch.twin) (c := commitsEnded (chanOf s ch)) _
  rw [ht]
  simp only []
  split
  next h => rw [resyncImageReceived_same (c := commitsEnded (chanOf s ch)) h]; rfl
  next h =>
    rw [resyncImageReceived_activated (c := commitsEnded (chanOf s ch)) (n := 1 - (chanOf s ch).slots.committed) hmode hhold hpres hstage
      (Bool.eq_false_iff.2 h) hw rfl]
    generalize activateSlot _ _ _ = a at hslots ⊢
    cases a with
    | loaded k => exact hslots
    | failed r k =>
      have hboot := enterHold_boot r (dropControl (unloadImage (journalAdd 2 r 0xFF [] k)))
      exact ⟨congrArg BootSt.mode hboot, congrArg BootSt.holdReason hboot, rfl⟩
    | refused k => exact Eq.trans hslots hcom

end

end

/-- Settles O26: the stages and their timeouts, the set sent, an image received, realignment, and what a self-diagnosis comes to. -/
theorem resynchronisation : Obligations.resynchronisation := by
  unfold Obligations.resynchronisation
  refine ⟨fun s ch hres hpres hstage hbytes => ?_, fun s ch hres hpres hstage hwarm => ?_, fun s ch hres hpres hstage hat => ?_,
    fun s ch hres h1 h4 hfew => resyncStageTimeout_restarts hres h1 h4 hfew, fun s ch hres h1 h4 hmany => resyncStageTimeout_fails hres h1 h4 hmany,
    fun s ch hres hstage => ?_, fun s ch hlead hpres hstage hat => ?_,
    fun s ch hmode hhold hpres hstage hw => resyncImageReceived_taken hmode hhold hpres hstage hw,
    fun s ch hmode hhold hpres hstage hw => resyncImageReceived_activates hmode hhold hpres hstage hw,
    fun s ch n k h => ?_, fun s ch d r l other h => ?_, fun s ch d r h hnone hnone' => ?_⟩
  · refine does_onChanTwin (f := resyncStageCompleteC) rfl fun t ht ho => ?_
    rw [ht, resyncStageComplete_image (c := commitsEnded (chanOf s ch)) hres hpres hstage (sameManifest_of_bytes hbytes), toStage_seam, toStage_dict]
    exact ⟨rfl, takeOverlay_overlay _ _, ho⟩
  · refine does_onChanTwin (f := resyncStageCompleteC) rfl fun t ht ho => ?_
    rw [ht, resyncStageComplete_warm (c := commitsEnded (chanOf s ch)) hres hpres hstage hwarm, toTransfer_seam]
    exact ⟨rfl, rfl, ho⟩
  · refine does_onChanTwin (f := resyncStageCompleteC) rfl fun t ht ho => ?_
    rw [ht, resyncStageComplete_set (c := commitsEnded (chanOf s ch)) hres hpres hstage hat, toConvergence_seam]
    exact ⟨rfl, rfl, ho⟩
  · refine does_onChan (f := convergenceReachedC) rfl fun t ht ho => ?_
    obtain ⟨hfive, hzero, hnone⟩ := convergenceReached_seam (c := commitsEnded (chanOf s ch)) hres hstage
    rw [ht]
    exact ⟨hfive, hzero, hnone, ho⟩
  · refine does_onChanTwin (f := transferBoundaryC) rfl fun t ht ho => ?_
    rw [ht]
    exact ⟨transferBoundary_out hlead hpres hstage hat, ho⟩
  · refine does_onChan (f := realignmentBoundaryC n) rfl fun t ht ho => ?_
    rw [ht]
    exact ⟨realignmentBoundary_done (c := commitsEnded (chanOf s ch)) h, ho⟩
  · refine does_onChanTwin (f := selfDiagnosisCompleteC [] (l :: other)) rfl fun t ht _ => ?_
    rw [ht]
    exact selfDiagnosis_twin (c := commitsEnded (chanOf s ch)) h l other
  · refine does_onChanTwin (f := selfDiagnosisCompleteC [] []) rfl fun t ht _ => ?_
    have hgone := selfDiagnosis_unresolved (c := commitsEnded (chanOf s ch)) h hnone hnone'
    rw [ht, hgone]
    refine ⟨(unresolvedNow_counts _ _).trans (congrArg (· + 1) (testPass_fields _).2.2), fun hhold => ?_⟩
    rw [unresolvedNow_holding _ (by exact hhold)]
    exact ⟨rfl, rfl⟩

end Sys2Proof.Machine
end
